-- ==== Sys2Proof/Word.lean ====
section
/-! DEFINITION. The byte of a wire or a memory, and the units of time: physical time in ns, Lay time in 1/65,536 ns (R75, R77). -/

namespace Sys2Proof

/-- A byte of a message, a cell, a memory word or a flash page. -/
abbrev Byte := BitVec 8

/-- A Lay time as a count of 1/65,536 ns since the epoch: Table 3.1 with its three fields joined. -/
abbrev Lay := Nat

/-- Units of `Lay` in one nanosecond (Table 3.1, FRACTION). -/
abbrev layNs : Nat := 65536

/-- Units of `Lay` in one second. -/
abbrev laySec : Nat := 1000000000 * layNs

/-- The 0.25 ns grid of R77, in units of `Lay`. -/
abbrev layGrid : Nat := 16384

end Sys2Proof
end

