-- ==== Sys2Proof/Syntax.lean ====
section
/-! DEFINITION. The commands of the block: one constructor per row of spec/opcode_table.json, with the operands that the row's rules name (log entry 7). -/

namespace Sys2Proof

/-- The path by which a Corrix message reaches the part (R28, R53, R54): UDP with its source address and port and the port of the part that it was sent to, the host SPI target, or a Hawser port
named as fwd_up_port names ports (die in bits [7:4], lowest lane in [3:0]) with the ENTRY and HOPS the cell carried (R148, R172). -/
inductive Path where
  | udp (addr port dport : Nat)
  | spi
  | hawser (port entry hops : Nat)
  deriving DecidableEq, Repr, Inhabited

/-- A Corrix message less its opcode (Table 2.1), the path it came by and how many requests were waiting at die 0 when it arrived (R51). -/
structure Msg where
  via     : Path
  waiting : Nat := 0
  ver     : Nat := 1
  flags   : Nat := 0
  status  : Nat := 0
  seq     : Nat
  session : Nat
  target  : Nat
  index   : Nat
  sub     : Nat
  ty      : Nat
  len     : Nat
  payload : List Byte
  crc     : Nat
  deriving DecidableEq, Repr, Inhabited

/-- A Hawser cell (R146): the header fields of Table 5.1 (`spec` is SPEC, header bits [53:18]; `rsv` is the reserved bit [7]), the 244 payload bytes and the CRC it carries. -/
structure Cell where
  cls     : Nat
  kind    : Nat
  node    : Nat
  spec    : Nat := 0
  hops    : Nat := 0
  payload : List Byte
  crc     : Nat
  rsv     : Bool := false
  deriving DecidableEq, Repr, Inhabited

/-- A block that comes up from a lane, other than a marker (R119, R121): the lane within its die, its header bit (true for a data block), its 32 bytes, and whether its codeword
could not be corrected. -/
structure Block where
  lane    : Nat
  data    : Bool
  bytes   : List Byte
  errored : Bool := false
  deriving DecidableEq, Repr, Inhabited

/-- An alignment marker as a lane receives it: its 32 bytes, and the parity of Table 4.2 taken over the blocks received on the lane since the one before. -/
structure RxMarker where
  bytes : List Byte
  bip   : Nat
  deriving DecidableEq, Repr, Inhabited

/-- An alignment marker's fields (Table 4.2). -/
structure Marker where
  node      : Nat
  die       : Nat
  lane      : Nat
  groupPos  : Nat
  groupSize : Nat
  rxOk      : Nat
  txMap     : Nat
  sleepAnnounce : Bool
  feLoopReq : Bool
  nodeValid : Bool
  seq       : Nat
  bip       : Nat
  deriving DecidableEq, Repr, Inhabited

/-- What an announcing master says of its grandmaster: the data that the default BMCA compares (Table 3.4), whether it declares the PTP timescale, and the UTC offset. -/
structure PtpMaster where
  priority1 : Nat
  clockClass : Nat
  accuracy  : Nat
  variance  : Nat
  priority2 : Nat
  gm        : Nat
  steps     : Nat
  ptpTimescale : Bool
  utcOffset : Int
  deriving DecidableEq, Repr, Inhabited

/-- A received PTP message of the supported subset (Table 3.4), or one that uses a feature not listed. Times are in Lay units of the domain's time, corrections applied; intervals are those that
the message states, in ns. -/
inductive PtpMsg where
  | announce (m : PtpMaster) (intervalNs : Nat)
  | sync (seqId : Nat) (twoStep : Bool) (origin intervalNs : Nat)
  | followUp (seqId origin : Nat)
  | delayResp (seqId receipt : Nat)
  | pdelayReq (seqId : Nat)
  | pdelayResp (seqId : Nat) (twoStep : Bool) (receipt origin : Nat)
  | pdelayRespFollowUp (seqId origin : Nat)
  | unsupported
  deriving DecidableEq, Repr, Inhabited

/-- The port (1-9), domain, transport (0 Ethernet, 1 UDP) and source port identity a PTP message came by (R109). -/
structure PtpWire where
  port      : Nat
  domain    : Nat
  transport : Nat
  source    : Nat
  deriving DecidableEq, Repr, Inhabited

/-- A reference that its unit reports lost, and whether FREF_IN has stopped (R84). -/
structure RefLoss where
  code        : Nat
  frefStopped : Bool
  deriving DecidableEq, Repr, Inhabited

/-- A die's Braid link to die 0: lost, or back in service (R105). -/
structure BraidLink where
  die    : Nat
  linked : Bool
  deriving DecidableEq, Repr, Inhabited

/-- An ST 2110-20 packet as the receiver reads it: the die whose 100GbE port it comes by, its IPv4 destination and UDP port, its sender, the RTP payload type, extended sequence number, frame
(RTP timestamp), marker bit, whether the other features that it shows are those of Table 7.4, and its samples as (sample index, code) pairs. -/
structure Pkt where
  die     : Nat
  dest    : Nat
  port    : Nat
  sender  : Nat
  pt      : Nat
  seq     : Nat
  time    : Nat
  marker  : Bool
  good    : Bool
  samples : List (Nat × Nat)
  deriving DecidableEq, Repr, Inhabited

/-- A CSI-2 packet header: virtual channel 0-3, whether extended virtual-channel bits are set, what its ECC found (0 good, 1 corrected, 2 uncorrectable) (Table 8.1). -/
structure CsiHead where
  vc    : Nat
  extVc : Bool
  ecc   : Nat
  deriving DecidableEq, Repr, Inhabited

/-- A CSI-2 packet that is no Frame Start or Frame End: its header's extended bits and ECC as above, its data type (below 0x10 a short packet), word count, payload checksum, the samples of its
line, and whether DRAM has fallen behind, so that the receive buffer has no room for it. -/
structure CsiPkt where
  extVc    : Bool
  ecc      : Nat
  dt       : Nat
  wc       : Nat
  crcOk    : Bool
  overflow : Bool
  samples  : List Nat
  deriving DecidableEq, Repr, Inhabited

/-- One requester port's SRAM request in a cycle (R349): a read, or a write of one 32-byte word. -/
structure SramReq where
  port  : Nat
  addr  : Nat
  data  : Option (List Byte)
  deriving DecidableEq, Repr, Inhabited

/-- A request a DRAM master presents (R366, R367): reads or writes one 64-byte access with byte enables. -/
structure DramReq where
  master : Nat
  addr   : Nat
  data   : Option (List (Option Byte))
  since  : Nat
  beats  : Nat := 2
  deriving DecidableEq, Repr, Inhabited

/-- What the maintenance sweep found for a byte lane (R376): the centres of its read and write delays and of its reference voltage at light load, and the difference of its centres under full load. -/
structure SweepLane where
  rd     : Nat
  wr     : Nat
  vref   : Nat
  offset : Int
  deriving DecidableEq, Repr, Inhabited

/-- What the channel's timing allows at a command slot (R365): the places of the bank queues (bank × 8 + place) whose entries a command may serve now, activates within tFAW, and banks
for which tRRD is met; and the ECC outcome of the data read (0 clean, 1 single, 2 double). -/
structure SlotTiming where
  ready  : List Nat
  actsInFaw : Nat
  trrdOk : List Nat
  ecc    : Nat := 0
  deriving DecidableEq, Repr, Inhabited

/-- Why a REFCLK is faulty (R384). -/
inductive ClkFault where
  | stop
  | glitch
  deriving DecidableEq, Repr, Inhabited

/-- What the boot finds outside the dies (R395, R396, R425): the straps, the SPI NOR sizes, the flash mode, the dies whose Braid links
train, the DRAM channels (die × 2 + channel) that fail training, VDDIO_CHAIN sensed per group, whether an image passes its checks in
each of the four slots (die 0 slots 0-1, die 1 slots 0-1), the image that a download gives, when the steps of Table 13.5 end, whether die 0 begins to load die 1 within 500 ms (R399) whether a
download (BOOTSEL 2 and 3) gives an image that passes, and the journal sectors whose erase the flash will report as failed (R427). -/
structure BootEnv where
  bootsel    : Nat
  role       : Bool
  flashMb    : Nat × Nat
  flashMode  : Nat
  braidDies  : List Nat
  dramFails  : List Nat
  dramMb     : Nat
  vddio      : List (Nat × Nat)
  imageOk    : List Bool
  image      : Nat × Nat
  bootMs     : List Nat
  loads      : Bool := true
  downloads  : Bool := true
  worn       : List Nat := []
  deriving DecidableEq, Repr, Inhabited

/-- A write of part_reset, and what the straps and the devices are as the part then leaves reset (R392, R395). -/
structure WarmReset where
  msg : Msg
  env : BootEnv
  deriving DecidableEq, Repr, Inhabited

/-- How long, in ms, every monitored rail has been within range, and what the straps and the devices are as the part then leaves reset (R479, R395). -/
structure BrownEnd where
  withinMs : Nat
  env      : BootEnv
  deriving DecidableEq, Repr, Inhabited

/-- What an Ethernet frame is found to be (Table 4.7). -/
inductive EthKind where
  | good
  | pause
  | malformed
  deriving DecidableEq, Repr, Inhabited

/-- The commands: the rows of spec/opcode_table.json, in its order. -/
inductive Instr where
  | read (m : Msg)
  | write (m : Msg)
  | readSeg (m : Msg)
  | writeSeg (m : Msg)
  | prepare (m : Msg)
  | launch (m : Msg)
  | abort (m : Msg)
  | discard (m : Msg)
  | ping (m : Msg)
  | unlistedOpcode (op : Nat) (m : Msg)
  | corrixRelay (op : Nat) (m : Msg)
  | broadcast (op : Nat) (m : Msg)
  | corrixResponseRelay (port entry op : Nat) (m : Msg)
  | relayEntryExpiry
  | bcastRecordExpiry
  | blobHoldRelease
  | hostSpiRead (addr count : Nat)
  | hostSpiWrite (addr : Nat) (bytes : List Byte)
  | hostSpiIgnoredCommand (command : Nat) (bytes : List Byte)
  | hctlSend
  | hctlFreeResponse
  | arpIcmpRequest (icmp : Bool) (source target : Nat) (data : List Byte)
  | voteTimeout
  | voteComplete
  | commitApply
  | rootListenExpiry
  | syncReceive (port : Nat) (c : Cell)
  | syncSend
  | delayReqSend
  | delayReqReceive (port : Nat) (c : Cell)
  | delayRespReceive (port : Nat) (c : Cell)
  | delayReqMissing (port : Nat)
  | upstreamLoss
  | rootTakeover
  | layRootHandback (m : Msg)
  | handbackEnd
  | refQualify (code : Nat)
  | refLost (loss : RefLoss)
  | refMonitorMeasure (ppb : List (Nat × Int))
  | refDrift
  | layStepAccept (m : Msg)
  | layTimeSet (m : Msg)
  | stepApplied
  | ptpMessageReceive (wire : PtpWire) (p : PtpMsg)
  | ptpEventTx (die which seqId msgType domain : Nat)
  | ptpTxtsAged
  | layEvtEdge (output : Nat)
  | ppsInCapture (fref : Nat)
  | fsyncInCapture
  | braidHoldover (b : BraidLink)
  | laneTxStart (die lane : Nat)
  | squelchOpen (die lane : Nat)
  | cdrLock (die lane : Nat)
  | equaliserConverged (die lane : Nat)
  | markerCandidate (die lane pos : Nat) (inverted : Bool)
  | markerLock (die lane pos spacings : Nat)
  | laneInService (die lane skewNs txPs rxPs : Nat)
  | alignmentMarkerReceive (die lane : Nat) (k : RxMarker)
  | alignmentMarkerSend (die lane : Nat)
  | lockLost (die lane missed : Nat)
  | signalLost (die lane closedNs : Nat)
  | fecUncorrectable (die lane : Nat)
  | dropped (die lane : Nat)
  | droppedLaneReturn (die lane : Nat)
  | laneSerUpdate (die lane corrected : Nat)
  | degradedReport (die lane : Nat)
  | txSleepSet (m : Msg)
  | txSleepClear (m : Msg)
  | rxSleepSet (m : Msg)
  | rxSleepClear (m : Msg)
  | loopOff (m : Msg)
  | nearEndSerialLoop (m : Msg)
  | nearEndParallelLoop (m : Msg)
  | farEndLoopRequest (m : Msg)
  | feLoopRefused (die lane : Nat)
  | prbsGen (m : Msg)
  | prbsChk (m : Msg)
  | prbsSync (die lane errorFree bits errors : Nat)
  | prbsResync (die lane errored bits errors : Nat)
  | lanePairMode (m : Msg)
  | ethLinkUp (die : Nat)
  | ethFrameReceive (die length tags : Nat) (kind : EthKind)
  | cellReceive (port : Nat) (blocks : List Block)
  | cellForward (port : Nat) (c : Cell)
  | ownCellSend (port freeSlots : Nat)
  | pixelCellReceive (port : Nat) (c : Cell)
  | checkCellReceive (port : Nat) (c : Cell)
  | canvasCellReceive (port : Nat) (c : Cell)
  | imageCellReceive (port : Nat) (c : Cell)
  | walk (port : Nat) (c : Cell)
  | report (port : Nat) (c : Cell)
  | done (port : Nat) (c : Cell)
  | walkEndAtHead (port : Nat) (c : Cell)
  | walkAfterService (port : Nat)
  | enumStart (m : Msg)
  | enumPeriodExpiry
  | enumTimeout
  | enumIdForget (m : Msg)
  | routeSend
  | route (port : Nat) (c : Cell)
  | routeExpiry
  | idConflict
  | knotCellReceive (port : Nat) (c : Cell)
  | knotFlush
  | knotAck (m : Msg)
  | sendStart (frame view : Nat)
  | descriptorPost (node band : Nat)
  | segmentWrite (node band frame view : Nat)
  | ringCacheLoad (die : Nat)
  | ringPick (port : Nat)
  | correctionBegin (die frame view : Nat)
  | regionVerdict (frame view : Nat)
  | viewFrameLaunch (die : Nat)
  | lateStart (die group : Nat)
  | lineStart (die group : Nat)
  | sourceFrameComplete (source : Nat)
  | st2110PacketReceive (source : Nat) (p : Pkt)
  | mergeSkew (source : Nat) (p : Pkt)
  | sourceDamaged (source : Nat)
  | sourceStale (source : Nat)
  | composeApply (m : Msg)
  | frameStart (port : Nat) (h : CsiHead)
  | longPacket (port vc : Nat) (p : CsiPkt)
  | frameEnd (port : Nat) (h : CsiHead)
  | frameTimeout (stream : Nat)
  | memoryFrameProcessed (die : Nat)
  | linkLost (stream : Nat)
  | capArm (m : Msg)
  | capRelease (m : Msg)
  | capTrigger (slot : Nat)
  | capWindowTimeout (slot : Nat)
  | corrPatch (m : Msg)
  | patchApply (die : Nat)
  | shiftLineBegin (die group : Nat) (underrunAt : Option Nat)
  | shiftComplete (die group : Nat)
  | rowShort (die group : Nat)
  | rgRowFaultClear (m : Msg)
  | outFault (die group output disagreeing : Nat)
  | rgOutFaultClear (m : Msg)
  | readback (die group : Nat)
  | readbackRecord (die chain driver : Nat) (words : List (List Bool))
  | srEntered (die group : Nat)
  | rgSrMode (m : Msg)
  | rasterToleranceUpdate (die : Nat)
  | faultWrite (m : Msg)
  | fgBlankedClear (m : Msg)
  | sramRequest (die : Nat) (reqs : List SramReq)
  | sliceRetention (die slice : Nat)
  | sliceWakeComplete (die slice : Nat)
  | sramSliceMode (m : Msg)
  | bistWordTest (die : Nat) (readBackOk : Bool)
  | bistStop (m : Msg)
  | bistContinuous (m : Msg)
  | bistOnePass (m : Msg)
  | dramArbitrationRound (die channel : Nat) (reqs : List DramReq)
  | commandPick (die channel : Nat) (t : SlotTiming)
  | dramRefresh (die channel bank : Nat)
  | masterReset (die channel master beatsDone : Nat)
  | dramSelfRefreshEntry (die channel : Nat)
  | dramSelfRefreshExit (die channel : Nat)
  | dramDriftCheck (die channel : Nat) (drift : List Int)
  | dramForcedExit (die channel : Nat)
  | dlyPending (die channel : Nat)
  | dramMaintSweep (m : Msg)
  | sweepDone (die : Nat) (found : List SweepLane)
  | refclkFault (die which : Nat) (why : ClkFault)
  | refclkRateCheck (die : Nat) (aPpb bPpb diffPpb : Int)
  | refclkValid (die which : Nat)
  | pllResume (die : Nat)
  | porstRelease (env : BootEnv)
  | warmrstN (heldNs : Nat) (env : BootEnv)
  | partResetWarm (r : WarmReset)
  | controlCoreRestart (m : Msg)
  | watchdogExpiry (die : Nat)
  | vauxLoss
  | die1BootTimeout
  | supHeartbeat
  | supHbLoss (upstreamAlive : Option Nat)
  | arbIn (highNs : Nat)
  | redSupRejoin (m : Msg)
  | headHeartbeatSend
  | heartbeat (port : Nat) (c : Cell)
  | ckptSeg (port : Nat) (c : Cell)
  | ckptEnd (port : Nat) (c : Cell)
  | ckptAck (port : Nat) (c : Cell)
  | ckptStale
  | handover (port : Nat) (c : Cell)
  | redDeclare (m : Msg)
  | arbiterDeclareRepeat
  | selfDeclare
  | joiningEnd
  | journalRecordWrite (blank programOk : Bool)
  | tamping
  | updAbort (m : Msg)
  | updVerify
  | firmwareServe (die : Nat)
  | updReverted
  | recoveryDhcpTimeout
  | sensorConversion (die sensor : Nat) (reading : Int)
  | thermalShutdown (die : Nat)
  | sensorBrokenClear (m : Msg)
  | trimEvaluate (die : Nat)
  | trimPllStep (die : Nat)
  | brownout (die ns : Nat)
  | porstNAssert
  | brownoutRestart (r : BrownEnd)
  | joinNoPeerTimeout
  | idleConversionSlot (die : Nat)
  | dhcpAddress (addr : Nat)
  deriving DecidableEq, Repr, Inhabited

end Sys2Proof
end

