-- ==== Sys2Proof/WellFormed.lean ====
section
/-! DEFINITION. Which commands are well formed: every operand within the width or the count the spec gives it. -/

namespace Sys2Proof

/-- A Corrix message whose fields fit Table 2.1. A payload may differ in length from LEN: that is a defect the part answers (R47). -/
def Msg.wf (m : Msg) : Bool :=
  Nat.blt m.ver 256 && Nat.blt m.flags 256 && Nat.blt m.status 256 && Nat.blt m.seq 65536 && Nat.blt m.session 65536 &&
  Nat.blt m.target 65536 && Nat.blt m.index 65536 && Nat.blt m.sub 256 && Nat.blt m.ty 256 && Nat.blt m.len 65536 &&
  Nat.blt m.crc 4294967296

/-- A cell whose fields fit Table 5.1 and whose payload is 244 bytes (R146). -/
def Cell.wf (c : Cell) : Bool :=
  Nat.blt c.cls 8 && Nat.blt c.kind 16 && Nat.blt c.node 1024 && Nat.blt c.spec (2 ^ 36) && Nat.blt c.hops 1024 &&
  Nat.beq c.payload.length 244 && Nat.blt c.crc 4294967296

/-- A block of one of 8 lanes has 32 bytes (R119). -/
def Block.wf (b : Block) : Bool := Nat.blt b.lane 8 && Nat.beq b.bytes.length 32

/-- A received marker has 32 bytes, and its parity 8 bits (Table 4.2). -/
def RxMarker.wf (k : RxMarker) : Bool := Nat.beq k.bytes.length 32 && Nat.blt k.bip 256

/-- A CSI-2 long packet: DT of 6 bits, WC of 16 (R240). -/
def CsiPkt.wf (p : CsiPkt) : Bool := Nat.blt 1 p.dt && Nat.blt p.dt 64 && Nat.blt p.wc 65536 && Nat.blt p.ecc 3

/-- A CSI-2 header's fields fit. -/
def CsiHead.wf (h : CsiHead) : Bool := Nat.blt h.vc 4 && Nat.blt h.ecc 3

/-- An ST 2110-20 packet: one of 8 dies, addresses of 32 bits, a UDP port of 16, a payload type of 7, an extended sequence number of 32 (R225, R226). -/
def Pkt.wf (p : Pkt) : Bool :=
  Nat.blt p.die 8 && Nat.blt p.dest 4294967296 && Nat.blt p.port 65536 && Nat.blt p.sender 4294967296 && Nat.blt p.pt 128 && Nat.blt p.seq 4294967296

/-- An SRAM request: 16 ports, a 16 MB space, a write of 32 bytes (R348, R349). -/
def SramReq.wf (r : SramReq) : Bool :=
  Nat.blt r.port 16 && Nat.blt r.addr 16777216 && (match r.data with
  | some bs => Nat.beq bs.length 32
  | none => true)

/-- A DRAM request: 8 masters, a 40-bit address, 1 to 64 beats of 32 bytes (R363, R366). -/
def DramReq.wf (r : DramReq) : Bool :=
  Nat.blt r.master 8 && Nat.blt r.addr 1099511627776 && Nat.blt 0 r.beats && Nat.blt r.beats 65 && (match r.data with
  | some bs => Nat.beq bs.length (32 * r.beats)
  | none => true)

/-- A command slot: 16 banks of 8 places, and the three outcomes of ECC. -/
def SlotTiming.wf (t : SlotTiming) : Bool := t.ready.all (Nat.blt · 128) && t.trrdOk.all (Nat.blt · 16) && Nat.blt t.ecc 3

/-- A Hawser port named by die and lowest lane (Table 5.10, fwd_up_port). -/
def portOk (port : Nat) : Bool := Nat.blt (port / 16) 8 && Nat.blt (port % 16) 8

/-- The well-formed commands. -/
def Instr.wf : Instr → Bool
  | .read m => m.wf
  | .write m => m.wf
  | .readSeg m => m.wf
  | .writeSeg m => m.wf
  | .prepare m => m.wf
  | .launch m => m.wf
  | .abort m => m.wf
  | .discard m => m.wf
  | .ping m => m.wf
  | .unlistedOpcode op m => Nat.blt op 256 && m.wf
  | .corrixRelay op m => Nat.blt op 256 && m.wf
  | .broadcast op m => Nat.blt op 256 && m.wf
  | .corrixResponseRelay port entry op m => portOk port && Nat.blt entry 64 && Nat.blt op 256 && m.wf
  | .relayEntryExpiry => true
  | .bcastRecordExpiry => true
  | .blobHoldRelease => true
  | .hostSpiRead addr _ => Nat.blt addr 65536
  | .hostSpiWrite addr _ => Nat.blt addr 65536
  | .hostSpiIgnoredCommand command _ => Nat.blt command 256
  | .hctlSend => true
  | .hctlFreeResponse => true
  | .arpIcmpRequest _ source target _ => Nat.blt source 4294967296 && Nat.blt target 4294967296
  | .voteTimeout => true
  | .voteComplete => true
  | .commitApply => true
  | .rootListenExpiry => true
  | .syncReceive port c => portOk port && c.wf
  | .syncSend => true
  | .delayReqSend => true
  | .delayReqReceive port c => portOk port && c.wf
  | .delayRespReceive port c => portOk port && c.wf
  | .delayReqMissing port => portOk port
  | .upstreamLoss => true
  | .rootTakeover => true
  | .layRootHandback m => m.wf
  | .handbackEnd => true
  | .refQualify code => Nat.blt code 6
  | .refLost loss => Nat.blt loss.code 6
  | .refMonitorMeasure _ => true
  | .refDrift => true
  | .layStepAccept m => m.wf
  | .layTimeSet m => m.wf
  | .stepApplied => true
  | .ptpMessageReceive w _ => Nat.blt 0 w.port && Nat.blt w.port 10 && Nat.blt w.domain 128 && Nat.blt w.transport 2
  | .ptpEventTx die which _ _ domain => Nat.blt die 8 && Nat.blt which 2 && Nat.blt domain 128
  | .ptpTxtsAged => true
  | .layEvtEdge output => Nat.blt output 4
  | .ppsInCapture _ => true
  | .fsyncInCapture => true
  | .braidHoldover b => Nat.blt b.die 8
  | .laneTxStart die lane => Nat.blt die 8 && Nat.blt lane 8
  | .squelchOpen die lane => Nat.blt die 8 && Nat.blt lane 8
  | .cdrLock die lane => Nat.blt die 8 && Nat.blt lane 8
  | .equaliserConverged die lane => Nat.blt die 8 && Nat.blt lane 8
  | .markerCandidate die lane _ _ => Nat.blt die 8 && Nat.blt lane 8
  | .markerLock die lane _ _ => Nat.blt die 8 && Nat.blt lane 8
  | .laneInService die lane _ _ _ => Nat.blt die 8 && Nat.blt lane 8
  | .alignmentMarkerReceive die lane k => Nat.blt die 8 && Nat.blt lane 8 && k.wf
  | .alignmentMarkerSend die lane => Nat.blt die 8 && Nat.blt lane 8
  | .lockLost die lane _ => Nat.blt die 8 && Nat.blt lane 8
  | .signalLost die lane _ => Nat.blt die 8 && Nat.blt lane 8
  | .fecUncorrectable die lane => Nat.blt die 8 && Nat.blt lane 8
  | .dropped die lane => Nat.blt die 8 && Nat.blt lane 8
  | .droppedLaneReturn die lane => Nat.blt die 8 && Nat.blt lane 8
  | .laneSerUpdate die lane _ => Nat.blt die 8 && Nat.blt lane 8
  | .degradedReport die lane => Nat.blt die 8 && Nat.blt lane 8
  | .txSleepSet m => m.wf
  | .txSleepClear m => m.wf
  | .rxSleepSet m => m.wf
  | .rxSleepClear m => m.wf
  | .loopOff m => m.wf
  | .nearEndSerialLoop m => m.wf
  | .nearEndParallelLoop m => m.wf
  | .farEndLoopRequest m => m.wf
  | .feLoopRefused die lane => Nat.blt die 8 && Nat.blt lane 8
  | .prbsGen m => m.wf
  | .prbsChk m => m.wf
  | .prbsSync die lane _ _ _ => Nat.blt die 8 && Nat.blt lane 8
  | .prbsResync die lane _ _ _ => Nat.blt die 8 && Nat.blt lane 8
  | .lanePairMode m => m.wf
  | .ethLinkUp die => Nat.blt die 8
  | .ethFrameReceive die _ _ _ => Nat.blt die 8
  | .cellReceive port blocks => portOk port && blocks.all Block.wf
  | .cellForward port c => portOk port && c.wf
  | .ownCellSend port _ => portOk port
  | .pixelCellReceive port c => portOk port && c.wf
  | .checkCellReceive port c => portOk port && c.wf
  | .canvasCellReceive port c => portOk port && c.wf
  | .imageCellReceive port c => portOk port && c.wf
  | .walk port c => portOk port && c.wf
  | .report port c => portOk port && c.wf
  | .done port c => portOk port && c.wf
  | .walkEndAtHead port c => portOk port && c.wf
  | .walkAfterService port => portOk port
  | .enumStart m => m.wf
  | .enumPeriodExpiry => true
  | .enumTimeout => true
  | .enumIdForget m => m.wf
  | .routeSend => true
  | .route port c => portOk port && c.wf
  | .routeExpiry => true
  | .idConflict => true
  | .knotCellReceive port c => portOk port && c.wf
  | .knotFlush => true
  | .knotAck m => m.wf
  | .sendStart frame view => Nat.blt frame 4294967296 && Nat.blt view 8
  | .descriptorPost node band => Nat.blt node 1024 && Nat.blt band 1024
  | .segmentWrite node band frame view => Nat.blt node 1024 && Nat.blt band 1024 && Nat.blt frame 4294967296 && Nat.blt view 8
  | .ringCacheLoad die => Nat.blt die 8
  | .ringPick port => portOk port || port == 255
  | .correctionBegin die frame view => Nat.blt die 8 && Nat.blt frame 4294967296 && Nat.blt view 8
  | .regionVerdict frame view => Nat.blt frame 4294967296 && Nat.blt view 8
  | .viewFrameLaunch die => Nat.blt die 8
  | .lateStart die group => Nat.blt die 8 && Nat.blt group 4
  | .lineStart die group => Nat.blt die 8 && Nat.blt group 4
  | .sourceFrameComplete source => Nat.blt source 64
  | .st2110PacketReceive source p => Nat.blt source 64 && p.wf
  | .mergeSkew source p => Nat.blt source 64 && p.wf
  | .sourceDamaged source => Nat.blt source 64
  | .sourceStale source => Nat.blt source 64
  | .composeApply m => m.wf
  | .frameStart port h => Nat.blt port 4 && h.wf
  | .longPacket port vc p => Nat.blt port 4 && Nat.blt vc 4 && p.wf
  | .frameEnd port h => Nat.blt port 4 && h.wf
  | .frameTimeout stream => Nat.blt stream 16
  | .memoryFrameProcessed die => Nat.blt die 8
  | .linkLost stream => Nat.blt stream 16
  | .capArm m => m.wf
  | .capRelease m => m.wf
  | .capTrigger slot => Nat.blt slot 64
  | .capWindowTimeout slot => Nat.blt slot 64
  | .corrPatch m => m.wf
  | .patchApply die => Nat.blt die 8
  | .shiftLineBegin die group _ => Nat.blt die 8 && Nat.blt group 4
  | .shiftComplete die group => Nat.blt die 8 && Nat.blt group 4
  | .rowShort die group => Nat.blt die 8 && Nat.blt group 4
  | .rgRowFaultClear m => m.wf
  | .outFault die group output _ => Nat.blt die 8 && Nat.blt group 4 && Nat.blt output 16
  | .rgOutFaultClear m => m.wf
  | .readback die group => Nat.blt die 8 && Nat.blt group 4
  | .readbackRecord die chain driver _ => Nat.blt die 8 && Nat.blt chain 24 && Nat.blt driver 64
  | .srEntered die group => Nat.blt die 8 && Nat.blt group 4
  | .rgSrMode m => m.wf
  | .rasterToleranceUpdate die => Nat.blt die 8
  | .faultWrite m => m.wf
  | .fgBlankedClear m => m.wf
  | .sramRequest die reqs => Nat.blt die 8 && reqs.all SramReq.wf
  | .sliceRetention die slice => Nat.blt die 8 && Nat.blt slice 8
  | .sliceWakeComplete die slice => Nat.blt die 8 && Nat.blt slice 8
  | .sramSliceMode m => m.wf
  | .bistWordTest die _ => Nat.blt die 8
  | .bistStop m => m.wf
  | .bistContinuous m => m.wf
  | .bistOnePass m => m.wf
  | .dramArbitrationRound die channel reqs => Nat.blt die 8 && Nat.blt channel 2 && reqs.all DramReq.wf
  | .commandPick die channel t => Nat.blt die 8 && Nat.blt channel 2 && t.wf
  | .dramRefresh die channel bank => Nat.blt die 8 && Nat.blt channel 2 && Nat.blt bank 16
  | .masterReset die channel master _ => Nat.blt die 8 && Nat.blt channel 2 && Nat.blt master 8
  | .dramSelfRefreshEntry die channel => Nat.blt die 8 && Nat.blt channel 2
  | .dramSelfRefreshExit die channel => Nat.blt die 8 && Nat.blt channel 2
  | .dramDriftCheck die channel _ => Nat.blt die 8 && Nat.blt channel 2
  | .dramForcedExit die channel => Nat.blt die 8 && Nat.blt channel 2
  | .dlyPending die channel => Nat.blt die 8 && Nat.blt channel 2
  | .dramMaintSweep m => m.wf
  | .sweepDone die _ => Nat.blt die 8
  | .refclkFault die which _ => Nat.blt die 8 && Nat.blt which 2
  | .refclkRateCheck die _ _ _ => Nat.blt die 8
  | .refclkValid die which => Nat.blt die 8 && Nat.blt which 2
  | .pllResume die => Nat.blt die 8
  | .porstRelease _ => true
  | .warmrstN _ _ => true
  | .partResetWarm r => r.msg.wf
  | .controlCoreRestart m => m.wf
  | .watchdogExpiry die => Nat.blt die 8
  | .vauxLoss => true
  | .die1BootTimeout => true
  | .supHeartbeat => true
  | .supHbLoss _ => true
  | .arbIn _ => true
  | .redSupRejoin m => m.wf
  | .headHeartbeatSend => true
  | .heartbeat port c => portOk port && c.wf
  | .ckptSeg port c => portOk port && c.wf
  | .ckptEnd port c => portOk port && c.wf
  | .ckptAck port c => portOk port && c.wf
  | .ckptStale => true
  | .handover port c => portOk port && c.wf
  | .redDeclare m => m.wf
  | .arbiterDeclareRepeat => true
  | .selfDeclare => true
  | .joiningEnd => true
  | .journalRecordWrite _ _ => true
  | .tamping => true
  | .updAbort m => m.wf
  | .updVerify => true
  | .firmwareServe die => Nat.blt die 8
  | .updReverted => true
  | .recoveryDhcpTimeout => true
  | .sensorConversion die sensor _ => Nat.blt die 8 && Nat.blt sensor 6
  | .thermalShutdown die => Nat.blt die 8
  | .sensorBrokenClear m => m.wf
  | .trimEvaluate die => Nat.blt die 8
  | .trimPllStep die => Nat.blt die 8
  | .brownout die _ => Nat.blt die 8
  | .porstNAssert => true
  | .brownoutRestart _ => true
  | .joinNoPeerTimeout => true
  | .idleConversionSlot die => Nat.blt die 8
  | .dhcpAddress addr => Nat.blt addr 4294967296

end Sys2Proof
end

