-- ==== Sys2Proof/Config.lean ====
section
/-! DEFINITION. What the spec leaves open or takes from outside: constants without a body, so that a statement holds for every value of them. -/

namespace Sys2Proof.Config

/-- A value the spec leaves undefined or does not state; applied to the counter State.free (log entry 1). -/
opaque freeValue : Nat → Nat

/-- Which way a gamma fade rounds a gain that is within 2^-36 of a half unit: level from, level to, gamma, numerator and denominator of p.
R205 says that the fixed-point arithmetic is the same on every part and does not give it (log entry 9). -/
opaque fadeTie : Nat → Nat → Nat → Nat → Nat → Bool

/-- Which way a curve rounds a value within 2^-24 of a half: the curve, its peak, its argument (log entry 9). -/
opaque roundTie : Nat → Nat → Nat → Bool

/-- A chroma sample between two co-sited samples: the fixed 4-tap filter whose taps the spec does not give (Table 7.1 step 1; log entry 5). -/
opaque chromaTap (a b c d : Nat) : Nat

/-- Where a coefficient record and a scan-map entry lie in a die's DRAM, which the spec does not say (R378; log entry 64). -/
opaque recordAt (die q : Nat) : Nat

/-- The place of a scan-map entry. -/
opaque scanAt (die entry : Nat) : Nat

/-- The primaries of a graphic surface's values (0 BT.709, 1 BT.2020), by gs_transfer: the spec names none (Table 7.1 step 5; log entry 5). -/
opaque surfacePrimaries (transfer : Nat) : Nat

/-- Which of the lamps that the scan map places at one position is shown: position, launch (R308; log entry 1). -/
opaque placedLamp (position launch : Nat) : Nat

/-- The built-in scaler coefficient of R215: axis, the ratio source to destination in lowest terms (1 to 1 when upscaling, whose cut-off is fixed), phase, tap (log entry 5). -/
opaque sincTap (axis src dst phase tap : Nat) : Int

/-- The frequency word of a root that follows its reference at lay_root_bw_mhz: bandwidth, offset in Lay units, word in force. The spec gives the loop's bandwidth
and not its arithmetic (R90; log entry 5). -/
opaque rootSteer (bw : Nat) (offset freq : Int) : Int

/-- The servo of a PTP domain clock: an offset in Lay units and the clock's frequency word give the phase moved, in 2^-48 ns, and the new word. R109 says that the clock is servoed and gives no
arithmetic (log entry 5). -/
opaque ptpServo (offset freq : Int) : Int × Int

/-- The weight of a counted neighbour in the spatial noise reduction of R246, which the spec does not give (log entry 5). -/
opaque snrWeight (strength distance : Nat) : Nat

/-- The edge-directed demosaic of R251 over its 25 samples, for a CFA position and a colour (log entry 5). -/
opaque demosaic (position colour : Nat) (window : List Int) : Int

/-- The session number of an arbiter's declarations, less 1, modulo 65,535: the spec says one session (R412; log entry 1). -/
opaque arbiterSession : Nat

/-- The Faendra public key of KEY_ID in the ROM, a point of the curve P-384 (R435; log entry 10). -/
opaque romKey (keyId : Nat) : Nat × Nat

/-- Fuse contents particular to a die (R461): the factory base code of a trim converter. -/
opaque trimBase (die converter : Nat) : Nat

/-- Fuse contents particular to a die (R461): the factory trim set, by converter and field: 0 COUNT, 2p + 1 and 2p + 2 the temperature and the offset of point p, each brought into the range that the
fuses are guaranteed to keep. -/
opaque trimFactory (die converter field : Nat) : Nat

/-- A transmit swing in mV as a converter code, mapped at Faendra test (Table 16.3). -/
opaque swingCode (die lane swing : Nat) : Nat

/-- What a lane's scrambler holds before its first block (R119 gives no seed). -/
opaque scramblerSeed (die lane : Nat) : BitVec 58

/-- The check byte of 8 data bytes: R377 gives the SEC-DED code's width alone (log entry 163). -/
opaque secded : Nat → Nat

end Sys2Proof.Config
end

