-- ==== Sys2Proof/Machine/Bytes.lean ====
section
/-! DEFINITION. Sparse tables in canonical form, and the byte and bit helpers: little-endian numbers, two's complement, CRC-32C. -/

namespace Sys2Proof.Machine

/-- A sparse table: keys strictly rising, no entry equal to what an unlisted key reads as. -/
abbrev SMap (α : Type) := List (Nat × α)

/-- What key `a` holds, where an unlisted key holds `d`. -/
def smGet {α : Type} (d : α) : SMap α → Nat → α
  | [], _ => d
  | (k, v) :: t, a => if k = a then v else smGet d t a

/-- The entries whose keys satisfy `p`. -/
def smKeep {α : Type} (p : Nat → Bool) (m : SMap α) : SMap α := m.filter fun e => p e.1

/-- Key `a` set to `v` in its place among rising keys. -/
def smIns {α : Type} : SMap α → Nat → α → SMap α
  | [], a, v => [(a, v)]
  | (k, w) :: t, a, v => if a < k then (a, v) :: (k, w) :: t else if k = a then (a, v) :: t else (k, w) :: smIns t a v

/-- Key `a` set to `v`; setting it to `d` removes its entry. -/
def smPut {α : Type} [DecidableEq α] (d : α) (m : SMap α) (a : Nat) (v : α) : SMap α :=
  if v = d then smKeep (fun k => decide (k ≠ a)) m else smIns m a v

/-- The canonical form: keys from `lo` up, strictly rising, no entry equal to `d`. -/
def smWf {α : Type} [DecidableEq α] (d : α) : Nat → SMap α → Bool
  | _, [] => true
  | lo, (k, v) :: t => decide (lo ≤ k) && decide (v ≠ d) && smWf d (k + 1) t

/-- A run of values stored at rising keys. -/
def smPutAll {α : Type} [DecidableEq α] (d : α) (m : SMap α) (a : Nat) : List α → SMap α
  | [] => m
  | v :: vs => smPutAll d (smPut d m a v) (a + 1) vs

/-- `n` values read at rising keys. -/
def smRun {α : Type} (d : α) (m : SMap α) (a : Nat) : Nat → List α
  | 0 => []
  | n + 1 => smGet d m a :: smRun d m (a + 1) n

/-- Byte `n` of a number as a `Byte`. -/
def byteOf (n : Nat) : Byte := BitVec.ofNat 8 n

/-- A number as `k` bytes, least significant first (R41). -/
def leBytes : Nat → Nat → List Byte
  | 0, _ => []
  | k + 1, n => byteOf n :: leBytes k (n / 256)

/-- Bytes, least significant first, as a number (R41). -/
def ofLe : List Byte → Nat
  | [] => 0
  | b :: t => b.toNat + 256 * ofLe t

/-- `k` bytes from offset `o`, read as a little-endian number; bytes past the end read 0. -/
def leAt (bs : List Byte) (o k : Nat) : Nat := ofLe ((bs.drop o).take k)

/-- The bits `[hi:lo]` of a number (R12). -/
def bits (n hi lo : Nat) : Nat := (n >>> lo) % 2 ^ (hi + 1 - lo)

/-- Bit `i` of a number. -/
def bit (n i : Nat) : Bool := n.testBit i

/-- A Boolean as 0 or 1. -/
def b2n (b : Bool) : Nat := if b then 1 else 0

/-- A number with bit `i` set. -/
def setBit (n i : Nat) : Nat := n ||| 2 ^ i

/-- A number with bit `i` cleared. -/
def clearBit (n i : Nat) : Nat := if n.testBit i then n - 2 ^ i else n

/-- A number with bit `i` set to `b`. -/
def putBit (n i : Nat) (b : Bool) : Nat := if b then setBit n i else clearBit n i

/-- The bits of `n` that are not in `m` (a write-1-to-clear of `m`, R17). -/
def clearMask (n m : Nat) : Nat := n ^^^ (n &&& m)

/-- The `w`-bit two's complement value of a number. -/
def toSigned (w n : Nat) : Int :=
  let k := n % 2 ^ w
  if k < 2 ^ (w - 1) then k else (k : Int) - 2 ^ w

/-- A signed value as `w` bits of two's complement. -/
def ofSigned (w : Nat) (i : Int) : Nat := (i % 2 ^ w).toNat

/-- A value held to a range. -/
def clampInt (lo hi v : Int) : Int := if v < lo then lo else if hi < v then hi else v

/-- Division rounded to the nearest, half up. -/
def roundDiv (a b : Nat) : Nat := (2 * a + b) / (2 * b)

/-- Division rounded up. -/
def ceilDiv (a b : Nat) : Nat := (a + b - 1) / b

/-- Signed division rounded to the nearest, half up. -/
def roundDivInt (a : Int) (b : Nat) : Int := (2 * a + b) / (2 * (b : Int))

/-- How many bits of `n` below position `k` are set. -/
def popCount : Nat → Nat → Nat
  | 0, _ => 0
  | k + 1, n => n % 2 + popCount k (n / 2)

/-- The positions below `k` of the bits of `n` that are set, rising. -/
def bitList (k n : Nat) : List Nat := (List.range k).filter fun i => n.testBit i

/-- One bit of a reflected CRC-32C register (Castagnoli polynomial, 0x82F63B78 reflected). -/
def crcBit (r : Nat) : Nat := if r % 2 = 1 then (r / 2) ^^^ 0x82F63B78 else r / 2

/-- `k` bits of a reflected CRC-32C register. -/
def crcBits : Nat → Nat → Nat
  | 0, r => r
  | k + 1, r => crcBits k (crcBit r)

/-- A reflected CRC-32C register after more bytes. -/
def crcRun (r : Nat) (bs : List Byte) : Nat := bs.foldl (fun r b => crcBits 8 (r ^^^ b.toNat)) r

/-- CRC-32C: initial value 0xFFFF_FFFF, final inversion (R44). -/
def crc32c (bs : List Byte) : Nat := crcRun 0xFFFFFFFF bs ^^^ 0xFFFFFFFF

/-- A list cut or zero-filled to `n` bytes. -/
def fitBytes (n : Nat) (bs : List Byte) : List Byte := bs.take n ++ List.replicate (n - bs.length) 0

/-- Does `b` follow `a` in a 16-bit sequence space that wraps? -/
def seqAfter (w a b : Nat) : Bool := a ≠ b && (b + 2 ^ w - a) % 2 ^ w < 2 ^ (w - 1)

/-- The least of a list, or `d` where it is empty. -/
def minOr (d : Nat) (l : List Nat) : Nat := l.foldl min (l.headD d)

/-- The greatest of a list, or `d` where it is empty. -/
def maxOr (d : Nat) (l : List Nat) : Nat := l.foldl max (l.headD d)

end Sys2Proof.Machine
end

