-- ==== Sys2Proof/Machine/DictType.lean ====
section
/-! DEFINITION. What a row of the object dictionary says: its type (Table 2.2), access (Table 0.4), default and how a written value is clamped (R59). -/

namespace Sys2Proof.Machine

/-- The data types of Table 2.2 (STR is defined there, and no object of any chapter has it). -/
inductive Ty where
  | bool | u8 | u16 | u32 | u64 | i16 | i32 | layt | str | blob
  deriving DecidableEq, Repr, Inhabited

/-- The access codes of Table 0.4. -/
inductive Acc where
  | ro | rw | wo | rwp | rws | w1c
  deriving DecidableEq, Repr, Inhabited

/-- How a value the object cannot take is clamped (R59). -/
inductive Clamp where
  /-- every value of the type -/
  | any
  /-- a quantity: rounded toward zero onto the step, then set to the nearest bound -/
  | span (lo hi : Int) (step : Nat)
  /-- an enumeration: a value in none of the spans becomes the default -/
  | oneOf (spans : List (Int × Int))
  /-- undefined bits masked to 0 -/
  | mask (bits : Nat)
  /-- undefined bits masked, then rounded toward zero onto the step -/
  | maskStep (bits step : Nat)
  /-- several fields judged on their own (Ops/Operands say how, by object) -/
  | custom
  deriving DecidableEq, Repr, Inhabited

/-- A row of an object table: the indices `lo`-`hi` and subindices `slo`-`shi` it covers. `size` is the value's size in bytes; 0 for a
BLOB whose SIZE is set at run time. -/
structure ObjDef where
  name   : String
  lo     : Nat
  hi     : Nat
  slo    : Nat
  shi    : Nat
  ty     : Ty
  acc    : Acc
  dflt   : Int
  clamp  : Clamp
  perDie : Bool
  size   : Nat
  deriving DecidableEq, Repr, Inhabited

/-- Does the row cover this index and subindex? -/
def ObjDef.covers (d : ObjDef) (index sub : Nat) : Bool :=
  Nat.ble d.lo index && Nat.ble index d.hi && Nat.ble d.slo sub && Nat.ble sub d.shi

/-- The type code of Table 2.2. -/
def Ty.code : Ty → Nat
  | .bool => 1 | .u8 => 2 | .u16 => 3 | .u32 => 4 | .u64 => 5 | .i16 => 6 | .i32 => 7 | .layt => 8 | .str => 9 | .blob => 10

/-- The size in bytes of a fixed-size type (Table 2.2). -/
def Ty.size : Ty → Nat
  | .bool => 1 | .u8 => 1 | .u16 => 2 | .u32 => 4 | .u64 => 8 | .i16 => 2 | .i32 => 4 | .layt => 12 | .str => 0 | .blob => 0

end Sys2Proof.Machine
end

