-- ==== Sys2Proof/Machine/DictChain.lean ====
section
/-! DEFINITION. The object dictionary (R73): raster, driver chain and lamp fault objects. -/

namespace Sys2Proof.Machine

/-- Rows 0x7000 to 0x7010. -/
def dictChain1 : List ObjDef := [
  { name := "chain_profile", lo := 0x7000, hi := 0x7007, slo := 0, shi := 0, ty := .blob, acc := .rws, dflt := 0, clamp := .any, perDie := false, size := 64 },
  { name := "rg_profile", lo := 0x7010, hi := 0x7013, slo := 1, shi := 1, ty := .u8, acc := .rws, dflt := 255, clamp := .oneOf [(0, 7), (255, 255)], perDie := true, size := 1 },
  { name := "rg_chains", lo := 0x7010, hi := 0x7013, slo := 2, shi := 2, ty := .u8, acc := .rws, dflt := 63, clamp := .mask 0x3F, perDie := true, size := 1 },
  { name := "rg_scan_lines", lo := 0x7010, hi := 0x7013, slo := 3, shi := 3, ty := .u8, acc := .rws, dflt := 32, clamp := .span 1 64 1, perDie := true, size := 1 },
  { name := "rg_sclk_div", lo := 0x7010, hi := 0x7013, slo := 4, shi := 4, ty := .u8, acc := .rws, dflt := 10, clamp := .span 10 100 1, perDie := true, size := 1 },
  { name := "rg_gclk_div", lo := 0x7010, hi := 0x7013, slo := 5, shi := 5, ty := .u16, acc := .rws, dflt := 20, clamp := .span 20 1000 1, perDie := true, size := 2 },
  { name := "rg_line_ns", lo := 0x7010, hi := 0x7013, slo := 6, shi := 6, ty := .u32, acc := .rws, dflt := 5000, clamp := .span 100 1000000 1, perDie := true, size := 4 },
  { name := "rg_blank_ns", lo := 0x7010, hi := 0x7013, slo := 7, shi := 7, ty := .u16, acc := .rws, dflt := 1200, clamp := .span 20 5000 1, perDie := true, size := 2 },
  { name := "rg_blank_min_ns", lo := 0x7010, hi := 0x7013, slo := 8, shi := 8, ty := .u16, acc := .rws, dflt := 200, clamp := .span 20 5000 1, perDie := true, size := 2 },
  { name := "rg_row_dead_ns", lo := 0x7010, hi := 0x7013, slo := 9, shi := 9, ty := .u16, acc := .rws, dflt := 40, clamp := .span 4 1000 1, perDie := true, size := 2 },
  { name := "rg_sense_ns", lo := 0x7010, hi := 0x7013, slo := 10, shi := 10, ty := .u16, acc := .rws, dflt := 200, clamp := .span 0 2000 1, perDie := true, size := 2 },
  { name := "rg_row_pol", lo := 0x7010, hi := 0x7013, slo := 11, shi := 11, ty := .u8, acc := .rws, dflt := 0, clamp := .mask 0x3, perDie := true, size := 1 },
  { name := "rg_iref_code", lo := 0x7010, hi := 0x7013, slo := 12, shi := 12, ty := .u16, acc := .rws, dflt := 512, clamp := .span 0 1023 1, perDie := true, size := 2 },
  { name := "rg_bg", lo := 0x7010, hi := 0x7013, slo := 13, shi := 13, ty := .u64, acc := .rws, dflt := 0, clamp := .any, perDie := true, size := 8 },
  { name := "rg_sr_mode", lo := 0x7010, hi := 0x7013, slo := 14, shi := 14, ty := .u8, acc := .rw, dflt := 1, clamp := .oneOf [(0, 2)], perDie := true, size := 1 },
  { name := "rg_sr_after", lo := 0x7010, hi := 0x7013, slo := 15, shi := 15, ty := .u8, acc := .rw, dflt := 2, clamp := .span 1 255 1, perDie := true, size := 1 },
  { name := "rg_rb_every", lo := 0x7010, hi := 0x7013, slo := 16, shi := 16, ty := .u8, acc := .rws, dflt := 1, clamp := .span 0 255 1, perDie := true, size := 1 },
  { name := "rg_rb_settle_ns", lo := 0x7010, hi := 0x7013, slo := 17, shi := 17, ty := .u16, acc := .rws, dflt := 500, clamp := .span 0 10000 1, perDie := true, size := 2 },
  { name := "rg_vddio", lo := 0x7010, hi := 0x7013, slo := 18, shi := 18, ty := .u8, acc := .ro, dflt := 0, clamp := .span 0 2 1, perDie := true, size := 1 },
  { name := "rg_state", lo := 0x7010, hi := 0x7013, slo := 19, shi := 19, ty := .u8, acc := .ro, dflt := 0, clamp := .span 0 4 1, perDie := true, size := 1 },
  { name := "rg_shift_ns", lo := 0x7010, hi := 0x7013, slo := 20, shi := 20, ty := .u32, acc := .ro, dflt := 0, clamp := .any, perDie := true, size := 4 },
  { name := "rg_slack_ns", lo := 0x7010, hi := 0x7013, slo := 21, shi := 21, ty := .i32, acc := .ro, dflt := 0, clamp := .any, perDie := true, size := 4 },
  { name := "rg_frames", lo := 0x7010, hi := 0x7013, slo := 22, shi := 22, ty := .u32, acc := .ro, dflt := 0, clamp := .any, perDie := true, size := 4 },
  { name := "rg_last_flip", lo := 0x7010, hi := 0x7013, slo := 23, shi := 23, ty := .layt, acc := .ro, dflt := 0, clamp := .any, perDie := true, size := 12 },
  { name := "rg_last_flip_frame", lo := 0x7010, hi := 0x7013, slo := 24, shi := 24, ty := .u32, acc := .ro, dflt := 0, clamp := .any, perDie := true, size := 4 }]

/-- Rows 0x7010 to 0x7C04. -/
def dictChain2 : List ObjDef := [
  { name := "rg_last_flip_view", lo := 0x7010, hi := 0x7013, slo := 25, shi := 25, ty := .u8, acc := .ro, dflt := 0, clamp := .span 0 7 1, perDie := true, size := 1 },
  { name := "rg_row_fault", lo := 0x7010, hi := 0x7013, slo := 26, shi := 26, ty := .u64, acc := .w1c, dflt := 0, clamp := .any, perDie := true, size := 8 },
  { name := "rg_out_fault", lo := 0x7010, hi := 0x7013, slo := 27, shi := 27, ty := .u16, acc := .w1c, dflt := 0, clamp := .mask 0xFFFF, perDie := true, size := 2 },
  { name := "rg_underruns", lo := 0x7010, hi := 0x7013, slo := 28, shi := 28, ty := .u32, acc := .ro, dflt := 0, clamp := .any, perDie := true, size := 4 },
  { name := "rg_rb_line", lo := 0x7010, hi := 0x7013, slo := 29, shi := 29, ty := .u8, acc := .ro, dflt := 0, clamp := .span 0 63 1, perDie := true, size := 1 },
  { name := "chain_drivers", lo := 0x7020, hi := 0x7020, slo := 1, shi := 24, ty := .u8, acc := .rws, dflt := 0, clamp := .span 0 64 1, perDie := true, size := 1 },
  { name := "scan_map", lo := 0x7030, hi := 0x7030, slo := 0, shi := 0, ty := .blob, acc := .rws, dflt := 0, clamp := .any, perDie := true, size := 4718592 },
  { name := "raster_store_kb", lo := 0x7031, hi := 0x7031, slo := 0, shi := 0, ty := .u16, acc := .rws, dflt := 4608, clamp := .span 256 9216 256, perDie := true, size := 2 },
  { name := "raster_tolerance_ns", lo := 0x7032, hi := 0x7032, slo := 0, shi := 0, ty := .u32, acc := .ro, dflt := 0xFFFFFFFF, clamp := .any, perDie := true, size := 4 },
  { name := "raster_flags", lo := 0x7033, hi := 0x7033, slo := 0, shi := 0, ty := .u8, acc := .w1c, dflt := 0, clamp := .mask 0x3F, perDie := true, size := 1 },
  { name := "rb_records", lo := 0x7034, hi := 0x7034, slo := 0, shi := 0, ty := .u32, acc := .ro, dflt := 0, clamp := .any, perDie := true, size := 4 },
  { name := "rb_mark_bad", lo := 0x7035, hi := 0x7035, slo := 0, shi := 0, ty := .u32, acc := .ro, dflt := 0, clamp := .any, perDie := true, size := 4 },
  { name := "rect_mode", lo := 0x7060, hi := 0x706F, slo := 1, shi := 1, ty := .u8, acc := .rws, dflt := 0, clamp := .oneOf [(0, 2)], perDie := true, size := 1 },
  { name := "rect_area", lo := 0x7060, hi := 0x706F, slo := 2, shi := 2, ty := .u64, acc := .rws, dflt := 0, clamp := .mask 0xFFFFFFFFFFF, perDie := true, size := 8 },
  { name := "rect_views", lo := 0x7060, hi := 0x706F, slo := 3, shi := 3, ty := .u8, acc := .rws, dflt := 255, clamp := .mask 0xFF, perDie := true, size := 1 },
  { name := "rect_expected", lo := 0x7060, hi := 0x706F, slo := 4, shi := 4, ty := .u32, acc := .rw, dflt := 0, clamp := .any, perDie := true, size := 4 },
  { name := "rect_stream_xy", lo := 0x7060, hi := 0x706F, slo := 5, shi := 5, ty := .u32, acc := .rws, dflt := 0, clamp := .any, perDie := true, size := 4 },
  { name := "rect_last", lo := 0x7060, hi := 0x706F, slo := 6, shi := 6, ty := .u32, acc := .ro, dflt := 0, clamp := .any, perDie := true, size := 4 },
  { name := "rect_checks", lo := 0x7060, hi := 0x706F, slo := 7, shi := 7, ty := .u32, acc := .ro, dflt := 0, clamp := .any, perDie := true, size := 4 },
  { name := "rect_fails", lo := 0x7060, hi := 0x706F, slo := 8, shi := 8, ty := .u32, acc := .ro, dflt := 0, clamp := .any, perDie := true, size := 4 },
  { name := "fault_confirm", lo := 0x7C00, hi := 0x7C00, slo := 0, shi := 0, ty := .u8, acc := .rw, dflt := 2, clamp := .span 1 16 1, perDie := false, size := 1 },
  { name := "fault_autoclear", lo := 0x7C01, hi := 0x7C01, slo := 0, shi := 0, ty := .u8, acc := .rw, dflt := 0, clamp := .span 0 64 1, perDie := false, size := 1 },
  { name := "fault_min_code", lo := 0x7C02, hi := 0x7C02, slo := 0, shi := 0, ty := .u16, acc := .rw, dflt := 256, clamp := .span 0 65535 1, perDie := false, size := 2 },
  { name := "fault_mask_kinds", lo := 0x7C03, hi := 0x7C03, slo := 0, shi := 0, ty := .u8, acc := .rws, dflt := 3, clamp := .mask 0x7, perDie := false, size := 1 },
  { name := "fault_drv_temp_max", lo := 0x7C04, hi := 0x7C04, slo := 0, shi := 0, ty := .i16, acc := .rw, dflt := 2000, clamp := .span (-640) 2800 1, perDie := false, size := 2 }]

/-- Rows 0x7C08 to 0x7D00. -/
def dictChain3 : List ObjDef := [
  { name := "fault_map", lo := 0x7C08, hi := 0x7C08, slo := 0, shi := 0, ty := .blob, acc := .ro, dflt := 0, clamp := .any, perDie := true, size := 589824 },
  { name := "fault_write", lo := 0x7C09, hi := 0x7C09, slo := 0, shi := 0, ty := .u32, acc := .wo, dflt := 0, clamp := .mask 0x3FFFFFF, perDie := true, size := 4 },
  { name := "fault_open_count", lo := 0x7C0A, hi := 0x7C0A, slo := 0, shi := 0, ty := .u32, acc := .ro, dflt := 0, clamp := .any, perDie := true, size := 4 },
  { name := "fault_short_count", lo := 0x7C0B, hi := 0x7C0B, slo := 0, shi := 0, ty := .u32, acc := .ro, dflt := 0, clamp := .any, perDie := true, size := 4 },
  { name := "fault_forced_count", lo := 0x7C0C, hi := 0x7C0C, slo := 0, shi := 0, ty := .u16, acc := .ro, dflt := 0, clamp := .span 0 4096 1, perDie := true, size := 2 },
  { name := "fault_new", lo := 0x7C0D, hi := 0x7C0D, slo := 0, shi := 0, ty := .u32, acc := .ro, dflt := 0, clamp := .any, perDie := true, size := 4 },
  { name := "fault_last", lo := 0x7C0E, hi := 0x7C0E, slo := 0, shi := 0, ty := .u32, acc := .ro, dflt := 0, clamp := .mask 0x3FFFFFF, perDie := true, size := 4 },
  { name := "fault_last_at", lo := 0x7C0F, hi := 0x7C0F, slo := 0, shi := 0, ty := .layt, acc := .ro, dflt := 0, clamp := .any, perDie := true, size := 12 },
  { name := "fault_unplaced", lo := 0x7C10, hi := 0x7C10, slo := 0, shi := 0, ty := .u32, acc := .ro, dflt := 0, clamp := .any, perDie := true, size := 4 },
  { name := "fault_flags", lo := 0x7C11, hi := 0x7C11, slo := 0, shi := 0, ty := .u8, acc := .w1c, dflt := 0, clamp := .mask 0xF, perDie := true, size := 1 },
  { name := "fg_map", lo := 0x7C20, hi := 0x7C20, slo := 0, shi := 0, ty := .blob, acc := .rws, dflt := 0, clamp := .any, perDie := true, size := 2359296 },
  { name := "fg_mode", lo := 0x7D00, hi := 0x7DFF, slo := 1, shi := 1, ty := .u8, acc := .rws, dflt := 0, clamp := .oneOf [(0, 2)], perDie := true, size := 1 },
  { name := "fg_threshold", lo := 0x7D00, hi := 0x7DFF, slo := 2, shi := 2, ty := .u16, acc := .rws, dflt := 1, clamp := .span 1 65535 1, perDie := true, size := 2 },
  { name := "fg_link", lo := 0x7D00, hi := 0x7DFF, slo := 3, shi := 3, ty := .u8, acc := .rws, dflt := 0, clamp := .span 0 255 1, perDie := true, size := 1 },
  { name := "fg_severity", lo := 0x7D00, hi := 0x7DFF, slo := 4, shi := 4, ty := .u8, acc := .rw, dflt := 2, clamp := .span 0 3 1, perDie := true, size := 1 },
  { name := "fg_failed", lo := 0x7D00, hi := 0x7DFF, slo := 5, shi := 5, ty := .u16, acc := .ro, dflt := 0, clamp := .any, perDie := true, size := 2 },
  { name := "fg_blanked", lo := 0x7D00, hi := 0x7DFF, slo := 6, shi := 6, ty := .bool, acc := .w1c, dflt := 0, clamp := .mask 1, perDie := true, size := 1 }]

/-- The rows of this file. -/
def dictChain : List ObjDef := dictChain1 ++ dictChain2 ++ dictChain3

end Sys2Proof.Machine
end

