-- ==== Sys2Proof/Machine/DictLamp.lean ====
section
/-! DEFINITION. The object dictionary (R73): camera and lamp correction objects. -/

namespace Sys2Proof.Machine

/-- Rows 0x5000 to 0x5100. -/
def dictLamp1 : List ObjDef := [
  { name := "cam_lanes", lo := 0x5000, hi := 0x5000, slo := 1, shi := 4, ty := .u8, acc := .rws, dflt := 4, clamp := .oneOf [(1, 1), (2, 2), (4, 4)], perDie := false, size := 1 },
  { name := "cam_inline", lo := 0x5001, hi := 0x5001, slo := 0, shi := 0, ty := .u8, acc := .rws, dflt := 255, clamp := .oneOf [(0, 15), (255, 255)], perDie := true, size := 1 },
  { name := "cam_load", lo := 0x5002, hi := 0x5002, slo := 0, shi := 0, ty := .u32, acc := .ro, dflt := 0, clamp := .span 0 1000 1, perDie := true, size := 4 },
  { name := "cam_fcam", lo := 0x5003, hi := 0x5003, slo := 0, shi := 0, ty := .u32, acc := .ro, dflt := 0, clamp := .any, perDie := true, size := 4 },
  { name := "cam_flags", lo := 0x5004, hi := 0x5004, slo := 0, shi := 0, ty := .u8, acc := .w1c, dflt := 0, clamp := .mask 0xF, perDie := true, size := 1 },
  { name := "cam_capture_pool_mb", lo := 0x5005, hi := 0x5005, slo := 0, shi := 0, ty := .u16, acc := .rws, dflt := 512, clamp := .span 64 4096 64, perDie := true, size := 2 },
  { name := "cam_bad_packets", lo := 0x5006, hi := 0x5006, slo := 1, shi := 4, ty := .u32, acc := .ro, dflt := 0, clamp := .any, perDie := false, size := 4 },
  { name := "cam_ecc_corrected", lo := 0x5007, hi := 0x5007, slo := 1, shi := 4, ty := .u32, acc := .ro, dflt := 0, clamp := .any, perDie := false, size := 4 },
  { name := "cam_enable", lo := 0x5100, hi := 0x510F, slo := 1, shi := 1, ty := .bool, acc := .rws, dflt := 0, clamp := .mask 1, perDie := false, size := 1 },
  { name := "cam_dt", lo := 0x5100, hi := 0x510F, slo := 2, shi := 2, ty := .u8, acc := .rws, dflt := 43, clamp := .oneOf [(43, 45)], perDie := false, size := 1 },
  { name := "cam_size", lo := 0x5100, hi := 0x510F, slo := 3, shi := 3, ty := .u32, acc := .rws, dflt := 0, clamp := .any, perDie := false, size := 4 },
  { name := "cam_rate_mhz", lo := 0x5100, hi := 0x510F, slo := 4, shi := 4, ty := .u32, acc := .rws, dflt := 0x7530, clamp := .span 1000 240000 1, perDie := false, size := 4 },
  { name := "cam_cfa", lo := 0x5100, hi := 0x510F, slo := 5, shi := 5, ty := .u8, acc := .rws, dflt := 0, clamp := .oneOf [(0, 4)], perDie := false, size := 1 },
  { name := "cam_output", lo := 0x5100, hi := 0x510F, slo := 6, shi := 6, ty := .u8, acc := .rws, dflt := 0, clamp := .oneOf [(0, 2)], perDie := false, size := 1 },
  { name := "cam_dump_point", lo := 0x5100, hi := 0x510F, slo := 7, shi := 7, ty := .u8, acc := .rws, dflt := 0, clamp := .oneOf [(0, 2)], perDie := false, size := 1 },
  { name := "cam_black", lo := 0x5100, hi := 0x510F, slo := 8, shi := 8, ty := .u64, acc := .rw, dflt := 0x100010001000100, clamp := .custom, perDie := false, size := 8 },
  { name := "cam_snr", lo := 0x5100, hi := 0x510F, slo := 9, shi := 9, ty := .u8, acc := .rw, dflt := 0, clamp := .span 0 15 1, perDie := false, size := 1 },
  { name := "cam_tnr", lo := 0x5100, hi := 0x510F, slo := 10, shi := 10, ty := .u8, acc := .rw, dflt := 0, clamp := .span 0 15 1, perDie := false, size := 1 },
  { name := "cam_noise", lo := 0x5100, hi := 0x510F, slo := 11, shi := 11, ty := .u32, acc := .rw, dflt := 0x100040, clamp := .any, perDie := false, size := 4 },
  { name := "cam_dyn_defect", lo := 0x5100, hi := 0x510F, slo := 12, shi := 12, ty := .u16, acc := .rw, dflt := 0, clamp := .span 0 16383 1, perDie := false, size := 2 },
  { name := "cam_wb", lo := 0x5100, hi := 0x510F, slo := 13, shi := 13, ty := .u64, acc := .rw, dflt := 0x1000100010001000, clamp := .any, perDie := false, size := 8 },
  { name := "cam_ccm", lo := 0x5100, hi := 0x510F, slo := 14, shi := 14, ty := .blob, acc := .rw, dflt := 0, clamp := .any, perDie := false, size := 18 },
  { name := "cam_primaries", lo := 0x5100, hi := 0x510F, slo := 15, shi := 15, ty := .u8, acc := .rws, dflt := 1, clamp := .oneOf [(0, 1)], perDie := false, size := 1 },
  { name := "cam_out_peak", lo := 0x5100, hi := 0x510F, slo := 16, shi := 16, ty := .u16, acc := .rws, dflt := 1000, clamp := .span 100 10000 1, perDie := false, size := 2 },
  { name := "cam_frame_timeout_ms", lo := 0x5100, hi := 0x510F, slo := 17, shi := 17, ty := .u16, acc := .rw, dflt := 100, clamp := .span 1 1000 1, perDie := false, size := 2 }]

/-- Rows 0x5100 to 0x6003. -/
def dictLamp2 : List ObjDef := [
  { name := "cam_frames", lo := 0x5100, hi := 0x510F, slo := 18, shi := 18, ty := .u32, acc := .ro, dflt := 0, clamp := .any, perDie := false, size := 4 },
  { name := "cam_drops", lo := 0x5100, hi := 0x510F, slo := 19, shi := 19, ty := .u32, acc := .ro, dflt := 0, clamp := .any, perDie := false, size := 4 },
  { name := "cam_drop_reason", lo := 0x5100, hi := 0x510F, slo := 20, shi := 20, ty := .u8, acc := .ro, dflt := 0, clamp := .span 0 8 1, perDie := false, size := 1 },
  { name := "cam_skips", lo := 0x5100, hi := 0x510F, slo := 21, shi := 21, ty := .u32, acc := .ro, dflt := 0, clamp := .any, perDie := false, size := 4 },
  { name := "cam_last_fs", lo := 0x5100, hi := 0x510F, slo := 22, shi := 22, ty := .layt, acc := .ro, dflt := 0, clamp := .any, perDie := false, size := 12 },
  { name := "cam_defects", lo := 0x5200, hi := 0x520F, slo := 1, shi := 1, ty := .blob, acc := .rws, dflt := 0, clamp := .any, perDie := false, size := 16384 },
  { name := "cam_shading", lo := 0x5200, hi := 0x520F, slo := 2, shi := 2, ty := .blob, acc := .rws, dflt := 0, clamp := .any, perDie := false, size := 6600 },
  { name := "cap_stream", lo := 0x5300, hi := 0x533F, slo := 1, shi := 1, ty := .u8, acc := .rw, dflt := 255, clamp := .oneOf [(0, 15), (255, 255)], perDie := false, size := 1 },
  { name := "cap_frame", lo := 0x5300, hi := 0x533F, slo := 2, shi := 2, ty := .u32, acc := .rw, dflt := 0, clamp := .any, perDie := false, size := 4 },
  { name := "cap_view", lo := 0x5300, hi := 0x533F, slo := 3, shi := 3, ty := .u8, acc := .rw, dflt := 0, clamp := .span 0 7 1, perDie := false, size := 1 },
  { name := "cap_offset_ns", lo := 0x5300, hi := 0x533F, slo := 4, shi := 4, ty := .i32, acc := .rw, dflt := 0, clamp := .span (-41708333) 41708333 1, perDie := false, size := 4 },
  { name := "cap_evt", lo := 0x5300, hi := 0x533F, slo := 5, shi := 5, ty := .u8, acc := .rw, dflt := 255, clamp := .oneOf [(0, 3), (255, 255)], perDie := false, size := 1 },
  { name := "cap_width_ns", lo := 0x5300, hi := 0x533F, slo := 6, shi := 6, ty := .u32, acc := .rw, dflt := 1000, clamp := .span 4 41708333 1, perDie := false, size := 4 },
  { name := "cap_window_us", lo := 0x5300, hi := 0x533F, slo := 7, shi := 7, ty := .u32, acc := .rw, dflt := 0x186A0, clamp := .span 1 1000000 1, perDie := false, size := 4 },
  { name := "cap_arm", lo := 0x5300, hi := 0x533F, slo := 8, shi := 8, ty := .bool, acc := .wo, dflt := 0, clamp := .mask 1, perDie := false, size := 1 },
  { name := "cap_state", lo := 0x5300, hi := 0x533F, slo := 9, shi := 9, ty := .u8, acc := .ro, dflt := 0, clamp := .span 0 5 1, perDie := false, size := 1 },
  { name := "cap_reason", lo := 0x5300, hi := 0x533F, slo := 10, shi := 10, ty := .u8, acc := .ro, dflt := 0, clamp := .span 0 7 1, perDie := false, size := 1 },
  { name := "cap_trigger_at", lo := 0x5300, hi := 0x533F, slo := 11, shi := 11, ty := .layt, acc := .ro, dflt := 0, clamp := .any, perDie := false, size := 12 },
  { name := "cap_fs_at", lo := 0x5300, hi := 0x533F, slo := 12, shi := 12, ty := .layt, acc := .ro, dflt := 0, clamp := .any, perDie := false, size := 12 },
  { name := "cap_data", lo := 0x5300, hi := 0x533F, slo := 13, shi := 13, ty := .blob, acc := .ro, dflt := 0, clamp := .any, perDie := false, size := 0 },
  { name := "cap_release", lo := 0x5300, hi := 0x533F, slo := 14, shi := 14, ty := .bool, acc := .wo, dflt := 0, clamp := .mask 1, perDie := false, size := 1 },
  { name := "splice_desc", lo := 0x6000, hi := 0x6000, slo := 0, shi := 0, ty := .blob, acc := .rws, dflt := 0, clamp := .any, perDie := false, size := 32 },
  { name := "splice_rx_kb", lo := 0x6001, hi := 0x6001, slo := 0, shi := 0, ty := .u16, acc := .rws, dflt := 6144, clamp := .span 512 12288 256, perDie := true, size := 2 },
  { name := "corr_rect", lo := 0x6002, hi := 0x6002, slo := 0, shi := 0, ty := .u64, acc := .rws, dflt := 0, clamp := .any, perDie := true, size := 8 },
  { name := "corr_lamps", lo := 0x6003, hi := 0x6003, slo := 0, shi := 0, ty := .u8, acc := .rws, dflt := 3, clamp := .span 3 4 1, perDie := true, size := 1 }]

/-- Rows 0x6004 to 0x6046. -/
def dictLamp3 : List ObjDef := [
  { name := "corr_peak_cdm2", lo := 0x6004, hi := 0x6004, slo := 0, shi := 0, ty := .u16, acc := .rws, dflt := 1000, clamp := .span 100 10000 1, perDie := false, size := 2 },
  { name := "corr_brightness", lo := 0x6005, hi := 0x6005, slo := 0, shi := 0, ty := .u32, acc := .rws, dflt := 0x10000, clamp := .span 0 65536 1, perDie := false, size := 4 },
  { name := "corr_dither", lo := 0x6006, hi := 0x6006, slo := 0, shi := 0, ty := .u8, acc := .rws, dflt := 2, clamp := .oneOf [(0, 2)], perDie := false, size := 1 },
  { name := "pq_lut_user", lo := 0x6007, hi := 0x6007, slo := 0, shi := 0, ty := .bool, acc := .rws, dflt := 0, clamp := .mask 1, perDie := false, size := 1 },
  { name := "pq_lut", lo := 0x6008, hi := 0x6008, slo := 0, shi := 0, ty := .blob, acc := .rws, dflt := 0, clamp := .any, perDie := false, size := 4096 },
  { name := "corr_set_id", lo := 0x6010, hi := 0x6010, slo := 0, shi := 0, ty := .u32, acc := .rws, dflt := 0, clamp := .any, perDie := true, size := 4 },
  { name := "corr_set_single", lo := 0x6011, hi := 0x6011, slo := 0, shi := 0, ty := .bool, acc := .rws, dflt := 0, clamp := .mask 1, perDie := true, size := 1 },
  { name := "corr_drive_lo", lo := 0x6012, hi := 0x6012, slo := 0, shi := 0, ty := .u16, acc := .rws, dflt := 6554, clamp := .span 0 65535 1, perDie := true, size := 2 },
  { name := "corr_drive_hi", lo := 0x6013, hi := 0x6013, slo := 0, shi := 0, ty := .u16, acc := .rws, dflt := 0xE666, clamp := .span 1 65535 1, perDie := true, size := 2 },
  { name := "corr_set_records", lo := 0x6014, hi := 0x6014, slo := 0, shi := 0, ty := .blob, acc := .rws, dflt := 0, clamp := .any, perDie := true, size := 14155776 },
  { name := "corr_patch", lo := 0x6015, hi := 0x6015, slo := 0, shi := 0, ty := .blob, acc := .wo, dflt := 0, clamp := .any, perDie := true, size := 52 },
  { name := "corr_patches_pending", lo := 0x6016, hi := 0x6016, slo := 0, shi := 0, ty := .u8, acc := .ro, dflt := 0, clamp := .span 0 64 1, perDie := true, size := 1 },
  { name := "corr_status", lo := 0x6017, hi := 0x6017, slo := 0, shi := 0, ty := .u8, acc := .ro, dflt := 2, clamp := .mask 0x3, perDie := true, size := 1 },
  { name := "derate_knee", lo := 0x6020, hi := 0x6020, slo := 0, shi := 0, ty := .i16, acc := .rws, dflt := 960, clamp := .span (-640) 2400 1, perDie := true, size := 2 },
  { name := "derate_slope", lo := 0x6021, hi := 0x6021, slo := 0, shi := 0, ty := .u16, acc := .rws, dflt := 200, clamp := .span 0 10000 1, perDie := true, size := 2 },
  { name := "derate_floor", lo := 0x6022, hi := 0x6022, slo := 0, shi := 0, ty := .u16, acc := .rws, dflt := 300, clamp := .span 0 1000 1, perDie := true, size := 2 },
  { name := "zone_temp_tau_ms", lo := 0x6023, hi := 0x6023, slo := 0, shi := 0, ty := .u16, acc := .rw, dflt := 1000, clamp := .span 0 60000 1, perDie := true, size := 2 },
  { name := "out_curve", lo := 0x6030, hi := 0x6033, slo := 0, shi := 0, ty := .blob, acc := .rws, dflt := 0, clamp := .any, perDie := true, size := 16384 },
  { name := "check_flags", lo := 0x6040, hi := 0x6040, slo := 0, shi := 0, ty := .u8, acc := .w1c, dflt := 0, clamp := .mask 0x7, perDie := false, size := 1 },
  { name := "check_passes", lo := 0x6041, hi := 0x6041, slo := 0, shi := 0, ty := .u32, acc := .ro, dflt := 0, clamp := .any, perDie := false, size := 4 },
  { name := "check_fails", lo := 0x6042, hi := 0x6042, slo := 0, shi := 0, ty := .u32, acc := .ro, dflt := 0, clamp := .any, perDie := false, size := 4 },
  { name := "check_last_reason", lo := 0x6043, hi := 0x6043, slo := 0, shi := 0, ty := .u8, acc := .ro, dflt := 0, clamp := .span 0 5 1, perDie := false, size := 1 },
  { name := "check_last_frame", lo := 0x6044, hi := 0x6044, slo := 0, shi := 0, ty := .u32, acc := .ro, dflt := 0, clamp := .any, perDie := false, size := 4 },
  { name := "check_last_view", lo := 0x6045, hi := 0x6045, slo := 0, shi := 0, ty := .u8, acc := .ro, dflt := 0, clamp := .span 0 7 1, perDie := false, size := 1 },
  { name := "check_last_crc", lo := 0x6046, hi := 0x6046, slo := 0, shi := 0, ty := .u32, acc := .ro, dflt := 0, clamp := .any, perDie := false, size := 4 }]

/-- Rows 0x6047 to 0x6101. -/
def dictLamp4 : List ObjDef := [
  { name := "check_last_expected", lo := 0x6047, hi := 0x6047, slo := 0, shi := 0, ty := .u32, acc := .ro, dflt := 0, clamp := .any, perDie := false, size := 4 },
  { name := "corr_flags", lo := 0x6048, hi := 0x6048, slo := 0, shi := 0, ty := .u8, acc := .w1c, dflt := 0, clamp := .mask 0x3, perDie := true, size := 1 },
  { name := "corr_clips", lo := 0x6049, hi := 0x6049, slo := 0, shi := 0, ty := .u32, acc := .ro, dflt := 0, clamp := .any, perDie := true, size := 4 },
  { name := "zone_rect", lo := 0x6100, hi := 0x6100, slo := 1, shi := 1, ty := .u64, acc := .rws, dflt := 0x4000400000000000, clamp := .any, perDie := true, size := 8 },
  { name := "zone_temp_src", lo := 0x6100, hi := 0x613F, slo := 2, shi := 2, ty := .u64, acc := .rws, dflt := 0, clamp := .any, perDie := true, size := 8 },
  { name := "zone_temp_offset", lo := 0x6100, hi := 0x613F, slo := 3, shi := 3, ty := .i16, acc := .rws, dflt := 0, clamp := .span (-1600) 1600 1, perDie := true, size := 2 },
  { name := "zone_matrix", lo := 0x6100, hi := 0x613F, slo := 4, shi := 4, ty := .blob, acc := .rws, dflt := 0, clamp := .any, perDie := true, size := 164 },
  { name := "zone_temp", lo := 0x6100, hi := 0x613F, slo := 5, shi := 5, ty := .i16, acc := .ro, dflt := 0, clamp := .any, perDie := true, size := 2 },
  { name := "zone_derate", lo := 0x6100, hi := 0x613F, slo := 6, shi := 6, ty := .u16, acc := .ro, dflt := 0xFFFF, clamp := .span 0 65535 1, perDie := true, size := 2 },
  { name := "zone_rect", lo := 0x6101, hi := 0x613F, slo := 1, shi := 1, ty := .u64, acc := .rws, dflt := 0, clamp := .any, perDie := true, size := 8 }]

/-- The rows of this file. -/
def dictLamp : List ObjDef := dictLamp1 ++ dictLamp2 ++ dictLamp3 ++ dictLamp4

end Sys2Proof.Machine
end

