-- ==== Sys2Proof/Machine/DictLane.lean ====
section
/-! DEFINITION. The object dictionary (R73): Hawser lane, cell and knot objects. -/

namespace Sys2Proof.Machine

/-- Rows 0x2000 to 0x2024. -/
def dictLane1 : List ObjDef := [
  { name := "lane_group_cfg", lo := 0x2000, hi := 0x2000, slo := 0, shi := 0, ty := .u8, acc := .rws, dflt := 0, clamp := .custom, perDie := true, size := 1 },
  { name := "lane_enable", lo := 0x2001, hi := 0x2001, slo := 1, shi := 8, ty := .bool, acc := .rwp, dflt := 1, clamp := .mask 1, perDie := true, size := 1 },
  { name := "lane_tx_preset", lo := 0x2002, hi := 0x2002, slo := 1, shi := 8, ty := .u8, acc := .rwp, dflt := 2, clamp := .oneOf [(0, 7)], perDie := true, size := 1 },
  { name := "lane_tx_ffe", lo := 0x2003, hi := 0x2003, slo := 1, shi := 8, ty := .u32, acc := .rwp, dflt := 0x3E635FF1, clamp := .mask 0x3FFFFFFF, perDie := true, size := 4 },
  { name := "lane_tx_polarity", lo := 0x2004, hi := 0x2004, slo := 1, shi := 8, ty := .bool, acc := .rwp, dflt := 0, clamp := .mask 1, perDie := true, size := 1 },
  { name := "lane_rx_polarity", lo := 0x2005, hi := 0x2005, slo := 1, shi := 8, ty := .bool, acc := .ro, dflt := 0, clamp := .mask 1, perDie := true, size := 1 },
  { name := "lane_state", lo := 0x2006, hi := 0x2006, slo := 1, shi := 8, ty := .u8, acc := .ro, dflt := 0, clamp := .mask 0x7F, perDie := true, size := 1 },
  { name := "lane_peer", lo := 0x2007, hi := 0x2007, slo := 1, shi := 8, ty := .u32, acc := .ro, dflt := 0, clamp := .any, perDie := true, size := 4 },
  { name := "lane_sleep", lo := 0x2008, hi := 0x2008, slo := 1, shi := 8, ty := .u8, acc := .rw, dflt := 0, clamp := .mask 0x3, perDie := true, size := 1 },
  { name := "lane_auto_wake", lo := 0x2009, hi := 0x2009, slo := 1, shi := 8, ty := .bool, acc := .rw, dflt := 1, clamp := .mask 1, perDie := true, size := 1 },
  { name := "lane_maps", lo := 0x200A, hi := 0x200A, slo := 1, shi := 8, ty := .u8, acc := .ro, dflt := 0, clamp := .any, perDie := true, size := 1 },
  { name := "lane_fec_corrected", lo := 0x2010, hi := 0x2010, slo := 1, shi := 8, ty := .u64, acc := .ro, dflt := 0, clamp := .any, perDie := true, size := 8 },
  { name := "lane_fec_uncorrected", lo := 0x2011, hi := 0x2011, slo := 1, shi := 8, ty := .u32, acc := .ro, dflt := 0, clamp := .any, perDie := true, size := 4 },
  { name := "lane_bip_errors", lo := 0x2012, hi := 0x2012, slo := 1, shi := 8, ty := .u32, acc := .ro, dflt := 0, clamp := .any, perDie := true, size := 4 },
  { name := "lane_am_rejects", lo := 0x2013, hi := 0x2013, slo := 1, shi := 8, ty := .u32, acc := .ro, dflt := 0, clamp := .any, perDie := true, size := 4 },
  { name := "lane_lock_losses", lo := 0x2014, hi := 0x2014, slo := 1, shi := 8, ty := .u32, acc := .ro, dflt := 0, clamp := .any, perDie := true, size := 4 },
  { name := "lane_ser", lo := 0x2015, hi := 0x2015, slo := 1, shi := 8, ty := .u32, acc := .ro, dflt := 0, clamp := .any, perDie := true, size := 4 },
  { name := "lane_degrade_ser", lo := 0x2016, hi := 0x2016, slo := 0, shi := 0, ty := .u32, acc := .rwp, dflt := 0x2710, clamp := .span 10 1000000 1, perDie := true, size := 4 },
  { name := "lane_drop_ucw", lo := 0x2017, hi := 0x2017, slo := 0, shi := 0, ty := .u16, acc := .rwp, dflt := 4, clamp := .span 1 1000 1, perDie := true, size := 2 },
  { name := "lane_flags", lo := 0x2018, hi := 0x2018, slo := 1, shi := 8, ty := .u8, acc := .w1c, dflt := 0, clamp := .mask 0x7F, perDie := true, size := 1 },
  { name := "lane_loop", lo := 0x2020, hi := 0x2020, slo := 1, shi := 8, ty := .u8, acc := .rw, dflt := 0, clamp := .oneOf [(0, 3)], perDie := true, size := 1 },
  { name := "fe_loop_allow", lo := 0x2021, hi := 0x2021, slo := 0, shi := 0, ty := .bool, acc := .rw, dflt := 0, clamp := .mask 1, perDie := true, size := 1 },
  { name := "prbs_gen", lo := 0x2022, hi := 0x2022, slo := 1, shi := 8, ty := .u8, acc := .rw, dflt := 0, clamp := .oneOf [(0, 6)], perDie := true, size := 1 },
  { name := "prbs_chk", lo := 0x2023, hi := 0x2023, slo := 1, shi := 8, ty := .u8, acc := .rw, dflt := 0, clamp := .oneOf [(0, 6)], perDie := true, size := 1 },
  { name := "prbs_errors", lo := 0x2024, hi := 0x2024, slo := 1, shi := 8, ty := .u64, acc := .ro, dflt := 0, clamp := .any, perDie := true, size := 8 }]

/-- Rows 0x2025 to 0x2823. -/
def dictLane2 : List ObjDef := [
  { name := "prbs_bits", lo := 0x2025, hi := 0x2025, slo := 1, shi := 8, ty := .u64, acc := .ro, dflt := 0, clamp := .any, perDie := true, size := 8 },
  { name := "prbs_sync", lo := 0x2026, hi := 0x2026, slo := 1, shi := 8, ty := .u8, acc := .ro, dflt := 0, clamp := .span 0 2 1, perDie := true, size := 1 },
  { name := "prbs_resyncs", lo := 0x2027, hi := 0x2027, slo := 1, shi := 8, ty := .u32, acc := .ro, dflt := 0, clamp := .any, perDie := true, size := 4 },
  { name := "lane_pair_mode", lo := 0x2030, hi := 0x2030, slo := 0, shi := 0, ty := .u8, acc := .rwp, dflt := 0, clamp := .oneOf [(0, 2)], perDie := true, size := 1 },
  { name := "eth_an_enable", lo := 0x2031, hi := 0x2031, slo := 0, shi := 0, ty := .bool, acc := .rwp, dflt := 1, clamp := .mask 1, perDie := true, size := 1 },
  { name := "eth_link_state", lo := 0x2032, hi := 0x2032, slo := 0, shi := 0, ty := .u8, acc := .ro, dflt := 0, clamp := .span 0 3 1, perDie := true, size := 1 },
  { name := "eth_mac", lo := 0x2033, hi := 0x2033, slo := 0, shi := 0, ty := .u64, acc := .ro, dflt := 0, clamp := .mask 0xFFFFFFFFFFFF, perDie := true, size := 8 },
  { name := "eth_frames_dropped", lo := 0x2034, hi := 0x2034, slo := 0, shi := 0, ty := .u32, acc := .ro, dflt := 0, clamp := .any, perDie := true, size := 4 },
  { name := "port_role", lo := 0x2800, hi := 0x2800, slo := 1, shi := 8, ty := .u8, acc := .rwp, dflt := 0, clamp := .oneOf [(0, 2)], perDie := true, size := 1 },
  { name := "fwd_up_port", lo := 0x2801, hi := 0x2801, slo := 0, shi := 0, ty := .u8, acc := .ro, dflt := 255, clamp := .any, perDie := false, size := 1 },
  { name := "fwd_down_port", lo := 0x2802, hi := 0x2802, slo := 0, shi := 0, ty := .u8, acc := .rwp, dflt := 255, clamp := .any, perDie := false, size := 1 },
  { name := "fwd_flags", lo := 0x2803, hi := 0x2803, slo := 0, shi := 0, ty := .u8, acc := .w1c, dflt := 0, clamp := .mask 0xF, perDie := false, size := 1 },
  { name := "cell_rx", lo := 0x2810, hi := 0x2810, slo := 1, shi := 8, ty := .u64, acc := .ro, dflt := 0, clamp := .any, perDie := true, size := 8 },
  { name := "cell_tx", lo := 0x2811, hi := 0x2811, slo := 1, shi := 8, ty := .u64, acc := .ro, dflt := 0, clamp := .any, perDie := true, size := 8 },
  { name := "cell_crc_errors", lo := 0x2812, hi := 0x2812, slo := 1, shi := 8, ty := .u32, acc := .ro, dflt := 0, clamp := .any, perDie := true, size := 4 },
  { name := "cell_stomped", lo := 0x2813, hi := 0x2813, slo := 1, shi := 8, ty := .u32, acc := .ro, dflt := 0, clamp := .any, perDie := true, size := 4 },
  { name := "cell_bad_header", lo := 0x2814, hi := 0x2814, slo := 1, shi := 8, ty := .u32, acc := .ro, dflt := 0, clamp := .any, perDie := true, size := 4 },
  { name := "cell_framing_losses", lo := 0x2815, hi := 0x2815, slo := 1, shi := 8, ty := .u32, acc := .ro, dflt := 0, clamp := .any, perDie := true, size := 4 },
  { name := "fwd_drops", lo := 0x2816, hi := 0x2816, slo := 1, shi := 8, ty := .u32, acc := .ro, dflt := 0, clamp := .any, perDie := true, size := 4 },
  { name := "fwd_stray", lo := 0x2817, hi := 0x2817, slo := 1, shi := 8, ty := .u32, acc := .ro, dflt := 0, clamp := .any, perDie := true, size := 4 },
  { name := "splice_rx_drops", lo := 0x2818, hi := 0x2818, slo := 0, shi := 0, ty := .u32, acc := .ro, dflt := 0, clamp := .any, perDie := true, size := 4 },
  { name := "enum_id_first", lo := 0x2820, hi := 0x2820, slo := 0, shi := 0, ty := .u16, acc := .rwp, dflt := 0, clamp := .span 0 1023 1, perDie := false, size := 2 },
  { name := "enum_id_last", lo := 0x2821, hi := 0x2821, slo := 0, shi := 0, ty := .u16, acc := .rwp, dflt := 1023, clamp := .span 0 1023 1, perDie := false, size := 2 },
  { name := "enum_period_s", lo := 0x2822, hi := 0x2822, slo := 0, shi := 0, ty := .u16, acc := .rwp, dflt := 10, clamp := .span 0 3600 1, perDie := false, size := 2 },
  { name := "enum_start", lo := 0x2823, hi := 0x2823, slo := 0, shi := 0, ty := .bool, acc := .wo, dflt := 0, clamp := .mask 1, perDie := false, size := 1 }]

/-- Rows 0x2824 to 0x2849. -/
def dictLane3 : List ObjDef := [
  { name := "enum_count", lo := 0x2824, hi := 0x2824, slo := 1, shi := 8, ty := .u8, acc := .ro, dflt := 0, clamp := .span 0 255 1, perDie := true, size := 1 },
  { name := "enum_flags", lo := 0x2825, hi := 0x2825, slo := 0, shi := 0, ty := .u8, acc := .w1c, dflt := 0, clamp := .mask 0xF, perDie := false, size := 1 },
  { name := "enum_id_forget", lo := 0x2826, hi := 0x2826, slo := 0, shi := 0, ty := .bool, acc := .wo, dflt := 0, clamp := .mask 1, perDie := false, size := 1 },
  { name := "enum_head", lo := 0x2827, hi := 0x2827, slo := 0, shi := 0, ty := .u16, acc := .ro, dflt := 0xFFFF, clamp := .oneOf [(0, 1023), (65535, 65535)], perDie := false, size := 2 },
  { name := "enum_pos", lo := 0x2828, hi := 0x2828, slo := 0, shi := 0, ty := .u8, acc := .ro, dflt := 0, clamp := .span 0 255 1, perDie := false, size := 1 },
  { name := "route_nodes", lo := 0x2830, hi := 0x2830, slo := 0, shi := 0, ty := .blob, acc := .ro, dflt := 0, clamp := .any, perDie := false, size := 128 },
  { name := "relay_entries", lo := 0x2831, hi := 0x2831, slo := 0, shi := 0, ty := .u8, acc := .ro, dflt := 0, clamp := .span 0 64 1, perDie := false, size := 1 },
  { name := "knot_window_ms", lo := 0x2840, hi := 0x2840, slo := 0, shi := 0, ty := .u16, acc := .rwp, dflt := 20, clamp := .span 5 1000 5, perDie := false, size := 2 },
  { name := "knot_sink", lo := 0x2841, hi := 0x2841, slo := 0, shi := 0, ty := .u16, acc := .rwp, dflt := 0xFFFF, clamp := .oneOf [(0, 1023), (65535, 65535)], perDie := false, size := 2 },
  { name := "knot_depth", lo := 0x2842, hi := 0x2842, slo := 0, shi := 0, ty := .u16, acc := .ro, dflt := 0, clamp := .span 0 286 1, perDie := false, size := 2 },
  { name := "knot_entries", lo := 0x2843, hi := 0x2843, slo := 0, shi := 0, ty := .u8, acc := .ro, dflt := 0, clamp := .span 0 128 1, perDie := false, size := 1 },
  { name := "knot_evictions", lo := 0x2844, hi := 0x2844, slo := 0, shi := 0, ty := .u32, acc := .ro, dflt := 0, clamp := .any, perDie := false, size := 4 },
  { name := "knot_late", lo := 0x2845, hi := 0x2845, slo := 0, shi := 0, ty := .u32, acc := .ro, dflt := 0, clamp := .any, perDie := false, size := 4 },
  { name := "knot_undelivered", lo := 0x2846, hi := 0x2846, slo := 0, shi := 0, ty := .u32, acc := .ro, dflt := 0, clamp := .any, perDie := false, size := 4 },
  { name := "knot_log", lo := 0x2847, hi := 0x2847, slo := 0, shi := 0, ty := .blob, acc := .ro, dflt := 0, clamp := .any, perDie := false, size := 5376 },
  { name := "knot_ack", lo := 0x2848, hi := 0x2848, slo := 0, shi := 0, ty := .bool, acc := .wo, dflt := 0, clamp := .mask 1, perDie := false, size := 1 },
  { name := "event_seq", lo := 0x2849, hi := 0x2849, slo := 0, shi := 0, ty := .u16, acc := .ro, dflt := 0, clamp := .any, perDie := false, size := 2 }]

/-- The rows of this file. -/
def dictLane : List ObjDef := dictLane1 ++ dictLane2 ++ dictLane3

end Sys2Proof.Machine
end

