-- ==== Sys2Proof/Machine/DictPart.lean ====
section
/-! DEFINITION. The object dictionary (R73): identity, part, Corrix and Lay time objects. -/

namespace Sys2Proof.Machine

/-- Rows 0x1000 to 0x1127. -/
def dictPart1 : List ObjDef := [
  { name := "identity", lo := 0x1000, hi := 0x1000, slo := 0, shi := 0, ty := .u32, acc := .ro, dflt := 0, clamp := .any, perDie := false, size := 4 },
  { name := "die_count", lo := 0x1001, hi := 0x1001, slo := 0, shi := 0, ty := .u8, acc := .ro, dflt := 0, clamp := .oneOf [(2, 2), (4, 4), (8, 8)], perDie := false, size := 1 },
  { name := "dies_alive", lo := 0x1002, hi := 0x1002, slo := 0, shi := 0, ty := .u8, acc := .ro, dflt := 1, clamp := .span 0 255 1, perDie := false, size := 1 },
  { name := "role_mode", lo := 0x1010, hi := 0x1010, slo := 0, shi := 0, ty := .u8, acc := .rwp, dflt := 0, clamp := .oneOf [(0, 2)], perDie := false, size := 1 },
  { name := "role_active", lo := 0x1011, hi := 0x1011, slo := 0, shi := 0, ty := .u8, acc := .ro, dflt := 0, clamp := .span 0 2 1, perDie := false, size := 1 },
  { name := "node_id", lo := 0x1012, hi := 0x1012, slo := 0, shi := 0, ty := .u16, acc := .ro, dflt := 0xFFFF, clamp := .oneOf [(0, 1023), (65535, 65535)], perDie := false, size := 2 },
  { name := "chain_demand", lo := 0x1020, hi := 0x1020, slo := 0, shi := 0, ty := .u32, acc := .ro, dflt := 0, clamp := .any, perDie := true, size := 4 },
  { name := "compose_demand", lo := 0x1021, hi := 0x1021, slo := 0, shi := 0, ty := .u32, acc := .ro, dflt := 0, clamp := .any, perDie := true, size := 4 },
  { name := "corrix_udp_port", lo := 0x1100, hi := 0x1100, slo := 0, shi := 0, ty := .u16, acc := .rwp, dflt := 0x7045, clamp := .span 1024 65535 1, perDie := false, size := 2 },
  { name := "mgmt_ip_mode", lo := 0x1101, hi := 0x1101, slo := 0, shi := 0, ty := .u8, acc := .rwp, dflt := 1, clamp := .oneOf [(0, 1)], perDie := false, size := 1 },
  { name := "mgmt_ip_static", lo := 0x1102, hi := 0x1102, slo := 0, shi := 0, ty := .u32, acc := .rwp, dflt := 0, clamp := .any, perDie := false, size := 4 },
  { name := "mgmt_ip_mask", lo := 0x1103, hi := 0x1103, slo := 0, shi := 0, ty := .u32, acc := .rwp, dflt := 0xFFFFFF00, clamp := .any, perDie := false, size := 4 },
  { name := "mgmt_gateway", lo := 0x1104, hi := 0x1104, slo := 0, shi := 0, ty := .u32, acc := .rwp, dflt := 0, clamp := .any, perDie := false, size := 4 },
  { name := "mgmt_ip_current", lo := 0x1105, hi := 0x1105, slo := 0, shi := 0, ty := .u32, acc := .ro, dflt := 0, clamp := .any, perDie := false, size := 4 },
  { name := "mgmt_mac", lo := 0x1106, hi := 0x1106, slo := 0, shi := 0, ty := .u64, acc := .ro, dflt := 0, clamp := .mask 0xFFFFFFFFFFFF, perDie := false, size := 8 },
  { name := "event_dest", lo := 0x1110, hi := 0x1110, slo := 0, shi := 0, ty := .u64, acc := .rwp, dflt := 0, clamp := .mask 0xFFFFFFFFFFFF, perDie := false, size := 8 },
  { name := "blob_idle_s", lo := 0x1111, hi := 0x1111, slo := 0, shi := 0, ty := .u16, acc := .rw, dflt := 30, clamp := .span 5 600 5, perDie := false, size := 2 },
  { name := "commit_state", lo := 0x1120, hi := 0x1120, slo := 0, shi := 0, ty := .u8, acc := .ro, dflt := 0, clamp := .span 0 4 1, perDie := false, size := 1 },
  { name := "commit_id", lo := 0x1121, hi := 0x1121, slo := 0, shi := 0, ty := .u32, acc := .ro, dflt := 0, clamp := .any, perDie := false, size := 4 },
  { name := "commit_epoch", lo := 0x1122, hi := 0x1122, slo := 0, shi := 0, ty := .u32, acc := .ro, dflt := 0, clamp := .any, perDie := false, size := 4 },
  { name := "commit_launch", lo := 0x1123, hi := 0x1123, slo := 0, shi := 0, ty := .layt, acc := .ro, dflt := 0, clamp := .any, perDie := false, size := 12 },
  { name := "commit_applied_at", lo := 0x1124, hi := 0x1124, slo := 0, shi := 0, ty := .layt, acc := .ro, dflt := 0, clamp := .any, perDie := false, size := 12 },
  { name := "commit_refuse_mask", lo := 0x1125, hi := 0x1125, slo := 0, shi := 0, ty := .u8, acc := .ro, dflt := 0, clamp := .span 0 255 1, perDie := false, size := 1 },
  { name := "commit_refuse_reason", lo := 0x1126, hi := 0x1126, slo := 0, shi := 0, ty := .u8, acc := .ro, dflt := 0, clamp := .any, perDie := true, size := 1 },
  { name := "commit_flags", lo := 0x1127, hi := 0x1127, slo := 0, shi := 0, ty := .u8, acc := .w1c, dflt := 0, clamp := .mask 0x3, perDie := false, size := 1 }]

/-- Rows 0x1128 to 0x1213. -/
def dictPart2 : List ObjDef := [
  { name := "commit_refuse_codes", lo := 0x1128, hi := 0x1128, slo := 0, shi := 0, ty := .blob, acc := .ro, dflt := 0, clamp := .any, perDie := true, size := 16 },
  { name := "corrix_requests", lo := 0x1130, hi := 0x1130, slo := 1, shi := 1, ty := .u32, acc := .ro, dflt := 0, clamp := .any, perDie := false, size := 4 },
  { name := "corrix_crc_drops", lo := 0x1130, hi := 0x1130, slo := 2, shi := 2, ty := .u32, acc := .ro, dflt := 0, clamp := .any, perDie := false, size := 4 },
  { name := "corrix_malformed", lo := 0x1130, hi := 0x1130, slo := 3, shi := 3, ty := .u32, acc := .ro, dflt := 0, clamp := .any, perDie := false, size := 4 },
  { name := "corrix_dup_replays", lo := 0x1130, hi := 0x1130, slo := 4, shi := 4, ty := .u32, acc := .ro, dflt := 0, clamp := .any, perDie := false, size := 4 },
  { name := "corrix_busy", lo := 0x1130, hi := 0x1130, slo := 5, shi := 5, ty := .u32, acc := .ro, dflt := 0, clamp := .any, perDie := false, size := 4 },
  { name := "corrix_unreachable", lo := 0x1130, hi := 0x1130, slo := 6, shi := 6, ty := .u32, acc := .ro, dflt := 0, clamp := .any, perDie := false, size := 4 },
  { name := "corrix_orphan_resp", lo := 0x1130, hi := 0x1130, slo := 7, shi := 7, ty := .u32, acc := .ro, dflt := 0, clamp := .any, perDie := false, size := 4 },
  { name := "corrix_sessions", lo := 0x1131, hi := 0x1131, slo := 0, shi := 0, ty := .u8, acc := .ro, dflt := 0, clamp := .span 0 16 1, perDie := false, size := 1 },
  { name := "lay_now", lo := 0x1200, hi := 0x1200, slo := 0, shi := 0, ty := .layt, acc := .ro, dflt := 0, clamp := .any, perDie := false, size := 12 },
  { name := "lay_rank", lo := 0x1201, hi := 0x1201, slo := 0, shi := 0, ty := .u8, acc := .rwp, dflt := 0, clamp := .oneOf [(0, 2)], perDie := false, size := 1 },
  { name := "lay_state", lo := 0x1202, hi := 0x1202, slo := 0, shi := 0, ty := .u8, acc := .ro, dflt := 0, clamp := .span 0 4 1, perDie := false, size := 1 },
  { name := "lay_root_node", lo := 0x1203, hi := 0x1203, slo := 0, shi := 0, ty := .u16, acc := .ro, dflt := 0xFFFF, clamp := .oneOf [(0, 1023), (65535, 65535)], perDie := false, size := 2 },
  { name := "lay_root_gen", lo := 0x1204, hi := 0x1204, slo := 0, shi := 0, ty := .u16, acc := .ro, dflt := 0, clamp := .any, perDie := false, size := 2 },
  { name := "lay_hops", lo := 0x1205, hi := 0x1205, slo := 0, shi := 0, ty := .u16, acc := .ro, dflt := 0xFFFF, clamp := .oneOf [(0, 1022), (65535, 65535)], perDie := false, size := 2 },
  { name := "lay_upstream", lo := 0x1206, hi := 0x1206, slo := 0, shi := 0, ty := .u8, acc := .ro, dflt := 255, clamp := .any, perDie := false, size := 1 },
  { name := "lay_offset_ps", lo := 0x1207, hi := 0x1207, slo := 0, shi := 0, ty := .i32, acc := .ro, dflt := 0, clamp := .any, perDie := false, size := 4 },
  { name := "lay_freq_adj", lo := 0x1208, hi := 0x1208, slo := 0, shi := 0, ty := .i32, acc := .ro, dflt := 0, clamp := .any, perDie := false, size := 4 },
  { name := "lay_servo_bw", lo := 0x1209, hi := 0x1209, slo := 0, shi := 0, ty := .u8, acc := .rwp, dflt := 2, clamp := .oneOf [(0, 3)], perDie := false, size := 1 },
  { name := "lay_cells_bad", lo := 0x120A, hi := 0x120A, slo := 0, shi := 0, ty := .u32, acc := .ro, dflt := 0, clamp := .any, perDie := false, size := 4 },
  { name := "lay_flags", lo := 0x120B, hi := 0x120B, slo := 0, shi := 0, ty := .u16, acc := .w1c, dflt := 0, clamp := .mask 0x7FF, perDie := false, size := 2 },
  { name := "lay_ref_priority", lo := 0x1210, hi := 0x1210, slo := 0, shi := 0, ty := .u16, acc := .rwp, dflt := 5, clamp := .custom, perDie := false, size := 2 },
  { name := "lay_ref_selected", lo := 0x1211, hi := 0x1211, slo := 0, shi := 0, ty := .u8, acc := .ro, dflt := 5, clamp := .span 0 5 1, perDie := false, size := 1 },
  { name := "lay_ref_qualified", lo := 0x1212, hi := 0x1212, slo := 0, shi := 0, ty := .u8, acc := .ro, dflt := 32, clamp := .mask 0x3E, perDie := false, size := 1 },
  { name := "lay_ref_revert", lo := 0x1213, hi := 0x1213, slo := 0, shi := 0, ty := .bool, acc := .rwp, dflt := 0, clamp := .mask 1, perDie := false, size := 1 }]

/-- Rows 0x1214 to 0x1241. -/
def dictPart3 : List ObjDef := [
  { name := "lay_drift_ppb", lo := 0x1214, hi := 0x1214, slo := 0, shi := 0, ty := .u32, acc := .rwp, dflt := 2000, clamp := .span 100 100000 1, perDie := false, size := 4 },
  { name := "lay_drift_dwell_s", lo := 0x1215, hi := 0x1215, slo := 0, shi := 0, ty := .u16, acc := .rwp, dflt := 10, clamp := .span 1 600 1, perDie := false, size := 2 },
  { name := "lay_root_bw_mhz", lo := 0x1216, hi := 0x1216, slo := 0, shi := 0, ty := .u16, acc := .rwp, dflt := 100, clamp := .span 10 10000 1, perDie := false, size := 2 },
  { name := "lay_ref_qual_s", lo := 0x1217, hi := 0x1217, slo := 0, shi := 0, ty := .u8, acc := .rwp, dflt := 5, clamp := .span 1 60 1, perDie := false, size := 1 },
  { name := "lay_root_loss_ms", lo := 0x1218, hi := 0x1218, slo := 0, shi := 0, ty := .u16, acc := .rwp, dflt := 2, clamp := .span 1 1000 1, perDie := false, size := 2 },
  { name := "lay_root_handback", lo := 0x1219, hi := 0x1219, slo := 0, shi := 0, ty := .bool, acc := .wo, dflt := 0, clamp := .mask 1, perDie := false, size := 1 },
  { name := "lay_wall_class", lo := 0x1220, hi := 0x1220, slo := 0, shi := 0, ty := .u8, acc := .rwp, dflt := 0, clamp := .oneOf [(0, 2)], perDie := false, size := 1 },
  { name := "lay_step_threshold_ns", lo := 0x1221, hi := 0x1221, slo := 0, shi := 0, ty := .u32, acc := .rwp, dflt := 1000, clamp := .span 10 1000000000 1, perDie := false, size := 4 },
  { name := "lay_slew_ppb", lo := 0x1222, hi := 0x1222, slo := 0, shi := 0, ty := .u32, acc := .rwp, dflt := 5000, clamp := .span 100 100000 1, perDie := false, size := 4 },
  { name := "lay_step_pending_mag", lo := 0x1223, hi := 0x1223, slo := 1, shi := 1, ty := .layt, acc := .ro, dflt := 0, clamp := .any, perDie := false, size := 12 },
  { name := "lay_step_pending_neg", lo := 0x1223, hi := 0x1223, slo := 2, shi := 2, ty := .bool, acc := .ro, dflt := 0, clamp := .mask 1, perDie := false, size := 1 },
  { name := "lay_step_at", lo := 0x1223, hi := 0x1223, slo := 3, shi := 3, ty := .layt, acc := .ro, dflt := 0, clamp := .any, perDie := false, size := 12 },
  { name := "lay_step_accept", lo := 0x1224, hi := 0x1224, slo := 0, shi := 0, ty := .bool, acc := .wo, dflt := 0, clamp := .mask 1, perDie := false, size := 1 },
  { name := "lay_step_last_at", lo := 0x1225, hi := 0x1225, slo := 1, shi := 1, ty := .layt, acc := .ro, dflt := 0, clamp := .any, perDie := false, size := 12 },
  { name := "lay_step_last_mag", lo := 0x1225, hi := 0x1225, slo := 2, shi := 2, ty := .layt, acc := .ro, dflt := 0, clamp := .any, perDie := false, size := 12 },
  { name := "lay_step_last_neg", lo := 0x1225, hi := 0x1225, slo := 3, shi := 3, ty := .bool, acc := .ro, dflt := 0, clamp := .mask 1, perDie := false, size := 1 },
  { name := "lay_time_set", lo := 0x1226, hi := 0x1226, slo := 0, shi := 0, ty := .layt, acc := .wo, dflt := 0, clamp := .any, perDie := false, size := 12 },
  { name := "lay_epoch_tai", lo := 0x1227, hi := 0x1227, slo := 0, shi := 0, ty := .bool, acc := .ro, dflt := 0, clamp := .mask 1, perDie := false, size := 1 },
  { name := "lay_utc_offset", lo := 0x1228, hi := 0x1228, slo := 0, shi := 0, ty := .i16, acc := .ro, dflt := 0, clamp := .any, perDie := false, size := 2 },
  { name := "lay_port_skew_ps", lo := 0x1230, hi := 0x1230, slo := 1, shi := 8, ty := .i32, acc := .rwp, dflt := 0, clamp := .span (-100000) 100000 1, perDie := true, size := 4 },
  { name := "lay_lane_tx_ps", lo := 0x1231, hi := 0x1231, slo := 1, shi := 8, ty := .u32, acc := .ro, dflt := 0, clamp := .any, perDie := true, size := 4 },
  { name := "lay_lane_rx_ps", lo := 0x1232, hi := 0x1232, slo := 1, shi := 8, ty := .u32, acc := .ro, dflt := 0, clamp := .any, perDie := true, size := 4 },
  { name := "lay_port_delay_ps", lo := 0x1233, hi := 0x1233, slo := 1, shi := 8, ty := .u32, acc := .ro, dflt := 0, clamp := .any, perDie := true, size := 4 },
  { name := "ptp_port_a", lo := 0x1240, hi := 0x1240, slo := 0, shi := 0, ty := .u8, acc := .rwp, dflt := 0, clamp := .oneOf [(0, 9)], perDie := false, size := 1 },
  { name := "ptp_domain_a", lo := 0x1241, hi := 0x1241, slo := 0, shi := 0, ty := .u8, acc := .rwp, dflt := 127, clamp := .span 0 127 1, perDie := false, size := 1 }]

/-- Rows 0x1242 to 0x1281. -/
def dictPart4 : List ObjDef := [
  { name := "ptp_profile_a", lo := 0x1242, hi := 0x1242, slo := 0, shi := 0, ty := .u8, acc := .rwp, dflt := 2, clamp := .oneOf [(0, 2)], perDie := false, size := 1 },
  { name := "ptp_transport_a", lo := 0x1243, hi := 0x1243, slo := 0, shi := 0, ty := .u8, acc := .rwp, dflt := 0, clamp := .oneOf [(0, 1)], perDie := false, size := 1 },
  { name := "ptp_one_step_a", lo := 0x1244, hi := 0x1244, slo := 0, shi := 0, ty := .bool, acc := .rwp, dflt := 0, clamp := .mask 1, perDie := false, size := 1 },
  { name := "ptp_asym_ns_a", lo := 0x1245, hi := 0x1245, slo := 0, shi := 0, ty := .i32, acc := .rwp, dflt := 0, clamp := .span (-100000) 100000 1, perDie := false, size := 4 },
  { name := "ptp_state_a", lo := 0x1246, hi := 0x1246, slo := 0, shi := 0, ty := .u8, acc := .ro, dflt := 0, clamp := .span 0 3 1, perDie := false, size := 1 },
  { name := "ptp_offset_ns_a", lo := 0x1247, hi := 0x1247, slo := 0, shi := 0, ty := .i32, acc := .ro, dflt := 0, clamp := .any, perDie := false, size := 4 },
  { name := "ptp_gm_id_a", lo := 0x1248, hi := 0x1248, slo := 0, shi := 0, ty := .u64, acc := .ro, dflt := 0, clamp := .any, perDie := false, size := 8 },
  { name := "ptp_time_a", lo := 0x1249, hi := 0x1249, slo := 0, shi := 0, ty := .layt, acc := .ro, dflt := 0, clamp := .any, perDie := false, size := 12 },
  { name := "ptp_port_b", lo := 0x1250, hi := 0x1250, slo := 0, shi := 0, ty := .u8, acc := .rwp, dflt := 0, clamp := .oneOf [(0, 9)], perDie := false, size := 1 },
  { name := "ptp_domain_b", lo := 0x1251, hi := 0x1251, slo := 0, shi := 0, ty := .u8, acc := .rwp, dflt := 127, clamp := .span 0 127 1, perDie := false, size := 1 },
  { name := "ptp_profile_b", lo := 0x1252, hi := 0x1252, slo := 0, shi := 0, ty := .u8, acc := .rwp, dflt := 2, clamp := .oneOf [(0, 2)], perDie := false, size := 1 },
  { name := "ptp_transport_b", lo := 0x1253, hi := 0x1253, slo := 0, shi := 0, ty := .u8, acc := .rwp, dflt := 0, clamp := .oneOf [(0, 1)], perDie := false, size := 1 },
  { name := "ptp_one_step_b", lo := 0x1254, hi := 0x1254, slo := 0, shi := 0, ty := .bool, acc := .rwp, dflt := 0, clamp := .mask 1, perDie := false, size := 1 },
  { name := "ptp_asym_ns_b", lo := 0x1255, hi := 0x1255, slo := 0, shi := 0, ty := .i32, acc := .rwp, dflt := 0, clamp := .span (-100000) 100000 1, perDie := false, size := 4 },
  { name := "ptp_state_b", lo := 0x1256, hi := 0x1256, slo := 0, shi := 0, ty := .u8, acc := .ro, dflt := 0, clamp := .span 0 3 1, perDie := false, size := 1 },
  { name := "ptp_offset_ns_b", lo := 0x1257, hi := 0x1257, slo := 0, shi := 0, ty := .i32, acc := .ro, dflt := 0, clamp := .any, perDie := false, size := 4 },
  { name := "ptp_gm_id_b", lo := 0x1258, hi := 0x1258, slo := 0, shi := 0, ty := .u64, acc := .ro, dflt := 0, clamp := .any, perDie := false, size := 8 },
  { name := "ptp_time_b", lo := 0x1259, hi := 0x1259, slo := 0, shi := 0, ty := .layt, acc := .ro, dflt := 0, clamp := .any, perDie := false, size := 12 },
  { name := "ptp_txts_level", lo := 0x1260, hi := 0x1260, slo := 1, shi := 2, ty := .u8, acc := .ro, dflt := 0, clamp := .span 0 16 1, perDie := true, size := 1 },
  { name := "ptp_txts_overflow", lo := 0x1261, hi := 0x1261, slo := 1, shi := 2, ty := .bool, acc := .w1c, dflt := 0, clamp := .mask 1, perDie := true, size := 1 },
  { name := "ptp_txts_dropped", lo := 0x1262, hi := 0x1262, slo := 1, shi := 2, ty := .u32, acc := .ro, dflt := 0, clamp := .any, perDie := true, size := 4 },
  { name := "ptp_txts_aged", lo := 0x1263, hi := 0x1263, slo := 1, shi := 2, ty := .u32, acc := .ro, dflt := 0, clamp := .any, perDie := true, size := 4 },
  { name := "local_count", lo := 0x1270, hi := 0x1270, slo := 0, shi := 0, ty := .u64, acc := .ro, dflt := 0, clamp := .any, perDie := true, size := 8 },
  { name := "lay_evt_mode", lo := 0x1280, hi := 0x1280, slo := 1, shi := 4, ty := .u8, acc := .rw, dflt := 0, clamp := .oneOf [(0, 5)], perDie := false, size := 1 },
  { name := "lay_evt_start", lo := 0x1281, hi := 0x1281, slo := 1, shi := 4, ty := .layt, acc := .rw, dflt := 0, clamp := .any, perDie := false, size := 12 }]

/-- Rows 0x1282 to 0x1293. -/
def dictPart5 : List ObjDef := [
  { name := "lay_evt_period_num", lo := 0x1282, hi := 0x1282, slo := 1, shi := 4, ty := .u64, acc := .rw, dflt := 0x3B9ACA00, clamp := .span 8 9223372036854775808 1, perDie := false, size := 8 },
  { name := "lay_evt_period_den", lo := 0x1283, hi := 0x1283, slo := 1, shi := 4, ty := .u32, acc := .rw, dflt := 1, clamp := .span 1 1000000 1, perDie := false, size := 4 },
  { name := "lay_evt_width_ns", lo := 0x1284, hi := 0x1284, slo := 1, shi := 4, ty := .u32, acc := .rw, dflt := 1000, clamp := .span 4 1000000000 1, perDie := false, size := 4 },
  { name := "lay_evt_polarity", lo := 0x1285, hi := 0x1285, slo := 1, shi := 4, ty := .bool, acc := .rw, dflt := 0, clamp := .mask 1, perDie := false, size := 1 },
  { name := "lay_pps_last", lo := 0x1290, hi := 0x1290, slo := 0, shi := 0, ty := .layt, acc := .ro, dflt := 0, clamp := .any, perDie := false, size := 12 },
  { name := "lay_fsync_last", lo := 0x1291, hi := 0x1291, slo := 0, shi := 0, ty := .layt, acc := .ro, dflt := 0, clamp := .any, perDie := false, size := 12 },
  { name := "fsync_period_num", lo := 0x1292, hi := 0x1292, slo := 0, shi := 0, ty := .u64, acc := .rwp, dflt := 0x3E26776D5, clamp := .span 4000000 9223372036854775808 1, perDie := false, size := 8 },
  { name := "fsync_period_den", lo := 0x1293, hi := 0x1293, slo := 0, shi := 0, ty := .u32, acc := .rwp, dflt := 1000, clamp := .span 1 1000000 1, perDie := false, size := 4 }]

/-- The rows of this file. -/
def dictPart : List ObjDef := dictPart1 ++ dictPart2 ++ dictPart3 ++ dictPart4 ++ dictPart5

end Sys2Proof.Machine
end

