-- ==== Sys2Proof/Machine/DictUnit.lean ====
section
/-! DEFINITION. The object dictionary (R73): memory, clock, redundancy, journal, update and thermal objects. -/

namespace Sys2Proof.Machine

/-- Rows 0x1300 to 0x1401. -/
def dictUnit1 : List ObjDef := [
  { name := "red_sup_state", lo := 0x1300, hi := 0x1300, slo := 0, shi := 0, ty := .u8, acc := .ro, dflt := 0, clamp := .span 0 3 1, perDie := false, size := 1 },
  { name := "red_sup_die", lo := 0x1301, hi := 0x1301, slo := 0, shi := 0, ty := .u8, acc := .ro, dflt := 0, clamp := .span 0 1 1, perDie := false, size := 1 },
  { name := "red_sup_hb_ms", lo := 0x1302, hi := 0x1302, slo := 0, shi := 0, ty := .u8, acc := .rwp, dflt := 3, clamp := .span 1 20 1, perDie := false, size := 1 },
  { name := "red_arb_in_en", lo := 0x1303, hi := 0x1303, slo := 0, shi := 0, ty := .bool, acc := .rwp, dflt := 0, clamp := .mask 1, perDie := false, size := 1 },
  { name := "red_sup_rejoin", lo := 0x1304, hi := 0x1304, slo := 0, shi := 0, ty := .bool, acc := .wo, dflt := 0, clamp := .mask 1, perDie := false, size := 1 },
  { name := "red_arb_die", lo := 0x1305, hi := 0x1305, slo := 0, shi := 0, ty := .u8, acc := .ro, dflt := 0, clamp := .oneOf [(2, 7), (255, 255)], perDie := false, size := 1 },
  { name := "red_sup_failovers", lo := 0x1306, hi := 0x1306, slo := 0, shi := 0, ty := .u32, acc := .ro, dflt := 0, clamp := .any, perDie := false, size := 4 },
  { name := "red_flags", lo := 0x1310, hi := 0x1310, slo := 0, shi := 0, ty := .u16, acc := .w1c, dflt := 0, clamp := .mask 0x3FF, perDie := false, size := 2 },
  { name := "red_ring_port", lo := 0x1320, hi := 0x1320, slo := 0, shi := 0, ty := .u8, acc := .rwp, dflt := 255, clamp := .any, perDie := false, size := 1 },
  { name := "red_peer_node", lo := 0x1321, hi := 0x1321, slo := 0, shi := 0, ty := .u16, acc := .rwp, dflt := 0xFFFF, clamp := .oneOf [(0, 1023), (65535, 65535)], perDie := false, size := 2 },
  { name := "red_primary", lo := 0x1322, hi := 0x1322, slo := 0, shi := 0, ty := .bool, acc := .rwp, dflt := 0, clamp := .mask 1, perDie := false, size := 1 },
  { name := "red_head_state", lo := 0x1323, hi := 0x1323, slo := 0, shi := 0, ty := .u8, acc := .ro, dflt := 0, clamp := .span 0 4 1, perDie := false, size := 1 },
  { name := "red_declare", lo := 0x1324, hi := 0x1324, slo := 0, shi := 0, ty := .bool, acc := .wo, dflt := 0, clamp := .mask 1, perDie := false, size := 1 },
  { name := "red_self_ms", lo := 0x1325, hi := 0x1325, slo := 0, shi := 0, ty := .u16, acc := .rwp, dflt := 0, clamp := .span 0 5000 50, perDie := false, size := 2 },
  { name := "red_hb_loss_ms", lo := 0x1326, hi := 0x1326, slo := 0, shi := 0, ty := .u16, acc := .rwp, dflt := 20, clamp := .span 10 1000 5, perDie := false, size := 2 },
  { name := "red_ckpt_epoch", lo := 0x1327, hi := 0x1327, slo := 0, shi := 0, ty := .u32, acc := .ro, dflt := 0, clamp := .any, perDie := false, size := 4 },
  { name := "red_active_since", lo := 0x1328, hi := 0x1328, slo := 0, shi := 0, ty := .layt, acc := .ro, dflt := 0, clamp := .any, perDie := false, size := 12 },
  { name := "red_takeovers", lo := 0x1329, hi := 0x1329, slo := 0, shi := 0, ty := .u32, acc := .ro, dflt := 0, clamp := .any, perDie := false, size := 4 },
  { name := "red_arbiter", lo := 0x1330, hi := 0x1330, slo := 0, shi := 0, ty := .bool, acc := .rwp, dflt := 0, clamp := .mask 1, perDie := false, size := 1 },
  { name := "red_arb_missing", lo := 0x1331, hi := 0x1331, slo := 0, shi := 0, ty := .u8, acc := .rwp, dflt := 2, clamp := .span 1 16 1, perDie := false, size := 1 },
  { name := "red_standby_addr", lo := 0x1332, hi := 0x1332, slo := 0, shi := 0, ty := .u64, acc := .rwp, dflt := 0, clamp := .mask 0xFFFFFFFFFFFF, perDie := false, size := 8 },
  { name := "red_arb_state", lo := 0x1333, hi := 0x1333, slo := 0, shi := 0, ty := .u8, acc := .ro, dflt := 0, clamp := .span 0 2 1, perDie := false, size := 1 },
  { name := "red_down_alive", lo := 0x1340, hi := 0x1340, slo := 1, shi := 8, ty := .u16, acc := .ro, dflt := 0, clamp := .span 0 65535 1, perDie := true, size := 2 },
  { name := "silt_flash_mb", lo := 0x1400, hi := 0x1400, slo := 1, shi := 2, ty := .u16, acc := .ro, dflt := 0, clamp := .any, perDie := false, size := 2 },
  { name := "silt_size_kb", lo := 0x1401, hi := 0x1401, slo := 0, shi := 0, ty := .u32, acc := .ro, dflt := 0, clamp := .any, perDie := false, size := 4 }]

/-- Rows 0x1402 to 0x142B. -/
def dictUnit2 : List ObjDef := [
  { name := "silt_free_kb", lo := 0x1402, hi := 0x1402, slo := 0, shi := 0, ty := .u32, acc := .ro, dflt := 0, clamp := .any, perDie := false, size := 4 },
  { name := "silt_backlog_kb", lo := 0x1403, hi := 0x1403, slo := 0, shi := 0, ty := .u32, acc := .ro, dflt := 0, clamp := .any, perDie := false, size := 4 },
  { name := "silt_tamp_low_pct", lo := 0x1404, hi := 0x1404, slo := 0, shi := 0, ty := .u8, acc := .rwp, dflt := 25, clamp := .span 5 50 1, perDie := false, size := 1 },
  { name := "silt_tamp_high_pct", lo := 0x1405, hi := 0x1405, slo := 0, shi := 0, ty := .u8, acc := .rwp, dflt := 40, clamp := .span 10 80 1, perDie := false, size := 1 },
  { name := "silt_seq", lo := 0x1406, hi := 0x1406, slo := 0, shi := 0, ty := .u64, acc := .ro, dflt := 0, clamp := .any, perDie := false, size := 8 },
  { name := "silt_records", lo := 0x1407, hi := 0x1407, slo := 0, shi := 0, ty := .u32, acc := .ro, dflt := 0, clamp := .any, perDie := false, size := 4 },
  { name := "silt_tamps", lo := 0x1408, hi := 0x1408, slo := 0, shi := 0, ty := .u32, acc := .ro, dflt := 0, clamp := .any, perDie := false, size := 4 },
  { name := "silt_blank_fails", lo := 0x1409, hi := 0x1409, slo := 0, shi := 0, ty := .u32, acc := .ro, dflt := 0, clamp := .any, perDie := false, size := 4 },
  { name := "silt_bad_sectors", lo := 0x140A, hi := 0x140A, slo := 0, shi := 0, ty := .u16, acc := .ro, dflt := 0, clamp := .any, perDie := false, size := 2 },
  { name := "silt_deferred_kb", lo := 0x140B, hi := 0x140B, slo := 0, shi := 0, ty := .u16, acc := .ro, dflt := 0, clamp := .span 0 256 1, perDie := false, size := 2 },
  { name := "silt_refused", lo := 0x140C, hi := 0x140C, slo := 0, shi := 0, ty := .u32, acc := .ro, dflt := 0, clamp := .any, perDie := false, size := 4 },
  { name := "silt_resyncs", lo := 0x140D, hi := 0x140D, slo := 0, shi := 0, ty := .u32, acc := .ro, dflt := 0, clamp := .any, perDie := false, size := 4 },
  { name := "silt_flags", lo := 0x140E, hi := 0x140E, slo := 0, shi := 0, ty := .u8, acc := .w1c, dflt := 0, clamp := .mask 0x7F, perDie := false, size := 1 },
  { name := "upd_image", lo := 0x1420, hi := 0x1420, slo := 0, shi := 0, ty := .blob, acc := .rw, dflt := 0, clamp := .any, perDie := false, size := 8388608 },
  { name := "upd_bitmap", lo := 0x1421, hi := 0x1421, slo := 0, shi := 0, ty := .blob, acc := .ro, dflt := 0, clamp := .any, perDie := false, size := 256 },
  { name := "upd_state", lo := 0x1422, hi := 0x1422, slo := 0, shi := 0, ty := .u8, acc := .ro, dflt := 0, clamp := .span 0 5 1, perDie := false, size := 1 },
  { name := "upd_reason", lo := 0x1423, hi := 0x1423, slo := 0, shi := 0, ty := .u8, acc := .ro, dflt := 0, clamp := .span 0 9 1, perDie := false, size := 1 },
  { name := "upd_image_id", lo := 0x1424, hi := 0x1424, slo := 0, shi := 0, ty := .u32, acc := .ro, dflt := 0, clamp := .any, perDie := false, size := 4 },
  { name := "upd_segments", lo := 0x1425, hi := 0x1425, slo := 0, shi := 0, ty := .u16, acc := .ro, dflt := 0, clamp := .span 0 2048 1, perDie := false, size := 2 },
  { name := "upd_abort", lo := 0x1426, hi := 0x1426, slo := 0, shi := 0, ty := .bool, acc := .wo, dflt := 0, clamp := .mask 1, perDie := false, size := 1 },
  { name := "upd_activate", lo := 0x1427, hi := 0x1427, slo := 0, shi := 0, ty := .u32, acc := .rws, dflt := 0, clamp := .any, perDie := false, size := 4 },
  { name := "upd_manifest", lo := 0x1428, hi := 0x1428, slo := 0, shi := 0, ty := .blob, acc := .rws, dflt := 0, clamp := .any, perDie := false, size := 32784 },
  { name := "fw_image_id", lo := 0x1429, hi := 0x1429, slo := 0, shi := 0, ty := .u32, acc := .ro, dflt := 0, clamp := .any, perDie := false, size := 4 },
  { name := "fw_version", lo := 0x142A, hi := 0x142A, slo := 0, shi := 0, ty := .u32, acc := .ro, dflt := 0, clamp := .any, perDie := false, size := 4 },
  { name := "fw_slot", lo := 0x142B, hi := 0x142B, slo := 0, shi := 0, ty := .u8, acc := .ro, dflt := 0, clamp := .span 0 1 1, perDie := false, size := 1 }]

/-- Rows 0x142C to 0x8006. -/
def dictUnit3 : List ObjDef := [
  { name := "fw_prev_image_id", lo := 0x142C, hi := 0x142C, slo := 0, shi := 0, ty := .u32, acc := .ro, dflt := 0, clamp := .any, perDie := false, size := 4 },
  { name := "upd_pause_ms", lo := 0x142D, hi := 0x142D, slo := 0, shi := 0, ty := .u16, acc := .ro, dflt := 0, clamp := .any, perDie := false, size := 2 },
  { name := "upd_flags", lo := 0x142E, hi := 0x142E, slo := 0, shi := 0, ty := .u8, acc := .w1c, dflt := 0, clamp := .mask 0x1F, perDie := false, size := 1 },
  { name := "therm_sensor_c", lo := 0x1500, hi := 0x1500, slo := 1, shi := 6, ty := .i16, acc := .ro, dflt := 0, clamp := .any, perDie := true, size := 2 },
  { name := "therm_die_c", lo := 0x1501, hi := 0x1501, slo := 0, shi := 0, ty := .i16, acc := .ro, dflt := 0, clamp := .any, perDie := true, size := 2 },
  { name := "therm_level", lo := 0x1502, hi := 0x1502, slo := 0, shi := 0, ty := .u8, acc := .ro, dflt := 0, clamp := .span 0 2 1, perDie := true, size := 1 },
  { name := "therm_warn_c", lo := 0x1503, hi := 0x1503, slo := 0, shi := 0, ty := .i16, acc := .rwp, dflt := 1600, clamp := .span 960 1968 16, perDie := false, size := 2 },
  { name := "therm_throttle_c", lo := 0x1504, hi := 0x1504, slo := 0, shi := 0, ty := .i16, acc := .rwp, dflt := 1760, clamp := .span 976 1984 16, perDie := false, size := 2 },
  { name := "therm_shutdown_c", lo := 0x1505, hi := 0x1505, slo := 0, shi := 0, ty := .i16, acc := .rwp, dflt := 2000, clamp := .span 1760 2000 16, perDie := false, size := 2 },
  { name := "therm_hyst_c", lo := 0x1506, hi := 0x1506, slo := 0, shi := 0, ty := .u8, acc := .rwp, dflt := 80, clamp := .span 32 240 16, perDie := false, size := 1 },
  { name := "therm_sensor_broken", lo := 0x1507, hi := 0x1507, slo := 0, shi := 0, ty := .u8, acc := .w1c, dflt := 0, clamp := .mask 0x3F, perDie := true, size := 1 },
  { name := "therm_flags", lo := 0x1508, hi := 0x1508, slo := 0, shi := 0, ty := .u8, acc := .w1c, dflt := 0, clamp := .mask 0x1F, perDie := true, size := 1 },
  { name := "therm_shut_dies", lo := 0x1509, hi := 0x1509, slo := 0, shi := 0, ty := .u8, acc := .ro, dflt := 0, clamp := .mask 0xFF, perDie := false, size := 1 },
  { name := "therm_shut_part", lo := 0x150A, hi := 0x150A, slo := 0, shi := 0, ty := .bool, acc := .rwp, dflt := 0, clamp := .mask 1, perDie := false, size := 1 },
  { name := "therm_throttle_ms", lo := 0x150B, hi := 0x150B, slo := 0, shi := 0, ty := .u32, acc := .ro, dflt := 0, clamp := .any, perDie := true, size := 4 },
  { name := "trim_set", lo := 0x1510, hi := 0x1510, slo := 0, shi := 0, ty := .blob, acc := .rws, dflt := 0, clamp := .any, perDie := true, size := 1728 },
  { name := "trim_code", lo := 0x1511, hi := 0x1511, slo := 1, shi := 48, ty := .u16, acc := .ro, dflt := 0, clamp := .span 0 1023 1, perDie := true, size := 2 },
  { name := "trim_pending", lo := 0x1512, hi := 0x1512, slo := 1, shi := 48, ty := .u16, acc := .ro, dflt := 0, clamp := .span 0 1023 1, perDie := true, size := 2 },
  { name := "sram_reserved_kb", lo := 0x8000, hi := 0x8000, slo := 0, shi := 0, ty := .u16, acc := .ro, dflt := 1536, clamp := .oneOf [(1536, 1536)], perDie := true, size := 2 },
  { name := "sram_alloc_kb", lo := 0x8001, hi := 0x8001, slo := 0, shi := 0, ty := .u16, acc := .ro, dflt := 1536, clamp := .span 0 16384 1, perDie := true, size := 2 },
  { name := "sram_slice_mode", lo := 0x8002, hi := 0x8002, slo := 1, shi := 8, ty := .u8, acc := .rw, dflt := 1, clamp := .oneOf [(0, 2)], perDie := true, size := 1 },
  { name := "sram_slice_state", lo := 0x8003, hi := 0x8003, slo := 1, shi := 8, ty := .u8, acc := .ro, dflt := 0, clamp := .span 0 3 1, perDie := true, size := 1 },
  { name := "sram_ret_idle_us", lo := 0x8004, hi := 0x8004, slo := 0, shi := 0, ty := .u16, acc := .rw, dflt := 20, clamp := .span 2 10000 1, perDie := true, size := 2 },
  { name := "sram_busy", lo := 0x8005, hi := 0x8005, slo := 1, shi := 16, ty := .u32, acc := .ro, dflt := 0, clamp := .any, perDie := true, size := 4 },
  { name := "sram_undef_reads", lo := 0x8006, hi := 0x8006, slo := 0, shi := 0, ty := .u32, acc := .ro, dflt := 0, clamp := .any, perDie := true, size := 4 }]

/-- Rows 0x8007 to 0x8111. -/
def dictUnit4 : List ObjDef := [
  { name := "sram_bist_mode", lo := 0x8007, hi := 0x8007, slo := 0, shi := 0, ty := .u8, acc := .rw, dflt := 1, clamp := .oneOf [(0, 2)], perDie := true, size := 1 },
  { name := "sram_bist_rate", lo := 0x8008, hi := 0x8008, slo := 0, shi := 0, ty := .u8, acc := .rw, dflt := 1, clamp := .span 1 16 1, perDie := true, size := 1 },
  { name := "sram_bist_passes", lo := 0x8009, hi := 0x8009, slo := 0, shi := 0, ty := .u32, acc := .ro, dflt := 0, clamp := .any, perDie := true, size := 4 },
  { name := "sram_bist_fails", lo := 0x800A, hi := 0x800A, slo := 0, shi := 0, ty := .u32, acc := .ro, dflt := 0, clamp := .any, perDie := true, size := 4 },
  { name := "sram_bist_last_addr", lo := 0x800B, hi := 0x800B, slo := 0, shi := 0, ty := .u32, acc := .ro, dflt := 0, clamp := .mask 0xFFFFFF, perDie := true, size := 4 },
  { name := "sram_repair", lo := 0x800C, hi := 0x800C, slo := 0, shi := 0, ty := .blob, acc := .ro, dflt := 0, clamp := .any, perDie := true, size := 64 },
  { name := "sram_flags", lo := 0x800D, hi := 0x800D, slo := 0, shi := 0, ty := .u8, acc := .w1c, dflt := 0, clamp := .mask 0x3, perDie := true, size := 1 },
  { name := "dram_size_mb", lo := 0x8100, hi := 0x8100, slo := 1, shi := 2, ty := .u32, acc := .ro, dflt := 0, clamp := .any, perDie := true, size := 4 },
  { name := "dram_rate_code", lo := 0x8101, hi := 0x8101, slo := 0, shi := 0, ty := .u8, acc := .rwp, dflt := 2, clamp := .oneOf [(0, 2)], perDie := true, size := 1 },
  { name := "dram_ecc", lo := 0x8102, hi := 0x8102, slo := 0, shi := 0, ty := .bool, acc := .rwp, dflt := 0, clamp := .mask 1, perDie := true, size := 1 },
  { name := "dram_state", lo := 0x8103, hi := 0x8103, slo := 1, shi := 2, ty := .u8, acc := .ro, dflt := 0, clamp := .span 0 5 1, perDie := true, size := 1 },
  { name := "dram_sr_idle_ns", lo := 0x8104, hi := 0x8104, slo := 0, shi := 0, ty := .u32, acc := .rw, dflt := 4000, clamp := .span 100 1000000 1, perDie := true, size := 4 },
  { name := "dram_sr_margin_ns", lo := 0x8105, hi := 0x8105, slo := 0, shi := 0, ty := .u32, acc := .rw, dflt := 2000, clamp := .span 0 100000 1, perDie := true, size := 4 },
  { name := "dram_sr_exit_ns", lo := 0x8106, hi := 0x8106, slo := 1, shi := 2, ty := .u32, acc := .ro, dflt := 1600, clamp := .any, perDie := true, size := 4 },
  { name := "dram_tolerance_ns", lo := 0x8107, hi := 0x8107, slo := 0, shi := 0, ty := .u32, acc := .ro, dflt := 0xFFFFFFFF, clamp := .any, perDie := true, size := 4 },
  { name := "dram_sr_entries", lo := 0x8108, hi := 0x8108, slo := 1, shi := 2, ty := .u32, acc := .ro, dflt := 0, clamp := .any, perDie := true, size := 4 },
  { name := "dram_sr_refused", lo := 0x8109, hi := 0x8109, slo := 1, shi := 2, ty := .u32, acc := .ro, dflt := 0, clamp := .any, perDie := true, size := 4 },
  { name := "dram_demand", lo := 0x810A, hi := 0x810A, slo := 0, shi := 0, ty := .u32, acc := .ro, dflt := 0, clamp := .span 0 60000 1, perDie := true, size := 4 },
  { name := "dram_flags", lo := 0x810B, hi := 0x810B, slo := 0, shi := 0, ty := .u8, acc := .w1c, dflt := 0, clamp := .mask 0xF, perDie := true, size := 1 },
  { name := "dram_wq_forwards", lo := 0x810C, hi := 0x810C, slo := 1, shi := 2, ty := .u32, acc := .ro, dflt := 0, clamp := .any, perDie := true, size := 4 },
  { name := "dram_prio", lo := 0x8110, hi := 0x8110, slo := 1, shi := 1, ty := .u8, acc := .rw, dflt := 3, clamp := .span 0 3 1, perDie := true, size := 1 },
  { name := "dram_prio", lo := 0x8110, hi := 0x8110, slo := 2, shi := 4, ty := .u8, acc := .rw, dflt := 2, clamp := .span 0 3 1, perDie := true, size := 1 },
  { name := "dram_prio", lo := 0x8110, hi := 0x8110, slo := 5, shi := 7, ty := .u8, acc := .rw, dflt := 1, clamp := .span 0 3 1, perDie := true, size := 1 },
  { name := "dram_prio", lo := 0x8110, hi := 0x8110, slo := 8, shi := 8, ty := .u8, acc := .rw, dflt := 0, clamp := .span 0 3 1, perDie := true, size := 1 },
  { name := "dram_prio", lo := 0x8110, hi := 0x8110, slo := 2, shi := 4, ty := .u8, acc := .rw, dflt := 2, clamp := .span 0 3 1, perDie := true, size := 1 },
  { name := "dram_prio", lo := 0x8110, hi := 0x8110, slo := 5, shi := 7, ty := .u8, acc := .rw, dflt := 1, clamp := .span 0 3 1, perDie := true, size := 1 },
  { name := "dram_prio", lo := 0x8110, hi := 0x8110, slo := 8, shi := 8, ty := .u8, acc := .rw, dflt := 0, clamp := .span 0 3 1, perDie := true, size := 1 },
  { name := "dram_age_ns", lo := 0x8111, hi := 0x8111, slo := 0, shi := 0, ty := .u32, acc := .rw, dflt := 2000, clamp := .span 100 100000 1, perDie := true, size := 4 }]

/-- Rows 0x8120 to 0x9032. -/
def dictUnit5 : List ObjDef := [
  { name := "dram_dly_rd", lo := 0x8120, hi := 0x8121, slo := 1, shi := 4, ty := .u16, acc := .ro, dflt := 0, clamp := .any, perDie := true, size := 2 },
  { name := "dram_dly_wr", lo := 0x8120, hi := 0x8121, slo := 5, shi := 8, ty := .u16, acc := .ro, dflt := 0, clamp := .any, perDie := true, size := 2 },
  { name := "dram_vref", lo := 0x8120, hi := 0x8121, slo := 9, shi := 12, ty := .u8, acc := .ro, dflt := 0, clamp := .any, perDie := true, size := 1 },
  { name := "dram_load_offset", lo := 0x8120, hi := 0x8121, slo := 13, shi := 16, ty := .i16, acc := .rwp, dflt := 0, clamp := .span (-64) 64 1, perDie := true, size := 2 },
  { name := "dram_maint_sweep", lo := 0x8130, hi := 0x8130, slo := 0, shi := 0, ty := .bool, acc := .wo, dflt := 0, clamp := .mask 1, perDie := true, size := 1 },
  { name := "dram_sweep_status", lo := 0x8131, hi := 0x8131, slo := 0, shi := 0, ty := .u8, acc := .ro, dflt := 0, clamp := .span 0 4 1, perDie := true, size := 1 },
  { name := "dram_dly_max_ms", lo := 0x8132, hi := 0x8132, slo := 0, shi := 0, ty := .u16, acc := .rw, dflt := 100, clamp := .span 10 10000 1, perDie := true, size := 2 },
  { name := "dram_ecc_corrected", lo := 0x8140, hi := 0x8140, slo := 1, shi := 2, ty := .u32, acc := .ro, dflt := 0, clamp := .any, perDie := true, size := 4 },
  { name := "dram_ecc_uncorrected", lo := 0x8141, hi := 0x8141, slo := 1, shi := 2, ty := .u32, acc := .ro, dflt := 0, clamp := .any, perDie := true, size := 4 },
  { name := "refclk_sel", lo := 0x9000, hi := 0x9000, slo := 0, shi := 0, ty := .u8, acc := .rwp, dflt := 0, clamp := .oneOf [(0, 1)], perDie := true, size := 1 },
  { name := "refclk_revert", lo := 0x9001, hi := 0x9001, slo := 0, shi := 0, ty := .bool, acc := .rwp, dflt := 0, clamp := .mask 1, perDie := true, size := 1 },
  { name := "refclk_rate_ppm", lo := 0x9002, hi := 0x9002, slo := 0, shi := 0, ty := .u16, acc := .rwp, dflt := 200, clamp := .span 50 1000 1, perDie := true, size := 2 },
  { name := "refclk_active", lo := 0x9003, hi := 0x9003, slo := 0, shi := 0, ty := .u8, acc := .ro, dflt := 0, clamp := .span 0 2 1, perDie := true, size := 1 },
  { name := "refclk_valid", lo := 0x9004, hi := 0x9004, slo := 0, shi := 0, ty := .u8, acc := .ro, dflt := 3, clamp := .mask 0x3, perDie := true, size := 1 },
  { name := "refclk_switches", lo := 0x9005, hi := 0x9005, slo := 0, shi := 0, ty := .u32, acc := .ro, dflt := 0, clamp := .any, perDie := true, size := 4 },
  { name := "refclk_diff_ppb", lo := 0x9006, hi := 0x9006, slo := 0, shi := 0, ty := .i32, acc := .ro, dflt := 0, clamp := .any, perDie := true, size := 4 },
  { name := "clock_flags", lo := 0x9010, hi := 0x9010, slo := 0, shi := 0, ty := .u8, acc := .w1c, dflt := 0, clamp := .mask 0xF, perDie := true, size := 1 },
  { name := "xing_overruns", lo := 0x9011, hi := 0x9011, slo := 0, shi := 0, ty := .u32, acc := .ro, dflt := 0, clamp := .any, perDie := true, size := 4 },
  { name := "reset_cause", lo := 0x9020, hi := 0x9020, slo := 0, shi := 0, ty := .u8, acc := .ro, dflt := 1, clamp := .mask 0x3F, perDie := true, size := 1 },
  { name := "reset_count", lo := 0x9021, hi := 0x9021, slo := 0, shi := 0, ty := .u32, acc := .ro, dflt := 0, clamp := .any, perDie := false, size := 4 },
  { name := "part_reset", lo := 0x9022, hi := 0x9022, slo := 0, shi := 0, ty := .u8, acc := .wo, dflt := 0, clamp := .oneOf [(0, 2)], perDie := false, size := 1 },
  { name := "wdog_ms", lo := 0x9023, hi := 0x9023, slo := 0, shi := 0, ty := .u16, acc := .rwp, dflt := 100, clamp := .span 10 10000 1, perDie := true, size := 2 },
  { name := "boot_straps", lo := 0x9030, hi := 0x9030, slo := 0, shi := 0, ty := .u8, acc := .ro, dflt := 0, clamp := .mask 0xF, perDie := false, size := 1 },
  { name := "boot_source", lo := 0x9031, hi := 0x9031, slo := 0, shi := 0, ty := .u8, acc := .ro, dflt := 0, clamp := .span 0 4 1, perDie := false, size := 1 },
  { name := "boot_flash_mode", lo := 0x9032, hi := 0x9032, slo := 0, shi := 0, ty := .u8, acc := .ro, dflt := 0, clamp := .span 0 2 1, perDie := false, size := 1 }]

/-- Rows 0x9033 to 0x9044. -/
def dictUnit6 : List ObjDef := [
  { name := "boot_ms", lo := 0x9033, hi := 0x9033, slo := 1, shi := 11, ty := .u16, acc := .ro, dflt := 0, clamp := .any, perDie := false, size := 2 },
  { name := "boot_flags", lo := 0x9034, hi := 0x9034, slo := 0, shi := 0, ty := .u8, acc := .w1c, dflt := 0, clamp := .mask 0x3, perDie := false, size := 1 },
  { name := "io_chain_drive", lo := 0x9040, hi := 0x9040, slo := 1, shi := 4, ty := .u8, acc := .rws, dflt := 0, clamp := .oneOf [(0, 1)], perDie := true, size := 1 },
  { name := "io_sdo_delay_ps", lo := 0x9041, hi := 0x9041, slo := 1, shi := 4, ty := .u16, acc := .rws, dflt := 4000, clamp := .span 0 40000 125, perDie := true, size := 2 },
  { name := "pwr_flags", lo := 0x9042, hi := 0x9042, slo := 0, shi := 0, ty := .u8, acc := .w1c, dflt := 0, clamp := .mask 0x1, perDie := false, size := 1 },
  { name := "pwr_brownout_dies", lo := 0x9043, hi := 0x9043, slo := 0, shi := 0, ty := .u8, acc := .w1c, dflt := 0, clamp := .mask 0xFF, perDie := false, size := 1 },
  { name := "pwr_brownouts", lo := 0x9044, hi := 0x9044, slo := 0, shi := 0, ty := .u32, acc := .ro, dflt := 0, clamp := .any, perDie := false, size := 4 }]

/-- The rows of this file. -/
def dictUnit : List ObjDef := dictUnit1 ++ dictUnit2 ++ dictUnit3 ++ dictUnit4 ++ dictUnit5 ++ dictUnit6

end Sys2Proof.Machine
end

