-- ==== Sys2Proof/Machine/DictView.lean ====
section
/-! DEFINITION. The object dictionary (R73): launch, composition and source objects. -/

namespace Sys2Proof.Machine

/-- Rows 0x3000 to 0x3033. -/
def dictView1 : List ObjDef := [
  { name := "frame_period_num", lo := 0x3000, hi := 0x3000, slo := 0, shi := 0, ty := .u64, acc := .rws, dflt := 0x2FAF080, clamp := .span 1 9223372036854775808 1, perDie := false, size := 8 },
  { name := "frame_period_den", lo := 0x3001, hi := 0x3001, slo := 0, shi := 0, ty := .u32, acc := .rws, dflt := 3, clamp := .span 1 1000000 1, perDie := false, size := 4 },
  { name := "frame_origin", lo := 0x3002, hi := 0x3002, slo := 0, shi := 0, ty := .layt, acc := .rws, dflt := 0, clamp := .any, perDie := false, size := 12 },
  { name := "view_count", lo := 0x3003, hi := 0x3003, slo := 0, shi := 0, ty := .u8, acc := .rws, dflt := 1, clamp := .span 1 8 1, perDie := false, size := 1 },
  { name := "view_offset_ns", lo := 0x3004, hi := 0x3004, slo := 1, shi := 8, ty := .u32, acc := .rws, dflt := 0, clamp := .span 0 41708333 1, perDie := false, size := 4 },
  { name := "view_dark", lo := 0x3005, hi := 0x3005, slo := 0, shi := 0, ty := .u8, acc := .rws, dflt := 0, clamp := .mask 0xFF, perDie := false, size := 1 },
  { name := "launch_lead_ns", lo := 0x3006, hi := 0x3006, slo := 0, shi := 0, ty := .u32, acc := .rws, dflt := 0, clamp := .span 0 1000000000 1, perDie := false, size := 4 },
  { name := "launch_lead_min_ns", lo := 0x3007, hi := 0x3007, slo := 0, shi := 0, ty := .u32, acc := .ro, dflt := 0, clamp := .any, perDie := false, size := 4 },
  { name := "late_fill", lo := 0x3008, hi := 0x3008, slo := 0, shi := 0, ty := .u8, acc := .rw, dflt := 0, clamp := .oneOf [(0, 1)], perDie := false, size := 1 },
  { name := "frame_now", lo := 0x3009, hi := 0x3009, slo := 0, shi := 0, ty := .u32, acc := .ro, dflt := 0, clamp := .any, perDie := false, size := 4 },
  { name := "frame_last_launch", lo := 0x300A, hi := 0x300A, slo := 0, shi := 0, ty := .layt, acc := .ro, dflt := 0, clamp := .any, perDie := false, size := 12 },
  { name := "view_evt_mask", lo := 0x3010, hi := 0x3010, slo := 1, shi := 4, ty := .u8, acc := .rw, dflt := 255, clamp := .mask 0xFF, perDie := false, size := 1 },
  { name := "view_evt_delay_ns", lo := 0x3011, hi := 0x3011, slo := 1, shi := 4, ty := .i32, acc := .rw, dflt := 0, clamp := .span (-1000000) 1000000 1, perDie := false, size := 4 },
  { name := "launch_flags", lo := 0x3020, hi := 0x3020, slo := 0, shi := 0, ty := .u8, acc := .w1c, dflt := 0, clamp := .mask 0xFF, perDie := true, size := 1 },
  { name := "late_starts", lo := 0x3021, hi := 0x3021, slo := 0, shi := 0, ty := .u32, acc := .ro, dflt := 0, clamp := .any, perDie := true, size := 4 },
  { name := "late_lines", lo := 0x3022, hi := 0x3022, slo := 0, shi := 0, ty := .u32, acc := .ro, dflt := 0, clamp := .any, perDie := true, size := 4 },
  { name := "carries", lo := 0x3023, hi := 0x3023, slo := 0, shi := 0, ty := .u32, acc := .ro, dflt := 0, clamp := .any, perDie := true, size := 4 },
  { name := "lag_last_ns", lo := 0x3024, hi := 0x3024, slo := 0, shi := 0, ty := .u32, acc := .ro, dflt := 0, clamp := .any, perDie := true, size := 4 },
  { name := "lag_max_ns", lo := 0x3025, hi := 0x3025, slo := 0, shi := 0, ty := .u32, acc := .rw, dflt := 0, clamp := .any, perDie := true, size := 4 },
  { name := "late_last_at", lo := 0x3026, hi := 0x3026, slo := 0, shi := 0, ty := .layt, acc := .ro, dflt := 0, clamp := .any, perDie := true, size := 12 },
  { name := "late_sends", lo := 0x3027, hi := 0x3027, slo := 0, shi := 0, ty := .u32, acc := .ro, dflt := 0, clamp := .any, perDie := true, size := 4 },
  { name := "fade_start", lo := 0x3030, hi := 0x3030, slo := 0, shi := 0, ty := .layt, acc := .rws, dflt := 0, clamp := .any, perDie := false, size := 12 },
  { name := "fade_duration_ms", lo := 0x3031, hi := 0x3031, slo := 0, shi := 0, ty := .u32, acc := .rws, dflt := 0, clamp := .span 0 600000 1, perDie := false, size := 4 },
  { name := "fade_from", lo := 0x3032, hi := 0x3032, slo := 0, shi := 0, ty := .u32, acc := .rws, dflt := 0x10000, clamp := .span 0 65536 1, perDie := false, size := 4 },
  { name := "fade_to", lo := 0x3033, hi := 0x3033, slo := 0, shi := 0, ty := .u32, acc := .rws, dflt := 0x10000, clamp := .span 0 65536 1, perDie := false, size := 4 }]

/-- Rows 0x3034 to 0x4040. -/
def dictView2 : List ObjDef := [
  { name := "fade_from_current", lo := 0x3034, hi := 0x3034, slo := 0, shi := 0, ty := .bool, acc := .rws, dflt := 0, clamp := .mask 1, perDie := false, size := 1 },
  { name := "fade_curve", lo := 0x3035, hi := 0x3035, slo := 0, shi := 0, ty := .u8, acc := .rws, dflt := 0, clamp := .oneOf [(0, 1)], perDie := false, size := 1 },
  { name := "fade_gamma", lo := 0x3036, hi := 0x3036, slo := 0, shi := 0, ty := .u16, acc := .rws, dflt := 563, clamp := .span 256 1024 1, perDie := false, size := 2 },
  { name := "fade_gain", lo := 0x3037, hi := 0x3037, slo := 0, shi := 0, ty := .u32, acc := .ro, dflt := 0x10000, clamp := .span 0 65536 1, perDie := false, size := 4 },
  { name := "ring_depth_log", lo := 0x3040, hi := 0x3040, slo := 0, shi := 0, ty := .u8, acc := .rws, dflt := 3, clamp := .span 2 5 1, perDie := false, size := 1 },
  { name := "ring_bad_desc", lo := 0x3041, hi := 0x3041, slo := 0, shi := 0, ty := .u32, acc := .ro, dflt := 0, clamp := .any, perDie := true, size := 4 },
  { name := "ring_cache_waits", lo := 0x3042, hi := 0x3042, slo := 0, shi := 0, ty := .u32, acc := .ro, dflt := 0, clamp := .any, perDie := true, size := 4 },
  { name := "dest_port", lo := 0x3400, hi := 0x37FF, slo := 1, shi := 1, ty := .u8, acc := .rws, dflt := 255, clamp := .any, perDie := false, size := 1 },
  { name := "dest_bands", lo := 0x3400, hi := 0x37FF, slo := 2, shi := 2, ty := .u16, acc := .rws, dflt := 1, clamp := .span 1 1024 1, perDie := false, size := 2 },
  { name := "dest_ring_base", lo := 0x3400, hi := 0x37FF, slo := 3, shi := 3, ty := .u64, acc := .rws, dflt := 0, clamp := .maskStep 0xFFFFFFFFFF 16, perDie := false, size := 8 },
  { name := "dest_enable", lo := 0x3400, hi := 0x37FF, slo := 4, shi := 4, ty := .bool, acc := .rws, dflt := 0, clamp := .mask 1, perDie := false, size := 1 },
  { name := "canvas_width", lo := 0x4000, hi := 0x4000, slo := 0, shi := 0, ty := .u16, acc := .rws, dflt := 3840, clamp := .span 8 16384 8, perDie := false, size := 2 },
  { name := "canvas_height", lo := 0x4001, hi := 0x4001, slo := 0, shi := 0, ty := .u16, acc := .rws, dflt := 2160, clamp := .span 1 16384 1, perDie := false, size := 2 },
  { name := "own_region", lo := 0x4002, hi := 0x4002, slo := 1, shi := 4, ty := .u16, acc := .rws, dflt := 0, clamp := .span 0 16384 1, perDie := false, size := 2 },
  { name := "stripe_start", lo := 0x4003, hi := 0x4003, slo := 1, shi := 8, ty := .u16, acc := .rws, dflt := 0xFFFF, clamp := .oneOf [(0, 16383), (65535, 65535)], perDie := false, size := 2 },
  { name := "canvas_primaries", lo := 0x4004, hi := 0x4004, slo := 0, shi := 0, ty := .u8, acc := .rws, dflt := 1, clamp := .oneOf [(0, 1)], perDie := false, size := 1 },
  { name := "canvas_linear_peak", lo := 0x4005, hi := 0x4005, slo := 0, shi := 0, ty := .u16, acc := .rws, dflt := 1000, clamp := .span 100 10000 1, perDie := false, size := 2 },
  { name := "sdr_white", lo := 0x4006, hi := 0x4006, slo := 0, shi := 0, ty := .u16, acc := .rws, dflt := 203, clamp := .span 80 1000 1, perDie := false, size := 2 },
  { name := "bg_colour", lo := 0x4007, hi := 0x4007, slo := 1, shi := 8, ty := .u64, acc := .rws, dflt := 0, clamp := .mask 0xFFFFFFFFFFFF, perDie := false, size := 8 },
  { name := "compose_apply", lo := 0x4008, hi := 0x4008, slo := 0, shi := 0, ty := .bool, acc := .wo, dflt := 0, clamp := .mask 1, perDie := false, size := 1 },
  { name := "compose_seg_cells", lo := 0x4009, hi := 0x4009, slo := 0, shi := 0, ty := .u16, acc := .rws, dflt := 16, clamp := .span 1 1024 1, perDie := false, size := 2 },
  { name := "compose_seg_pool_kb", lo := 0x400A, hi := 0x400A, slo := 0, shi := 0, ty := .u16, acc := .rws, dflt := 2048, clamp := .span 256 8192 256, perDie := true, size := 2 },
  { name := "compose_fetch", lo := 0x400B, hi := 0x400B, slo := 0, shi := 0, ty := .u32, acc := .ro, dflt := 0, clamp := .span 0 60000 1, perDie := true, size := 4 },
  { name := "compose_flags", lo := 0x400C, hi := 0x400C, slo := 0, shi := 0, ty := .u8, acc := .w1c, dflt := 0, clamp := .mask 0x3F, perDie := true, size := 1 },
  { name := "filter_h", lo := 0x4040, hi := 0x4043, slo := 1, shi := 1, ty := .blob, acc := .rws, dflt := 0, clamp := .any, perDie := false, size := 1024 }]

/-- Rows 0x4040 to 0x4400. -/
def dictView3 : List ObjDef := [
  { name := "filter_v", lo := 0x4040, hi := 0x4043, slo := 2, shi := 2, ty := .blob, acc := .rws, dflt := 0, clamp := .any, perDie := false, size := 768 },
  { name := "vl_enable", lo := 0x4100, hi := 0x411F, slo := 1, shi := 1, ty := .bool, acc := .rws, dflt := 0, clamp := .mask 1, perDie := false, size := 1 },
  { name := "vl_source", lo := 0x4100, hi := 0x411F, slo := 2, shi := 2, ty := .u8, acc := .rws, dflt := 0, clamp := .span 0 63 1, perDie := false, size := 1 },
  { name := "vl_src_rect", lo := 0x4100, hi := 0x411F, slo := 3, shi := 3, ty := .u64, acc := .rws, dflt := 0, clamp := .any, perDie := false, size := 8 },
  { name := "vl_dst_rect", lo := 0x4100, hi := 0x411F, slo := 4, shi := 4, ty := .u64, acc := .rws, dflt := 0, clamp := .any, perDie := false, size := 8 },
  { name := "vl_z", lo := 0x4100, hi := 0x411F, slo := 5, shi := 5, ty := .u8, acc := .rws, dflt := 0, clamp := .span 0 63 1, perDie := false, size := 1 },
  { name := "vl_views", lo := 0x4100, hi := 0x411F, slo := 6, shi := 6, ty := .u8, acc := .rws, dflt := 255, clamp := .mask 0xFF, perDie := false, size := 1 },
  { name := "vl_alpha", lo := 0x4100, hi := 0x411F, slo := 7, shi := 7, ty := .u16, acc := .rws, dflt := 1023, clamp := .span 0 1023 1, perDie := false, size := 2 },
  { name := "vl_filter", lo := 0x4100, hi := 0x411F, slo := 8, shi := 8, ty := .u8, acc := .rws, dflt := 0, clamp := .oneOf [(0, 5)], perDie := false, size := 1 },
  { name := "gl_enable", lo := 0x4200, hi := 0x421F, slo := 1, shi := 1, ty := .bool, acc := .rws, dflt := 0, clamp := .mask 1, perDie := false, size := 1 },
  { name := "gl_surface", lo := 0x4200, hi := 0x421F, slo := 2, shi := 2, ty := .u8, acc := .rws, dflt := 0, clamp := .span 0 31 1, perDie := false, size := 1 },
  { name := "gl_src_xy", lo := 0x4200, hi := 0x421F, slo := 3, shi := 3, ty := .u32, acc := .rws, dflt := 0, clamp := .any, perDie := false, size := 4 },
  { name := "gl_dst_rect", lo := 0x4200, hi := 0x421F, slo := 4, shi := 4, ty := .u64, acc := .rws, dflt := 0, clamp := .any, perDie := false, size := 8 },
  { name := "gl_z", lo := 0x4200, hi := 0x421F, slo := 5, shi := 5, ty := .u8, acc := .rws, dflt := 0, clamp := .span 0 63 1, perDie := false, size := 1 },
  { name := "gl_views", lo := 0x4200, hi := 0x421F, slo := 6, shi := 6, ty := .u8, acc := .rws, dflt := 255, clamp := .mask 0xFF, perDie := false, size := 1 },
  { name := "gl_alpha", lo := 0x4200, hi := 0x421F, slo := 7, shi := 7, ty := .u16, acc := .rws, dflt := 1023, clamp := .span 0 1023 1, perDie := false, size := 2 },
  { name := "gl_alpha_mode", lo := 0x4200, hi := 0x421F, slo := 8, shi := 8, ty := .u8, acc := .rws, dflt := 0, clamp := .oneOf [(0, 1)], perDie := false, size := 1 },
  { name := "gs_format", lo := 0x4300, hi := 0x431F, slo := 1, shi := 1, ty := .u8, acc := .rws, dflt := 0, clamp := .oneOf [(0, 1)], perDie := false, size := 1 },
  { name := "gs_width", lo := 0x4300, hi := 0x431F, slo := 2, shi := 2, ty := .u16, acc := .rws, dflt := 0, clamp := .span 0 8192 1, perDie := false, size := 2 },
  { name := "gs_height", lo := 0x4300, hi := 0x431F, slo := 3, shi := 3, ty := .u16, acc := .rws, dflt := 0, clamp := .span 0 8192 1, perDie := false, size := 2 },
  { name := "gs_transfer", lo := 0x4300, hi := 0x431F, slo := 4, shi := 4, ty := .u8, acc := .rws, dflt := 0, clamp := .oneOf [(0, 2)], perDie := false, size := 1 },
  { name := "gs_data", lo := 0x4300, hi := 0x431F, slo := 5, shi := 5, ty := .blob, acc := .rws, dflt := 0, clamp := .any, perDie := false, size := 0 },
  { name := "src_type", lo := 0x4400, hi := 0x443F, slo := 1, shi := 1, ty := .u8, acc := .rws, dflt := 0, clamp := .oneOf [(0, 3)], perDie := false, size := 1 },
  { name := "src_port", lo := 0x4400, hi := 0x443F, slo := 2, shi := 2, ty := .u8, acc := .rws, dflt := 0, clamp := .any, perDie := false, size := 1 },
  { name := "src_group_a", lo := 0x4400, hi := 0x443F, slo := 3, shi := 3, ty := .u64, acc := .rws, dflt := 0, clamp := .mask 0xFFFFFFFFFFFF, perDie := false, size := 8 }]

/-- Rows 0x4400 to 0x4500. -/
def dictView4 : List ObjDef := [
  { name := "src_group_b", lo := 0x4400, hi := 0x443F, slo := 4, shi := 4, ty := .u64, acc := .rws, dflt := 0, clamp := .mask 0xFFFFFFFFFFFF, perDie := false, size := 8 },
  { name := "src_sender", lo := 0x4400, hi := 0x443F, slo := 5, shi := 5, ty := .u32, acc := .rws, dflt := 0, clamp := .any, perDie := false, size := 4 },
  { name := "src_format", lo := 0x4400, hi := 0x443F, slo := 6, shi := 6, ty := .u8, acc := .rws, dflt := 0, clamp := .custom, perDie := false, size := 1 },
  { name := "src_size", lo := 0x4400, hi := 0x443F, slo := 7, shi := 7, ty := .u32, acc := .rws, dflt := 0, clamp := .any, perDie := false, size := 4 },
  { name := "src_pt", lo := 0x4400, hi := 0x443F, slo := 8, shi := 8, ty := .u8, acc := .rws, dflt := 96, clamp := .span 96 127 1, perDie := false, size := 1 },
  { name := "src_rate_mhz", lo := 0x4400, hi := 0x443F, slo := 9, shi := 9, ty := .u32, acc := .rws, dflt := 0xEA60, clamp := .span 1000 240000 1, perDie := false, size := 4 },
  { name := "src_latch", lo := 0x4400, hi := 0x443F, slo := 10, shi := 10, ty := .u8, acc := .rws, dflt := 0, clamp := .oneOf [(0, 1)], perDie := false, size := 1 },
  { name := "src_skew_us", lo := 0x4400, hi := 0x443F, slo := 11, shi := 11, ty := .u16, acc := .rws, dflt := 2000, clamp := .span 0 10000 1, perDie := false, size := 2 },
  { name := "src_stale_mode", lo := 0x4400, hi := 0x443F, slo := 12, shi := 12, ty := .u8, acc := .rws, dflt := 0, clamp := .oneOf [(0, 1)], perDie := false, size := 1 },
  { name := "src_ptp", lo := 0x4400, hi := 0x443F, slo := 13, shi := 13, ty := .u8, acc := .rws, dflt := 0, clamp := .oneOf [(0, 1)], perDie := false, size := 1 },
  { name := "src_import_region", lo := 0x4400, hi := 0x443F, slo := 14, shi := 14, ty := .u16, acc := .rws, dflt := 0, clamp := .span 0 1023 1, perDie := false, size := 2 },
  { name := "src_import_node", lo := 0x4400, hi := 0x443F, slo := 15, shi := 15, ty := .u16, acc := .rws, dflt := 0xFFFF, clamp := .oneOf [(0, 1023), (65535, 65535)], perDie := false, size := 2 },
  { name := "src_frames", lo := 0x4400, hi := 0x443F, slo := 16, shi := 16, ty := .u32, acc := .ro, dflt := 0, clamp := .any, perDie := false, size := 4 },
  { name := "src_damaged", lo := 0x4400, hi := 0x443F, slo := 17, shi := 17, ty := .u32, acc := .ro, dflt := 0, clamp := .any, perDie := false, size := 4 },
  { name := "src_repeats", lo := 0x4400, hi := 0x443F, slo := 18, shi := 18, ty := .u32, acc := .ro, dflt := 0, clamp := .any, perDie := false, size := 4 },
  { name := "src_skips", lo := 0x4400, hi := 0x443F, slo := 19, shi := 19, ty := .u32, acc := .ro, dflt := 0, clamp := .any, perDie := false, size := 4 },
  { name := "src_path_loss", lo := 0x4400, hi := 0x443F, slo := 20, shi := 20, ty := .u64, acc := .ro, dflt := 0, clamp := .any, perDie := false, size := 8 },
  { name := "src_bad_packets", lo := 0x4400, hi := 0x443F, slo := 21, shi := 21, ty := .u32, acc := .ro, dflt := 0, clamp := .any, perDie := false, size := 4 },
  { name := "src_last_time", lo := 0x4400, hi := 0x443F, slo := 22, shi := 22, ty := .layt, acc := .ro, dflt := 0, clamp := .any, perDie := false, size := 12 },
  { name := "cx_enable", lo := 0x4500, hi := 0x451F, slo := 1, shi := 1, ty := .bool, acc := .rws, dflt := 0, clamp := .mask 1, perDie := false, size := 1 },
  { name := "cx_rect", lo := 0x4500, hi := 0x451F, slo := 2, shi := 2, ty := .u64, acc := .rws, dflt := 0, clamp := .any, perDie := false, size := 8 },
  { name := "cx_node", lo := 0x4500, hi := 0x451F, slo := 3, shi := 3, ty := .u16, acc := .rws, dflt := 0xFFFF, clamp := .oneOf [(0, 1023), (65535, 65535)], perDie := false, size := 2 },
  { name := "cx_region", lo := 0x4500, hi := 0x451F, slo := 4, shi := 4, ty := .u16, acc := .rws, dflt := 0, clamp := .span 0 1023 1, perDie := false, size := 2 },
  { name := "cx_format", lo := 0x4500, hi := 0x451F, slo := 5, shi := 5, ty := .u8, acc := .rws, dflt := 0, clamp := .oneOf [(0, 1)], perDie := false, size := 1 },
  { name := "cx_views", lo := 0x4500, hi := 0x451F, slo := 6, shi := 6, ty := .u8, acc := .rws, dflt := 255, clamp := .mask 0xFF, perDie := false, size := 1 }]

/-- Rows 0x4C00 to 0x4C00. -/
def dictView5 : List ObjDef := [
  { name := "dest_splice", lo := 0x4C00, hi := 0x4FFF, slo := 1, shi := 1, ty := .blob, acc := .rws, dflt := 0, clamp := .any, perDie := false, size := 32 },
  { name := "dest_last_crc", lo := 0x4C00, hi := 0x4FFF, slo := 2, shi := 2, ty := .u32, acc := .ro, dflt := 0, clamp := .any, perDie := false, size := 4 },
  { name := "dest_last_frame", lo := 0x4C00, hi := 0x4FFF, slo := 3, shi := 3, ty := .u32, acc := .ro, dflt := 0, clamp := .any, perDie := false, size := 4 }]

/-- The rows of this file. -/
def dictView : List ObjDef := dictView1 ++ dictView2 ++ dictView3 ++ dictView4 ++ dictView5

end Sys2Proof.Machine
end

