-- ==== Sys2Proof/Machine/Names.lean ====
section
/-! DEFINITION. The names of the objects: each is its index × 256 + its subindex, or that of its first item (R15, R73). -/

namespace Sys2Proof.Machine.Ob

abbrev identity : Nat := 0x100000
abbrev die_count : Nat := 0x100100
abbrev dies_alive : Nat := 0x100200
abbrev role_mode : Nat := 0x101000
abbrev role_active : Nat := 0x101100
abbrev node_id : Nat := 0x101200
abbrev chain_demand : Nat := 0x102000
abbrev compose_demand : Nat := 0x102100
abbrev corrix_udp_port : Nat := 0x110000
abbrev mgmt_ip_mode : Nat := 0x110100
abbrev mgmt_ip_static : Nat := 0x110200
abbrev mgmt_ip_mask : Nat := 0x110300
abbrev mgmt_gateway : Nat := 0x110400
abbrev mgmt_ip_current : Nat := 0x110500
abbrev mgmt_mac : Nat := 0x110600
abbrev event_dest : Nat := 0x111000
abbrev blob_idle_s : Nat := 0x111100
abbrev commit_state : Nat := 0x112000
abbrev commit_id : Nat := 0x112100
abbrev commit_epoch : Nat := 0x112200
abbrev commit_launch : Nat := 0x112300
abbrev commit_applied_at : Nat := 0x112400
abbrev commit_refuse_mask : Nat := 0x112500
abbrev commit_refuse_reason : Nat := 0x112600
abbrev commit_flags : Nat := 0x112700
abbrev commit_refuse_codes : Nat := 0x112800
abbrev corrix_requests : Nat := 0x113001
abbrev corrix_crc_drops : Nat := 0x113002
abbrev corrix_malformed : Nat := 0x113003
abbrev corrix_dup_replays : Nat := 0x113004
abbrev corrix_busy : Nat := 0x113005
abbrev corrix_unreachable : Nat := 0x113006
abbrev corrix_orphan_resp : Nat := 0x113007
abbrev corrix_sessions : Nat := 0x113100
abbrev lay_now : Nat := 0x120000
abbrev lay_rank : Nat := 0x120100
abbrev lay_state : Nat := 0x120200
abbrev lay_root_node : Nat := 0x120300
abbrev lay_root_gen : Nat := 0x120400
abbrev lay_hops : Nat := 0x120500
abbrev lay_upstream : Nat := 0x120600
abbrev lay_offset_ps : Nat := 0x120700
abbrev lay_freq_adj : Nat := 0x120800
abbrev lay_servo_bw : Nat := 0x120900
abbrev lay_cells_bad : Nat := 0x120A00
abbrev lay_flags : Nat := 0x120B00
abbrev lay_ref_priority : Nat := 0x121000
abbrev lay_ref_selected : Nat := 0x121100
abbrev lay_ref_qualified : Nat := 0x121200
abbrev lay_ref_revert : Nat := 0x121300
abbrev lay_drift_ppb : Nat := 0x121400
abbrev lay_drift_dwell_s : Nat := 0x121500
abbrev lay_root_bw_mhz : Nat := 0x121600
abbrev lay_ref_qual_s : Nat := 0x121700
abbrev lay_root_loss_ms : Nat := 0x121800
abbrev lay_root_handback : Nat := 0x121900
abbrev lay_wall_class : Nat := 0x122000
abbrev lay_step_threshold_ns : Nat := 0x122100
abbrev lay_slew_ppb : Nat := 0x122200
abbrev lay_step_pending_mag : Nat := 0x122301
abbrev lay_step_pending_neg : Nat := 0x122302
abbrev lay_step_at : Nat := 0x122303
abbrev lay_step_accept : Nat := 0x122400
abbrev lay_step_last_at : Nat := 0x122501
abbrev lay_step_last_mag : Nat := 0x122502
abbrev lay_step_last_neg : Nat := 0x122503
abbrev lay_time_set : Nat := 0x122600
abbrev lay_epoch_tai : Nat := 0x122700
abbrev lay_utc_offset : Nat := 0x122800
abbrev lay_port_skew_ps : Nat := 0x123001
abbrev lay_lane_tx_ps : Nat := 0x123101
abbrev lay_lane_rx_ps : Nat := 0x123201
abbrev lay_port_delay_ps : Nat := 0x123301
abbrev ptp_port_a : Nat := 0x124000
abbrev ptp_domain_a : Nat := 0x124100
abbrev ptp_profile_a : Nat := 0x124200
abbrev ptp_transport_a : Nat := 0x124300
abbrev ptp_one_step_a : Nat := 0x124400
abbrev ptp_asym_ns_a : Nat := 0x124500
abbrev ptp_state_a : Nat := 0x124600
abbrev ptp_offset_ns_a : Nat := 0x124700
abbrev ptp_gm_id_a : Nat := 0x124800
abbrev ptp_time_a : Nat := 0x124900
abbrev ptp_port_b : Nat := 0x125000
abbrev ptp_domain_b : Nat := 0x125100
abbrev ptp_profile_b : Nat := 0x125200
abbrev ptp_transport_b : Nat := 0x125300
abbrev ptp_one_step_b : Nat := 0x125400
abbrev ptp_asym_ns_b : Nat := 0x125500
abbrev ptp_state_b : Nat := 0x125600
abbrev ptp_offset_ns_b : Nat := 0x125700
abbrev ptp_gm_id_b : Nat := 0x125800
abbrev ptp_time_b : Nat := 0x125900
abbrev ptp_txts_level : Nat := 0x126001
abbrev ptp_txts_overflow : Nat := 0x126101
abbrev ptp_txts_dropped : Nat := 0x126201
abbrev ptp_txts_aged : Nat := 0x126301
abbrev local_count : Nat := 0x127000
abbrev lay_evt_mode : Nat := 0x128001
abbrev lay_evt_start : Nat := 0x128101
abbrev lay_evt_period_num : Nat := 0x128201
abbrev lay_evt_period_den : Nat := 0x128301
abbrev lay_evt_width_ns : Nat := 0x128401
abbrev lay_evt_polarity : Nat := 0x128501
abbrev lay_pps_last : Nat := 0x129000
abbrev lay_fsync_last : Nat := 0x129100
abbrev fsync_period_num : Nat := 0x129200
abbrev fsync_period_den : Nat := 0x129300
abbrev red_sup_state : Nat := 0x130000
abbrev red_sup_die : Nat := 0x130100
abbrev red_sup_hb_ms : Nat := 0x130200
abbrev red_arb_in_en : Nat := 0x130300
abbrev red_sup_rejoin : Nat := 0x130400
abbrev red_arb_die : Nat := 0x130500
abbrev red_sup_failovers : Nat := 0x130600
abbrev red_flags : Nat := 0x131000
abbrev red_ring_port : Nat := 0x132000
abbrev red_peer_node : Nat := 0x132100
abbrev red_primary : Nat := 0x132200
abbrev red_head_state : Nat := 0x132300
abbrev red_declare : Nat := 0x132400
abbrev red_self_ms : Nat := 0x132500
abbrev red_hb_loss_ms : Nat := 0x132600
abbrev red_ckpt_epoch : Nat := 0x132700
abbrev red_active_since : Nat := 0x132800
abbrev red_takeovers : Nat := 0x132900
abbrev red_arbiter : Nat := 0x133000
abbrev red_arb_missing : Nat := 0x133100
abbrev red_standby_addr : Nat := 0x133200
abbrev red_arb_state : Nat := 0x133300
abbrev red_down_alive : Nat := 0x134001
abbrev silt_flash_mb : Nat := 0x140001
abbrev silt_size_kb : Nat := 0x140100
abbrev silt_free_kb : Nat := 0x140200
abbrev silt_backlog_kb : Nat := 0x140300
abbrev silt_tamp_low_pct : Nat := 0x140400
abbrev silt_tamp_high_pct : Nat := 0x140500
abbrev silt_seq : Nat := 0x140600
abbrev silt_records : Nat := 0x140700
abbrev silt_tamps : Nat := 0x140800
abbrev silt_blank_fails : Nat := 0x140900
abbrev silt_bad_sectors : Nat := 0x140A00
abbrev silt_deferred_kb : Nat := 0x140B00
abbrev silt_refused : Nat := 0x140C00
abbrev silt_resyncs : Nat := 0x140D00
abbrev silt_flags : Nat := 0x140E00
abbrev upd_image : Nat := 0x142000
abbrev upd_bitmap : Nat := 0x142100
abbrev upd_state : Nat := 0x142200
abbrev upd_reason : Nat := 0x142300
abbrev upd_image_id : Nat := 0x142400
abbrev upd_segments : Nat := 0x142500
abbrev upd_abort : Nat := 0x142600
abbrev upd_activate : Nat := 0x142700
abbrev upd_manifest : Nat := 0x142800
abbrev fw_image_id : Nat := 0x142900
abbrev fw_version : Nat := 0x142A00
abbrev fw_slot : Nat := 0x142B00
abbrev fw_prev_image_id : Nat := 0x142C00
abbrev upd_pause_ms : Nat := 0x142D00
abbrev upd_flags : Nat := 0x142E00
abbrev therm_sensor_c : Nat := 0x150001
abbrev therm_die_c : Nat := 0x150100
abbrev therm_level : Nat := 0x150200
abbrev therm_warn_c : Nat := 0x150300
abbrev therm_throttle_c : Nat := 0x150400
abbrev therm_shutdown_c : Nat := 0x150500
abbrev therm_hyst_c : Nat := 0x150600
abbrev therm_sensor_broken : Nat := 0x150700
abbrev therm_flags : Nat := 0x150800
abbrev therm_shut_dies : Nat := 0x150900
abbrev therm_shut_part : Nat := 0x150A00
abbrev therm_throttle_ms : Nat := 0x150B00
abbrev trim_set : Nat := 0x151000
abbrev trim_code : Nat := 0x151101
abbrev trim_pending : Nat := 0x151201
abbrev lane_group_cfg : Nat := 0x200000
abbrev lane_enable : Nat := 0x200101
abbrev lane_tx_preset : Nat := 0x200201
abbrev lane_tx_ffe : Nat := 0x200301
abbrev lane_tx_polarity : Nat := 0x200401
abbrev lane_rx_polarity : Nat := 0x200501
abbrev lane_state : Nat := 0x200601
abbrev lane_peer : Nat := 0x200701
abbrev lane_sleep : Nat := 0x200801
abbrev lane_auto_wake : Nat := 0x200901
abbrev lane_maps : Nat := 0x200A01
abbrev lane_fec_corrected : Nat := 0x201001
abbrev lane_fec_uncorrected : Nat := 0x201101
abbrev lane_bip_errors : Nat := 0x201201
abbrev lane_am_rejects : Nat := 0x201301
abbrev lane_lock_losses : Nat := 0x201401
abbrev lane_ser : Nat := 0x201501
abbrev lane_degrade_ser : Nat := 0x201600
abbrev lane_drop_ucw : Nat := 0x201700
abbrev lane_flags : Nat := 0x201801
abbrev lane_loop : Nat := 0x202001
abbrev fe_loop_allow : Nat := 0x202100
abbrev prbs_gen : Nat := 0x202201
abbrev prbs_chk : Nat := 0x202301
abbrev prbs_errors : Nat := 0x202401
abbrev prbs_bits : Nat := 0x202501
abbrev prbs_sync : Nat := 0x202601
abbrev prbs_resyncs : Nat := 0x202701
abbrev lane_pair_mode : Nat := 0x203000
abbrev eth_an_enable : Nat := 0x203100
abbrev eth_link_state : Nat := 0x203200
abbrev eth_mac : Nat := 0x203300
abbrev eth_frames_dropped : Nat := 0x203400
abbrev port_role : Nat := 0x280001
abbrev fwd_up_port : Nat := 0x280100
abbrev fwd_down_port : Nat := 0x280200
abbrev fwd_flags : Nat := 0x280300
abbrev cell_rx : Nat := 0x281001
abbrev cell_tx : Nat := 0x281101
abbrev cell_crc_errors : Nat := 0x281201
abbrev cell_stomped : Nat := 0x281301
abbrev cell_bad_header : Nat := 0x281401
abbrev cell_framing_losses : Nat := 0x281501
abbrev fwd_drops : Nat := 0x281601
abbrev fwd_stray : Nat := 0x281701
abbrev splice_rx_drops : Nat := 0x281800
abbrev enum_id_first : Nat := 0x282000
abbrev enum_id_last : Nat := 0x282100
abbrev enum_period_s : Nat := 0x282200
abbrev enum_start : Nat := 0x282300
abbrev enum_count : Nat := 0x282401
abbrev enum_flags : Nat := 0x282500
abbrev enum_id_forget : Nat := 0x282600
abbrev enum_head : Nat := 0x282700
abbrev enum_pos : Nat := 0x282800
abbrev route_nodes : Nat := 0x283000
abbrev relay_entries : Nat := 0x283100
abbrev knot_window_ms : Nat := 0x284000
abbrev knot_sink : Nat := 0x284100
abbrev knot_depth : Nat := 0x284200
abbrev knot_entries : Nat := 0x284300
abbrev knot_evictions : Nat := 0x284400
abbrev knot_late : Nat := 0x284500
abbrev knot_undelivered : Nat := 0x284600
abbrev knot_log : Nat := 0x284700
abbrev knot_ack : Nat := 0x284800
abbrev event_seq : Nat := 0x284900
abbrev frame_period_num : Nat := 0x300000
abbrev frame_period_den : Nat := 0x300100
abbrev frame_origin : Nat := 0x300200
abbrev view_count : Nat := 0x300300
abbrev view_offset_ns : Nat := 0x300401
abbrev view_dark : Nat := 0x300500
abbrev launch_lead_ns : Nat := 0x300600
abbrev launch_lead_min_ns : Nat := 0x300700
abbrev late_fill : Nat := 0x300800
abbrev frame_now : Nat := 0x300900
abbrev frame_last_launch : Nat := 0x300A00
abbrev view_evt_mask : Nat := 0x301001
abbrev view_evt_delay_ns : Nat := 0x301101
abbrev launch_flags : Nat := 0x302000
abbrev late_starts : Nat := 0x302100
abbrev late_lines : Nat := 0x302200
abbrev carries : Nat := 0x302300
abbrev lag_last_ns : Nat := 0x302400
abbrev lag_max_ns : Nat := 0x302500
abbrev late_last_at : Nat := 0x302600
abbrev late_sends : Nat := 0x302700
abbrev fade_start : Nat := 0x303000
abbrev fade_duration_ms : Nat := 0x303100
abbrev fade_from : Nat := 0x303200
abbrev fade_to : Nat := 0x303300
abbrev fade_from_current : Nat := 0x303400
abbrev fade_curve : Nat := 0x303500
abbrev fade_gamma : Nat := 0x303600
abbrev fade_gain : Nat := 0x303700
abbrev ring_depth_log : Nat := 0x304000
abbrev ring_bad_desc : Nat := 0x304100
abbrev ring_cache_waits : Nat := 0x304200
abbrev dest_port : Nat := 0x340001
abbrev dest_bands : Nat := 0x340002
abbrev dest_ring_base : Nat := 0x340003
abbrev dest_enable : Nat := 0x340004
abbrev canvas_width : Nat := 0x400000
abbrev canvas_height : Nat := 0x400100
abbrev own_region : Nat := 0x400201
abbrev stripe_start : Nat := 0x400301
abbrev canvas_primaries : Nat := 0x400400
abbrev canvas_linear_peak : Nat := 0x400500
abbrev sdr_white : Nat := 0x400600
abbrev bg_colour : Nat := 0x400701
abbrev compose_apply : Nat := 0x400800
abbrev compose_seg_cells : Nat := 0x400900
abbrev compose_seg_pool_kb : Nat := 0x400A00
abbrev compose_fetch : Nat := 0x400B00
abbrev compose_flags : Nat := 0x400C00
abbrev filter_h : Nat := 0x404001
abbrev filter_v : Nat := 0x404002
abbrev vl_enable : Nat := 0x410001
abbrev vl_source : Nat := 0x410002
abbrev vl_src_rect : Nat := 0x410003
abbrev vl_dst_rect : Nat := 0x410004
abbrev vl_z : Nat := 0x410005
abbrev vl_views : Nat := 0x410006
abbrev vl_alpha : Nat := 0x410007
abbrev vl_filter : Nat := 0x410008
abbrev gl_enable : Nat := 0x420001
abbrev gl_surface : Nat := 0x420002
abbrev gl_src_xy : Nat := 0x420003
abbrev gl_dst_rect : Nat := 0x420004
abbrev gl_z : Nat := 0x420005
abbrev gl_views : Nat := 0x420006
abbrev gl_alpha : Nat := 0x420007
abbrev gl_alpha_mode : Nat := 0x420008
abbrev gs_format : Nat := 0x430001
abbrev gs_width : Nat := 0x430002
abbrev gs_height : Nat := 0x430003
abbrev gs_transfer : Nat := 0x430004
abbrev gs_data : Nat := 0x430005
abbrev src_type : Nat := 0x440001
abbrev src_port : Nat := 0x440002
abbrev src_group_a : Nat := 0x440003
abbrev src_group_b : Nat := 0x440004
abbrev src_sender : Nat := 0x440005
abbrev src_format : Nat := 0x440006
abbrev src_size : Nat := 0x440007
abbrev src_pt : Nat := 0x440008
abbrev src_rate_mhz : Nat := 0x440009
abbrev src_latch : Nat := 0x44000A
abbrev src_skew_us : Nat := 0x44000B
abbrev src_stale_mode : Nat := 0x44000C
abbrev src_ptp : Nat := 0x44000D
abbrev src_import_region : Nat := 0x44000E
abbrev src_import_node : Nat := 0x44000F
abbrev src_frames : Nat := 0x440010
abbrev src_damaged : Nat := 0x440011
abbrev src_repeats : Nat := 0x440012
abbrev src_skips : Nat := 0x440013
abbrev src_path_loss : Nat := 0x440014
abbrev src_bad_packets : Nat := 0x440015
abbrev src_last_time : Nat := 0x440016
abbrev cx_enable : Nat := 0x450001
abbrev cx_rect : Nat := 0x450002
abbrev cx_node : Nat := 0x450003
abbrev cx_region : Nat := 0x450004
abbrev cx_format : Nat := 0x450005
abbrev cx_views : Nat := 0x450006
abbrev dest_splice : Nat := 0x4C0001
abbrev dest_last_crc : Nat := 0x4C0002
abbrev dest_last_frame : Nat := 0x4C0003
abbrev cam_lanes : Nat := 0x500001
abbrev cam_inline : Nat := 0x500100
abbrev cam_load : Nat := 0x500200
abbrev cam_fcam : Nat := 0x500300
abbrev cam_flags : Nat := 0x500400
abbrev cam_capture_pool_mb : Nat := 0x500500
abbrev cam_bad_packets : Nat := 0x500601
abbrev cam_ecc_corrected : Nat := 0x500701
abbrev cam_enable : Nat := 0x510001
abbrev cam_dt : Nat := 0x510002
abbrev cam_size : Nat := 0x510003
abbrev cam_rate_mhz : Nat := 0x510004
abbrev cam_cfa : Nat := 0x510005
abbrev cam_output : Nat := 0x510006
abbrev cam_dump_point : Nat := 0x510007
abbrev cam_black : Nat := 0x510008
abbrev cam_snr : Nat := 0x510009
abbrev cam_tnr : Nat := 0x51000A
abbrev cam_noise : Nat := 0x51000B
abbrev cam_dyn_defect : Nat := 0x51000C
abbrev cam_wb : Nat := 0x51000D
abbrev cam_ccm : Nat := 0x51000E
abbrev cam_primaries : Nat := 0x51000F
abbrev cam_out_peak : Nat := 0x510010
abbrev cam_frame_timeout_ms : Nat := 0x510011
abbrev cam_frames : Nat := 0x510012
abbrev cam_drops : Nat := 0x510013
abbrev cam_drop_reason : Nat := 0x510014
abbrev cam_skips : Nat := 0x510015
abbrev cam_last_fs : Nat := 0x510016
abbrev cam_defects : Nat := 0x520001
abbrev cam_shading : Nat := 0x520002
abbrev cap_stream : Nat := 0x530001
abbrev cap_frame : Nat := 0x530002
abbrev cap_view : Nat := 0x530003
abbrev cap_offset_ns : Nat := 0x530004
abbrev cap_evt : Nat := 0x530005
abbrev cap_width_ns : Nat := 0x530006
abbrev cap_window_us : Nat := 0x530007
abbrev cap_arm : Nat := 0x530008
abbrev cap_state : Nat := 0x530009
abbrev cap_reason : Nat := 0x53000A
abbrev cap_trigger_at : Nat := 0x53000B
abbrev cap_fs_at : Nat := 0x53000C
abbrev cap_data : Nat := 0x53000D
abbrev cap_release : Nat := 0x53000E
abbrev splice_desc : Nat := 0x600000
abbrev splice_rx_kb : Nat := 0x600100
abbrev corr_rect : Nat := 0x600200
abbrev corr_lamps : Nat := 0x600300
abbrev corr_peak_cdm2 : Nat := 0x600400
abbrev corr_brightness : Nat := 0x600500
abbrev corr_dither : Nat := 0x600600
abbrev pq_lut_user : Nat := 0x600700
abbrev pq_lut : Nat := 0x600800
abbrev corr_set_id : Nat := 0x601000
abbrev corr_set_single : Nat := 0x601100
abbrev corr_drive_lo : Nat := 0x601200
abbrev corr_drive_hi : Nat := 0x601300
abbrev corr_set_records : Nat := 0x601400
abbrev corr_patch : Nat := 0x601500
abbrev corr_patches_pending : Nat := 0x601600
abbrev corr_status : Nat := 0x601700
abbrev derate_knee : Nat := 0x602000
abbrev derate_slope : Nat := 0x602100
abbrev derate_floor : Nat := 0x602200
abbrev zone_temp_tau_ms : Nat := 0x602300
abbrev out_curve : Nat := 0x603000
abbrev check_flags : Nat := 0x604000
abbrev check_passes : Nat := 0x604100
abbrev check_fails : Nat := 0x604200
abbrev check_last_reason : Nat := 0x604300
abbrev check_last_frame : Nat := 0x604400
abbrev check_last_view : Nat := 0x604500
abbrev check_last_crc : Nat := 0x604600
abbrev check_last_expected : Nat := 0x604700
abbrev corr_flags : Nat := 0x604800
abbrev corr_clips : Nat := 0x604900
abbrev zone_rect : Nat := 0x610001
abbrev zone_temp_src : Nat := 0x610002
abbrev zone_temp_offset : Nat := 0x610003
abbrev zone_matrix : Nat := 0x610004
abbrev zone_temp : Nat := 0x610005
abbrev zone_derate : Nat := 0x610006
abbrev chain_profile : Nat := 0x700000
abbrev rg_profile : Nat := 0x701001
abbrev rg_chains : Nat := 0x701002
abbrev rg_scan_lines : Nat := 0x701003
abbrev rg_sclk_div : Nat := 0x701004
abbrev rg_gclk_div : Nat := 0x701005
abbrev rg_line_ns : Nat := 0x701006
abbrev rg_blank_ns : Nat := 0x701007
abbrev rg_blank_min_ns : Nat := 0x701008
abbrev rg_row_dead_ns : Nat := 0x701009
abbrev rg_sense_ns : Nat := 0x70100A
abbrev rg_row_pol : Nat := 0x70100B
abbrev rg_iref_code : Nat := 0x70100C
abbrev rg_bg : Nat := 0x70100D
abbrev rg_sr_mode : Nat := 0x70100E
abbrev rg_sr_after : Nat := 0x70100F
abbrev rg_rb_every : Nat := 0x701010
abbrev rg_rb_settle_ns : Nat := 0x701011
abbrev rg_vddio : Nat := 0x701012
abbrev rg_state : Nat := 0x701013
abbrev rg_shift_ns : Nat := 0x701014
abbrev rg_slack_ns : Nat := 0x701015
abbrev rg_frames : Nat := 0x701016
abbrev rg_last_flip : Nat := 0x701017
abbrev rg_last_flip_frame : Nat := 0x701018
abbrev rg_last_flip_view : Nat := 0x701019
abbrev rg_row_fault : Nat := 0x70101A
abbrev rg_out_fault : Nat := 0x70101B
abbrev rg_underruns : Nat := 0x70101C
abbrev rg_rb_line : Nat := 0x70101D
abbrev chain_drivers : Nat := 0x702001
abbrev scan_map : Nat := 0x703000
abbrev raster_store_kb : Nat := 0x703100
abbrev raster_tolerance_ns : Nat := 0x703200
abbrev raster_flags : Nat := 0x703300
abbrev rb_records : Nat := 0x703400
abbrev rb_mark_bad : Nat := 0x703500
abbrev rect_mode : Nat := 0x706001
abbrev rect_area : Nat := 0x706002
abbrev rect_views : Nat := 0x706003
abbrev rect_expected : Nat := 0x706004
abbrev rect_stream_xy : Nat := 0x706005
abbrev rect_last : Nat := 0x706006
abbrev rect_checks : Nat := 0x706007
abbrev rect_fails : Nat := 0x706008
abbrev fault_confirm : Nat := 0x7C0000
abbrev fault_autoclear : Nat := 0x7C0100
abbrev fault_min_code : Nat := 0x7C0200
abbrev fault_mask_kinds : Nat := 0x7C0300
abbrev fault_drv_temp_max : Nat := 0x7C0400
abbrev fault_map : Nat := 0x7C0800
abbrev fault_write : Nat := 0x7C0900
abbrev fault_open_count : Nat := 0x7C0A00
abbrev fault_short_count : Nat := 0x7C0B00
abbrev fault_forced_count : Nat := 0x7C0C00
abbrev fault_new : Nat := 0x7C0D00
abbrev fault_last : Nat := 0x7C0E00
abbrev fault_last_at : Nat := 0x7C0F00
abbrev fault_unplaced : Nat := 0x7C1000
abbrev fault_flags : Nat := 0x7C1100
abbrev fg_map : Nat := 0x7C2000
abbrev fg_mode : Nat := 0x7D0001
abbrev fg_threshold : Nat := 0x7D0002
abbrev fg_link : Nat := 0x7D0003
abbrev fg_severity : Nat := 0x7D0004
abbrev fg_failed : Nat := 0x7D0005
abbrev fg_blanked : Nat := 0x7D0006
abbrev sram_reserved_kb : Nat := 0x800000
abbrev sram_alloc_kb : Nat := 0x800100
abbrev sram_slice_mode : Nat := 0x800201
abbrev sram_slice_state : Nat := 0x800301
abbrev sram_ret_idle_us : Nat := 0x800400
abbrev sram_busy : Nat := 0x800501
abbrev sram_undef_reads : Nat := 0x800600
abbrev sram_bist_mode : Nat := 0x800700
abbrev sram_bist_rate : Nat := 0x800800
abbrev sram_bist_passes : Nat := 0x800900
abbrev sram_bist_fails : Nat := 0x800A00
abbrev sram_bist_last_addr : Nat := 0x800B00
abbrev sram_repair : Nat := 0x800C00
abbrev sram_flags : Nat := 0x800D00
abbrev dram_size_mb : Nat := 0x810001
abbrev dram_rate_code : Nat := 0x810100
abbrev dram_ecc : Nat := 0x810200
abbrev dram_state : Nat := 0x810301
abbrev dram_sr_idle_ns : Nat := 0x810400
abbrev dram_sr_margin_ns : Nat := 0x810500
abbrev dram_sr_exit_ns : Nat := 0x810601
abbrev dram_tolerance_ns : Nat := 0x810700
abbrev dram_sr_entries : Nat := 0x810801
abbrev dram_sr_refused : Nat := 0x810901
abbrev dram_demand : Nat := 0x810A00
abbrev dram_flags : Nat := 0x810B00
abbrev dram_wq_forwards : Nat := 0x810C01
abbrev dram_prio : Nat := 0x811001
abbrev dram_age_ns : Nat := 0x811100
abbrev dram_dly_rd : Nat := 0x812001
abbrev dram_dly_wr : Nat := 0x812005
abbrev dram_vref : Nat := 0x812009
abbrev dram_load_offset : Nat := 0x81200D
abbrev dram_maint_sweep : Nat := 0x813000
abbrev dram_sweep_status : Nat := 0x813100
abbrev dram_dly_max_ms : Nat := 0x813200
abbrev dram_ecc_corrected : Nat := 0x814001
abbrev dram_ecc_uncorrected : Nat := 0x814101
abbrev refclk_sel : Nat := 0x900000
abbrev refclk_revert : Nat := 0x900100
abbrev refclk_rate_ppm : Nat := 0x900200
abbrev refclk_active : Nat := 0x900300
abbrev refclk_valid : Nat := 0x900400
abbrev refclk_switches : Nat := 0x900500
abbrev refclk_diff_ppb : Nat := 0x900600
abbrev clock_flags : Nat := 0x901000
abbrev xing_overruns : Nat := 0x901100
abbrev reset_cause : Nat := 0x902000
abbrev reset_count : Nat := 0x902100
abbrev part_reset : Nat := 0x902200
abbrev wdog_ms : Nat := 0x902300
abbrev boot_straps : Nat := 0x903000
abbrev boot_source : Nat := 0x903100
abbrev boot_flash_mode : Nat := 0x903200
abbrev boot_ms : Nat := 0x903301
abbrev boot_flags : Nat := 0x903400
abbrev io_chain_drive : Nat := 0x904001
abbrev io_sdo_delay_ps : Nat := 0x904101
abbrev pwr_flags : Nat := 0x904200
abbrev pwr_brownout_dies : Nat := 0x904300
abbrev pwr_brownouts : Nat := 0x904400

end Sys2Proof.Machine.Ob
end

