-- ==== Sys2Proof/Machine/Dict.lean ====
section
/-! DEFINITION. The whole dictionary (Table 2.11): the row of an object, by its key index × 256 + subindex. -/

namespace Sys2Proof.Machine

/-- The rows among which an index is looked up (Table 2.11). -/
def dictRows (index : Nat) : List ObjDef :=
  if index < 0x1300 then dictPart
  else if index < 0x2000 then dictUnit
  else if index < 0x3000 then dictLane
  else if index < 0x5000 then dictView
  else if index < 0x7000 then dictLamp
  else if index < 0x8000 then dictChain
  else dictUnit

/-- The row of an object, none where the dictionary has no such index or subindex (R73). -/
def objDef (key : Nat) : Option ObjDef := (dictRows (key / 256)).find? fun d => d.covers (key / 256) (key % 256)

/-- The default of an object; 0 where there is none. -/
def objDflt (key : Nat) : Int := match objDef key with
  | some d => d.dflt
  | none => 0

/-- Is the object's value held by each die (R39)? -/
def objPerDie (key : Nat) : Bool := match objDef key with
  | some d => d.perDie
  | none => false

/-- The smallest and largest value a fixed-size numeric type holds. -/
def Ty.bounds : Ty → Int × Int
  | .bool => (0, 1) | .u8 => (0, 255) | .u16 => (0, 65535) | .u32 => (0, 4294967295) | .u64 => (0, 18446744073709551615)
  | .i16 => (-32768, 32767) | .i32 => (-2147483648, 2147483647)
  | .layt => (0, 281474976710656 * laySec - 1) | .str => (0, 0) | .blob => (0, 0)

end Sys2Proof.Machine
end

