-- ==== Sys2Proof/Machine/Parts.lean ====
section
/-! DEFINITION. The parts of the state: what the spec gives each unit beside its dictionary objects. Plain data. Times named `at` or ending in `At` are in ns of `State.now`
unless they are said to be Lay times. -/

namespace Sys2Proof.Machine

/-- The value of an object: unlisted (its default), a number, or a BLOB. In a BLOB, bytes not listed read 0 where the blob has been written whole, and as the object's default where
only some of its bytes were changed. -/
inductive Value where
  | dflt
  | num (n : Int)
  | blob (whole : Bool) (bytes : SMap Byte)
  deriving DecidableEq, Repr, Inhabited

/-- Fuse contents (R4, R74, R144, R358, R435): the variant code, the silicon revision, the MAC addresses, the signing keys present and revoked. -/
structure Fuses where
  variant : Nat := 0x88
  rev     : Nat := 0xA0
  mac     : Nat := 0
  ethMac  : SMap Nat := []
  keys    : Nat := 0xF
  revoked : Nat := 0
  repair  : SMap Byte := []
  deriving DecidableEq, Repr, Inhabited

/-- What the part has put on its wires and pins. -/
inductive Pin where
  | faultN | thermN | layEvt (n : Nat) | mgmt | tdo
  deriving DecidableEq, Repr, Inhabited

/-- One thing the part has put out (log entry 6). -/
inductive Output where
  /-- a Corrix message that leaves by a host path: opcode and message; over UDP to the path's address and port, from its destination port (R54) -/
  | reply (via : Path) (op : Nat) (m : Msg)
  /-- a cell that begins on a Hawser port; its blocks are among those put out from then on -/
  | cell (port : Nat) (c : Cell)
  /-- the 32 bytes of an alignment marker that a lane sends, before any inversion (Table 4.2) -/
  | marker (die lane : Nat) (bytes : List Byte)
  /-- one block slot of a port's lanes: per lane that sends, the block it puts out (R119, R133) -/
  | blocks (port : Nat) (bs : List Block)
  /-- an EVENT message to event_dest, from a UDP port of the part (R178) -/
  | event (dest source : Nat) (bytes : List Byte)
  /-- bytes the host SPI target shifted out -/
  | spi (bytes : List Byte)
  /-- an ARP or ICMP echo answer on the management Ethernet -/
  | arpIcmp (icmp : Bool) (target source : Nat) (data : List Byte)
  /-- a LAY_EVT edge: output, level, Lay time -/
  | edge (output : Nat) (level : Bool) (at_ : Nat)
  /-- the level a pin is driven to -/
  | pin (p : Pin) (level : Bool)
  /-- a latch command of a chain group: VSYNC or LINE_LATCH, its LAT width, the Lay time of its latch edge -/
  | latch (die group : Nat) (vsync : Bool) (width at_ : Nat)
  /-- the configuration of a group's drivers (R316): steps of a LAT width and, for a group of words, the word that every driver gets -/
  | config (die group : Nat) (steps : List (Nat × Option Nat))
  /-- the outputs of a chain group take their resting levels (R302): SCLK, LAT, GCLK and every CHAIN_SDI low, IREF at code 0, ROW_A[5:0] and ROW_EN at these levels -/
  | rest (die group rowA : Nat) (rowEn : Bool)
  /-- an output of a chain group (R327) turns high-impedance with a weak pull to a level -/
  | pulled (die group output : Nat) (level : Bool)
  /-- an output of a chain group is driven again (R328) -/
  | driven (die group output : Nat)
  /-- the outputs of a chain group are high-impedance, with their weak pull-downs (R400, R457) -/
  | highZ (die group : Nat)
  /-- a line (R310): group, scan line, whether ROW_EN goes active, the Lay times of its start, of the end of its lit time and of the change of ROW_A; the levels of ROW_A[5:0] and of ROW_EN in the
  lit time, after rg_row_pol -/
  | line (die group scan : Nat) (rowEn : Bool) (start lit rowA addr : Nat) (level : Bool)
  /-- ROW_EN of a scan line goes inactive at once (R318), to a level -/
  | rowOff (die group scan : Nat) (level : Bool)
  /-- GCLK pulses of a group (R204, R310): the Lay time of the first rising edge, how many, ns from one to the next -/
  | gclk (die group first count period : Nat)
  /-- one line unit of grey words shifted to a group: the LAT width of the WORD_LATCH that ends each group of words, and the words per channel, driver and chain (R305) -/
  | shift (die group line latch : Nat) (words : List Nat)
  /-- a READBACK command, its scan line and its LAT width, and how many zero words follow on each chain without WORD_LATCH: none where a data shift is in progress (R320); how long after its SCLK edge a bit of
  CHAIN_SDO is sampled, in ps (R485) -/
  | readback (die group line width zeros sample : Nat)
  /-- a PTP event message or Pdelay_Resp_Follow_Up on a PTP port: messageType, sequenceId, the time it carries -/
  | ptp (port msgType seqId : Nat) (stamp : Int)
  /-- an Ethernet pause-free frame handed to the video or PTP receiver -/
  | frame (die length : Nat)
  /-- a Corrix WRITE the part itself sends as a client (an arbiter's declaration, a heartbeat forward): UDP destination and message -/
  | request (dest : Nat) (op : Nat) (m : Msg)
  /-- an IGMPv3 join on a die's 100GbE port (Table 7.4): the multicast group and its sender, 0 any -/
  | join (die group sender : Nat)
  deriving DecidableEq, Repr, Inhabited

/-- A receive or transmit lane beside its objects (R123-R141). -/
structure LaneSt where
  cands     : List (Nat × Bool) := []
  missed    : Nat := 0
  annSeen   : Bool := false
  annLeft   : Nat := 0
  /-- MARKER_SEQ of the last marker received, and when it came (R132) -/
  lastSeq   : Option Nat := none
  seqAt     : Nat := 0
  /-- blocks received since that marker, and those not yet collected: MARKER_SEQ, place after the marker, block (R132, R133) -/
  slot      : Nat := 0
  buf       : List (Nat × Nat × Block) := []
  clean     : Nat := 0
  ucw       : List Nat := []
  dropped   : Bool := false
  miswired  : Bool := false
  skewed    : Bool := false
  pos       : Nat := 0
  preset    : Nat := 2
  ffe       : Nat := 0x3E635FF1
  /-- the differential swing of the preset in force, in mV (Table 4.3) -/
  swing     : Nat := 850
  /-- MARKER_SEQ of the last marker sent -/
  sentSeq   : Option Nat := none
  /-- the last 58 scrambled bits sent, the newest at the top; unknown before the first block (R119) -/
  scr       : Option Nat := none
  /-- parity of the scrambled blocks sent since the last marker (BIP8, Table 4.2) -/
  bip       : Nat := 0
  feLoop    : Bool := false
  feUp      : Bool := false
  noSrc     : Nat := 0
  degradedAt : Option Nat := none
  /-- the Lay time at which DEGRADED set (R173) -/
  degradedLay : Nat := 0
  reported  : Bool := false
  retained  : Bool := false
  feReqSeen : Bool := false
  deriving DecidableEq, Repr, Inhabited

/-- What the last SYNC of a port said (Table 3.5). -/
structure SyncInfo where
  hold     : Bool := false
  tai      : Bool := false
  handback : Bool := false
  node     : Nat := 0
  rank     : Nat := 1
  gen      : Nat := 0
  hops     : Nat := 0
  utc      : Int := 0
  ref      : Nat := 0
  offset   : Int := 0
  deriving DecidableEq, Repr, Inhabited

/-- A cell on its way into the receiver of a port: the blocks received (R153). -/
structure Partial where
  blocks : List Byte := []
  count  : Nat := 0
  /-- when its first block came, in the Lay time of the port's die -/
  at_    : Nat := 0
  /-- a block of it came marked errored (R155) -/
  bad    : Bool := false
  deriving DecidableEq, Repr, Inhabited

/-- A cell on its way out of the transmitter of a port, and how many of its 8 blocks have left (R156). -/
structure Sending where
  cell : Cell
  done : Nat := 0
  deriving DecidableEq, Repr, Inhabited

/-- A Hawser port (R134, R153-R162) and its Lay measurements (R95-R102). -/
structure PortSt where
  inService : Bool := false
  sinceAt   : Nat := 0
  rxOkIn    : Option Nat := none
  txMap     : Nat := 0
  txMapNext : List Nat := []
  /-- TX_MAP received, with the MARKER_SEQ it came with: the last 4 (R134) -/
  mapsIn    : List (Nat × Nat) := []
  /-- MARKER_SEQ of the marker cycle in progress (R120, Table 4.2) -/
  cycle     : Nat := 0
  framed    : Bool := false
  cur       : List Partial := []
  /-- the class-0 cell in progress, and the lane it comes on (R133, R157) -/
  lay       : Option Partial := none
  layLane   : Nat := 0
  /-- own cells that wait for R160; own cells that may begin; forwarded cells (R162); class-0 cells that wait for their LAY_START (R157) -/
  own       : List Cell := []
  ready     : List Cell := []
  fwd       : List Cell := []
  lays      : List Cell := []
  /-- the cell being sent and those it suspended, innermost first; the class-0 cell being sent (R156, R157) -/
  stack     : List Sending := []
  layTx     : Option Sending := none
  /-- the lane by which the class-0 cell being sent leaves (R133) -/
  layOut    : Nat := 0
  /-- cells begun since the last IDLE (R154) -/
  sinceIdle : Nat := 0
  /-- when the next block slot begins, in ps -/
  slotPs    : Nat := 0
  syncRun   : Nat := 0
  syncAt    : Option Nat := none
  sync      : SyncInfo := {}
  delays    : List Int := []
  delayAt   : Option Nat := none
  req       : Option (Nat × Nat × Nat) := none
  seqSync   : Nat := 0
  seqReq    : Nat := 0
  seqResp   : Nat := 0
  class0At  : Option Nat := none
  /-- the Lay time at which the first symbol of the class-0 cell just completed came (R97) -/
  stamp     : Option Nat := none
  sentSyncAt : Option Nat := none
  sentReqAt : Option Nat := none
  walkDue   : Option Nat := none
  /-- a cell has woken the port, which is not yet in service (R138) -/
  waking    : Bool := false
  /-- the port was in service when its last transmit lane fell asleep: the next class-0 cell due wakes it (R138) -/
  slept     : Bool := false
  deriving DecidableEq, Repr, Inhabited

/-- A walk in progress at a head (R166, R168): port, WALK_SEQ, when it started, the IDs reported. -/
structure WalkSt where
  port    : Nat
  seq     : Nat
  startAt : Nat
  ids     : List Nat
  deriving DecidableEq, Repr, Inhabited

/-- A link that an origin's ROUTE was heard on: the HOPS it came with, and when (R170). -/
structure Heard where
  link : Nat
  hops : Nat
  at_  : Nat
  deriving DecidableEq, Repr, Inhabited

/-- An origin's ROUTE advertisement (R170). -/
structure RouteSt where
  origin : Nat
  link   : Nat
  hops   : Nat
  seq    : Nat
  nodes  : Nat
  lastAt : Nat
  /-- the links and HOPS it was heard with in the last 350 ms, the SEQs heard then with their moments, and since when its NODES has held each of its IDs -/
  heard  : List Heard := []
  seqs   : List (Nat × Nat) := []
  held   : List (Nat × Nat) := []
  deriving DecidableEq, Repr, Inhabited

/-- A relay table entry (R172). -/
structure RelaySt where
  target  : Nat
  session : Nat
  seq     : Nat
  port    : Nat
  since   : Nat
  deriving DecidableEq, Repr, Inhabited

/-- An entry part's record of a request (R172). -/
structure EntrySt where
  via     : Path
  target  : Nat
  session : Nat
  seq     : Nat
  since   : Nat
  deriving DecidableEq, Repr, Inhabited

/-- A broadcast remembered for 1 s (R52). -/
structure BcastSt where
  node    : Nat
  session : Nat
  seq     : Nat
  since   : Nat
  deriving DecidableEq, Repr, Inhabited

/-- A knot record (Table 5.11); `nodes` has bit i for node i. Times are Lay times. -/
structure Knot where
  code      : Nat
  subject   : Nat
  detail    : Nat
  severity  : Nat
  window    : Nat
  count     : Nat
  firstNode : Nat
  firstAt   : Nat
  lastAt    : Nat
  nodes     : Nat
  deriving DecidableEq, Repr, Inhabited

/-- Forwarding, enumeration, routes and relays of the part (R158-R172). -/
structure NetSt where
  walk      : Option WalkSt := none
  queue     : List Nat := []
  walkSeq   : Nat := 0
  periodAt  : Nat := 0
  headDepth : Nat := 0
  forget    : Bool := false
  routes    : List RouteSt := []
  routeSeq  : Nat := 0
  routeAt   : Option Nat := none
  /-- the NODES last advertised -/
  routeNodes : Nat := 0
  relay     : List RelaySt := []
  entries   : List EntrySt := []
  bcasts    : List BcastSt := []
  deriving DecidableEq, Repr, Inhabited

/-- A stored session (R49): its last request and the whole response, most recent first in its table. -/
structure SessionSt where
  id    : Nat
  seq   : Nat
  op    : Nat
  reply : Option Msg
  deriving DecidableEq, Repr, Inhabited

/-- A blob transfer (R61, R62). -/
structure Xfer where
  fill   : Nat := 0
  buf    : SMap Byte := []
  holder : Option Nat := none
  lastAt : Nat := 0
  openX  : Bool := false
  deriving DecidableEq, Repr, Inhabited

/-- A vote in progress (R66, R67): the PREPAREs it will answer, and when it began. -/
structure VoteSt where
  id      : Nat
  waiting : List Msg
  startAt : Nat
  late    : List Nat
  deriving DecidableEq, Repr, Inhabited

/-- Die 1's copy of a commit (R71): the commit ID, the part-wide staged values, and once ARMED its launch time and the epoch it will reach. -/
structure MirrorSt where
  id     : Nat
  staged : SMap Value
  armed  : Option (Nat × Nat)
  deriving DecidableEq, Repr, Inhabited

/-- Corrix beside its objects. -/
structure CorrixSt where
  sessions : List SessionSt := []
  blobs    : SMap Xfer := []
  vote     : Option VoteSt := none
  applied  : List (Nat × Nat) := []
  mirror   : Option MirrorSt := none
  /-- the first view-frame launch under the armed commit (R70, R187) -/
  eff      : Int := 0
  /-- the values in force before the last commit, and the launch from which that commit's values hold -/
  before   : Option (Int × SMap Value) := none
  /-- a compose_apply that waits for its frame: the view-0 launch, the values voted on (R223) -/
  capply   : Option (Int × SMap Value) := none
  /-- T of the last commit applied, which commit_launch shows again once an armed commit is aborted (Table 2.12) -/
  lastT    : Nat := 0
  deriving DecidableEq, Repr, Inhabited

/-- The host SPI target (R56): mailboxes, HSTAT (bit 0 here: firmware serves Corrix), and a response that waits until the one in the mailbox is freed. -/
structure SpiSt where
  request  : SMap Byte := []
  response : SMap Byte := []
  hstat    : Nat := 0
  held     : Option (SMap Byte) := none
  deriving DecidableEq, Repr, Inhabited

/-- A reference at the root (R84, R87). -/
structure RefSt where
  validFrom : Option Nat := none
  freq      : Option Int := none
  baseline  : Option Int := none
  selectedAt : Option Nat := none
  driftFrom : Option Nat := none
  barredTo  : Nat := 0
  edges     : Nat := 0
  lastEdge  : Option Nat := none
  deriving DecidableEq, Repr, Inhabited

/-- An announcing master that a domain clock knows: its source port, what it announced, when, and its announce interval in ns. -/
structure PtpSource where
  source   : Nat
  said     : PtpMaster
  at_      : Nat
  interval : Nat
  deriving DecidableEq, Repr, Inhabited

/-- A PTP domain clock (R85, R109): its time is the physical time plus `fine` in 2^-48 ns, moving with `freq` in 2^-48; whether it has ever been set; the announcing masters and the one followed;
the last Sync, its interval, one that waits for its Follow_Up with its arrival; t2 - t1 of the last offset; the Delay_Req or Pdelay_Req in progress (sequenceId, messageType, its departure where
known without the queue); a Pdelay_Resp that waits for its Follow_Up (sequenceId, t2, t4); the path delay in Lay units; the offset in ns. -/
structure PtpSt where
  fine    : Int := 0
  freq    : Int := 0
  set_    : Bool := false
  sources : List PtpSource := []
  cur     : Option Nat := none
  syncAt  : Option Nat := none
  syncIv  : Nat := 0
  wait    : Option (Nat × Int) := none
  last    : Option Int := none
  req     : Option (Nat × Nat × Option Int) := none
  peer    : Option (Nat × Int × Int) := none
  delay   : Int := 0
  offset  : Int := 0
  deriving DecidableEq, Repr, Inhabited

/-- A transmit timestamp entry (R110). -/
structure TxtsSt where
  seqId   : Nat
  msgType : Nat
  domain  : Nat
  since   : Nat
  stamp   : Int
  deriving DecidableEq, Repr, Inhabited

/-- A LAY_EVT output (R111, R112, R260): the level and the polarity it was driven with, when the pulse in progress ends (Lay), the last pulse start (Lay), how far steps have moved lay_evt_start
(R93), the writes of its objects that are not 1 ms old, newest first, each with the settings before it (R112), the Lay time of the last write, pulses that captures asked for (Lay start, width ns,
slot). -/
structure EvtSt where
  level   : Bool := false
  pol     : Bool := false
  endAt   : Option Int := none
  lastAt  : Int := 0
  shift   : Int := 0
  olds    : List (Nat × List Int) := []
  wroteAt : Option Int := none
  pulses  : List (Int × Nat × Nat) := []
  deriving DecidableEq, Repr, Inhabited

/-- A die that holds over alone (R105): its own Lay clock in 2^-48 ns and its frequency word. -/
structure HoldClk where
  fine : Nat := 0
  freq : Int := 0
  on   : Bool := false
  deriving DecidableEq, Repr, Inhabited

/-- Lay time and its servo (R76-R105). `node`, `hops`, `rank`, `gen` and `ref` are those of the root followed, or last followed, where `hasRoot`; `refused` is the offset that a large wall's root keeps,
following in frequency only (R91); `foreign` is a root that has yielded to this one, with the moment its cells were last heard (R80). `fine` is Lay time in 2^-48 ns; `freq` the frequency word in 2^-48 (fractional); `integ` the integrator in 2^-80;
`word` is the frequency word that the LAY domain has taken, `wordAt` when the transfer in flight to it is over, in ns (R388);
`trim` is phase still to be spread, in 2^-48 ns, over `trimNs` more ns; `slew` the offset the root is removing, in 2^-48 ns. -/
structure LaySt where
  fine    : Nat := 0
  freq    : Int := 0
  word    : Int := 0
  wordAt  : Nat := 0
  integ   : Int := 0
  trim    : Int := 0
  trimNs  : Nat := 0
  slew    : Int := 0
  good    : Nat := 0
  bad     : Nat := 0
  node    : Nat := 0
  hops    : Nat := 0
  rank    : Nat := 1
  gen     : Nat := 0
  ref     : Nat := 0
  refused : Option Int := none
  foreign : Option (Nat × Nat) := none
  hasRoot : Bool := false
  upHold  : Bool := false
  preHold : Nat := 2
  acquiredAt : Option Nat := none
  listenAt : Option Nat := none
  heardRoot : Bool := false
  rank1At : Option Nat := none
  handbackAt : Option Nat := none
  step    : Option (Nat × Int) := none
  stepDoneAt : Option Nat := none
  wanted  : Option Int := none
  hist    : List (Nat × Int) := []
  refs    : SMap RefSt := []
  ptp     : SMap PtpSt := []
  txts    : SMap (List TxtsSt) := []
  evts    : SMap EvtSt := []
  holds   : SMap HoldClk := []
  deriving DecidableEq, Repr, Inhabited

/-- A frame schedule (R181-R184): period num ÷ den ns, origin in Lay units, views, their offsets in ns, the dark mask. -/
structure Sched where
  num    : Nat := 50000000
  den    : Nat := 3
  origin : Int := 0
  count  : Nat := 1
  offs   : List Nat := [0]
  dark   : Nat := 0
  deriving DecidableEq, Repr, Inhabited

/-- A schedule and the span it holds for (R187, R203): since when its launches are fixed, the launch of its first frame, the T before which its frames launch, the launch of the next schedule's first frame. -/
structure Era where
  sched : Sched
  fixed : Int := 0
  start : Option Int := none
  cut   : Option Int := none
  stop  : Option Int := none
  deriving DecidableEq, Repr, Inhabited

/-- A view-frame of the schedule: launch time, frame number, view, dark. -/
structure Vf where
  at_   : Int
  frame : Nat
  view  : Nat
  dark  : Bool
  deriving DecidableEq, Repr, Inhabited

/-- A launch ring (R192): the slots of the oldest descriptor posted and of the next one, counted modulo the depth, the bytes sent of the oldest one's segment, and whether its wait for the
cache is counted (R195). The descriptors lie in the DRAM of die 0. -/
structure RingSt where
  head   : Nat := 0
  tail   : Nat := 0
  sent   : Nat := 0
  waited : Bool := false
  deriving DecidableEq, Repr, Inhabited

/-- A CHECK cell that waits on a port until every band's LAST has gone (R196). -/
structure CheckSt where
  node  : Nat
  at_   : Int
  frame : Nat
  view  : Nat
  crc   : Nat
  cells : Nat
  left  : List Nat
  deriving DecidableEq, Repr, Inhabited

/-- The sending side's schedule state: earlier schedules, the present one's first launch, the last launch on which work began, the last launched (R207),
the rings (node × 1024 + band), the start level of the fade in force (R205), each die's ready queue and cache, the last ring of each port, CHECK cells waiting per port and being gathered. -/
structure LaunchSt where
  past    : List Era := []
  start   : Option Int := none
  fixed   : Int := 0
  armedAt : Int := 0
  fadeF   : Nat := 65536
  fadeOld : Nat := 65536
  begun   : Option Int := none
  lastAt  : Option Int := none
  rings   : SMap RingSt := []
  ready   : SMap (List Nat) := []
  cache   : SMap (List Nat) := []
  last    : SMap Nat := []
  checks  : SMap (List (Nat × Cell)) := []
  gather  : List CheckSt := []
  deriving DecidableEq, Repr, Inhabited

end Sys2Proof.Machine
end

