-- ==== Sys2Proof/Machine/Units.lean ====
section
/-! DEFINITION. The parts of the state behind the picture: sources and composition, cameras, correction, raster and lamp faults. Plain data. Launch times are Lay times (Int);
other times are ns of `State.now`. A sample, where one has arrived, is held as its code + 1. -/

namespace Sys2Proof.Machine

/-- A complete source frame (R224): a number of its own, its RTP time or import FRAME bits, the view of an import, when it was complete, whether it is an RGB30P import, its samples. -/
structure FrameBuf where
  id   : Nat := 0
  time : Nat := 0
  view : Nat := 0
  at_  : Nat := 0
  pq   : Bool := false
  data : SMap Nat := []
  /-- has an import been latched (R224)? -/
  seen : Bool := false
  /-- the primaries and the output peak of a camera frame, as its Frame Start found them (R253) -/
  prim : Nat := 0
  peak : Nat := 0
  deriving DecidableEq, Repr, Inhabited

/-- An ST 2110 frame on its way in (R225-R227); one that is complete or damaged stays, without its samples, for the packets that still come. -/
structure PktWork where
  time     : Nat
  firstAt  : Nat
  markerAt : Option Nat := none
  nextAt   : Option Nat := none
  bad      : Bool := false
  over_    : Bool := false
  data     : SMap Nat := []
  deriving DecidableEq, Repr, Inhabited

/-- A packet's sequence number, when each copy came (A, B), and whether each was counted lost (R226); one that a successor has shown to be missing has no copy yet. -/
structure SeenPkt where
  seq   : Nat
  since : Nat
  atA   : Option Nat := none
  atB   : Option Nat := none
  lostA : Bool := false
  lostB : Bool := false
  deriving DecidableEq, Repr, Inhabited

/-- A canvas import on its way in (R229): VIEW, FRAME bits, the cells by OFFSET, the OFFSET of LAST. -/
structure ImportWork where
  view  : Nat
  frame : Nat
  cells : SMap (List Byte) := []
  last  : Option Nat := none
  deriving DecidableEq, Repr, Inhabited

/-- A source (R224-R229): frames in progress, packets seen, the highest sequence number, when a packet last came; the newest complete frame and whether it was latched, the frame latched and the frame number it was latched
for; imports in progress and complete. -/
structure SourceSt where
  work    : List PktWork := []
  seen    : List SeenPkt := []
  top     : Option Nat := none
  newest  : Option FrameBuf := none
  used    : Bool := false
  held    : Option FrameBuf := none
  heldFor : Option Nat := none
  nextId  : Nat := 1
  lastAt  : Nat := 0
  pktAt   : Option Nat := none
  stale   : Bool := false
  imports : List ImportWork := []
  done    : List FrameBuf := []
  deriving DecidableEq, Repr, Inhabited

/-- A view-frame under composition: its launch, frame number, view, the object values and the source frames it uses, and the quarters of a pixel that each die has composed of its stripe. -/
structure Work where
  at_   : Int
  frame : Nat
  view  : Nat
  objs  : SMap Value
  src   : SMap FrameBuf
  px    : SMap Nat := []
  deriving DecidableEq, Repr, Inhabited

/-- A destination's packing of a view-frame (R230, R231): bytes done of each band, cells so far. -/
structure PackSt where
  node  : Nat
  at_   : Int
  done  : SMap Nat := []
  full  : List Nat := []
  cells : Nat := 0
  deriving DecidableEq, Repr, Inhabited

/-- A segment that lies in a pool (R230): its ring, its descriptor, whether that is posted. -/
structure SegSt where
  ring   : Nat
  desc   : Nat
  posted : Bool := false
  deriving DecidableEq, Repr, Inhabited

/-- Composition at a head: sources, view-frames under composition in launch order, packings, the segments in the pools, the destinations whose packer waits for room (R230), the last
launch composed, the exports sent. -/
structure ComposeSt where
  sources : SMap SourceSt := []
  works   : List Work := []
  packs   : List PackSt := []
  segs    : List SegSt := []
  stalled : List Nat := []
  lastAt  : Option Int := none
  exported : List (Nat × Int) := []
  deriving DecidableEq, Repr, Inhabited

/-- A camera frame on its way in (R240-R256): when its Frame Start came (ns and Lay), in-line or by memory, lines so far, the raw samples by pixel, the values fixed at its Frame Start,
the capture slot it feeds. -/
structure CamWork where
  startAt : Nat
  fsAt    : Nat
  inline  : Bool
  stored  : Bool := true
  lines   : Nat := 0
  raw     : SMap Nat := []
  objs    : SMap Value := []
  slot    : Option Nat := none
  gen     : Nat := 0
  deriving DecidableEq, Repr, Inhabited

/-- A stream (R241-R257): the frame in progress, when it was enabled or last had a Frame Start or a LINK_LOST; how often a commit has changed cam_enable, cam_dt or cam_size, and its temporal
reference with the value of that count for its frame (R247). -/
structure StreamSt where
  cur     : Option CamWork := none
  sinceFs : Nat := 0
  gen     : Nat := 0
  ref     : Option (Nat × SMap Nat) := none
  deriving DecidableEq, Repr, Inhabited

/-- Cameras: streams, the memory-path frames of each die in Frame End order; for each die's pipeline the quarters of a pixel done of the oldest of them, and waiting in the receive buffer for the
in-line stream (R243); the captures' data and reservations (slot: SIZE, bytes written). -/
structure CamSt where
  streams : SMap StreamSt := []
  queue   : SMap (List (Nat × CamWork)) := []
  px      : SMap Nat := []
  lines   : SMap Nat := []
  size    : SMap Nat := []
  data    : SMap (SMap Byte) := []
  fill    : SMap Nat := []
  armed   : SMap (List Int) := []
  deriving DecidableEq, Repr, Inhabited

/-- A PIXEL cell in the splice receive buffer. -/
structure RxCell where
  band   : Nat
  offset : Nat
  last   : Bool
  bytes  : List Byte
  deriving DecidableEq, Repr, Inhabited

/-- A view-frame received by a tile (R191, R270-R276): its place in the schedule, the cells in arrival order, CHECK (CRC, cells), the dies that have begun it, whether the reader reads it and how
many bytes it has read, the verdict. -/
structure RxFrame where
  at_     : Int
  frame   : Nat
  view    : Nat
  cells   : List RxCell := []
  check   : Option (Nat × Nat) := none
  reading : Bool := false
  read    : Nat := 0
  begun   : Nat := 0
  started : Bool := false
  verdict : Option Nat := none
  deriving DecidableEq, Repr, Inhabited

/-- What a die fixed when it began to correct a view-frame (R267), and the store half it fills: object values, fade gain, zone temperatures and scales, fault entries, the blanked groups'
lamps; groups darkened later in a held half (R343), lamps clipped so far, 36ths of a pixel corrected so far (R266, R371), the pixels
whose record and the scan-map entries that were poisoned when correction read them (R378). -/
structure Half where
  at_    : Int
  frame  : Nat
  view   : Nat
  objs   : SMap Value
  gain   : Nat
  temps  : SMap Int
  scales : SMap Nat
  faults : SMap Nat
  blank  : List Nat
  clips  : Nat := 0
  px     : Nat := 0
  idents : List Nat := []
  nones  : List Nat := []
  deriving DecidableEq, Repr, Inhabited

/-- A chain group (R198-R201, R309-R317): the slot it runs (launch, frame, view), how (0 idle, 1 started, 2 held, 3 dark, 4 late), next line, lag and carry in Lay units; the view-frame and
line unit it shifts, whether a unit is on its way, when the shifted data was ready; whether it shifts the held view-frame's lines again; self-refresh and the
run of held view-frames; the configuration words last written; readback; the launched view-frames that wait behind the one it runs or waits for (R198, R201); the launch of the half that it shows, and the
slot that it runs while it waits, where that is a later one. Of a unit on its way: when its first
bit went out, and the values of rect_expected when the view-frame's shift began (R323); whether ROW_EN is active in the line (R318); the outputs that come back at the next line
start (R328); until when the words of a readback take the chains (R320); whether it shows next only a view-frame whose check has passed (R393). -/
structure GroupSt where
  at_     : Int := 0
  frame   : Nat := 0
  view    : Nat := 0
  mode    : Nat := 0
  line    : Nat := 0
  lag     : Nat := 0
  carry   : Nat := 0
  shiftAt : Option Int := none
  unit    : Nat := 0
  busy    : Bool := false
  ready   : Option (Int × Int) := none
  units   : List (Nat × Int) := []
  sr      : Bool := false
  run     : Nat := 0
  cfg     : Option (List Byte) := none
  rbCount : Nat := 0
  rbDue   : Bool := false
  rbLine  : Option Nat := none
  rbHalf  : Option Half := none
  lineAt  : Int := 0
  resume  : Option Int := none
  wait    : List Vf := []
  again   : Bool := false
  from_   : Int := 0
  expect  : SMap Nat := []
  rowEn   : Bool := false
  shows   : Option Int := none
  fill    : Option Vf := none
  back    : Nat := 0
  freeAt  : Int := 0
  proves  : Bool := false
  deriving DecidableEq, Repr, Inhabited

/-- Does a group still show a half, or wait to (R198)? -/
def GroupSt.needs (x : GroupSt) (t : Int) : Bool := x.shows = some t || (x.mode = 4 && x.at_ = t) || x.wait.any fun w => w.at_ = t

/-- A zone (R280, R281): T in 1/4,096 °C, when it last sampled, whether the next sample sets T directly. -/
structure ZoneSt where
  temp  : Int := 430080
  since : Nat := 0
  fresh : Bool := true
  deriving DecidableEq, Repr, Inhabited

/-- A lamp position's entry (R334-R336): STATE, the kind of the readings counted and their number. -/
structure LampSt where
  state : Nat := 0
  kind  : Nat := 0
  count : Nat := 0
  deriving DecidableEq, Repr, Inhabited

/-- A tile die: the store half corrected next, the one shown, and those before it that a group still shows or waits for, the last launch handled, its groups, queued patches, the coefficient records before the patches of the last frame boundaries (Lay time of each), zones, drivers' temperatures (chain × 64 + driver: 1/16 °C, when),
lamps (chain × 2^18 + line × 2^12 + driver × 2^6 + channel), mark failures in a row of each driver, the view-frame from which a blank holds for each function group. -/
structure TileDie where
  next    : Option Half := none
  shown   : Option Half := none
  olds    : List Half := []
  lastAt  : Option Int := none
  groups  : SMap GroupSt := []
  patches : List (Int × List Byte) := []
  sets    : List (Int × Value) := []
  zones   : SMap ZoneSt := []
  drivers : SMap (Option (Int × Nat)) := []
  lamps   : SMap LampSt := []
  marks   : SMap Nat := []
  blanks  : SMap (Option Int) := []
  deriving DecidableEq, Repr, Inhabited

/-- The tile side of the part. -/
structure TileSt where
  rx   : List RxFrame := []
  dies : SMap TileDie := []
  missing : Nat := 0
  deriving DecidableEq, Repr, Inhabited

/-- Field BIST of a die (R359-R361): the next word of the pass, the slices it skips, whether the one pass of mode 2 is over, when the next word is due (in 1/720,720 µs, which every rate divides), the word locked and until when. -/
structure BistSt where
  next   : Nat := 0
  skip   : List Nat := []
  over_  : Bool := false
  nextAt : Nat := 0
  lock   : Option (Nat × Nat) := none
  deriving DecidableEq, Repr, Inhabited

/-- One 64-byte access of a DRAM channel (R363, R364): its master, its address, the bytes read from it (first, count) or the bytes with enables written, its order of entry, whether the data
of a read is discarded (R368), the burst that wrote it last and the bytes with enables that a write queue entry held before (R368, R369). -/
structure DramEnt where
  master : Nat
  addr   : Nat
  first  : Nat := 0
  count  : Nat := 64
  data   : Option (List (Option Byte)) := none
  seq    : Nat
  drop_  : Bool := false
  burst  : Nat := 0
  prior  : List (Option Byte) := []
  deriving DecidableEq, Repr, Inhabited

/-- A DRAM channel (R364-R374): requests not yet granted, the burst in progress, the transaction table, the write queue, the bank queues, each bank's open row and the hits issued past a waiting entry,
the rotating pointer, the next order number, since when it has had no entry; delay changes pending (byte lanes 0-3 read, then write, then vref) and since when, when the
oscillator was last read, the last burst granted, the check blocks cached under inline ECC, the last used first (R377). -/
structure DramCh where
  waiting : List DramReq := []
  holder  : Option DramReq := none
  table   : List DramEnt := []
  wq      : List DramEnt := []
  banks   : SMap (List DramEnt) := []
  rows    : SMap (Option Nat) := []
  hits    : SMap Nat := []
  rot     : Nat := 0
  seq     : Nat := 0
  idleAt  : Nat := 0
  refused : Bool := false
  pend    : List Int := []
  pendAt  : Nat := 0
  driftAt : Option Nat := none
  burst   : Nat := 0
  checks  : List Nat := []
  deriving DecidableEq, Repr, Inhabited

/-- The memory of a die (chapter 12): SRAM and DRAM bytes by address, the ports' requests that wait, the word each port last read, when each bank and each slice last had a request, when a waking
slice is on, BIST, the channels, what each master last read (address, bytes, poisoned), whether inline ECC is in effect, the code of the data rate in effect (R362), the 64-byte
blocks whose last read by correction was poisoned (R378), when the maintenance sweep began. -/
structure MemSt where
  sram    : SMap Byte := []
  dram    : SMap Byte := []
  waits   : List SramReq := []
  got     : SMap (List Byte) := []
  bankAt  : SMap Nat := []
  sliceAt : SMap Nat := []
  wakeAt  : SMap Nat := []
  bist    : BistSt := {}
  chans   : SMap DramCh := []
  reads   : SMap (Nat × List Byte × Bool) := []
  ecc     : Bool := false
  rate    : Nat := 2
  poison  : List Nat := []
  sweepAt : Nat := 0
  deriving DecidableEq, Repr, Inhabited

end Sys2Proof.Machine
end

