-- ==== Sys2Proof/Machine/Care.lean ====
section
/-! DEFINITION. The parts of the state that keep the part running: the Silt journal and update images (chapter 15), clocks and boot (chapter 13), redundancy (chapter 14), sensors and trims
(chapter 16). Plain data. Times are ns of `State.now` unless they are said to be Lay times. -/

namespace Sys2Proof.Machine

/-- A journal record that waits to be written (Tables 15.3, 15.5): TYPE, key (die × 2^24 + index × 256 + subindex for objects, else the type's own), value, group, data bytes. -/
structure JEnt where
  typ   : Nat := 1
  key   : Nat
  value : Value
  group : Option Nat := none
  size  : Nat
  deriving DecidableEq, Repr, Inhabited

/-- A record on a flash (R421): its byte address in the journal region, the 32 bytes of its header (Table 15.3), the value that its data bytes encode, the 16 bytes of its commit unit (Table 15.4). -/
structure JRec where
  addr  : Nat
  head  : List Byte
  value : Value
  unit  : List Byte
  deriving DecidableEq, Repr, Inhabited

/-- What a boot sector says (Table 15.6). -/
structure BootSect where
  seq  : Nat
  slot : Nat
  node : Nat
  id0  : Nat
  id1  : Nat
  deriving DecidableEq, Repr, Inhabited

/-- The Silt journal (R419-R432): records waiting, the records on the flash of die 0 and of die 1, write position, highest SEQ, sectors marked for tamping, retired, or not erased though no
valid record is in them; whether tamping runs, whether the temperature window is open; the first 32 bytes of boot sectors A and B, none while erased, and the content that waits to be written there
with whether an activation waits for it (R443). -/
structure JournalSt where
  queue   : List JEnt := []
  recs    : List JRec := []
  recs1   : List JRec := []
  pos     : Nat := 0
  seq     : Nat := 0
  marked  : List Nat := []
  bad     : List Nat := []
  dirty   : List Nat := []
  tamping : Bool := false
  open_   : Bool := true
  bootA   : List Byte := []
  bootB   : List Byte := []
  bootDue : Option (BootSect × Bool) := none
  deriving DecidableEq, Repr, Inhabited

/-- An activation under way (R442-R444): its Lay time T, when it began, the dies that serve, watchdog expiries since. -/
structure ActSt where
  at_    : Int
  since  : Nat
  serves : Nat := 0
  wdogs  : SMap Nat := []
  deriving DecidableEq, Repr, Inhabited

/-- Update images (R433-R445): bytes received of each image segment, the staged image's bytes, its bitmap, whether segment 0 passed; images in the flash slots (die × 2 + slot) and their IMAGE_ID and
FW_VERSION; the image loaded in DRAM; the image before the running one (IMAGE_ID, FW_VERSION, slot); the activation under way; the T whose pause is to be recorded. -/
structure UpdSt where
  fills   : SMap Nat := []
  img     : SMap Byte := []
  bits    : Nat := 0
  passed  : Bool := false
  slots   : SMap (SMap Byte) := []
  ids     : SMap (Nat × Nat) := []
  ram     : Option (Nat × Nat) := none
  prev    : Nat × Nat × Nat := (0, 0, 0)
  act     : Option ActSt := none
  pause   : Option Int := none
  deriving DecidableEq, Repr, Inhabited

/-- The clocks of a die: its REFCLK monitor (R384-R386): by input, the last fault and when it became valid; when the last rate window ended; when both were lost; the core clock in quarters of
1.0 GHz, as the output divider of the core PLL sets it (R455); when its watchdog was last served or started (R392), when its crossings were all reset (R390). -/
structure ClkSt where
  faultAt : SMap Nat := []
  validAt : SMap Nat := []
  rateAt  : Option Nat := none
  lostAt  : Option Nat := none
  core    : Nat := 4
  wdogAt  : Nat := 0
  shutAt  : Option Nat := none
  deriving DecidableEq, Repr, Inhabited

/-- A clock domain of a die that a crossing joins (Table 13.1); a chain group or a lane by its number. -/
inductive Domain where
  | core
  | lay
  | chain (group : Nat)
  | lane (lane : Nat)
  | csi
  | dram
  | mgmt
  | braid
  | alwaysOn
  deriving DecidableEq, Repr, Inhabited

/-- A crossing of a die (R388, R389): the event crossings with a count; the event of a latch that is done, and of firmware that serves the watchdog; the streams of blocks from a lane's receiver, of cells
to a lane's transmitter, of a camera port's bytes, of the management Ethernet's bytes in and out, of Braid requests and answers, of requests to a DRAM channel and data from it. The value crossing of the
servo's frequency word is in `LaySt`. -/
inductive Crossing where
  | cellReceived (lane : Nat)
  | lineReady (group : Nat)
  | lampWritten (group : Nat)
  | readbackRecord (group : Nat)
  | frameStart
  | frameEnd
  | latchDone (group : Nat)
  | laneIn (lane : Nat)
  | laneOut (lane : Nat)
  | served
  | pixels
  | mgmtIn
  | mgmtOut
  | braidIn
  | braidOut
  | dramOut (channel : Nat)
  | dramIn (channel : Nat)
  deriving DecidableEq, Repr, Inhabited

/-- What a crossing holds: the Gray-coded 8-bit count of events, or write pointer, of its source; the count that the destination has taken, or read pointer; when the transfer in flight is over and
from when the crossing is open, in ps. -/
structure Xing where
  src    : Nat := 0
  dst    : Nat := 0
  freeAt : Nat := 0
  openAt : Nat := 0
  deriving DecidableEq, Repr, Inhabited

/-- What a part that has not booted has found outside its dies. -/
def noEnv : BootEnv :=
  { bootsel := 0, role := false, flashMb := (0, 0), flashMode := 0, braidDies := [], dramFails := [], dramMb := 0, vddio := [], imageOk := [], image := (0, 0), bootMs := [] }

/-- Reset and boot (R392-R399, R479): whether the part is held in reset, why and since when (none: since before the model's time 0), its release, what it found, what is on its pins and outside
its dies now, whether the reset was a warm one, the steps of Table 13.5 that its own events have ended, recovery mode, boundary scan; dies held in reset one by one (brown-out or failover), and those of them by brown-out;
whether a first view-frame may start, the Lay time before which a die starts none after a restart (R442), dies whose image die 1 was late to load, when DHCP began, whether mgmt_ip_mode asked for it at the last reset (Table 2.12). -/
structure BootSt where
  held     : Bool := true
  cause    : Nat := 1
  releaseAt : Nat := 0
  heldAt   : Option Nat := none
  env      : BootEnv := noEnv
  pins     : BootEnv := noEnv
  warm     : Bool := false
  steps    : List Nat := []
  recovery : Bool := false
  scan     : Bool := false
  heldDies : Nat := 0
  brown    : Nat := 0
  lit      : Bool := false
  litAt    : Int := 0
  resume   : SMap Int := []
  dhcpAt   : Option Nat := none
  ipDhcp   : Bool := true
  deriving DecidableEq, Repr, Inhabited

/-- Redundancy (chapter 14): the supervisor's last heartbeat; the ring peer's last heartbeat, its state, its red_active_since, its epoch; heartbeats sent, when the last was sent; since when the
checkpoint is behind; checkpoint segments on their way, the checkpoint held (COMMIT_ID, EPOCH, stream) and one that waits for its commit; whether composition waits for a walk, the Lay time from which it sends; MISSING
view-frames in a row, the arbiter's SEQ, its last write, whether that was answered OK; the last checkpoint
acknowledged (COMMIT_ID, EPOCH); whether the peer has fallen silent. -/
structure RedSt where
  supAt   : Nat := 0
  heardAt : Option Nat := none
  peer    : Nat := 0
  peerSince : Nat := 0
  peerEpoch : Nat := 0
  sent    : Nat := 0
  sentAt  : Option Nat := none
  staleAt : Option Nat := none
  segs    : SMap (List Byte) := []
  ckpt    : Option (Nat × Nat × List Byte) := none
  tagged  : Option (Nat × Nat × List Byte) := none
  waits   : Bool := false
  sendFrom : Int := 0
  missing : Nat := 0
  arbSeq  : Nat := 0
  arbAt   : Option Nat := none
  arbOk   : Bool := false
  acked   : Option (Nat × Nat) := none
  silent  : Bool := false
  deriving DecidableEq, Repr, Inhabited

/-- Sensors and trims of a die (chapter 16): each sensor's readings of the last 10 s (when, 1/16 °C), when it last converted, conversions in a row at or above shutdown, since when it is throttled, last trim evaluation, last PLL step, the offset each converter found; the conversion slot that last ran and when it began (R449). -/
structure ThermSt where
  hist   : SMap (List (Nat × Int)) := []
  overs  : SMap Nat := []
  from_  : Option Nat := none
  evalAt : Option Nat := none
  pllAt  : Option Nat := none
  offs   : SMap Int := []
  slotAt : Option (Nat × Nat) := none
  deriving DecidableEq, Repr, Inhabited

end Sys2Proof.Machine
end

