-- ==== Sys2Proof/Machine/State.lean ====
section
/-! DEFINITION. The state of the part, and the state right after reset. Every dictionary object is in `objs` (in force) and every rws object also in `staged`, keyed
die × 2^24 + index × 256 + subindex; an unlisted object holds its default, an unlisted staged value equals the value in force. -/

namespace Sys2Proof.Machine

/-- Why a command stops with a fault. -/
inductive Fault where
  /-- raised by a DRAM request whose row address lies beyond the fitted device (R363: no such row exists). Safe. -/
  | dramRowAbsent
  deriving DecidableEq, Repr, Inhabited

/-- Why a command has no meaning. -/
inductive Refusal where
  /-- raised by an arm of exec whose command has no meaning yet. Safe. -/
  | notModelled (mnemonic : String)
  deriving DecidableEq, Repr, Inhabited

/-- The part. -/
structure State where
  fuses   : Fuses := {}
  now     : Nat := 0
  objs    : SMap Value := []
  staged  : SMap Value := []
  corrix  : CorrixSt := {}
  spi     : SpiSt := {}
  lay     : LaySt := {}
  dieRelease : SMap Nat := []
  lanes   : SMap LaneSt := []
  ports   : SMap PortSt := []
  enums   : SMap (List Nat) := []
  net     : NetSt := {}
  knots   : List Knot := []
  knotLog : List Knot := []
  knotHold : Bool := false
  /-- sources of FAULT_N beside knots: bit 0 REFCLK_BOTH_LOST (R386), bit 1 a die shut down (R459), bit 2 reset -/
  faultSrc : Nat := 0
  /-- bit n: firmware of die n runs (Table 13.3) -/
  fw      : Nat := 0
  launch  : LaunchSt := {}
  comp    : ComposeSt := {}
  cam     : CamSt := {}
  tile    : TileSt := {}
  mem     : SMap MemSt := []
  journal : JournalSt := {}
  upd     : UpdSt := {}
  clks    : SMap ClkSt := []
  xings   : SMap Xing := []
  boot    : BootSt := {}
  red     : RedSt := {}
  therm   : SMap ThermSt := []
  pending : List Instr := []
  sent    : List Output := []
  free    : Nat := 0
  deriving DecidableEq, Repr, Inhabited

/-- The part with PORST_N asserted, before its release: no firmware runs, every object holds its default. -/
def State.reset : State := {}

end Sys2Proof.Machine
end

