-- ==== Sys2Proof/Machine/Ops.lean ====
section
/-! DEFINITION. The named operations over the state: objects, the free value, what the part puts out, the units of the variant, time, lanes and ports. -/

namespace Sys2Proof.Machine

/-! Objects -/

/-- The key of an object in the stores: a part-wide object is held by die 0 (R39). -/
def fullKey (die key : Nat) : Nat := die * 16777216 + key

/-- The value in force of an object on a die. -/
def State.val (s : State) (die key : Nat) : Value := smGet .dflt s.objs (fullKey die key)

/-- A numeric object's value in force. -/
def State.int (s : State) (die key : Nat) : Int :=
  match s.val die key with
  | .num n => n
  | _ => objDflt key

/-- A numeric object's value in force, as a natural number. -/
def State.nat (s : State) (die key : Nat) : Nat := (s.int die key).toNat

/-- A part-wide object's value in force. -/
def State.pw (s : State) (key : Nat) : Nat := s.nat 0 key

/-- Is a BOOL, or a flag bit, of an object set? -/
def State.on (s : State) (die key : Nat) (i : Nat := 0) : Bool := bit (s.nat die key) i

/-- An object's value in force set; its default is the unlisted value. -/
def State.put (s : State) (die key : Nat) (v : Int) : State :=
  { s with objs := smPut .dflt s.objs (fullKey die key) (if v = objDflt key then .dflt else .num v) }

/-- A BLOB object set. -/
def State.putBlob (s : State) (die key : Nat) (v : Value) : State :=
  { s with objs := smPut .dflt s.objs (fullKey die key) v }

/-- A part-wide object set. -/
def State.set (s : State) (key : Nat) (v : Int) : State := s.put 0 key v

/-- Bits of an object set. -/
def State.orBits (s : State) (die key m : Nat) : State := s.put die key (s.nat die key ||| m)

/-- The key of a forced fault entry: INDEX and SUB, together, beyond every index of the dictionary (log entry 146). -/
def forcedKey (die word : Nat) : Nat := fullKey die (0xA00000 + word % 8388608)

/-- Is a key that of a forced fault entry? -/
def isForcedKey (k : Nat) : Bool := decide (0xA00000 ≤ k % 16777216)

/-- A record queued for the journal; while writing is stopped a later record of a key replaces one that waits (R429). -/
def State.queueRec (s : State) (e : JEnt) : State :=
  let q := if s.journal.open_ then s.journal.queue else s.journal.queue.filter fun x => !(decide (x.typ ≤ 3) && decide (e.typ ≤ 3) && x.key = e.key && x.group = e.group)
  { s with journal := { s.journal with queue := q ++ [e] } }

/-- The record of an object's value in force (Table 15.5). -/
def State.recOf (s : State) (die key : Nat) (group : Option Nat) : JEnt :=
  let d := objDef key
  { typ := if (d.map (·.ty)) = some .blob then 2 else 1, key := fullKey die key, value := s.val die key, group := group, size := (d.map (·.size)).getD 0 }

/-- An object's value queued for the Silt journal (R402, R424). -/
def State.persist (s : State) (die key : Nat) : State := s.queueRec (s.recOf die key none)

/-- An object set and queued for the journal. -/
def State.keep (s : State) (die key : Nat) (v : Int) : State := (s.put die key v).persist die key

/-- The numeric staged value of an rws object: its value in force where nothing is staged (R17). -/
def State.stagedInt (s : State) (die key : Nat) : Int :=
  match smGet .dflt s.staged (fullKey die key) with
  | .num n => n
  | _ => s.int die key

/-- The numeric staged value, as a natural number. -/
def State.st (s : State) (die key : Nat) : Nat := (s.stagedInt die key).toNat

/-- The next free value, and the state after it was drawn. -/
def State.draw (s : State) : Nat × State := (Config.freeValue s.free, { s with free := s.free + 1 })

/-- The type of an object. -/
def objTy (key : Nat) : Ty := match objDef key with
  | some d => d.ty
  | none => .u32

/-- A counter increased by `n`. The spec states no result past the type's largest value, save where it wraps or saturates: there the new value is free (log entry 1). -/
def State.bump (s : State) (die key : Nat) (n : Nat := 1) : State :=
  let top := (objTy key).bounds.2
  let v := s.int die key + n
  if v ≤ top then s.put die key v
  else if key = Ob.corrix_requests || key = Ob.event_seq then s.put die key (v - top - 1)
  else if key = Ob.prbs_errors || key = Ob.prbs_bits then s.put die key top
  else (s.draw.2).put die key (s.draw.1 % (top.toNat + 1))

/-- One more thing put out. -/
def State.emit (s : State) (o : Output) : State := { s with sent := o :: s.sent }

/-- The same change made for each of a list of items. -/
def State.each {α : Type} (s : State) (l : List α) (f : α → State → State) : State := l.foldl (fun s a => f a s) s

/-- A change made where a condition holds. -/
def State.when (s : State) (b : Bool) (f : State → State) : State := if b then f s else s

/-! The variant (Table 0.1, Table 1.2) -/

/-- Dies in the package. -/
def State.dies (s : State) : Nat := if s.fuses.variant = 0x88 then 8 else if s.fuses.variant = 0x84 then 4 else 2

/-- Bonded lanes of each die. -/
def State.laneCount (s : State) : Nat := if s.fuses.variant = 0x81 then 4 else 8

/-- ZW-880 and ZW-840: compositor, camera ports, Ethernet lane pairs, head role and an arbiter die (R2, R10). -/
def State.big (s : State) : Bool := s.fuses.variant = 0x88 || s.fuses.variant = 0x84

/-- Dies with a camera port. -/
def State.camPorts (s : State) : Nat := if s.fuses.variant = 0x88 then 4 else if s.fuses.variant = 0x84 then 2 else 0

/-- The most views of a frame. -/
def State.maxViews (s : State) : Nat := if s.fuses.variant = 0x81 then 2 else 8

/-- The identity word (Table 0.2). -/
def State.identity (s : State) : Nat := 0x5A160000 + s.fuses.variant % 256 * 256 + s.fuses.rev % 256

/-- The die numbers of the part. -/
def State.dieList (s : State) : List Nat := List.range s.dies

/-- Has the die booted and does it answer over Braid (R37)? -/
def State.alive (s : State) (die : Nat) : Bool := bit (s.pw Ob.dies_alive) die

/-- The dies of dies_alive. -/
def State.aliveList (s : State) : List Nat := s.dieList.filter s.alive

/-- Does the firmware of a die run? -/
def State.fwOn (s : State) (die : Nat) : Bool := bit s.fw die

/-- The acting supervisor die (R405). -/
def State.sup (s : State) : Nat := s.pw Ob.red_sup_die

/-- A part in head role, or head and tile (R24). -/
def State.isHead (s : State) : Bool := s.pw Ob.role_active ≠ 0

/-- A part that shows a tile region: tile, or head and tile. -/
def State.isTile (s : State) : Bool := s.pw Ob.role_active ≠ 1

/-- The part's node ID, none while it has no ID. -/
def State.node (s : State) : Option Nat := let n := s.pw Ob.node_id; if n = 0xFFFF then none else some n

/-- The node ID as cells carry it: 0 if none (Table 5.2). -/
def State.nodeOr0 (s : State) : Nat := s.node.getD 0

/-! Time -/

/-- Lay time now, in 1/65,536 ns. -/
def State.layNow (s : State) : Nat := s.lay.fine / 4294967296

/-- Lay time of a die: its own clock where it holds over alone (R105), else die 0's. -/
def State.layOf (s : State) (die : Nat) : Nat :=
  let h := smGet {} s.lay.holds die
  if h.on then h.fine / 4294967296 else s.layNow

/-- The grid point nearest a Lay time; the later one when it lies halfway (R77). -/
def toGrid (t : Nat) : Nat := (t + layGrid / 2) / layGrid * layGrid

/-- The local count of a die, in ns (R108). -/
def State.localCount (s : State) (die : Nat) : Nat := s.now - smGet 0 s.dieRelease die

/-- The clocks of a die. -/
def State.clk (s : State) (die : Nat) : ClkSt := smGet {} s.clks die

/-- The clocks of a die changed. -/
def State.setClk (s : State) (die : Nat) (f : ClkSt → ClkSt) : State := { s with clks := smPut {} s.clks die (f (s.clk die)) }

/-- Quarters of a pixel that a die composes, develops or corrects in 1 ns, at one pixel per core clock (R455, R456). -/
def State.corePx (s : State) (die : Nat) : Nat := (s.clk die).core

/-- Has a span in ns passed since a moment? -/
def State.past (s : State) (since span : Nat) : Bool := since + span ≤ s.now

/-- A step of Table 13.5 (0 for step 1) ends by an event of the part's own: boot_ms holds when it first did (R396). -/
def State.bootStep (s : State) (i : Nat) : State :=
  if s.boot.steps.contains i then s
  else ({ s with boot := { s.boot with steps := i :: s.boot.steps } } : State).set (Ob.boot_ms + i) (min 65535 ((s.now - s.boot.releaseAt) / 1000000) : Nat)

/-! Crossings (R383, R388-R391) -/

/-- The period of a clock domain in ps (Table 13.1). -/
def State.periodPs (s : State) (die : Nat) : Domain → Nat
  | .core => 4000 / max 1 (s.clk die).core
  | .lay => 4000
  | .chain g => 1000 * s.nat die (0x701004 + 256 * g)
  | .lane _ => 1138
  | .csi => 3200
  | .dram => 937
  | .mgmt => 8000
  | .braid => 500
  | .alwaysOn => 30517578

/-- The source and the destination domain of a crossing. -/
def Crossing.ends : Crossing → Domain × Domain
  | .cellReceived l => (.lane l, .core)
  | .lineReady g => (.chain g, .core)
  | .lampWritten g => (.core, .chain g)
  | .readbackRecord g => (.chain g, .core)
  | .frameStart => (.csi, .core)
  | .frameEnd => (.csi, .core)
  | .latchDone g => (.chain g, .core)
  | .laneIn l => (.lane l, .core)
  | .laneOut l => (.core, .lane l)
  | .served => (.core, .alwaysOn)
  | .pixels => (.csi, .core)
  | .mgmtIn => (.mgmt, .core)
  | .mgmtOut => (.core, .mgmt)
  | .braidIn => (.braid, .core)
  | .braidOut => (.core, .braid)
  | .dramOut _ => (.core, .dram)
  | .dramIn _ => (.dram, .core)

/-- The number of a crossing of a die. -/
def Crossing.key (die : Nat) : Crossing → Nat
  | .cellReceived l => die * 256 + l
  | .lineReady g => die * 256 + 16 + g
  | .lampWritten g => die * 256 + 32 + g
  | .readbackRecord g => die * 256 + 48 + g
  | .frameStart => die * 256 + 64
  | .frameEnd => die * 256 + 65
  | .latchDone g => die * 256 + 80 + g
  | .laneIn l => die * 256 + 96 + l
  | .laneOut l => die * 256 + 112 + l
  | .served => die * 256 + 66
  | .pixels => die * 256 + 67
  | .mgmtIn => die * 256 + 68
  | .mgmtOut => die * 256 + 69
  | .braidIn => die * 256 + 70
  | .braidOut => die * 256 + 71
  | .dramOut c => die * 256 + 72 + c
  | .dramIn c => die * 256 + 76 + c

/-- Has an event crossing the count of R389? -/
def Crossing.counted : Crossing → Bool
  | .cellReceived _ | .lineReady _ | .lampWritten _ | .readbackRecord _ | .frameStart | .frameEnd => true
  | _ => false

/-- A crossing. -/
def State.xing (s : State) (die : Nat) (x : Crossing) : Xing := smGet {} s.xings (x.key die)

/-- A crossing changed. -/
def State.setXing (s : State) (die : Nat) (x : Crossing) (f : Xing → Xing) : State := { s with xings := smPut {} s.xings (x.key die) (f (s.xing die x)) }

/-- The Gray code of a count modulo 256. -/
def grayCode (n : Nat) : Nat := n % 256 ^^^ n % 256 / 2

/-- The count that a Gray code stands for. -/
def grayCount (g : Nat) : Nat := g ^^^ g / 2 ^^^ g / 4 ^^^ g / 8 ^^^ g / 16 ^^^ g / 32 ^^^ g / 64 ^^^ g / 128

/-- A Gray-coded count after `n` more. -/
def grayAdd (g n : Nat) : Nat := grayCode (grayCount g + n)

/-- The latency of a transfer in ps: 3 periods of either side's clock. -/
def State.crossPs (s : State) (die : Nat) (x : Crossing) : Nat := 3 * s.periodPs die x.ends.1 + 3 * s.periodPs die x.ends.2

/-- Is the clock of a domain stopped by the part (Table 13.1)? A transfer toward it wakes it within 50 ns (R391). -/
def State.gated (s : State) (die : Nat) : Domain → Bool
  | .chain g => s.nat die (0x701013 + 256 * g) = 0
  | .lane l => decide (bits (s.nat die (Ob.lane_state + l)) 5 4 ≠ 1)
  | .dram => (List.range 2).all fun c => s.nat die (Ob.dram_state + c) = 3
  | _ => false

/-- Is a die in start-up (until the first view-frame, the last step of Table 13.5), test or recovery (R390)? -/
def State.unsteady (s : State) (die : Nat) : Bool :=
  let b := (smGet {} s.mem die).bist
  !s.boot.lit || s.nat die Ob.dram_sweep_status = 1 || (b.lock.any fun e => decide (s.now < e.2)) || s.nat die Ob.refclk_active = 2 ||
    !(s.fwOn die)

/-- Is a crossing not open: a side of it, or the die, was reset less than 6 cycles of the slower clock ago (R390)? -/
def State.crossShut (s : State) (die : Nat) (x : Crossing) : Bool :=
  decide (s.now * 1000 < (s.xing die x).openAt) || (match (s.clk die).shutAt with
    | some t => decide (s.now * 1000 < t * 1000 + 6 * max (s.periodPs die x.ends.1) (s.periodPs die x.ends.2))
    | none => false)

/-- Words enter a stream crossing that is open. -/
def State.crossPush (s : State) (die : Nat) (x : Crossing) (n : Nat := 1) : State := if s.crossShut die x then s else s.setXing die x fun k => { k with src := grayAdd k.src n }

/-- Words leave a stream crossing. -/
def State.crossPop (s : State) (die : Nat) (x : Crossing) (n : Nat := 1) : State := s.setXing die x fun k => { k with dst := grayAdd k.dst (min n ((grayCount k.src + 256 - grayCount k.dst) % 256)) }

/-- Words that the destination takes as they come. -/
def State.crossWords (s : State) (die : Nat) (x : Crossing) (n : Nat) : State := if s.crossShut die x then s else s.setXing die x fun k => { k with src := grayAdd k.src n, dst := grayAdd k.dst n }

/-- Every crossing of a die is reset, as the die comes out of reset (R390). -/
def State.crossStart (s : State) (die : Nat) : State := ({ s with xings := smKeep (fun k => k / 256 ≠ die) s.xings } : State).setClk die fun c => { c with shutAt := some s.now }

/-- One side of a crossing is reset (R390): both pointers and counts 0, nothing in flight. In service it is open at once; in start-up, test and recovery within 6 cycles of the slower clock. -/
def State.crossReset (s : State) (die : Nat) (test : Bool) (x : Crossing) : State :=
  let t := s.now * 1000
  s.setXing die x fun _ => if test || s.unsteady die then { freeAt := t, openAt := t + 6 * max (s.periodPs die x.ends.1) (s.periodPs die x.ends.2) } else {}

/-- The chain side of a group's crossings is reset (R390). -/
def State.crossResetGroup (s : State) (die g : Nat) : State :=
  (((s.crossReset die false (.lineReady g)).crossReset die false (.lampWritten g)).crossReset die false (.readbackRecord g)).crossReset die false (.latchDone g)

/-! Lanes and ports. A lane and a port are named die × 16 + lane; a port by its lowest lane. -/

/-- The number of a lane, or of the port whose lowest lane it is. -/
def laneKey (die lane : Nat) : Nat := die * 16 + lane

/-- A lane beside its objects. -/
def State.lane (s : State) (die lane : Nat) : LaneSt := smGet {} s.lanes (laneKey die lane)

/-- A lane changed. -/
def State.setLane (s : State) (die lane : Nat) (f : LaneSt → LaneSt) : State :=
  { s with lanes := smPut {} s.lanes (laneKey die lane) (f (s.lane die lane)) }

/-- A port. -/
def State.port (s : State) (p : Nat) : PortSt := smGet {} s.ports p

/-- A port changed. -/
def State.setPort (s : State) (p : Nat) (f : PortSt → PortSt) : State :=
  { s with ports := smPut {} s.ports p (f (s.port p)) }

/-- Is the lane pair of lanes 6 and 7 in Ethernet mode (R142)? -/
def State.ethMode (s : State) (die : Nat) : Bool := s.big && s.nat die Ob.lane_pair_mode ≠ 0

/-- Lanes in the group of a lane, by lane_group_cfg (R130). -/
def State.groupSize (s : State) (die lane : Nat) : Nat :=
  match bits (s.nat die Ob.lane_group_cfg) (if lane < 4 then 1 else 3) (if lane < 4 then 0 else 2) with
  | 1 => 2
  | 2 => 4
  | _ => 1

/-- The lowest lane of a lane's group. -/
def State.groupBase (s : State) (die lane : Nat) : Nat := lane - lane % s.groupSize die lane

/-- The lanes of a port's group. -/
def State.groupLanes (s : State) (p : Nat) : List Nat := (List.range (s.groupSize (p / 16) (p % 16))).map (p % 16 + ·)

/-- Does a lane exist and run in Hawser mode? -/
def State.hawserLane (s : State) (die lane : Nat) : Bool :=
  decide (die < s.dies) && decide (lane < s.laneCount) && !(s.ethMode die && decide (6 ≤ lane))

/-- Does a port exist: a lowest lane of a group, bonded out, in Hawser mode? -/
def State.portExists (s : State) (p : Nat) : Bool :=
  s.hawserLane (p / 16) (p % 16) && s.groupBase (p / 16) (p % 16) = p % 16

/-- The ports, in die and lane order. -/
def State.portList (s : State) : List Nat :=
  (s.dieList.flatMap fun d => (List.range s.laneCount).map (laneKey d)).filter s.portExists

/-- Is a port in service (R134)? -/
def State.inService (s : State) (p : Nat) : Bool := s.portExists p && (s.port p).inService

/-- The ports in service. -/
def State.portsUp (s : State) : List Nat := s.portList.filter fun p => (s.port p).inService

/-- A port's role (R158): 0 chain port, 1 head link, 2 no cells. -/
def State.role (s : State) (p : Nat) : Nat := s.nat (p / 16) (Ob.port_role + p % 16)

/-- A per-port object's key, by the port's lowest lane. -/
def atPort (key p : Nat) : Nat := key + p % 16

/-- A per-port counter increased. -/
def State.bumpPort (s : State) (p key : Nat) : State := s.bump (p / 16) (atPort key p)

/-- The receive step of a lane: lane_state [3:0]. -/
def State.rx (s : State) (die lane : Nat) : Nat := bits (s.nat die (Ob.lane_state + lane)) 3 0

/-- The transmit state of a lane: lane_state [5:4]. -/
def State.tx (s : State) (die lane : Nat) : Nat := bits (s.nat die (Ob.lane_state + lane)) 5 4

/-- The receive step of a lane set. A receiver that is not locked shows no markers locked in lane_peer, and holds no blocks: its side of the crossings into the core is reset (R123, R144, R390), but
where it only sleeps: its clock stops and the crossing holds what it has (R391); it has no run
of clean markers (R135), and is looped for no neighbour any more (R140, log entry 157). -/
def State.setRx (s : State) (die lane v : Nat) : State :=
  let k := Ob.lane_state + lane
  let s1 := s.put die k ((s.nat die k / 16) * 16 + v % 16)
  if v = 5 || v = 6 then s1
  else
    let s2 := (s1.put die (Ob.lane_peer + lane) (clearBit (s.nat die (Ob.lane_peer + lane)) 31)).setLane die lane fun l =>
      { l with lastSeq := none, slot := 0, buf := if v = 7 then l.buf else [], clean := 0, feLoop := false }
    if v = 7 then s2 else
    (s2.crossReset die (v = 8) (.laneIn lane)).crossReset die (v = 8) (.cellReceived lane)

/-- The transmit state of a lane set; a transmitter that stops resets its side of the crossing (R390). -/
def State.setTx (s : State) (die lane v : Nat) : State :=
  let k := Ob.lane_state + lane
  let n := s.nat die k
  (s.put die k (n / 64 * 64 + v % 4 * 16 + n % 16)).when (v = 0) fun s => s.crossReset die false (.laneOut lane)

/-- A lane under test: a loop active or its PRBS generator on (R139). There is no far-end loop in Ethernet mode (R140, Table 4.7). -/
def State.underTest (s : State) (die lane : Nat) : Bool :=
  (s.nat die (Ob.lane_loop + lane) ≠ 0 && (s.nat die (Ob.lane_loop + lane) ≠ 3 || s.hawserLane die lane)) || s.nat die (Ob.prbs_gen + lane) ≠ 0

/-- The lane PLL of a die is locked while the die has a REFCLK (R118, R386). -/
def State.lanePll (s : State) (die : Nat) : Bool := s.nat die Ob.refclk_active ≠ 2

/-- The lanes of a port that run in Hawser mode; a group of 4 whose lanes 6 and 7 run Ethernet keeps lanes 4 and 5 at positions 0 and 1 (DESIGN CHOICE, log entry 174). -/
def State.portLanes (s : State) (p : Nat) : List Nat := (s.groupLanes p).filter fun l => s.hawserLane (p / 16) l

/-- A transmit lane wakes: TX_SLEEP cleared; one that sleeps drives valid symbols with markers (R137). -/
def State.wakeTx (s : State) (die lane : Nat) : State :=
  let s1 := s.put die (Ob.lane_sleep + lane) (clearBit (s.nat die (Ob.lane_sleep + lane)) 0)
  let s2 := s1.setLane die lane fun l => { l with annLeft := 0 }
  if s2.tx die lane = 2 then s2.setTx die lane 1 else s2

/-- Is every transmit lane of a port asleep, and lane_auto_wake 1 (R138)? -/
def State.asleep (s : State) (p : Nat) : Bool :=
  s.portExists p && s.on (p / 16) (Ob.lane_auto_wake + p % 16) && (s.portLanes p).all fun l => s.tx (p / 16) l = 2

/-- A transfer toward a sleeping lane raises a wake request that restarts its transmit clock within 50 ns; the transfer completes and the lane stays asleep (R391). -/
def State.wakeClock (s : State) (p : Nat) : State :=
  let x := Crossing.laneOut (p % 16)
  if s.tx (p / 16) (p % 16) = 2 then s.setXing (p / 16) x fun k => { k with src := grayAdd k.src 1, dst := grayAdd k.dst 1, freeAt := s.now * 1000 + 50000 + s.crossPs (p / 16) x } else s

/-- A cell queued for a port whose every transmit lane is asleep wakes the lowest lane of the group where lane_auto_wake is 1 (R138). -/
def State.autoWake (s0 : State) (p : Nat) : State :=
  let s := s0.wakeClock p
  if s.asleep p then (s.setPort p fun t => { t with waking := true }).wakeTx (p / 16) (p % 16) else s

end Sys2Proof.Machine
end

