-- ==== Sys2Proof/Machine/Wire.lean ====
section
/-! DEFINITION. Encodings on the wire: LAYT values (Table 3.1), Corrix messages (Table 2.1), cell headers (Table 5.1), class-0 payloads (Table 3.5), ENUM and ROUTE payloads
(Tables 5.9, 5.10), knot records (Table 5.11), marker words. -/

namespace Sys2Proof.Machine

/-- A LAYT value as its 12 bytes. -/
def layBytes (t : Nat) : List Byte := leBytes 6 (t / laySec) ++ leBytes 4 (t % laySec / layNs) ++ leBytes 2 (t % layNs)

/-- The NANOSECONDS field of a LAYT at an offset. -/
def layNsAt (bs : List Byte) (o : Nat) : Nat := leAt bs (o + 6) 4

/-- A LAYT read at an offset; nanoseconds above 999,999,999 read as 999,999,999 (R59). -/
def layAt (bs : List Byte) (o : Nat) : Nat :=
  leAt bs o 6 * laySec + min (layNsAt bs o) 999999999 * layNs + leAt bs (o + 10) 2

/-- The header and payload of a Corrix message, less its CRC. -/
def msgBody (op : Nat) (m : Msg) : List Byte :=
  leBytes 1 m.ver ++ leBytes 1 op ++ leBytes 1 m.flags ++ leBytes 1 m.status ++ leBytes 2 m.seq ++ leBytes 2 m.session ++
  leBytes 2 m.target ++ leBytes 2 m.index ++ leBytes 1 m.sub ++ leBytes 1 m.ty ++ leBytes 2 m.len ++ m.payload

/-- The CRC a message should carry (R44). -/
def msgCrc (op : Nat) (m : Msg) : Nat := crc32c (msgBody op m)

/-- A message whole. -/
def msgBytes (op : Nat) (m : Msg) : List Byte := msgBody op m ++ leBytes 4 m.crc

/-- How many bytes a message has. -/
def msgSize (m : Msg) : Nat := 20 + m.payload.length

/-- A message read from bytes: its opcode and the rest. The payload is what LEN says, as far as the bytes reach. -/
def msgParse (via : Path) (bs : List Byte) : Nat × Msg :=
  let len := leAt bs 14 2
  let pay := (bs.drop 16).take len
  let m : Msg :=
    { via := via, ver := leAt bs 0 1, flags := leAt bs 2 1, status := leAt bs 3 1, seq := leAt bs 4 2, session := leAt bs 6 2,
      target := leAt bs 8 2, index := leAt bs 10 2, sub := leAt bs 12 1, ty := leAt bs 13 1, len := len, payload := pay,
      crc := leAt bs (16 + len) 4 }
  (leAt bs 1 1, m)

end Sys2Proof.Machine

namespace Sys2Proof

open Machine

/-- NODE of a message's TARGET. -/
def Msg.node (m : Msg) : Nat := m.target % 1024

/-- LOCAL of a message's TARGET. -/
def Msg.isLocal (m : Msg) : Bool := bit m.target 10

/-- DIE of a message's TARGET. -/
def Msg.die (m : Msg) : Nat := m.target / 4096 % 16

/-- The key of the object a message addresses. -/
def Msg.key (m : Msg) : Nat := m.index * 256 + m.sub % 256

/-- BCAST of FLAGS (Table 2.3). -/
def Msg.bcast (m : Msg) : Bool := bit m.flags 1

end Sys2Proof

namespace Sys2Proof.Machine

/-- The 8 header bytes of a cell. -/
def cellHeader (c : Cell) : List Byte :=
  leBytes 8 (c.cls % 8 + c.kind % 16 * 8 + b2n c.rsv * 128 + c.node % 1024 * 256 + c.spec % 2 ^ 36 * 2 ^ 18 + c.hops % 1024 * 2 ^ 54)

/-- The CRC a cell should carry (R146). -/
def cellCrc (c : Cell) : Nat := crc32c (cellHeader c ++ c.payload)

end Sys2Proof.Machine

namespace Sys2Proof

open Machine

/-- The CRC of a cell is right. -/
def Cell.good (c : Cell) : Bool := c.crc = cellCrc c

/-- The CRC of a cell is stomped: the inverse of the right one (R163). -/
def Cell.stomped (c : Cell) : Bool := c.crc = cellCrc c ^^^ 0xFFFFFFFF

/-- A cell sent on with its CRC made right for its new header, or stomped. -/
def Cell.sealed (c : Cell) (ok : Bool) : Cell := { c with crc := if ok then cellCrc c else cellCrc c ^^^ 0xFFFFFFFF }

end Sys2Proof

namespace Sys2Proof.Machine

/-- A cell the part builds: payload zero-filled to 244 bytes, HOPS 0, the CRC right. -/
def mkCell (cls kind node spec : Nat) (payload : List Byte) : Cell :=
  Cell.sealed { cls := cls, kind := kind, node := node, spec := spec, hops := 0, payload := fitBytes 244 payload, crc := 0 } true

/-- The cell that 8 blocks of 32 bytes make. -/
def cellOfBytes (bs : List Byte) : Cell :=
  let h := leAt bs 0 8
  { cls := bits h 2 0, kind := bits h 6 3, node := bits h 17 8, spec := bits h 53 18, hops := bits h 63 54,
    payload := fitBytes 244 (bs.drop 8), crc := leAt bs 252 4, rsv := bit h 7 }

/-- A cell as its 256 bytes (R146). -/
def cellBytes (c : Cell) : List Byte := cellHeader c ++ c.payload ++ leBytes 4 c.crc

/-- Data block k of a cell: bytes 32k to 32k + 31 (R146). -/
def cellBlock (c : Cell) (k : Nat) : List Byte := ((cellBytes c).drop (32 * k)).take 32

/-! Control blocks (Tables 5.5, 5.6) -/

/-- What a valid control block says (Table 5.6). -/
inductive Ctl where
  | idle
  | hold
  | preempt (cls depth : Nat)
  | layStart
  deriving DecidableEq, Repr, Inhabited

/-- A control block of a TYPE and ARG as its 32 bytes. -/
def ctlBytes (type arg : Nat) : List Byte := fitBytes 32 (leBytes 1 type ++ leBytes 1 (255 - type) ++ leBytes 1 arg)

/-- A control block as its 32 bytes. -/
def Ctl.bytes : Ctl → List Byte
  | .idle => ctlBytes 0x1E 0
  | .hold => ctlBytes 0x2D 0
  | .preempt cls depth => ctlBytes 0x4B (cls % 8 + depth % 8 * 8)
  | .layStart => ctlBytes 0x78 0

/-- The control block that 32 bytes hold; none where TYPE_N is not the inverse of TYPE or TYPE is not listed (R152). -/
def ctlOf (bs : List Byte) : Option Ctl :=
  let t := leAt bs 0 1
  let a := leAt bs 2 1
  if leAt bs 1 1 ≠ 255 - t then none
  else match t with
  | 0x1E => some .idle
  | 0x2D => some .hold
  | 0x4B => some (.preempt (bits a 2 0) (bits a 5 3))
  | 0x78 => some .layStart
  | _ => none

/-! Alignment markers (Table 4.2) -/

/-- PATTERN in transmit order. -/
def markerPattern : List Byte := [0xC1, 0x6A, 0x2E, 0x94, 0x5B, 0x17, 0xF0, 0x3D]

/-- A marker as its 32 bytes. -/
def markerBytes (k : Marker) : List Byte :=
  markerPattern ++ leBytes 2 (k.node % 1024 + k.die % 8 * 1024 + k.lane % 8 * 8192) ++
  leBytes 1 (k.groupPos % 4 + k.groupSize % 4 * 4 + k.rxOk % 16 * 16) ++
  leBytes 1 (k.txMap % 16 + b2n k.sleepAnnounce * 16 + b2n k.feLoopReq * 32 + b2n k.nodeValid * 128) ++
  leBytes 2 k.seq ++ leBytes 1 k.bip ++ leBytes 1 0 ++ markerPattern.map (0xFF - ·) ++ leBytes 8 0

/-- The fields of a marker's 32 bytes. -/
def markerParse (bs : List Byte) : Marker :=
  let src := leAt bs 8 2
  let group := leAt bs 10 1
  let ctrl := leAt bs 11 1
  { node := bits src 9 0, die := bits src 12 10, lane := bits src 15 13, groupPos := bits group 1 0, groupSize := bits group 3 2, rxOk := bits group 7 4,
    txMap := bits ctrl 3 0, sleepAnnounce := bit ctrl 4, feLoopReq := bit ctrl 5, nodeValid := bit ctrl 7, seq := leAt bs 12 2, bip := leAt bs 14 1 }

/-- Bits of PATTERN and PATTERN_N in error; more than 3 are no match (R123). -/
def patternErrors (bs : List Byte) : Nat :=
  popCount 64 (leAt bs 0 8 ^^^ ofLe markerPattern) + popCount 64 (leAt bs 16 8 ^^^ (2 ^ 64 - 1 - ofLe markerPattern))

/-! Scrambling (R119) -/

/-- 4 bytes scrambled by x⁵⁸ + x³⁹ + 1, their first bit in the lowest place, after the 58 bits `h` sent before them: each bit sent is the bit given plus those sent 39 and 58 bits before. -/
def scramble32 (h w : Nat) : Nat := (w ^^^ (h / 2 ^ 19) ^^^ h) % 2 ^ 32

/-- The last 58 bits after 4 scrambled bytes `x`. -/
def scrambleNext (h x : Nat) : Nat := h / 2 ^ 32 + x * 2 ^ 26

/-- A block scrambled, 4 bytes at a time: the bits held after it, and the parity over the positions i mod 8 (Table 4.2). -/
def scrambleBlock (h : Nat) (bs : List Byte) : Nat × Nat :=
  (List.range 8).foldl (fun (a : Nat × Nat) i =>
    let x := scramble32 a.1 (leAt bs (4 * i) 4)
    (scrambleNext a.1 x, a.2 ^^^ (x % 256 ^^^ x / 256 % 256 ^^^ x / 65536 % 256 ^^^ x / 16777216))) (h, 0)

/-- A node set as bytes, bit i mod 8 of byte ⌊i ÷ 8⌋ for node i. -/
def nodeBytes (nodes : Nat) : List Byte := leBytes 128 nodes

/-- A knot record (Table 5.11), 168 bytes. -/
def knotBytes (k : Knot) : List Byte :=
  leBytes 2 k.code ++ leBytes 2 k.subject ++ leBytes 2 k.detail ++ leBytes 1 k.severity ++ leBytes 1 0 ++ leBytes 4 k.window ++
  leBytes 2 k.count ++ leBytes 2 k.firstNode ++ layBytes k.firstAt ++ layBytes k.lastAt ++ nodeBytes k.nodes

/-- A knot record read from a cell's payload. -/
def knotParse (bs : List Byte) : Knot :=
  { code := leAt bs 0 2, subject := leAt bs 2 2, detail := leAt bs 4 2, severity := leAt bs 6 1, window := leAt bs 8 4, count := leAt bs 12 2,
    firstNode := leAt bs 14 2, firstAt := layAt bs 16, lastAt := layAt bs 28, nodes := leAt bs 40 128 }

/-- An ENUM payload (Table 5.9). `argD` is byte 16, `taken` the bits from byte 17. -/
structure Enum where
  msg    : Nat
  pos    : Nat
  head   : Nat
  port   : Nat
  depth  : Nat
  seq    : Nat
  argA   : Nat
  argB   : Nat
  argC   : Nat
  argD   : Nat
  taken  : Nat
  deriving DecidableEq, Repr, Inhabited

/-- An ENUM payload as bytes. -/
def enumBytes (e : Enum) : List Byte :=
  leBytes 1 e.msg ++ leBytes 1 e.pos ++ leBytes 2 e.head ++ leBytes 1 e.port ++ leBytes 1 e.depth ++ leBytes 2 e.seq ++ leBytes 2 e.argA ++
  leBytes 2 e.argB ++ leBytes 4 e.argC ++ leBytes 1 e.argD ++ leBytes 128 e.taken

/-- An ENUM payload read from bytes. -/
def enumParse (bs : List Byte) : Enum :=
  { msg := leAt bs 0 1, pos := leAt bs 1 1, head := leAt bs 2 2, port := leAt bs 4 1, depth := leAt bs 5 1, seq := leAt bs 6 2, argA := leAt bs 8 2,
    argB := leAt bs 10 2, argC := leAt bs 12 4, argD := leAt bs 16 1, taken := leAt bs 17 128 }

/-- A class-0 payload (Table 3.5). -/
structure LayCell where
  msg   : Nat
  state : Nat
  root  : Nat
  gen   : Nat
  hops  : Nat
  seq   : Nat
  tx    : Nat
  t2    : Nat
  reqSeq : Nat
  skew  : Int
  stepAt : Nat
  stepMag : Nat
  utc   : Int
  ref   : Nat
  cumErr : Nat
  deriving DecidableEq, Repr, Inhabited

/-- A class-0 payload as bytes. -/
def layCellBytes (l : LayCell) : List Byte :=
  leBytes 1 l.msg ++ leBytes 1 l.state ++ leBytes 2 l.root ++ leBytes 2 l.gen ++ leBytes 2 l.hops ++ leBytes 2 l.seq ++ layBytes l.tx ++
  layBytes l.t2 ++ leBytes 2 l.reqSeq ++ leBytes 4 (ofSigned 32 l.skew) ++ layBytes l.stepAt ++ layBytes l.stepMag ++
  leBytes 2 (ofSigned 16 l.utc) ++ leBytes 1 l.ref ++ leBytes 1 0 ++ leBytes 2 l.cumErr

/-- A class-0 payload read from bytes. -/
def layCellParse (bs : List Byte) : LayCell :=
  { msg := leAt bs 0 1, state := leAt bs 1 1, root := leAt bs 2 2, gen := leAt bs 4 2, hops := leAt bs 6 2, seq := leAt bs 8 2, tx := layAt bs 10,
    t2 := layAt bs 22, reqSeq := leAt bs 34 2, skew := toSigned 32 (leAt bs 36 4), stepAt := layAt bs 40, stepMag := layAt bs 52,
    utc := toSigned 16 (leAt bs 64 2), ref := leAt bs 66 1, cumErr := leAt bs 68 2 }

/-- A class-0 payload that R99 discards: unknown MSG, NANOSECONDS at or above 10⁹, and in a SYNC a ROOT_RANK not 1 or 2 or HOPS of 1,023 or more. -/
def layCellBad (bs : List Byte) : Bool :=
  let l := layCellParse bs
  let rank := bits l.root 11 10
  (l.msg ≠ 1 && l.msg ≠ 2 && l.msg ≠ 3) || [10, 22, 40, 52].any (fun o => 1000000000 ≤ layNsAt bs o) ||
  (l.msg = 1 && (rank ≠ 1 && rank ≠ 2 || 1023 ≤ l.hops))

/-- A ROUTE payload (Table 5.10) as bytes. -/
def routeBytes (origin seq hops nodes : Nat) : List Byte :=
  leBytes 2 origin ++ leBytes 2 seq ++ leBytes 1 hops ++ leBytes 3 0 ++ nodeBytes nodes

end Sys2Proof.Machine
end

