-- ==== Sys2Proof/Machine/Net.lean ====
section
/-! DEFINITION. Sending cells and choosing ports: own cells and forwarded queues of an output (R160-R162), the chain ports of a tile (R158), a head's routes (R165), replies (R28, R172). -/

namespace Sys2Proof.Machine

/-- The first cell of the lowest class code of a list (R156). -/
def lowest : List Cell → Option Cell
  | [] => none
  | c :: t => match lowest t with
    | some d => if d.cls < c.cls then some d else some c
    | none => some c

/-- An own cell of class 1, 2 or 4 queued for a port (R160, R162); it may wake the port (R138). -/
def State.queueOwn (s : State) (p : Nat) (c : Cell) : State :=
  (s.setPort p fun t => { t with own := t.own ++ [c] }).autoWake p

/-- May a cell wait for a port that is out of service: one whose every transmit lane is asleep and that a cell wakes, or that a cell has woken (R138)? -/
def State.wakes (s : State) (p : Nat) : Bool :=
  s.portExists p && (s.port p).waking || s.asleep p

/-- A forwarded cell handed to an output port: discarded and counted in fwd_drops where the port carries no cells, is not in service and is not one that a cell wakes, or where its
class queue of 64 is full; else queued (R138, R158, R162). A class-0 cell of a reserved kind goes by its LAY_START (R148, R157). At a tile the own
cells that have not begun wait for 9 free slots anew (R160). -/
def State.queueFwd (s : State) (p : Nat) (c : Cell) : State :=
  if !(s.inService p || s.wakes p) || s.role p = 2 then s.bumpPort p Ob.fwd_drops
  else if c.cls = 0 then (s.setPort p fun t => { t with lays := t.lays ++ [c] }).autoWake p
  else if 64 ≤ ((s.port p).fwd.filter fun d => d.cls = c.cls).length then s.bumpPort p Ob.fwd_drops
  else (s.setPort p fun t => { t with fwd := t.fwd ++ [c], own := if s.isHead then t.own else t.ready ++ t.own, ready := if s.isHead then t.ready else [] }).autoWake p

/-- The up port of a tile (R158): none while fwd_up_port reads 0xFF, or names a port whose port_role makes it no chain port. -/
def State.upPort (s : State) : Option Nat := let p := s.pw Ob.fwd_up_port; if p = 0xFF || s.role p ≠ 0 then none else some p

/-- The ports in service whose port_role is 0: those the automatic rules of R158 consider. -/
def State.chainUp (s : State) : List Nat := s.portsUp.filter fun p => s.role p = 0

/-- The down port of a tile with up port `u`, and the bits of fwd_flags its choice sets (R158). -/
def State.pickDown (s : State) (u : Nat) : Option Nat × Nat :=
  let named := s.pw Ob.fwd_down_port
  let others := s.chainUp.filter (· ≠ u)
  if named ≠ u && others.contains named then (some named, 0)
  else
    match others.filter fun p => p / 16 = u / 16 with
    | p :: rest => (some p, if rest.isEmpty then 0 else 4)
    | [] => match others with
      | p :: _ => (some p, 2)
      | [] => (none, 1)

/-- The choice of the down port made anew (R158): its bits of fwd_flags are set. -/
def State.chooseDown (s : State) : State :=
  if s.isHead then s
  else match s.upPort with
    | some u => s.orBits 0 Ob.fwd_flags (s.pickDown u).2
    | none => s

/-- The two chain ports of a tile (R158): up and down, or before the first WALK the two lowest ports in service. -/
def State.chainPorts (s : State) : Option Nat × Option Nat :=
  match s.upPort with
  | some u => (some u, (s.pickDown u).1)
  | none => (s.chainUp[0]?, s.chainUp[1]?)

/-- Is a port one of the tile's chain ports? -/
def State.isChain (s : State) (p : Nat) : Bool := s.chainPorts.1 = some p || s.chainPorts.2 = some p

/-- The other chain port of a tile (R159). -/
def State.otherChain (s : State) (p : Nat) : Option Nat :=
  if s.chainPorts.1 = some p then s.chainPorts.2 else if s.chainPorts.2 = some p then s.chainPorts.1 else none

/-- The port by which a head routes a cell for a node other than its own (R165): the chain port whose latest enumeration holds it, else the head link of the ROUTE that does. -/
def State.routeOf (s : State) (node : Nat) : Option Nat :=
  match s.enums.find? fun e => e.2.contains node && s.role e.1 = 0 with
  | some e => some e.1
  | none => (s.net.routes.find? fun r => bit r.nodes node && s.role r.link = 1).map (·.link)

/-- The port an own cell for a node leaves by: a tile's up port, a head's route (R165). -/
def State.ownPort (s : State) (node : Nat) : Option Nat := if s.isHead then s.routeOf node else s.upPort

/-- An own cell toward a node; a tile with no up port sends none, and a head with no route discards it and counts it (R165), at die 0's port 0 (DESIGN CHOICE, log entry 125). -/
def State.sendOwn (s : State) (c : Cell) : State :=
  match s.ownPort c.node with
  | some p => s.queueOwn p c
  | none => if s.isHead then s.bumpPort 0 Ob.fwd_stray else s

/-- SPEC of a CORRIX cell (R172). -/
def corrixSpec (entry : Nat) (resp bcast : Bool) : Nat := entry % 1024 + b2n resp * 1024 + b2n bcast * 2048

/-- The HOPS of the cell that brought a message; 0 on the other paths. -/
def hopsOf : Path → Nat
  | .hawser _ _ h => h
  | _ => 0

/-- A CORRIX cell that carries a message. -/
def corrixCell (node entry : Nat) (resp bcast : Bool) (op : Nat) (m : Msg) : Cell :=
  mkCell 2 0 node (corrixSpec entry resp bcast) (msgBytes op m)

/-- A response leaves by the path its request came by (R28, R54, R172). In the response mailbox of the host SPI target it waits until the host has freed the one before (R56). -/
def State.reply (s : State) (via : Path) (op : Nat) (m : Msg) : State :=
  match via with
  | .udp _ _ _ => (s.emit (.reply via op m)).crossWords s.sup .mgmtOut (msgSize m)
  | .spi =>
    let bytes := smPutAll 0 [] 0 (msgBytes op m)
    { s.emit (.reply via op m) with
      spi := if bit s.spi.hstat 1 then { s.spi with held := some bytes } else { s.spi with response := bytes, hstat := setBit s.spi.hstat 1 } }
  | .hawser p e _ => s.queueOwn p (corrixCell e e true false op m)

end Sys2Proof.Machine
end

