-- ==== Sys2Proof/Machine/Flags.lean ====
section
/-! DEFINITION. Flags, the fault reports they raise (R173) and the knot table (R174-R179). -/

namespace Sys2Proof.Machine

/-- The level FAULT_N stands for: driven while a sink holds it (R179) or another source does (R386, R459). -/
def State.faultOn (s : State) : Bool := s.knotHold || s.faultSrc ≠ 0

/-- FAULT_N (active low) and its mirror in HSTAT follow their sources (Table 2.7). -/
def State.driveFault (s : State) (before : Bool) : State :=
  if s.faultOn = before then s
  else { s.emit (.pin .faultN (!s.faultOn)) with spi := { s.spi with hstat := putBit s.spi.hstat 2 s.faultOn } }

/-- The length of a knot window in Lay units. -/
def State.windowLen (s : State) : Nat := s.pw Ob.knot_window_ms * 1000000 * layNs

/-- The window number of a Lay time (R174). -/
def State.windowOf (s : State) (t : Nat) : Nat := t / layNs / (s.pw Ob.knot_window_ms * 1000000) % 4294967296

/-- A head that is a knot sink (R178). -/
def State.isSink (s : State) : Bool :=
  let k := s.pw Ob.knot_sink
  s.isHead && (k = 0xFFFF || s.node = some k || (s.routeOf k).isNone)

/-- The knot depth (R176): POS + HEAD_DEPTH of the last WALK on a tile; at a head HOPS of the sink's latest ROUTE plus 1; 0 at the sink or with neither. -/
def State.knotDepth (s : State) : Nat :=
  if s.isSink then 0
  else if s.isHead then
    match s.net.routes.find? fun r => bit r.nodes (s.pw Ob.knot_sink) with
    | some r => r.hops + 1
    | none => 0
  else if s.upPort.isSome then s.pw Ob.enum_pos + s.net.headDepth else 0

/-- The Lay time at which the knots of a window are flushed (R176), for the window number nearest the present one. -/
def State.flushTime (s : State) (w : Nat) : Nat :=
  let cur := s.layNow / s.windowLen
  let ahead := toSigned 32 (w + 4294967296 - cur % 4294967296)
  (((cur : Int) + ahead + 1).toNat) * s.windowLen + (288 - s.knotDepth) * 2000 * layNs

/-- Two knots merge: the key and the window are equal (R174). -/
def Knot.sameAs (a b : Knot) : Bool :=
  a.code = b.code && a.subject = b.subject && a.detail = b.detail && a.window = b.window

/-- A knot merged into an entry (R175). -/
def Knot.merge (e k : Knot) : Knot :=
  let earlier := k.firstAt < e.firstAt || (k.firstAt = e.firstAt && k.firstNode < e.firstNode)
  { e with count := min (e.count + k.count) 65535, nodes := e.nodes ||| k.nodes,
           firstAt := if earlier then k.firstAt else e.firstAt, firstNode := if earlier then k.firstNode else e.firstNode,
           lastAt := max e.lastAt k.lastAt }

/-- The EVENT message of a knot (R178): its SEQ is event_seq before this knot is counted (DEDUCED, log entry 36). -/
def State.eventMsg (s : State) (k : Knot) : Msg :=
  let m : Msg :=
    { via := .udp (s.pw Ob.event_dest % 4294967296) (s.pw Ob.event_dest / 4294967296) (s.pw Ob.corrix_udp_port), seq := s.pw Ob.event_seq, session := 0,
      target := s.nodeOr0 + 0xF000, index := k.code, sub := 0, ty := 10, len := 168, payload := knotBytes k, crc := 0 }
  { m with crc := msgCrc 0x20 m }

/-- A sink delivers a knot (R178, R179): the log of the last 32, the EVENT with event_seq before it counts this one (DEDUCED, log entry 36), event_seq, and FAULT_N for SEVERITY 2 or 3. -/
def State.deliverKnot (s : State) (k : Knot) : State :=
  let before := s.faultOn
  let s1 := { s with knotLog := (s.knotLog ++ [k]).drop ((s.knotLog.length + 1) - 32) }
  let s2 := s1.when (s.pw Ob.event_dest ≠ 0) fun s => s.emit (.event (s.pw Ob.event_dest) (s.pw Ob.corrix_udp_port) (msgBytes 0x20 (s.eventMsg k)))
  let s3 := s2.bump 0 Ob.event_seq
  ({ s3 with knotHold := s3.knotHold || 2 ≤ k.severity }).driveFault before

/-- The port by which a knot can leave: a tile's up port in service, a head's route toward the sink. -/
def State.knotPort (s : State) : Option Nat :=
  match s.ownPort (s.pw Ob.knot_sink) with
  | some p => if s.inService p then some p else none
  | none => none

/-- send_knot of R175: delivered at the sink, else a KNOT cell toward it; false where the part has no way to send it. -/
def State.sendKnot (s : State) (k : Knot) : State × Bool :=
  if s.isSink then (s.deliverKnot k, true)
  else
    match s.knotPort with
    | some p => (s.queueFwd p (mkCell 1 0 s.nodeOr0 0 (knotBytes k)), true)
    | none => (s, false)

/-- A knot put into a table, merged or new; a full table sends its oldest on, or discards it where there is no way (R165, R175). -/
def State.insertKnot (s : State) (k : Knot) : State :=
  if s.knots.any (·.sameAs k) then
    { s with knots := s.knots.map fun e => if e.sameAs k then e.merge k else e }
  else
    match s.knots with
    | old :: rest =>
      if 128 ≤ s.knots.length then
        let r := s.sendKnot old
        let s1 := if r.2 then r.1.bump 0 Ob.knot_evictions else r.1.bump 0 Ob.knot_undelivered
        { s1 with knots := rest ++ [k] }
      else { s with knots := s.knots ++ [k] }
    | [] => { s with knots := [k] }

/-- Entry of a knot into the table (R175): one whose window is flushed already is sent on and counted late, where it can be sent. -/
def State.enterKnot (s : State) (k : Knot) : State :=
  if s.flushTime k.window ≤ s.layNow && (s.sendKnot k).2 then (s.sendKnot k).1.bump 0 Ob.knot_late
  else s.insertKnot k

/-- The flags that raise a fault report: SEVERITY, and whether SUBJECT is the part's own node (R114, R145, R202, R235, R258, R297, R330, R345, R379, R387, R417, R446,
R459, R465, R493). FG_BLANKED and DEGRADED are raised apart. -/
def reportOf (key i : Nat) : Option (Nat × Bool) :=
  if key = Ob.lay_flags then some (2, false)
  else if Ob.lane_flags ≤ key && key < Ob.lane_flags + 8 then (if i = 0 || i = 2 || i = 3 || i = 4 || i = 6 then some (2, false) else none)
  else if key = Ob.launch_flags then (if i = 0 || i = 2 || i = 4 || i = 6 then some (1, false) else none)
  else if key = Ob.compose_flags then (if i = 0 || i = 2 || i = 5 then some (1, false) else none)
  else if key = Ob.cam_flags then (if i = 1 || i = 2 then some (1, false) else none)
  else if key = Ob.check_flags then (if i = 0 || i = 1 then some (1, true) else none)
  else if key = Ob.corr_flags then (if i = 0 then some (1, true) else none)
  else if key = Ob.raster_flags then
    (if i = 1 || i = 2 then some (2, true) else if i = 0 || i = 3 || i = 4 then some (1, true) else none)
  else if key = Ob.fault_flags then (if i = 0 || i = 1 then some (1, true) else none)
  else if key = Ob.sram_flags then (if i = 0 then some (2, true) else none)
  else if key = Ob.dram_flags then (if i = 0 then some (2, true) else if i = 1 then some (1, true) else if i = 2 then some (3, true) else none)
  else if key = Ob.clock_flags then (if i = 1 then some (3, true) else if i = 0 || i = 2 then some (1, true) else none)
  else if key = Ob.red_flags then
    (if i = 0 || i = 5 then some (3, true) else if i = 3 || i = 4 || i = 6 || i = 8 then some (2, true) else if i = 7 then some (0, true) else none)
  else if key = Ob.silt_flags then (if i = 1 || i = 3 then some (2, true) else if i = 0 || i = 5 || i = 6 then some (1, true) else none)
  else if key = Ob.upd_flags then (if i = 3 then some (3, true) else if i = 1 then some (2, true) else if i = 2 then some (0, true) else none)
  else if key = Ob.therm_flags then
    (if i = 0 || i = 2 then some (1, true) else if i = 1 || i = 3 then some (2, true) else if i = 4 then some (3, true) else none)
  else if key = Ob.pwr_flags then (if i = 0 then some (3, true) else none)
  else none

/-- A report of the part itself for a bit that set at a Lay time (R173). -/
def State.reportAt (s : State) (die key i x severity : Nat) (own : Bool) (t : Nat) : State :=
  let id := s.pw Ob.node_id
  s.enterKnot
    { code := key / 256, subject := if own then id else 0xFFFF, detail := i + die * 256 + x % 16 * 4096, severity := severity,
      window := s.windowOf t, count := 1, firstNode := id, firstAt := t, lastAt := t, nodes := if id = 0xFFFF then 0 else 2 ^ id }

/-- A report of the part itself for a bit that sets now. -/
def State.report (s : State) (die key i x severity : Nat) (own : Bool) : State := s.reportAt die key i x severity own (s.layOf die)

/-- A flag bit set, without a report. -/
def State.markFlag (s : State) (die key i : Nat) : State := s.orBits die key (2 ^ i)

/-- A flag bit set; where it was clear and its chapter says so, a report is raised. `x` is DETAIL [15:12]. -/
def State.raise (s : State) (die key i : Nat) (x : Nat := 0) : State :=
  if s.on die key i then s
  else
    match reportOf key i with
    | some (sev, own) => (s.markFlag die key i).report die key i x sev own
    | none => s.markFlag die key i

/-! FAULT_N while both REFCLKs of a die are lost (R386) -/

/-- Is a knot that of REFCLK_BOTH_LOST? -/
def State.isLoss (s : State) (k : Knot) : Bool := k.code = 0x9010 && k.detail % 256 = 1 && k.subject = s.nodeOr0

/-- Is a cell the knot of this part's REFCLK_BOTH_LOST (R177)? -/
def State.lossCell (s : State) (c : Cell) : Bool :=
  c.cls = 1 && c.kind = 0 && c.node = s.nodeOr0 && leAt c.payload 0 2 = 0x9010 && leAt c.payload 2 2 = s.nodeOr0 && leAt c.payload 4 2 % 256 = 1

/-- The knot of REFCLK_BOTH_LOST has left the part: FAULT_N is released, unless another such knot is held (R386). -/
def State.lossSent (s : State) : State :=
  if s.knots.any s.isLoss then s else ({ s with faultSrc := clearBit s.faultSrc 0 } : State).driveFault s.faultOn

end Sys2Proof.Machine
end

