-- ==== Sys2Proof/Machine/Crossings.lean ====
section
/-! DEFINITION. Events and streams over the crossings of a die (R388-R391). -/

namespace Sys2Proof.Machine

/-- `n` events at one moment over an event crossing that is open (R388, R389). One pulse leaves where none is in flight, the others are in excess: XING_OVERRUN and xing_overruns. With a count, no event is
lost all the same: the count crosses within the latency, here at once (log entry 65). A clock that the part has stopped is woken first (R391). -/
def State.crossEvents (s : State) (die : Nat) (x : Crossing) (n : Nat) : State :=
  if n = 0 || s.crossShut die x then s
  else
    let t := s.now * 1000
    let free := decide ((s.xing die x).freeAt ≤ t)
    let wake := if s.gated die x.ends.2 then 50000 else 0
    let count (g : Nat) : Nat := if x.counted then grayAdd g n else g
    let s1 := s.setXing die x fun k => { k with src := count k.src, dst := count k.src, freeAt := if free then t + wake + s.crossPs die x else k.freeAt }
    let over_ := if free then n - 1 else n
    s1.when (decide (0 < over_)) fun s => (s.bump die Ob.xing_overruns over_).raise die Ob.clock_flags 3

/-- How many events or words stand between the sides of a crossing: the difference of the counts (R389). -/
def Xing.between (k : Xing) : Nat := (grayCount k.src + 256 - grayCount k.dst) % 256

/-- How many events the destination of a counted crossing takes as `n` more happen: the difference between the count that comes and the one it took last (R389). -/
def State.crossCount (s : State) (die : Nat) (x : Crossing) (n : Nat) : Nat :=
  if s.crossShut die x then 0 else Xing.between { s.xing die x with src := grayAdd (s.xing die x).src n }

/-- The frequency word of the Lay servo crosses from CORE to LAY (R388): at once where no transfer is in flight, else the newest one when that is over. -/
def State.crossWord (s : State) (f : Int) : State :=
  if s.lay.wordAt ≤ s.now then { s with lay := { s.lay with freq := f, word := f, wordAt := s.now + 12 + 3 * s.periodPs s.sup .core / 1000 } } else { s with lay := { s.lay with freq := f } }

/-- A cell has come in by a port: counted, and an event of its lane's crossing. -/
def State.cellArrives (s : State) (p : Nat) : State := (s.bump (p / 16) (atPort Ob.cell_rx p) (s.crossCount (p / 16) (.cellReceived (p % 16)) 1)).crossEvents (p / 16) (.cellReceived (p % 16)) 1

end Sys2Proof.Machine
end

