-- ==== Sys2Proof/Machine/Lay.lean ====
section
/-! DEFINITION. Lay time (chapter 3): roots and conflicts, references, changes of time at the root, sync and delay cells, the servo, PTP domain clocks and time stamps. -/

namespace Sys2Proof.Machine

/-! The clock -/

/-- One ns of a Lay clock, and of the PTP domain clocks: 1 ns, the frequency word, its share of the phase trim (R103), and the slew of R90, at most lay_slew_ppb. -/
def State.tickLay (s : State) : State :=
  let l := s.lay
  let share : Int := if l.trimNs = 0 then 0 else l.trim / l.trimNs
  let cap : Int := s.pw Ob.lay_slew_ppb * 281474976710656 / 1000000000
  let sl := clampInt (-cap) cap l.slew
  let w := if l.word ≠ l.freq && l.wordAt ≤ s.now then l.freq else l.word
  let adv : Int := 281474976710656 + w + share + sl
  { s with lay := { l with word := w, wordAt := if w = l.word then l.wordAt else s.now + 12 + 3 * s.periodPs s.sup .core / 1000, fine := ((l.fine : Int) + adv).toNat, trim := l.trim - share, trimNs := l.trimNs - 1, slew := l.slew - sl,
                           ptp := l.ptp.map fun p => (p.1, { p.2 with fine := p.2.fine + p.2.freq }),
                           holds := l.holds.map fun h => (h.1, { h.2 with fine := ((h.2.fine : Int) + 281474976710656 + h.2.freq).toNat }) } }

/-- Lay time moved by an amount in Lay units, never below 0 (R75). -/
def State.shiftLay (s : State) (d : Int) : State :=
  { s with lay := { s.lay with fine := ((s.lay.fine : Int) + d * 4294967296).toNat } }

/-- lay_state and its values (Table 3.9). -/
abbrev layFree := 0
abbrev layAcquire := 1
abbrev layLocked := 2
abbrev layHoldover := 3
abbrev layRoot := 4

/-- The servo state. -/
def State.layState (s : State) : Nat := s.pw Ob.lay_state

/-- An acting root. -/
def State.isRoot (s : State) : Bool := s.layState = layRoot

/-- lay_freq_adj shows the frequency word in 0.1 ppb. -/
def State.showFreq (s : State) : State := s.set Ob.lay_freq_adj (s.lay.freq * 10000000000 / 281474976710656)

/-- The frequency word averaged over the last 1 s (R89, R104): the plain mean of the words set in it (DESIGN CHOICE, log entry 172); the present word where none was. -/
def State.meanFreq (s : State) : Int :=
  let h := s.lay.hist.filter fun e => s.now ≤ e.1 + 1000000000
  if h.isEmpty then s.lay.freq else (h.map (·.2)).sum / h.length

/-! Changes of time at the root (R88-R94) -/

/-- The nodes of route_nodes (R88, R180): a head's own node, the enumerations of its chain ports, the nodes other heads advertise. -/
def State.routeNodes (s : State) : Nat :=
  if s.isHead then
    let own := match s.node with
      | some n => 2 ^ n
      | none => 0
    let chain := s.enums.foldl (fun a e => e.2.foldl (fun b n => b ||| 2 ^ n) a) own
    s.net.routes.foldl (fun a r => a ||| r.nodes) chain
  else 0

/-- The wall is large (R88). -/
def State.wallLarge (s : State) : Bool :=
  match s.pw Ob.lay_wall_class with
  | 1 => false
  | 2 => true
  | _ => !s.isHead || 64 < popCount 1024 s.routeNodes

/-- The pending amount shown in lay_step_pending_mag and lay_step_pending_neg. -/
def State.showPending (s : State) (d : Int) : State :=
  (s.set Ob.lay_step_pending_mag d.natAbs).set Ob.lay_step_pending_neg (if d < 0 then 1 else 0)

/-- No amount is pending any more (R91); a scheduled one stays (R92). -/
def State.dropPending (s : State) : State := s.when s.lay.step.isNone fun s => s.showPending 0

/-- A step of an amount scheduled at the first whole Lay second at least 250 ms ahead (R92). -/
def State.scheduleStep (s : State) (d : Int) : State :=
  let at_ := (s.layNow + 250000000 * layNs + laySec - 1) / laySec * laySec
  ({ s with lay := { s.lay with step := some (at_, d) } }.set Ob.lay_step_at at_).showPending d

/-- An offset found at the root (Lay time minus the new source, in Lay units): kept for after S while a step is scheduled; slewed up to lay_step_threshold_ns; above it a
step in a compact wall, and in a large one STEP_REFUSED and a pending amount (R90-R92). The phase stays, and the source is followed in frequency only, until the step or for as long as it is refused. -/
def State.timeChange (s0 : State) (off : Int) : State :=
  let s : State := { s0 with lay := { s0.lay with refused := some off } }
  match s.lay.step with
  | some (_, d) => { s with lay := { s.lay with wanted := some (off + d) } }
  | none =>
    if off.natAbs ≤ s.pw Ob.lay_step_threshold_ns * layNs then
      { s with lay := { s.lay with slew := -off * 4294967296, refused := none } }.showPending 0
    else if s.wallLarge then (s.showPending (-off)).raise 0 Ob.lay_flags 4
    else s.scheduleStep (-off)

/-- The root's frequency word set, as the mean of the last 1 s remembers it (R89). -/
def State.setFreq (s : State) (f : Int) : State :=
  { s.crossWord f with lay := { (s.crossWord f).lay with hist := (s.now, f) :: s.lay.hist.filter fun e => s.now ≤ e.1 + 1000000000 } }.showFreq

/-- The root follows its reference, from which it is `gap` Lay units ahead: not while it slews an offset of 1 ns or more (R90); with an offset refused or waiting for its step, in frequency only, a
refused one shown continuously (R91) until a step freezes the amount (R92); else in phase, at lay_root_bw_mhz. -/
def State.rootFollow (s : State) (gap : Int) : State :=
  if 281474976710656 ≤ s.lay.slew.natAbs then s
  else match s.lay.refused with
  | some r => (s.when s.lay.step.isNone fun s => s.showPending (-gap)).setFreq (Config.rootSteer (s.pw Ob.lay_root_bw_mhz) (gap - r) s.lay.freq)
  | none => s.setFreq (Config.rootSteer (s.pw Ob.lay_root_bw_mhz) gap s.lay.freq)

/-- The amount that lay_step_pending_mag and lay_step_pending_neg show. -/
def State.pendingStep (s : State) : Int :=
  if s.on 0 Ob.lay_step_pending_neg then -(s.pw Ob.lay_step_pending_mag : Int) else s.pw Ob.lay_step_pending_mag

/-- A write of lay_step_accept at the acting root (R91, R92): with an offset pending and no step scheduled, the amount freezes and the step is scheduled. -/
def State.stepAccept (s : State) : State :=
  if !s.isRoot || s.lay.step.isSome || s.pendingStep = 0 then s else s.scheduleStep s.pendingStep

/-- A write of lay_time_set (R94): at the acting root a step to the written value, in either wall class. An offset that a large wall has refused and that the step leaves is handled after S (R92). -/
def State.timeSet (s : State) (v : Nat) : State :=
  let d : Int := (v : Int) - s.layNow
  if !s.isRoot then s
  else if s.lay.refused.isSome then { s with lay := { s.lay with wanted := some (d - s.pendingStep) } }.scheduleStep d
  else s.scheduleStep d

/-! References (R83-R89) -/

/-- A reference. -/
def State.ref (s : State) (code : Nat) : RefSt := smGet {} s.lay.refs code

/-- A reference changed. -/
def State.setRef (s : State) (code : Nat) (f : RefSt → RefSt) : State :=
  { s with lay := { s.lay with refs := smPut {} s.lay.refs code (f (s.ref code)) } }

/-- Is a code qualified? Code 0x5 always is (R83). -/
def State.qualified (s : State) (code : Nat) : Bool := code = 5 || bit (s.pw Ob.lay_ref_qualified) code

/-- The codes of lay_ref_priority, in order, up to the first 0 (R83). -/
def State.refList (s : State) : List Nat :=
  let p := s.pw Ob.lay_ref_priority
  ([p % 16, p / 16 % 16, p / 256 % 16, p / 4096 % 16].takeWhile (· ≠ 0))

/-- A PTP domain clock: 0 is A, 1 is B. -/
def State.ptp (s : State) (d : Nat) : PtpSt := smGet {} s.lay.ptp d

/-- A PTP domain clock changed. -/
def State.setPtp (s : State) (d : Nat) (f : PtpSt → PtpSt) : State :=
  { s with lay := { s.lay with ptp := smPut {} s.lay.ptp d (f (s.ptp d)) } }

/-- What a domain clock counts now, in Lay units, set or not. -/
def State.ptpClock (s : State) (d : Nat) : Int := (s.now * layNs : Nat) + (s.ptp d).fine / 4294967296

/-- The time of a domain clock now, in Lay units; 0 until it has been set (Table 3.10). -/
def State.ptpTime (s : State) (d : Nat) : Nat := if (s.ptp d).set_ then (s.ptpClock d).toNat else 0

/-- A signed distance to the nearest whole second. -/
def secondPhase (t : Nat) : Int := if 2 * (t % laySec) < laySec then (t % laySec : Nat) else ((t % laySec : Nat) : Int) - laySec

/-- The root compares its Lay time with a newly selected reference (R84, R90). PTP gives time of day, PPS the phase of the second; FSYNC and free-run give no offset. -/
def State.compareRef (s : State) (code : Nat) : State :=
  match code with
  | 1 => s.timeChange ((s.layNow : Int) - s.ptpTime 0)
  | 2 => s.timeChange ((s.layNow : Int) - s.ptpTime 1)
  | 3 => s.timeChange (secondPhase (s.pw Ob.lay_pps_last))
  | _ => s

/-- What the master that a domain clock follows has announced. -/
def State.ptpMaster (s : State) (d : Nat) : Option PtpMaster := ((s.ptp d).sources.find? fun m => (s.ptp d).cur = some m.source).map (·.said)

/-- The epoch follows the selected reference (R76): TAI and the UTC offset while it is a PTP clock whose master declares the PTP timescale. -/
def State.showEpoch (s : State) : State :=
  let c := s.pw Ob.lay_ref_selected
  let m := if c = 1 || c = 2 then s.ptpMaster (c - 1) else none
  (s.set Ob.lay_epoch_tai (b2n (m.any (·.ptpTimescale)))).set Ob.lay_utc_offset (match m with
    | some p => p.utcOffset
    | none => 0)

/-- The acting root selects a code, or none (R83, R86, R89): a change of time at the root. With none it keeps its last rate; with code 5 it runs at the rate of REFCLK. -/
def State.selectRef (s : State) (code : Nat) : State :=
  if code = s.pw Ob.lay_ref_selected then s
  else
    let s1 := (({ s with lay := { s.lay with refused := none, wanted := none } }.dropPending).set Ob.lay_ref_selected code).setRef code fun r => { r with selectedAt := some s.now, baseline := none, driftFrom := none }
    if code = 0 then (s1.crossWord s.meanFreq).showFreq.showEpoch
    else if code = 5 then (s1.setFreq 0).showEpoch
    else (s1.compareRef code).showEpoch

/-- The first qualified code of the list; 0 where none is (R83). -/
def State.bestRef (s : State) : Nat := (s.refList.find? s.qualified).getD 0

/-- The root selects its reference anew (R83): after a loss, or on becoming root. -/
def State.reselect (s : State) : State := if s.isRoot then s.selectRef s.bestRef else s

/-- A write of lay_ref_priority or lay_ref_revert at the acting root (R83, R86): a selected code that the list still holds stays, unless lay_ref_revert is 1 (DEDUCED, log entry 117). -/
def State.refListWritten (s : State) : State :=
  if s.refList.contains (s.pw Ob.lay_ref_selected) && !(s.on 0 Ob.lay_ref_revert) then s else s.reselect

/-- The part becomes acting root with its present Lay time (R79, R81, R82); `fresh` increments lay_root_gen, which the journal keeps. With no reference qualified it has no rate to hold and runs
free on REFCLK (R83). A root without a node ID puts 1,023 into ROOT_NODE (DESIGN CHOICE, log entry 171). -/
def State.becomeRoot (s : State) (fresh : Bool) : State :=
  let s1 := ((((s.bootStep 8).set Ob.lay_state layRoot).set Ob.lay_root_node (s.pw Ob.node_id)).set Ob.lay_hops 0).set Ob.lay_upstream 0xFF
  let s2 := s1.when fresh fun s => s.keep 0 Ob.lay_root_gen ((s.pw Ob.lay_root_gen + 1) % 65536)
  let s3 := { s2 with lay := { s2.lay with node := s.pw Ob.node_id % 1024, hops := 0, rank := s.pw Ob.lay_rank, gen := s2.pw Ob.lay_root_gen, hasRoot := true, upHold := false, trim := 0, trimNs := 0, handbackAt := none, foreign := none, refused := none } }
  let s4 := ((s3.set Ob.lay_ref_selected 0).dropPending).reselect
  if s4.pw Ob.lay_ref_selected = 0 then (s4.setFreq 0).showEpoch else s4

/-- The part stops being root and follows again, starting in a servo state. The root it last followed stays its own, whose ROOT, ROOT_GEN and HOPS its delay cells go on carrying (R99); no amount is
pending any more but that of a scheduled step (R92). -/
def State.becomeFollower (s : State) (st : Nat) : State :=
  let s1 := (s.set Ob.lay_state st).dropPending
  { s1 with lay := { s1.lay with good := 0, bad := 0, handbackAt := none, slew := 0, refused := none, wanted := none,
                                  acquiredAt := if st = layAcquire then some s.now else none } }.set Ob.lay_root_node 0xFFFF

/-- The best of the masters that a domain clock has heard within three of their announce intervals, by the default BMCA: the least priority1, clockClass, accuracy, variance, priority2, identity,
steps, source, in this order (IEEE 1588; PRESUMED, log entry 118). -/
def PtpSource.before (a b : PtpSource) : Bool :=
  let key (m : PtpSource) : List Nat := [m.said.priority1, m.said.clockClass, m.said.accuracy, m.said.variance, m.said.priority2, m.said.gm, m.said.steps, m.source]
  decide (key a < key b)

/-- Has a master been silent for the announce receipt timeout, three announce intervals? -/
def State.ptpSilent (s : State) (m : PtpSource) : Bool := s.past m.at_ (3 * m.interval + 1)

/-- The master that a domain clock should follow now. -/
def State.ptpBest (s : State) (d : Nat) : Option PtpSource :=
  ((s.ptp d).sources.filter fun m => !(s.ptpSilent m)).foldl (fun best m => match best with
    | some b => if m.before b then some m else some b
    | none => some m) none

/-- Does the loss condition of a reference hold (Table 3.3)? For PPS_IN with FREF_IN, `fref` says that FREF_IN has had no edge for 1 µs. -/
def State.refGone (s : State) (code : Nat) (fref : Bool) : Bool :=
  let gap (t : Option Nat) (n : Nat) : Bool := match t with
    | some e => s.past e n
    | none => true
  match code with
  | 1 => (s.ptpBest 0).isNone || gap (s.ptp 0).syncAt (3 * (s.ptp 0).syncIv + 1)
  | 2 => (s.ptpBest 1).isNone || gap (s.ptp 1).syncAt (3 * (s.ptp 1).syncIv + 1)
  | 3 => fref || gap (s.ref 3).lastEdge 1000010000
  | 4 => gap (s.ref 4).lastEdge (2 * s.pw Ob.fsync_period_num / max 1 (s.pw Ob.fsync_period_den) + 101)
  | _ => false

/-- REF_QUALIFY (R84, R86, R87): after lay_ref_qual_s of the valid condition without a break, and not barred, a reference is qualified; the root selects it where it has none selected,
or where lay_ref_revert lets it take back a preferred one. -/
def State.refQualify (s : State) (code : Nat) : State :=
  let r := s.ref code
  match r.validFrom with
  | some t =>
    if code = 0 || 4 < code || s.qualified code || !(s.past t (s.pw Ob.lay_ref_qual_s * 1000000000)) || s.now < r.barredTo || s.refGone code false then s
    else
      let s1 := s.orBits 0 Ob.lay_ref_qualified (2 ^ code)
      if s1.isRoot && (s1.pw Ob.lay_ref_selected = 0 || s1.on 0 Ob.lay_ref_revert) then s1.selectRef s1.bestRef else s1
  | none => s

/-- A reference loses qualification; where the acting root had it selected, the named flag is set and the root reselects or holds over (R84, R87, R89). -/
def State.refDrop (s : State) (code flag : Nat) : State :=
  let s1 := (s.put 0 Ob.lay_ref_qualified (clearBit (s.pw Ob.lay_ref_qualified) code)).setRef code fun r =>
    { r with validFrom := none, driftFrom := none }
  if s1.isRoot && s1.pw Ob.lay_ref_selected = code then (s1.raise 0 Ob.lay_flags flag).reselect else s1

/-- REF_LOST: the loss condition of a qualified reference occurs (Table 3.3). -/
def State.refLost (s : State) (code : Nat) (frefStopped : Bool) : State :=
  if code = 0 || 4 < code || !s.qualified code || !(s.refGone code frefStopped) then s else s.refDrop code 2

/-- The drift D of the selected reference (R87), from the frequencies measured against REFCLK, in ppb. A reference without a baseline of its own counts as moved by 0 (DESIGN CHOICE, log entry 119). -/
def State.driftOf (s : State) : Nat :=
  let c := s.pw Ob.lay_ref_selected
  let sel := s.ref c
  let others := ([1, 2, 3, 4].filter fun k => k ≠ c && s.qualified k).filterMap fun k => (s.ref k).freq.map fun f => (k, f)
  match sel.freq with
  | none => 0
  | some f =>
    match others with
    | [] => match sel.baseline with
      | some b => (f - b).natAbs
      | none => 0
    | [(k, g)] =>
      let moved (x : Int) (b : Option Int) : Nat := match b with
        | some v => (x - v).natAbs
        | none => 0
      if moved g (s.ref k).baseline < moved f sel.baseline then (f - g).natAbs else 0
    | _ =>
      let agree := others.all fun a => others.all fun b => (a.2 - b.2).natAbs ≤ s.pw Ob.lay_drift_ppb
      if agree then minOr 0 (others.map fun a => (f - a.2).natAbs) else 0

/-- REF_MONITOR_MEASURE (R87): the frequencies of the qualified references, the baseline of the selected one 10 s after its selection, and how long D has exceeded lay_drift_ppb. -/
def State.refMeasure (s : State) (ppb : List (Nat × Int)) : State :=
  let s1 := s.each (ppb.filter fun e => s.qualified e.1 && e.1 ≤ 4) fun e s => s.setRef e.1 fun r =>
    { r with freq := some e.2,
             baseline := match r.baseline, r.selectedAt with
               | none, some t => if s.isRoot && e.1 = s.pw Ob.lay_ref_selected && s.past t 10000000000 then some e.2 else none
               | b, _ => b }
  if s1.isRoot then
    s1.setRef (s1.pw Ob.lay_ref_selected) fun r =>
      { r with driftFrom := if s1.pw Ob.lay_drift_ppb < s1.driftOf then some (r.driftFrom.getD s1.now) else none }
  else s1

/-- REF_DRIFT (R87): D above lay_drift_ppb for lay_drift_dwell_s disqualifies the selected reference for 60 s. -/
def State.refDrift (s : State) : State :=
  let c := s.pw Ob.lay_ref_selected
  match (s.ref c).driftFrom with
  | some t =>
    if s.isRoot && 1 ≤ c && c ≤ 4 && s.past t (s.pw Ob.lay_drift_dwell_s * 1000000000) then
      (s.setRef c fun r => { r with barredTo := s.now + 60000000000 }).refDrop c 3
    else s
  | none => s

/-! Upstream choice and the servo (R102-R104, R498) -/

/-- The servo gains of Table 3.12: kp in 2^-48 and ki in 2^-80. -/
def servoGains (bw : Nat) : Int × Int :=
  match bw with
  | 0 => (221069929751, 116519722557218)
  | 1 => (663209789253, 1048677503014960)
  | 2 => (2210699297509, 11651972255721781)
  | _ => (6632097892527, 104867750301496033)

/-- Is a port eligible as upstream (R98, R102)? -/
def State.eligible (s : State) (p : Nat) : Bool :=
  let t := s.port p
  let fresh (o : Option Nat) (span : Nat) : Bool := match o with
    | some a => s.now ≤ a + span
    | none => false
  let sameRoot := s.lay.hasRoot && s.layState ≠ layFree && t.sync.node = s.lay.node && s.lay.hops ≤ t.sync.hops
  s.role p ≠ 2 && 8 ≤ t.syncRun && fresh t.syncAt 375000 && fresh t.delayAt 10000000 && !sameRoot

/-- R80 prefers the first sync cell to the second. -/
def SyncInfo.preferred (a b : SyncInfo) : Bool :=
  if a.hold ≠ b.hold then !a.hold else if a.rank ≠ b.rank then a.rank < b.rank else a.node < b.node

/-- R102 puts port `p` before port `q`: R80, then the lower HOPS, then die and lane. -/
def State.portBefore (s : State) (p q : Nat) : Bool :=
  let a := (s.port p).sync
  let b := (s.port q).sync
  if a.preferred b then true else if b.preferred a then false else if a.hops ≠ b.hops then a.hops < b.hops else p < q

/-- The best eligible port. -/
def State.bestPort (s : State) : Option Nat :=
  (s.portList.filter s.eligible).foldl (fun best p => match best with
    | none => some p
    | some q => if s.portBefore p q then some p else some q) none

/-- The upstream port of R102: the present one while it stays eligible and no other is preferred by R80. -/
def State.chooseUp (s : State) : Option Nat :=
  let u := s.pw Ob.lay_upstream
  match s.bestPort with
  | none => none
  | some b => if u ≠ 0xFF && s.eligible u && !((s.port b).sync.preferred (s.port u).sync) then some u else some b

/-- lay_root_node and lay_hops show the root followed and the own HOPS (Table 3.9): no root in FREE; HOPS behind a sender with 1,022, which is 1,023, shows as 1,022, the end of the object's range,
while the part's cells carry 1,023 (DESIGN CHOICE, log entry 120). -/
def State.showRoot (s : State) : State :=
  (s.set Ob.lay_root_node (if s.layState = layFree then 0xFFFF else s.lay.node)).set Ob.lay_hops (min 1022 s.lay.hops)

/-- The part follows a port: its root, HOPS and generation (R102); UPSTREAM_CHANGED where another was followed before. -/
def State.follow (s : State) (p : Nat) : State :=
  let t := (s.port p).sync
  let u := s.pw Ob.lay_upstream
  let s1 := s.when (u ≠ 0xFF && u ≠ p) fun s => s.raise 0 Ob.lay_flags 8
  let s2 := ((s1.set Ob.lay_upstream p).set Ob.lay_epoch_tai (b2n t.tai)).set Ob.lay_utc_offset t.utc
  { s2 with lay := { s2.lay with node := t.node, hops := t.hops + 1, rank := t.rank, gen := t.gen, ref := t.ref, hasRoot := true, upHold := t.hold } }.showRoot

/-- No port is eligible: HOLDOVER at the averaged frequency word (R104). A part in FREE stays there. -/
def State.enterHoldover (s : State) : State :=
  if s.layState = layAcquire || s.layState = layLocked then
    let s1 := (s.set Ob.lay_state layHoldover).set Ob.lay_upstream 0xFF
    ({ s1.crossWord s.meanFreq with lay := { (s1.crossWord s.meanFreq).lay with trim := 0, trimNs := 0, preHold := s.layState } }.showFreq).raise 0 Ob.lay_flags 7
  else s.set Ob.lay_upstream 0xFF

/-- UPSTREAM_LOSS (R104): a follower whose upstream is no longer eligible switches to another eligible port with no step, or holds over. -/
def State.upstreamLoss (s : State) : State :=
  let u := s.pw Ob.lay_upstream
  if s.isRoot || u = 0xFF || s.eligible u then s
  else
    match s.bestPort with
    | some p => s.follow p
    | none => s.enterHoldover

/-- The servo returns to FREE with RELOCK (R103). -/
def State.relock (s : State) : State :=
  (((s.set Ob.lay_state layFree).set Ob.lay_root_node 0xFFFF).raise 0 Ob.lay_flags 6)

/-- An inlier offset (in Lay units) steers the loop (R103, R498): integrator, frequency word, phase trim over the next 125 µs, and lock after 64 offsets below 2 ns in a row. -/
def State.steer (s : State) (off : Int) : State :=
  let g := servoGains (s.pw Ob.lay_servo_bw)
  let integ := s.lay.integ + g.2 * off / 8192000000
  let freq := -(integ / 4294967296)
  let good := if off.natAbs < 2 * layNs then s.lay.good + 1 else 0
  let s1 := { s with lay := { s.lay with bad := 0, integ := integ, trim := -(g.1 * off * 4294967296 / 281474976710656), trimNs := 125000, good := good } }.setFreq freq
  if s1.layState = layAcquire && 64 ≤ good then (s1.set Ob.lay_state layLocked).bootStep 8 else s1

/-- The servo update of R103 for an offset in Lay units (positive: this part is ahead). After HOLDOVER, tracking resumes with no step where the offset is at most 100 ns (R104). -/
def State.servo (s0 : State) (off : Int) : State :=
  let s := s0.set Ob.lay_offset_ps (clampInt (-2147483648) 2147483647 (off * 1000 / layNs))
  let outlier := 100 * layNs < off.natAbs
  if s.layState = layFree then
    { (s.shiftLay (-off)).set Ob.lay_state layAcquire with
      lay := { (s.shiftLay (-off)).lay with good := 0, bad := 0, acquiredAt := some s.now } }.showRoot
  else if outlier && s.layState = layHoldover then s.relock
  else if outlier then
    let s1 := { s with lay := { s.lay with bad := s.lay.bad + 1 } }
    if 8 ≤ s1.lay.bad then s1.relock else s1
  else (s.when (s.layState = layHoldover) fun s => s.set Ob.lay_state s.lay.preHold).steer off

/-! Class-0 cells (R95-R99) -/

/-- Sync and delay cells are ignored for 250 µs either side of S (R92). -/
def State.layQuiet (s : State) : Bool :=
  (match s.lay.step with
    | some (a, _) => a ≤ s.layNow + 250000 * layNs
    | none => false) ||
  (match s.lay.stepDoneAt with
    | some t => s.now < t + 250000
    | none => false)

/-- Does a part send SYNC with HOLDOVER set (R80, R102, R104)? -/
def State.sendsHold (s : State) : Bool := s.layState = layHoldover || (s.layState = layLocked && s.lay.upHold)

/-- The whole square root of `n`, built from bit `k` down onto `r`. -/
def isqrtBits : Nat → Nat → Nat → Nat
  | 0, _, r => r
  | k + 1, n, r => if (r + 2 ^ k) * (r + 2 ^ k) ≤ n then isqrtBits k n (r + 2 ^ k) else isqrtBits k n r

/-- The estimated error to the root (R106), in ps: e(n) = 20 ps + 30 ps × √n, rounded down. -/
def alignErr (n : Nat) : Nat := 20 + isqrtBits 12 (900 * n) 0

/-- A time in ps in Lay units. -/
def psToLay (ps : Nat) : Nat := ps * layNs / 1000

/-- The lane that a port's class-0 cells leave by: the lowest lane of its transmit map (R97, R133). -/
def State.txLane (s : State) (p : Nat) : Nat := ((s.portLanes p).find? fun l => bit (s.port p).txMap (l - p % 16)).getD (p % 16)

/-- A block slot of a lane in ps: 1 ÷ 206,639,906 s (Table 4.1). -/
def slotLen : Nat := 4839

/-- The TX stamp of a class-0 cell whose LAY_START goes out in this slot (R95, R97, R100, R105): its first symbol leaves in the next one, in the Lay time of the port's die, referred to the ball. -/
def State.txStamp (s : State) (p : Nat) : Nat :=
  s.layOf (p / 16) + psToLay ((s.port p).slotPs - s.now * 1000) + psToLay (s.nat (p / 16) (Ob.lay_lane_tx_ps + s.txLane p))

/-- The RX stamp of the class-0 cell that has just come in on a port: when its first symbol crossed the ball, in the Lay time of the port's die (R97, R100, R105). -/
def State.rxStamp (s : State) (p : Nat) : Nat :=
  ((s.port p).stamp.getD (s.layOf (p / 16))) - psToLay (s.nat (p / 16) (Ob.lay_lane_rx_ps + (s.port p).layLane))

/-- The class-0 payload the part writes on a port (Table 3.5). HANDBACK is set by the handing-back backup alone (DESIGN CHOICE, log entry 121); REF is the root's code. TX_LAYT is
written as the cell leaves. -/
def State.layCell (s : State) (p msg seq t2 reqSeq : Nat) : LayCell :=
  let known := s.lay.hasRoot
  let st := b2n (s.sendsHold && !s.isRoot) + 2 * b2n (s.on 0 Ob.lay_epoch_tai) + 4 * b2n s.lay.step.isSome + 8 * b2n s.lay.handbackAt.isSome +
    16 * b2n (match s.lay.step with
      | some (_, d) => decide (d < 0)
      | none => false)
  { msg := msg, state := st, root := if known then s.lay.node + s.lay.rank * 1024 else 0, gen := if known then s.lay.gen else 0,
    hops := if known then s.lay.hops else 0, seq := seq, tx := 0, t2 := t2, reqSeq := reqSeq,
    skew := s.int (p / 16) (atPort Ob.lay_port_skew_ps p),
    stepAt := match s.lay.step with
      | some (a, _) => a
      | none => 0,
    stepMag := match s.lay.step with
      | some (_, d) => d.natAbs
      | none => 0,
    utc := s.int 0 Ob.lay_utc_offset, ref := if s.isRoot then s.pw Ob.lay_ref_selected else if known then s.lay.ref else 0, cumErr := alignErr (if known then s.lay.hops else 0) }

/-- A class-0 cell ready to leave on a port: its LAY_START takes the next slot that R157 gives it. -/
def State.sendLay (s : State) (p : Nat) (l : LayCell) : State :=
  s.setPort p fun t => { t with lays := t.lays ++ [mkCell 0 0 s.nodeOr0 0 (layCellBytes l)] }

/-- Is a periodic sending due? -/
def State.due (s : State) (last : Option Nat) (span : Nat) : Bool := match last with
  | some t => s.past t span
  | none => true

/-- SYNC_SEND (R96): in ROOT, LOCKED or HOLDOVER, a SYNC on every port in service where one is due; its stamp is taken as it leaves. -/
def State.syncSend (s : State) : State :=
  if s.layState = layRoot || s.layState = layLocked || s.layState = layHoldover then
    s.each (s.portsUp.filter fun p => s.role p ≠ 2 && s.due (s.port p).sentSyncAt 125000) fun p s =>
      let q := (s.port p).seqSync
      (s.sendLay p (s.layCell p 1 q 0 0)).setPort p fun t => { t with seqSync := (q + 1) % 65536, sentSyncAt := some s.now }
  else s

/-- A port that left service as its last transmit lane fell asleep is woken by the class-0 cell that falls due on it, where lane_auto_wake is 1 (R138). -/
def State.wakeSlept (s : State) (p : Nat) : State :=
  if (s.port p).slept && s.asleep p then (s.setPort p fun t => { t with slept := false }).autoWake p else s

/-- DELAY_REQ_SEND (R96, R138): in every lay_state, a DELAY_REQ on every port in service where one is due. -/
def State.delayReqSend (s0 : State) : State :=
  let s := s0.each (s0.portList.filter fun p => s0.role p ≠ 2 && s0.due (s0.port p).sentReqAt 1000000) fun p s => s.wakeSlept p
  s.each (s.portsUp.filter fun p => s.role p ≠ 2 && s.due (s.port p).sentReqAt 1000000) fun p s =>
    let q := (s.port p).seqReq
    (s.sendLay p (s.layCell p 2 q 0 0)).setPort p fun t => { t with seqReq := (q + 1) % 65536, sentReqAt := some s.now, req := some (q, 0, s.now) }

/-- A received DELAY_REQ is answered with a DELAY_RESP (R96). -/
def State.delayReq (s : State) (p : Nat) (l : LayCell) : State :=
  let q := (s.port p).seqResp
  (s.sendLay p (s.layCell p 3 q (s.rxStamp p) l.seq)).setPort p fun t => { t with seqResp := (q + 1) % 65536 }

/-- A value put into a rising list. -/
def insertInt (v : Int) : List Int → List Int
  | [] => [v]
  | a :: t => if v ≤ a then v :: a :: t else a :: insertInt v t

/-- The median of the results held: the middle value, or the mean of the two middle values rounded down (R98). -/
def medianInt (l : List Int) : Int :=
  let r := l.foldl (fun a v => insertInt v a) []
  let n := r.length
  if n = 0 then 0 else if n % 2 = 1 then r.getD (n / 2) 0 else (r.getD (n / 2 - 1) 0 + r.getD (n / 2) 0) / 2

/-- A Lay span in ps, rounded down. -/
def layToPs (d : Int) : Int := d * 1000 / layNs

/-- A DELAY_RESP that answers the outstanding DELAY_REQ completes the exchange (R98). -/
def State.delayResp (s : State) (p : Nat) (l : LayCell) : State :=
  match (s.port p).req with
  | some (q, t1, _) =>
    if q ≠ l.reqSeq then s
    else
      let mean := layToPs (((s.rxStamp p : Int) - t1 - ((l.tx : Int) - l.t2)) / 2)
      let ds := mean :: (s.port p).delays.take 7
      (s.setPort p fun t => { t with req := none, delays := ds, delayAt := some s.now }).put (p / 16) (atPort Ob.lay_port_delay_ps p) (max 0 (medianInt ds))
  | none => s

/-- DELAY_REQ_MISSING (R98): a DELAY_REQ unanswered after 1 ms counts as missing. -/
def State.delayMissing (s : State) (p : Nat) : State :=
  match (s.port p).req with
  | some (_, _, t) => if s.past t 1000000 then s.setPort p fun t => { t with req := none } else s
  | none => s

/-- The offset a SYNC gives at its arrival (R101, R103), in Lay units. -/
def State.syncOffset (s : State) (p : Nat) (l : LayCell) : Int :=
  let d := medianInt (s.port p).delays - s.int (p / 16) (atPort Ob.lay_port_skew_ps p) / 2
  (s.rxStamp p : Int) - ((l.tx : Int) + d * layNs / 1000)

/-- What a SYNC says of its root. -/
def syncInfo (l : LayCell) (off : Int) : SyncInfo :=
  { hold := bit l.state 0, tai := bit l.state 1, handback := bit l.state 3, node := l.root % 1024, rank := bits l.root 11 10, gen := l.gen, hops := l.hops, utc := l.utc,
    ref := l.ref, offset := off }

/-- A step announced by the upstream is taken over by a follower (R92). -/
def State.takeStep (s : State) (l : LayCell) : State :=
  if bit l.state 2 && !s.isRoot && s.lay.step.isNone && s.layNow < l.stepAt then
    let d : Int := if bit l.state 4 then -(l.stepMag : Int) else l.stepMag
    ({ s with lay := { s.lay with step := some (l.stepAt, d) } }.set Ob.lay_step_at l.stepAt).showPending d
  else s

/-- An acting root of rank 1 or 2 that hears a live, preferred root yields (R80): ROOT_CONFLICT, and from then on it is a follower in ACQUIRE, whose servo R103 and R104 govern. A root that hears the live cells of one that must
yield to it survives: from the first of them it computes the difference, a change of time at the root (DEDUCED, log entry 122). -/
def State.rootMeets (s : State) (i : SyncInfo) : State :=
  let me : SyncInfo := { hold := false, rank := s.pw Ob.lay_rank, node := s.pw Ob.node_id }
  if !s.isRoot || i.hold || i.node = s.pw Ob.node_id then s
  else if i.preferred me then
    (s.becomeFollower layAcquire).raise 0 Ob.lay_flags 0
  else
    let known := match s.lay.foreign with
      | some (n, t) => n = i.node && s.now ≤ t + 375000
      | none => false
    let s1 := { s with lay := { s.lay with foreign := some (i.node, s.now) } }
    if known then s1 else s1.timeChange i.offset

/-- A rank-1 follower that sees HANDBACK from the root it follows becomes root with its present Lay time (R82). -/
def State.handbackTake (s : State) (p : Nat) (i : SyncInfo) : State :=
  if i.handback && s.pw Ob.lay_rank = 1 && !s.isRoot && s.pw Ob.lay_upstream = p then s.becomeRoot false else s

/-- SYNC_RECEIVE for a cell that passed R99: the port's record, ROOT_CONFLICT, the announced step, the choice of upstream, and the servo for the upstream's cell. A part in FREE takes up a port with
that port's own cell. Cells that name this part as their root do not count as those of another root (R79). -/
def State.syncCell (s : State) (p : Nat) (l : LayCell) : State :=
  let off := s.syncOffset p l
  let i := syncInfo l off
  let run := match (s.port p).syncAt with
    | some t => if s.now ≤ t + 375000 then (s.port p).syncRun + 1 else 1
    | none => 1
  let s1 := s.setPort p fun t => { t with sync := i, syncRun := run, syncAt := some s.now }
  let s2 := { s1 with lay := { s1.lay with heardRoot := s1.lay.heardRoot || decide (i.node ≠ s.pw Ob.node_id), rank1At := if i.rank = 1 && !i.hold then some s.now else s1.lay.rank1At } }
  let s4 := s2.rootMeets i
  if s4.isRoot then s4
  else
    match s4.chooseUp with
    | none => if s4.pw Ob.lay_upstream = 0xFF then s4 else s4.enterHoldover
    | some u => if u = p then ((((s4.follow u).takeStep l).servo off).handbackTake p i) else if s4.layState = layFree then s4 else s4.follow u

/-- The neighbour's skew must be the negative of the own, within 2 ps (R101). -/
def State.skewCheck (s : State) (p : Nat) (l : LayCell) : State :=
  s.when (2 < (l.skew + s.int (p / 16) (atPort Ob.lay_port_skew_ps p)).natAbs) fun s => s.raise 0 Ob.lay_flags 9

/-- A class-0 cell that is not valid: a SYNC breaks the run of valid ones on its port (R102). -/
def State.syncBroken (s : State) (p : Nat) (payload : List Byte) : State :=
  if leAt payload 0 1 = 1 then s.setPort p fun t => { t with syncRun := 0 } else s

/-- A class-0 cell that passed the cell CRC (R99): counted in lay_cells_bad where malformed, ignored around S, else acted on by its MSG. -/
def State.layCellIn (s : State) (p : Nat) (c : Cell) : State :=
  if layCellBad c.payload then (s.bump 0 Ob.lay_cells_bad).syncBroken p c.payload
  else
    let s1 := s.setPort p fun t => { t with class0At := some s.now }
    if s1.layQuiet then s1
    else
      let l := layCellParse c.payload
      let s2 := s1.skewCheck p l
      if l.msg = 1 then s2.syncCell p l else if l.msg = 2 then s2.delayReq p l else s2.delayResp p l

/-! Roots (R79, R81, R82) -/

/-- ROOT_LISTEN_EXPIRY (R79): a rank-1 part that heard no other root in its second of listening becomes root. -/
def State.listenExpiry (s : State) : State :=
  match s.lay.listenAt with
  | some t =>
    if s.pw Ob.lay_rank = 1 && !s.isRoot && s.past t 1000000000 then
      let s1 := { s with lay := { s.lay with listenAt := none } }
      if s.lay.heardRoot then s1 else s1.becomeRoot true
    else s
  | none => s

/-- ROOT_TAKEOVER (R81): a backup root in LOCKED or HOLDOVER that heard no live rank-1 sync for lay_root_loss_ms becomes acting root with no step. -/
def State.rootTakeover (s : State) : State :=
  let silent := match s.lay.rank1At with
    | some t => s.past t (s.pw Ob.lay_root_loss_ms * 1000000)
    | none => true
  if s.pw Ob.lay_rank = 2 && (s.layState = layLocked || s.layState = layHoldover) && silent then (s.becomeRoot true).raise 0 Ob.lay_flags 1 else s

/-- A write of 1 to lay_root_handback at an acting backup root (R82). -/
def State.handback (s : State) : State :=
  if s.isRoot && s.pw Ob.lay_rank = 2 then { s with lay := { s.lay with handbackAt := some s.now } } else s

/-- HANDBACK_END (R82): after 10 ms the backup returns to follower, in FREE (DESIGN CHOICE, log entry 121). -/
def State.handbackEnd (s : State) : State :=
  match s.lay.handbackAt with
  | some t => if s.past t 10000000 then s.becomeFollower layFree else s
  | none => s

/-- BRAID_HOLDOVER (R105): a die other than 0 whose Braid to die 0 fails holds over alone; once it is linked again it follows die 0. The report of a part-wide lay_flags bit that sets on behalf of
another die names die 0 (DESIGN CHOICE, log entry 123). -/
def State.braidHoldover (s : State) (die : Nat) (linked : Bool) : State :=
  if die = 0 || s.dies ≤ die then s
  else if linked then { s with lay := { s.lay with holds := smPut {} s.lay.holds die {} } }
  else
    { s with lay := { s.lay with holds := smPut {} s.lay.holds die ({ fine := s.lay.fine, freq := s.lay.word, on := true } : HoldClk) } }.raise 0 Ob.lay_flags 7

/-! PTP (R85, R109, R110) -/

/-- The objects of domain clock B follow those of A by 0x0010 (R116). -/
def ptpKey (key d : Nat) : Nat := key + d * 0x1000

/-- Does the PTP port a clock is set to exist (Table 3.4)? -/
def State.ptpPort (s : State) (d : Nat) : Option Nat :=
  match s.pw (ptpKey Ob.ptp_port_a d) with
  | 0 => none
  | 1 => some 1
  | n => if s.ethMode (n - 2) && decide (n - 2 < s.dies) then some n else none

/-- ptp_state of a domain clock (Table 3.10): 0 where its port is off or does not exist, 1 while no master is heard, else 2, or 3 once an offset from the present master is known. -/
def State.ptpState (s : State) (d : Nat) : Nat := match s.ptpPort d, s.ptpBest d with
  | none, _ => 0
  | _, none => 1
  | _, some b => if (s.ptp d).cur = some b.source then max 2 (s.pw (ptpKey Ob.ptp_state_a d)) else 2

/-- The timestamp queue of a PTP port code (1 the management Ethernet of die 0, n the 100GbE port of die n - 2): die × 2 + which. -/
def ptpQueue (n : Nat) : Nat := if n = 1 then 0 else (n - 2) * 2 + 1

/-- A stamp of a PTP port in a domain clock's time now: to 8 ns on the management Ethernet (R85), earlier by the port's delay correction where it arrives. -/
def State.ptpStamp (s : State) (d n : Nat) : Int :=
  let now := if n = 1 then s.now / 8 * 8 else s.now
  ((now * layNs : Nat) : Int) + (s.ptp d).fine / 4294967296

/-- A lookup by key (R110): the oldest entry that matches, removed; its stamp. -/
def State.txtsTake (s : State) (k seqId msgType domain : Nat) : Option Int × State :=
  let q := smGet [] s.lay.txts k
  match q.findIdx? fun e => e.seqId = seqId && e.msgType = msgType && e.domain = domain with
  | some i => ((q[i]?).map (·.stamp), { s with lay := { s.lay with txts := smPut [] s.lay.txts k (q.eraseIdx i) } }.put (k / 2) (Ob.ptp_txts_level + k % 2) (q.length - 1))
  | none => (none, s)

/-- The master of a domain clock chosen anew (R85): a change of master makes the clock uncalibrated, and the root compares again once an offset is known. -/
def State.ptpElect (s : State) (d : Nat) : State :=
  let best := s.ptpBest d
  if (s.ptp d).cur = best.map (·.source) then s
  else
    let s1 := (s.setPtp d fun p => { p with cur := best.map (·.source), wait := none, last := none, req := none, peer := none }).set (ptpKey Ob.ptp_state_a d) (if best.isSome then 2 else 0)
    (s1.set (ptpKey Ob.ptp_gm_id_a d) ((best.map (·.said.gm)).getD 0)).setRef (d + 1) fun r => { r with validFrom := none }

/-- An offset of a domain clock, in Lay units (R85, R109): the first from a master sets the clock, later ones steer it (the servo's arithmetic is open: Config.ptpServo, log entry 5); the reference's
validity; and the root that has the clock selected follows it, or compares again after a change of master (R88-R91). -/
def State.ptpOffset (s : State) (d : Nat) (o : Int) : State :=
  let first := s.pw (ptpKey Ob.ptp_state_a d) < 3
  let ns := o / layNs
  let s1 := ((s.set (ptpKey Ob.ptp_state_a d) 3).set (ptpKey Ob.ptp_offset_ns_a d) (clampInt (-2147483648) 2147483647 ns)).setPtp d fun p =>
    if first then { p with fine := p.fine - o * 4294967296, set_ := true, offset := ns }
    else { p with fine := p.fine + (Config.ptpServo o p.freq).1, freq := (Config.ptpServo o p.freq).2, offset := ns }
  let broken := match (s.ptp d).syncAt with
    | some t => s.past t (3 * (s.ptp d).syncIv + 1)
    | none => true
  let s2 := (s1.setPtp d fun p => { p with syncAt := some s.now }).setRef (d + 1) fun r =>
    { r with validFrom := if ns.natAbs < 1000 && !first then some (if broken then s.now else r.validFrom.getD s.now) else none }
  if s2.isRoot && s2.pw Ob.lay_ref_selected = d + 1 then
    let gap := (s2.layNow : Int) - s2.ptpTime d
    if first then s2.timeChange gap else s2.rootFollow gap
  else s2

/-- A Sync has departed at t1 and arrived at t2 (R85): offset = t2 - t1 - path delay, less ptp_asym_ns. -/
def State.ptpSync (s : State) (d : Nat) (t1 t2 : Int) : State :=
  (s.setPtp d fun p => { p with last := some (t2 - t1), wait := none }).ptpOffset d (t2 - t1 - (s.ptp d).delay - s.int 0 (ptpKey Ob.ptp_asym_ns_a d) * layNs)

/-- The departure of the request in progress that a response answers: known at once, or looked up in the queue; a dropped or aged stamp abandons the exchange (R110). -/
def State.ptpAnswered (s : State) (d n seqId msgType : Nat) : Option Int × State := match (s.ptp d).req with
  | some (q, t, at_) =>
    if q ≠ seqId || t ≠ msgType then (none, s)
    else
      let s1 := s.setPtp d fun p => { p with req := none }
      match at_ with
      | some a => (some a, s1)
      | none => s1.txtsTake (ptpQueue n) seqId msgType (s.pw (ptpKey Ob.ptp_domain_a d))
  | none => (none, s)

/-- A message of a domain clock's own port, domain and transport, from a source (Table 3.4). Sync, Follow_Up and Delay_Resp count from the master alone; the delay mechanism is the profile's. -/
def State.ptpClockMsg (s0 : State) (d n source : Nat) (m : PtpMsg) : State :=
  let s := s0.ptpElect d
  let p2p := s.pw (ptpKey Ob.ptp_profile_a d) = 1
  let master := (s.ptp d).cur = some source
  match m with
  | .announce a iv =>
    let s1 := (s.setPtp d fun p =>
      { p with sources := (p.sources.filter fun x => x.source ≠ source) ++ [{ source := source, said := a, at_ := s.now, interval := iv }] }).ptpElect d
    s1.when (s1.isRoot && s1.pw Ob.lay_ref_selected = d + 1) State.showEpoch
  | .sync seqId twoStep origin iv =>
    if !master then s
    else
      let t2 := s.ptpStamp d n
      let s1 := s.setPtp d fun p => { p with syncIv := iv }
      if twoStep then s1.setPtp d fun p => { p with wait := some (seqId, t2) } else s1.ptpSync d origin t2
  | .followUp seqId origin => match (s.ptp d).wait with
    | some (q, t2) => if master && q = seqId then s.ptpSync d origin t2 else s
    | none => s
  | .delayResp seqId receipt =>
    if p2p || !master then s
    else
      let a := s.ptpAnswered d n seqId 1
      match a.1, (a.2.ptp d).last with
      | some t3, some ms => a.2.setPtp d fun p => { p with delay := (ms + ((receipt : Int) - t3)) / 2 }
      | _, _ => a.2
  | .pdelayReq _ => s
  | .pdelayResp seqId twoStep receipt origin =>
    if !p2p then s
    else if twoStep then s.setPtp d fun p => { p with peer := some (seqId, receipt, s.ptpStamp d n) }
    else
      let a := s.ptpAnswered d n seqId 2
      match a.1 with
      | some t1 => a.2.setPtp d fun p => { p with delay := ((s.ptpStamp d n - t1) - ((origin : Int) - receipt)) / 2 }
      | none => a.2
  | .pdelayRespFollowUp seqId origin => match (s.ptp d).peer with
    | some (q, t2, t4) =>
      if !p2p || q ≠ seqId then s
      else
        let a := s.ptpAnswered d n seqId 2
        let s1 := a.2.setPtp d fun p => { p with peer := none }
        match a.1 with
        | some t1 => s1.setPtp d fun p => { p with delay := ((t4 - t1) - ((origin : Int) - t2)) / 2 }
        | none => s1
    | none => s
  | .unsupported => s

/-- Does a domain clock follow a domain by a port and a transport (R85, R109)? -/
def State.ptpFollows (s : State) (d port domain transport : Nat) : Bool :=
  s.ptpPort d = some port && s.pw (ptpKey Ob.ptp_domain_a d) = domain && s.pw (ptpKey Ob.ptp_transport_a d) = transport

/-- PTP_MESSAGE_RECEIVE (R85, R109): each domain clock that follows the message's domain by the port and the transport it came by takes it; others ignore it. -/
def State.ptpMessage (s : State) (port domain transport source : Nat) (m : PtpMsg) : State :=
  s.each ([0, 1].filter fun d => s.ptpFollows d port domain transport) fun d s => s.ptpClockMsg d port source m

/-- A write of the objects that say what a domain clock follows: its protocol starts anew, and it keeps its time and rate (DEDUCED, log entry 29). -/
def State.ptpRestart (s : State) (d : Nat) : State :=
  ((s.setPtp d fun p => { fine := p.fine, freq := p.freq, set_ := p.set_ }).set (ptpKey Ob.ptp_state_a d) 0).set (ptpKey Ob.ptp_gm_id_a d) 0

/-- A request that a clock sends is in progress until its response; `at_` is its departure where no queue entry holds it. -/
def State.ptpSent (s : State) (ds : List Nat) (seqId msgType : Nat) (at_ : Nat → Option Int) : State :=
  if msgType = 1 || msgType = 2 then s.each ds fun d s => s.setPtp d fun p => { p with req := some (seqId, msgType, at_ d) } else s

/-- The Follow_Up of a two-step Pdelay_Resp, whose stamp is looked up as soon as it is there (DESIGN CHOICE, log entry 124). -/
def State.ptpFollowUp (s : State) (ds : List Nat) (n seqId msgType domain : Nat) : State :=
  if msgType ≠ 3 || ds.isEmpty then s
  else
    let a := s.txtsTake (ptpQueue n) seqId 3 domain
    match a.1 with
    | some t => a.2.emit (.ptp n 10 seqId t)
    | none => a.2

/-- PTP_EVENT_TX (R85, R110): an event message leaves a PTP port. Two-step, it places its timestamp; a full queue of 16 drops it and the exchange it belongs to is abandoned: the clock's own request, or the Follow_Up of a Pdelay_Resp. One-step messages leave none. -/
def State.ptpTx (s : State) (die which seqId msgType domain : Nat) : State :=
  let n := if which = 1 then die + 2 else 1
  let ds := [0, 1].filter fun d => s.ptpPort d = some n && s.pw (ptpKey Ob.ptp_domain_a d) = domain
  let d := ds.headD (if s.pw (ptpKey Ob.ptp_domain_a 1) = domain && s.pw Ob.ptp_domain_a ≠ domain then 1 else 0)
  if s.dies ≤ die then s
  else if which = 1 && s.on 0 (ptpKey Ob.ptp_one_step_a d) then (s.emit (.ptp n msgType seqId (s.ptpStamp d n))).ptpSent ds seqId msgType fun c => some (s.ptpStamp c n)
  else
    let k := die * 2 + which % 2
    let q := smGet [] s.lay.txts k
    let e : TxtsSt := { seqId := seqId, msgType := msgType, domain := domain, since := s.now, stamp := s.ptpStamp d n }
    let s0 := s.emit (.ptp n msgType seqId 0)
    if 16 ≤ q.length then
      (((s0.put die (Ob.ptp_txts_overflow + which % 2) 1).bump die (Ob.ptp_txts_dropped + which % 2)).raise 0 Ob.lay_flags 10).each (if msgType = 1 || msgType = 2 then ds else []) fun c s =>
        s.setPtp c fun p => { p with req := none }
    else
      let s1 := { s0 with lay := { s0.lay with txts := smPut [] s0.lay.txts k (q ++ [e]) } }.put die (Ob.ptp_txts_level + which % 2) (q.length + 1)
      (s1.ptpSent ds seqId msgType fun _ => none).ptpFollowUp ds n seqId msgType domain

/-- PTP_TXTS_AGED (R110): entries not looked up within 1 s are removed and counted. -/
def State.txtsAged (s : State) : State :=
  s.each (s.lay.txts.map (·.1)) fun k s =>
    let q := smGet [] s.lay.txts k
    let keep := q.filter fun e => !(s.past e.since 1000000000)
    if keep.length = q.length then s
    else ({ s with lay := { s.lay with txts := smPut [] s.lay.txts k keep } }.put (k / 2) (Ob.ptp_txts_level + k % 2) keep.length).bump (k / 2)
      (Ob.ptp_txts_aged + k % 2) (q.length - keep.length)

/-! Captures (R84, R113) -/

/-- PPS_IN_CAPTURE: the edge in Lay time on the grid. `fref` counts the edges of FREF_IN, 10 MHz, since the edge before: edges 1 s ± 1 µs apart by that count, with FREF_IN within ±10 ppm of REFCLK over
that time, keep reference 0x3 valid (Table 3.3). A selected PPS reference steers the root. -/
def State.ppsIn (s : State) (fref : Nat) : State :=
  let t := toGrid s.layNow
  let r := s.ref 3
  let good := match r.lastEdge with
    | some e => decide (9999990 ≤ fref ∧ fref ≤ 10000010 ∧ ((fref * 100 : Nat) - ((s.now - e : Nat) : Int)).natAbs * 100000 ≤ s.now - e)
    | none => false
  let s1 := (s.set Ob.lay_pps_last t).setRef 3 fun r => { r with lastEdge := some s.now, validFrom := if good then some (r.validFrom.getD s.now) else none }
  if s1.isRoot && s1.pw Ob.lay_ref_selected = 3 then s1.rootFollow (secondPhase t) else s1

/-- FSYNC_IN_CAPTURE: the edge in Lay time on the grid; 8 edges in a row within ±100 ns of the period keep reference 0x4 valid. A selected FSYNC reference steers the root's
frequency so that each edge falls one nominal period after the one before, a missed edge counting as a period. -/
def State.fsyncIn (s : State) : State :=
  let t := toGrid s.layNow
  let r := s.ref 4
  let num := s.pw Ob.fsync_period_num
  let den := max 1 (s.pw Ob.fsync_period_den)
  let good := match r.lastEdge with
    | some e => decide (((s.now - e : Nat) * den : Int) - num ≤ 100 * den ∧ (num : Int) - ((s.now - e : Nat) * den : Nat) ≤ 100 * den)
    | none => false
  let n := if good then r.edges + 1 else 1
  let passed : Int := (t : Int) - s.pw Ob.lay_fsync_last
  let periods : Nat := max 1 ((2 * passed.toNat * den + num * layNs) / (2 * (max 1 num) * layNs))
  let gap : Int := passed - (periods * num * layNs / den : Nat)
  let s1 := (s.set Ob.lay_fsync_last t).setRef 4 fun r =>
    { r with lastEdge := some s.now, edges := n, validFrom := if 8 ≤ n then some (r.validFrom.getD s.now) else none }
  if s1.isRoot && s1.pw Ob.lay_ref_selected = 4 then s1.rootFollow gap else s1

end Sys2Proof.Machine
end

