-- ==== Sys2Proof/Machine/Lanes.lean ====
section
/-! DEFINITION. Hawser lanes (chapter 4): bring-up, markers, groups and ports, errors, sleep, loops, PRBS and the Ethernet lane pair. -/

namespace Sys2Proof.Machine

/-! Ports and their maps (R134) -/

/-- A lane with a loop active, its PRBS generator on, or looped for its neighbour. -/
def State.testing (s : State) (die lane : Nat) : Bool := s.underTest die lane || (s.lane die lane).feLoop

/-- RX_OK: the positions received in service and not asleep, dropped, miswired or skewed (R134). -/
def State.rxMap (s : State) (p : Nat) : Nat :=
  (s.portLanes p).foldl (fun m l =>
    let t := s.lane (p / 16) l
    if s.rx (p / 16) l = 6 && !t.dropped && !t.miswired && !t.skewed && !s.testing (p / 16) l then m ||| 2 ^ (t.pos % 4) else m) 0

/-- The positions whose transmit lane is awake and not under test. -/
def State.txAwake (s : State) (p : Nat) : Nat :=
  (s.portLanes p).foldl (fun m l => if s.tx (p / 16) l = 1 && !s.testing (p / 16) l then m ||| 2 ^ (l - p % 16) else m) 0

/-- The sets a transmitter may use, in the order of R134. -/
def txSets (size : Nat) : List Nat := if size = 4 then [15, 3, 12, 1, 2, 4, 8] else if size = 2 then [3, 1, 2] else [1]

/-- The transmit map built from the RX_OK received: every position of the group until RX_OK has been received (R134). -/
def State.txWanted (s : State) (p : Nat) : Nat :=
  let size := s.groupSize (p / 16) (p % 16)
  match (s.port p).rxOkIn with
  | none => 2 ^ size - 1
  | some ok => ((txSets size).find? fun m => m &&& (ok &&& s.txAwake p) = m).getD 0

/-- The transmit map in force: every position of the group until RX_OK has been received (R134). -/
def State.txMapNow (s : State) (p : Nat) : Nat := if (s.port p).rxOkIn.isNone then 2 ^ s.groupSize (p / 16) (p % 16) - 1 else (s.port p).txMap

/-- lane_maps at the group's lowest lane. -/
def State.showMaps (s : State) (p : Nat) : State :=
  s.put (p / 16) (atPort Ob.lane_maps p) (s.txMapNow p % 16 + s.rxMap p * 16)

/-- A port leaves service (R134, R162): a cell cut off on the output is not completed; the forwarded cells queued on it, those of class 0 among them (R148), are discarded and counted, but on a port asleep
that a cell wakes (R138); its own class-0 cells are built anew (R96). -/
def State.portDown (s : State) (p : Nat) : State :=
  let t := s.port p
  let fwd := if s.wakes p then t.fwd else []
  let sent := t.lays.filter fun c => c.kind ≠ 0
  let lays := if s.wakes p then sent else []
  ((s.setPort p fun t => { t with inService := false, framed := false, cur := [], lay := none, fwd := fwd, lays := lays, stack := [], layTx := none, walkDue := none, slept := s.asleep p }).bump
    (p / 16) (atPort Ob.fwd_drops p) (t.fwd.length + sent.length - fwd.length - lays.length)).chooseDown

/-- A port comes into service (R134, R153, R166): its receiver hunts, its transmit map follows RX_OK, a walk falls due 10 ms later; the second of listening of
R79 may begin. -/
def State.portUp (s : State) (p : Nat) : State :=
  let s1 := (s.bootStep 6).setPort p fun t =>
    { t with inService := true, sinceAt := s.now, framed := false, cur := [], lay := none, syncRun := 0, txMap := s.txWanted p, txMapNext := [], waking := false, slept := false,
             walkDue := some (s.now + 10000000) }
  let s1 := s1.each (s.portLanes p) fun l s => (s.setLane (p / 16) l fun t => { t with buf := [] }).crossReset (p / 16) false (.laneIn l)
  (match s1.lay.listenAt with
  | some t => if s1.now < t then { s1 with lay := { s1.lay with listenAt := some s1.now, heardRoot := false } } else s1
  | none => s1).chooseDown

/-- With no transmit lane awake to send markers, the transmit map of a port that knows RX_OK is empty at once (R134). -/
def State.sleepMap (s : State) (p : Nat) : State :=
  if s.txAwake p = 0 && (s.port p).rxOkIn.isSome then s.setPort p fun t => { t with txMap := 0, txMapNext := [] } else s

/-- The service of a port follows its maps (R134). -/
def State.refreshPort (s0 : State) (p : Nat) : State :=
  if !s0.portExists p then s0
  else
    let s := s0.sleepMap p
    let reported := match (s.port p).rxOkIn with
      | some r => r ≠ 0
      | none => false
    let ok := s.rxMap p ≠ 0 && reported && s.txWanted p ≠ 0
    (if (s.port p).inService then (if ok then s else s.portDown p) else (if ok then s.portUp p else s)).showMaps p

/-- The port of a lane. -/
def State.portOf (s : State) (die lane : Nat) : Nat := laneKey die (s.groupBase die lane)

/-- The service of a lane's port follows its maps. -/
def State.refreshLane (s : State) (die lane : Nat) : State := s.refreshPort (s.portOf die lane)

/-! Bring-up (R123-R128) -/


/-- The taps c(−1), c(0), c(+1) a lane drives, over the sum of their magnitudes (Table 4.3, lane_tx_ffe); in 1/100 for the fixed presets. -/
def lanePresetTaps (preset ffe : Nat) : (Int × Int × Int) × Nat :=
  match preset with
  | 0 => ((0, 100, 0), 100)
  | 1 => ((-4, 92, -4), 100)
  | 2 => ((-6, 84, -10), 100)
  | 3 => ((-8, 76, -16), 100)
  | 4 => ((-10, 68, -22), 100)
  | 5 => ((-12, 62, -26), 100)
  | 6 => ((-14, 56, -30), 100)
  | _ =>
    let a := toSigned 10 (bits ffe 9 0)
    let b := toSigned 10 (bits ffe 19 10)
    let c := toSigned 10 (bits ffe 29 20)
    let n := a.natAbs + b.natAbs + c.natAbs
    if n = 0 then ((0, 100, 0), 100) else ((a, b, c), n)

/-- The differential swing of a preset, in mV (Table 4.3); taps whose magnitudes sum to 0 are used as preset 0. -/
def presetSwing (preset ffe : Nat) : Nat :=
  if preset = 7 then (if (lanePresetTaps 7 ffe).1 = (0, 100, 0) then 600 else 1100) else [600, 750, 850, 950, 1000, 1050, 1100].getD preset 0

/-- The preset in force on a lane becomes the one written: its taps and its swing (R129). -/
def State.applyPreset (s : State) (die lane : Nat) : State :=
  let p := s.nat die (Ob.lane_tx_preset + lane)
  let f := s.nat die (Ob.lane_tx_ffe + lane)
  s.setLane die lane fun l => { l with preset := p, ffe := f, swing := presetSwing p f }

/-- Where an enabled receiver begins: under test, asleep, or at signal detect (R128, R137, R139). -/
def State.rxBegin (s : State) (die lane : Nat) : Nat := if s.underTest die lane then 8 else if s.on die (Ob.lane_sleep + lane) 1 then 7 else 1

/-- Can a lane run: in Hawser mode, enabled, its lane PLL locked (R118, R386)? -/
def State.laneRuns (s : State) (die lane : Nat) : Bool := s.hawserLane die lane && s.on die (Ob.lane_enable + lane) && s.lanePll die

/-- LANE_TX_START (R127): an enabled lane whose lane PLL is locked begins transmitting. -/
def State.laneTxStart (s : State) (die lane : Nat) : State :=
  if s.laneRuns die lane && s.tx die lane = 0 then
    let s2 := (s.applyPreset die lane).setTx die lane (if s.nat die (Ob.prbs_gen + lane) ≠ 0 then 3 else if s.on die (Ob.lane_sleep + lane) then 2 else 1)
    (if s2.rx die lane = 0 then s2.setRx die lane (s.rxBegin die lane) else s2).refreshLane die lane
  else s

/-- SQUELCH_OPEN (R125, R128, R137): step 1 ends; a sleeping receiver wakes and relocks with its equaliser values. -/
def State.squelchOpen (s : State) (die lane : Nat) : State :=
  if !s.laneRuns die lane || s.testing die lane then s
  else if s.rx die lane = 1 then (s.setRx die lane 2).setLane die lane fun l => { l with annSeen := false }
  else if s.rx die lane = 7 then
    ((s.put die (Ob.lane_sleep + lane) (clearBit (s.nat die (Ob.lane_sleep + lane)) 1)).setRx die lane 2).setLane die lane fun l => { l with annSeen := false, retained := true }
  else s

/-- CDR_LOCK (R128): equaliser adaptation begins, or marker search where the equaliser values were retained. -/
def State.cdrLock (s : State) (die lane : Nat) : State :=
  if s.rx die lane = 2 && s.laneRuns die lane then
    (s.setRx die lane (if (s.lane die lane).retained then 4 else 3)).setLane die lane fun l => { l with cands := [] }
  else s

/-- EQUALISER_CONVERGED (R128): marker search begins. -/
def State.eqConverged (s : State) (die lane : Nat) : State :=
  if s.rx die lane = 3 then (s.setRx die lane 4).setLane die lane fun l => { l with cands := [], retained := true } else s

/-- MARKER_CANDIDATE (R123): a fifth candidate replaces the oldest of the 4 tracked. -/
def State.markerCandidate (s : State) (die lane pos : Nat) (inverted : Bool) : State :=
  if s.rx die lane = 4 then
    s.setLane die lane fun l => { l with cands := (if 4 ≤ l.cands.length then l.cands.drop 1 else l.cands) ++ [(pos, inverted)] }
  else s

/-- MARKER_LOCK (R123, R126): a candidate that matched at all three further spacings becomes lock; one that missed any is rejected and counted. -/
def State.markerLock (s : State) (die lane pos spacings : Nat) : State :=
  if s.rx die lane ≠ 4 then s
  else
    match (s.lane die lane).cands.find? fun c => c.1 = pos with
    | none => s
    | some c =>
      if 3 ≤ spacings then
        (((s.setRx die lane 5).put die (Ob.lane_rx_polarity + lane) (b2n c.2)).orBits die (Ob.lane_peer + lane) 2147483648).setLane die lane fun l =>
          { l with cands := [], missed := 0, skewed := false }
      else (s.setLane die lane fun l => { l with cands := l.cands.filter fun d => d.1 ≠ pos }).bump die (Ob.lane_am_rejects + lane)

/-- The GROUP_SIZE code of Table 4.2 for a number of lanes. -/
def sizeCode (n : Nat) : Nat := if n = 4 then 2 else if n = 2 then 1 else 0

/-- A lane conflicts with its group (R131): its SRC names another node or die than another lane's, its GROUP_SIZE is not the local one, or its GROUP_POS duplicates another's. The other lanes are those locked on markers, not under test, of which one has come since lock. -/
def State.miswired (s : State) (die lane : Nat) : Bool :=
  let me := s.nat die (Ob.lane_peer + lane)
  let heard (l : Nat) : Bool := (s.rx die l = 5 || s.rx die l = 6) && (s.lane die l).lastSeq.isSome
  let others := ((s.groupLanes (s.portOf die lane)).filter fun l => l ≠ lane && heard l).map fun l => s.nat die (Ob.lane_peer + l)
  others.any (fun o => bit me 20 && bit o 20 && bits me 12 0 ≠ bits o 12 0) || bits me 19 18 ≠ sizeCode (s.groupSize die lane) ||
  others.any (fun o => bits o 17 16 = bits me 17 16)

/-- The MISWIRED judgement of a lane: held out of service and flagged (R131). -/
def State.judgeWiring (s : State) (die lane : Nat) : State :=
  let bad := s.miswired die lane
  (s.setLane die lane fun l => { l with miswired := bad }).when bad fun s => s.raise die (Ob.lane_flags + lane) 3 lane

/-- LANE_IN_SERVICE (R100, R128, R131, R132): once a marker has come after lock, the latencies are measured; the lane is in service unless miswired or more than 180 ns behind. -/
def State.laneInService (s : State) (die lane skewNs txPs rxPs : Nat) : State :=
  if s.rx die lane ≠ 5 || !s.laneRuns die lane || (s.lane die lane).lastSeq.isNone then s
  else
    let s1 := (s.put die (Ob.lay_lane_tx_ps + lane) txPs).put die (Ob.lay_lane_rx_ps + lane) rxPs
    let late := 180 < skewNs
    let s2 := (s1.setLane die lane fun l => { l with skewed := late }).when late fun s => s.raise die (Ob.lane_flags + lane) 4 lane
    let s3 := s2.judgeWiring die lane
    (if late || (s3.lane die lane).miswired then s3 else s3.setRx die lane 6).refreshLane die lane

/-! Markers in use (R120-R124, R129, R134, R137, R140) -/

/-- lane_peer from a received marker. -/
def peerWord (k : Marker) : Nat :=
  k.node % 1024 + k.die % 8 * 1024 + k.lane % 8 * 8192 + k.groupPos % 4 * 65536 + k.groupSize % 4 * 262144 + b2n k.nodeValid * 1048576 + 2147483648

/-- The far-end loop a marker asks for or shows (R140): entered while FE_LOOP_REQ is received and fe_loop_allow is 1, left at the first marker without it, or after fe_loop_allow was written 0 (DESIGN CHOICE, log entry 157); a lane that asked
for one knows it by its own SRC. -/
def State.feLoopSeen (s : State) (die lane : Nat) (k : Marker) : State :=
  let mine := k.nodeValid = s.node.isSome && k.node = s.nodeOr0 && k.die = die && k.lane = lane
  s.setLane die lane fun l =>
    { l with feLoop := k.feLoopReq && s.on die Ob.fe_loop_allow && !mine, feReqSeen := k.feLoopReq,
             feUp := s.nat die (Ob.lane_loop + lane) = 3 && mine,
             noSrc := if s.nat die (Ob.lane_loop + lane) = 3 && !mine then l.noSrc + 1 else 0 }

/-- LOCK_LOST (R124): after 4 expected markers missed in a row the lane returns to marker search. A missed marker ends a run of clean ones (R135). -/
def State.lockLost (s : State) (die lane missed : Nat) : State :=
  if s.hawserLane die lane && (s.rx die lane = 5 || s.rx die lane = 6) then
    if missed < 4 then s.setLane die lane fun l => { l with missed := missed, clean := 0 }
    else
      let s1 := (s.setRx die lane 4).setLane die lane fun l => { l with missed := 0, cands := [], clean := 0 }
      (((s1.bump die (Ob.lane_lock_losses + lane)).raise die (Ob.lane_flags + lane) 0 lane)).refreshLane die lane
  else s

/-- How far behind the earliest lane of its group a lane's marker comes, in ns (R132). -/
def State.skewOf (s : State) (die lane seq : Nat) : Nat :=
  let others := (s.portLanes (s.portOf die lane)).filter fun l => l ≠ lane && (s.rx die l = 5 || s.rx die l = 6) && (s.lane die l).lastSeq = some seq
  s.now - minOr s.now (others.map fun l => (s.lane die l).seqAt)

/-- A marker of a locked lane in its group (R131, R132, R134): the wiring and the skew judged, RX_OK and TX_MAP taken but from a miswired lane; a lane at fault is held out of service. -/
def State.markerJudged (s : State) (die lane : Nat) (k : Marker) : State :=
  let late := 180 < s.skewOf die lane k.seq
  let s1 := (s.judgeWiring die lane).when late fun s => (s.setLane die lane fun l => { l with skewed := true }).raise die (Ob.lane_flags + lane) 4 lane
  let s2 := if ((s1.lane die lane).miswired || late) && s1.rx die lane = 6 then s1.setRx die lane 5 else s1
  let p := s2.portOf die lane
  if (s2.lane die lane).miswired then s2.refreshPort p
  else (s2.setPort p fun t => { t with rxOkIn := some k.rxOk, mapsIn := ((k.seq, k.txMap) :: t.mapsIn.filter fun e => e.1 ≠ k.seq).take 4 }).refreshPort p

/-- What a receiver does with a marker that matches: peer, BIP8 errors, position, sleep announce, clean markers of a dropped lane, far-end loop (R122, R134, R135, R137, R140). -/
def State.markerTaken (s : State) (die lane : Nat) (k : Marker) (bip : Nat) : State :=
  let wrong := popCount 8 (k.bip ^^^ bip)
  let s1 := (s.put die (Ob.lane_peer + lane) (peerWord k)).bump die (Ob.lane_bip_errors + lane) wrong
  let s2 := s1.setLane die lane fun l =>
    { l with missed := 0, pos := k.groupPos, annSeen := k.sleepAnnounce, lastSeq := some k.seq, seqAt := s.now, slot := 0, clean := if wrong = 0 && s.rx die lane ≠ 8 then l.clean + 1 else 0 }
  let s3 := s2.feLoopSeen die lane k
  if s.rx die lane = 8 then s3 else s3.markerJudged die lane k

/-- ALIGNMENT_MARKER_RECEIVE (R122-R124): at an expected position a marker matches with at most 3 bits in error, or is missed. A lane looped for its neighbour sends the symbols it received on
(R140). -/
def State.markerIn (s : State) (die lane : Nat) (k : RxMarker) : State :=
  let r := s.rx die lane
  if !s.hawserLane die lane || !(r = 5 || r = 6 || (r = 8 && s.nat die (Ob.lane_loop + lane) = 3)) then s
  else
    let s1 := if 3 < patternErrors k.bytes then s.lockLost die lane ((s.lane die lane).missed + 1) else s.markerTaken die lane (markerParse k.bytes) k.bip
    s1.when ((s.lane die lane).feLoop && (s1.lane die lane).feLoop) fun s => s.emit (.marker die lane k.bytes)

/-- The marker a lane sends now (Table 4.2). NODE is 0 while the part has no node_id (DESIGN CHOICE, log entry 126). -/
def State.markerOut (s : State) (die lane : Nat) : Marker :=
  let p := s.portOf die lane
  { node := s.nodeOr0, die := die, lane := lane, groupPos := lane - p % 16, groupSize := sizeCode (s.groupSize die lane), rxOk := s.rxMap p,
    txMap := (s.port p).txMapNext.headD (s.txWanted p), sleepAnnounce := (s.lane die lane).annLeft ≠ 0, feLoopReq := s.nat die (Ob.lane_loop + lane) = 3,
    nodeValid := s.node.isSome, seq := (s.port p).cycle, bip := (s.lane die lane).bip }

/-- A marker cycle of a group begins (R120, R134): MARKER_SEQ moves on; the map that the cycle before announced comes into force, and this one announces the map now wanted. -/
def State.nextCycle (s : State) (p : Nat) : State :=
  (s.setPort p fun t => { t with cycle := (t.cycle + 1) % 65536, txMap := t.txMapNext.headD (s.txWanted p), txMapNext := [s.txWanted p] }).showMaps p

/-- The markers of a group's lanes are of one cycle; a lane that has sent its own begins the next. -/
def State.enterCycle (s : State) (die lane : Nat) : State :=
  let p := s.portOf die lane
  if (s.lane die lane).sentSeq = some (s.port p).cycle then s.nextCycle p else s

/-- A lane in a near-end loop receives the marker it sends (Table 4.5). -/
def State.selfMarker (s : State) (die lane : Nat) (k : Marker) : State :=
  if s.rx die lane = 8 && (s.nat die (Ob.lane_loop + lane) = 1 || s.nat die (Ob.lane_loop + lane) = 2) then s.markerTaken die lane k k.bip else s

/-- Do cells wait for a port? -/
def State.queued (s : State) (p : Nat) : Bool := let t := s.port p; !(t.own.isEmpty && t.ready.isEmpty && t.fwd.isEmpty)

/-- ALIGNMENT_MARKER_SEND (R120, R129, R134, R137): the marker leaves, then the pending preset applies; after 4 announcing markers the lane stops driving, unless cells that wait wake it (R138). -/
def State.markerSend (s : State) (die lane : Nat) : State :=
  if !s.hawserLane die lane || s.tx die lane ≠ 1 || (s.lane die lane).feLoop then s
  else
    let s0 := s.enterCycle die lane
    let k := s0.markerOut die lane
    let s1 := ((s0.emit (.marker die lane (markerBytes k))).applyPreset die lane).setLane die lane fun l => { l with sentSeq := some k.seq, bip := 0, annLeft := l.annLeft - 1 }
    let p := s1.portOf die lane
    let s2 := s1.selfMarker die lane k
    if (s.lane die lane).annLeft = 1 then
      let s3 := (s2.setTx die lane 2).refreshPort p
      s3.when (s3.queued p) fun s => s.autoWake p
    else s2

/-- SIGNAL_LOST (R125, R137): signal detect closed for 1 µs; after SLEEP_ANNOUNCE the receiver sleeps, else the lane is flagged and returns to step 1. -/
def State.signalLost (s : State) (die lane closedNs : Nat) : State :=
  let r := s.rx die lane
  if !s.hawserLane die lane || !s.on die (Ob.lane_enable + lane) || closedNs < 1000 || s.testing die lane || r = 0 || r = 1 || r = 7 then s
  else
    let s1 := s.setLane die lane fun l => { l with cands := [], retained := true, missed := 0, clean := 0 }
    (if (s.lane die lane).annSeen then s1.setRx die lane 7
     else (s1.setRx die lane 1).raise die (Ob.lane_flags + lane) 6 lane).refreshLane die lane

/-! Errors (R121, R135) -/

/-- DROPPED (R135): lane_drop_ucw uncorrectable codewords within 10 ms, on a lane whose group keeps another lane with RX_OK. -/
def State.laneDropped (s : State) (die lane : Nat) : State :=
  let p := s.portOf die lane
  let recent := ((s.lane die lane).ucw.filter fun t => s.now ≤ t + 10000000).length
  let mine := 2 ^ ((s.lane die lane).pos % 4)
  if s.hawserLane die lane && s.nat die Ob.lane_drop_ucw ≤ recent && s.rx die lane = 6 && clearMask (s.rxMap p) mine ≠ 0 && !(s.lane die lane).dropped then
    ((s.setLane die lane fun l => { l with dropped := true, clean := 0 }).raise die (Ob.lane_flags + lane) 2 lane).refreshPort p
  else s

/-- DROPPED_LANE_RETURN (R135): after 1,024 clean markers the lane sets RX_OK again. -/
def State.laneReturn (s : State) (die lane : Nat) : State :=
  if s.hawserLane die lane && (s.lane die lane).dropped && 1024 ≤ (s.lane die lane).clean then
    (s.setLane die lane fun l => { l with dropped := false, ucw := [] }).refreshLane die lane
  else s

/-- LANE_SER_UPDATE (R135): the ratio of the symbols corrected in the last 1 s to the 5.625 × 10⁹ RS symbols received, in 10⁻⁹. -/
def State.serUpdate (s : State) (die lane corrected : Nat) : State :=
  if !(decide (die < s.dies) && decide (lane < s.laneCount)) then s
  else
    let ser := min (corrected * 8 / 45) 4294967295
    let s1 := (s.put die (Ob.lane_ser + lane) ser).bump die (Ob.lane_fec_corrected + lane) corrected
    if s.nat die Ob.lane_degrade_ser < ser && !s.on die (Ob.lane_flags + lane) 1 then
      (s1.raise die (Ob.lane_flags + lane) 1).setLane die lane fun l => { l with degradedAt := some s.now, degradedLay := s.layOf die, reported := false }
    else s1

/-- DEGRADED_REPORT (R145, R173): DEGRADED has stayed set for 10 s; the report carries the Lay time at which it set. -/
def State.degradedReport (s : State) (die lane : Nat) : State :=
  match (s.lane die lane).degradedAt with
  | some t =>
    if s.on die (Ob.lane_flags + lane) 1 && s.past t 10000000000 && !(s.lane die lane).reported then
      (s.setLane die lane fun l => { l with reported := true }).reportAt die (Ob.lane_flags + lane) 1 lane 2 false (s.lane die lane).degradedLay
    else s
  | none => s

/-! Sleep, loops and PRBS (R137-R141). The effects of writes; `old` is the value before. -/

/-- Does the Ethernet pair of a die run: both lanes enabled, the lane PLL locked, neither lane under test (R142, Table 4.7)? -/
def State.ethReady (s : State) (die : Nat) : Bool :=
  s.lanePll die && [6, 7].all fun l => s.on die (Ob.lane_enable + l) && !s.underTest die l

/-- What a lane of the Ethernet pair does at a start (R142): off, under test, or negotiating and training. -/
def State.ethLane (s : State) (die l : Nat) : Nat :=
  if !(s.on die (Ob.lane_enable + l) && s.lanePll die) then 64
  else if s.underTest die l then 64 + 8 + (if s.nat die (Ob.prbs_gen + l) ≠ 0 then 48 else 16)
  else 64 + 16 + 1

/-- The Ethernet pair of a die starts anew (R142): negotiating where eth_an_enable is 1, else training, or down where it does not run. lane_state shows what each lane does. -/
def State.ethRestart (s : State) (die : Nat) : State :=
  let s1 := s.each [6, 7] fun l s => s.put die (Ob.lane_state + l) (s.ethLane die l : Nat)
  s1.put die Ob.eth_link_state (if !(s.ethReady die) then 0 else if s.on die Ob.eth_an_enable then 1 else 2)

/-- The lanes of an Ethernet pair brought to their settings: the pair starts anew where one of them goes on or off, or into or out of test. -/
def State.ethTouched (s : State) (die : Nat) : State :=
  let same (l : Nat) : Bool := s.tx die l = s.ethLane die l / 16 % 4 && decide (s.rx die l = 8 ↔ s.ethLane die l % 16 = 8)
  if [6, 7].all same then s else s.ethRestart die

/-- An Ethernet pair starts anew with its lane PLL. -/
def State.ethResume (s : State) (die : Nat) : State := if s.ethMode die then s.ethRestart die else s

/-- The lane's sleep settings brought into effect (R137): TX_SLEEP announces in 4 markers, RX_SLEEP sleeps at once; clearing wakes. -/
def State.sleepEffect (s : State) (die lane old : Nat) : State :=
  let new := s.nat die (Ob.lane_sleep + lane)
  if !s.laneRuns die lane || s.underTest die lane then s
  else
    let s1 := if bit new 0 && !bit old 0 && s.tx die lane = 1 then s.setLane die lane fun l => { l with annLeft := 4 }
      else if !bit new 0 && bit old 0 then s.wakeTx die lane else s
    let s2 := if bit new 1 && !bit old 1 then s1.setRx die lane 7
      else if !bit new 1 && bit old 1 && s1.rx die lane = 7 then (s1.setRx die lane 1).setLane die lane fun l => { l with retained := true } else s1
    s2.refreshLane die lane

/-- A lane enters or leaves test as its loop and generator stand (R139, R141): out of service while under test, with a pending preset in force as soon as its generator runs (R129); afterwards it transmits and relocks, and its sleep settings take
effect. -/
def State.testEffect (s : State) (die lane : Nat) : State :=
  if !(decide (die < s.dies) && decide (lane < s.laneCount)) || !s.on die (Ob.lane_enable + lane) then s
  else
    let gen := s.nat die (Ob.prbs_gen + lane) ≠ 0
    let drive (v : Nat) (s : State) : State := if s.tx die lane = 0 then s else s.setTx die lane v
    if !s.hawserLane die lane then s.ethTouched die
    else if !s.lanePll die then s
    else if s.underTest die lane then
      ((if gen then (drive 3 s).applyPreset die lane else drive 1 s).setRx die lane 8).refreshLane die lane
    else if s.rx die lane = 8 then
      let s1 := ((drive 1 s).setRx die lane 1).setLane die lane fun l => { l with retained := true, feUp := false, noSrc := 0 }
      (s1.sleepEffect die lane 0).refreshLane die lane
    else s

/-- The effect of a write of lane_loop (R139, R140): a new far-end request starts its count of markers without the lane's own SRC. -/
def State.loopEffect (s : State) (die lane : Nat) : State :=
  (s.setLane die lane fun l => { l with noSrc := 0, feUp := false }).testEffect die lane

/-- FE_LOOP_REFUSED (R140): 16 markers without the lane's own SRC while it asks for a far-end loop. -/
def State.feRefused (s : State) (die lane : Nat) : State :=
  if s.nat die (Ob.lane_loop + lane) = 3 && 16 ≤ (s.lane die lane).noSrc && !(s.lane die lane).feUp then s.raise die (Ob.lane_flags + lane) 5 else s

/-- The effect of a write of prbs_chk (R141): the counters cleared, the checker searching or off. -/
def State.chkEffect (s : State) (die lane : Nat) : State :=
  ((s.put die (Ob.prbs_errors + lane) 0).put die (Ob.prbs_bits + lane) 0).put die (Ob.prbs_sync + lane) (if s.nat die (Ob.prbs_chk + lane) = 0 then 0 else 1)

/-- PRBS_SYNC (R141): 64 error-free symbols synchronise the checker; bits and errors are counted in sync. -/
def State.prbsSync (s : State) (die lane errorFree nbits errors : Nat) : State :=
  let k := s.nat die (Ob.prbs_sync + lane)
  if s.nat die (Ob.prbs_chk + lane) = 0 || k = 0 || (k = 1 && errorFree < 64) then s
  else ((s.put die (Ob.prbs_sync + lane) 2).bump die (Ob.prbs_bits + lane) nbits).bump die (Ob.prbs_errors + lane) errors

/-- PRBS_RESYNC (R141): more than 128 of 1,024 symbols in error. -/
def State.prbsResync (s : State) (die lane errored nbits errors : Nat) : State :=
  if s.nat die (Ob.prbs_sync + lane) = 2 then
    let s1 := (s.bump die (Ob.prbs_bits + lane) nbits).bump die (Ob.prbs_errors + lane) errors
    if 128 < errored then (s1.put die (Ob.prbs_sync + lane) 1).bump die (Ob.prbs_resyncs + lane) else s1
  else s

/-- The effect of a write of lane_enable: 0 turns both directions off; 1 lets LANE_TX_START begin and, with the lane PLL locked, the receiver detect. -/
def State.enableEffect (s : State) (die lane : Nat) : State :=
  if !s.hawserLane die lane then (if s.ethMode die && (lane = 6 || lane = 7) then s.ethTouched die else s)
  else if s.on die (Ob.lane_enable + lane) then (if s.rx die lane = 0 && s.lanePll die then s.setRx die lane (s.rxBegin die lane) else s)
  else ((s.setTx die lane 0).setRx die lane 0).refreshLane die lane

/-- The effect of a write of lane_tx_preset or lane_tx_ffe while a PRBS pattern is sent: within 1 µs (R129); otherwise it waits for the next marker. -/
def State.presetEffect (s : State) (die lane : Nat) : State := if s.hawserLane die lane && s.tx die lane = 3 then s.applyPreset die lane else s

/-- The effect of lane_pair_mode (R142, R143): lanes 6 and 7 drop at once and restart in the new mode, their ports and lane_maps anew. -/
def State.pairEffect (s : State) (die old : Nat) : State :=
  let new := s.nat die Ob.lane_pair_mode
  if !s.big || new = old then s
  else
    let s1 := s.each [6, 7] fun l s =>
      let k := Ob.lane_state + l
      ((s.put die k (if s.on die (Ob.lane_enable + l) then s.rxBegin die l else 0)).put die (Ob.lane_peer + l) 0).setLane die l fun t =>
        { preset := s.nat die (Ob.lane_tx_preset + l), ffe := s.nat die (Ob.lane_tx_ffe + l), sentSeq := t.sentSeq, scr := t.scr }
    let s2 := if new = 0 then s1.put die Ob.eth_link_state 0 else s1.ethRestart die
    let gone := s2.each ([4, 6, 7].map (laneKey die)) fun p s => if (s.port p).inService && !s.portExists p then s.portDown p else s
    let cleared := gone.each [6, 7] fun l s =>
      ({ s with ports := smPut {} s.ports (laneKey die l) { own := (s.port (laneKey die l)).own, ready := (s.port (laneKey die l)).ready, cycle := (s.port (laneKey die l)).cycle } }).put die (Ob.lane_maps + l) 0
    ((cleared.refreshPort (laneKey die 4)).refreshPort (laneKey die 6)).refreshPort (laneKey die 7)

/-- ETH_LINK_UP (R142): negotiation and training complete. -/
def State.ethUp (s : State) (die : Nat) : State :=
  let k := s.nat die Ob.eth_link_state
  if s.ethMode die && (k = 1 || k = 2) then (s.put die Ob.eth_link_state 3).each [6, 7] fun l s => s.setRx die l 6 else s

/-- ETH_FRAME_RECEIVE (Table 4.7): 64 to 9,216 bytes, untagged or one tag; others and malformed frames are counted and dropped. PAUSE is ignored. -/
def State.ethFrame (s : State) (die length tags : Nat) (kind : EthKind) : State :=
  if !(s.ethMode die && s.nat die Ob.eth_link_state = 3) || kind = .pause then s
  else if kind = .malformed || length < 64 || 9216 < length || 1 < tags then s.bump die Ob.eth_frames_dropped
  else s.emit (.frame die length)

/-- The effect of a committed lane_group_cfg (R130): the lanes of every changed group bring up again from step 1 with their equaliser values retained. -/
def State.regroup (s : State) (die old : Nat) : State :=
  let new := s.nat die Ob.lane_group_cfg
  let half (h : Nat) (s : State) : State :=
    if bits old (2 * h + 1) (2 * h) = bits new (2 * h + 1) (2 * h) then s
    else
      let ls := (List.range 4).map (4 * h + ·)
      let s1 := s.each ls fun l s => if (s.port (laneKey die l)).inService then s.portDown (laneKey die l) else s
      let seq := maxOr 0 (ls.map fun l => (s.lane die l).sentSeq.getD 0)
      let s2 := s1.each ls fun l s =>
        { s with ports := smPut {} s.ports (laneKey die l) { own := (s.port (laneKey die l)).own, ready := (s.port (laneKey die l)).ready, cycle := seq } }
      let s3 := s2.each ls fun l s =>
        if s.hawserLane die l && s.rx die l ≠ 0 && s.rx die l ≠ 8 && s.rx die l ≠ 7 then
          (s.setRx die l 1).setLane die l fun t => { t with retained := true, cands := [], dropped := t.dropped && s.groupSize die l ≠ 1, miswired := false, skewed := false }
        else s
      (s3.each ls fun l s => s.put die (Ob.lane_maps + l) 0).each ls fun l s => s.refreshPort (laneKey die l)
  half 1 (half 0 s)

end Sys2Proof.Machine
end

