-- ==== Sys2Proof/Machine/Cells.lean ====
section
/-! DEFINITION. Cells and forwarding (chapter 5): acceptance and disposal, enumeration, routes, the relay of Corrix, knots that arrive or fall due. -/

namespace Sys2Proof.Machine

/-! Acceptance (R148, R153, R158, R163) -/

/-- A cell that a part passes on rather than consumes, by its header alone (Table 5.8). -/
def State.passes (s : State) (c : Cell) : Bool :=
  let mine := s.node = some c.node
  match c.cls, c.kind with
  | 0, 0 => false
  | 0, _ => !mine
  | 1, 0 => false
  | 2, 0 => !(bit c.spec 11) && !mine
  | 2, 1 => let m := (enumParse c.payload).msg; if s.isHead then (m = 2 || m = 3) && !mine else m = 2 || m = 3
  | 2, 2 => false
  | 2, _ => !mine
  | 1, _ => !mine
  | 3, _ => !mine
  | 4, _ => !mine
  | _, _ => false

/-- The output by which a cell that arrived on a port is passed on: the other chain port of a tile (an ENUM REPORT or DONE: the up port), a head's route (R159, R165). -/
def State.passPort (s : State) (p : Nat) (c : Cell) : Option Nat :=
  if s.isHead then
    if p = s.pw Ob.red_ring_port && c.cls = 3 && c.kind < 2 then none else s.routeOf c.node
  else if c.cls = 2 && c.kind = 1 then s.upPort
  else s.otherChain p

/-- A cell that arrived on a port handed to an output (R148, R163): HOPS increased, the CRC right or stomped; one whose HOPS would reach 1,023 is discarded. -/
def State.hopTo (s : State) (p q : Nat) (c : Cell) (ok : Bool) : State :=
  if 1023 ≤ c.hops + 1 then s.bumpPort p Ob.cell_bad_header
  else s.queueFwd q (Cell.sealed { c with hops := c.hops + 1 } ok)

/-- A cell passed on (R148, R159, R162, R163); a cell with no output is stray. -/
def State.passOn (s : State) (p : Nat) (c : Cell) (ok : Bool) : State :=
  match s.passPort p c with
  | none => s.bumpPort p Ob.fwd_stray
  | some q => s.hopTo p q c ok

/-- A cell with no valid disposal (STRAY_CELL). -/
def State.stray (s : State) (p : Nat) : State := s.bumpPort p Ob.fwd_stray

/-- Does a cell arrive on a port of a tile part that is not a chain port? -/
def State.offChain (s : State) (p : Nat) : Bool := !s.isHead && !s.isChain p

/-- What becomes of a cell at a port before its kind is looked at: the state, and whether the cell goes on to its disposal. Nothing is taken from a port out of service; a port of
role 2 discards; a failed CRC is counted and a cell to be forwarded goes on stomped; CLASS 5-7 is a bad header. -/
def State.accept (s : State) (p : Nat) (c : Cell) : State × Bool :=
  if !s.inService p then (s, false)
  else
    let s1 := s.cellArrives p
    if s.role p = 2 then (s1.stray p, false)
    else if !c.good then
      let s2 := s1.bumpPort p (if c.stomped then Ob.cell_stomped else Ob.cell_crc_errors)
      (if s.passes c && c.cls < 5 && !(s.offChain p) then s2.passOn p c false else s2, false)
    else if 5 ≤ c.cls then (s1.bumpPort p Ob.cell_bad_header, false)
    else (s1, true)

/-- A tile discards what may not arrive on a port that is not a chain port (R158): stray, and THIRD_PORT_TRAFFIC. -/
def State.thirdPort (s : State) (p : Nat) : State := (s.stray p).raise 0 Ob.fwd_flags 3

/-! Corrix on Hawser (R53, R172) -/

/-- A response to a request: SEQ, SESSION, TARGET, INDEX and SUB copied, RESP set (R48). -/
def respond (m : Msg) (op status ty : Nat) (payload : List Byte) : Msg :=
  let r : Msg := { m with ver := 1, flags := 1, status := status, ty := ty, len := payload.length, payload := payload }
  { r with crc := msgCrc op r }

/-- The object's type in a response (R48); 0 for the opcodes that address none. -/
def replyTy (op : Nat) (m : Msg) : Nat :=
  if 0x10 ≤ op then 0 else match objDef m.key with
  | some d => d.ty.code
  | none => 0

/-- A request answered UNREACHABLE in the part's own name (R53). -/
def State.unreachable (s : State) (op : Nat) (m : Msg) : State :=
  (s.bump 0 Ob.corrix_unreachable).reply m.via op (respond m op 0x0F (replyTy op m) [])

/-- relay_entries shows how many entries the relay table holds. -/
def State.showRelay (s : State) : State := s.set Ob.relay_entries s.net.relay.length

/-- The relay table keeps a forwarded request, replacing its oldest of 64 (R172). -/
def State.noteRelay (s : State) (p : Nat) (m : Msg) : State :=
  let l := s.net.relay
  let e : RelaySt := { target := m.target, session := m.session, seq := m.seq, port := p, since := s.now }
  { s with net := { s.net with relay := (if 64 ≤ l.length then l.drop 1 else l) ++ [e] } }.showRelay

/-- CORRIX_RELAY (R53, R172): a request for another node goes toward it. At the entry part the path is recorded and a cell built; between two ports the relay table keeps the
arrival port; with no route it is answered UNREACHABLE. -/
def State.relayRequest (s : State) (op : Nat) (m : Msg) : State :=
  match m.via with
  | .hawser p e h =>
    let c : Cell := { corrixCell m.node e false false op m with hops := h }
    match s.passPort p c with
    | some _ => (s.noteRelay p m).passOn p c true
    | none => (s.unreachable op m).stray p
  | _ =>
    match s.ownPort m.node with
    | some q =>
      let e : EntrySt := { via := m.via, target := m.target, session := m.session, seq := m.seq, since := s.now }
      { s with net := { s.net with entries := (if 64 ≤ s.net.entries.length then s.net.entries.drop 1 else s.net.entries) ++ [e] } }.queueOwn q (corrixCell m.node s.nodeOr0 false false op m)
    | none => s.unreachable op m

/-- CORRIX_RESPONSE_RELAY (R172): by the port the relay table recorded; at the entry part to the recorded path, or an orphan; else routed toward ENTRY. -/
def State.relayResponse (s : State) (p entry op : Nat) (m : Msg) : State :=
  let hit (t ss q : Nat) : Bool := t = m.target && ss = m.session && q = m.seq
  let c : Cell := { corrixCell entry entry true false op m with hops := hopsOf m.via }
  match s.net.relay.find? fun r => hit r.target r.session r.seq with
  | some r =>
    let s1 := { s with net := { s.net with relay := s.net.relay.filter fun x => !(hit x.target x.session x.seq) } }.showRelay
    s1.hopTo p r.port c true
  | none =>
    if s.node = some entry then
      match s.net.entries.find? fun e => hit e.target e.session e.seq with
      | some e =>
        let s1 := { s with net := { s.net with entries := s.net.entries.filter fun x => !(hit x.target x.session x.seq) } }
        s1.reply e.via op m
      | none => s.bump 0 Ob.corrix_orphan_resp
    else s.passOn p c true

/-- RELAY_ENTRY_EXPIRY (R172): entries and records older than 10 ms are removed. -/
def State.relayExpiry (s : State) : State :=
  { s with net := { s.net with relay := s.net.relay.filter fun r => !(s.past r.since 10000000),
                               entries := s.net.entries.filter fun e => !(s.past e.since 10000000) } }.showRelay

/-- BCAST_RECORD_EXPIRY (R52). -/
def State.bcastExpiry (s : State) : State :=
  { s with net := { s.net with bcasts := s.net.bcasts.filter fun b => !(s.past b.since 1000000000) } }

/-! Forwarding and own cells (R159-R162) -/

/-- CELL_FORWARD: a cell for another node is passed on; one that reached a tile off its chain is discarded with THIRD_PORT_TRAFFIC. -/
def State.forward (s : State) (p : Nat) (c : Cell) : State :=
  if s.offChain p then s.thirdPort p
  else if c.cls = 2 && c.kind = 0 then
    let r := msgParse (.hawser p (bits c.spec 9 0) c.hops) c.payload
    if bit c.spec 10 then s.relayResponse p (bits c.spec 9 0) r.1 r.2
    else s.relayRequest r.1 r.2
  else s.passOn p c true

/-- OWN_CELL_SEND (R160): an own cell of class 1, 2 or 4 may begin: at a tile at a cell boundary of the output, with no forwarded cell there, none in the next 9 slots and no other own cell before it; at a head, the source of its
ports, as R156 ranks it. -/
def State.ownSend (s : State) (p freeSlots : Nat) : State :=
  match lowest (s.port p).own with
  | none => s
  | some c =>
    if s.role p = 2 then s
    else if !s.inService p then s.autoWake p
    else if s.isHead || (decide (9 ≤ freeSlots) && (s.port p).stack.isEmpty && (s.port p).fwd.isEmpty && (s.port p).ready.isEmpty) then
      s.setPort p fun t => { t with own := t.own.erase c, ready := t.ready ++ [c] }
    else s

/-! Enumeration (R166-R169) -/

/-- The most chain ports a head drives (R20): 48 on the ZW-880, 32 on the ZW-840. -/
def State.chainLimit (s : State) : Nat := if s.fuses.variant = 0x88 then 48 else 32

/-- The chain ports a head drives, where more have port_role 0: the first in die and lane order (R20; DESIGN CHOICE, log entry 112). -/
def State.headPorts (s : State) : List Nat := (s.portList.filter fun p => s.role p = 0).take s.chainLimit

/-- A head feeds a chain port: one it drives (R20), and its ring port only in SOLO, ACTIVE or SPLIT (Table 14.3). -/
def State.feeds (s : State) (p : Nat) : Bool :=
  let h := s.pw Ob.red_head_state
  s.isHead && s.headPorts.contains p && (s.pw Ob.red_ring_port ≠ p || h = 0 || h = 1 || h = 3)

/-- The lowest ID of a span clear in a node set, searched from `a` over `n` IDs. -/
def lowestFree (taken : Nat) : Nat → Nat → Option Nat
  | _, 0 => none
  | a, n + 1 => if bit taken a then lowestFree taken (a + 1) n else some a

/-- The IDs in the latest enumerations of a head's chain ports, as a node set. -/
def State.enumSet (s : State) : Nat := s.enums.foldl (fun m e => e.2.foldl (fun k n => setBit k n) m) 0

/-- A head that has no node_id takes the lowest free ID of its pool, one that no ROUTE and no enumeration of its own holds, and persists it; an empty pool is flagged (R169). -/
def State.headId (s : State) : State :=
  let a := s.pw Ob.enum_id_first
  let b := s.pw Ob.enum_id_last
  let s1 := s.when (s.isHead && b < a) fun s => s.raise 0 Ob.enum_flags 1
  if s.isHead && s.node.isNone then
    match lowestFree (s.net.routes.foldl (fun m r => m ||| r.nodes) s.enumSet) a (b + 1 - a) with
    | some n => s1.keep 0 Ob.node_id n
    | none => s1
  else s1

/-- TAKEN of a walk: the head's own ID and the IDs of its other chain ports' latest enumerations (R169). -/
def State.takenFor (s : State) (p : Nat) : Nat :=
  let own := match s.node with
    | some n => 2 ^ n
    | none => 0
  (s.enums.filter fun e => e.1 ≠ p).foldl (fun m e => e.2.foldl (fun k n => k ||| 2 ^ n) m) own

/-- A walk of a chain port begins (R166). -/
def State.startWalk (s0 : State) (p : Nat) : State :=
  let s := s0.headId
  let seq := (s.net.walkSeq + 1) % 65536
  let e : Enum :=
    { msg := 1, pos := 1, head := s.pw Ob.node_id, port := p, depth := min 31 s.knotDepth, seq := seq, argA := s.pw Ob.enum_id_first, argB := s.pw Ob.enum_id_last,
      argC := 0, argD := 0, taken := s.takenFor p }
  let s1 := { s with net := { s.net with walk := some { port := p, seq := seq, startAt := s.now, ids := [] }, walkSeq := seq } }
  s1.queueOwn p (mkCell 2 1 0 0 (enumBytes e))

/-- The next waiting walk begins where none is in progress: the ports are walked one at a time in die and lane order. -/
def State.nextWalk (s : State) : State :=
  if s.net.walk.isSome then s
  else
    match s.net.queue.filter fun p => s.inService p && s.feeds p with
    | p :: rest => { s with net := { s.net with queue := rest } }.startWalk p
    | [] => { s with net := { s.net with queue := [] } }

/-- Ports added to those waiting for a walk, kept in die and lane order. -/
def State.queueWalks (s : State) (ps : List Nat) : State :=
  { s with net := { s.net with queue := s.portList.filter fun p => ps.contains p || s.net.queue.contains p } }.nextWalk

/-- The chain ports a head walks. -/
def State.walkPorts (s : State) : List Nat := s.portsUp.filter s.feeds

/-- WALK_AFTER_SERVICE (R166): 10 ms after the port came into service. -/
def State.walkAfter (s : State) (p : Nat) : State :=
  match (s.port p).walkDue with
  | some t =>
    if t ≤ s.now && s.inService p && s.feeds p then (s.setPort p fun t => { t with walkDue := none }).queueWalks [p] else s
  | none => s

/-- The effect of writing 1 to enum_start (R166). -/
def State.enumStart (s : State) : State := if s.isHead then s.headId.queueWalks s.walkPorts else s

/-- ENUM_PERIOD_EXPIRY (R166): every enum_period_s seconds, when that is not 0. -/
def State.enumPeriod (s : State) : State :=
  let n := s.pw Ob.enum_period_s
  if s.isHead && n ≠ 0 && s.past s.net.periodAt (n * 1000000000) then { s with net := { s.net with periodAt := s.now } }.queueWalks s.walkPorts else s

/-- The IDs reported become the port's latest enumeration (R168); the node map changes with it (R170). -/
def State.closeWalk (s : State) (w : WalkSt) : State :=
  let wait := s.red.waits && w.port = s.pw Ob.red_ring_port
  let s1 := { s with enums := smPut [] s.enums w.port w.ids, net := { s.net with walk := none },
                     red := if wait then { s.red with waits := false, sendFrom := s.layNow } else s.red }
  s1.put (w.port / 16) (atPort Ob.enum_count w.port) w.ids.length

/-- ENUM_TIMEOUT (R168): a walk with no DONE within 50 ms. -/
def State.enumTimeout (s : State) : State :=
  match s.net.walk with
  | some w => if s.past w.startAt 50000000 then ((s.closeWalk w).raise 0 Ob.enum_flags 0).nextWalk else s
  | none => s

/-- An ENUM message of the part's own for a walking head, out of a port. -/
def State.sendEnum (s : State) (p : Nat) (e : Enum) : State := s.queueOwn p (mkCell 2 1 (e.head % 1024) 0 (enumBytes { e with taken := 0, depth := 0 }))

/-- The ID a tile ends a WALK with (R167): its present one where clear in TAKEN and not dropped, else the lowest clear ID of the pool. -/
def State.walkId (s : State) (e : Enum) : Option Nat :=
  let present := if s.net.forget then none else s.node
  match present with
  | some n => if bit e.taken n then lowestFree e.taken e.argA (e.argB + 1 - e.argA) else some n
  | none => lowestFree e.taken e.argA (e.argB + 1 - e.argA)

/-- WALK at a tile (R158, R167, R168): the up port, the ID, the REPORT, and the WALK passed out of the down port, or DONE where the walk ends. -/
def State.walkTile (s : State) (p : Nat) (e : Enum) : State :=
  let before := s.pw Ob.node_id
  let id := s.walkId e
  let after := id.getD 0xFFFF
  let s1 := ((s.set Ob.fwd_up_port p).set Ob.enum_head e.head).set Ob.enum_pos e.pos
  let s2 := { s1 with net := { s1.net with headDepth := e.depth, forget := false } }
  let s3 := if after = before then s2 else (s2.keep 0 Ob.node_id after).raise 0 Ob.enum_flags 3
  let down := s3.pickDown p
  let s4 := s3.orBits 0 Ob.fwd_flags down.2
  let rep : Enum :=
    { e with msg := 2, argA := after, argB := before, argC := s4.identity,
             argD := b2n (after ≠ before) + 2 * b2n id.isNone + 4 * b2n (bit down.2 1) }
  let s5 := s4.sendEnum p rep
  let taken := match id with
    | some n => setBit e.taken n
    | none => e.taken
  match down.1 with
  | some q =>
    if e.pos = 255 then s5.sendEnum p { e with msg := 3, argA := 0xFFFF, argB := 0, argC := 0, argD := 2 }
    else s5.queueOwn q (mkCell 2 1 0 0 (enumBytes { e with pos := e.pos + 1, taken := taken }))
  | none => s5.sendEnum p { e with msg := 3, argA := 0xFFFF, argB := 0, argC := 0, argD := 0 }

/-- WALK_END_AT_HEAD (R168): a part in head role ends the walk and sends DONE back out of the port it arrived on. -/
def State.walkHead (s : State) (p : Nat) (e : Enum) : State :=
  s.sendEnum p { e with msg := 3, pos := e.pos - 1, argA := s.pw Ob.node_id, argB := 0, argC := 0, argD := 1 }

/-- REPORT at the walking head (R168). -/
def State.enumReport (s : State) (e : Enum) : State :=
  match s.net.walk with
  | some w =>
    if w.seq = e.seq && w.port = e.port && e.argA ≠ 0xFFFF && !w.ids.contains e.argA then
      { s with net := { s.net with walk := some { w with ids := w.ids ++ [e.argA] } } }
    else s
  | none => s

/-- A Corrix WRITE the part itself sends to another node as a client (R413); its SEQ and SESSION are free values. -/
def clientWrite (node index sub ty value size seq session : Nat) : Msg :=
  let m : Msg := { via := .spi, seq := seq % 65536, session := session % 65536, target := node + 0xF000, index := index, sub := sub, ty := ty, len := size, payload := leBytes size value, crc := 0 }
  { m with crc := msgCrc 2 m }

/-- A Corrix READ the part itself sends to a die of another node as a client (R404); its SEQ and SESSION are free values. -/
def clientRead (target index sub ty seq session : Nat) : Msg :=
  let m : Msg := { via := .spi, seq := seq % 65536, session := session % 65536, target := target, index := index, sub := sub, ty := ty, len := 0, payload := [], crc := 0 }
  { m with crc := msgCrc 1 m }

/-- RING_WHOLE (R413): a SPLIT head whose walk of the ring port ended at the peer returns to STANDBY and makes the peer walk. -/
def State.ringWhole (s : State) (e : Enum) : State :=
  if s.pw Ob.red_head_state = 3 && e.port = s.pw Ob.red_ring_port && e.argD = 1 && e.argA = s.pw Ob.red_peer_node then
    ((s.draw.2.draw.2.set Ob.red_head_state 2).raise 0 Ob.red_flags 7).sendOwn
      (corrixCell (s.pw Ob.red_peer_node) s.nodeOr0 false false 2 (clientWrite (s.pw Ob.red_peer_node) 0x2823 0 1 1 1 s.draw.1 s.draw.2.draw.1))
  else s

/-- DONE at the walking head (R168): the enumeration is recorded and the next port's walk begins. -/
def State.enumDone (s : State) (e : Enum) : State :=
  match s.net.walk with
  | some w => if w.seq = e.seq && w.port = e.port then ((s.closeWalk w).ringWhole e).nextWalk else s
  | none => s

/-- An ENUM cell (Table 5.8). On a port of a tile that is not a chain port, only a WALK on port_role 0 is accepted (R158). -/
def State.enumCell (s : State) (p : Nat) (c : Cell) : State :=
  let e := enumParse c.payload
  if e.msg = 1 then
    if s.isHead then s.walkHead p e
    else if s.role p = 0 then s.walkTile p e
    else s.thirdPort p
  else if s.offChain p then s.thirdPort p
  else if e.msg = 2 || e.msg = 3 then
    if s.isHead && s.node = some c.node then (if e.msg = 2 then s.enumReport e else s.enumDone e) else s.passOn p c true
  else s.stray p

/-! Routes (R170, R171) -/

/-- The head links: ports in service whose port_role is 1. -/
def State.headLinks (s : State) : List Nat := s.portsUp.filter fun p => s.role p = 1

/-- The nodes a head advertises: itself and its chain ports' enumerations (Table 5.10), but those of a ring port that it does not feed (R165). -/
def State.ownNodes (s : State) : Nat :=
  let own := match s.node with
    | some n => 2 ^ n
    | none => 0
  (s.enums.filter fun e => s.feeds e.1).foldl (fun m e => e.2.foldl (fun k n => setBit k n) m) own

/-- ROUTE_SEND (R169, R170): every 100 ms, and at once when the node map changed, on each head link. A head with no node_id takes one first. -/
def State.routeSend (s0 : State) : State :=
  let s := s0.headId
  if s.isHead && (s.net.routeNodes ≠ s.ownNodes || s.due s.net.routeAt 100000000) then
    let seq := (s.net.routeSeq + 1) % 65536
    let s1 := { s with net := { s.net with routeSeq := seq, routeAt := some s.now, routeNodes := s.ownNodes } }
    s1.each s1.headLinks fun p s => s.queueOwn p (mkCell 2 2 s.nodeOr0 0 (routeBytes s.nodeOr0 seq 0 s.ownNodes))
  else s

/-- Of the links an origin's ROUTE was heard on in the last 350 ms, that of the lowest HOPS, ties to the lower (R170). -/
def bestLink (l : List Heard) : Option Heard := l.foldl (fun a h => match a with
  | some b => if h.hops < b.hops || (h.hops = b.hops && h.link < b.link) then some h else some b
  | none => some h) none

/-- An origin's entry with the links of the last 350 ms, and the best of them in force. -/
def State.freshRoute (s : State) (r : RouteSt) : RouteSt :=
  let l := r.heard.filter fun h => !(s.past h.at_ 350000000)
  match bestLink l with
  | some b => { r with heard := l, link := b.link, hops := b.hops }
  | none => { r with heard := l }

/-- How long an origin's NODES has held its IDs (R171): per time since when, the IDs held since then. -/
def heldSince (now nodes : Nat) (old : List (Nat × Nat)) : List (Nat × Nat) :=
  let kept := (old.map fun e => (e.1, e.2 &&& nodes)).filter fun e => e.2 ≠ 0
  let new := clearMask nodes (kept.foldl (fun m e => m ||| e.2) 0)
  if new = 0 then kept else kept ++ [(now, new)]

/-- ROUTE received on a head link (R170): its link and HOPS noted; its NODES taken where its SEQ is the newest, or the newest has not been heard for 350 ms (DESIGN CHOICE, log entry 158); sent on once per
ORIGIN and SEQ, below HOPS 31, on the other head links. -/
def State.routeIn (s : State) (p : Nat) (c : Cell) : State :=
  let origin := leAt c.payload 0 2
  let seq := leAt c.payload 2 2
  let hops := leAt c.payload 4 1
  let nodes := leAt c.payload 8 128
  if s.node = some origin then s
  else
    let old := s.net.routes.find? fun r => r.origin = origin
    let seen := (old.map fun r => r.seqs.filter fun e => !(s.past e.2 350000000)).getD []
    let first := !(seen.any fun e => e.1 = seq)
    let fresh := first && (match old with
      | some r => seqAfter 16 r.seq seq || !(seen.any fun e => e.1 = r.seq)
      | none => true)
    let base : RouteSt := old.getD { origin := origin, link := p, hops := hops, seq := seq, nodes := nodes, lastAt := s.now }
    let taken : RouteSt := if fresh then { base with seq := seq, nodes := nodes, held := heldSince s.now nodes base.held } else base
    let new := s.freshRoute { taken with lastAt := s.now, seqs := (seen.filter fun e => e.1 ≠ seq) ++ [(seq, s.now)],
                                         heard := (taken.heard.filter fun h => !(h.link = p && h.hops = hops)) ++ [{ link := p, hops := hops, at_ := s.now }] }
    let s1 := { s with net := { s.net with routes := (s.net.routes.filter fun r : RouteSt => r.origin ≠ origin) ++ [new] } }
    if first && hops < 31 then
      s1.each (s1.headLinks.filter (· ≠ p)) fun q s => s.hopTo p q { c with payload := fitBytes 244 (routeBytes origin seq (hops + 1) nodes) } true
    else s1

/-- ROUTE (Table 5.8): discarded as stray by tiles and off head links. -/
def State.routeCell (s : State) (p : Nat) (c : Cell) : State :=
  if s.offChain p then s.thirdPort p else if s.isHead && s.role p = 1 then s.routeIn p c else s.stray p

/-- ROUTE_EXPIRY (R170): an origin silent for 350 ms is dropped. -/
def State.routeExpiry (s : State) : State :=
  { s with net := { s.net with routes := (s.net.routes.filter fun r => !(s.past r.lastAt 350000000)).map s.freshRoute } }

/-- Does another origin's NODES hold, and has it held for 3 s without a break, an ID of the part's own enumerations (R171)? That of a port the head no longer feeds counts as its own (DESIGN CHOICE,
log entry 159). -/
def State.conflicting (s : State) : Bool := s.net.routes.any fun r => r.held.any fun e => s.past e.1 3000000000 && decide (e.2 &&& s.enumSet ≠ 0)

/-- ID_CONFLICT (R171). -/
def State.idConflict (s : State) : State := if s.isHead && s.conflicting then s.raise 0 Ob.enum_flags 2 else s

/-! Knots (R175-R179) -/

/-- KNOT_CELL_RECEIVE (R175). -/
def State.knotCell (s : State) (p : Nat) (c : Cell) : State :=
  if s.offChain p then s.thirdPort p else s.enterKnot (knotParse c.payload)

/-- KNOT_FLUSH (R176): every knot whose flush time has come is sent, where the part has a way to send it; the others keep their places. FAULT_N of R386 is released once the knot of
REFCLK_BOTH_LOST has left. -/
def State.knotFlush (s : State) : State :=
  let due (k : Knot) : Bool := s.flushTime k.window ≤ s.layNow
  if s.isSink || s.knotPort.isSome then
    let s1 := ({ s with knots := s.knots.filter fun k => !(due k) }).each (s.knots.filter due) fun k s => (s.sendKnot k).1
    s1.when (s.isSink && s.knots.any fun k => due k && s.isLoss k) State.lossSent
  else s

/-- The effect of writing 1 to knot_ack (R179). -/
def State.knotAck (s : State) : State := ({ s with knotHold := false }).driveFault s.faultOn

end Sys2Proof.Machine
end

