-- ==== Sys2Proof/Machine/Curves.lean ====
section
/-! DEFINITION. Logarithms and powers in fixed point, and the curves and matrices of the standards that R205, R218, R220 and R277 name: ST 2084, BT.1886, IEC 61966-2-1, BT.2100, BT.709,
BT.2020. The standards' constants are PRESUMED (log entry 5). -/

namespace Sys2Proof.Machine

/-! Logarithms and powers -/

/-- `k` fraction bits of a base-2 logarithm, below those of `acc`, from a mantissa in [1, 2) of 128 fraction bits. -/
def logBits : Nat → Nat → Nat → Nat
  | 0, _, acc => acc
  | k + 1, m, acc =>
    let q := m * m / 2 ^ 128
    if 2 ^ 129 ≤ q then logBits k (q / 2) (2 * acc + 1) else logBits k q (2 * acc)

/-- The base-2 logarithm of a number from 1 up, with 64 fraction bits (log entry 9). -/
def log2Fix (n : Nat) : Nat :=
  let e := Nat.log2 n
  logBits 64 (n * 2 ^ 128 / 2 ^ e) e

/-- Bits of z, the most number of 64 fraction bits whose base-2 logarithm is at most `goal` (64 fraction bits, 64 added). -/
def powBits (goal : Nat) : Nat → Nat → Nat
  | 0, z => z
  | k + 1, z => if log2Fix (z + 2 ^ k) ≤ goal then powBits goal k (z + 2 ^ k) else powBits goal k z

/-- 1.0 with 64 fraction bits. -/
abbrev q64 : Nat := 2 ^ 64

/-- 2 to a power of 64 fraction bits, below 16, with 64 fraction bits. -/
def exp2Q (e : Int) : Nat := if e < -64 * (q64 : Int) then 0 else powBits (64 * (q64 : Int) + e).toNat 68 0

/-- x to the power n ÷ d, with 64 fraction bits. -/
def powQ (x n d : Nat) : Nat := if x = 0 then 0 else exp2Q (((log2Fix x : Int) - 64 * (q64 : Int)) * n / d)

/-- A quotient of numbers of 64 fraction bits. -/
def divQ (a b : Nat) : Nat := a * q64 / b

/-- A value of 64 fraction bits rounded to the nearest, halves up; one within 2^-24 of a half goes the way of a free value (log entry 9). -/
def nearestQ (kind a b x : Nat) : Nat :=
  let lo := (x + q64 / 2 - 2 ^ 40) / q64
  let hi := (x + q64 / 2 + 2 ^ 40) / q64
  if lo = hi then lo else if Config.roundTie kind a b then hi else lo

/-! ST 2084 (PQ) -/

/-- The light of a PQ value, in units of 10,000 cd/m², both with 64 fraction bits: the EOTF of ST 2084. -/
def pqLight (e : Nat) : Nat :=
  let p := powQ e 32 2523
  powQ (divQ (p - q64 * 107 / 128) (q64 * 2413 / 128 - 2392 * p / 128)) 8192 1305

/-- The PQ value of a light in units of 10,000 cd/m², both with 64 fraction bits: the inverse EOTF of ST 2084. -/
def pqValue (y : Nat) : Nat :=
  let p := powQ y 1305 8192
  powQ (divQ (q64 * 107 / 128 + 2413 * p / 128) (q64 + 2392 * p / 128)) 2523 32

/-- Light of a PQ code 0-1,023 in 1/2^20 of a named peak, rounded, before its limit (R277). -/
def pqDecode (peak code : Nat) : Nat := nearestQ 0 peak code (pqLight (code * q64 / 1023) * 10000 * 1048576 / max 1 peak)

/-- The PQ code 0-1,023 of a 24-bit linear value under a peak, rounded (Table 7.2). -/
def pqEncode (peak value : Nat) : Nat := min 1023 (nearestQ 1 peak value (pqValue (value * peak * q64 / (16777215 * 10000)) * 1023))

/-! Transfer to linear light (Table 7.1, steps 4 and 6), in 1/16,777,215 of the canvas peak; a code is given with 64 fraction bits -/

/-- A code with 64 fraction bits for its curve; none is below 0. -/
def codeQ (c : Int) : Nat := c.toNat

/-- Light of 64 fraction bits of a white in cd/m², in 1/16,777,215 of a peak. -/
def unitOf (light white peak : Nat) : Nat := roundDiv (light * white * 16777215) (max 1 peak * q64)

/-- BT.1886 with γ 2.4. -/
def bt1886 (x : Nat) : Nat := powQ x 12 5

/-- The sRGB EOTF of IEC 61966-2-1. -/
def srgb (x : Nat) : Nat := if x * 100000 ≤ 4045 * q64 then x * 100 / 1292 else powQ ((x * 1000 + 55 * q64) / 1055) 12 5

/-- The inverse OETF of HLG (BT.2100): E² ÷ 3 up to a half, (exp((E − c) ÷ a) + b) ÷ 12 above. -/
def hlgScene (x : Nat) : Nat :=
  if 2 * x ≤ q64 then x * x / q64 / 3
  else (exp2Q (((x : Int) * 100000000 - 55991073 * (q64 : Int)) * 26613026195688644983 / (17883277 * (q64 : Int))) + q64 * 28466892 / 100000000) / 12

/-- HLG of BT.2100: each component's scene light times the luminance of the three to the power γ − 1, γ = 1.2, for a peak of 1,000 cd/m². -/
def hlgLight (v : Nat × Nat × Nat) : Nat × Nat × Nat :=
  let e := (hlgScene v.1, hlgScene v.2.1, hlgScene v.2.2)
  let y := powQ ((2627 * e.1 + 6780 * e.2.1 + 593 * e.2.2) / 10000) 1 5
  (e.1 * y / q64, e.2.1 * y / q64, e.2.2 * y / q64)

/-- The transfer of three codes with 64 fraction bits: 0 SDR, 1 PQ, 2 HLG, 3 sRGB, 4 linear; `white` is sdr_white, `peak` the canvas peak. -/
def transferUnits (kind white peak : Nat) (v : Int × Int × Int) : Int × Int × Int :=
  let each (f : Int → Nat) : Int × Int × Int := ((f v.1 : Int), (f v.2.1 : Int), (f v.2.2 : Int))
  match kind with
  | 0 => each fun c => unitOf (bt1886 (codeQ c)) white peak
  | 1 => each fun c => unitOf (pqLight (codeQ c)) 10000 peak
  | 2 => let h := hlgLight (codeQ v.1, codeQ v.2.1, codeQ v.2.2)
    ((unitOf h.1 1000 peak : Int), (unitOf h.2.1 1000 peak : Int), (unitOf h.2.2 1000 peak : Int))
  | 3 => each fun c => unitOf (srgb (codeQ c)) white peak
  | _ => (roundDivInt (v.1 * 16777215) q64, roundDivInt (v.2.1 * 16777215) q64, roundDivInt (v.2.2 * 16777215) q64)

/-! Matrices -/

/-- R′G′B′ from Y′, Cb, Cr, non-constant luminance, for the luminance weights of red and blue in 1/10,000 (Table 7.1, step 3). -/
def ycbcrRgb (kr kb : Nat) (v : Int × Int × Int) : Int × Int × Int :=
  let cr := 2 * (10000 - kr : Nat) * v.2.2
  let cb := 2 * (10000 - kb : Nat) * v.2.1
  let kg : Nat := 10000 - kr - kb
  (v.1 + roundDivInt cr 10000, v.1 - roundDivInt (cr * kr + cb * kb) (10000 * kg), v.1 + roundDivInt cb 10000)

/-- The 3 × 3 matrix between BT.709 (0) and BT.2020 (1) primaries, D65, in 1/2^24 (Table 7.1, step 5). -/
def gamutEntry (src row col : Nat) : Int :=
  let m : List (List Int) := if src = 0 then [[10526091, 5524453, 726673], [1159260, 15427328, 190628], [275003, 1476618, 15025595]]
    else [[27858416, -9858982, -1222218], [-2089610, 19006906, -140080], [-304519, -1687434, 18769169]]
  (m.getD row []).getD col 0

end Sys2Proof.Machine
end

