-- ==== Sys2Proof/Machine/Operands.lean ====
section
/-! DEFINITION. Operand forms: object values as payload bytes and back (Table 2.2, R59), the clamping that a dictionary row states, and the bytes of a BLOB. -/

namespace Sys2Proof.Machine

/-- A fixed-size value as its payload bytes (R41, R43). -/
def encodeVal (ty : Ty) (v : Int) : List Byte :=
  match ty with
  | .layt => layBytes (v % (laySec * 281474976710656)).toNat
  | .str => []
  | .blob => []
  | _ => leBytes ty.size (ofSigned (8 * ty.size) v)

/-- A payload as a value of a fixed-size type; the NANOSECONDS of a LAYT are held to 999,999,999 (R59). -/
def decodeVal (ty : Ty) (bs : List Byte) : Int :=
  match ty with
  | .layt => layAt bs 0
  | .i16 => toSigned 16 (leAt bs 0 2)
  | .i32 => toSigned 32 (leAt bs 0 4)
  | .str => 0
  | .blob => 0
  | _ => leAt bs 0 ty.size

/-- Rounded toward zero onto a step. -/
def ontoStep (step : Nat) (v : Int) : Int := if v < 0 then -((v.natAbs / max 1 step * max 1 step : Nat) : Int) else (v.toNat / max 1 step * max 1 step : Nat)

/-- A value as a row's clamp leaves it (R59); the objects of `custom` are judged apart. -/
def clampRow (c : Clamp) (dflt v : Int) : Int :=
  match c with
  | .any => v
  | .span lo hi step => clampInt lo hi (ontoStep step v)
  | .oneOf spans => if spans.any fun p => decide (p.1 ≤ v) && decide (v ≤ p.2) then v else dflt
  | .mask m => (v.toNat &&& m : Nat)
  | .maskStep m step => ontoStep step (v.toNat &&& m : Nat)
  | .custom => v

/-! BLOBs -/

/-- A 16-bit value's byte. -/
def lane16 (v o : Nat) : Byte := byteOf (if o % 2 = 0 then v else v / 256)

/-- The byte at an offset of a BLOB's default (R60): 0 but for the fills, identities and built-in sets that the tables name. The 0xFF fill of scan_map covers its reserved bits too (DESIGN CHOICE, log entry 156). -/
def State.blobDflt (s : State) (key off : Nat) : Byte :=
  if key = Ob.scan_map || key = Ob.fg_map then 0xFF
  else if key % 256 = 1 && 0x5200 ≤ key / 256 && key / 256 ≤ 0x520F then 0xFF
  else if key % 256 = 14 && 0x5100 ≤ key / 256 && key / 256 ≤ 0x510F then lane16 (if off / 2 % 4 = 0 then 8192 else 0) off
  else if key % 256 = 0 && 0x6030 ≤ key / 256 && key / 256 ≤ 0x6033 then byteOf (roundDiv (off / 4 * 1048576) 4095 / 256 ^ (off % 4))
  else if key = Ob.pq_lut then byteOf (min (pqDecode (s.pw Ob.corr_peak_cdm2) (off / 4)) 16777215 / 256 ^ (off % 4))
  else if 0x4040 ≤ key / 256 && key / 256 ≤ 0x4043 then
    let taps := if key % 256 = 1 then 8 else 6
    lane16 (ofSigned 16 (Config.sincTap (key % 256 - 1) 1 1 (off / 2 / taps) (off / 2 % taps))) off
  else 0

/-- Is a key one of an index range and a subindex range? -/
def inKeys (key lo hi slo shi : Nat) : Bool :=
  Nat.ble lo (key / 256) && Nat.ble (key / 256) hi && Nat.ble slo (key % 256) && Nat.ble (key % 256) shi

/-- The defined bits of a byte of a BLOB (R18, R59): reserved bytes and bits of Tables 9.2, 9.5, 10.1, 10.3, 15.9 and 16.4 and of the manifest header (R439) are none. -/
def blobMask (key off : Nat) : Byte :=
  if key = Ob.splice_desc || inKeys key 0x4C00 0x4FFF 1 1 then (if off = 3 || 14 ≤ off then 0 else 0xFF)
  else if inKeys key 0x6100 0x613F 4 4 then (if 1 ≤ off && off ≤ 3 then 0 else 0xFF)
  else if inKeys key 0x7000 0x7007 0 0 then (if off = 22 || 44 ≤ off then 0 else if off = 3 then 0x07 else 0xFF)
  else if key = Ob.scan_map then (if off % 4 = 2 then 0x7F else if off % 4 = 3 then 0x80 else 0xFF)
  else if key = Ob.trim_set then (if 1 ≤ off % 36 && off % 36 ≤ 3 then 0 else 0xFF)
  else if key = Ob.upd_manifest then (if off < 16 then (if 6 ≤ off then 0 else 0xFF) else if 12 ≤ off % 16 then 0 else 0xFF)
  else 0xFF

/-- Temperatures of a factory entry in use, from point `p` on: `k` are left and rise strictly up to the largest I16 (R461). -/
def factoryTemps (die n : Nat) : Nat → Nat → Int → List Int
  | 0, _, _ => []
  | k + 1, p, lo => let t : Int := lo + (Config.trimFactory die n (2 * p + 1) % (32768 - (k : Int) - lo).toNat : Nat); t :: factoryTemps die n k (p + 1) (t + 1)

/-- A byte of the factory trim set, within what R461 guarantees: COUNT 0-8, points in use rising strictly, offsets within ±1,023. -/
def factoryByte (die off : Nat) : Byte :=
  let n := off / 36
  let o := off % 36
  let count := Config.trimFactory die n 0 % 9
  let p := (o - 4) / 4
  if o = 0 then byteOf count
  else if o < 4 then 0
  else if o % 4 < 2 then byteOf (ofSigned 16 ((factoryTemps die n count 0 (-32768)).getD p (toSigned 16 (Config.trimFactory die n (2 * p + 1)))) / 256 ^ (o % 4))
  else byteOf (ofSigned 16 ((Config.trimFactory die n (2 * p + 2) % 2047 : Nat) - 1023) / 256 ^ (o % 4 - 2))

/-- A byte of a BLOB value. -/
def State.byteIn (s : State) (die : Nat) (v : Value) (key off : Nat) : Byte :=
  if key = Ob.sram_repair then smGet 0 s.fuses.repair (die * 64 + off)
  else if key = Ob.trim_set && (1080 ≤ off || v = .dflt) then factoryByte die off
  else match v with
  | .blob true m => smGet 0 m off
  | .blob false m => match m.find? fun e => e.1 = off with
    | some e => e.2
    | none => s.blobDflt key off
  | _ => s.blobDflt key off

/-- A byte of a BLOB in force. -/
def State.blobByte (s : State) (die key off : Nat) : Byte := s.byteIn die (s.val die key) key off

/-- Bytes of a BLOB in force, as a list. -/
def State.blobBytes (s : State) (die key off n : Nat) : List Byte := (List.range n).map fun i => s.blobByte die key (off + i)

/-- Bytes of a BLOB in force, as a little-endian number. -/
def State.blobNum (s : State) (die key off n : Nat) : Nat := ofLe (s.blobBytes die key off n)

/-- Bytes of a BLOB changed in place. -/
def State.patchBlob (s : State) (die key off : Nat) (bs : List Byte) : State :=
  let m := bs.length
  let put (t : SMap Byte) : SMap Byte := (List.range m).foldl (fun t i => smPut 0 t (off + i) (bs.getD i 0)) t
  match s.val die key with
  | .blob true t => s.putBlob die key (.blob true (put t))
  | .blob false t =>
    s.putBlob die key (.blob false ((List.range m).foldl (fun t i => (t.filter fun e => e.1 < off + i) ++ (off + i, bs.getD i 0) :: t.filter fun e => off + i < e.1) t))
  | _ => if s.blobDflt key off = 0 then s.putBlob die key (.blob true (put []))
         else s.putBlob die key (.blob false ((List.range m).map fun i => (off + i, bs.getD i 0)))

/-- The table index of an array object's item: the index step of 256 in a key. -/
def atIndex (key n : Nat) : Nat := key + 256 * n

/-- A rectangle of Table 7.7: x, y, width, height. -/
structure Rect where
  x : Nat
  y : Nat
  w : Nat
  h : Nat
  deriving DecidableEq, Repr, Inhabited

/-- A rectangle from its U64. -/
def rectOf (v : Nat) : Rect := { x := bits v 15 0, y := bits v 31 16, w := bits v 47 32, h := bits v 63 48 }

/-- Is a point in a rectangle? -/
def inRect (r : Rect) (x y : Nat) : Bool := decide (r.x ≤ x) && decide (x < r.x + r.w) && decide (r.y ≤ y) && decide (y < r.y + r.h)

/-- Do two rectangles meet? -/
def rectMeet (a b : Rect) : Bool :=
  decide (a.x < b.x + b.w) && decide (b.x < a.x + a.w) && decide (a.y < b.y + b.h) && decide (b.y < a.y + a.h)

/-- Does a rectangle lie in another? -/
def rectIn (a b : Rect) : Bool := decide (b.x ≤ a.x) && decide (a.x + a.w ≤ b.x + b.w) && decide (b.y ≤ a.y) && decide (a.y + a.h ≤ b.y + b.h)

/-- A splice descriptor (Table 9.2). -/
structure Splice where
  ver    : Nat
  format : Nat
  order  : Nat
  rect   : Rect
  band   : Nat
  deriving DecidableEq, Repr, Inhabited

/-- The splice descriptor in a BLOB. -/
def State.spliceIn (s : State) (key : Nat) : Splice :=
  let n (o k : Nat) := s.blobNum 0 key o k
  { ver := n 0 1, format := n 1 1, order := n 2 1, rect := { x := n 4 2, y := n 6 2, w := n 8 2, h := n 10 2 }, band := n 12 2 }

/-- The bands N of a region (R269). -/
def spliceBands (d : Splice) : Nat := ceilDiv d.rect.h (max 1 d.band)

/-- The lines of band `b`. -/
def bandLines (d : Splice) (b : Nat) : Nat := min ((b + 1) * d.band) d.rect.h - b * d.band

/-- The pixels of band `b`. -/
def bandPixels (d : Splice) (b : Nat) : Nat := bandLines d b * d.rect.w

/-- The bytes of band `b` (R269). -/
def bandBytes (d : Splice) (b : Nat) : Nat := if d.format = 0 then 6 * bandPixels d b else ceilDiv (30 * bandPixels d b) 8

/-- The PIXEL cells of band `b`. -/
def bandCells (d : Splice) (b : Nat) : Nat := ceilDiv (bandBytes d b) 244

/-- The expected cell count of the region. -/
def regionCells (d : Splice) : Nat := ((List.range (spliceBands d)).map (bandCells d)).sum

/-- The bytes of the region. -/
def regionBytes (d : Splice) : Nat := ((List.range (spliceBands d)).map (bandBytes d)).sum

/-- A descriptor that reason 0x40 refuses (Table 9.8). -/
def spliceBad (d : Splice) : Bool :=
  1 < d.ver || (d.ver = 1 && (1 < d.format || 1 < d.order || d.rect.w = 0 || d.rect.h = 0 || d.band = 0 || 1024 < spliceBands d))

/-- A descriptor that a view-frame can be received by (R270). -/
def spliceUsable (d : Splice) : Bool := d.ver = 1 && !spliceBad d

/-- Pixel `i` of band `b`, in region coordinates (R269). -/
def bandPixelAt (d : Splice) (b i : Nat) : Nat × Nat :=
  if d.order = 0 then (i % max 1 d.rect.w, b * d.band + i / max 1 d.rect.w)
  else (i / max 1 (bandLines d b), b * d.band + i % max 1 (bandLines d b))

/-- The band and the pixel number of a region pixel. -/
def pixelInBand (d : Splice) (x y : Nat) : Nat × Nat :=
  let b := y / max 1 d.band
  let r := y - b * d.band
  (b, if d.order = 0 then r * d.rect.w + x else x * bandLines d b + r)

end Sys2Proof.Machine
end

