-- ==== Sys2Proof/Machine/Launch.lean ====
section
/-! DEFINITION. Launch and views (chapter 6): the frame schedule and how two schedules join, the values a view-frame uses, the launch lead, fades, LAY_EVT edges. -/

namespace Sys2Proof.Machine

/-! The frame schedule (R181-R188) -/

/-- A time on the grid of R77, from a quotient of Lay units; halfway goes to the later point. -/
def gridQuot (n : Int) (d : Nat) : Int := (2 * n + d * layGrid) / (2 * d * layGrid) * layGrid

/-- The launch time of view `v` in frame `k` (R181), in Lay units. -/
def schedLaunch (c : Sched) (k : Int) (v : Nat) : Int :=
  gridQuot ((c.origin + (c.offs.getD v 0 : Nat) * layNs) * c.den + k * (c.num * layNs : Nat)) c.den

/-- The frame in whose period a Lay time lies. -/
def schedFrame (c : Sched) (t : Int) : Int := (t - c.origin) * c.den / (c.num * layNs : Nat)

/-- Half a frame period, in Lay units, rounded up. -/
def schedHalf (c : Sched) : Int := (c.num * layNs + 2 * c.den - 1) / (2 * c.den) |> Int.ofNat

/-- The length of the slot of view `v` (R183), in 1 ÷ den ns. -/
def schedSlot (c : Sched) (v : Nat) : Int :=
  if v + 1 < c.count then ((c.offs.getD (v + 1) 0 : Int) - c.offs.getD v 0) * c.den else (c.num : Int) - (c.offs.getD v 0 : Nat) * c.den

/-- The views that are lit. -/
def schedLit (c : Sched) : List Nat := (List.range c.count).filter fun v => !bit c.dark v

/-- Do numbers rise strictly? -/
def risingInt : List Int → Bool
  | a :: b :: t => decide (a < b) && risingInt (b :: t)
  | _ => true

/-- Code 0x10 of Table 6.1: offsets not strictly rising, one at or above P, or a slot below 100 µs. -/
def schedUneven (c : Sched) : Bool :=
  !(risingInt (c.offs.map fun (n : Nat) => (n : Int))) || c.offs.any (fun o => decide (c.num ≤ o * c.den)) || (List.range c.count).any fun v => decide (schedSlot c v < 100000 * c.den)

/-- Code 0x11: more than 960 view-frames per second. -/
def schedDense (c : Sched) : Bool := decide (960 * c.num < c.count * c.den * 1000000000)

/-- Code 0x12: P outside 23.976-240 Hz. -/
def schedOutside (c : Sched) : Bool := decide (10 * c.num < 41666666 * c.den) || decide (417083334 * c.den < 10 * c.num)

/-- The longest lit slot, in ns, rounded up. -/
def schedLongest (c : Sched) : Nat := maxOr 0 ((schedLit c).map fun v => ((schedSlot c v + c.den - 1) / c.den).toNat)

/-- The shortest lit slot, in 1 ÷ den ns. -/
def schedShortest (c : Sched) : Nat := minOr 0 ((schedLit c).map fun v => (schedSlot c v).toNat)

/-- The schedule that the objects of a state give. -/
def State.sched (s : State) : Sched :=
  let n := s.pw Ob.view_count
  { num := s.pw Ob.frame_period_num, den := max 1 (s.pw Ob.frame_period_den), origin := s.int 0 Ob.frame_origin, count := n,
    offs := (List.range n).map fun v => s.pw (Ob.view_offset_ns + v), dark := s.pw Ob.view_dark }

/-- The commit states of Table 2.9. -/
abbrev cIdle := 0
abbrev cStaged := 1
abbrev cPreparing := 2
abbrev cReady := 3
abbrev cArmed := 4

/-- The commit state. -/
def State.commit (s : State) : Nat := s.pw Ob.commit_state

/-- Values laid over others. -/
def overlay (base top : SMap Value) : SMap Value := top.foldl (fun m e => smPut .dflt m e.1 e.2) base

/-- The values in force with the staged ones laid over them. -/
def State.overlaid (s : State) : SMap Value := overlay s.objs s.staged

/-- The state as a view-frame with a launch time sees it (R70, R222): the staged values of an armed commit from its first view-frame on, the values before the last commit for an earlier one. -/
def State.asOf (s : State) (t : Int) : State :=
  if s.commit = cArmed && s.corrix.eff ≤ t then { s with objs := s.overlaid }
  else match s.corrix.before with
    | some (e, o) => if t < e then { s with objs := o } else s
    | none => s

/-- The launch of the first frame of a new schedule that joins an old one at T (R187, step 2): at or after T and half a new period after the last old frame; the unchanged grid keeps its frames. -/
def joinFirst (old new : Sched) (t : Int) : Int :=
  let k0 := schedFrame old t
  let lastOld := ((List.range 3).map fun (i : Nat) => schedLaunch old (k0 + 1 - i) 0).find? (· < t)
  let same := old.num = new.num && old.den = new.den && old.origin = new.origin
  let floor := match lastOld with
    | some l => if same then t else max t (l + schedHalf new)
    | none => t
  let k1 := schedFrame new floor
  (((List.range 3).map fun (i : Nat) => schedLaunch new (k1 - 1 + i) 0).find? (floor ≤ ·)).getD (schedLaunch new (k1 + 2) 0)

/-- The eras with one more join: the last one ends, the new schedule begins (R187). -/
def joinEras (past : List Era) (cur : Era) (new : Sched) (t fixed : Int) : List Era × Era :=
  let first := joinFirst cur.sched new t
  (past ++ [{ cur with cut := some t, stop := some first }], { sched := new, fixed := fixed, start := some first })

/-- The era in force. -/
def State.era (s : State) : Era := { sched := s.sched, fixed := s.launch.fixed, start := s.launch.start }

/-- The schedule an armed commit brings, where it differs. -/
def State.armedSched (s : State) : Option Sched :=
  let c := ({ s with objs := s.overlaid } : State).sched
  if s.commit = cArmed && !(c = s.sched) then some c else none

/-- Every era known: the past ones, the one in force, and the one of an armed commit (R187, R203). -/
def State.eras (s : State) : List Era :=
  match s.armedSched with
  | some c => let j := joinEras s.launch.past s.era c s.corrix.eff s.launch.armedAt; j.1 ++ [j.2]
  | none => s.launch.past ++ [s.era]

/-- Does a bound leave a time in? -/
def under (b : Option Int) (t : Int) : Bool := match b with
  | some x => decide (t < x)
  | none => true

/-- A time held to the span in which an era's frames begin. -/
def Era.near (e : Era) (t : Int) : Int :=
  let a := match e.start with
    | some x => max x t
    | none => t
  match e.cut with
  | some x => min x a
  | none => a

/-- The view-frames of an era from `back` frames before a time to `ahead` frames after it (R187, step 3); of an era that begins later or has ended, those at its beginning or end. -/
def eraVfs (e : Era) (t : Int) (back ahead : Nat) : List Vf :=
  let k0 := schedFrame e.sched (e.near t)
  (List.range (back + ahead + 1)).flatMap fun (i : Nat) =>
    let k := k0 - back + i
    let l0 := schedLaunch e.sched k 0
    if !(under e.cut l0) || (match e.start with
      | some x => decide (l0 < x)
      | none => false) then []
    else ((List.range e.sched.count).map fun v =>
      ({ at_ := schedLaunch e.sched k v, frame := (k % 4294967296).toNat, view := v, dark := bit e.sched.dark v } : Vf)).filter fun x => under e.stop x.at_

/-- The view-frames around a time, in launch order. -/
def State.vfsAround (s : State) (t : Int) (back ahead : Nat) : List Vf := s.eras.flatMap fun e => eraVfs e t back ahead

/-- The first view-frame that launches after a time. -/
def State.vfAfter (s : State) (t : Int) : Option Vf := (s.vfsAround t 1 2).find? fun v => t < v.at_

/-- The last view-frame that launches at or before a time. -/
def State.vfBefore (s : State) (t : Int) : Option Vf := (s.vfsAround t 3 1).reverse.find? fun v => v.at_ ≤ t

/-- The view-frame before another. -/
def State.vfPrev (s : State) (v : Vf) : Option Vf := s.vfBefore (v.at_ - 1)

/-- The slot of a view-frame (R183, R187), in Lay units. -/
def State.slotOf (s : State) (v : Vf) : Nat := match s.vfAfter v.at_ with
  | some n => (n.at_ - v.at_).toNat
  | none => 0

/-- Is a Lay time of the schedule reached? -/
def State.reached (s : State) (t : Int) : Bool := decide (t ≤ s.layNow)

/-- Has a die reached a Lay time by its own Lay clock (R105)? -/
def State.reachedOn (s : State) (die : Nat) (t : Int) : Bool := decide (t ≤ s.layOf die)

/-- A flag of a die's launch_flags. -/
def State.launchFlag (s : State) (die i : Nat) : State := s.raise die Ob.launch_flags i

/-! The launch lead (R189) -/

/-- The launch lead L, in Lay units. -/
def State.lead (s : State) : Nat :=
  let l := s.pw Ob.launch_lead_ns
  if l = 0 then s.sched.num * layNs / s.sched.den + 200000 * layNs else l * layNs

/-- launch_lead_min_ns of a head: 3.0 µs + n × 520 ns + 4.4 µs + the longest lit slot, n being the largest enum_count of its chain ports. -/
def State.leadMin (s : State) : Nat :=
  if s.isHead then
    let n := maxOr 0 ((s.portList.filter fun p => s.role p = 0).map fun p => s.nat (p / 16) (atPort Ob.enum_count p))
    7400 + n * 520 + schedLongest s.sched
  else 0

/-- A head whose lead is below its minimum sets LEAD_SHORT. -/
def State.checkLead (s : State) : State :=
  let s1 := s.set Ob.launch_lead_min_ns s.leadMin
  if s1.isHead && s1.lead < s1.leadMin * layNs then s1.launchFlag 0 4 else s1

/-- A head's send start of a view-frame. -/
def State.sendStartOf (s : State) (v : Vf) : Int := v.at_ - (s.asOf v.at_).lead

/-! Fades (R205, R206) -/

/-- Bits of the logarithmic gain, from bit `k` down onto `r`: the most `g` with g − 1/2 at most a^(1 − p) × b^p, for `goal` the logarithm of that value times `pd`. -/
def logGainBits (goal pd : Nat) : Nat → Nat → Nat
  | 0, r => r
  | k + 1, r => if log2Fix (2 * (r + 2 ^ k) - 1) * pd ≤ pd * 2 ^ 64 + goal then logGainBits goal pd k (r + 2 ^ k) else logGainBits goal pd k r

/-- a × (b ÷ a)^(pn ÷ pd), rounded to the nearest unit. -/
def logGain (a b pn pd : Nat) : Nat := logGainBits ((pd - pn) * log2Fix a + pn * log2Fix b) pd 17 0

/-- (level ÷ 65,536)^(1/γ) with 64 fraction bits, γ = n ÷ 256. -/
def levelRoot (level n : Nat) : Nat :=
  if level = 0 then 0 else powBits (64 * 2 ^ 64 - (16 * 2 ^ 64 - log2Fix level) * 256 / n) 65 0

/-- Bits of the gamma gain: the most `g` whose half unit below, to the power 1/γ, is at most x (its scaled logarithm `lx`, slack included). -/
def gammaBits (n lx : Nat) : Nat → Nat → Nat
  | 0, r => r
  | k + 1, r => if 256 * log2Fix (2 * (r + 2 ^ k) - 1) + n * 64 * 2 ^ 64 ≤ lx then gammaBits n lx k (r + 2 ^ k) else gammaBits n lx k r

/-- The gamma gain (R205) on levels normalised to unity; a value within 2^-36 of a half unit goes the way of a free value, the arithmetic of the part not being given (log entry 9). -/
def gammaGain (f goal n pn pd : Nat) : Nat :=
  let x := (levelRoot f n * (pd - pn) + levelRoot goal n * pn) / pd
  let lx := n * log2Fix x + 256 * 17 * 2 ^ 64
  let lo := gammaBits n (lx - 2 ^ 36) 17 0
  let hi := gammaBits n (lx + 2 ^ 36) 17 0
  if lo = hi then lo else if Config.fadeTie f goal n pn pd then hi else lo

/-- The gain of the fade objects of a state at a launch time, from a start level. -/
def State.fadeFrom (s : State) (f : Nat) (t : Int) : Nat :=
  let dur := s.pw Ob.fade_duration_ms * 1000000 * layNs
  let gone := t - s.int 0 Ob.fade_start
  let goal := s.pw Ob.fade_to
  if gone < 0 then f
  else if (dur : Int) ≤ gone then goal
  else if gone = 0 then f
  else if s.pw Ob.fade_curve = 0 then logGain (max f 1) (max goal 1) gone.toNat dur
  else gammaGain f goal (s.pw Ob.fade_gamma) gone.toNat dur

/-- The gain of the fade in force at a launch time. -/
def State.fadeInForce (s : State) (t : Int) : Nat := s.fadeFrom s.launch.fadeF t

/-- The start level the fade objects of a commit at T take (R205). -/
def State.fadeLevel (s : State) (new : State) (t : Int) : Nat :=
  if new.on 0 Ob.fade_from_current then s.fadeInForce t else new.pw Ob.fade_from

/-- Does a commit stage a fade object? -/
def State.stagesFade (s : State) : Bool := s.staged.any fun e => Ob.fade_start ≤ e.1 && e.1 ≤ Ob.fade_gamma

/-- The fade gain of a view-frame at its launch time: of the fade of an armed commit, of the one in force, or for a launch before the last commit's first view-frame of the one before it (R206). -/
def State.fadeAt (s : State) (t : Int) : Nat :=
  let n := s.asOf t
  if s.commit = cArmed && s.corrix.eff ≤ t then (if s.stagesFade then n.fadeFrom (s.fadeLevel n (s.pw Ob.commit_launch)) t else n.fadeInForce t)
  else match s.corrix.before with
    | some (e, _) => if t < e then n.fadeFrom s.launch.fadeOld t else n.fadeInForce t
    | none => n.fadeInForce t

/-! LAY_EVT outputs (R111, R112, R203, R260) -/

/-- The settings of an output: mode, start, period num and den, width, view mask, view delay, polarity. -/
def State.evtVals (s : State) (x : Nat) : List Int :=
  [Ob.lay_evt_mode, Ob.lay_evt_start, Ob.lay_evt_period_num, Ob.lay_evt_period_den, Ob.lay_evt_width_ns, Ob.view_evt_mask, Ob.view_evt_delay_ns, Ob.lay_evt_polarity].map fun k => s.int 0 (k + x)

/-- An output beside its objects. -/
def State.evt (s : State) (x : Nat) : EvtSt := smGet {} s.lay.evts x

/-- An output changed. -/
def State.setEvt (s : State) (x : Nat) (f : EvtSt → EvtSt) : State :=
  { s with lay := { s.lay with evts := smPut {} s.lay.evts x (f (s.evt x)) } }

/-- From when on the settings of an output make edges: 1 ms after the last write (R112). -/
def EvtSt.wrote1ms (e : EvtSt) : Int := match e.wroteAt with
  | some w => w + 1000000 * layNs
  | none => 0

/-- A LAY_EVT object of an output is about to be written (R112): its present settings hold for 1 ms more, unless an earlier write still holds them back. -/
def State.evtTouched (s : State) (x : Nat) : State :=
  s.setEvt x fun e => { e with olds := (s.now, (s.evtVals x).set 1 ((s.evtVals x).getD 1 0 + e.shift) ++ [e.wrote1ms]) :: e.olds.filter fun o => !(s.past o.1 1000000), wroteAt := some s.layNow, shift := 0 }

/-- The pulses of mode 3: the launches of the views of the mask, moved by the delay, each fixed 1 ms before its pulse (R203). -/
def State.viewPulses (s : State) (mask delay t : Int) : List Int :=
  s.eras.flatMap fun e =>
    ((eraVfs e t 2 2).filter fun v => bit mask.toNat v.view).filterMap fun v =>
      let p := gridQuot (v.at_ + delay * layNs) 1
      if e.fixed + 1000000 * layNs ≤ p || e.start.isNone then some p else none

/-- The pulse starts of settings near a time. -/
def State.evtStarts (s : State) (x : Nat) (vals : List Int) (t : Int) : List Int :=
  let g (i : Nat) := vals.getD i 0
  let start := g 1 + (s.evt x).shift
  if g 0 = 1 then [gridQuot start 1]
  else if g 0 = 2 then
    let k := (t - start) * g 3 / (max 1 (g 2) * layNs)
    ((List.range 3).map fun (i : Nat) => k - 1 + (i : Int)).filterMap fun j => if 0 ≤ j then some (gridQuot (start * g 3 + j * (g 2 * layNs)) (g 3).toNat) else none
  else if g 0 = 3 then s.viewPulses (g 5) (g 6) t
  else if g 0 = 4 then [t / laySec * laySec]
  else []

/-- The settings that make edges now, with the time from which on they do: those of before the oldest write that is not 1 ms old, with no edge of modes 1 and 2. -/
def State.evtNow (s : State) (x : Nat) : List Int :=
  match ((s.evt x).olds.filter fun o => !(s.past o.1 1000000)).getLast? with
  | some (_, o) => if o.headD 0 = 1 || o.headD 0 = 2 then [0] else o
  | none => s.evtVals x ++ [(s.evt x).wrote1ms]

/-- Can a pulse of settings start at a time: not before the first edge that falls 1 ms after the write that made them (R112)? -/
def evtFree (vals : List Int) (at_ : Int) : Bool := decide (vals.getD 8 0 ≤ at_)

/-- LAY_EVT_EDGE: an output follows its settings and the pulses of captures; a pulse in progress completes, with the polarity it began with. Edges fall on the grid of R77. A write of
lay_evt_polarity moves no level by itself: an idle output keeps its level until its next edge (DESIGN CHOICE, log entry 116). -/
def State.layEvtEdge (s : State) (x : Nat) : State :=
  if 4 ≤ x then s
  else
    let t : Int := s.layNow
    let v := s.evtNow x
    let e := s.evt x
    let hit := ((s.evtStarts x v t).filter fun a => e.lastAt < a && a ≤ t && evtFree v a).getLast?
    let endAt := match hit with
      | some a => some (a + v.getD 4 0 * layNs)
      | none => e.endAt
    let own := match endAt with
      | some b => decide (t < b)
      | none => false
    let cap := e.pulses.find? fun p => decide (p.1 ≤ t) && decide (t < p.1 + p.2.1 * layNs)
    let ended := ((e.pulses.map fun (p : Int × Nat × Nat) => p.1 + p.2.1 * layNs).filter fun b => decide (b ≤ t)).getLast?
    let lvl := v.headD 0 = 5 && (s.layState = layLocked || s.layState = layRoot)
    let on := own || cap.isSome || lvl
    let when_ := if on then hit.getD ((cap.map (·.1)).getD t) else endAt.getD (ended.getD t)
    let pol := if on && !e.level then v.getD 7 (s.int 0 (Ob.lay_evt_polarity + x)) ≠ 0 else e.pol
    let s1 := s.setEvt x fun e => { e with level := on, pol := pol, endAt := if own then endAt else none, lastAt := hit.getD e.lastAt,
                                           pulses := e.pulses.filter fun p => decide (t < p.1 + p.2.1 * layNs) }
    if on = e.level then s1 else s1.emit (.edge x (on != pol) (gridQuot when_ 1).toNat)

end Sys2Proof.Machine
end

