-- ==== Sys2Proof/Machine/Compose.lean ====
section
/-! DEFINITION. Head composition (chapter 7): conversion to linear light, scaling, blending and encoding of a pixel; stripes; sources and their frames; the send start of a view-frame;
the packer's bands and region CRC. -/

namespace Sys2Proof.Machine

/-- 1.0 of the internal values of Table 7.1 (log entry 11). -/
abbrev one24 : Nat := 16777215

/-- A value held to 0-1.0. -/
def unit24 (v : Int) : Nat := (clampInt 0 one24 v).toNat

/-! Canvas, owned region, stripes (R209, R210) -/

/-- The owned region; a width or height of 0 reaches the canvas edge. -/
def State.ownRect (s : State) : Rect :=
  let x := s.pw Ob.own_region
  let y := s.pw (Ob.own_region + 1)
  let w := s.pw (Ob.own_region + 2)
  let h := s.pw (Ob.own_region + 3)
  { x := x, y := y, w := if w = 0 then s.pw Ob.canvas_width - x else w, h := if h = 0 then s.pw Ob.canvas_height - y else h }

/-- Is the default stripe division selected? -/
def State.stripesDflt (s : State) : Bool := s.dieList.all fun d => s.pw (Ob.stripe_start + d) = 0xFFFF

/-- The first column of a die's stripe. -/
def State.stripeStart (s : State) (die : Nat) : Nat :=
  let r := s.ownRect
  if s.stripesDflt then r.x + 8 * (die * r.w / (8 * s.dies)) else s.pw (Ob.stripe_start + die)

/-- A die's stripe: what lies in the owned region from its start to the start of the next (R210). -/
def State.stripe (s : State) (die : Nat) : Rect :=
  let r := s.ownRect
  let a := min (r.x + r.w) (s.stripeStart die)
  let b := if die + 1 < s.dies then min (r.x + r.w) (s.stripeStart (die + 1)) else r.x + r.w
  { x := a, y := r.y, w := b - a, h := r.h }

/-- The video layers, and the graphic layers, of the variant. -/
def State.layerCount (s : State) : Nat := if s.fuses.variant = 0x88 then 32 else if s.fuses.variant = 0x84 then 16 else 0

/-- The sources of the variant. -/
def State.sourceCount (s : State) : Nat := 2 * s.layerCount

/-- An item of a table, by index. -/
def State.at_ (s : State) (key n : Nat) : Nat := s.pw (atIndex key n)

/-- Is a video layer shown in a view? -/
def State.vlOn (s : State) (n v : Nat) : Bool := s.at_ Ob.vl_enable n = 1 && bit (s.at_ Ob.vl_views n) v

/-- Is a graphic layer shown in a view? -/
def State.glOn (s : State) (n v : Nat) : Bool := s.at_ Ob.gl_enable n = 1 && bit (s.at_ Ob.gl_views n) v

/-- The canvas rectangle of a video layer. -/
def State.vlDst (s : State) (n : Nat) : Rect := rectOf (s.at_ Ob.vl_dst_rect n)

/-- The canvas rectangle of a graphic layer. -/
def State.glDst (s : State) (n : Nat) : Rect := rectOf (s.at_ Ob.gl_dst_rect n)

/-- The samples of a frame of a source: 4:2:2 has 2 a pixel, the others 3. -/
def State.samplesOf (s : State) (src : Nat) : Nat :=
  let z := s.at_ Ob.src_size src
  let px := bits z 15 0 * bits z 31 16
  if s.at_ Ob.src_type src = 1 && s.at_ Ob.src_format src % 4 = 0 then 2 * px else 3 * px

/-! Conversion to linear light (Table 7.1) -/

/-- A sample's code; 0 where none is held. -/
def codeAt (m : SMap Nat) (i : Nat) : Nat := smGet 0 m i - 1

/-- The Y′, Cb, Cr (or R′, G′, B′) codes of a source pixel, chroma upsampled (step 1). Samples run Cb, Y, Cr, Y in 4:2:2, component by component in the others. -/
def State.pixelCodes (s : State) (src : Nat) (m : SMap Nat) (x y : Nat) : Nat × Nat × Nat :=
  let z := s.at_ Ob.src_size src
  let w := bits z 15 0
  if s.at_ Ob.src_format src % 4 = 0 then
    let pair (p : Nat) (k : Nat) := codeAt m ((y * w + 2 * p) / 2 * 4 + k)
    let lum := pair (x / 2) (if x % 2 = 0 then 1 else 3)
    let last := (w - 1) / 2
    let ch (k : Nat) := if x % 2 = 0 then pair (x / 2) k
      else Config.chromaTap (pair (x / 2 - 1) k) (pair (x / 2) k) (pair (min last (x / 2 + 1)) k) (pair (min last (x / 2 + 2)) k)
    (lum, ch 0, ch 2)
  else
    let b := (y * w + x) * 3
    (codeAt m b, codeAt m (b + 1), codeAt m (b + 2))

/-- A code as a part of its full range, with 64 fraction bits, rounded (step 2); `chroma` codes are about 0. -/
def rangeCode (depth12 full chroma : Bool) (c : Nat) : Int :=
  let k : Nat := if depth12 then 4 else 1
  let base : Nat := if chroma then 512 * k else if full then 0 else 64 * k
  roundDivInt (((c : Int) - base) * q64) (if full then 1024 * k - 1 else if chroma then 896 * k else 876 * k)

/-- A 3 × 3 matrix of s2.13 applied, rounded to the nearest. -/
def matrix13 (e : Nat → Nat → Int) (v : Int × Int × Int) : Int × Int × Int :=
  let row (i : Nat) := roundDivInt (e i 0 * v.1 + e i 1 * v.2.1 + e i 2 * v.2.2) 8192
  (row 0, row 1, row 2)

/-- Primaries converted (step 5); then values are held to 0-1.0. -/
def gamut (src dst : Nat) (v : Int × Int × Int) : Nat × Nat × Nat :=
  let row (i : Nat) := roundDivInt (gamutEntry src i 0 * v.1 + gamutEntry src i 1 * v.2.1 + gamutEntry src i 2 * v.2.2) 16777216
  let g := if src = dst then v else (row 0, row 1, row 2)
  (unit24 g.1, unit24 g.2.1, unit24 g.2.2)

/-- The transfer of three codes with 64 fraction bits (step 4, with the scale of step 6). -/
def State.transfer (s : State) (kind : Nat) (v : Int × Int × Int) : Int × Int × Int :=
  transferUnits kind (s.pw Ob.sdr_white) (s.pw Ob.canvas_linear_peak) v

/-- An ST 2110 pixel in linear light. -/
def State.flowPixel (s : State) (src : Nat) (m : SMap Nat) (x y : Nat) : Nat × Nat × Nat :=
  let f := s.at_ Ob.src_format src
  let c := s.pixelCodes src m x y
  let k := f % 4
  let rg (chroma : Bool) := rangeCode (bit f 2) (bit f 7) chroma
  let rgb := if k = 2 then (rg false c.1, rg false c.2.1, rg false c.2.2)
    else if bit f 6 then ycbcrRgb 2627 593 (rg false c.1, rg true c.2.1, rg true c.2.2)
    else ycbcrRgb 2126 722 (rg false c.1, rg true c.2.1, rg true c.2.2)
  gamut (b2n (bit f 6)) (s.pw Ob.canvas_primaries) (s.transfer (if bits f 5 4 = 3 then 4 else bits f 5 4) rgb)

/-- The stream a camera source names (R228, R241). -/
def State.sourceStream (s : State) (src : Nat) : Nat := let p := s.at_ Ob.src_port src; 4 * (p % 16) + bits p 5 4

/-- A camera pixel in linear light: only steps 5 and 6 (R218, R252). -/
def State.cameraPixel (s : State) (src : Nat) (f : FrameBuf) (x y : Nat) : Nat × Nat × Nat :=
  let b := (y * bits (s.at_ Ob.src_size src) 15 0 + x) * 3
  let v (i : Nat) : Int := (roundDiv (codeAt f.data (b + i) * f.peak * one24) (65535 * max 1 (s.pw Ob.canvas_linear_peak)) : Nat)
  gamut f.prim (s.pw Ob.canvas_primaries) (v 0, v 1, v 2)

/-- A PQ code decoded under the canvas peak, in 1/16,777,215. -/
def State.pqUnit (s : State) (c : Nat) : Nat := min (unitOf (pqLight (c * q64 / 1023)) 10000 (s.pw Ob.canvas_linear_peak)) one24

/-- A canvas import's pixel (the inverse of R220). Its samples are the three codes of each pixel. -/
def State.importPixel (s : State) (src : Nat) (f : FrameBuf) (x y : Nat) : Nat × Nat × Nat :=
  let b := (y * bits (s.at_ Ob.src_size src) 15 0 + x) * 3
  let v (i : Nat) := if f.pq then s.pqUnit (codeAt f.data (b + i)) else roundDiv (codeAt f.data (b + i) * one24) 65535
  (v 0, v 1, v 2)

/-- A source pixel in linear light. -/
def State.sourcePixel (s : State) (src : Nat) (f : FrameBuf) (x y : Nat) : Nat × Nat × Nat :=
  match s.at_ Ob.src_type src with
  | 1 => s.flowPixel src f.data x y
  | 2 => s.cameraPixel src f x y
  | _ => s.importPixel src f x y

/-! Scaling (R214, R215) -/

/-- A destination position's source index (relative to the crop) and phase: s = (x + 0.5) × sw ÷ dw − 0.5. -/
def scalePos (x sw dw : Nat) : Int × Nat :=
  let n : Int := (2 * x + 1) * sw - dw
  let d : Int := 2 * dw
  let i := n / d
  let ph := ((128 * (n - i * d) + d) / (2 * d)).toNat
  if ph = 64 then (i + 1, 0) else (i, ph)

/-- A coefficient, in 1/4,096: axis 0 horizontal with 8 taps, 1 vertical with 6. -/
def State.coef (s : State) (filter axis src dst ph tap : Nat) : Int :=
  let mid := if axis = 0 then 3 else 2
  if filter = 0 then (if src ≤ dst then Config.sincTap axis 1 1 ph tap else Config.sincTap axis (src / Nat.gcd src dst) (dst / Nat.gcd src dst) ph tap)
  else if filter = 1 then (if tap = mid then 64 * (64 - ph : Nat) else if tap = mid + 1 then (64 * ph : Nat) else 0)
  else
    let n := if axis = 0 then 8 else 6
    toSigned 16 (s.blobNum 0 (atIndex (if axis = 0 then Ob.filter_h else Ob.filter_v) (filter - 2)) (2 * (ph * n + tap)) 2)

/-- A position held to a crop's edge. -/
def edge (i : Int) (n : Nat) : Nat := (clampInt 0 ((n : Int) - 1) i).toNat

/-- A filter over taps: the sum in 1/4,096, rounded, never below 0. -/
def tapSum (l : List (Int × Nat)) : Nat := (max 0 (roundDivInt (l.map fun e => e.1 * (e.2 : Int)).sum 4096)).toNat

/-- A component of a video layer at a destination pixel: the vertical pass, then the horizontal one. -/
def State.scaled (s : State) (filter : Nat) (crop dst : Rect) (px : Nat → Nat → Nat) (x y : Nat) : Nat :=
  let h := scalePos x crop.w dst.w
  let v := scalePos y crop.h dst.h
  let col (c : Nat) : Nat := tapSum ((List.range 6).map fun t =>
    (s.coef filter 1 crop.h dst.h v.2 t, px (crop.x + c) (crop.y + edge (v.1 - 2 + t) crop.h)))
  tapSum ((List.range 8).map fun t => (s.coef filter 0 crop.w dst.w h.2 t, col (edge (h.1 - 3 + t) crop.w)))

/-- A video layer's pixel. -/
def State.videoPixel (s : State) (n : Nat) (m : FrameBuf) (x y : Nat) : Nat × Nat × Nat :=
  let dst := s.vlDst n
  let crop := rectOf (s.at_ Ob.vl_src_rect n)
  let src := s.at_ Ob.vl_source n
  let f := s.at_ Ob.vl_filter n
  let g (pick : Nat × Nat × Nat → Nat) := min one24 (s.scaled f crop dst (fun a b => pick (s.sourcePixel src m a b)) (x - dst.x) (y - dst.y))
  (g (·.1), g (·.2.1), g (·.2.2))

/-! Graphic layers and blending (R216, R219) -/

/-- A graphic layer's pixel: linear colour, alpha and the largest alpha; outside the surface it is transparent. -/
def State.surfacePixel (s : State) (n x y : Nat) : (Nat × Nat × Nat) × Nat × Nat :=
  let g := s.at_ Ob.gl_surface n
  let dst := s.glDst n
  let o := s.at_ Ob.gl_src_xy n
  let sx := bits o 15 0 + (x - dst.x)
  let sy := bits o 31 16 + (y - dst.y)
  let w := s.at_ Ob.gs_width g
  if w ≤ sx || s.at_ Ob.gs_height g ≤ sy then ((0, 0, 0), 0, 1)
  else
    let p := s.blobNum 0 (atIndex Ob.gs_data g) ((sy * w + sx) * 4) 4
    let deep := s.at_ Ob.gs_format g = 1
    let c (i : Nat) : Int := (roundDiv ((if deep then bits p (10 * i + 9) (10 * i) else bits p (8 * i + 7) (8 * i)) * q64) (if deep then 1023 else 255) : Nat)
    let tr := s.at_ Ob.gs_transfer g
    let col := gamut (Config.surfacePrimaries tr) (s.pw Ob.canvas_primaries) (s.transfer (if tr = 0 then 3 else if tr = 1 then 1 else 4) (c 2, c 1, c 0))
    (col, if deep then bits p 31 30 else bits p 31 24, if deep then 3 else 255)

/-- A layer blended over a value: `w ÷ full` of the value below is covered, `add ÷ full` of the layer is added. -/
def blend (d c w add full : Nat) : Nat := min one24 (roundDiv (d * (full - w) + c * add) full)

/-- Three components blended alike. -/
def blend3 (d c : Nat × Nat × Nat) (w add full : Nat) : Nat × Nat × Nat :=
  (blend d.1 c.1 w add full, blend d.2.1 c.2.1 w add full, blend d.2.2 c.2.2 w add full)

/-- The layers of a view in drawing order (R213): rising z, video before graphic, lower number first. Each is (z × 2 + graphic, number). -/
def State.drawOrder (s : State) (v : Nat) : List (Nat × Nat) :=
  let ns := List.range s.layerCount
  (List.range 128).flatMap fun k =>
    (if k % 2 = 0 then ns.filter fun n => s.vlOn n v && s.at_ Ob.vl_z n = k / 2 else ns.filter fun n => s.glOn n v && s.at_ Ob.gl_z n = k / 2).map fun n => (k, n)

/-- Is a canvas position within the canvas and the owned region, to which a layer is clipped (R213)? -/
def State.drawn (s : State) (x y : Nat) : Bool := decide (x < s.pw Ob.canvas_width) && decide (y < s.pw Ob.canvas_height) && inRect s.ownRect x y

/-- A composed pixel of a view, in linear light (R213, R219). -/
def State.composePixel (s : State) (w : Work) (x y : Nat) : Nat × Nat × Nat :=
  let bg := s.pw (Ob.bg_colour + w.view)
  let base := (roundDiv (bits bg 15 0 * one24) 65535, roundDiv (bits bg 31 16 * one24) 65535, roundDiv (bits bg 47 32 * one24) 65535)
  (if s.drawn x y then s.drawOrder w.view else []).foldl (fun d l =>
    if l.1 % 2 = 0 then
      let la := s.at_ Ob.vl_alpha l.2
      let m := smGet {} w.src (s.at_ Ob.vl_source l.2)
      if !(inRect (s.vlDst l.2) x y) || m.data.isEmpty then d else blend3 d (s.videoPixel l.2 m x y) la la 1023
    else if !(inRect (s.glDst l.2) x y) then d
    else
      let p := s.surfacePixel l.2 x y
      let la := s.at_ Ob.gl_alpha l.2
      blend3 d p.1 (p.2.1 * la) (if s.at_ Ob.gl_alpha_mode l.2 = 0 then p.2.1 * la else p.2.2 * la) (p.2.2 * 1023)) base

/-! Encoding (R220, R221) -/

/-- A component's code in a canvas format. -/
def State.encodeUnit (s : State) (format v : Nat) : Nat := if format = 0 then roundDiv (v * 65535) one24 else pqEncode (s.pw Ob.canvas_linear_peak) v

/-- Pixels as a byte stream: RGB48L 6 bytes each, RGB30P 30 bits each. -/
def packPixels (format : Nat) (l : List (Nat × Nat × Nat)) : List Byte :=
  if format = 0 then l.flatMap fun p => leBytes 2 p.1 ++ leBytes 2 p.2.1 ++ leBytes 2 p.2.2
  else leBytes (ceilDiv (30 * l.length) 8) (l.foldr (fun p a => p.1 % 1024 + p.2.1 % 1024 * 1024 + p.2.2 % 1024 * 1048576 + a * 1073741824) 0)

/-- Pixels of the canvas encoded for a destination. -/
def State.encodePixels (s : State) (w : Work) (format : Nat) (l : List (Nat × Nat)) : List Byte :=
  let t : State := { s with objs := w.objs }
  packPixels format (l.map fun p =>
    let c := t.composePixel w p.1 p.2
    (t.encodeUnit format c.1, t.encodeUnit format c.2.1, t.encodeUnit format c.2.2))

/-- The bytes of a band of a destination's region (R230). -/
def State.bandStream (s : State) (w : Work) (d : Splice) (b : Nat) : List Byte :=
  s.encodePixels w d.format ((List.range (bandPixels d b)).map fun i => let p := bandPixelAt d b i; (d.rect.x + p.1, d.rect.y + p.2))

/-- REGION_CRC of a destination and view-frame (R231). -/
def State.regionCrc (s : State) (w : Work) (d : Splice) : Nat :=
  crc32c ((List.range (spliceBands d)).flatMap (s.bandStream w d))

/-! Sources (R224-R229) -/

/-- A source beside its objects. -/
def State.source (s : State) (src : Nat) : SourceSt := smGet {} s.comp.sources src

/-- A source changed. -/
def State.setSource (s : State) (src : Nat) (f : SourceSt → SourceSt) : State :=
  { s with comp := { s.comp with sources := smPut {} s.comp.sources src (f (s.source src)) } }

/-- The dies that store a source: those whose stripe a layer that reads it overlaps (R211, R224). -/
def State.sourceDies (s : State) (src : Nat) : List Nat :=
  s.dieList.filter fun d => (List.range s.layerCount).any fun n => s.at_ Ob.vl_enable n = 1 && s.at_ Ob.vl_source n = src && rectMeet (s.vlDst n) (s.stripe d)

/-- A flag of a source set on the dies that store it; on the die of its port where none does. -/
def State.sourceFlag (s : State) (src i : Nat) : State :=
  let ds := s.sourceDies src
  s.each (if ds.isEmpty then [s.at_ Ob.src_port src % 16] else ds) fun d s => if d < s.dies then s.raise d Ob.compose_flags i else s

/-- A source frame complete (R224): counted, newest, its RTP time recorded; a newest frame that was never latched is counted skipped. An import is followed view by view (latchImport). -/
def State.frameDone (s : State) (src : Nat) (b : FrameBuf) : State :=
  let o := s.source src
  let s1 := (s.bump 0 (atIndex Ob.src_frames src)).when (o.newest.isSome && !o.used && s.at_ Ob.src_type src ≠ 3) fun s => s.bump 0 (atIndex Ob.src_skips src)
  s1.setSource src fun o => { o with newest := some { b with id := o.nextId }, nextId := o.nextId + 1, used := false, lastAt := s.now, stale := false }

/-- The PTP time an RTP timestamp stands for (Table 7.4): the 90 kHz instant nearest the domain clock, in Lay units. -/
def State.rtpTime (s : State) (src time : Nat) : Nat :=
  let t := s.ptpTime (s.at_ Ob.src_ptp src) * 90000 / laySec
  let d := toSigned 32 ((time + 4294967296 - t % 4294967296) % 4294967296)
  (((t : Int) + d).toNat) * laySec / 90000

/-- Is every sample of a frame held? -/
def State.wholeFrame (s : State) (src : Nat) (w : PktWork) : Bool := !w.over_ && !w.bad && 0 < s.samplesOf src && w.data.length = s.samplesOf src

/-- A frame that is over: it keeps no samples and takes none. -/
def PktWork.end_ (w : PktWork) : PktWork := { w with over_ := true, data := [] }

/-- SOURCE_FRAME_COMPLETE (R224): every sample of the frame is in DRAM. -/
def State.sourceComplete (s : State) (src : Nat) : State :=
  match (s.source src).work.find? (s.wholeFrame src) with
  | some w =>
    let s1 := s.setSource src fun o => { o with work := o.work.map fun a => if a.time = w.time then a.end_ else a }
    (s1.frameDone src { time := w.time, data := w.data }).set (atIndex Ob.src_last_time src) (s.rtpTime src w.time)
  | none => s

/-- How long a source waits for the other copy of a packet, in ns; 0 with one copy (R226). -/
def State.skewNs (s : State) (src : Nat) : Nat := if s.at_ Ob.src_group_b src = 0 then 0 else s.at_ Ob.src_skew_us src * 1000

/-- Is a frame in progress damaged now (R227)? -/
def State.damaged (s : State) (src : Nat) (w : PktWork) : Bool :=
  !w.over_ && (w.bad || (!(s.wholeFrame src w) &&
    ((match w.nextAt with
      | some t => s.past t (s.skewNs src)
      | none => false) ||
     (match w.markerAt with
      | some t => s.past t 2000000
      | none => false))))

/-- SOURCE_DAMAGED (R227): a damaged frame is counted once and never latched; packets of it that still come are not used. -/
def State.sourceDamaged (s : State) (src : Nat) : State :=
  let bad := (s.source src).work.filter (s.damaged src)
  if bad.isEmpty then s
  else
    let s1 := s.setSource src fun o => { o with work := o.work.map fun w => if s.damaged src w then w.end_ else w }
    (s1.bump 0 (atIndex Ob.src_damaged src) bad.length).sourceFlag src 1

/-- Is a flow received: did a packet of it come within 4 periods of src_rate_mhz (R372; log entry 164)? -/
def State.receives (s : State) (src : Nat) : Bool := match (s.source src).pktAt with
  | some t => !(s.past t (4000000000000 / max 1 (s.at_ Ob.src_rate_mhz src)))
  | none => false

/-- SOURCE_STALE (R227): no frame completed for 4 periods of src_rate_mhz. -/
def State.sourceStale (s : State) (src : Nat) : State :=
  let o := s.source src
  if src < s.sourceCount && s.at_ Ob.src_type src ≠ 0 && s.past o.lastAt (4000000000000 / max 1 (s.at_ Ob.src_rate_mhz src)) then
    (s.setSource src fun o => { o with stale := true }).sourceFlag src 0
  else s

/-! The merge of two copies (R226) -/

/-- When a copy (0 A, 1 B) of a packet came. -/
def SeenPkt.came (e : SeenPkt) (copy : Nat) : Option Nat := if copy = 0 then e.atA else e.atB

/-- Is a copy of a packet counted lost? -/
def SeenPkt.lost (e : SeenPkt) (copy : Nat) : Bool := if copy = 0 then e.lostA else e.lostB

/-- A copy of a packet counted lost. -/
def SeenPkt.lose (e : SeenPkt) (copy : Nat) : SeenPkt := if copy = 0 then { e with lostA := true } else { e with lostB := true }

/-- A copy of a packet has come. -/
def SeenPkt.take (e : SeenPkt) (copy now : Nat) : SeenPkt := if copy = 0 then { e with atA := some (e.atA.getD now) } else { e with atB := some (e.atB.getD now) }

/-- Has one of two copies come? -/
def SeenPkt.here (e : SeenPkt) : Bool := e.atA.isSome || e.atB.isSome

/-- When the wait for a copy of a packet began: its partner, or a successor on the other path, came. -/
def awaitedSince (l : List SeenPkt) (seq copy : Nat) : Option Nat :=
  (l.filterMap fun e => if e.seq = seq || seqAfter 32 seq e.seq then e.came (1 - copy) else none).foldl (fun a t => some (match a with
    | some x => min x t
    | none => t)) none

/-- Is it too late for a copy of a packet (R226)? With one copy configured it never is. -/
def State.tooLate (s : State) (src seq copy : Nat) : Bool :=
  s.at_ Ob.src_group_b src ≠ 0 && match awaitedSince (s.source src).seen seq copy with
  | some t => decide (t + s.skewNs src < s.now)
  | none => false

/-- One lost copy counted on a path: src_path_loss holds copy A in its lower half, copy B above (R226). -/
def State.pathLoss (s : State) (src copy : Nat) : State :=
  let k := atIndex Ob.src_path_loss src
  let v := s.pw k
  let half := if copy = 0 then v % 4294967296 else v / 4294967296
  let r := if half + 1 < 4294967296 then (half + 1, s) else ((s.draw).1 % 4294967296, (s.draw).2)
  r.2.set k (if copy = 0 then v / 4294967296 * 4294967296 + r.1 else r.1 * 4294967296 + v % 4294967296)

/-- A copy that is too late counts as lost on its path, once. -/
def State.loseCopy (s : State) (src copy : Nat) (e : SeenPkt) : State :=
  if (e.came copy).isSome || e.lost copy || !(s.tooLate src e.seq copy) then s
  else (s.pathLoss src copy).setSource src fun o => { o with seen := o.seen.map fun a => if a.seq = e.seq then a.lose copy else a }

/-- Packets whose other copy, or successor on the other path, came longer than src_skew_us ago count as lost on the path where they did not come (R226). -/
def State.settleCopies (s : State) (src : Nat) : State :=
  let s1 := s.each (s.source src).seen fun e s => (s.loseCopy src 0 e).loseCopy src 1 ((((s.loseCopy src 0 e).source src).seen.find? fun a => a.seq = e.seq).getD e)
  s1.setSource src fun o => { o with seen := o.seen.filter fun e => !(s.past e.since 1000000000) }

/-- The copy that a packet is of a source: 0 A, 1 B, by destination, die and sender; none where it is of another flow (R225). -/
def State.copyOf (s : State) (src : Nat) (p : Pkt) : Option Nat :=
  let flow := p.dest % 4294967296 + p.port % 65536 * 4294967296
  let port := s.at_ Ob.src_port src
  let sender := s.at_ Ob.src_sender src
  if sender ≠ 0 && p.sender ≠ sender then none
  else if flow = s.at_ Ob.src_group_a src && p.die = bits port 3 0 then some 0
  else if s.at_ Ob.src_group_b src ≠ 0 && flow = s.at_ Ob.src_group_b src && p.die = bits port 7 4 then some 1
  else none

/-- MERGE_SKEW (R226): a copy that arrives later than src_skew_us is discarded, flagged and counts as lost. -/
def State.mergeSkew (s : State) (src : Nat) (p : Pkt) : State :=
  match s.copyOf src p with
  | none => s
  | some copy =>
    let e := ((s.source src).seen.find? fun e => e.seq = p.seq).getD { seq := p.seq, since := s.now }
    if (e.came copy).isSome || !(s.tooLate src p.seq copy) then s
    else
      let s1 := s.setSource src fun o => { o with seen := if o.seen.any fun a => a.seq = p.seq then o.seen else e :: o.seen }
      (s1.loseCopy src copy e).sourceFlag src 3

/-- The work of a die for a view-frame, in quarters of a pixel of its stripe. -/
def State.stripeWork (s : State) (w : Work) (die : Nat) : Nat := let r := ({ s with objs := w.objs } : State).stripe die; 4 * (r.w * r.h)

/-- Has a die composed its whole stripe of a view-frame? -/
def State.composedAll (s : State) (w : Work) (die : Nat) : Bool := decide (s.stripeWork w die ≤ smGet 0 w.px die)

/-- Has every die that runs composed a view-frame? -/
def State.workEnded (s : State) (w : Work) : Bool := s.aliveList.all (s.composedAll w)

/-- Is the frame that a source keeps for every view of a frame needed yet: a lit view of that frame is still to begin (R224, src_latch 1)? -/
def State.keptOn (s : State) (src : Nat) : Bool :=
  match (s.source src).heldFor with
  | some f => s.at_ Ob.src_latch src = 1 && (s.vfsAround s.layNow 3 260).any fun v => v.frame = f && !v.dark && (match s.comp.lastAt with
    | some t => decide (t < v.at_)
    | none => true)
  | none => false

/-- The frames of a source whose buffers are not to be written: the newest complete one and those latched for a view-frame that has not ended (R224). -/
def State.usedBufs (s : State) (src : Nat) : List Nat :=
  let o := s.source src
  let latched := (s.comp.works.filter fun w => !(s.workEnded w)).filterMap fun w => (w.src.find? fun e => e.1 = src).map (·.2.id)
  ((o.newest.map (·.id)).toList ++ (if s.keptOn src then (o.held.map (·.id)).toList else []) ++ latched).eraseDups

/-- The frame buffers of a source that a frame in progress may fill: 3, less those in use (R224). -/
def State.freeBufs (s : State) (src : Nat) : Nat := 3 - (s.usedBufs src).length

/-- A valid first copy taken into its frame (R224, R227). The first packet of a frame that finds no buffer free takes that of the oldest frame in progress, which is
damaged; where none is in progress the new frame itself is (log entry 132). -/
def State.takePacket (s : State) (src : Nat) (p : Pkt) : State :=
  let total := s.samplesOf src
  let fresh : PktWork := { time := p.time, firstAt := s.now, bad := s.freeBufs src = 0 }
  let known := (s.source src).work.any fun w => w.time = p.time
  let fill (w : PktWork) : PktWork :=
    if w.over_ then w
    else { w with bad := w.bad || p.samples.any (fun e => total ≤ e.1), markerAt := if p.marker then some s.now else w.markerAt,
                  data := p.samples.foldl (fun m e => smPut 0 m e.1 (e.2 + 1)) w.data }
  let open_ := ((s.source src).work.filter fun w => !w.over_).map (·.time)
  let lost := if open_.length < s.freeBufs src then [] else open_.take (open_.length + 1 - s.freeBufs src)
  s.setSource src fun o =>
    let ws := if known then o.work.map fun w => if w.time = p.time then fill w else w
      else ((o.work.map fun w => { w with nextAt := some (w.nextAt.getD s.now), bad := w.bad || lost.contains w.time }).drop (o.work.length - 15)) ++ [fill fresh]
    { o with work := ws }

/-- The sources whose flows a die's 100GbE port receives, one entry for each copy, in source order (R225). -/
def State.portFlows (s : State) (die : Nat) : List (Nat × Nat) :=
  ((List.range s.sourceCount).filter fun k => s.at_ Ob.src_type k = 1).flatMap fun k =>
    let port := s.at_ Ob.src_port k
    (if bits port 3 0 = die then [(k, 0)] else []) ++ (if s.at_ Ob.src_group_b k ≠ 0 && bits port 7 4 = die then [(k, 1)] else [])

/-- Is a packet within the subset of Table 7.4, as its source is configured: the features that it shows, the payload type, the frame size, the first 8 flows of its port? -/
def State.pktListed (s : State) (src copy : Nat) (p : Pkt) : Bool :=
  let z := s.at_ Ob.src_size src
  p.good && p.pt = s.at_ Ob.src_pt src && 16 ≤ bits z 15 0 && bits z 15 0 ≤ 8192 && 16 ≤ bits z 31 16 && bits z 31 16 ≤ 4320 && ((s.portFlows p.die).take 8).contains (src, copy)

/-- The packets that a first copy shows to be missing: the numbers between the highest seen and its own, the last 1,024 of them. -/
def SourceSt.holes (o : SourceSt) (now seq : Nat) : List SeenPkt := match o.top with
  | some t =>
    let gap := (seq + 4294967296 - t) % 4294967296
    if gap < 2147483648 then (List.range (min 1024 (gap - 1))).map fun i => ({ seq := (seq + 4294967295 - i) % 4294967296, since := now } : SeenPkt) else []
  | none => []

/-- A copy of a packet noted as seen, with the numbers that it shows to be missing where two copies are merged. -/
def State.notePacket (s : State) (src seq copy : Nat) : State :=
  let two := s.at_ Ob.src_group_b src ≠ 0
  s.setSource src fun o =>
    { o with pktAt := some s.now,
             top := some (match o.top with
               | some t => if seqAfter 32 t seq then seq else t
               | none => seq),
             seen := if o.seen.any fun e => e.seq = seq then o.seen.map fun e => if e.seq = seq then e.take copy s.now else e
               else (({ seq := seq, since := s.now } : SeenPkt).take copy s.now) :: ((if two then o.holes s.now seq else []) ++ o.seen) }

/-- ST_2110_PACKET_RECEIVE (R225-R227): packets of features not listed are counted bad; the first valid copy of each is used. -/
def State.packetIn (s0 : State) (src : Nat) (p : Pkt) : State :=
  if s0.sourceCount ≤ src || s0.at_ Ob.src_type src ≠ 1 then s0
  else match s0.copyOf src p with
  | none => s0
  | some copy =>
    if !(s0.pktListed src copy p) then s0.bump 0 (atIndex Ob.src_bad_packets src)
    else
      let s := s0.settleCopies src
      if s.tooLate src p.seq copy then s.mergeSkew src p
      else
        let used := match (s.source src).seen.find? fun e => e.seq = p.seq with
          | some e => e.here
          | none => match (s.source src).top with
            | some t => seqAfter 32 p.seq t && !((s.source src).work.any fun w => w.time = p.time)
            | none => false
        let s1 := s.notePacket src p.seq copy
        if used then s1 else (s1.takePacket src p).sourceDamaged src

/-- A camera frame that the pipeline wrote completes every source that names its stream (R228); it carries the primaries and the peak of its Frame Start (R253). -/
def State.cameraDone (s : State) (stream prim peak : Nat) (data : SMap Nat) : State :=
  s.each ((List.range s.sourceCount).filter fun k => s.at_ Ob.src_type k = 2 && s.sourceStream k = stream) fun k s => s.frameDone k { data := data, prim := prim, peak := peak }

/-- Is an import of a number of bytes one in RGB30P, by the pixels of its source? -/
def State.importPq (s : State) (src len : Nat) : Bool := let z := s.at_ Ob.src_size src; decide (len < 6 * (bits z 15 0 * bits z 31 16))

/-- The bytes of an import as the codes of its pixels. -/
def State.importCodes (s : State) (src : Nat) (bs : List Byte) : SMap Nat :=
  let z := s.at_ Ob.src_size src
  let px := bits z 15 0 * bits z 31 16
  if s.importPq src bs.length then let n := ofLe bs; smPutAll 0 [] 0 ((List.range (3 * px)).map fun i => n / 1024 ^ i % 1024 + 1)
  else smPutAll 0 [] 0 ((List.range (3 * px)).map fun i => leAt bs (2 * i) 2 + 1)

/-- CANVAS_CELL_RECEIVE (R229): a cell of an import's region; the import is complete when LAST and every OFFSET below it have come. -/
def State.canvasIn (s : State) (region view offset frame : Nat) (last : Bool) (bytes : List Byte) : State :=
  s.each ((List.range s.sourceCount).filter fun k => s.at_ Ob.src_type k = 3 && s.at_ Ob.src_import_region k = region) fun k s =>
    let old := ((s.source k).imports.find? fun w => w.view = view && w.frame = frame).getD { view := view, frame := frame }
    let w : ImportWork := { old with cells := smPut [] old.cells offset bytes, last := if last then some offset else old.last }
    let rest := (s.source k).imports.filter fun a => !(a.view = view)
    if w.last = some (w.cells.length - 1) && w.cells.length ≠ 0 then
      let bs := w.cells.flatMap (·.2)
      let b : FrameBuf := { time := frame, view := view, at_ := s.now, pq := s.importPq k bs.length, data := s.importCodes k bs }
      ((s.setSource k fun o => { o with imports := rest, done := { b with id := o.nextId } :: (o.done.filter fun f => !(f.view = view && f.time = frame)).take 31 }).frameDone k b)
    else s.setSource k fun o => { o with imports := rest ++ [w] }

/-! Send start (R189, R197, R224) -/

/-- The frame a source gives a view-frame, none where its stream only dumps (R252), and whether it is a late import (R229); an import of the same FRAME bits is that of the view-frame while it is younger than 8 frame periods
(log entry 133). -/
def State.sourceFrame (s : State) (src : Nat) (v : Vf) : Option FrameBuf × Bool :=
  let o := s.source src
  if s.at_ Ob.src_type src = 0 || (o.stale && s.at_ Ob.src_stale_mode src = 1) || (s.at_ Ob.src_type src = 2 && s.at_ Ob.cam_output (s.sourceStream src) = 1) then (none, false)
  else if s.at_ Ob.src_type src = 3 then
    match o.done.find? fun f => f.view = v.view && f.time = v.frame % 16 && !(s.past f.at_ (8 * (s.sched.num / s.sched.den))) with
    | some f => (some f, false)
    | none => (o.done.find? fun f => f.view = v.view, true)
  else if s.at_ Ob.src_latch src = 1 && o.heldFor = some v.frame then (o.held, false) else (o.newest, false)

/-- Does a frame buffer hold the same frame as another? -/
def sameFrame (a b : Option FrameBuf) : Bool := match a, b with
  | some f, some h => f.id = h.id
  | _, _ => false

/-- An import latched for a view-frame (R224, R229): one latched before is a repeat; older imports of the view that never were are skips, and go. -/
def State.latchImport (s : State) (src : Nat) (v : Vf) (b : Option FrameBuf) : State :=
  match b with
  | none => s
  | some f =>
    let ahead (g : FrameBuf) := decide (0 < (g.time + 16 - v.frame % 16) % 16) && decide ((g.time + 16 - v.frame % 16) % 16 < 8)
    let over_ (g : FrameBuf) := g.view = v.view && g.id ≠ f.id && !(ahead g)
    let skips := ((s.source src).done.filter fun g => over_ g && !g.seen).length
    let s1 := (s.when f.seen fun s => s.bump 0 (atIndex Ob.src_repeats src)).bump 0 (atIndex Ob.src_skips src) skips
    s1.setSource src fun o => { o with done := (o.done.filter fun g => !(over_ g)).map fun g => if g.id = f.id then { g with seen := true } else g }

/-- A source latched for a view-frame (R224): a repeat of the frame before is counted, a newest frame is marked used, the frame is kept for the views of its frame, IMPORT_LATE. -/
def State.latchSource (s : State) (src : Nat) (v : Vf) : State :=
  let r := s.sourceFrame src v
  let o := s.source src
  let counts := s.at_ Ob.src_latch src = 0 || o.heldFor ≠ some v.frame
  if s.at_ Ob.src_type src = 3 then (s.when r.2 fun s => s.sourceFlag src 2).latchImport src v r.1
  else
    let s1 := s.when (sameFrame r.1 o.held && counts) fun s => s.bump 0 (atIndex Ob.src_repeats src)
    s1.setSource src fun o => { o with held := if r.1.isSome then r.1 else o.held, heldFor := some v.frame, used := o.used || sameFrame r.1 o.newest }

/-- Does every surface that has a size have data (R217)? -/
def State.surfacesWhole (s : State) : Bool :=
  ((List.range s.layerCount).filter fun k => s.at_ Ob.gs_width k ≠ 0 && s.at_ Ob.gs_height k ≠ 0).all fun k => s.val 0 (atIndex Ob.gs_data k) ≠ .dflt

/-- SURFACE_LOST is over once every surface that has a size has new data (R217). -/
def State.surfacesBack (s : State) : State := if s.surfacesWhole then s.put 0 Ob.compose_flags (clearBit (s.nat 0 Ob.compose_flags) 5) else s

/-- The multicast flows that the part receives: 100GbE port's die, group, sender (Table 7.4). -/
def State.flows (s : State) : List (Nat × Nat × Nat) :=
  ((List.range s.sourceCount).filter fun k => s.at_ Ob.src_type k = 1).flatMap fun k =>
    let port := s.at_ Ob.src_port k
    let of_ (die group : Nat) : List (Nat × Nat × Nat) := if bits group 31 28 = 14 && die < s.dies then [(die, bits group 31 0, s.at_ Ob.src_sender k)] else []
    of_ (bits port 3 0) (s.at_ Ob.src_group_a k) ++ of_ (bits port 7 4) (s.at_ Ob.src_group_b k)

/-- The IGMPv3 joins of flows that were not received before (Table 7.4). -/
def State.joinFlows (s : State) (old : List (Nat × Nat × Nat)) : State :=
  s.each (s.flows.eraseDups.filter fun f => !(old.contains f)) fun f s => s.emit (.join f.1 f.2.1 f.2.2)

/-- Sources whose kind has changed start afresh; flows that are new are joined (R224, R225). -/
def State.freshFlows (s : State) (old : State) : State :=
  let src := (List.range s.sourceCount).filter fun k => s.at_ Ob.src_type k ≠ old.at_ Ob.src_type k
  (s.each src fun k s => s.setSource k fun _ => { lastAt := s.now }).joinFlows old.flows

/-- A compose_apply whose frame this is comes into force (R223). -/
def State.takeApply (s : State) (t : Int) : State :=
  match s.corrix.capply with
  | some (f, m) =>
    if f ≤ t then
      let s1 := { s with objs := overlay s.objs m }
      (({ s1 with staged := s.staged.filter fun e => !(decide (m.contains e)), corrix := { s.corrix with capply := none } } : State).freshFlows s).surfacesBack
    else s
  | none => s

/-- The view-frame of a frame number and view that launches next or is nearest behind. -/
def State.findVf (s : State) (frame view : Nat) : Option Vf :=
  let l := (s.vfsAround s.layNow 3 260).filter fun v => v.frame = frame && v.view = view
  match l.find? fun v => (s.layNow : Int) ≤ v.at_ with
  | some v => some v
  | none => l.getLast?

/-- Does the head compose now (R408, R412): not as a ring standby or while joining, nor before its walk after a takeover has ended? -/
def State.composes (s : State) : Bool :=
  let h := s.pw Ob.red_head_state
  s.big && s.isHead && (h = 0 || h = 1 || h = 3) && !s.red.waits

/-! View-frames under composition (R30, R197, R230, R234) -/

/-- Does a die have a view-frame to finish? -/
def State.dieBusy (s : State) (die : Nat) : Bool := s.comp.works.any fun w => !(s.composedAll w die)

/-- Has a canvas pixel been composed: its line of the stripe it lies in, top to bottom? -/
def State.composedAt (s : State) (w : Work) (x y : Nat) : Bool :=
  let t : State := { s with objs := w.objs }
  (s.dieList.filter fun d => inRect (t.stripe d) x y).all fun d =>
    let r := t.stripe d
    decide (4 * r.w * (y + 1 - r.y) ≤ smGet 0 w.px d)

/-- Does a die's composition wait for a packer: a stripe of it belongs to a destination that waits for room in its pool (R230)? -/
def State.dieStalled (s : State) (w : Work) (die : Nat) : Bool :=
  let t : State := { s with objs := w.objs }
  s.comp.stalled.any fun n => rectMeet (t.spliceIn (atIndex Ob.dest_splice n)).rect (t.stripe die)

/-- A die composes for 1 ns: 1 pixel, 3/4 of one while its core clock runs at 750 MHz (R33, R234), of the first view-frame that it has not finished. -/
def State.composeDie (s : State) (die : Nat) : State :=
  match s.comp.works.find? fun w => !(s.composedAll w die) with
  | none => s
  | some w =>
    if s.dieStalled w die then s
    else
      let n := min (s.stripeWork w die) (smGet 0 w.px die + s.corePx die)
      { s with comp := { s.comp with works := s.comp.works.map fun a => if a.at_ = w.at_ then { a with px := smPut 0 a.px die n } else a } }

/-- Every die of a head composes for 1 ns. -/
def State.tickCompose (s : State) : State := if s.comp.works.isEmpty then s else s.each s.aliveList fun d s => s.composeDie d

/-- Is nothing left to do of a view-frame: every stripe composed, every band of every destination packed? -/
def State.workDone (s : State) (w : Work) : Bool :=
  let t : State := { s with objs := w.objs }
  s.workEnded w && (List.range 1024).all fun n =>
    t.at_ Ob.dest_enable n = 0 || !(spliceUsable (t.spliceIn (atIndex Ob.dest_splice n))) ||
      (s.comp.packs.any fun p => p.node = n && p.at_ = w.at_ && decide (spliceBands (t.spliceIn (atIndex Ob.dest_splice n)) ≤ p.full.length))

/-- The sources that a view-frame latches (R224): with src_latch 0 those that its view shows, with src_latch 1 those that any lit view shows. -/
def State.latched (s : State) (v : Vf) : List Nat :=
  let views := (List.range s.sched.count).filter fun k => !(bit s.sched.dark k)
  let shows (k : Nat) (vs : List Nat) : Bool := (List.range s.layerCount).any fun n => s.at_ Ob.vl_source n = k && vs.any (s.vlOn n)
  (List.range s.sourceCount).filter fun k => if s.at_ Ob.src_latch k = 1 then shows k views else !v.dark && shows k [v.view]

/-- SEND_START (R189, R197, R224): composition of a lit view-frame begins at its send start, in launch order, once a die has ended the one before, with the values for its launch and the source
frames latched now. A dark view 0 only latches the sources that keep a frame for every view. -/
def State.sendStart (s0 : State) (frame view : Nat) : State :=
  if !s0.composes then s0
  else
    match s0.findVf frame view with
    | none => s0
    | some v =>
      let early := !(s0.reached (s0.sendStartOf v))
      let done := match s0.comp.lastAt with
        | some t => decide (v.at_ ≤ t)
        | none => false
      let t0 := s0.asOf v.at_
      if early || done || s0.sendStartOf v < s0.red.sendFrom || (!v.dark && s0.aliveList.all s0.dieBusy) then s0
      else if v.dark then (if v.view = 0 then s0.each (t0.latched v) fun k s => s.latchSource k v else s0)
      else
        let s := (s0.takeApply v.at_).checkLead
        let t := s.asOf v.at_
        let srcs := t.latched v
        let frames : List (Nat × FrameBuf) := srcs.filterMap fun k => (t.sourceFrame k v).1.map fun f => (k, f)
        let w : Work := { at_ := v.at_, frame := v.frame, view := v.view, objs := t.objs, src := frames.foldl (fun (m : SMap FrameBuf) e => smPut {} m e.1 e.2) [] }
        let s1 := s.each srcs fun k s => s.latchSource k v
        { s1 with comp := { s1.comp with works := (s1.comp.works.filter fun a => !(s1.workDone a)) ++ [w], lastAt := some v.at_ },
                  launch := { s1.launch with begun := some (max v.at_ (s1.launch.begun.getD v.at_)) } }

end Sys2Proof.Machine
end

