-- ==== Sys2Proof/Machine/Correct.lean ====
section
/-! DEFINITION. Lamp correction (chapter 9): the splice receive buffer and the region check, zones, the stages of Table 9.1 for one lamp, patches, the beginning of correction. -/

namespace Sys2Proof.Machine

/-- A tile die beside its objects. -/
def State.tdie (s : State) (die : Nat) : TileDie := smGet {} s.tile.dies die

/-- A tile die changed. -/
def State.setTdie (s : State) (die : Nat) (f : TileDie → TileDie) : State :=
  { s with tile := { s.tile with dies := smPut {} s.tile.dies die (f (s.tdie die)) } }

/-- The check die (R270): that of fwd_up_port; die 0 in head and tile role. -/
def State.checkDie (s : State) : Nat := if s.isHead then 0 else match s.upPort with
  | some p => p / 16
  | none => 0

/-- The splice descriptor in force for a launch. -/
def State.spliceAt (s : State) (t : Int) : Splice := (s.asOf t).spliceIn Ob.splice_desc

/-! Chain positions (R300, R306, R307) -/

/-- An object of a chain group. -/
def State.grp (s : State) (die g key : Nat) : Nat := s.nat die (atIndex key g)

/-- A group is in use. -/
def State.groupUsed (s : State) (die g : Nat) : Bool := decide (g < 4) && s.grp die g Ob.rg_profile < 8

/-- Bytes of a group's profile (Table 10.1). -/
def State.prof (s : State) (die g o k : Nat) : Nat := s.blobNum 0 (atIndex Ob.chain_profile (s.grp die g Ob.rg_profile)) o k

/-- Channels per driver, C. -/
def State.chans (s : State) (die g : Nat) : Nat := s.prof die g 1 1

/-- Does a group drive frame-memory drivers? -/
def State.frameMem (s : State) (die g : Nat) : Bool := bit (s.prof die g 3 1) 0

/-- A chain in use (R300). -/
def State.chainUsed (s : State) (die k : Nat) : Bool :=
  decide (k < 24) && s.groupUsed die (k / 6) && bit (s.grp die (k / 6) Ob.rg_chains) (k % 6) && s.nat die (Ob.chain_drivers + k) ≠ 0

/-- A store position. -/
def posKey (chain line driver channel : Nat) : Nat := chain * 262144 + line * 4096 + driver * 64 + channel

/-- Does a position lie in the configuration in force? -/
def State.posValid (s : State) (die pos : Nat) : Bool :=
  let k := pos / 262144
  s.chainUsed die k && pos / 4096 % 64 < s.grp die (k / 6) Ob.rg_scan_lines && pos / 64 % 64 < s.nat die (Ob.chain_drivers + k) && pos % 64 < s.chans die (k / 6)

/-- The position that the fields of Table 10.3 name. -/
def posOfWord (w : Nat) : Nat := posKey (bits w 22 18) (bits w 17 12) (bits w 11 6) (bits w 5 0)

/-- The fields of Table 10.3 of a position. -/
def wordOfPos (pos : Nat) : Nat := pos % 64 + pos / 64 % 64 * 64 + pos / 4096 % 64 * 4096 + pos / 262144 * 262144

/-- The position of lamp `c` of pixel `q` by the scan map, where it has one (R307). -/
def State.placeOf (s : State) (die q c : Nat) : Option Nat :=
  let w := s.blobNum die Ob.scan_map (16 * q + 4 * c) 4
  if bit w 31 || s.nat die Ob.corr_lamps ≤ c || !(s.posValid die (posOfWord w)) then none else some (posOfWord w)

/-! The correction rectangle (R271) -/

/-- A die's correction rectangle, in region coordinates. -/
def State.corrRect (s : State) (die : Nat) : Rect :=
  let d := s.spliceIn Ob.splice_desc
  if s.dieList.all fun n => s.nat n Ob.corr_rect = 0 then
    let a := die * d.rect.w / s.dies
    { x := a, y := 0, w := (die + 1) * d.rect.w / s.dies - a, h := d.rect.h }
  else rectOf (s.nat die Ob.corr_rect)

/-- The pixels of a die. -/
def State.pixelCount (s : State) (die : Nat) : Nat := (s.corrRect die).w * (s.corrRect die).h

/-- Pixel `q` of a die in region coordinates. -/
def State.pixelAt (s : State) (die q : Nat) : Nat × Nat := let r := s.corrRect die; (r.x + q % max 1 r.w, r.y + q / max 1 r.w)

/-! Received cells -/

/-- A byte of a band of a received view-frame. -/
def rxByte (r : RxFrame) (b j : Nat) : Option Byte :=
  match r.cells.find? fun c => c.band = b && c.offset = j / 244 with
  | some c => some (c.bytes.getD (j % 244) 0)
  | none => none

/-- Bytes of a band as a number, where all have come. -/
def rxNum (r : RxFrame) (b j n : Nat) : Option Nat :=
  ((List.range n).foldr (fun i acc => match acc, rxByte r b (j + i) with
    | some l, some x => some (x :: l)
    | _, _ => none) (some [])).map ofLe

/-- The three codes of a region pixel, where its bytes have come (R220, R221). -/
def rxCodes (r : RxFrame) (d : Splice) (x y : Nat) : Option (Nat × Nat × Nat) :=
  let p := pixelInBand d x y
  if d.format = 0 then (rxNum r p.1 (6 * p.2) 6).map fun n => (n % 65536, n / 65536 % 65536, n / 4294967296)
  else
    let o := 30 * p.2
    let n := min 5 (bandBytes d p.1 - o / 8)
    (rxNum r p.1 (o / 8) n).map fun v => let w := v >>> (o % 8); (w % 1024, w / 1024 % 1024, w / 1048576 % 1024)

/-- The place of a cell of a band among those that have come. -/
def cellPlace (r : RxFrame) (b o : Nat) : Option Nat := r.cells.findIdx? fun c => c.band = b && c.offset = o

/-- The cell, in arrival order, with which the bytes of a region pixel are complete (R220, R221). -/
def rxWhen (r : RxFrame) (d : Splice) (x y : Nat) : Option Nat :=
  let p := pixelInBand d x y
  let j := if d.format = 0 then 6 * p.2 else 30 * p.2 / 8
  let e := if d.format = 0 then 6 * p.2 + 5 else (30 * p.2 + 29) / 8
  match cellPlace r p.1 (j / 244), cellPlace r p.1 (e / 244) with
  | some a, some b => some (max a b)
  | _, _ => none

/-- The cells of a view-frame that the band reader has read (R270). -/
def RxFrame.readCells (r : RxFrame) : Nat := r.read / 244

/-- Bytes that the cells of a view-frame take in the splice receive buffer (log entry 12): those not yet read, and CHECK. -/
def RxFrame.waiting (r : RxFrame) : Nat := if r.verdict.isSome then 0 else 244 * (r.cells.length - r.readCells + b2n r.check.isSome)

/-- An item put into a list that rises by a measure, behind its equals. -/
def placeBy (f : Nat → Nat) (x : Nat) : List Nat → List Nat
  | [] => [x]
  | y :: t => if f x < f y then x :: y :: t else y :: placeBy f x t

/-- The pixels of a die whose bytes lie in the first `n` cells of a view-frame, in the order in which they come: by cell, and within a cell by their place in the band (R190, R270). -/
def State.pixelsIn (s : State) (r : RxFrame) (die n : Nat) : List Nat :=
  let d := s.spliceIn Ob.splice_desc
  let key (q : Nat) : Nat := let p := s.pixelAt die q; (rxWhen r d p.1 p.2).getD 0 * 268435456 + (pixelInBand d p.1 p.2).2
  ((List.range (s.pixelCount die)).filter fun q => let p := s.pixelAt die q
    match rxWhen r d p.1 p.2 with
    | some k => decide (k < n)
    | none => false).foldl (fun l q => placeBy key q l) []

/-- Those that the reader has sent. -/
def State.pixelsRead (s : State) (r : RxFrame) (die : Nat) : List Nat := s.pixelsIn r die r.readCells

/-- Those that have come. -/
def State.pixelsCome (s : State) (r : RxFrame) (die : Nat) : List Nat := s.pixelsIn r die r.cells.length

/-! The stages (Table 9.1) for one lamp -/

/-- A stage value held to 24 bits. -/
def lim24 (v : Int) : Nat := (clampInt 0 16777215 v).toNat

/-- Stage 2: a code decoded (R277). -/
def State.decodeCode (s : State) (format c : Nat) : Nat :=
  if format = 0 then roundDiv (c * 1048576) 65535
  else if s.on 0 Ob.pq_lut_user then s.blobNum 0 Ob.pq_lut (4 * c) 4 % 16777216
  else min (pqDecode (s.pw Ob.corr_peak_cdm2) c) 16777215

/-- The zone of a region pixel (R279). -/
def State.zoneOf (s : State) (die x y : Nat) : Nat :=
  ((List.range 64).find? fun z => inRect (rectOf (s.nat die (atIndex Ob.zone_rect z))) x y).getD 0

/-- An I16 of a BLOB. -/
def State.blobI16 (s : State) (die key off : Nat) : Int := toSigned 16 (s.blobNum die key off 2)

/-- An entry of a zone's matrix at a temperature in 1/16 °C (R283). -/
def State.zoneEntry (s : State) (die z : Nat) (t : Int) (e : Nat) : Int :=
  let k := atIndex Ob.zone_matrix z
  let n := s.blobNum die k 0 1
  let temp (p : Nat) := s.blobI16 die k (4 + 20 * p)
  let ent (p : Nat) := s.blobI16 die k (6 + 20 * p + 2 * e)
  if n = 0 then (if e % 4 = 0 then 8192 else 0)
  else if t ≤ temp 0 then ent 0
  else if temp (n - 1) ≤ t then ent (n - 1)
  else
    let a := ((List.range (n - 1)).find? fun p => temp p ≤ t && t < temp (p + 1)).getD 0
    let span := (temp (a + 1) - temp a).toNat
    ent a + roundDivInt ((ent (a + 1) - ent a) * (t - temp a)) (max 1 span)

/-- Stage 4. -/
def State.zoneStage (s : State) (die z : Nat) (t : Int) (v : List Nat) : List Nat :=
  (List.range 3).map fun i =>
    lim24 (roundDivInt ((List.range 3).map fun j => s.zoneEntry die z t (3 * i + j) * (v.getD j 0 : Int)).sum 8192)

/-- An entry of a lamp coefficient record: level 0 low, 1 high (R284, R286). -/
def State.recEntry (s : State) (die q level lamp j : Nat) : Int :=
  if s.blobNum die Ob.corr_set_records (48 * q) 48 = 0 then (if lamp = j then 8192 else 0)
  else s.blobI16 die Ob.corr_set_records (48 * q + 24 * level + 6 * lamp + 2 * j)

/-- Is the set in force used at its low level only (R287, R288)? -/
def State.singleLevel (s : State) (die : Nat) : Bool := s.on die Ob.corr_set_single || s.nat die Ob.corr_drive_hi ≤ s.nat die Ob.corr_drive_lo

/-- The blend weight of a drive level (R287). -/
def State.blendWeight (s : State) (die : Nat) (v : List Nat) : Int :=
  let d : Int := (min (maxOr 0 v) 1048576 / 16 : Nat)
  let lo : Int := s.nat die Ob.corr_drive_lo
  if s.singleLevel die then 0 else clampInt 0 65536 ((d - lo) * 65536 / (s.nat die Ob.corr_drive_hi - lo))

/-- Has correction last read some of `n` bytes of DRAM as poisoned (R378)? -/
def State.poisoned (s : State) (die a n : Nat) : Bool := (smGet {} s.mem die).poison.any fun b => decide (b < a + n) && decide (a < b + 64)

/-- Stage 5 for a lamp, with an identity record in place of one that was poisoned (R378). -/
def State.lampStage (s : State) (ident : Bool) (die q lamp : Nat) (v : List Nat) : Nat :=
  let w := s.blendWeight die v
  let e (level j : Nat) : Int := if ident then (if lamp = j then 8192 else 0) else s.recEntry die q level lamp j
  let acc := ((List.range 3).map fun j => (e 0 j + ((e 1 j - e 0 j) * w + 32768) / 65536) * (v.getD j 0 : Int)).sum
  lim24 ((acc + 4096) / 8192)

/-- The derating scale of a temperature in 1/16 °C (R291). -/
def State.derate (s : State) (die : Nat) (t : Int) : Nat :=
  let dt := max 0 (t - s.int die Ob.derate_knee)
  let fall := roundDiv (65536 * s.nat die Ob.derate_slope * dt.toNat) 160000
  max (roundDiv (s.nat die Ob.derate_floor * 65536) 1000) (65536 - fall)

/-- Does a fault map entry mask its lamp (R339)? -/
def State.masked (s : State) (state : Nat) : Bool :=
  state = 3 || (state = 1 && s.on 0 Ob.fault_mask_kinds 0) || (state = 2 && s.on 0 Ob.fault_mask_kinds 1)

/-- The function group of a lamp (fg_map); 256 and more is none. -/
def State.lampGroup (s : State) (die q c : Nat) : Nat := s.blobNum die Ob.fg_map (8 * q + 2 * c) 2

/-- Stage 7: is a lamp dark by a fault or a blanked group (R292, R339)? -/
def State.lampDark (s : State) (h : Half) (die q c : Nat) : Bool :=
  let m (c : Nat) := match s.placeOf die q c with
    | some p => s.masked (smGet 0 h.faults p)
    | none => false
  m c || (s.on 0 Ob.fault_mask_kinds 2 && (List.range (s.nat die Ob.corr_lamps)).any m) || h.blank.contains (s.lampGroup die q c)

/-- Stage 8: the output curve (R293). -/
def State.curve (s : State) (die c v0 : Nat) : Nat :=
  let v := min v0 1048576
  let e (k : Nat) : Int := min (s.blobNum die (atIndex Ob.out_curve c) (4 * k) 4 % 2097152) 1048576
  let k := v * 4095 / 1048576
  let f := v * 4095 % 1048576
  if k = 4095 then (e 4095).toNat else (e k + roundDivInt ((e (k + 1) - e k) * f) 1048576).toNat

/-- The dither matrix B (Table 9.7). -/
def ditherB : List (List Nat) := [[0, 8, 2, 10], [12, 4, 14, 6], [3, 11, 1, 9], [15, 7, 13, 5]]

/-- The dither threshold (R294). -/
def ditherT (mode x y c frame : Nat) : Nat :=
  let a := if frame % 4 = 1 || frame % 4 = 2 then 2 else 0
  let b := if frame % 4 = 1 || frame % 4 = 3 then 2 else 0
  let at_ (r k : Nat) := (ditherB.getD (r % 4) []).getD (k % 4) 0
  if mode = 0 then 8 else if mode = 1 then at_ y (x + c) else at_ (y + b) (x + c + a)

/-- The value of a lamp before stage 8, and after stage 9 (R266-R294); none while the pixel's bytes have not come. -/
def State.lampValue (s0 : State) (h : Half) (r : RxFrame) (die q c : Nat) : Option (Nat × Nat) :=
  let s : State := { s0 with objs := h.objs }
  let d := s.spliceIn Ob.splice_desc
  let p := s.pixelAt die q
  match rxCodes r d p.1 p.2 with
  | none => none
  | some k =>
    let g := roundDiv (s.pw Ob.corr_brightness * h.gain) 65536
    let v3 := [k.1, k.2.1, k.2.2].map fun x => min (roundDiv (s.decodeCode d.format x * g) 65536) 16777215
    let z := s.zoneOf die p.1 p.2
    let v4 := s.zoneStage die z (smGet 1680 h.temps z) v3
    let v6 := min (roundDiv (s.lampStage (h.idents.contains q) die q c v4 * smGet 65536 h.scales z) 65536) 16777215
    let v7 := if s.lampDark h die q c then 0 else v6
    let v8 := s.curve die c v7
    some (v7, min 65535 ((v8 + ditherT (s.pw Ob.corr_dither) (d.rect.x + p.1) (d.rect.y + p.2) c h.frame) / 16))

/-- The lamps that the scan map places: pixel, lamp, position. -/
def State.placed (s : State) (die : Nat) : List (Nat × Nat × Nat) :=
  (List.range (s.pixelCount die)).flatMap fun q => (List.range (s.nat die Ob.corr_lamps)).filterMap fun c => (s.placeOf die q c).map fun p => (q, c, p)

/-- The received view-frame of a store half. -/
def State.rxOf (s : State) (h : Half) : RxFrame := (s.tile.rx.find? fun r => r.at_ = h.at_).getD { at_ := h.at_, frame := h.frame, view := h.view }

/-- The pixels of a half corrected so far, in order (R266). -/
def State.corrected (s : State) (h : Half) (r : RxFrame) (die : Nat) : List Nat := (({ s with objs := h.objs } : State).pixelsRead r die).take (h.px / 36)

/-- The value of a lamp in the store half of its view-frame, once its pixel is corrected (R295); a poisoned scan-map entry places no lamp, and its position stays 0 (R306, R378). -/
def State.storedLamp (s : State) (h : Half) (die q c : Nat) : Option Nat :=
  if !((s.corrected h (s.rxOf h) die).contains q) then none
  else if h.nones.contains (4 * q + c) then some 0
  else (s.lampValue h (s.rxOf h) die q c).map (·.2)

/-- How many lamps of a view-frame lie above 1.0 before the curve (R293), of those corrected so far. -/
def State.clipped (s : State) (h : Half) (r : RxFrame) (die : Nat) : Nat :=
  let t : State := { s with objs := h.objs }
  (((s.corrected h r die).flatMap fun q => (List.range (t.nat die Ob.corr_lamps)).map fun c => (q, c)).filter fun e =>
    match s.lampValue h r die e.1 e.2 with
    | some v => 1048576 < v.1
    | none => false).length

/-- Does any function group of a die have a rule? -/
def State.anyRule (s : State) (die : Nat) : Bool := (List.range 256).any fun f => s.nat die (atIndex Ob.fg_mode f) ≠ 0

/-- 36ths of a pixel that a die corrects in 1 ns: one pixel per core clock (R266), with function groups no more than 64 GB/s ÷ 72 bytes, 8/9 of a pixel a ns (R371). -/
def State.correctRate (s : State) (die : Nat) : Nat := if s.anyRule die then min 32 (9 * s.corePx die) else 9 * s.corePx die

/-- Does another master than correction use or want the die's DRAM? -/
def State.competes (s : State) (die : Nat) : Bool :=
  (smGet {} s.mem die).chans.any fun c => c.2.waiting.any (·.master ≠ 0) || c.2.holder.any (·.master ≠ 0) || (c.2.table ++ c.2.wq ++ c.2.banks.flatMap (·.2)).any (·.master ≠ 0)

/-- A half corrected for 1 ns, as far as its pixels have come (R190, R266, R371), less by what other masters take. The record and the scan-map entries of each pixel are read as it is corrected (R378). -/
def State.correctHalf (s : State) (die less : Nat) (h : Half) : Half :=
  let r := s.rxOf h
  let t : State := { s with objs := h.objs }
  let h1 := { h with px := min (36 * (t.pixelsRead r die).length) (h.px + (t.correctRate die - less)) }
  if h1.px / 36 = h.px / 36 then h1
  else
    let new := ((t.pixelsRead r die).take (h1.px / 36)).drop (h.px / 36)
    let h2 := { h1 with idents := h1.idents ++ new.filter fun q => s.poisoned die (Config.recordAt die q) 48,
                        nones := h1.nones ++ ((new.flatMap fun q => (List.range 4).map fun c => 4 * q + c).filter fun k => s.poisoned die (Config.scanAt die k) 4) }
    { h2 with clips := s.clipped h2 r die }

/-- CLIPPED and corr_clips count the lamps clipped between two moments of a half (R293). -/
def State.countClips (s : State) (die n : Nat) : State := if n = 0 then s else (s.bump die Ob.corr_clips n).raise die Ob.corr_flags 1

/-- Is a pixel of a half not yet corrected? -/
def State.unfinished (s : State) (h : Half) (die : Nat) : Bool := decide (h.px < 36 * ({ s with objs := h.objs } : State).pixelCount die)

/-- A die's correction for 1 ns: of the view-frame shown until it is whole, then of the next (R190, R266); without firmware there is none (R393). While other masters compete for the DRAM it is slower
by a free value: the spec says that it is slower and not by how much (R371, log entry 162). -/
def State.correctDie (s0 : State) (die : Nat) : State :=
  let w := if s0.competes die then s0.draw else (0, s0)
  let s := w.2
  let t := s.tdie die
  let old := match t.shown with
    | some h => if s.unfinished h die then some h else none
    | none => none
  if !(s.fwOn die) then s
  else
    let go (h : Half) (f : Half → TileDie → TileDie) : State :=
      let h1 := s.correctHalf die w.1 h
      (s.setTdie die (f h1)).countClips die (h1.clips - h.clips)
    match old, t.next with
    | some h, none => go h fun h1 d => { d with shown := some h1 }
    | some h, some k => if (s.correctHalf die w.1 h).px = h.px then go k fun h1 d => { d with next := some h1 } else go h fun h1 d => { d with shown := some h1 }
    | none, some k => if s.unfinished k die then go k fun h1 d => { d with next := some h1 } else s
    | none, none => s

/-- The band reader for 1 ns: up to 32 bytes per core clock of the check die, in arrival order (R270). -/
def State.readBand (s : State) : State :=
  match s.tile.rx.find? fun r => r.reading && decide (r.read < 244 * r.cells.length) with
  | none => s
  | some r =>
    let n := min (244 * r.cells.length) (r.read + 8 * s.corePx s.checkDie)
    { s with tile := { s.tile with rx := s.tile.rx.map fun a => if a.at_ = r.at_ then { a with read := n } else a } }

/-- The tile for 1 ns: the band reader, then the dies that correct. -/
def State.tickCorrect (s : State) : State :=
  if s.tile.rx.isEmpty then s else s.readBand.each (s.aliveList.filter fun d => (s.tdie d).next.isSome || (s.tdie d).shown.isSome) fun d s => s.correctDie d

/-! Zones (R280, R281) -/

/-- Is a sensor not judged broken? -/
def State.sensorOk (s : State) (die n : Nat) : Bool := decide (n < 6) && !(s.on die Ob.therm_sensor_broken n)

/-- The hottest valid sensor of a die, in 1/16 °C. -/
def State.hottest (s : State) (die : Nat) : Option Int :=
  let l := ((List.range 6).filter (s.sensorOk die)).map fun n => s.int die (Ob.therm_sensor_c + n)
  match l with
  | [] => none
  | a :: t => some (t.foldl max a)

/-- The value of a zone source code (Table 9.4), where it is valid. -/
def State.zoneSource (s : State) (die code : Nat) : Option Int :=
  match bits code 15 14 with
  | 1 => match smGet none (s.tdie die).drivers (bits code 13 9 * 64 + bits code 5 0) with
    | some (v, t) => if s.now ≤ t + 1000000000 && -880 ≤ v && v ≤ 2800 then some v else none
    | none => none
  | 2 => if s.sensorOk die (bits code 8 6) then some (s.int die (Ob.therm_sensor_c + bits code 8 6)) else none
  | _ => none

/-- The source codes of a zone. -/
def State.zoneCodes (s : State) (die z : Nat) : List Nat :=
  let v := s.nat die (atIndex Ob.zone_temp_src z)
  (List.range 4).map fun i => bits v (16 * i + 15) (16 * i)

/-- A zone temperature stored and shown, rounded to 1/16 °C. -/
def State.putZone (s : State) (die z : Nat) (t : ZoneSt) : State :=
  (s.setTdie die fun d => { d with zones := smPut {} d.zones z t }).put die (atIndex Ob.zone_temp z) (clampInt (-32768) 32767 ((t.temp + 128) / 256))

/-- A sample, in 1/4,096 °C, filtered into T. -/
def State.zoneSample (s : State) (die z : Nat) (v : Int) : State :=
  let o := smGet {} (s.tdie die).zones z
  let tau := s.nat die Ob.zone_temp_tau_ms * 1000000
  let dt := s.now - o.since
  let t := if o.fresh || tau ≤ dt then v else o.temp + roundDivInt ((v - o.temp) * dt) tau
  s.putZone die z { temp := t, since := s.now, fresh := false }

/-- A zone takes a sample from its sources, or falls back (R281). -/
def State.zoneUpdate (s : State) (die z : Nat) : State :=
  let codes := (s.zoneCodes die z).filter fun c => bits c 15 14 = 1 || bits c 15 14 = 2
  let vs := codes.filterMap (s.zoneSource die)
  let off := s.int die (atIndex Ob.zone_temp_offset z)
  if vs.isEmpty then
    let back := s.when (!codes.isEmpty) fun s => s.raise die Ob.corr_flags 0
    match s.hottest die with
    | some h => back.zoneSample die z ((h + off) * 256)
    | none => back.putZone die z { temp := 430080, since := s.now, fresh := true }
  else s.zoneSample die z (roundDivInt (vs.sum * 256) vs.length + off * 256)

/-- The zones that a new reading of a sensor concerns: those it is a source of, and, of the hottest sensor, those that fall back. -/
def State.zonesOfSensor (s : State) (die sensor : Nat) : State :=
  let hot := match s.hottest die with
    | some h => s.sensorOk die sensor && s.int die (Ob.therm_sensor_c + sensor) = h
    | none => true
  s.each (List.range 64) fun z s =>
    let codes := s.zoneCodes die z
    let mine := s.sensorOk die sensor && codes.any fun c => bits c 15 14 = 2 && bits c 8 6 = sensor
    if mine || (hot && (codes.filterMap (s.zoneSource die)).isEmpty) then s.zoneUpdate die z else s

/-- The zones that a new driver temperature concerns. -/
def State.zonesOfDriver (s : State) (die chain driver : Nat) : State :=
  s.each (List.range 64) fun z s =>
    if (s.zoneCodes die z).any fun c => bits c 15 14 = 1 && bits c 13 9 = chain && bits c 5 0 = driver then s.zoneUpdate die z else s

/-! The splice receive buffer (R164, R191, R270) -/

/-- The bytes waiting in the splice receive buffer. -/
def State.rxUsed (s : State) : Nat := (s.tile.rx.map fun r => r.waiting).sum

/-- A cell that the buffer cannot take, or that came bad. -/
def State.rxDrop (s : State) : State := s.bump s.checkDie Ob.splice_rx_drops

/-- The view-frame on which a cell's VIEW and FRAME place it (R191): one known, not yet launched or launched so lately that a head with the committed lead does
not send the one 16 frames after it yet (log entry 138), else the earliest launch not in the past. -/
def State.rxPlace (s : State) (view frame4 : Nat) : Option (RxFrame × Bool) :=
  let near (t : Int) : Bool := decide ((s.layNow : Int) ≤ t) || decide ((s.layNow : Int) + s.lead < t + 16 * (s.sched.num * layNs / s.sched.den : Nat))
  match s.tile.rx.find? fun r => r.view = view && r.frame % 16 = frame4 && near r.at_ with
  | some r => some (r, true)
  | none => ((s.vfsAround s.layNow 0 20).find? fun v => v.view = view && v.frame % 16 = frame4 && (s.layNow : Int) ≤ v.at_).map fun v =>
    ({ at_ := v.at_, frame := v.frame, view := v.view }, false)

/-- A received view-frame changed or added. -/
def State.putRx (s : State) (r : RxFrame) : State :=
  let l := if s.tile.rx.any fun a => a.at_ = r.at_ then s.tile.rx.map fun a => if a.at_ = r.at_ then r else a else s.tile.rx ++ [r]
  { s with tile := { s.tile with rx := l } }

/-- Is a view-frame dark by the tile's own schedule (R184, R187)? -/
def State.darkAt (s : State) (view : Nat) (t : Int) : Bool := match (s.vfsAround t 1 1).find? fun v => v.at_ = t && v.view = view with
  | some v => v.dark
  | none => bit ((s.asOf t).pw Ob.view_dark) view

/-- Is a view-frame missing: no CHECK by the launch of the view-frame after it (R199)? -/
def State.missedAt (s : State) (r : RxFrame) : Bool := r.check.isNone && match s.vfAfter r.at_ with
  | some n => s.reached n.at_
  | none => false

/-- The view-frame for a cell of the region; none where the cell is discarded, with what that discard does. -/
def State.rxAdmit (s : State) (view frame4 : Nat) (good : Bool) : State × Option RxFrame :=
  match s.rxPlace view frame4 with
  | none => (s.rxDrop, none)
  | some (r, known) =>
    if !good then (s.rxDrop, none)
    else if s.darkAt view r.at_ then (s.launchFlag s.checkDie 6, none)
    else if !(spliceUsable (s.spliceAt r.at_)) then (s.raise 0 Ob.check_flags 2, none)
    else if (known && r.check.isSome) || r.verdict.isSome || s.missedAt r then (s.rxDrop, none)
    else if s.nat s.checkDie Ob.splice_rx_kb * 1024 < s.rxUsed + 244 then (s.rxDrop, none)
    else (s, some r)

/-- A PIXEL cell of the part's own region (R164, R191). -/
def State.tilePixel (s : State) (spec : Nat) (payload : List Byte) (good : Bool) : State :=
  let a := s.rxAdmit (bits spec 12 10) (bits spec 32 29) good
  match a.2 with
  | none => a.1
  | some r =>
    let r1 := { r with cells := r.cells ++ [({ band := bits spec 9 0, offset := bits spec 28 13, last := bit spec 33, bytes := payload } : RxCell)] }
    a.1.putRx r1

/-- A CHECK cell of the part's own region (R151, R191). -/
def State.tileCheck (s : State) (spec : Nat) (payload : List Byte) (good : Bool) : State :=
  let a := s.rxAdmit (bits spec 12 10) (bits spec 32 29) good
  match a.2 with
  | none => a.1
  | some r =>
    let s1 := a.1.when ((layAt payload 8 : Int) ≠ r.at_) fun s => s.launchFlag s.checkDie 6
    s1.putRx { r with check := some (leAt payload 0 4, leAt payload 4 4) }

/-! The region check (R273-R276) -/

/-- The cells of a band in OFFSET order. -/
def bandRun (r : RxFrame) (b : Nat) : List RxCell :=
  let l := r.cells.filter fun c => c.band = b
  (List.range (maxOr 0 (l.map (·.offset)) + 1)).flatMap fun o => l.filter fun c => c.offset = o

/-- REGION_CRC over the bytes read (R273). -/
def rxCrc (r : RxFrame) (d : Splice) : Nat :=
  crc32c ((List.range (spliceBands d)).flatMap fun b => ((bandRun r b).flatMap (·.bytes)).take (bandBytes d b))

/-- Does a band lack a cell, or its LAST? -/
def bandGap (r : RxFrame) (d : Splice) (b : Nat) : Bool :=
  let n := bandCells d b
  !((List.range n).all fun o => r.cells.any fun c => c.band = b && c.offset = o) || !(r.cells.any fun c => c.band = b && c.last)

/-- The reason of Table 9.3, 0 where the view-frame passes. -/
def regionReason (r : RxFrame) (d : Splice) : Nat :=
  match r.check with
  | none => 1
  | some (crc, cells) =>
    if cells ≠ regionCells d then 2
    else if r.cells.length ≠ cells then 3
    else if (List.range (spliceBands d)).any (bandGap r d) then 4
    else if rxCrc r d ≠ crc then 5 else 0

/-- A verdict given (R274-R276): passes counted, a failure flagged, counted and recorded; CRC_FAIL_SHOWN where the view-frame had started; MISSING counted for R412. -/
def State.giveVerdict (s : State) (r : RxFrame) (d : Splice) : State :=
  let why := regionReason r d
  let s1 := s.putRx { r with verdict := some why }
  if why = 0 then s1.bump 0 Ob.check_passes
  else
    let s2 := (((((s1.bump 0 Ob.check_fails).set Ob.check_last_reason why).set Ob.check_last_frame r.frame).set Ob.check_last_view r.view).set Ob.check_last_crc (rxCrc r d)).set
      Ob.check_last_expected (match r.check with
        | some (crc, _) => crc
        | none => 0)
    let s3 := (if s.fwOn s.checkDie then s2.raise 0 Ob.check_flags 0 why else s2.markFlag 0 Ob.check_flags 0).when r.started fun s => s.raise 0 Ob.check_flags 1
    if why = 1 then { s3 with tile := { s3.tile with missing := s3.tile.missing + 1 } } else s3

/-- REGION_VERDICT (R274): once CHECK has come and the reader has every cell, or at the launch of the view-frame after. -/
def State.regionVerdict (s : State) (frame view : Nat) : State :=
  let known := s.tile.rx.find? fun r => r.frame = frame && r.view = view && r.verdict.isNone
  let r : Option RxFrame := match known with
    | some r => some r
    | none =>
      if s.tile.rx.any fun r => r.frame = frame && r.view = view then none
      else ((s.vfsAround s.layNow 2 0).find? fun v => v.frame = frame && v.view = view && s.boot.lit && s.boot.litAt ≤ v.at_ && s.reached v.at_).map fun v =>
        { at_ := v.at_, frame := v.frame, view := v.view }
  match r with
  | none => s
  | some r =>
    let d := s.spliceAt r.at_
    if !s.isTile || s.darkAt view r.at_ || !(spliceUsable d) then s
    else if (r.check.isSome && 244 * r.cells.length ≤ r.read) || s.missedAt r then s.giveVerdict r d
    else s

/-! The beginning of correction (R190, R267, R290) -/

/-- The launch of the last view of a frame, at or before now by the die's Lay clock: the last frame boundary (R290). -/
def State.lastBoundary (s : State) (die : Nat) : Option Int :=
  let l := s.vfsAround (s.layOf die) 3 1
  ((l.filter fun v => s.reachedOn die v.at_ && (match l.find? fun w => v.at_ < w.at_ with
    | some w => w.frame ≠ v.frame
    | none => false)).getLast?).map (·.at_)

/-- Is a schedule in force (R290, R397): do the schedule objects, as one restored from the journal may not, pass Table 6.1? The defaults do (log entry 161). -/
def State.scheduled (s : State) : Bool := !(schedUneven s.sched) && !(schedDense s.sched) && !(schedOutside s.sched)

/-- corr_patches_pending shows the queue. -/
def State.showPatches (s : State) (die : Nat) : State := s.put die Ob.corr_patches_pending (s.tdie die).patches.length

/-- A patch written into the set in force. -/
def State.patchRecord (s : State) (die : Nat) (bs : List Byte) : State := s.patchBlob die Ob.corr_set_records (48 * leAt bs 0 4) ((bs.drop 4).take 48)

/-- PATCH_APPLY (R290): at a frame boundary every patch then queued is written into the set in force, in arrival order, and kept in the journal. The set before
it stays for a view-frame of an earlier frame whose correction begins late (R201). -/
def State.patchApply (s : State) (die : Nat) : State :=
  match s.lastBoundary die with
  | none => s
  | some b =>
    let due := (s.tdie die).patches.filter fun p => p.1 ≤ b
    if due.isEmpty then s
    else
      let s1 := s.each due fun p s => s.patchRecord die p.2
      ((s1.setTdie die fun t => { t with patches := t.patches.filter fun p => !(decide (p.1 ≤ b)), sets := t.sets.drop (t.sets.length - 7) ++ [(b, s.val die Ob.corr_set_records)] }).showPatches die).persist
        die Ob.corr_set_records

/-- A corr_patch written (R290): BUSY where 64 are queued (false); a record number at or above 294,912 is ignored. While no schedule is in force it is
written at once. -/
def State.corrPatch (s : State) (die : Nat) (bs : List Byte) : State × Bool :=
  if 64 ≤ (s.tdie die).patches.length then (s, false)
  else if 294912 ≤ leAt bs 0 4 then (s, true)
  else if !s.scheduled then ((s.patchRecord die bs).persist die Ob.corr_set_records, true)
  else ((s.setTdie die fun t => { t with patches := t.patches ++ [((s.layOf die : Int), bs)] }).showPatches die, true)

/-- The scale of each zone at given temperatures (R291). -/
def State.zoneScales (s : State) (die : Nat) (temps : SMap Int) : SMap Nat :=
  smPutAll 65536 [] 0 ((List.range 64).map fun z => s.derate die (smGet 1680 temps z))

/-- The fault map's states, by position (R339). -/
def State.faultStates (s : State) (die : Nat) : SMap Nat :=
  (s.tdie die).lamps.filterMap fun e => if e.2.state = 0 then none else some (e.1, e.2.state)

/-- The function groups of a die whose lamps are dark in a view-frame (R343). -/
def State.blankAt (s : State) (die : Nat) (t : Int) : List Nat :=
  (s.tdie die).blanks.filterMap fun e => match e.2 with
    | some b => if b ≤ t then some e.1 else none
    | none => none

/-- The zone temperatures of a die, in 1/16 °C; +105 °C for a zone that has none. -/
def State.zoneTemps (s : State) (die : Nat) : SMap Int :=
  smPutAll 1680 [] 0 ((List.range 64).map fun z => (((smGet {} (s.tdie die).zones z).temp + 128) / 256))

/-- The coefficient records for a view-frame of a launch time: those before the patches of the first frame boundary at or after it (R267), but for patches of a set that a commit has brought since. -/
def State.setFor (s : State) (die : Nat) (t : Int) : Option Value :=
  ((s.tdie die).sets.find? fun e => decide (t ≤ e.1) && (match s.corrix.before with
    | some (eff, _) => decide (eff ≤ t) || decide (e.1 < (s.corrix.lastT : Int))
    | none => true)).map (·.2)

/-- The objects that a view-frame of a launch time is corrected with (R267). -/
def State.objsFor (s : State) (die : Nat) (t : Int) : SMap Value :=
  match s.setFor die t with
  | some v => smPut .dflt (s.asOf t).objs (fullKey die Ob.corr_set_records) v
  | none => (s.asOf t).objs

/-- Has the store a half free for the next view-frame (R190, R201): no group needs one older than the one shown, but for a picture that its drivers hold? -/
def State.storeFree (s : State) (die : Nat) : Bool :=
  (s.tdie die).olds.all fun h => (s.tdie die).groups.all fun e => !(e.2.needs h.at_) || (e.2.shows = some h.at_ && s.frameMem die e.1)

/-- CORRECTION_BEGIN (R190, R267, R270): once the view-frame before it has launched, the store has a half free and a cell has come, the die fixes every value the view-frame uses; the reader begins. -/
def State.correctionBegin (s : State) (die frame view : Nat) : State :=
  match s.tile.rx.find? fun r => r.frame = frame && r.view = view && !(bit r.begun die) with
  | none => s
  | some r =>
    let free := match s.vfPrev { at_ := r.at_, frame := r.frame, view := r.view, dark := false } with
      | some p => s.reachedOn die p.at_
      | none => true
    let older := match (s.tdie die).next with
      | some h => decide (h.at_ < r.at_) && !((s.tdie die).groups.any fun e => (e.2.mode = 4 && e.2.at_ = h.at_) || e.2.wait.any fun w => w.at_ = h.at_)
      | none => true
    if !s.isTile || s.dies ≤ die || !(s.fwOn die) || r.cells.isEmpty || !free || !older || !(s.storeFree die) then s
    else
      let s := s.patchApply die
      let temps := s.zoneTemps die
      let scales := (s.asOf r.at_).zoneScales die temps
      let h : Half := { at_ := r.at_, frame := r.frame, view := r.view, objs := s.objsFor die r.at_, gain := s.fadeAt r.at_, temps := temps, scales := scales,
                        faults := s.faultStates die, blank := s.blankAt die r.at_ }
      let r1 := { r with reading := true, begun := setBit r.begun die }
      let s1 := (s.setTdie die fun d => { d with next := some h }).putRx r1
      let s2 := s1.each (List.range 64) fun z s => s.put die (atIndex Ob.zone_derate z) ((min 65535 (smGet 65536 scales z) : Nat) : Int)
      { s2 with launch := { s2.launch with begun := some (max r.at_ (s2.launch.begun.getD r.at_)) } }

end Sys2Proof.Machine
end

