-- ==== Sys2Proof/Machine/Camera.lean ====
section
/-! DEFINITION. The camera pipeline (chapter 8): CSI-2 packets, the stages of Table 8.2, memory-path frames, drops, measurement captures. -/

namespace Sys2Proof.Machine

/-- A stream beside its objects. -/
def State.stream (s : State) (n : Nat) : StreamSt := smGet {} s.cam.streams n

/-- A stream changed. -/
def State.setStream (s : State) (n : Nat) (f : StreamSt → StreamSt) : State :=
  { s with cam := { s.cam with streams := smPut {} s.cam.streams n (f (s.stream n)) } }

/-- Does a stream exist (R239, R241)? -/
def State.streamExists (s : State) (n : Nat) : Bool := decide (n < 4 * s.camPorts)

/-- Is a stream there and enabled? -/
def State.streamOn (s : State) (n : Nat) : Bool := s.streamExists n && s.at_ Ob.cam_enable n = 1

/-- Width of a stream's frames. -/
def State.camW (s : State) (n : Nat) : Nat := bits (s.at_ Ob.cam_size n) 15 0

/-- Height of a stream's frames. -/
def State.camH (s : State) (n : Nat) : Nat := bits (s.at_ Ob.cam_size n) 31 16

/-- Bits per sample of a stream's data type (Table 8.1). -/
def State.camBits (s : State) (n : Nat) : Nat := 10 + 2 * (s.at_ Ob.cam_dt n - 0x2B)

/-- Is a stream in-line on its die (R242)? -/
def State.camInline (s : State) (n : Nat) : Bool := s.nat (n / 4) Ob.cam_inline = n

/-! The stages (R245-R252) -/

/-- The channel of a pixel: its place in the 2 × 2 cell, or 0 of a monochrome sensor (R245, R251). -/
def State.cfaPos (s : State) (n x y : Nat) : Nat := if s.at_ Ob.cam_cfa n = 4 then 0 else x % 2 + 2 * (y % 2)

/-- The spacing of same-colour pixels. -/
def State.pitch (s : State) (n : Nat) : Nat := if s.at_ Ob.cam_cfa n = 4 then 1 else 2

/-- A 16-bit field of a per-channel object. -/
def State.camField (s : State) (key n ch : Nat) : Nat := bits (s.at_ key n) (16 * ch + 15) (16 * ch)

/-- Is a pixel listed in cam_defects (R249)? The list ends at 0xFFFF_FFFF. -/
def State.defects (s : State) (n : Nat) : List Nat :=
  ((List.range 4096).map fun i => s.blobNum 0 (atIndex Ob.cam_defects n) (4 * i) 4).takeWhile (· ≠ 0xFFFFFFFF)

/-- A frame's pixel; pixels outside it are absent. -/
def pixelIn (w h : Nat) (f : Nat → Nat → Int) (x y : Int) : Option Int :=
  if 0 ≤ x && x < w && 0 ≤ y && y < h then some (f x.toNat y.toNat) else none

/-- The noise variance of a signal, times 256 (R246). -/
def State.noise256 (s : State) (n : Nat) (signal : Int) : Int :=
  let z := s.at_ Ob.cam_noise n
  256 * (bits z 15 0 : Nat) + (bits z 31 16 : Nat) * max signal 0

/-- What a stream's stages need: its size, its defects. -/
structure CamCtx where
  n   : Nat
  w   : Nat
  h   : Nat
  bad : List Nat
  deriving DecidableEq, Repr, Inhabited

/-- A pixel is listed as defective. -/
def CamCtx.listed (c : CamCtx) (x y : Nat) : Bool := c.bad.contains (x + 65536 * y)

/-- Stage 1, spatial noise reduction (R246). -/
def State.camSnr (s : State) (c : CamCtx) (f : Nat → Nat → Int) (x y : Nat) : Int :=
  let k := s.at_ Ob.cam_snr c.n
  if k = 0 || c.listed x y then f x y
  else
    let v := f x y
    let sig := s.noise256 c.n (v - s.camField Ob.cam_black c.n (s.cfaPos c.n x y))
    let p : Int := s.pitch c.n
    let near := (List.range 25).filterMap fun i =>
      let dx : Int := (i % 5 : Nat) - 2
      let dy : Int := (i / 5 : Nat) - 2
      let xx := x + dx * p
      let yy := y + dy * p
      match pixelIn c.w c.h f xx yy with
      | some u =>
        if (dx = 0 && dy = 0) || (!(c.listed xx.toNat yy.toNat) && 4096 * ((u - v) * (u - v)) < (k * k : Nat) * sig) then
          some ((Config.snrWeight k (dx * dx + dy * dy).toNat : Int), u) else none
      | none => none
    let total := (near.map (·.1)).sum
    if total ≤ 0 then v else roundDivInt (near.map fun e => e.1 * e.2).sum total.toNat

/-- Stage 2, temporal noise reduction against the reference (R246, R247). -/
def State.camTnr (s : State) (c : CamCtx) (ref : Option (SMap Nat)) (f : Nat → Nat → Int) (x y : Nat) : Int :=
  let k := s.at_ Ob.cam_tnr c.n
  match ref with
  | none => f x y
  | some r =>
    if k = 0 || c.listed x y then f x y
    else
      let v := f x y
      let u : Int := (smGet 0 r (y * c.w + x) - 1 : Nat)
      let sig := s.noise256 c.n (v - s.camField Ob.cam_black c.n (s.cfaPos c.n x y))
      if 256 * ((u - v) * (u - v)) ≤ 4 * sig then v + roundDivInt ((u - v) * k) 16 else v

/-- Stage 3, black level (R248). -/
def State.camBlack (s : State) (c : CamCtx) (f : Nat → Nat → Int) (x y : Nat) : Int := f x y - s.camField Ob.cam_black c.n (s.cfaPos c.n x y)

/-- The colours of the 2 × 2 CFA cell: 0 R, 1 G, 2 B (R251). -/
def cfaCell (cfa : Nat) : List Nat := [[0, 1, 1, 2], [1, 0, 2, 1], [1, 2, 0, 1], [2, 1, 1, 0]].getD cfa [0, 0, 0, 0]

/-- The colour of a pixel; a monochrome sensor has one. -/
def State.cfaColour (s : State) (n x y : Nat) : Nat := (cfaCell (s.at_ Ob.cam_cfa n)).getD (x % 2 + 2 * (y % 2)) 0

/-- Offsets whose squared length is `d`, row by row from the top. -/
def ringAt (d : Nat) : List (Int × Int) :=
  let r := Nat.sqrt d
  (List.range (2 * r + 1)).flatMap fun j =>
    let dy : Int := (j : Int) - r
    let e := d - (dy * dy).toNat
    let q := Nat.sqrt e
    if q * q ≠ e then [] else if q = 0 then [(0, dy)] else [(-(q : Int), dy), ((q : Int), dy)]

/-- The values of the pixels that `take` gives at growing distances, until there are 4: `n` more squared lengths from `d` on. -/
def nearest (take : Int × Int → Option Int) : Nat → Nat → List Int → List Int
  | 0, _, acc => acc.take 4
  | n + 1, d, acc => if 4 ≤ acc.length then acc.take 4 else nearest take n (d + 1) (acc ++ (ringAt d).filterMap take)

/-- The 4 nearest same-colour neighbours that are not listed (R249), of equally near ones the upper, then the left (log entry 49). -/
def State.camNear (s : State) (c : CamCtx) (f : Nat → Nat → Int) (x y : Nat) : List Int :=
  nearest (fun o =>
    let xx := x + o.1
    let yy := y + o.2
    if c.listed xx.toNat yy.toNat || s.cfaColour c.n xx.toNat yy.toNat ≠ s.cfaColour c.n x y then none else pixelIn c.w c.h f xx yy) (c.w * c.w + c.h * c.h) 1 []

/-- Stage 4, defect correction (R249). -/
def State.camDefect (s : State) (c : CamCtx) (f : Nat → Nat → Int) (x y : Nat) : Int :=
  let d : Int := s.at_ Ob.cam_dyn_defect c.n
  let l := s.camNear c f x y
  let out := d ≠ 0 && l.length = 4 && (l.all (fun u => decide (u + d < f x y)) || l.all (fun u => decide (f x y + d < u)))
  if (c.listed x y || out) && !l.isEmpty then medianInt l else f x y

/-- A shading grid point's gain; 0 reads as 1.0 (R250). -/
def State.shadeAt (s : State) (n ch gx gy : Nat) : Nat :=
  let g := s.blobNum 0 (atIndex Ob.cam_shading n) (2 * (ch * 825 + gy * 33 + gx)) 2
  if g = 0 then 4096 else g

/-- Stage 5, lens shading: the gain interpolated bilinearly from the 33 × 25 grid (R250). -/
def State.camShade (s : State) (c : CamCtx) (f : Nat → Nat → Int) (x y : Nat) : Int :=
  let ch := s.cfaPos c.n x y
  let dw := max 1 (c.w - 1)
  let dh := max 1 (c.h - 1)
  let ux := min 31 (x * 32 / dw)
  let uy := min 23 (y * 24 / dh)
  let fx := x * 32 - ux * dw
  let fy := y * 24 - uy * dh
  let g (i j : Nat) := s.shadeAt c.n ch (ux + i) (uy + j)
  let num := (g 0 0 * (dw - fx) + g 1 0 * fx) * (dh - fy) + (g 0 1 * (dw - fx) + g 1 1 * fx) * fy
  roundDivInt (f x y * num) (4096 * dw * dh)

/-- Stage 6, white balance (R251). -/
def State.camWb (s : State) (c : CamCtx) (f : Nat → Nat → Int) (x y : Nat) : Int :=
  roundDivInt (f x y * s.camField Ob.cam_wb c.n (s.cfaPos c.n x y)) 4096

/-- Stage 7, demosaic: the colours 0 R, 1 G, 2 B of a pixel, its own as it is and the two missing ones interpolated (R251). -/
def State.camRgb (s : State) (c : CamCtx) (f : Nat → Nat → Int) (x y : Nat) : Int × Int × Int :=
  if s.at_ Ob.cam_cfa c.n = 4 then (f x y, f x y, f x y)
  else
    let win := (List.range 25).map fun i => f (edge ((x : Int) + (i % 5 : Nat) - 2) c.w) (edge ((y : Int) + (i / 5 : Nat) - 2) c.h)
    let pos := s.at_ Ob.cam_cfa c.n * 4 + s.cfaPos c.n x y
    let colour (k : Nat) : Int := if s.cfaColour c.n x y = k then f x y else Config.demosaic pos k win
    (colour 0, colour 1, colour 2)

/-- The first position of a colour in the CFA cell (R251). -/
def cfaOf (cfa colour : Nat) : Nat := ((cfaCell cfa).findIdx? (· = colour)).getD 0

/-- 1.0 of a component, which a value after white balance is measured by: sensor saturation less the pedestal (R252; DEDUCED, log entry 160). -/
def State.camFull (s : State) (n colour : Nat) : Nat :=
  let ch := if s.at_ Ob.cam_cfa n = 4 then 0 else cfaOf (s.at_ Ob.cam_cfa n) colour
  max 1 (16383 - s.camField Ob.cam_black n ch)

/-- Stage 8 and the output code: the colour matrix, limits 0-1.0, code = value × 65,535 (R252). -/
def State.camOut (s : State) (c : CamCtx) (v : Int × Int × Int) : List Nat :=
  let e (i j : Nat) : Int := toSigned 16 (s.blobNum 0 (atIndex Ob.cam_ccm c.n) (2 * (3 * i + j)) 2)
  let m := if s.at_ Ob.cam_cfa c.n = 4 then v else matrix13 e v
  let code (x : Int) (k : Nat) : Nat := let full := s.camFull c.n k; roundDiv ((clampInt 0 full x).toNat * 65535) full
  [code m.1 0, code m.2.1 1, code m.2.2 2]

/-- What the pipeline makes of a frame: the linear samples (as code + 1), the new temporal reference, and the captured bytes at the dump point (Table 8.3). -/
def State.camProcess (s0 : State) (n : Nat) (k : CamWork) : SMap Nat × SMap Nat × List Byte :=
  let s : State := { s0 with objs := k.objs }
  let c : CamCtx := { n := n, w := s.camW n, h := s.camH n, bad := s.defects n }
  let ref := match (s0.stream n).ref with
    | some (g, r) => if g = k.gen then some r else none
    | none => none
  let raw (x y : Nat) : Int := (smGet 0 k.raw (y * c.w + x) - 1 : Nat)
  let f2 := s.camTnr c ref (s.camSnr c raw)
  let f5 := s.camShade c (s.camDefect c (s.camBlack c f2))
  let f6 := s.camWb c f5
  let px := (List.range (c.w * c.h)).map fun i => (i % max 1 c.w, i / max 1 c.w)
  let linear := smPutAll 0 [] 0 ((px.flatMap fun p => s.camOut c (s.camRgb c f6 p.1 p.2)).map (· + 1))
  let ref2 := smPutAll 0 [] 0 (px.map fun p => (f2 p.1 p.2).toNat + 1)
  let dump (f : Nat → Nat → Int) : List Byte := px.flatMap fun p => leBytes 2 (ofSigned 16 (clampInt (-32768) 32767 (f p.1 p.2)))
  (linear, ref2, dump (if s.at_ Ob.cam_dump_point n = 0 then raw else if s.at_ Ob.cam_dump_point n = 1 then f2 else f5))

/-! Capture slots (R259-R262) -/

/-- The 64 slots. -/
abbrev slots : List Nat := List.range 64

/-- A slot's values fixed at arming: stream, frame, view, offset, LAY_EVT output, width, window. -/
def State.armedVal (s : State) (k i : Nat) : Int := (smGet [] s.cam.armed k).getD i 0

/-- The stream of a slot. -/
def State.slotStream (s : State) (k : Nat) : Nat := (s.armedVal k 0).toNat

/-- A slot's data and reservation freed: SIZE and FILL 0. -/
def State.freeSlot (s : State) (k : Nat) : State :=
  { s with cam := { s.cam with size := smPut 0 s.cam.size k 0, data := smPut [] s.cam.data k [], fill := smPut 0 s.cam.fill k 0 } }

/-- A slot fails: its reservation is released; CAPTURE_FAILED on the die of its stream. -/
def State.failSlot (s : State) (k why : Nat) : State :=
  let s1 := ((s.freeSlot k).set (atIndex Ob.cap_state k) 5).set (atIndex Ob.cap_reason k) why
  let die := s.slotStream k / 4
  if die < s.camPorts then s1.raise die Ob.cam_flags 2 die else s1

/-- The frame that a slot takes is no longer for it. -/
def State.detachSlot (s : State) (k : Nat) : State :=
  let off (w : CamWork) : CamWork := if w.slot = some k then { w with slot := none } else w
  { s with cam := { s.cam with
      streams := s.cam.streams.map fun e => (e.1, { e.2 with cur := e.2.cur.map off }),
      queue := s.cam.queue.map fun e => (e.1, e.2.map fun f => (f.1, off f.2)) } }

/-- The launch of a frame number and view in the schedule in force and those it joined (R181, R187, R259); an armed commit's is not in force. -/
def State.launchOf (s : State) (frame view : Nat) : Option Int :=
  ((s.launch.past ++ [s.era]).filterMap fun e =>
    let k0 := schedFrame e.sched s.layNow
    let k := k0 + toSigned 32 ((frame + 4294967296 - (k0 % 4294967296).toNat) % 4294967296)
    let l0 := schedLaunch e.sched k 0
    let t := schedLaunch e.sched k view
    if view < e.sched.count && under e.cut l0 && under e.stop t && (match e.start with
      | some x => decide (x ≤ l0)
      | none => true) then some t else none).head?

/-- The trigger time of a slot by the values given. -/
def State.trigger (s : State) (v : List Int) : Option Int :=
  (s.launchOf (v.getD 1 0).toNat (v.getD 2 0).toNat).map fun t => t + v.getD 3 0 * layNs

/-- The LAY_EVT pulse of a slot's trigger (R260). -/
def State.addPulse (s : State) (k : Nat) (t : Int) : State :=
  let x := (s.armedVal k 4).toNat
  if x < 4 then s.setEvt x fun e => { e with pulses := e.pulses ++ [(gridQuot t 1, (s.armedVal k 5).toNat, k)] } else s

/-- A slot's pulse withdrawn, unless it has begun. -/
def State.dropPulse (s : State) (k : Nat) : State :=
  let x := (s.armedVal k 4).toNat
  if x < 4 then s.setEvt x fun e => { e with pulses := e.pulses.filter fun p => p.2.2 ≠ k || decide (p.1 ≤ s.layNow) } else s

/-- Bytes reserved in the capture pool of a die. -/
def State.poolUsed (s : State) (die : Nat) : Nat := ((s.cam.size.filter fun e => s.slotStream e.1 / 4 = die).map (·.2)).sum

/-- A write of 1 to cap_arm (R259): arms a FREE, DONE or FAILED slot, or fails it with the reason of Table 8.6. -/
def State.capArm (s0 : State) (k : Nat) : State :=
  let st := s0.at_ Ob.cap_state k
  if st ≠ 0 && st ≠ 4 && st ≠ 5 then s0
  else
    let v := [Ob.cap_stream, Ob.cap_frame, Ob.cap_view, Ob.cap_offset_ns, Ob.cap_evt, Ob.cap_width_ns, Ob.cap_window_us].map fun o => s0.int 0 (atIndex o k)
    let s1 := s0.freeSlot k
    let s := { s1 with cam := { s1.cam with armed := smPut [] s1.cam.armed k v } }
    let n := s.slotStream k
    let size := s.camW n * s.camH n * 2
    let fail (why : Nat) : State := s.failSlot k why
    if !(s.streamOn n) || s.at_ Ob.cam_output n = 0 then fail 3
    else
      match s.trigger v with
      | none => fail 6
      | some t =>
        if t < s.layNow + 1000000 * layNs then fail 1
        else if s.nat (n / 4) Ob.cam_capture_pool_mb * 1048576 < s.poolUsed (n / 4) + size then fail 2
        else
          let s2 := ((s.set (atIndex Ob.cap_state k) 1).set (atIndex Ob.cap_reason k) 0).set (atIndex Ob.cap_trigger_at k) t
          ({ s2 with cam := { s2.cam with size := smPut 0 s2.cam.size k size } }).addPulse k t

/-- A write of 1 to cap_release: frees the data; an armed slot is cancelled. -/
def State.capRelease (s : State) (k : Nat) : State :=
  let st := s.at_ Ob.cap_state k
  if st = 1 || st = 2 || st = 3 then (((((s.dropPulse k).detachSlot k).freeSlot k).set (atIndex Ob.cap_state k) 5).set (atIndex Ob.cap_reason k) 7)
  else ((s.freeSlot k).set (atIndex Ob.cap_state k) 0).set (atIndex Ob.cap_reason k) 0

/-- CAP_TRIGGER: an armed slot's trigger time comes. -/
def State.capTrigger (s : State) (k : Nat) : State :=
  if s.at_ Ob.cap_state k = 1 && s.reached (s.int 0 (atIndex Ob.cap_trigger_at k)) then s.set (atIndex Ob.cap_state k) 2 else s

/-- The end of a slot's window. -/
def State.windowEnd (s : State) (k : Nat) : Int := s.int 0 (atIndex Ob.cap_trigger_at k) + s.armedVal k 6 * (1000 * layNs)

/-- CAP_WINDOW_TIMEOUT (R261): the window closed with no Frame Start. -/
def State.capTimeout (s : State) (k : Nat) : State :=
  if (s.at_ Ob.cap_state k = 1 || s.at_ Ob.cap_state k = 2) && s.reached (s.windowEnd k) then s.failSlot k 4 else s

/-- The slot that takes a frame whose Frame Start comes now: of those whose window holds it, the one with the earlier trigger (R261). -/
def State.slotFor (s : State) (n : Nat) (fs : Int) : Option Nat :=
  let l := slots.filter fun k => (s.at_ Ob.cap_state k = 1 || s.at_ Ob.cap_state k = 2) && s.slotStream k = n &&
    s.int 0 (atIndex Ob.cap_trigger_at k) ≤ fs && fs < s.windowEnd k
  l.foldl (fun b k => match b with
    | none => some k
    | some j => if s.int 0 (atIndex Ob.cap_trigger_at k) < s.int 0 (atIndex Ob.cap_trigger_at j) then some k else some j) none

/-- A commit that changed the schedule recomputes every armed trigger; a slot whose frame is not launched, or whose trigger has passed, fails (R262). -/
def State.recomputeCaps (s : State) : State :=
  s.each (slots.filter fun k => s.at_ Ob.cap_state k = 1) fun k s =>
    let v := smGet [] s.cam.armed k
    match s.trigger v with
    | some t => if s.reached t then (s.dropPulse k).failSlot k 6 else ((s.dropPulse k).set (atIndex Ob.cap_trigger_at k) t).addPulse k t
    | none => (s.dropPulse k).failSlot k 6

/-! Packets (R240-R244, R256, R257) -/

/-- The rest of a frame dropped (R256): counted, its code kept, FRAME_DROPPED; a slot waiting on it fails. -/
def State.dropFrame (s : State) (n code : Nat) : State :=
  match (s.stream n).cur with
  | none => s
  | some k =>
    let s1 := ((s.setStream n fun t => { t with cur := none }).bump 0 (atIndex Ob.cam_drops n)).set (atIndex Ob.cam_drop_reason n) code
    let s2 := s1.raise (n / 4) Ob.cam_flags 0 (n / 4)
    match k.slot with
    | some j => s2.failSlot j 5
    | none => s2

/-- The raw buffers of a stream in use (R243). -/
def State.rawUsed (s : State) (n : Nat) : Nat := ((smGet [] s.cam.queue (n / 4)).filter fun e => e.1 = n).length

/-- What a packet's header leaves of it (R240): a corrected ECC is counted; an uncorrectable one drops the stream's frame; a header with extended bits is discarded and counted; another packet
goes on to `f` with its stream. -/
def State.csiHeader (s : State) (port vc ecc : Nat) (extVc : Bool) (f : Nat → State → State) : State :=
  let n := 4 * port + vc % 4
  if s.camPorts ≤ port then s
  else if ecc = 2 then s.dropFrame n 1
  else
    let s1 := s.when (ecc = 1) fun s => s.bump 0 (Ob.cam_ecc_corrected + port)
    if extVc then s1.bump 0 (Ob.cam_bad_packets + port) else f n s1

/-- A stream's Frame Start (R243, R244, R253, R256, R261): its Lay time is kept; an enabled stream begins a frame, dropping one in progress, or skips it where a memory-path stream has no free
raw buffer. -/
def State.beginFrame (port n : Nat) (s00 : State) : State :=
  let fs := toGrid (s00.layOf port)
  let s0 := (s00.crossEvents port .frameStart 1).set (atIndex Ob.cam_last_fs n) fs
  if !(s0.streamOn n) then s0
  else
    let s := (s0.dropFrame n 6).setStream n fun t => { t with sinceFs := s0.now }
    let slot := if s.at_ Ob.cam_output n = 0 then none else s.slotFor n fs
    if !(s.camInline n) && 2 ≤ s.rawUsed n then
      let s1 := (s.bump 0 (atIndex Ob.cam_skips n)).raise port Ob.cam_flags 3 port
      match slot with
      | some k => s1.failSlot k 5
      | none => s1
    else
      let w : CamWork := { startAt := s.now, fsAt := fs, inline := s.camInline n, objs := s.objs, slot := slot, gen := (s.stream n).gen }
      let s1 := s.setStream n fun t => { t with cur := some w }
      match slot with
      | some k => (s1.set (atIndex Ob.cap_state k) 3).set (atIndex Ob.cap_fs_at k) fs
      | none => s1

/-- FRAME_START (R240, R244). -/
def State.frameStart (s : State) (port : Nat) (h : CsiHead) : State := s.csiHeader port h.vc h.ecc h.extVc (State.beginFrame port)

/-- Samples of a line aligned to 14 bits and held in the frame (R241). -/
def takeLine (k : CamWork) (w shift : Nat) (samples : List Nat) : CamWork :=
  { k with lines := k.lines + 1, raw := (samples.take w).zipIdx.foldl (fun m e => smPut 0 m (k.lines * w + e.2) (e.1 * shift + 1)) k.raw }

/-- Bytes that wait in a port's receive buffer: the samples that the pipeline has still to take, in the stream's data type (R243). -/
def State.rxWaiting (s : State) (port n : Nat) : Nat := ceilDiv (smGet 0 s.cam.lines port * s.camBits n) 32

/-- A line of the frame in progress, in the values `t` of its Frame Start (R241, R243, R256, R261): a drop condition drops the rest of the frame; else its samples join it, those of an in-line frame
by the receive buffer. -/
def State.takePixels (s : State) (port n : Nat) (k : CamWork) (p : CsiPkt) : State :=
  let t : State := { s with objs := k.objs }
  if !p.crcOk then s.dropFrame n 2
  else if p.wc ≠ t.camW n * t.camBits n / 8 then s.dropFrame n 3
  else if t.camH n ≤ k.lines then s.dropFrame n 4
  else if k.inline && (p.overflow || decide (65536 < t.rxWaiting port n + p.wc)) then s.dropFrame n 7
  else
    let s1 := s.setStream n fun a => { a with cur := some (takeLine k (t.camW n) (2 ^ (14 - t.camBits n)) p.samples) }
    let s2 : State := if k.inline then { s1 with cam := { s1.cam with lines := smPut 0 s1.cam.lines port (smGet 0 s1.cam.lines port + 4 * t.camW n) } } else s1
    match k.slot with
    | some j => { s2 with cam := { s2.cam with fill := smPut 0 s2.cam.fill j ((k.lines + 1) * t.camW n * 2) } }
    | none => s2

/-- Any other packet of a stream (R240, R241): Line Start and Line End are ignored; embedded data is discarded, but its checksum counts; what is not listed, or of another data type than the
stream's, is discarded and counted; line data joins the frame in progress. Outside a frame long packets are discarded without counting (R256). -/
def State.streamPacket (port : Nat) (p : CsiPkt) (n : Nat) (s : State) : State :=
  if p.dt < 4 then s
  else if p.dt = 0x12 then s.when (!p.crcOk) fun s => s.dropFrame n 2
  else if (s.stream n).cur.isNone then s
  else if p.dt ≠ 0x2B && p.dt ≠ 0x2C && p.dt ≠ 0x2D then s.bump 0 (Ob.cam_bad_packets + port)
  else
    match (s.stream n).cur with
    | none => s
    | some k => if p.dt ≠ ({ s with objs := k.objs } : State).at_ Ob.cam_dt n then s.bump 0 (Ob.cam_bad_packets + port) else s.takePixels port n k p

/-- LONG_PACKET (R240). -/
def State.longPacket (s : State) (port vc : Nat) (p : CsiPkt) : State := (s.crossWords port .pixels p.wc).csiHeader port vc p.ecc p.extVc (State.streamPacket port p)

/-- A frame leaves the pipeline: the reference moves on, the linear frame completes its sources, the capture is done (R224, R247, R252, R261). -/
def State.frameOut (s : State) (n : Nat) (k : CamWork) : State :=
  let t : State := { s with objs := k.objs }
  let r := s.camProcess n k
  let old := match (s.stream n).ref with
    | some (g, _) => decide (k.gen < g)
    | none => false
  let s1 := (s.bump 0 (atIndex Ob.cam_frames n)).setStream n fun a => { a with ref := if old then a.ref else some (k.gen, r.2.1) }
  let s2 := s1.when (t.at_ Ob.cam_output n ≠ 1) fun s => s.cameraDone n (t.at_ Ob.cam_primaries n) (t.at_ Ob.cam_out_peak n) r.1
  match k.slot with
  | some j => { s2 with cam := { s2.cam with data := smPut [] s2.cam.data j (smPutAll 0 [] 0 r.2.2), fill := smPut 0 s2.cam.fill j r.2.2.length } }.set (atIndex Ob.cap_state j) 4
  | none => s2

/-- A stream's Frame End (R243, R256): a whole in-line frame is processed; a memory-path frame joins its die's queue. -/
def State.endFrame (port n : Nat) (s0 : State) : State :=
  let s := s0.crossEvents port .frameEnd 1
  match (s.stream n).cur with
  | none => s
  | some k =>
    if k.lines < ({ s with objs := k.objs } : State).camH n then s.dropFrame n 5
    else
      let s1 := s.setStream n fun t => { t with cur := none }
      if k.inline then s1.frameOut n k else { s1 with cam := { s1.cam with queue := smPut [] s1.cam.queue port (smGet [] s1.cam.queue port ++ [(n, k)]) } }

/-- FRAME_END (R240). -/
def State.frameEnd (s : State) (port : Nat) (h : CsiHead) : State := s.csiHeader port h.vc h.ecc h.extVc (State.endFrame port)

/-- Quarters of a pixel in a frame, and in a line of it. -/
def State.frameWork (s : State) (n : Nat) (k : CamWork) : Nat × Nat :=
  let t : State := { s with objs := k.objs }
  (4 * (t.camW n * t.camH n), 4 * t.camW n)

/-- MEMORY_FRAME_PROCESSED (R243): the oldest memory-path frame of the die, all its pixels processed, leaves the pipeline and frees its raw buffer. -/
def State.memoryFrame (s : State) (die : Nat) : State :=
  match smGet [] s.cam.queue die with
  | [] => s
  | (n, k) :: rest =>
    if smGet 0 s.cam.px die < (s.frameWork n k).1 then s
    else ({ s with cam := { s.cam with queue := smPut [] s.cam.queue die rest, px := smPut 0 s.cam.px die 0 } }).frameOut n k

/-- A die's pipeline for 1 ns, at one pixel per core clock (R243): lines of the in-line stream that wait come first, from the next line boundary of the memory-path frame on. -/
def State.pipelineDie (s : State) (die : Nat) : State :=
  let q := s.corePx die
  let wait := smGet 0 s.cam.lines die
  let done := smGet 0 s.cam.px die
  let drain : State := { s with cam := { s.cam with lines := smPut 0 s.cam.lines die (wait - q) } }
  match smGet [] s.cam.queue die with
  | [] => drain
  | (n, k) :: _ =>
    let w := s.frameWork n k
    if wait ≠ 0 && (done % max 1 w.2 < q || w.1 ≤ done) then drain
    else { s with cam := { s.cam with px := smPut 0 s.cam.px die (min w.1 (done + q)) } }

/-- The pipelines of the camera dies for 1 ns. -/
def State.tickCamera (s : State) : State :=
  if s.cam.lines.isEmpty && s.cam.queue.isEmpty then s else s.each ((List.range s.camPorts).filter s.alive) fun d s => s.pipelineDie d

/-- FRAME_TIMEOUT (R256, code 8). -/
def State.frameTimeout (s : State) (n : Nat) : State :=
  match (s.stream n).cur with
  | some k => if s.past k.startAt (s.at_ Ob.cam_frame_timeout_ms n * 1000000) then s.dropFrame n 8 else s
  | none => s

/-- LINK_LOST (R257): an enabled stream with no Frame Start for 4 frame periods; again after each further 4. -/
def State.linkLost (s : State) (n : Nat) : State :=
  if s.streamOn n && s.past (s.stream n).sinceFs (4000000000000 / max 1 (s.at_ Ob.cam_rate_mhz n)) then
    (s.setStream n fun t => { t with sinceFs := s.now }).raise (n / 4) Ob.cam_flags 1 (n / 4)
  else s

/-! Budget (R254, R255) -/

/-- The enabled streams of a die. -/
def State.dieStreams (s : State) (die : Nat) : List Nat := ((List.range 4).map (4 * die + ·)).filter s.streamOn

/-- W × H × r of a stream, per 1,000 s. -/
def State.camRate (s : State) (n : Nat) : Nat := s.camW n * s.camH n * s.at_ Ob.cam_rate_mhz n

/-- cam_load of a die: Mpixel/s, rounded up. -/
def State.camLoad (s : State) (die : Nat) : Nat := ceilDiv ((s.dieStreams die).map s.camRate).sum 1000000000

/-- F_cam of a die, in bytes per 1,000 s (R255). -/
def State.fcam (s : State) (die : Nat) : Nat :=
  ((s.dieStreams die).map fun n => s.camRate n *
    (4 * b2n (s.at_ Ob.cam_tnr n ≠ 0) + 4 * b2n (!(s.camInline n)) + 2 * b2n (s.at_ Ob.cam_output n ≠ 0))).sum

end Sys2Proof.Machine
end

