-- ==== Sys2Proof/Machine/Crypto.lean ====
section
/-! DEFINITION. The two checks of an update image (Table 15.7): SHA-384 of FIPS 180-4, and ECDSA on the curve P-384 of FIPS 186-4. -/

namespace Sys2Proof.Machine

/-! SHA-384: words are numbers below 2^64 -/

/-- A 64-bit word. -/
abbrev w64 (n : Nat) : Nat := n % 18446744073709551616

/-- A word rotated right. -/
def rotr (k x : Nat) : Nat := w64 (x >>> k ||| x <<< (64 - k))

/-- The primes below `n`. -/
def primesBelow (n : Nat) : List Nat := (List.range n).filter fun p => decide (2 ≤ p) && (List.range p).all fun d => decide (d < 2) || p % d ≠ 0

/-- The whole part of the `k`-th root of `n`, from `r` on: its lowest `b` bits are still to be found. -/
def rootFrom (k n : Nat) : Nat → Nat → Nat
  | 0, r => r
  | b + 1, r => rootFrom k n b (if (r + 2 ^ b) ^ k ≤ n then r + 2 ^ b else r)

/-- The first 64 bits of the fractional part of the `k`-th root of a number below 512. -/
def rootFraction (k p : Nat) : Nat := w64 (rootFrom k (p * 2 ^ (64 * k)) 70 0)

/-- The round constants: the fractions of the cube roots of the first 80 primes, those below 410. -/
def shaConsts : List Nat := (primesBelow 410).map (rootFraction 3)

/-- The initial hash value of SHA-384: the fractions of the square roots of the ninth to the sixteenth prime. -/
def shaStart : List Nat := ((primesBelow 54).drop 8).map (rootFraction 2)

/-- The next `n` words of the message schedule; the words so far stand newest first. -/
def shaSchedule : Nat → List Nat → List Nat
  | 0, ws => ws
  | n + 1, ws =>
    let a := ws.getD 1 0
    let b := ws.getD 14 0
    let s1 := rotr 19 a ^^^ rotr 61 a ^^^ a >>> 6
    let s0 := rotr 1 b ^^^ rotr 8 b ^^^ b >>> 7
    shaSchedule n (w64 (s1 + ws.getD 6 0 + s0 + ws.getD 15 0) :: ws)

/-- One round: the eight working words after a constant and a schedule word. -/
def shaRound : List Nat → Nat × Nat → List Nat
  | [a, b, c, d, e, f, g, h], (k, w) =>
    let t1 := h + (rotr 14 e ^^^ rotr 18 e ^^^ rotr 41 e) + (e &&& f ^^^ (18446744073709551615 - e) &&& g) + k + w
    let t2 := (rotr 28 a ^^^ rotr 34 a ^^^ rotr 39 a) + (a &&& b ^^^ a &&& c ^^^ b &&& c)
    [w64 (t1 + t2), a, b, c, w64 (d + t1), e, f, g]
  | l, _ => l

/-- Bytes, most significant first, as a number. -/
def ofBe (bs : List Byte) : Nat := bs.foldl (fun n b => 256 * n + b.toNat) 0

/-- A number as `k` bytes, most significant first. -/
def beBytes (k n : Nat) : List Byte := (leBytes k n).reverse

/-- The hash after one block of 128 bytes. -/
def shaBlock (h : List Nat) (block : List Byte) : List Nat :=
  let ws := (List.range 16).foldl (fun l i => ofBe ((block.drop (8 * i)).take 8) :: l) []
  let r := (shaConsts.zip (shaSchedule 64 ws).reverse).foldl shaRound h
  (h.zip r).map fun e => w64 (e.1 + e.2)

/-- The hash after `n` blocks. -/
def shaBlocks : Nat → List Nat → List Byte → List Nat
  | 0, h, _ => h
  | n + 1, h, bs => shaBlocks n (shaBlock h (bs.take 128)) (bs.drop 128)

/-- SHA-384 of a byte string: 48 bytes. -/
def sha384 (bs : List Byte) : List Byte :=
  let msg := bs ++ [0x80] ++ List.replicate ((239 - bs.length % 128) % 128) 0 ++ beBytes 16 (8 * bs.length)
  ((shaBlocks (msg.length / 128) shaStart msg).take 6).flatMap (beBytes 8)

/-! ECDSA P-384 -/

/-- The prime of the field. -/
def p384 : Nat := 0xfffffffffffffffffffffffffffffffffffffffffffffffffffffffffffffffeffffffff0000000000000000ffffffff

/-- The order of the base point. -/
def p384Order : Nat := 0xffffffffffffffffffffffffffffffffffffffffffffffffc7634d81f4372ddf581a0db248b0a77aecec196accc52973

/-- The base point. -/
def p384Base : Nat × Nat :=
  (0xaa87ca22be8b05378eb1c71ef320ad746e1d3b628ba79b9859f741e082542a385502f25dbf55296c3a545e3872760ab7,
   0x3617de4a96262c6f5d9e98bf9292dc29f8f41dbd289a147ce9da3113b5f0b8c00a60b1ce1d7e819d7a431d7c90ea0e5f)

/-- A power modulo `m`: exponent bits from bit `k - 1` down. -/
def powMod (m b e : Nat) : Nat → Nat
  | 0 => 1
  | k + 1 => powMod m (b * b % m) (e / 2) k * (if e % 2 = 1 then b else 1) % m

/-- The inverse modulo a prime below 2^384. -/
def invMod (m a : Nat) : Nat := powMod m (a % m) (m - 2) 384

/-- A sum of points of the curve; none is the point at infinity. -/
def curveAdd : Option (Nat × Nat) → Option (Nat × Nat) → Option (Nat × Nat)
  | none, q => q
  | p, none => p
  | some (x1, y1), some (x2, y2) =>
    if x1 = x2 && (y1 + y2) % p384 = 0 then none
    else
      let l := (if x1 = x2 then (3 * x1 * x1 + p384 - 3) * invMod p384 (2 * y1) else (y2 + p384 - y1) * invMod p384 (x2 + p384 - x1)) % p384
      let x := (l * l + 2 * p384 - x1 - x2) % p384
      some (x, (l * (x1 + p384 - x) + p384 - y1) % p384)

/-- A multiple of a point, by the lowest `k` bits of the factor. -/
def curveMul (p : Option (Nat × Nat)) (e : Nat) : Nat → Option (Nat × Nat)
  | 0 => none
  | k + 1 => curveAdd (if e % 2 = 1 then p else none) (curveMul (curveAdd p p) (e / 2) k)

/-- Does a signature (r then s, 48 bytes each, big-endian) over a digest verify with a public key? -/
def ecdsaOk (key : Nat × Nat) (digest signature : List Byte) : Bool :=
  let n := p384Order
  let r := ofBe (signature.take 48)
  let s := ofBe ((signature.drop 48).take 48)
  let w := invMod n s
  let sum := curveAdd (curveMul (some p384Base) (ofBe digest * w % n) 384) (curveMul (some key) (r * w % n) 384)
  decide (1 ≤ r) && decide (r < n) && decide (1 ≤ s) && decide (s < n) && (match sum with
    | some q => decide (q.1 % n = r)
    | none => false)

end Sys2Proof.Machine
end

