-- ==== Sys2Proof/Machine/Raster.lean ====
section
/-! DEFINITION. The raster engine and the driver chains (chapter 10): launches, lines and catch-up, shifting, self-refresh, output faults, check rectangles, the latency tolerance. -/

namespace Sys2Proof.Machine

/-- A chain group beside its objects. -/
def State.gst (s : State) (die g : Nat) : GroupSt := smGet {} (s.tdie die).groups g

/-- A chain group changed. -/
def State.setG (s : State) (die g : Nat) (f : GroupSt → GroupSt) : State :=
  s.setTdie die fun t => { t with groups := smPut {} t.groups g (f (smGet {} t.groups g)) }

/-- A group's object set. -/
def State.putG (s : State) (die g key : Nat) (v : Int) : State := s.put die (atIndex key g) v

/-- The groups in use of a die. -/
def State.groupsUsed (s : State) (die : Nat) : List Nat := (List.range 4).filter (s.groupUsed die)

/-- The groups in use whose rail is sensed: with none a group cannot run (R400). -/
def State.groupRuns (s : State) (die g : Nat) : Bool := s.groupUsed die g && s.grp die g Ob.rg_vddio ≠ 0

/-- The groups of a die that run. -/
def State.groupsRun (s : State) (die : Nat) : List Nat := (List.range 4).filter (s.groupRuns die)

/-! Figures of a group (R301, R305, R309, R315) -/

/-- A LAT width of the profile (Table 10.2). -/
def State.latWidth (s : State) (die g cmd : Nat) : Nat := bits (s.prof die g 6 4) (4 * cmd + 3) (4 * cmd)

/-- D: the largest chain_drivers among the group's chains in use. -/
def State.groupD (s : State) (die g : Nat) : Nat :=
  maxOr 0 (((List.range 6).filter fun i => s.chainUsed die (6 * g + i)).map fun i => s.nat die (Ob.chain_drivers + 6 * g + i))

/-- Does the group shift on both SCLK edges? -/
def State.bothEdges (s : State) (die g : Nat) : Bool := s.grp die g Ob.rg_vddio = 1 && bit (s.prof die g 3 1) 1

/-- Word bits W. -/
def State.wordBits (s : State) (die g : Nat) : Nat := s.prof die g 2 1

/-- O_k of R334: the entries of the chains in use below chain `k`. -/
def State.chainOffset (s : State) (die k : Nat) : Nat :=
  (((List.range k).filter (s.chainUsed die)).map fun i => s.nat die (Ob.chain_drivers + i) * s.chans die (i / 6) * s.grp die (i / 6) Ob.rg_scan_lines).sum

/-- The time of `n` data bits on a chain, in ns, rounded up. -/
def State.bitsNs (s : State) (die g n : Nat) : Nat :=
  let d := s.grp die g Ob.rg_sclk_div
  if s.bothEdges die g then ceilDiv (n * d) 2 else n * d

/-- The time of a command's SCLK edges, in ns. -/
def State.cmdNs (s : State) (die g cmd : Nat) : Nat := s.latWidth die g cmd * s.grp die g Ob.rg_sclk_div

/-- The time of one group of words, in ns. -/
def State.wordsNs (s : State) (die g : Nat) : Nat := s.bitsNs die g (s.groupD die g * s.wordBits die g)

/-- The time of one scan line's groups of words, in ns. -/
def State.unitNs (s : State) (die g : Nat) : Nat := s.bitsNs die g (s.chans die g * s.groupD die g * s.wordBits die g)

/-- S of R315: per view-frame in frame-memory mode, per line in direct mode, in ns. -/
def State.shiftNs (s : State) (die g : Nat) : Nat :=
  let rb := s.prof die g 12 1 * s.cmdNs die g 3
  if s.frameMem die g then s.bitsNs die g (s.grp die g Ob.rg_scan_lines * s.chans die g * s.groupD die g * s.wordBits die g) + s.cmdNs die g 2 + rb
  else s.unitNs die g + s.cmdNs die g 1 + rb

/-- lines(j) for a slot in Lay units (R309). -/
def State.lineCount (s : State) (die g slot : Nat) : Nat :=
  let l := max 1 (s.grp die g Ob.rg_scan_lines)
  l * (slot / (l * max 1 (s.grp die g Ob.rg_line_ns) * layNs))

/-- The lit time of a line, in ns. -/
def State.litNs (s : State) (die g : Nat) : Nat := s.grp die g Ob.rg_line_ns - s.grp die g Ob.rg_blank_ns

/-- The blanking that catch-up may cut from a line of a slot, in Lay units: b_nom − b_min. -/
def State.catchUp (s : State) (die g slot : Nat) : Nat :=
  let n := s.lineCount die g slot
  let stretch := if n = 0 then 0 else slot / n - s.grp die g Ob.rg_line_ns * layNs
  (s.grp die g Ob.rg_blank_ns * layNs + stretch) - s.grp die g Ob.rg_blank_min_ns * layNs

/-- Is an output of a group disabled (R327), or cleared but not yet driven again (R328)? -/
def State.outOff (s : State) (die g n : Nat) : Bool := bit (s.grp die g Ob.rg_out_fault ||| (s.gst die g).back) n

/-- The resting level of an output of a group (R302): low, but for ROW_A and ROW_EN after rg_row_pol. -/
def State.restLevel (s : State) (die g n : Nat) : Bool :=
  if 3 ≤ n && n ≤ 8 then bit (s.grp die g Ob.rg_row_pol) 0 else decide (n = 9) && bit (s.grp die g Ob.rg_row_pol) 1

/-- A group takes its resting levels (R302), by the settings of `c`; with no rail its outputs are high-impedance (R400). -/
def State.rest (s c : State) (die g : Nat) : State :=
  s.emit (if c.grp die g Ob.rg_vddio = 0 then .highZ die g else .rest die g (if c.restLevel die g 3 then 63 else 0) (c.restLevel die g 9))

/-- The levels of ROW_A[5:0] for a scan line; a disabled bit stays at its resting level (R310, R327). -/
def State.rowLevels (s : State) (die g scan : Nat) : Nat :=
  ((List.range 6).map fun i => if ((bit scan i && !(s.outOff die g (3 + i))) != s.restLevel die g 3) then 2 ^ i else 0).sum

/-- Does a fault stop the group's shifting (R328)? -/
def State.groupStopped (s : State) (die g : Nat) : Bool := s.outOff die g 0 || s.outOff die g 1 || s.outOff die g 9

/-! The lamp frame store (R306-R308) -/

/-- The 16-bit value of a store position (R295, R308): 0 where no lamp is placed, none while it is not written. -/
def State.storeValue (s : State) (h : Half) (die pos : Nat) : Option Nat :=
  let t : State := { s with objs := h.objs }
  match (t.placed die).filter fun e => e.2.2 = pos with
  | [] => some 0
  | l =>
    let e := l.getD (if l.length = 1 then 0 else Config.placedLamp pos h.at_.toNat % l.length) (0, 0, 0)
    s.storedLamp h die e.1 e.2.1

/-- Has every lamp placed on a scan line of a group been written (R312)? -/
def State.lineWritten (s : State) (h : Half) (die g line : Nat) : Bool :=
  let t : State := { s with objs := h.objs }
  (t.placed die).all fun e => !(e.2.2 / 262144 / 6 = g && e.2.2 / 4096 % 64 = line) || (s.storedLamp h die e.1 e.2.1).isSome

/-- The background word of a channel (R314): the rg_bg component of its colour. -/
def State.background (s : State) (die g ch : Nat) : Nat :=
  let col := bits (s.prof die g 32 12) (2 * ch + 1) (2 * ch)
  bits (s.grp die g Ob.rg_bg) (16 * col + 15) (16 * col)

/-- The words of a scan line, in the order they are shifted (R305): channel, then driver position from the far end, then chain. From word `bgFrom` on they are background (R314); a chain whose
CHAIN_SDI is disabled stays low (R327). -/
def State.lineWords (s : State) (h : Half) (die g line : Nat) (bgFrom : Option Nat) (dead : Nat → Bool) : List Nat :=
  let c := s.chans die g
  let d := s.groupD die g
  let w := s.wordBits die g
  let desc := bit (s.prof die g 3 1) 2
  let slots := (List.range c).flatMap fun i => let ch := if desc then c - 1 - i else i
    (List.range d).flatMap fun p => (List.range 6).map fun k => (ch, d - 1 - p, 6 * g + k)
  (slots.zipIdx).map fun e =>
    let (ch, drv, chain) := e.1
    let bg := match bgFrom with
      | some n => decide (n ≤ e.2 / 6)
      | none => false
    let v := if bg then s.background die g ch
      else if s.posValid die (posKey chain line drv ch) then (s.storeValue h die (posKey chain line drv ch)).getD 0 else 0
    if dead (chain % 6) then 0 else v / 2 ^ (16 - w)

/-! Launch (R198-R201, R204, R311, R325) -/

/-- The half of a die that holds a view-frame. -/
def State.halfOf (s : State) (die : Nat) (t : Int) : Option Half := ((s.tdie die).next.toList ++ (s.tdie die).shown.toList ++ (s.tdie die).olds).find? fun h => h.at_ = t

/-- The state with the values in force for the view-frame of a launch (R70, R190): those of its half, or of that launch. Only settings are read from it. -/
def State.cfgFor (s : State) (die : Nat) (t : Int) : State := match s.halfOf die t with
  | some h => { s with objs := h.objs }
  | none => s.asOf t

/-- The VSYNC or LINE_LATCH command of a group, its latch edge at a Lay time, for the view-frame of a launch (R304, R310). -/
def State.latchOut (s : State) (die g : Nat) (vsync : Bool) (launch t : Int) : State :=
  (s.emit (.latch die g vsync ((s.cfgFor die launch).latWidth die g (if vsync then 2 else 1)) t.toNat)).crossEvents die (.latchDone g) 1

/-- A latch edge sent (R325): rg_frames and the flip record. -/
def State.flip (s : State) (die g : Nat) (v : Vf) (when_ : Int) : State :=
  let t := gridQuot when_ 1
  let s1 := s.latchOut die g ((s.cfgFor die v.at_).frameMem die g) v.at_ t
  ((((s1.bump die (atIndex Ob.rg_frames g)).putG die g Ob.rg_last_flip t).putG die g Ob.rg_last_flip_frame v.frame).putG die g Ob.rg_last_flip_view v.view)

/-- A late start is flagged, counted and its lag recorded (R198, R201). -/
def State.noteLate (s : State) (die : Nat) (v : Vf) (lag : Nat) : State :=
  let ns := lag / layNs
  let s1 := (s.bump die Ob.late_starts).launchFlag die 0
  ((s1.put die Ob.lag_last_ns ns).put die Ob.lag_max_ns (max ns (s1.nat die Ob.lag_max_ns))).put die Ob.late_last_at v.at_

/-- The half that a group shows. -/
def State.groupHalf (s : State) (die g : Nat) : Option Half := (s.gst die g).shows.bind (s.halfOf die)

/-- Halves that no group of the die shows or waits for any more are given up. -/
def State.pruneHalves (s : State) (die : Nat) : State :=
  if (s.tdie die).olds.isEmpty then s else s.setTdie die fun d => { d with olds := d.olds.filter fun h => d.groups.any fun e => e.2.needs h.at_ }

/-- The half that holds a view-frame becomes the one shown; the one before stays while another group still needs it. -/
def State.showHalf (s : State) (die : Nat) (t : Int) : State :=
  match (s.tdie die).next with
  | some h => if h.at_ = t then s.setTdie die fun d => { d with shown := some h, next := none, olds := d.shown.toList ++ d.olds } else s
  | none => s

/-- Readback falls due at every rg_rb_every-th lit view-frame that the group starts (R320). -/
def State.rbCount (s : State) (die g : Nat) (launch : Int) : State :=
  let c := s.cfgFor die launch
  let n := c.grp die g Ob.rg_rb_every
  if n = 0 || c.prof die g 12 1 = 0 then s
  else s.setG die g fun t => if n ≤ t.rbCount + 1 then { t with rbCount := 0, rbDue := true } else { t with rbCount := t.rbCount + 1 }

/-- A group starts a view-frame with a lag (R198, R200). -/
def State.startGroup (s : State) (die g : Nat) (v : Vf) (lag : Nat) : State :=
  let s1 := (s.when (0 < lag) fun s => s.noteLate die v lag).showHalf die v.at_
  let s2 := (s1.setG die g fun t => { t with at_ := v.at_, frame := v.frame, view := v.view, mode := 1, line := 0, lag := lag, carry := 0, run := 0, shows := some v.at_, fill := none, proves := false }).pruneHalves die
  let s3 := ((s2.flip die g v (v.at_ + lag)).putG die g Ob.rg_state 1).rbCount die g v.at_
  match s3.tile.rx.find? fun r => r.at_ = v.at_ with
  | some r => s3.putRx { r with started := true }
  | none => s3

/-- When a group's data for a view-frame are ready (R198, R312, R313). -/
def State.readyAt (s : State) (die g : Nat) (t : Int) : Option Int :=
  let x := s.gst die g
  if (s.cfgFor die t).frameMem die g then match x.ready with
    | some (a, r) => if a = t then some r else none
    | none => none
  else if x.shiftAt = some t && !x.again then (x.units.find? fun u => u.1 = 0).map (·.2) else none

/-- The view-frame whose slot a group runs: its own, or a later one in which it waits (R198). -/
def GroupSt.slotVf (x : GroupSt) : Vf := match x.fill with
  | some v => v
  | none => { at_ := x.at_, frame := x.frame, view := x.view, dark := false }

/-- The slot a group runs. -/
def State.groupSlot (s : State) (die g : Nat) : Nat := s.slotOf (s.gst die g).slotVf

/-- The values in force for the slot a group runs. -/
def State.slotCfg (s : State) (die g : Nat) : State := s.cfgFor die (s.gst die g).slotVf.at_

/-- Lag that the lines a started view-frame still has cannot make up is a carry, though a slot that is not started ends it (R200). -/
def State.carryCut (s : State) (die g : Nat) : State :=
  let x := s.gst die g
  let slot := s.slotOf { at_ := x.at_, frame := x.frame, view := x.view, dark := false }
  let c := s.cfgFor die x.at_
  s.when (x.mode = 1 && (c.lineCount die g slot - x.line) * c.catchUp die g slot < x.lag) fun s => (s.bump die Ob.carries).launchFlag die 2

/-- A half with the groups dark that are blanked in a slot (R343). -/
def State.blankHalf (s : State) (die : Nat) (t : Int) (h : Half) : Half := { h with blank := h.blank ++ (s.blankAt die t).filter fun b => !(h.blank.contains b) }

/-- A blank from B on darkens the held halves (R343). -/
def State.blankHeld (s : State) (die : Nat) (t : Int) : State := s.setTdie die fun d => { d with shown := d.shown.map (s.blankHalf die t), olds := d.olds.map (s.blankHalf die t) }

/-- rg_state of a group that fills a slot: 2 where it holds a picture, 1 where it is dark; a group that has shown nothing yet, is in self-refresh or stopped keeps its own. -/
def State.holding (s : State) (die g mode : Nat) : State :=
  if (s.groupHalf die g).isNone || s.grp die g Ob.rg_state = 3 || s.grp die g Ob.rg_state = 4 then s else s.putG die g Ob.rg_state (if mode = 2 then 2 else 1)

/-- The received view-frame of a launch time. -/
def State.rxAt (s : State) (t : Int) : Option RxFrame := s.tile.rx.find? fun r => r.at_ = t

/-- Has a view-frame failed its check (R275)? -/
def State.rxFailed (s : State) (t : Int) : Bool := match s.rxAt t with
  | some r => (match r.verdict with
    | some n => decide (n ≠ 0)
    | none => false)
  | none => false

/-- Has a view-frame passed its check (R275)? -/
def State.rxPassed (s : State) (t : Int) : Bool := match s.rxAt t with
  | some r => r.verdict = some 0
  | none => false

/-- Is a launched view-frame still waited for: late, and neither failed nor missing (R198, R199)? -/
def State.awaitsStill (s : State) (v : Vf) : Bool :=
  !(s.rxFailed v.at_) && ((match s.rxAt v.at_ with
    | some r => r.check.isSome
    | none => false) || match s.vfAfter v.at_ with
    | some n => !(s.reached n.at_)
    | none => true)

/-- The view-frame that a group waits for. -/
def GroupSt.due (x : GroupSt) : List Vf := if x.mode = 4 then [{ at_ := x.at_, frame := x.frame, view := x.view, dark := false }] else []

/-- A slot whose view-frame is not started (R200, R275, R311): held, or dark; a blank from B on darkens the held half (R343), and a held run counts toward self-refresh (R317). A view-frame that
the group waited for still waits (R198, R201; log entry 137). -/
def State.fillSlot (s : State) (die g : Nat) (v : Vf) (mode : Nat) : State :=
  let s1 := (s.carryCut die g).setG die g fun t =>
    { t with at_ := v.at_, frame := v.frame, view := v.view, mode := mode, line := 0, lag := 0, carry := 0, fill := none, wait := (t.due ++ t.wait).filter s.awaitsStill, run := if v.dark then t.run else t.run + 1 }
  let s2 := s1.when (mode = 2) fun s => s.blankHeld die v.at_
  let again := match (s.gst die g).resume with
    | some b => decide (b ≤ v.at_) && (s.readyAt die g b).isSome
    | none => false
  let s3 := s2.when again fun s => (s.setG die g fun t => { t with resume := none }).latchOut die g true v.at_ v.at_
  s3.holding die g mode

/-- The first launch of the schedule that a die has not handled, once its own Lay clock has reached it (R105). -/
def State.dueLaunch (s : State) (die : Nat) : Option Vf :=
  let v := match (s.tdie die).lastAt with
    | some t => s.vfAfter t
    | none => s.vfBefore (s.layOf die)
  match v with
  | some v => if s.reachedOn die v.at_ then some v else none
  | none => none

/-- Is a launch unaligned (R103, R198)? -/
def State.unaligned (s : State) : Bool :=
  s.layState = layFree || (s.layState = layAcquire && match s.lay.acquiredAt with
    | some t => !(s.past t 1000000000)
    | none => false)

/-- May the part start a first view-frame after a reset (R397): a schedule is in force, step 10 is over, Lay time LOCKED or ROOT, 1 s since ACQUIRE? -/
def State.bootReady (s : State) : Bool :=
  s.scheduled && s.past s.boot.releaseAt (s.boot.env.bootMs.getD 9 0 * 1000000) && (s.layState = layLocked || s.layState = layRoot) &&
  (match s.lay.acquiredAt with
   | some t => s.past t 1000000000
   | none => true)

/-- Does a die start no view-frame at a launch: its firmware does not run, or an activation has just ended (R393, R442)? -/
def State.pausedAt (s : State) (die : Nat) (t : Int) : Bool := !(s.fwOn die) || decide (t < smGet 0 s.boot.resume die)

/-- The first view-frame started after an activation at T gives upd_pause_ms (R442). -/
def State.notePause (s : State) (t : Int) : State := match s.upd.pause with
  | some a => ({ s with upd := { s.upd with pause := none } } : State).set Ob.upd_pause_ms (min 65535 (ceilDiv (t - a).toNat (1000000 * layNs)) : Nat)
  | none => s

/-- The first line of a slot that does not begin before now. -/
def State.lineNow (s : State) (die g : Nat) (v : Vf) : Nat :=
  let slot := s.slotOf v
  let n := (s.cfgFor die v.at_).lineCount die g slot
  min n (ceilDiv (((s.layOf die : Int) - v.at_).toNat * n) (max 1 slot))

/-- A group waits for the first of the launched view-frames behind it that is neither failed nor missing (R198, R199, R201), in the slot of the last of them. -/
def State.waitNext (s : State) (die g : Nat) : State :=
  match (s.gst die g).wait.filter s.awaitsStill with
  | v :: rest => s.setG die g fun t =>
    { t with at_ := v.at_, frame := v.frame, view := v.view, mode := 4, line := s.lineNow die g (rest.getLast?.getD v), lag := 0, wait := rest, fill := rest.getLast? }
  | [] => s.setG die g fun t => { t with wait := [] }

/-- A group comes to wait for a view-frame that has launched (R198): its slot is filled until the start. -/
def State.beginWait (s : State) (die g : Nat) (v : Vf) (carry : Nat) : State :=
  ((s.blankHeld die v.at_).setG die g fun t =>
    { t with at_ := v.at_, frame := v.frame, view := v.view, mode := 4, line := 0, lag := 0, carry := carry, fill := none, run := if t.mode = 4 then t.run + 1 else t.run }).holding die g (if s.pw Ob.late_fill = 0 then 2 else 3)

/-- What a group does at a launch (R198, R199, R201, R275, R311): the slot is filled, or the view-frame starts, or it waits: for its data, behind a view-frame that is late, or
for lines of the one before that are not ready in direct mode (R200). A group that waits fills the new slot as the one before. -/
def State.launchGroup (s : State) (die : Nat) (v : Vf) (g : Nat) : State :=
  let noDesc := !(spliceUsable (s.spliceAt v.at_))
  let fill := if s.pw Ob.late_fill = 0 then 2 else 3
  if s.groupStopped die g then s.fillSlot die g v (if s.frameMem die g && !v.dark then 2 else 3)
  else if v.dark then s.fillSlot die g v 3
  else if (s.gst die g).sr || (s.gst die g).resume.isSome then s.fillSlot die g v 2
  else if s.pausedAt die v.at_ || ((s.gst die g).proves && !(s.rxPassed v.at_)) then s.fillSlot die g v 2
  else if noDesc then s.fillSlot die g v 3
  else if s.rxFailed v.at_ then s.fillSlot die g v fill
  else
    let x := s.gst die g
    let late := (x.due ++ x.wait).filter s.awaitsStill
    let busy := x.mode = 1 && (decide (0 < x.lag) || (let c := s.slotCfg die g; !(c.frameMem die g) && decide (x.line < c.lineCount die g (s.groupSlot die g))))
    if busy || !late.isEmpty then
      let s1 := s.setG die g fun t => { t with wait := (if busy then x.wait else late) ++ [v] }
      if busy then s1
      else if x.mode = 4 && late.head? = x.due.head? then
        (s1.blankHeld die v.at_).setG die g fun t => { t with wait := late.drop 1 ++ [v], fill := some v, line := 0, run := t.run + 1 }
      else s1.waitNext die g
    else
      let carry := if x.mode = 4 then 0 else x.carry
      let s1 := s.setG die g fun t => { t with wait := [] }
      if (s.readyAt die g v.at_).map (fun t => max carry (t - v.at_).toNat) = some 0 then (s1.startGroup die g v 0).notePause v.at_
      else s1.beginWait die g v carry

/-- The part shows view-frames from a launch on (R397). -/
def State.lightUp (s0 : State) (t : Int) : State :=
  let s := s0.bootStep 10
  { s with boot := { s.boot with lit := true, litAt := if s.boot.lit then s.boot.litAt else t } }

/-- The launch time of a view-frame's frame: that of its view 0 (R187, R207). -/
def State.frameLaunch (s : State) (v : Vf) : Int :=
  (((s.vfsAround v.at_ 1 0).filter fun f => f.view = 0 && f.frame = v.frame && f.at_ ≤ v.at_).getLast?.map (·.at_)).getD v.at_

/-- Does a half of a die hold a view-frame? -/
def TileDie.holds (t : TileDie) (at_ : Int) : Bool := (t.shown.map fun h => decide (h.at_ = at_)).getD false || (t.next.map fun h => decide (h.at_ = at_)).getD false

/-- Does a group of a die wait for a view-frame? -/
def State.awaited (s : State) (die : Nat) (t : Int) : Bool := (s.groupsUsed die).any fun g => let x := s.gst die g; (x.due ++ x.wait).any fun w => w.at_ = t

/-- VIEW_FRAME_LAUNCH (R198, R275, R311, R325): at a launch, each group of the die starts the ready view-frame, waits for it, or fills its slot; a half whose view-frame is not
started is freed. After a reset none starts until R397 allows. -/
def State.viewFrameLaunch (s : State) (die : Nat) : State :=
  if s.dies ≤ die || s.boot.held || !(s.alive die) then s
  else
    match s.dueLaunch die with
    | none => s
    | some v =>
      let s1 := s.setTdie die fun t => { t with lastAt := some v.at_ }
      let s2 := if s.launch.lastAt = some v.at_ then s1
        else ({ s1 with launch := { s1.launch with lastAt := some v.at_ } }.set Ob.frame_now v.frame).set Ob.frame_last_launch (s.frameLaunch v) |>.set Ob.fade_gain (s.fadeAt v.at_)
      if !(s2.boot.lit || (s2.bootReady && (!s2.isTile || s2.rxPassed v.at_))) then s2
      else if !s2.isTile then s2.lightUp v.at_
      else
        let s3 := (s2.lightUp v.at_).when (!v.dark && s.unaligned) fun s => (s.launchFlag die 0).launchFlag die 5
        let s4 := s3.each (s3.groupsRun die) fun g s => s.launchGroup die v g
        let s5 := s4.when (s4.rxFailed v.at_ || !(s4.awaited die v.at_)) fun s => s.setTdie die fun t => { t with next := match t.next with
          | some h => if h.at_ = v.at_ then none else t.next
          | none => none }
        { s5 with tile := { s5.tile with rx := s5.tile.rx.filter fun r => decide (v.at_ < r.at_ + 16 * (s5.sched.num * layNs / s5.sched.den : Nat)) || s5.aliveList.any fun d => (s5.tdie d).holds r.at_ } }

/-- LATE_START (R198): a group whose view-frame launched without it starts once its data are ready and its carry is run down; one that has failed meanwhile is never started (R275). -/
def State.lateStart (s : State) (die g : Nat) : State :=
  let x := s.gst die g
  if x.mode ≠ 4 || x.sr || s.groupStopped die g || !(s.fwOn die) || (x.proves && !(s.rxPassed x.at_)) then s
  else if s.rxFailed x.at_ then
    (s.waitNext die g).when (x.wait.filter s.awaitsStill).isEmpty fun s => s.fillSlot die g { at_ := x.at_, frame := x.frame, view := x.view, dark := false } (if s.pw Ob.late_fill = 0 then 2 else 3)
  else
    match s.readyAt die g x.at_ with
    | none => s
    | some t =>
      let lag := max x.carry (t - x.at_).toNat
      if s.reachedOn die (x.at_ + lag) then s.startGroup die g { at_ := x.at_, frame := x.frame, view := x.view, dark := false } lag else s

/-! Lines (R200, R309-R311) -/

/-- The end of a view-frame's lines: lag left over is carried (R200), and a view-frame that waited for it comes next. -/
def State.endLines (s : State) (die g : Nat) : State :=
  let x := s.gst die g
  let s1 := s.setG die g fun t => { t with carry := t.lag, lag := 0 }
  let s2 := s1.when (0 < x.lag) fun s => (s.bump die Ob.carries).launchFlag die 2
  if x.wait.isEmpty then s2 else s2.waitNext die g

/-- The Lay time of the first GCLK edge of a line: the first point of launch + n ÷ f_GCLK at or after its start (R204, R310). -/
def gclkFirst (launch start : Int) (period : Nat) : Int :=
  let p : Int := max 1 period * layNs
  launch + (max 0 (start - launch) + p - 1) / p * p

/-- What a line puts out (R204, R310, R311), by the values of its view-frame: ROW_EN and ROW_A, and the GCLK pulses but in a dark slot. -/
def State.lineOut (s : State) (die g scan : Nat) (en dark : Bool) (launch start : Int) (cut : Nat) : State :=
  let c := s.slotCfg die g
  let lit := start + c.litNs die g * layNs
  let blank := c.grp die g Ob.rg_blank_ns * layNs + (c.catchUp die g (s.groupSlot die g) - (c.grp die g Ob.rg_blank_ns - c.grp die g Ob.rg_blank_min_ns) * layNs) - cut
  let rowA := lit + (min (c.grp die g Ob.rg_row_dead_ns * layNs) (blank / 2) : Nat)
  let s1 := s.emit (.line die g scan en start.toNat lit.toNat (gridQuot rowA 1).toNat (s.rowLevels die g scan) (en != s.restLevel die g 9))
  if dark || s.outOff die g 2 then s1 else s1.emit (.gclk die g (gclkFirst launch start (c.grp die g Ob.rg_gclk_div)).toNat (c.prof die g 4 2) (c.grp die g Ob.rg_gclk_div))

/-- Outputs cleared in rg_out_fault are driven again from a line start; the configuration is written again, and a group that had stopped resumes from the next view-frame (R316, R328). -/
def State.reenable (s : State) (die g : Nat) : State :=
  let back := (s.gst die g).back
  if back = 0 then s
  else
    let s1 := s.setG die g fun t => { t with back := 0, cfg := none, shiftAt := none, ready := none, unit := 0, busy := false }
    let s2 := s1.each ((List.range 16).filter (bit back)) fun n s => s.emit (.driven die g n)
    if s2.grp die g Ob.rg_state = 4 && !(s2.groupStopped die g) then s2.putG die g Ob.rg_state 2 else s2

/-- LINE_START (R200, R310, R311, R318): the group's next line starts at its time, late data moving it; blanking after it is cut while a lag remains; lag_max_ns
keeps the largest lag (R201). -/
def State.lineStart (s0 : State) (die g : Nat) : State :=
  let x := s0.gst die g
  let c := s0.slotCfg die g
  let slot := s0.groupSlot die g
  let n := c.lineCount die g slot
  if x.mode = 0 || n ≤ x.line || !(s0.groupRuns die g) then s0
  else
    let i := x.line
    let base := x.slotVf.at_
    let nominal : Int := base + i * slot / n
    let direct := !(c.frameMem die g)
    let own := x.mode = 1
    let ready := if direct && own then (x.units.find? fun u => u.1 = i).map (·.2) else some nominal
    match ready with
    | none => s0
    | some r =>
      let lag := if own then max (x.lag : Int) (r - nominal) |>.toNat else 0
      let start := gridQuot ((base + lag) * n + i * slot) n
      if !(s0.reachedOn die start) then s0
      else
        let s := s0.reenable die g
        let scan := i % max 1 (c.grp die g Ob.rg_scan_lines)
        let dark := x.mode = 3 || (x.mode = 4 && s.pw Ob.late_fill = 1) || (s.groupHalf die g).isNone
        let en := !dark && !(bit (s.grp die g Ob.rg_row_fault) scan) && !(s.outOff die g 9)
        let s1 := s.when (0 < lag) fun s => ((s.bump die Ob.late_lines).launchFlag die 1).put die Ob.lag_max_ns (max (lag / layNs) (s.nat die Ob.lag_max_ns) : Nat)
        let cut := min lag (c.catchUp die g slot)
        let s2 := (s1.lineOut die g scan en dark base start cut).when (direct && (if own then decide (0 < i) else !dark)) fun s => s.latchOut die g false base start
        let s3 := s2.setG die g fun t => { t with line := i + 1, lag := lag - cut, lineAt := start, rbLine := some scan, rowEn := en,
                                                  units := if own then t.units.filter fun u => i ≤ u.1 else t.units }
        if i + 1 = n && own then s3.endLines die g else s3

/-! Shifting (R312-R316, R323, R324) -/

/-- The half and launch that a group shifts next, and whether it is a held one again: in frame-memory mode the view-frame under correction (R312); in direct mode the lines of
the slot, each during the line before it, and line 0 of the next view-frame during the slot's last line or as soon as it is written for a slot that waits (R311, R313); after an
update pause or self-refresh the held half (R343). -/
def State.shiftTarget (s : State) (die g : Nat) : Option (Half × Int × Bool) :=
  let x := s.gst die g
  let t := s.tdie die
  match x.resume, s.groupHalf die g with
  | some b, some h => some (s.blankHalf die b h, b, false)
  | _, _ =>
    match if x.mode = 4 then (t.shown.toList ++ t.olds).find? fun h => h.at_ = x.at_ else none with
    | some h => some (h, h.at_, false)
    | none =>
      let c := s.slotCfg die g
      let n := c.lineCount die g (s.groupSlot die g)
      let held := x.mode = 2 || (x.mode = 4 && s.pw Ob.late_fill = 0)
      let cur := if (x.mode = 1 || held) && !(c.frameMem die g) then (s.groupHalf die g).map fun h => (h, x.slotVf.at_, decide held) else none
      match t.next with
        | some h => if (s.cfgFor die h.at_).frameMem die g || x.mode = 0 || n ≤ x.line || (x.mode = 4 && h.at_ = x.at_ && s.lineWritten h die g 0) then some (h, h.at_, false) else cur
        | none => cur

/-- The configuration that a group sends (R316): each step a LAT width, and for a group of words the word that every driver gets. -/
def State.configSteps (s : State) (die g : Nat) : List (Nat × Option Nat) :=
  let alone (cmd : Nat) : List (Nat × Option Nat) := if s.latWidth die g cmd = 0 then [] else [(s.latWidth die g cmd, none)]
  alone 6 ++ (List.range (min 4 (s.prof die g 23 1))).flatMap fun n => alone 5 ++ [(s.latWidth die g 4, some (s.prof die g (24 + 2 * n) 2 % 2 ^ s.wordBits die g))]

/-- The time of those steps, in ns. -/
def State.configNs (s : State) (die g : Nat) : Nat :=
  ((s.configSteps die g).map fun e => match e.2 with
    | some _ => s.wordsNs die g
    | none => e.1 * s.grp die g Ob.rg_sclk_div).sum

/-- The configuration of a group's profile, as its drivers should have it. -/
def State.configOf (s : State) (die g : Nat) : List Byte := s.blobBytes 0 (atIndex Ob.chain_profile (s.grp die g Ob.rg_profile)) 0 64

/-- CONFIG_WRITE (R316): the profile's configuration words, by the values `c` of the view-frame, go out before the first view-frame shifted under a new profile, and after an output is enabled again; answered with the time they take. -/
def State.configWrite (s c : State) (die g : Nat) : State × Nat :=
  if (s.gst die g).cfg = some (c.configOf die g) then (s, 0)
  else ((s.setG die g fun t => { t with cfg := some (c.configOf die g) }).emit (.config die g (c.configSteps die g)), c.configNs die g)

/-- The values of rect_expected of a die: a write takes effect from the next view-frame whose shift begins (R323). -/
def State.rectsExpected (s : State) (die : Nat) : SMap Nat := smPutAll 0 [] 0 ((List.range 16).map fun n => s.nat die (atIndex Ob.rect_expected n))

/-- SHIFT_LINE_BEGIN (R312-R314, R316): the next line unit begins to shift once its lamps are written and the unit before is done. A buffer that empties at a word makes the rest background.
The values of its own view-frame lay it out, also where they are not in force yet (R190, R305). -/
def State.shiftBegin (s : State) (die g : Nat) (underrunAt : Option Nat) : State :=
  if s.dies ≤ die || !(s.groupRuns die g) || (s.gst die g).busy || s.groupStopped die g then s
  else
    match s.shiftTarget die g with
    | none => s
    | some (h, t, held) =>
      let x := s.gst die g
      if x.sr && x.resume.isNone then s
      else
        let c : State := { s with objs := h.objs }
        let fresh := decide (x.shiftAt ≠ some t) || x.again ≠ held
        let u := if fresh then 0 else x.unit
        let total := if c.frameMem die g then c.grp die g Ob.rg_scan_lines
          else c.lineCount die g (s.slotOf { at_ := t, frame := h.frame, view := h.view, dark := false })
        let line := u % max 1 (c.grp die g Ob.rg_scan_lines)
        let paced := c.frameMem die g || (if x.at_ = t && x.mode ≠ 4 || held then decide (u ≤ x.line) else decide (u = 0))
        if total ≤ u || !(c.groupUsed die g) || !(s.lineWritten h die g line) || !paced then s
        else
          let w := s.configWrite c die g
          let under := match underrunAt with
            | some n => decide (n < c.chans die g * c.groupD die g)
            | none => false
          let s2 := w.1.emit (.shift die g line (c.latWidth die g 0) (c.lineWords h die g line (if under then underrunAt else none) fun k => s.outOff die g (10 + k)))
          let s3 := s2.when under fun s => (s.bump die (atIndex Ob.rg_underruns g)).raise die Ob.raster_flags 0 g
          (s3.crossEvents die (.lampWritten g) 1).setG die g fun a => { a with
            shiftAt := some t, again := held, unit := u, busy := true, from_ := max (s.layOf die : Int) x.freeAt + (w.2 * layNs : Nat), expect := if fresh then s.rectsExpected die else a.expect,
            units := if fresh then [] else a.units, ready := if fresh then none else a.ready }

/-- A check rectangle's area (Table 10.6): the group, and the store positions in CRC order (R323). -/
def State.rectPositions (s : State) (die n : Nat) : Nat × List Nat :=
  let a := s.nat die (atIndex Ob.rect_area n)
  let g := bits a 1 0
  let span (hi lo : Nat) := (List.range 64).filter fun i => lo ≤ i && i ≤ hi
  (g, ((List.range 6).filter fun k => bit a (2 + k)).flatMap fun k =>
    (span (bits a 43 38) (bits a 37 32)).flatMap fun line => (span (bits a 19 14) (bits a 13 8)).flatMap fun drv =>
      (span (bits a 31 26) (bits a 25 20)).map fun ch => posKey (6 * g + k) line drv ch)

/-- The check rectangles of a group compared when a view-frame's first shift ends (R323, R324), as they are in force for its launch. -/
def State.checkRects (s : State) (die g : Nat) (h : Half) : State :=
  s.each (List.range 16) fun n s =>
    let t : State := { s with objs := h.objs }
    let mode := t.nat die (atIndex Ob.rect_mode n)
    let p := t.rectPositions die n
    if mode = 0 || p.1 ≠ g || !(bit (t.nat die (atIndex Ob.rect_views n)) h.view) then s
    else
      let crc := crc32c (p.2.flatMap fun pos => leBytes 2 ((s.storeValue h die pos).getD 0))
      let xy := t.nat die (atIndex Ob.rect_stream_xy n)
      let want := if mode = 1 then smGet 0 (s.gst die g).expect n
        else match rxCodes (s.rxOf h) (s.spliceAt h.at_) (bits xy 15 0) (bits xy 31 16) with
          | some k => k.1 + k.2.1 * 65536
          | none => 0
      let s1 := s.bump die (atIndex Ob.rect_checks n)
      if crc = want then s1
      else ((s1.bump die (atIndex Ob.rect_fails n)).put die (atIndex Ob.rect_last n) crc).raise die Ob.raster_flags 3 g

/-- SHIFT_COMPLETE (R312, R313, R324): its shift time over, the line unit is in the drivers; the last unit of a frame-memory view-frame makes it ready after its VSYNC command, a direct line after
its LINE_LATCH. -/
def State.shiftDone (s : State) (die g : Nat) : State :=
  let x := s.gst die g
  match x.shiftAt with
  | none => s
  | some t =>
    let c := s.cfgFor die t
    let done : Int := x.from_ + (c.unitNs die g * layNs : Nat)
    if !x.busy || !(s.reachedOn die done) then s
    else
      let mem := c.frameMem die g
      let end_ : Int := done + (c.cmdNs die g (if mem then 2 else 1) * layNs : Nat)
      let last := x.unit + 1 = c.grp die g Ob.rg_scan_lines
      let s1 := (s.crossEvents die (.lineReady g) 1).setG die g fun a => { a with
        busy := false, unit := a.unit + 1, ready := if mem && last then some (t, end_) else a.ready, units := if mem then [] else a.units ++ [(x.unit, end_)] }
      match if x.again then none else s.halfOf die t with
      | some h => if last then s1.checkRects die g h else s1
      | none => s1

/-! Self-refresh (R317) -/

/-- Is a group's self-refresh mode 2 allowed? A direct-mode group's 2 is clamped to 1. -/
def State.srMode (s : State) (die g : Nat) : Nat :=
  let m := s.grp die g Ob.rg_sr_mode
  if m = 2 && !(s.frameMem die g) then 1 else m

/-- SR_ENTERED (R317): after rg_sr_after held view-frames, or at once in mode 2. -/
def State.srEnter (s : State) (die g : Nat) : State :=
  let x := s.gst die g
  let due := (s.srMode die g = 1 && s.grp die g Ob.rg_sr_after ≤ x.run) || s.srMode die g = 2
  if s.dies ≤ die || !(s.groupRuns die g) || !(s.frameMem die g) || x.sr || !due || x.resume.isSome || (s.groupHalf die g).isNone then s
  else ((s.setG die g fun t => { t with sr := true }).putG die g Ob.rg_state 3).raise die Ob.raster_flags 5 g

/-- A group leaves self-refresh. -/
def State.srLeave (s : State) (die g : Nat) : State :=
  if (s.gst die g).sr then (s.setG die g fun t => { t with sr := false, run := 0 }).putG die g Ob.rg_state 2 else s

/-- The effect of a write of rg_sr_mode: 2 enters at once; another value ends the self-refresh of mode 2, and 0 (never) every one. -/
def State.srModeEffect (s : State) (die g old : Nat) : State :=
  if s.srMode die g = 2 then s.srEnter die g else if old = 2 || s.srMode die g = 0 then s.srLeave die g else s

/-- Groups in mode 1 leave self-refresh for the first view-frame that passes its check (R317), where their die has firmware (R393). -/
def State.srWake (s : State) : State :=
  s.each s.dieList fun d s => s.each (s.groupsUsed d) fun g s => if s.fwOn d && s.srMode d g = 1 then s.srLeave d g else s

/-! Row sense and output faults (R318, R327, R328) -/

/-- ROW_SHORT (R318): ROW_SENSE has not risen by the end of the window of the line now lit. -/
def State.rowShort (s : State) (die g : Nat) : State :=
  match (s.gst die g).rbLine with
  | none => s
  | some scan =>
    let sense := s.grp die g Ob.rg_sense_ns
    if s.dies ≤ die || !(s.groupRuns die g) || sense = 0 || !((s.gst die g).rowEn) || !(s.reachedOn die ((s.gst die g).lineAt + (sense * layNs : Nat))) then s
    else (((s.setG die g fun t => { t with rowEn := false }).orBits die (atIndex Ob.rg_row_fault g) (2 ^ scan)).emit (.rowOff die g scan (s.restLevel die g 9))).raise die Ob.raster_flags 1 g

/-- OUT_FAULT (R327, R328): 16 of 32 samples disagree: the output turns high-impedance with a weak pull to its resting level; SCLK, LAT or ROW_EN stop the group. -/
def State.outFault (s : State) (die g n disagreeing : Nat) : State :=
  if s.dies ≤ die || 4 ≤ g || 16 ≤ n || disagreeing < 16 || s.outOff die g n then s
  else
    let s1 := ((s.orBits die (atIndex Ob.rg_out_fault g) (2 ^ n)).emit (.pulled die g n (s.restLevel die g n))).raise die Ob.raster_flags 2 g
    if s1.groupStopped die g then (s1.setG die g fun t => { t with busy := false }).putG die g Ob.rg_state 4 else s1

/-- The effect of clearing bits of rg_out_fault: those outputs come back at the next line start; at once in a group that runs no lines (R328). -/
def State.outCleared (s : State) (die g bits_ : Nat) : State :=
  let s1 := s.setG die g fun t => { t with back := t.back ||| bits_ }
  if (s1.gst die g).mode = 0 then s1.reenable die g else s1

/-! Latency tolerance (R326) -/

/-- The time to correct `n` pixels, in ns: 1 per core clock, 750 MHz at throttle level. -/
def State.correctNs (s : State) (die n : Nat) : Nat := ceilDiv (4 * n) (max 1 (s.corePx die))

/-- A pixel's place in its band. -/
def State.bandPlace (s : State) (die q : Nat) : Nat := let p := s.pixelAt die q; (pixelInBand (s.spliceIn Ob.splice_desc) p.1 p.2).2

/-- The pixels with a lamp on a scan line of a group. -/
def State.linePixels (s : State) (die g line : Nat) : List Nat :=
  ((s.placed die).filter fun e => e.2.2 / 262144 / 6 = g && e.2.2 / 4096 % 64 = line).map (·.1)

/-- How many of some pixels come up to the last of others, with the bands interleaved in equal shares (R196, R326): those of a band up to the same place. -/
def State.upTo (s : State) (die : Nat) (of_ last : List Nat) : Nat :=
  match last with
  | [] => 0
  | _ => let k := maxOr 0 (last.map (s.bandPlace die)); (of_.filter fun q => s.bandPlace die q ≤ k).length

/-- Pixels corrected before the last lamp of a scan line is written, before any cell has come (R326). -/
def State.pixelsFor (s : State) (die g line : Nat) : Nat := s.upTo die (List.range (s.pixelCount die)) (s.linePixels die g line)

/-- rg_shift_ns and rg_slack_ns of the groups in use, computed at a commit, and for the configuration restored at a start (R315, R326). -/
def State.shiftReport (s : State) (die : Nat) : State :=
  s.each (s.groupsUsed die) fun g s =>
    let sh := s.shiftNs die g
    (s.putG die g Ob.rg_shift_ns sh).putG die g Ob.rg_slack_ns
      (clampInt (-2147483648) 2147483647 ((schedShortest s.sched / s.sched.den : Nat) - (sh : Int) - (s.correctNs die (s.pixelsFor die g 0) : Nat)))

/-- Pixels that correction has taken of a view-frame once the last lamp of a scan line is written (R326): those whose cells have come in their order, the others as `pixelsFor` counts them. -/
def State.pixelsUntil (s : State) (h : Option Half) (die g line : Nat) : Nat :=
  match h with
  | none => s.pixelsFor die g line
  | some h =>
    let t : State := { s with objs := h.objs }
    let l := t.pixelsCome (s.rxOf h) die
    let qs := t.linePixels die g line
    let open_ := qs.filter fun q => !(l.contains q)
    if open_.isEmpty then maxOr 0 (qs.map fun q => (l.findIdx? (· = q)).getD 0 + 1)
    else l.length + t.upTo die ((List.range (t.pixelCount die)).filter fun q => !(l.contains q)) open_

/-- The earliest view-frame that a group has not ready: one that it waits for, or the next lit one. -/
def State.notReady (s : State) (die g : Nat) : Option Vf :=
  (((s.gst die g).due ++ (s.vfsAround (s.layOf die) 0 8).filter fun v => (s.layOf die : Int) < v.at_ && !v.dark).find? fun v => (s.readyAt die g v.at_).isNone)

/-- The tolerance of a group (R326), in ns. -/
def State.groupTolerance (s : State) (die g : Nat) : Nat :=
  match s.notReady die g with
  | none => 4294967295
  | some v =>
    let left : Int := (v.at_ - s.layOf die) / layNs
    let h := s.halfOf die v.at_
    let c := s.cfgFor die v.at_
    let done := match h with
      | some h => h.px / 36
      | none => 0
    if h.isSome && c.pixelCount die ≤ done then (left + s.int die (atIndex Ob.rg_slack_ns g)).toNat
    else
      let x := s.gst die g
      let u := if x.shiftAt = some v.at_ then x.unit else 0
      let lines := (List.range (c.grp die g Ob.rg_scan_lines)).filter (u ≤ ·)
      let rem : Nat := if c.frameMem die g then c.shiftNs die g - u * c.unitNs die g else c.shiftNs die g
      let written := match h with
        | some h => (lines.filter fun i => s.lineWritten h die g i).length
        | none => 0
      let next := match h with
        | some h => (lines.find? fun i => !(s.lineWritten h die g i)).getD u
        | none => u
      let wait := s.correctNs die (s.pixelsUntil h die g next - done)
      (left - rem + (written * c.unitNs die g : Nat) - wait).toNat

/-- RASTER_TOLERANCE_UPDATE (R326): the least over the groups in use that are not in self-refresh. -/
def State.toleranceUpdate (s : State) (die : Nat) : State :=
  if s.dies ≤ die then s
  else s.put die Ob.raster_tolerance_ns (min 4294967295 (minOr 4294967295 (((s.groupsRun die).filter fun g => !((s.gst die g).sr)).map (s.groupTolerance die))) : Nat)

end Sys2Proof.Machine
end

