-- ==== Sys2Proof/Machine/Memory.lean ====
section
/-! DEFINITION. The memories of a die (chapter 12): SRAM regions, requests and collisions, slices, field BIST; DRAM arbitration, queues and command pick, self-refresh, delays, the sweep. -/

namespace Sys2Proof.Machine

/-- The memory of a die. -/
def State.memOf (s : State) (die : Nat) : MemSt := smGet {} s.mem die

/-- The memory of a die changed. -/
def State.setMem (s : State) (die : Nat) (f : MemSt → MemSt) : State := { s with mem := smPut {} s.mem die (f (s.memOf die)) }

/-- A bank of bytes is in canonical form; an unlisted byte reads 0 (log entry 4). -/
def bytesWf (m : SMap Byte) : Bool := smWf 0 0 m

/-- The canonical form of every memory of the part. -/
def State.memWf (s : State) : Bool := s.mem.all fun e => bytesWf e.2.sram && bytesWf e.2.dram

/-! SRAM regions (R353) -/

/-- The lamp frame store, the splice receive buffer and the segment pool of a die in KB, each 0 where the die has none. -/
def State.sramSizes (s : State) (die : Nat) : List Nat :=
  [if (s.groupsUsed die).isEmpty then 0 else s.nat die Ob.raster_store_kb,
   if s.isTile && s.checkDie = die then s.nat die Ob.splice_rx_kb else 0,
   if s.big && s.isHead then s.nat die Ob.compose_seg_pool_kb else 0]

/-- The SRAM a die has in use, in KB: what sram_alloc_kb reads. -/
def State.sramAlloc (s : State) (die : Nat) : Nat := 1536 + (s.sramSizes die).sum

/-- The slices (2 MB each) that a span of bytes touches. -/
def slicesOf (start size : Nat) : List Nat := (List.range 8).filter fun n => size ≠ 0 && decide (n * 2097152 < start + size) && decide (start < (n + 1) * 2097152)

/-- The slices that hold any region of a die. -/
def State.usedSlices (s : State) (die : Nat) : List Nat := slicesOf 0 (1024 * s.sramAlloc die)

/-- The slices that are allocated: those in use, and while a commit is prepared those that it will use (R357). -/
def State.heldSlices (s : State) (die : Nat) : List Nat :=
  s.usedSlices die ++ if s.commit = cReady || s.commit = cArmed then ({ s with objs := s.overlaid } : State).usedSlices die else []

/-- The slices that hold part of the lamp frame store of a chain group (R306): its chains in each of the two halves, one behind the other (log entry 55). -/
def State.storeSlices (s : State) (die g : Nat) : List Nat :=
  let lo := s.chainOffset die (6 * g)
  let n := 2 * (s.chainOffset die (6 * g + 6) - lo)
  slicesOf (1572864 + 2 * lo) n ++ slicesOf (1572864 + 2 * s.chainOffset die 24 + 2 * lo) n

/-- The region that an SRAM address lies in (R353): 0 the reserved area, 1 the lamp frame store, 2 the splice receive buffer, 3 the segment pool; none beyond them. -/
def State.regionOf (s : State) (die a : Nat) : Option Nat :=
  ((1536 :: s.sramSizes die).foldl (fun (r : Nat × Nat × Option Nat) n =>
    (r.1 + 1, r.2.1 + 1024 * n, if r.2.1 ≤ a && a < r.2.1 + 1024 * n then some r.1 else r.2.2)) (0, 0, none)).2.2

/-- The regions that a requester port writes (Table 12.2); the camera receive buffer and the cache lie in the reserved area (R353). -/
def portWrites (port region : Nat) : Bool := match port with
  | 0 => region = 2
  | 1 => region = 3
  | 2 => region = 1
  | 3 | 6 | 7 => region = 0
  | 4 | 5 => true
  | _ => false

/-- The regions that a requester port reads (Table 12.2). -/
def portReads (port region : Nat) : Bool := match port with
  | 6 | 7 | 14 => region = 0
  | 8 => region = 2
  | 9 => region = 3
  | 10 | 11 | 12 | 13 => region = 1
  | 15 => true
  | _ => false

/-- May a port present a request (R350)? -/
def State.presents (s : State) (die : Nat) (r : SramReq) : Bool := match s.regionOf die (r.addr % 16777216) with
  | some k => if r.data.isSome then portWrites r.port k else portReads r.port k
  | none => false

/-- Four core clocks, in ns: 1.0 GHz, 750 MHz at throttle level (R455). -/
def State.coreNs (s : State) (die n : Nat) : Nat := s.correctNs die n

/-! Slices (R356, R357) -/

/-- A slice's state set; one that leaves on is skipped for the rest of the BIST pass (R361). -/
def State.setSlice (s : State) (die n v : Nat) : State :=
  let s1 := s.put die (Ob.sram_slice_state + n) v
  if v = 0 then s1 else s1.setMem die fun m => { m with bist := { m.bist with skip := if m.bist.skip.contains n then m.bist.skip else n :: m.bist.skip } }

/-- A slice begins its exit to on: 2 µs from retention, 20 µs from off (Table 12.4). -/
def State.wakeSlice (s : State) (die n : Nat) : State :=
  let v := s.nat die (Ob.sram_slice_state + n)
  if v = 1 || v = 2 then
    (s.setSlice die n 3).setMem die fun m => { m with wakeAt := smPut 0 m.wakeAt n (s.now + if v = 1 then 2000 else 20000) }
  else s

/-- A slice turned off loses its contents. -/
def State.sliceOff (s : State) (die n : Nat) : State :=
  (s.setSlice die n 2).setMem die fun m => { m with sram := smKeep (fun a => a / 2097152 ≠ n) m.sram }

/-- Is a word of a slice under test? -/
def State.lockedIn (s : State) (die n : Nat) : Bool := match (s.memOf die).bist.lock with
  | some (w, ends) => decide (s.now < ends) && w / 65536 = n
  | none => false

/-- SLICE_RETENTION: an on slice that holds no region turns off in modes 1 and 2; one idle for sram_ret_idle_us enters retention, unless it holds part of the store of a running group (R357) or a word under test (R361). -/
def State.sliceRetention (s : State) (die n : Nat) : State :=
  if !(decide (die < s.dies) && decide (n < 8)) || s.nat die (Ob.sram_slice_mode + n) = 0 || s.lockedIn die n then s
  else if !(s.heldSlices die).contains n then (if s.nat die (Ob.sram_slice_state + n) ≠ 2 then s.sliceOff die n else s)
  else if s.nat die (Ob.sram_slice_state + n) ≠ 0 then s
  else if (s.groupsUsed die).any (fun g => s.grp die g Ob.rg_state = 1 && (s.storeSlices die g).contains n) then s
  else if s.past (smGet 0 (s.memOf die).sliceAt n) (s.nat die Ob.sram_ret_idle_us * 1000) then s.setSlice die n 1
  else s

/-- SLICE_WAKE_COMPLETE: a waking slice whose exit is over is on. -/
def State.sliceWake (s : State) (die n : Nat) : State :=
  if decide (die < s.dies) && s.nat die (Ob.sram_slice_state + n) = 3 && decide (smGet 0 (s.memOf die).wakeAt n ≤ s.now) then
    (s.setSlice die n 0).setMem die fun m => { m with sliceAt := smPut 0 m.sliceAt n s.now }
  else s

/-- A write of sram_slice_mode takes effect: mode 0 turns the slice on; mode 1 or 2 on a slice that holds no region turns it off. -/
def State.sliceModeEffect (s : State) (die n : Nat) : State :=
  if s.nat die (Ob.sram_slice_mode + n) = 0 then s.wakeSlice die n
  else if (s.heldSlices die).contains n then s
  else s.sliceOff die n

/-- The slices that a die's staged configuration newly allocates are turned on when it votes (R357). -/
def State.wakeNewSlices (s : State) (die : Nat) (now old : List Nat) : State :=
  s.each (now.filter fun n => !old.contains n) fun n s => s.wakeSlice die n

/-! Requests (R348-R352) -/

/-- The word address of a request. -/
def sramWord (r : SramReq) : Nat := r.addr % 16777216 / 32

/-- The 32 bytes of an SRAM word. -/
def State.sramRead (s : State) (die w : Nat) : List Byte := smRun 0 (s.memOf die).sram (32 * w) 32

/-- A word stored. -/
def State.sramWrite (s : State) (die w : Nat) (bs : List Byte) : State :=
  s.setMem die fun m => { m with sram := smPutAll 0 m.sram (32 * w) (fitBytes 32 bs) }

/-- A request is served: a write stores its word, a read hands the word to its port. -/
def State.sramServe (s : State) (die : Nat) (r : SramReq) : State := match r.data with
  | some bs => s.sramWrite die (sramWord r) bs
  | none => s.setMem die fun m => { m with got := smPut [] m.got r.port (s.sramRead die (sramWord r)) }

/-- A request waits and is presented again in the next cycle. -/
def State.sramWait (s : State) (die : Nat) (r : SramReq) : State := s.setMem die fun m => { m with waits := m.waits ++ [r] }

/-- A request receives busy (R352). -/
def State.sramBusy (s : State) (die : Nat) (r : SramReq) : State := (s.sramWait die r).bump die (Ob.sram_busy + r.port)

/-- A read that meets a higher port's write receives undefined data (R351). -/
def State.sramUndef (s : State) (die : Nat) (r : SramReq) : State :=
  let d := s.draw
  let s1 := d.2.setMem die fun m => { m with got := smPut [] m.got r.port (leBytes 32 d.1) }
  (s1.bump die Ob.sram_undef_reads).raise die Ob.sram_flags 1

/-- Requests for one word in one cycle, in port order (R351). -/
def State.sramMeet (s : State) (die : Nat) : List SramReq → State
  | [] => s
  | r :: rest =>
    if rest.isEmpty then s.sramServe die r
    else match (r :: rest).find? fun q => q.data.isSome with
      | none => s.each (r :: rest) fun q s => s.sramServe die q
      | some w =>
        let s1 := if r.data.isSome then s.sramServe die r else (s.sramUndef die r).sramServe die w
        s1.each rest fun q s => s.sramBusy die q

/-- A request put into port order; a port presents one request at most. -/
def insertReq (r : SramReq) : List SramReq → List SramReq
  | [] => [r]
  | q :: t => if r.port < q.port then r :: q :: t else if r.port = q.port then q :: t else q :: insertReq r t

/-- The requests of a bank in one cycle: one word under test answers busy and holds up its bank; else the word of the lowest port is served and the others wait (R349, R359). -/
def State.sramBank (s : State) (die : Nat) (rs : List SramReq) : State :=
  match rs with
  | [] => s
  | r :: _ =>
    match (s.memOf die).bist.lock with
    | some (w, ends) =>
      if s.now < ends && w % 64 = sramWord r % 64 then
        s.each rs fun q s => if sramWord q = w then s.sramBusy die q else s.sramWait die q
      else (s.sramMeet die (rs.filter fun q => sramWord q = sramWord r)).each (rs.filter fun q => sramWord q ≠ sramWord r) fun q s => s.sramWait die q
    | none => (s.sramMeet die (rs.filter fun q => sramWord q = sramWord r)).each (rs.filter fun q => sramWord q ≠ sramWord r) fun q s => s.sramWait die q

/-- SRAM_REQUEST: one core clock of a die's SRAM. Waiting requests are presented again; a port presents only what Table 12.2 assigns it. A request to a retained slice wakes it and waits, as one to an
allocated slice that is off. -/
def State.sramRequest (s : State) (die : Nat) (reqs : List SramReq) : State :=
  if s.dies ≤ die then s
  else
    let all := ((s.memOf die).waits ++ reqs.filter (s.presents die)).foldl (fun l r => insertReq r l) []
    let sl := fun (r : SramReq) => sramWord r / 65536
    let s1 := s.setMem die fun m => { m with
      waits := [], bankAt := all.foldl (fun b r => smPut 0 b (sramWord r % 64) s.now) m.bankAt, sliceAt := all.foldl (fun b r => smPut 0 b (sl r) s.now) m.sliceAt }
    let on := all.filter fun r => s.nat die (Ob.sram_slice_state + sl r) = 0
    let off := all.filter fun r => s.nat die (Ob.sram_slice_state + sl r) ≠ 0
    let s2 := s1.each off fun r s => (s.wakeSlice die (sl r)).sramWait die r
    s2.each ((List.range 64).map fun b => on.filter fun r => sramWord r % 64 = b) fun rs s => s.sramBank die rs

/-! Field BIST (R359-R361) -/

/-- The next word of the pass at or after a word: the first of a slice that is on and not skipped. -/
def State.bistNext (s : State) (die w : Nat) : Option Nat :=
  let ok := fun n => s.nat die (Ob.sram_slice_state + n) = 0 && !((s.memOf die).bist.skip.contains n)
  if w < 524288 && ok (w / 65536) then some w
  else ((List.range 8).find? fun n => decide (w < 65536 * n) && ok n).map (65536 * ·)

/-- The pass is over: it is counted, and in mode 2 BIST stops. -/
def State.bistEnd (s : State) (die : Nat) : State :=
  (s.bump die Ob.sram_bist_passes).setMem die fun m =>
    { m with bist := { m.bist with next := 0, skip := [], over_ := s.nat die Ob.sram_bist_mode = 2 } }

/-- The test of one word. -/
def State.bistTest (s : State) (die w : Nat) (ok : Bool) : State :=
  let step := 720720 / max 1 (s.nat die Ob.sram_bist_rate)
  let due := fun (b : BistSt) => if s.now * 720720 < (b.nextAt + step) * 1000 then b.nextAt + step else s.now * 720720 / 1000 + step
  let s1 := s.setMem die fun m => { m with bist := { m.bist with
    next := w + 1, nextAt := due m.bist, lock := some (w, s.now + s.coreNs die 4) } }
  let s2 := if ok then s1 else ((s1.bump die Ob.sram_bist_fails).put die Ob.sram_bist_last_addr (32 * w : Nat)).raise die Ob.sram_flags 0
  if (s2.bistNext die (w + 1)).isNone then s2.bistEnd die else s2

/-- BIST_WORD_TEST: the next word of the pass, once it is due and its bank has had no request for 8 cycles. -/
def State.bistWord (s : State) (die : Nat) (ok : Bool) : State :=
  let b := (s.memOf die).bist
  if s.dies ≤ die || s.nat die Ob.sram_bist_mode = 0 || b.over_ || s.now * 720720 < b.nextAt * 1000 then s
  else
    match s.bistNext die b.next with
    | none => if b.next = 0 then s else s.bistEnd die
    | some w => if s.past (smGet 0 (s.memOf die).bankAt (w % 64)) (s.coreNs die 8) then s.bistTest die w ok else s

/-- A write of sram_bist_mode: a pass starts where BIST was stopped, and with every write of 2. -/
def State.bistModeEffect (s : State) (die old : Nat) : State :=
  let v := s.nat die Ob.sram_bist_mode
  s.setMem die fun m =>
    if v = 0 then m
    else if v = 2 || old = 0 || m.bist.over_ then { m with bist := { m.bist with next := 0, skip := [], over_ := false } }
    else m

/-! DRAM addresses (R363, R377) -/

/-- A channel of a die. -/
def State.chan (s : State) (die c : Nat) : DramCh := smGet {} (s.memOf die).chans c

/-- A channel changed. -/
def State.setChan (s : State) (die c : Nat) (f : DramCh → DramCh) : State :=
  s.setMem die fun m => { m with chans := smPut {} m.chans c (f (s.chan die c)) }

/-- dram_state of a channel. -/
def State.chState (s : State) (die c : Nat) : Nat := s.nat die (Ob.dram_state + c)

/-- dram_state of a channel set. -/
def State.setChState (s : State) (die c v : Nat) : State := s.put die (Ob.dram_state + c) v

/-- The one channel that a die runs on after the other failed training, if one did. -/
def State.onlyChan (s : State) (die : Nat) : Option Nat :=
  if s.chState die 0 = 5 then some 1 else if s.chState die 1 = 5 then some 0 else none

/-- An address as the device map reads it: A′ of R377 under inline ECC. -/
def State.dramMap (s : State) (die a : Nat) : Nat := if (s.memOf die).ecc then a / 57344 * 65536 + a % 57344 else a

/-- The channel of an address. -/
def State.chanOf (s : State) (die a : Nat) : Nat := match s.onlyChan die with
  | some c => c
  | none => bits (s.dramMap die a) 8 8

/-- The bank of an address: bank group and bank, hashed with the row bits. -/
def State.bankOf (s : State) (die a : Nat) : Nat :=
  let p := s.dramMap die a
  (bits p 10 9 ^^^ bits p 17 16) * 4 + (bits p 12 11 ^^^ bits p 19 18)

/-- The row of an address. -/
def State.rowOf (s : State) (die a : Nat) : Nat := bits (s.dramMap die a) 39 16

/-- Where an address is stored: at the device's address, on one channel with A[8] removed. -/
def State.dramCell (s : State) (die a : Nat) : Nat := match s.onlyChan die with
  | some _ => clearBit (s.dramMap die a) 8
  | none => s.dramMap die a

/-- Where the check byte of the 8 data bytes at a device address lies (R377): in the last 256-byte block of their row. -/
def checkPlace (p : Nat) : Nat := p / 65536 * 65536 + 7 * 8192 + p / 256 % 32 * 256 + p / 8192 % 8 * 32 + p % 256 / 8

/-- Does the fitted device have the row of an address? A row of a channel is 16 banks of 2 KB. -/
def State.rowFitted (s : State) (die c a : Nat) : Bool :=
  let mb := s.nat die (Ob.dram_size_mb + c)
  decide (s.rowOf die a < 32 * (if (s.memOf die).ecc then mb * 8 / 7 else mb))

/-! The transaction table and the queues (R364, R369) -/

/-- The accesses of a burst that lie in a channel: 64-byte blocks from its address, with the bytes each reads or writes. -/
def State.accesses (s : State) (die c : Nat) (r : DramReq) : List DramEnt :=
  let lo := r.addr
  let n := 32 * min 64 r.beats
  let ents := (List.range (n / 64 + 2)).filterMap fun i =>
    let a := (lo / 64 + i) * 64
    let first := if a < lo then lo - a else 0
    let last := min 64 (lo + n - a)
    if last ≤ first || lo + n ≤ a then none
    else
      let bytes := r.data.map fun d => (List.range 64).map fun k => if first ≤ k && k < last then d.getD (a + k - lo) none else none
      some ({ master := r.master, addr := a, first := first, count := last - first, data := bytes, seq := 0 } : DramEnt)
  ents.filter fun e => s.chanOf die e.addr = c

/-- The accesses of a burst put into the transaction table. -/
def DramCh.enter (h : DramCh) (es : List DramEnt) : DramCh :=
  es.foldl (fun h e => { h with table := h.table ++ [{ e with seq := h.seq, burst := h.burst }], seq := h.seq + 1 }) { h with burst := h.burst + 1 }

/-- Transactions in flight in a channel. -/
def DramCh.inFlight (h : DramCh) : Nat := h.table.length + h.wq.length + (h.banks.map fun e => e.2.length).sum

/-- Is the read answered whole by a queued entry? -/
def coveredBy (e : DramEnt) (w : List (Option Byte)) : Bool := (List.range e.count).all fun k => (w.getD (e.first + k) none).isSome

/-- Does the read overlap a queued entry? -/
def overlaps (e : DramEnt) (w : List (Option Byte)) : Bool := (List.range e.count).any fun k => (w.getD (e.first + k) none).isSome

/-- Does a read wait in the channel, but for one that waits for a queued entry it overlaps only in part (R369)? -/
def DramCh.readWaits (h : DramCh) : Bool :=
  (h.table ++ h.banks.flatMap (·.2)).any fun e => e.data.isNone && !(h.table.contains e && h.wq.any fun w => w.addr = e.addr && overlaps e (w.data.getD []) && !(coveredBy e (w.data.getD [])))

/-- Newer bytes laid over older ones, the enables ORed. -/
def mergeBytes (old new : List (Option Byte)) : List (Option Byte) := (List.range 64).map fun k => match new.getD k none with
  | some b => some b
  | none => old.getD k none

/-- What a master reads back; what correction reads is remembered as poisoned or clean (R378). -/
def State.dramGive (s : State) (die : Nat) (e : DramEnt) (bs : List Byte) (poison : Bool) : State :=
  if e.drop_ then s
  else
    let marks := fun (l : List Nat) => if e.master ≠ 0 then l else if poison then e.addr :: l.filter (· ≠ e.addr) else l.filter (· ≠ e.addr)
    ((s.setMem die fun m => { m with reads := smPut (0, [], false) m.reads e.master (e.addr + e.first, bs, poison), poison := marks m.poison }).crossWords die (.dramIn (s.chanOf die e.addr)) 1).crossWords die .braidOut
      (b2n (e.master = 6))

/-- One entry of the table moves on where it can: a read to its bank queue or answered by the write queue, a write into the write queue. The flag says that it stays. -/
def State.moveEntry (s : State) (die c : Nat) (e : DramEnt) (stuck : List Nat) : State × Bool :=
  let h := s.chan die c
  let b := s.bankOf die e.addr
  let q := smGet [] h.banks b
  if stuck.contains e.addr then (s, true)
  else
    match e.data with
    | none =>
      match h.wq.find? fun w => w.addr = e.addr with
      | some w =>
        let wd := w.data.getD []
        if coveredBy e wd then
          ((s.dramGive die e ((List.range e.count).map fun k => (wd.getD (e.first + k) none).getD 0) false).bump die (Ob.dram_wq_forwards + c), false)
        else if overlaps e wd then (s, true)
        else if q.length < 8 then (s.setChan die c fun h => { h with banks := smPut [] h.banks b (q ++ [e]) }, false)
        else (s, true)
      | none => if q.length < 8 then (s.setChan die c fun h => { h with banks := smPut [] h.banks b (q ++ [e]) }, false) else (s, true)
    | some d =>
      if h.wq.any fun w => w.addr = e.addr then
        (s.setChan die c fun h => { h with wq := h.wq.map fun w => if w.addr = e.addr then { w with data := some (mergeBytes (w.data.getD []) d), prior := w.data.getD [], burst := e.burst } else w }, false)
      else if h.wq.length < 64 then (s.setChan die c fun h => { h with wq := h.wq ++ [e] }, false)
      else (s, true)

/-- The entries of the table move on in order; an entry does not pass an earlier one of its address. -/
def State.moveTable (s : State) (die c : Nat) : State :=
  let t := (s.chan die c).table
  let r := t.foldl (fun (a : State × List DramEnt) e =>
    let m := a.1.moveEntry die c e (a.2.map (·.addr))
    (m.1, if m.2 then a.2 ++ [e] else a.2)) (s.setChan die c fun h => { h with table := [] }, [])
  r.1.setChan die c fun h => { h with table := r.2 }

/-- The write queue drains into the bank queues while it holds 48 or more entries or no read waits (R369). -/
def State.drainWq (s : State) (die c : Nat) : State :=
  s.each (s.chan die c).wq fun w s =>
    let h := s.chan die c
    let b := s.bankOf die w.addr
    let q := smGet [] h.banks b
    if (48 ≤ h.wq.length || !h.readWaits) && q.length < 8 then
      s.setChan die c fun h => { h with banks := smPut [] h.banks b (q ++ [{ w with seq := h.seq }]), wq := h.wq.filter fun x => x.addr ≠ w.addr, seq := h.seq + 1 }
    else s

/-- The channel's entries move on; a channel with any entry is not idle, and leaves power-down (R372). -/
def State.settle (s : State) (die c : Nat) : State :=
  let s1 := (s.moveTable die c).drainWq die c
  let h := s1.chan die c
  if h.inFlight = 0 && h.waiting.isEmpty && h.holder.isNone then s1
  else
    let s2 := s1.setChan die c fun h => { h with idleAt := s.now, refused := false }
    if s2.chState die c = 2 then s2.setChState die c 1 else s2

/-- The priority a waiting request counts as (R367). -/
def State.reqPrio (s : State) (die : Nat) (r : DramReq) : Nat :=
  if r.since + s.nat die Ob.dram_age_ns ≤ s.now then 3 else s.nat die (Ob.dram_prio + r.master)

/-- Is a request granted before another? Higher priority first, then the longer wait, then the lower master. -/
def State.reqBefore (s : State) (die : Nat) (a b : DramReq) : Bool :=
  let x := s.reqPrio die a
  let y := s.reqPrio die b
  decide (y < x) || (x = y && (decide (a.since < b.since) || (a.since = b.since && decide (a.master < b.master))))

/-- The first in the order of a round. -/
def State.pickReq (s : State) (die : Nat) : List DramReq → Option DramReq
  | [] => none
  | r :: t => match s.pickReq die t with
    | none => some r
    | some q => if s.reqBefore die q r then some q else some r

/-- The burst in progress ends. -/
def State.endBurst (s : State) (die c : Nat) : State := if (s.chan die c).holder.isNone then s else s.setChan die c fun h => { h with holder := none }

/-- Does the channel grant at all: active, or in power-down, which it leaves in 20 ns? -/
def State.grants (s : State) (die c : Nat) : Bool := s.chState die c = 1 || s.chState die c = 2

/-- The masters that a round serves: only the traffic generator during the maintenance sweep (R376). -/
def State.servedNow (s : State) (die : Nat) (r : DramReq) : Bool := s.nat die Ob.dram_sweep_status ≠ 1 || r.master = 7

/-- DRAM_ARBITRATION_ROUND: the burst in progress ends, the requests presented join those that wait, and the first in the order of R367 is granted, its accesses
entering the table (R364), unless the table has no room for them. -/
def State.dramRound (s : State) (die c : Nat) (reqs : List DramReq) : State :=
  let s1 := ((s.endBurst die c).setChan die c fun h => { h with waiting := h.waiting ++ reqs }) |>.crossPush die (.dramOut c) reqs.length |>.crossWords die .braidIn (reqs.countP (·.master = 6))
  let h := s1.chan die c
  if !(s1.grants die c) then s1
  else
    match s1.pickReq die (h.waiting.filter (s1.servedNow die)) with
    | none => s1.settle die c
    | some r =>
      if 1024 < h.inFlight + (s1.accesses die c r).length then s1 else
      let s2 := (s1.setChan die c fun h => { h with waiting := h.waiting.erase r, holder := some r }).crossPop die (.dramOut c)
      (s2.setChan die c fun h => h.enter (s2.accesses die c r)).settle die c

/-- Does every access of a request lie in a row that the device has? -/
def State.reqFitted (s : State) (die c : Nat) (r : DramReq) : Bool := (s.accesses die c r).all fun e => s.rowFitted die c e.addr

/-! Command pick (R365) -/

/-- The entry that a bank offers: the oldest that the timing allows now, none ahead of it for the same address. -/
def candidate (t : SlotTiming) (b : Nat) (q : List DramEnt) : Option DramEnt :=
  (q.zipIdx.find? fun e => t.ready.contains (8 * b + e.2) && !((q.take e.2).any fun x => x.addr = e.1.addr)).map (·.1)

/-- The open row of a bank. -/
def State.openRow (s : State) (die c b : Nat) : Option Nat := smGet none (s.chan die c).rows b

/-- Is an entry waiting for a row of its bank other than the open one? -/
def State.otherRow (s : State) (die c b : Nat) : Bool :=
  (smGet [] (s.chan die c).banks b).any fun e => some (s.rowOf die e.addr) ≠ s.openRow die c b

/-- May the candidate be issued as a hit to the open row? -/
def State.isHit (s : State) (die c b : Nat) (e : DramEnt) : Bool :=
  s.openRow die c b = some (s.rowOf die e.addr) && (!(s.otherRow die c b) || smGet 0 (s.chan die c).hits b < 16)

/-- The bytes of DRAM that an access reads. -/
def State.dramRead (s : State) (die a n : Nat) : List Byte := smRun 0 (s.memOf die).dram (s.dramCell die a) n

/-- Bytes written under their enables. -/
def dramPoke (m : SMap Byte) (a : Nat) : List (Option Byte) → SMap Byte
  | [] => m
  | some b :: t => dramPoke (smPut 0 m a b) (a + 1) t
  | none :: t => dramPoke m (a + 1) t

/-- Bytes written to an access of DRAM under their enables; with inline ECC a write that does not enable all 64 bytes is merged with `old` and written whole, and the check byte of each 8 bytes is
written to the check block of its row (R377; the code, which the spec does not give, is log entry 163). -/
def State.dramStore (s : State) (die a : Nat) (d : List (Option Byte)) (old : List Byte) : State :=
  if !(s.memOf die).ecc then s.setMem die fun m => { m with dram := dramPoke m.dram (s.dramCell die a) d }
  else
    let whole := (List.range 64).map fun i => (d.getD i none).getD (old.getD i 0)
    let p := s.dramCell die a
    let code (i : Nat) : Byte := byteOf (Config.secded (ofLe ((whole.drop (8 * i)).take 8)))
    s.setMem die fun m => { m with dram := (List.range 8).foldl (fun t i => smPut 0 t (checkPlace (p + 8 * i)) (code i)) (dramPoke m.dram p (whole.map some)) }

/-- The check block of an access is in the channel's cache of 32 from now on (R377). -/
def State.cacheCheck (s : State) (die c a : Nat) : State :=
  let k := checkPlace (s.dramCell die a) / 256
  s.setChan die c fun h => { h with checks := (k :: h.checks.filter (· ≠ k)).take 32 }

/-- What inline ECC counts of a read (R378): 1 an error corrected, 2 one that is not. -/
def State.eccCount (s : State) (die c ecc : Nat) : State :=
  if ecc = 0 then s
  else if ecc = 1 then s.bump die (Ob.dram_ecc_corrected + c)
  else (s.bump die (Ob.dram_ecc_uncorrected + c)).raise die Ob.dram_flags 0 c

/-- The bytes that a read of the device gives with an ECC outcome: one with two errors gives free values (R378). -/
def State.eccBytes (s : State) (die a n ecc : Nat) : State × List Byte := if ecc = 2 then (s.draw.2, leBytes n s.draw.1) else (s, s.dramRead die a n)

/-- An access reaches the device: a write is stored, one in part being read and merged first with inline ECC (R377); a read is returned, corrected or poisoned by inline ECC (R378). -/
def State.dramAccess (s : State) (die c ecc : Nat) (e : DramEnt) : State :=
  if !(s.memOf die).ecc then match e.data with
    | some d => s.dramStore die e.addr d []
    | none => s.dramGive die e (s.dramRead die (e.addr + e.first) e.count) false
  else
    let s0 := s.cacheCheck die c e.addr
    match e.data with
    | some d =>
      if d.length = 64 && d.all (·.isSome) then s0.dramStore die e.addr d []
      else let r := s0.eccBytes die e.addr 64 ecc; (r.1.dramStore die e.addr d r.2).eccCount die c ecc
    | none => let r := s0.eccBytes die (e.addr + e.first) e.count ecc; (r.1.dramGive die e r.2 (ecc = 2)).eccCount die c ecc

/-- Bytes that lie in one access written at once (a launch ring's descriptor). -/
def State.dramPut (s : State) (die a : Nat) (bs : List Byte) : State :=
  if !(s.memOf die).ecc then s.dramStore die a (bs.map some) []
  else s.dramStore die (a / 64 * 64) (List.replicate (a % 64) none ++ bs.map some) (s.dramRead die (a / 64 * 64) 64)

/-- A column access issued: the entry leaves its queue, and hits past a waiting entry are counted. -/
def State.issueHit (s : State) (die c b ecc : Nat) (e : DramEnt) : State :=
  let n := if s.otherRow die c b then smGet 0 (s.chan die c).hits b + 1 else 0
  let s1 := s.setChan die c fun h => { h with banks := smPut [] h.banks b ((smGet [] h.banks b).erase e), hits := smPut 0 h.hits b n }
  (s1.dramAccess die c ecc e).settle die c

/-- The row of a bank set; its run of hits ends. -/
def State.setRow (s : State) (die c b : Nat) (r : Option Nat) : State :=
  s.setChan die c fun h => { h with rows := smPut none h.rows b r, hits := smPut 0 h.hits b 0 }

/-- The rotating search for a precharge or an activate. -/
def State.rotate (s : State) (die c : Nat) (t : SlotTiming) (cands : List (Nat × DramEnt)) : State :=
  let order := (List.range 16).map fun i => ((s.chan die c).rot + i + 1) % 16
  let act := order.findSome? fun b => match cands.find? fun e => e.1 = b with
    | none => none
    | some e => match s.openRow die c b with
      | some r => if r ≠ s.rowOf die e.2.addr then some (b, (none : Option Nat)) else none
      | none => if t.actsInFaw < 4 && t.trrdOk.contains b then some (b, some (s.rowOf die e.2.addr)) else none
  match act with
  | some (b, r) => (s.setRow die c b r).setChan die c fun h => { h with rot := b }
  | none => s

/-- COMMAND_PICK: the oldest row hit, else a precharge or an activate (R365). -/
def State.commandPick (s0 : State) (die c : Nat) (t : SlotTiming) : State :=
  if s0.chState die c ≠ 1 then s0
  else
    let s := s0.settle die c
    let cands := (List.range 16).filterMap fun b => (candidate t b (smGet [] (s.chan die c).banks b)).map fun e => (b, e)
    match (cands.filter fun e => s.isHit die c e.1 e.2).foldl (fun (a : Option (Nat × DramEnt)) e => match a with
      | none => some e
      | some x => if e.2.seq < x.2.seq then some e else some x) none with
    | some (b, e) => s.issueHit die c b t.ecc e
    | none => s.rotate die c t cands

/-- DRAM_REFRESH: a per-bank refresh, which leaves the bank with no open row (R362). In self-refresh none is issued. -/
def State.dramRefresh (s : State) (die c b : Nat) : State :=
  if s.grants die c && b < 16 then s.setRow die c b none else s

/-- A write with the bytes from an address on not enabled; of a merged entry those it held before stay. -/
def DramEnt.cutFrom (e : DramEnt) (a : Nat) : DramEnt :=
  { e with data := e.data.map fun d => (List.range 64).map fun k => if a ≤ e.addr + k then e.prior.getD k none else d.getD k none }

/-- MASTER_RESET (R368). The beats delivered of a write burst are written, the others with every byte enable cleared; queued transactions not begun are removed; data of reads issued is discarded. -/
def State.masterReset (s : State) (die c master beats : Nat) : State :=
  let h := s.chan die c
  let mine := match h.holder with
    | some r => r.master = master
    | none => false
  let from_ := match h.holder with
    | some r => r.addr + 32 * beats
    | none => 0
  let part (e : DramEnt) : Bool := mine && e.data.isSome && e.burst = h.burst
  let fix (e : DramEnt) : DramEnt := if part e then e.cutFrom from_ else e
  (s.setChan die c fun h => { h with
    holder := if mine then none else h.holder,
    waiting := h.waiting.filter fun r => r.master ≠ master,
    table := (h.table.filter fun e => e.master ≠ master || part e).map fix,
    wq := h.wq.map fix,
    banks := h.banks.map fun (b : Nat × List DramEnt) => (b.1, b.2.map fun e => if e.master = master && e.data.isNone then { e with drop_ := true } else fix e) }).settle die c

/-! Self-refresh (R372, R373) and delays (R374-R376) -/

/-- The memory tolerance of a die (R372): that of its raster, the free space in the receive buffer of each of its enabled camera streams at the port's cam_lanes × 2.5 Gbit/s, 20 µs while it receives an ST 2110 flow, by either copy. -/
def State.memTolerance (s : State) (die : Nat) : Nat :=
  let on := if die < s.camPorts then (List.range 4).filter fun k => s.at_ Ob.cam_enable (4 * die + k) = 1 else []
  let cam := on.map fun k => (65536 - s.rxWaiting die (4 * die + k)) * 32 / (10 * max 1 (s.nat 0 (Ob.cam_lanes + die)))
  let flow (k : Nat) : Bool := let p := s.at_ Ob.src_port k
    s.at_ Ob.src_type k = 1 && (bits p 3 0 = die || (s.at_ Ob.src_group_b k ≠ 0 && bits p 7 4 = die)) && s.receives k
  let net := if (List.range s.sourceCount).any flow then [20000] else []
  minOr 4294967295 (s.nat die Ob.raster_tolerance_ns :: (cam ++ net))

/-- Does the tolerance allow self-refresh? -/
def State.tolerates (s : State) (die c : Nat) : Bool :=
  decide (s.nat die (Ob.dram_sr_exit_ns + c) + s.nat die Ob.dram_sr_margin_ns ≤ s.memTolerance die)

/-- No entry in the channel's table, queues and write queue. -/
def State.chIdle (s : State) (die c : Nat) : Bool :=
  let h := s.chan die c
  h.inFlight = 0 && h.waiting.isEmpty && h.holder.isNone

/-- A channel enters self-refresh. -/
def State.srChan (s : State) (die c : Nat) : State :=
  ((s.setChState die c 3).bump die (Ob.dram_sr_entries + c)).setChan die c fun h => { h with rows := [], hits := [] }

/-- DRAM_SELF_REFRESH_ENTRY: a channel idle for dram_sr_idle_ns enters self-refresh, or counts a refusal once and stays in power-down. -/
def State.srEntry (s : State) (die c : Nat) : State :=
  if !(s.grants die c) || !(s.chIdle die c) || !(s.past (s.chan die c).idleAt (s.nat die Ob.dram_sr_idle_ns)) then s
  else if s.tolerates die c then s.srChan die c
  else if (s.chan die c).refused then s
  else ((s.setChState die c 2).bump die (Ob.dram_sr_refused + c)).setChan die c fun h => { h with refused := true }

/-- Pending delay changes are written to the delay registers of the byte lanes. -/
def State.writeDelays (s : State) (die c : Nat) : State :=
  let base := atIndex Ob.dram_dly_rd c
  let p := (s.chan die c).pend
  (s.each p.zipIdx fun e s => s.put die (base + e.2) (clampInt 0 (if e.2 < 8 then 65535 else 255) (s.int die (base + e.2) + e.1))).setChan die c fun h => { h with pend := [], pendAt := 0 }

/-- A channel leaves self-refresh, writing its pending delays. -/
def State.leaveSr (s : State) (die c : Nat) : State := ((s.writeDelays die c).setChState die c 1).setChan die c fun h => { h with idleAt := s.now, refused := false }

/-- Is a launch at which correction may begin within the exit latency (R373)? -/
def State.launchNear (s : State) (die c : Nat) : Bool :=
  !((s.groupsUsed die).isEmpty) && (match s.vfAfter s.layNow with
  | some v => decide (v.at_ - s.nat die (Ob.dram_sr_exit_ns + c) * layNs ≤ s.layNow)
  | none => false)

/-- DRAM_SELF_REFRESH_EXIT: on a request, a low tolerance, or an upcoming launch. -/
def State.srExit (s : State) (die c : Nat) : State :=
  if s.chState die c = 3 && (!((s.chan die c).waiting.isEmpty) || s.memTolerance die ≤ s.nat die (Ob.dram_sr_exit_ns + c) + s.nat die Ob.dram_sr_margin_ns || s.launchNear die c) then
    s.leaveSr die c
  else s

/-- DRAM_DRIFT_CHECK: every 10 ms the change of each delay since the last check is found (byte lanes 0-3 read, then write); a change of a step or more is held pending. -/
def State.driftCheck (s : State) (die c : Nat) (drift : List Int) : State :=
  if s.dies ≤ die || s.chState die c = 5 || s.chState die c = 0 || !(s.due (s.chan die c).driftAt 10000000) then s
  else
    s.setChan die c fun h =>
      let d := (List.range 12).map fun i => h.pend.getD i 0 + (if i < 8 then drift.getD i 0 else 0)
      if d.all (· = 0) then { h with driftAt := some s.now, pend := [] }
      else { h with driftAt := some s.now, pend := d, pendAt := if h.pend.isEmpty then s.now else h.pendAt }

/-- Has a change been pending for dram_dly_max_ms and a further span of ms? -/
def State.pendFor (s : State) (die c ms : Nat) : Bool :=
  !((s.chan die c).pend.isEmpty) && s.past (s.chan die c).pendAt ((s.nat die Ob.dram_dly_max_ms + ms) * 1000000)

/-- Everything in the channel's queues reaches the device, bank by bank in order. -/
def State.flushBanks (s : State) (die c : Nat) : State :=
  let all := (s.chan die c).banks.flatMap (·.2)
  (s.setChan die c fun h => { h with banks := [] }).each all fun e s => s.dramAccess die c 0 e

/-- The queues drained, until table and write queue are empty too. -/
def State.flushChan (s : State) (die c : Nat) : Nat → State
  | 0 => s
  | n + 1 => let s1 := (s.flushBanks die c).settle die c
    if (s1.chan die c).inFlight = 0 then s1 else s1.flushChan die c n

/-- DRAM_FORCED_EXIT: a change pending for dram_dly_max_ms, where the tolerance holds: in-flight accesses drain, and the channel enters and leaves self-refresh at once. -/
def State.forcedExit (s : State) (die c : Nat) : State :=
  if s.pendFor die c 0 && s.grants die c && s.tolerates die c then
    (((s.endBurst die c).flushChan die c 2200).srChan die c).leaveSr die c
  else s

/-- DLY_PENDING: a forced exit not achieved within 1 s. -/
def State.dlyPending (s : State) (die c : Nat) : State := if s.pendFor die c 1000 then s.raise die Ob.dram_flags 1 c else s

/-- Is a die idle for the maintenance sweep (R376)? -/
def State.sweepIdle (s : State) (die : Nat) : Bool :=
  !((s.groupsUsed die).any fun g => s.grp die g Ob.rg_state = 1) &&
  !(s.big && (List.range s.layerCount).any fun n => s.at_ Ob.vl_enable n = 1 || s.at_ Ob.gl_enable n = 1) &&
  !(decide (die < s.camPorts) && (List.range 4).any fun k => s.at_ Ob.cam_enable (4 * die + k) = 1)

/-- A write of 1 to dram_maint_sweep (R376). -/
def State.sweepStart (s : State) (die : Nat) : State :=
  if s.nat die Ob.dram_sweep_status = 1 then s
  else if s.sweepIdle die then (s.put die Ob.dram_sweep_status 1).setMem die fun m => { m with sweepAt := s.now }
  else s.put die Ob.dram_sweep_status 3

/-- The delays of a channel that a sweep's centres and offsets give: read, write, reference voltage of each byte lane (R375, R376). -/
def sweepDelays (l : List SweepLane) : List Int :=
  (l.map fun e => (e.rd : Int) + clampInt (-64) 64 e.offset) ++ (l.map fun e => (e.wr : Int) + clampInt (-64) 64 e.offset) ++ l.map fun e => (e.vref : Int)

/-- SWEEP_DONE: the new offset of each byte lane (channel 0 first) is kept, and each centre at light load with its offset is pending for the next exit; with no centres found the sweep has failed. -/
def State.sweepDone (s : State) (die : Nat) (found : List SweepLane) : State :=
  if s.dies ≤ die || s.nat die Ob.dram_sweep_status ≠ 1 then s
  else if found.length < 8 then s.put die Ob.dram_sweep_status 4
  else
    let s1 := s.each [0, 1] fun c s =>
      let l := (found.drop (4 * c)).take 4
      let s1 := s.each l.zipIdx fun e s => s.keep die (atIndex Ob.dram_load_offset c + e.2) (clampInt (-64) 64 e.1.offset)
      let p := (sweepDelays l).zipIdx.map fun e => e.1 - s.int die (atIndex Ob.dram_dly_rd c + e.2)
      s1.setChan die c fun h => if p.all (· = 0) then { h with pend := [] } else { h with pend := p, pendAt := if h.pend.isEmpty then s.now else h.pendAt }
    (s1.put die Ob.dram_sweep_status 2).raise die Ob.dram_flags 3

end Sys2Proof.Machine
end

