-- ==== Sys2Proof/Machine/Flash.lean ====
section
/-! DEFINITION. The Silt journal and the update image (chapter 15): records and their sectors, blank check, tamping, the temperature window, replay; image segments, headers, verification. -/

namespace Sys2Proof.Machine

/-! Records and sectors (R419-R427) -/

/-- The bytes of a record: header, data padded to 16, commit unit. -/
def JEnt.bytes (e : JEnt) : Nat := 48 + ceilDiv e.size 16 * 16

/-- Two records have one key (R421): OBJECT, BLOB and DELETE share a class. -/
def JEnt.sameKey (a b : JEnt) : Bool := ((decide (a.typ ≤ 3) && decide (b.typ ≤ 3)) || a.typ = b.typ) && a.key = b.key

/-- The data bytes of a record (Table 15.5): the object's value in the encoding of R41, the whole blob, or the type's own numbers. -/
def State.recData (s : State) (e : JEnt) : List Byte :=
  let die := e.key / 16777216
  let obj := e.key % 16777216
  if e.typ = 1 then
    let n := match e.value with
      | .num n => n
      | _ => objDflt obj
    fitBytes e.size (if isForcedKey obj then leBytes 4 n.toNat else encodeVal (objTy obj) n)
  else if e.typ = 2 then (List.range e.size).map fun i => s.byteIn die e.value obj i
  else match e.value with
    | .num n => leBytes e.size n.toNat
    | _ => leBytes e.size 0

/-- The first 28 bytes of a record's header (Table 15.3). -/
def headBytes (e : JEnt) (seq dataCrc : Nat) : List Byte :=
  let obj := decide (e.typ ≤ 3)
  let die := if obj && (objPerDie (e.key % 16777216) || isForcedKey e.key) then e.key / 16777216 else 15
  let group := match e.group with
    | some g => g
    | none => if e.typ = 6 then e.key else 0
  leBytes 2 0x534C ++ leBytes 1 e.typ ++ leBytes 1 die ++ leBytes 2 (if obj then e.key / 256 % 65536 else 0) ++ leBytes 1 (if obj then e.key % 256 else 0) ++ leBytes 1 (b2n e.group.isSome) ++
    leBytes 8 seq ++ leBytes 4 e.size ++ leBytes 4 dataCrc ++ leBytes 4 group

/-- A record as it is programmed at an address (R421, R423). -/
def State.recordAt (s : State) (addr seq : Nat) (e : JEnt) : JRec :=
  let h := headBytes e seq (crc32c (s.recData e))
  { addr := addr, head := h ++ leBytes 4 (crc32c h), value := e.value, unit := leBytes 4 0x5E717A11 ++ leBytes 8 seq ++ leBytes 4 0 }

/-- SEQ of a record's header. -/
def JRec.seq (r : JRec) : Nat := leAt r.head 8 8

/-- What a record says: TYPE, key, value, group, LEN. -/
def JRec.ent (r : JRec) : JEnt :=
  let typ := leAt r.head 2 1
  let die := leAt r.head 3 1
  let num := match r.value with
    | .num n => n.toNat
    | _ => 0
  { typ := typ,
    key := if typ ≤ 3 then fullKey (if die = 15 then 0 else die) (leAt r.head 4 2 * 256 + leAt r.head 6 1)
      else if typ = 4 then num % 65536 else if typ = 6 then leAt r.head 24 4 else if typ = 7 then num else 0,
    value := r.value,
    group := if bit (leAt r.head 7 1) 0 then some (leAt r.head 24 4) else none,
    size := leAt r.head 16 4 }

/-- The bytes of a record on the flash. -/
def JRec.len (r : JRec) : Nat := r.ent.bytes

/-- Is a record valid (R422)? -/
def State.recValid (s : State) (r : JRec) : Bool :=
  leAt r.head 0 2 = 0x534C && leAt r.head 28 4 = crc32c (r.head.take 28) && leAt r.head 20 4 = crc32c (s.recData r.ent) && leAt r.unit 0 4 = 0x5E717A11 && leAt r.unit 4 8 = r.seq

/-- The sectors of 4 KB that a record lies in. -/
def JRec.sectors (r : JRec) : List Nat := (List.range ((r.addr + r.len - 1) / 4096 + 1 - r.addr / 4096)).map (r.addr / 4096 + ·)

/-- The records of the acting supervisor's flash. -/
def State.recs (s : State) : List JRec := if s.sup = 1 then s.journal.recs1 else s.journal.recs

/-- The records of the acting supervisor's flash changed; a mirror in step follows (R402). -/
def State.setRecs (s : State) (l : List JRec) : State :=
  let j := s.journal
  if s.sup = 1 then { s with journal := { j with recs1 := l } }
  else { s with journal := { j with recs := l, recs1 := if j.recs1 = j.recs && s.alive 1 then l else j.recs1 } }

/-- The sectors of the journal region: the flash less 17 MB. -/
def State.regionSectors (s : State) : Nat := (s.nat 0 (Ob.silt_flash_mb + s.sup) - 17) * 256

/-- Is a sector erased? -/
def State.erased (s : State) (n : Nat) : Bool :=
  !(s.journal.bad.contains n) && !(s.journal.dirty.contains n) && !(s.recs.any fun r => r.sectors.contains n)

/-- Sectors not erased. -/
def State.takenSectors (s : State) : Nat := ((s.recs.flatMap (·.sectors)) ++ s.journal.bad ++ s.journal.dirty).eraseDups.length

/-- silt_free_kb: erased space. -/
def State.freeKb (s : State) : Nat := 4 * (s.regionSectors - s.takenSectors)

/-- Is free space below a share of the region? -/
def State.freeBelow (s : State) (pct : Nat) : Bool := decide (s.freeKb * 100 < pct * (4 * s.regionSectors))

/-- Can `n` bytes be programmed from an address: inside the region, into erased sectors or the one being written? -/
def State.roomAt (s : State) (a n : Nat) : Bool :=
  (List.range ((a + n - 1) / 4096 + 1 - a / 4096)).all fun i =>
    let k := a / 4096 + i
    decide (k < s.regionSectors) && (s.erased k || (i = 0 && a % 4096 ≠ 0 && !(s.journal.bad.contains k) && !(s.journal.dirty.contains k)))

/-- Where a record of `n` bytes goes: the write position, else the next erased sector that takes it. -/
def State.placeFor (s : State) (n : Nat) : Option Nat :=
  if s.roomAt s.journal.pos n then some s.journal.pos
  else
    let m := s.regionSectors
    (((List.range m).map fun i => (s.journal.pos / 4096 + 1 + i) % m).find? fun k => s.roomAt (4096 * k) n).map (4096 * ·)

/-- A record programmed at an address, with the next SEQ (R423). -/
def State.programRec (s : State) (a : Nat) (e : JEnt) : State :=
  let s1 := s.setRecs (s.recs ++ [s.recordAt a (s.journal.seq + 1) e])
  { s1 with journal := { s1.journal with seq := s1.journal.seq + 1, pos := a + e.bytes } }

/-! Live records (R422) -/

/-- Does a record's group hold: its GROUP_END there, with the count of its records? -/
def groupHolds (l : List JRec) (g : Nat) : Bool := match l.find? fun r => r.ent.typ = 6 && r.ent.key = g with
  | some r => r.ent.value = .num ((l.filter fun q => q.ent.group = some g && q.ent.typ ≠ 6).length : Nat)
  | none => false

/-- Does a record count? -/
def recCounts (l : List JRec) (r : JRec) : Bool := match r.ent.group with
  | some g => groupHolds l g
  | none => true

/-- The live records: of each key, the one that counts with the highest SEQ; an UPD_SEGMENT that a later UPD_CLEAR clears is not live. -/
def liveRecs (l : List JRec) : List JRec :=
  let ok := l.filter (recCounts l)
  ok.filter fun r => !(ok.any fun q => (q.ent.sameKey r.ent || (r.ent.typ = 4 && q.ent.typ = 5)) && decide (r.seq < q.seq))

/-- The object values that the live records give. -/
def replayObjs (l : List JRec) : SMap Value :=
  (liveRecs l).foldl (fun (m : SMap Value) r => if (r.ent.typ = 1 || r.ent.typ = 2) && !(isForcedKey r.ent.key) then smPut .dflt m r.ent.key r.ent.value else m) []

/-- The forced fault entries of a die that the live records give, each in the layout of fault_write (R338). -/
def replayForced (l : List JRec) (die : Nat) : List Nat :=
  (liveRecs l).filterMap fun r => if r.ent.typ = 1 && isForcedKey r.ent.key && r.ent.key / 16777216 = die then some (r.ent.key % 16777216 - 0xA00000) else none

/-- The bitmap that the live UPD_SEGMENT records give. -/
def replayBits (l : List JRec) : Nat := ((liveRecs l).filter fun r => r.ent.typ = 4).foldl (fun m r => setBit m r.ent.key) 0

/-! Waiting and the window (R424, R429, R430) -/

/-- Bytes of records that wait. -/
def State.backlog (s : State) : Nat := (s.journal.queue.map (·.bytes)).sum

/-- What a record takes of the deferral queue: a BLOB whose value is in force takes 32 bytes. -/
def State.deferBytes (s : State) (e : JEnt) : Nat := if e.typ = 2 && smGet .dflt s.objs e.key = e.value then 32 else e.bytes

/-- The fill of the deferral queue. -/
def State.deferred (s : State) : Nat := if s.journal.open_ then 0 else (s.journal.queue.map s.deferBytes).sum

/-- Can the deferral queue not take `n` more bytes (R430)? -/
def State.journalFull (s : State) (n : Nat) : Bool := !s.journal.open_ && decide (262144 < s.deferred + n)

/-- A refusal for want of room in the deferral queue is counted. -/
def State.noteRefused (s : State) : State := (s.bump 0 Ob.silt_refused).raise 0 Ob.silt_flags 1

/-! Boot sectors (R431) -/

/-- The 32 bytes of a boot sector (Table 15.6). -/
def bootBytes (b : BootSect) : List Byte :=
  let l := leBytes 4 0x5A160B5C ++ leBytes 4 b.seq ++ leBytes 1 b.slot ++ leBytes 1 0 ++ leBytes 2 b.node ++ leBytes 4 b.id0 ++ leBytes 4 b.id1 ++ leBytes 8 0
  l ++ leBytes 4 (crc32c l)

/-- What a valid boot sector says; none where MAGIC or CRC does not match. -/
def bootRead (l : List Byte) : Option BootSect :=
  if leAt l 0 4 = 0x5A160B5C && leAt l 28 4 = crc32c (l.take 28) then
    some { seq := leAt l 4 4, slot := leAt l 8 1, node := leAt l 10 2, id0 := leAt l 12 4, id1 := leAt l 16 4 }
  else none

/-- Is boot sector B the one in force: valid, and serially higher than A where A is valid too? -/
def State.bootOnB (s : State) : Bool := match bootRead s.journal.bootA, bootRead s.journal.bootB with
  | some a, some b => seqAfter 32 a.seq b.seq
  | none, some _ => true
  | _, none => false

/-- The boot sector in force; the reset values of Table 15.6 where none is valid. -/
def State.bootSect (s : State) : BootSect :=
  (bootRead (if s.bootOnB then s.journal.bootB else s.journal.bootA)).getD { seq := 0, slot := 0, node := 0xFFFF, id0 := 0, id1 := 0 }

/-- The boot sector as it will be once the change that waits is written. -/
def State.bootNext (s : State) : BootSect := match s.journal.bootDue with
  | some (b, _) => b
  | none => s.bootSect

/-- Do records of a commit's group still wait to be written? -/
def State.groupWaits (s : State) : Bool := s.journal.queue.any fun e => e.group.isSome || e.typ = 6

/-- Has an activation proved itself: every live die serves, and 1 s has passed since T (R444)? -/
def State.actProved (s : State) : Bool := match s.upd.act with
  | some a => (s.aliveList.all fun d => bit a.serves d) && s.past a.since 1000000000
  | none => true

/-- An activation is complete (R443): UPD_ACTIVATED; the image before it stays in its slot and in DRAM. -/
def State.actDone (s : State) : State :=
  let p := s.upd.prev
  let s1 : State := { s with upd := { s.upd with act := none, ram := some (p.1, p.2.1), bits := 0, passed := false, fills := [], img := [], ids := smPut (0, 0) s.upd.ids p.2.2 (p.1, p.2.1) } }
  let s2 := s1.putBlob 0 Ob.upd_bitmap .dflt
  (((s2.set Ob.upd_segments 0).set Ob.upd_state 0).set Ob.upd_image_id 0).raise 0 Ob.upd_flags 2

/-- A boot sector change that waits is written once the temperature window is open and, for an activation, once its group's records are written and it has proved itself: the older sector is erased and written with
SEQ + 1 (R429, R431, R443, R444). -/
def State.settleBoot (s : State) : State := match s.journal.bootDue with
  | none => s
  | some (b, act) =>
    if !s.journal.open_ || (act && (s.groupWaits || !s.actProved)) then s
    else
      let w := bootBytes { b with seq := (s.bootSect.seq + 1) % 4294967296, node := s.pw Ob.node_id }
      let toA := s.bootOnB || (bootRead s.journal.bootA).isNone
      let s1 : State := { s with journal := { s.journal with bootA := if toA then w else s.journal.bootA, bootB := if toA then s.journal.bootB else w, bootDue := none } }
      s1.when act State.actDone

/-- A change of the boot sectors. -/
def State.writeBoot (s : State) (act : Bool) (f : BootSect → BootSect) : State :=
  let due := (f s.bootNext, act || (s.journal.bootDue.any fun d => d.2))
  ({ s with journal := { s.journal with bootDue := some due } } : State).settleBoot

/-! Writing records -/

/-- Records that wait while writing is stopped set DEFERRED. -/
def State.noteDeferred (s : State) : State := if !s.journal.open_ && !s.journal.queue.isEmpty then s.raise 0 Ob.silt_flags 0 else s

/-- The window follows the acting supervisor's temperature: 0 to +100 °C, once left +2 to +98 °C (R429). -/
def State.judgeWindow (s : State) : State :=
  let t := s.int s.sup Ob.therm_die_c
  let ok := if s.journal.open_ then decide (0 ≤ t) && decide (t ≤ 1600) else decide (32 ≤ t) && decide (t ≤ 1568)
  ({ s with journal := { s.journal with open_ := ok } } : State).noteDeferred.settleBoot

/-- Tamping starts where free space is short (R428). -/
def State.judgeTamp (s : State) : State :=
  if s.freeBelow (s.pw Ob.silt_tamp_low_pct) then { s with journal := { s.journal with tamping := true } } else s

/-- A sector marked for tamping. -/
def State.markSector (s : State) (n : Nat) : State :=
  { s with journal := { s.journal with marked := if s.journal.marked.contains n then s.journal.marked else s.journal.marked ++ [n], dirty := if s.journal.dirty.contains n then s.journal.dirty else s.journal.dirty ++ [n] } }

/-- The RETIRE record of a sector of the journal region: its flash address (Tables 15.1, 15.5). -/
def retireRec (k : Nat) : JEnt := { typ := 7, key := 0x1100000 + 4096 * k, value := .num (0x1100000 + 4096 * k : Nat), size := 4 }

/-- Sectors whose erase the flash reports as failed are retired (R427). -/
def State.retire (s : State) (ks : List Nat) : State :=
  ({ s with journal := { s.journal with bad := s.journal.bad ++ ks, queue := ks.map retireRec ++ s.journal.queue } } : State).when (!ks.isEmpty) fun s =>
    (s.bump 0 Ob.silt_bad_sectors ks.length).raise 0 Ob.silt_flags 3

/-- JOURNAL_RECORD_WRITE (R423, R427): the oldest waiting record is programmed and mirrored. A unit not blank moves it to the next erased sector; a failed program retires the sector. -/
def State.recordWrite (s : State) (blank programOk : Bool) : State :=
  if !s.journal.open_ || !(s.fwOn s.sup) then s.noteDeferred
  else
    match s.journal.queue with
    | [] => s
    | e :: rest =>
      match s.placeFor e.bytes with
      | none => s.judgeTamp
      | some a =>
        let k := a / 4096
        if !programOk then
          let s1 := { s with journal := { s.journal with
            bad := s.journal.bad ++ [k], pos := 4096 * (k + 1), queue := retireRec k :: e :: rest } }
          ((s1.bump 0 Ob.silt_bad_sectors).raise 0 Ob.silt_flags 3).judgeTamp
        else if !blank then
          let s1 := (((s.markSector k).bump 0 Ob.silt_blank_fails).raise 0 Ob.silt_flags 2)
          let s2 := { s1 with journal := { s1.journal with pos := 4096 * (k + 1) } }
          match s2.placeFor e.bytes with
          | none => s2.judgeTamp
          | some b => ({ s2 with journal := { s2.journal with queue := rest } }.programRec b e).judgeTamp.settleBoot
        else ({ s with journal := { s.journal with queue := rest } }.programRec a e).judgeTamp.settleBoot

/-! Tamping (R428) -/

/-- Sectors to erase with a sector: those that its records cover, and so on. -/
def spread (l : List JRec) : Nat → List Nat → List Nat
  | 0, k => k
  | n + 1, k => spread l n ((k ++ (l.filter fun r => r.sectors.any k.contains).flatMap (·.sectors)).eraseDups)

/-- Does a sector hold a record of a group whose GROUP_END is not yet written? -/
def openGroup (l : List JRec) (n : Nat) : Bool :=
  l.any fun r => r.sectors.contains n && (match r.ent.group with
    | some g => !(l.any fun q => q.ent.typ = 6 && q.ent.key = g)
    | none => false)

/-- The sector that tamping takes next: a marked one, else the oldest. -/
def State.tampSector (s : State) : Option Nat :=
  match s.journal.marked.find? fun n => !(openGroup s.recs n) with
  | some n => some n
  | none =>
    if !s.journal.tamping then none
    else ((s.recs.filter fun r => !(openGroup s.recs (r.addr / 4096))).foldl (fun (a : Option JRec) r => match a with
      | some q => if r.seq < q.seq then some r else some q
      | none => some r) none).map fun r => r.addr / 4096

/-- A live record copied to the write position with a new SEQ, GROUPED cleared; none where no room is left. -/
def State.copyRec (s : State) (e : JEnt) : Option State := (s.placeFor e.bytes).map fun a => s.programRec a { e with group := if e.typ = 6 then e.group else none }

/-- TAMPING: the live records of a sector are copied, then the sectors are erased and counted. A GROUP_END is copied, with the count that is left, while a record of its group stays GROUPED elsewhere. The UPD_SEGMENT records that follow a copied UPD_CLEAR are written again after it, for their bits to stay
(log entry 147). An erase that fails is told by BootEnv.worn (log entry 175). -/
def State.tamp (s : State) : State :=
  if !s.journal.open_ || !(s.fwOn s.sup) then s
  else
    match s.tampSector with
    | none => s
    | some n =>
      let old := s.recs
      let gone := spread old 8 [n]
      let hit := fun (r : JRec) => r.sectors.any gone.contains
      let live := (liveRecs old).filter hit
      let left := fun (g : Nat) => (old.filter fun r => r.ent.group = some g && r.ent.typ ≠ 6 && !hit r).length
      let keep := live.filter fun r => r.ent.typ ≠ 6 || decide (0 < left r.ent.key)
      let segs := if keep.any fun r => r.ent.typ = 5 then (liveRecs old).filter fun r => r.ent.typ = 4 && !hit r else []
      let copied := (keep ++ segs).foldl (fun (a : Option State) r => a.bind fun s => s.copyRec (if r.ent.typ = 6 then { r.ent with value := .num (left r.ent.key : Nat) } else r.ent)) (some s)
      match copied with
      | none => if s.freeBelow (s.pw Ob.silt_tamp_low_pct) then s.raise 0 Ob.silt_flags 5 else s
      | some s1 =>
        let s2 := s1.setRecs (s1.recs.filter fun r => !(hit r && decide (r.seq ≤ s.journal.seq)))
        let s3 := { s2 with journal := { s2.journal with marked := s2.journal.marked.filter fun k => !(gone.contains k), dirty := s2.journal.dirty.filter fun k => !(gone.contains k) } }
        let worn := gone.filter fun k => s.boot.env.worn.contains k && !(s.journal.bad.contains k)
        let s4 := (s3.bump 0 Ob.silt_tamps (gone.length - worn.length)).retire worn
        let s5 := s4.when (!(s4.freeBelow (s4.pw Ob.silt_tamp_high_pct)) && 4 * s4.regionSectors * s4.pw Ob.silt_tamp_high_pct < s4.freeKb * 100) fun s =>
          { s with journal := { s.journal with tamping := false } }
        s5.when (s5.freeBelow (s5.pw Ob.silt_tamp_low_pct) && (liveRecs s5.recs).length = s5.recs.length) fun s => s.raise 0 Ob.silt_flags 5

/-! Replay (R425, R426) -/

/-- The highest SEQ of a flash. -/
def topSeq (l : List JRec) : Nat := maxOr 0 (l.map (·.seq))

/-- The journal with the higher valid SEQ is used and the other rebuilt from it (R425, R426); records that are not valid are ignored and their sectors marked for tamping. -/
def State.chooseJournal (s : State) : State :=
  let j := s.journal
  let a := j.recs.filter s.recValid
  let b := j.recs1.filter s.recValid
  let onB := decide (topSeq a < topSeq b)
  let use := if onB then b else a
  let torn := ((if onB then j.recs1 else j.recs).filter fun r => !(s.recValid r)).flatMap (·.sectors)
  let s1 := { s with journal := { j with recs := use, recs1 := if s.alive 1 then use else j.recs1, seq := topSeq use } }
  let s2 := s1.each torn fun k s => s.markSector k
  if s2.alive 1 && j.recs ≠ j.recs1 then (s2.bump 0 Ob.silt_resyncs).raise 0 Ob.silt_flags 4 else s2

/-- The first erased sector after the record with the highest SEQ. -/
def State.resumePos (s : State) : State :=
  let m := s.regionSectors
  let from_ := match s.recs.find? fun r => r.seq = topSeq s.recs with
    | some r => (r.addr + r.len - 1) / 4096 + 1
    | none => 0
  let k := (((List.range m).map fun i => (from_ + i) % m).find? s.erased).getD 0
  { s with journal := { s.journal with pos := 4096 * k } }

/-- JOURNAL_REPLAY: every live value is restored over the values given; groups without their GROUP_END are discarded. -/
def State.replay (s : State) : State :=
  let s1 := s.chooseJournal
  let l := s1.recs
  let s2 := ({ s1 with objs := overlay s1.objs (replayObjs l) } : State).resumePos
  let lost := l.any fun r => match r.ent.group with
    | some g => !(groupHolds l g)
    | none => false
  s2.when lost fun s => s.raise 0 Ob.silt_flags 6

/-! Update images (R433-R438) -/

/-- A header's refusal reason (Table 15.8), 0 where it passes. -/
def State.headerReason (s : State) (h : List Byte) : Nat :=
  let bitOf := if s.fuses.variant = 0x88 then 0 else if s.fuses.variant = 0x84 then 1 else if s.fuses.variant = 0x82 then 2 else 3
  let size := leAt h 20 4
  let key := leAt h 5 1
  if leAt h 0 4 ≠ 0x5A160F1D then 1
  else if leAt h 4 1 ≠ 1 then 2
  else if !(bit (leAt h 8 1) bitOf) then 3
  else if s.fuses.rev % 256 < leAt h 9 1 then 4
  else if size < 4096 || 8388608 < size then 5
  else if sha384 (h.take 128) ≠ (h.drop 128).take 48 then 6
  else if 4 ≤ key || !(bit s.fuses.keys key) || bit s.fuses.revoked key then 7
  else if !(ecdsaOk (Config.romKey key) ((h.drop 128).take 48) ((h.drop 176).take 96)) then 8
  else 0

/-- Does an image in a slot pass: its header by R435, its payload hash by R438 (R432)? -/
def State.imageSound (s : State) (m : SMap Byte) : Bool :=
  s.headerReason (smRun 0 m 0 512) = 0 && sha384 (smRun 0 m 512 (ofLe (smRun 0 m 20 4) - 512)) = smRun 0 m 76 48

/-- Can a slot of die 0 (0, 1) or die 1 (2, 3) be booted: does what stands outside find it sound, and, where this part has written it, do its own bytes pass? -/
def State.slotOk (s : State) (env : BootEnv) (k : Nat) : Bool :=
  env.imageOk.getD k false && (match smGet [] s.upd.slots k with
    | [] => true
    | m => s.imageSound m)

/-- The slot that an image is staged in: the one that is not ACTIVE_SLOT (R436); in recovery mode the one that failed, slot 0 when both did, the inactive one when none was tried (R445). -/
def State.stageSlot (s : State) : Nat :=
  if s.boot.recovery && !(s.slotOk s.boot.env 0) then 0
  else if s.boot.recovery && !(s.slotOk s.boot.env 1) then 1
  else 1 - s.bootSect.slot % 2

/-- The defined bits of a byte of an image header (Table 15.7): reserved ones are masked as they are written (R18). -/
def headMask (off : Nat) : Byte :=
  if off = 8 then 0x0F
  else if off = 6 || off = 7 || off = 10 || off = 11 || (24 ≤ off && off ≤ 75) || (124 ≤ off && off ≤ 127) || (272 ≤ off && off ≤ 511) then 0
  else 0xFF

/-- Bytes of segment 0 from an offset on, less reserved bits. -/
def headMasked (off : Nat) (bs : List Byte) : List Byte := bs.zipIdx.map fun e => e.1 &&& headMask (off + e.2)

/-- Bytes of the staged image. -/
def State.imgBytes (s : State) (o n : Nat) : List Byte := smRun 0 s.upd.img o n

/-- Segments of the staged image, by its header's SIZE. -/
def State.imgSize (s : State) : Nat := ofLe (s.imgBytes 20 4)

/-- The number of segments. -/
def State.imgSegs (s : State) : Nat := ceilDiv s.imgSize 4096

/-- The bytes that complete a segment: 4,096, or up to SIZE in the last. -/
def State.segFull (s : State) (n : Nat) : Nat := if n = 0 then 4096 else min 4096 (s.imgSize - 4096 * n)

/-- upd_bitmap and upd_segments follow the bitmap. -/
def State.showBits (s : State) : State :=
  (s.putBlob 0 Ob.upd_bitmap (.blob true (smPutAll 0 [] 0 (leBytes 256 s.upd.bits)))).set Ob.upd_segments (popCount 2048 s.upd.bits : Nat)

/-- A record of the image on its way; in recovery mode the journal is untouched (R445). -/
def State.updRec (s : State) (e : JEnt) : State := if s.boot.recovery then s else s.queueRec e

/-- The staged image is cleared, with an UPD_CLEAR record. -/
def State.updClear (s : State) : State :=
  let s1 := { s with upd := { s.upd with fills := [], img := [], bits := 0, passed := false, ram := none } }
  ((s1.updRec { typ := 5, key := 0, value := .num (s.pw Ob.upd_image_id), size := 4 }).showBits.set Ob.upd_image_id 0).set Ob.upd_state 0

/-- Is every segment bit set? -/
def State.updWhole (s : State) : Bool := s.upd.passed && decide (s.imgSegs ≤ popCount 2048 s.upd.bits)

/-- upd_state while an image is received: VERIFYING once every segment bit is set (R438), else RECEIVING. -/
def State.showReceiving (s : State) : State := s.set Ob.upd_state (if s.updWhole then 2 else 1)

/-- A complete segment is programmed and its bit journalled (R436). -/
def State.segDone (s : State) (n : Nat) : State :=
  let id := s.pw Ob.upd_image_id
  let k := s.stageSlot
  let slot := smPutAll 0 (smGet [] s.upd.slots k) (4096 * n) (s.imgBytes (4096 * n) (s.segFull n))
  let s1 := { s with upd := { s.upd with bits := setBit s.upd.bits n, fills := smPut 0 s.upd.fills n 0, slots := smPut [] s.upd.slots k slot } }
  let s2 := (s1.updRec { typ := 4, key := n, value := .num (n + 65536 * id : Nat), size := 6 }).showBits
  s2.when (s2.pw Ob.upd_state = 1) State.showReceiving

/-- Segment 0 is complete in its receive buffer (R434). -/
def State.headDone (s : State) (seg : List Byte) : State :=
  let s1 := { s with upd := { s.upd with fills := smPut 0 s.upd.fills 0 0 } }
  if s.upd.passed && bit s.upd.bits 0 && s.imgBytes 0 4096 = seg then
    s1.when (s.pw Ob.upd_state = 4) fun s => if s.upd.ram.isSome then s.set Ob.upd_state 3 else s.showReceiving
  else
    let why := s.headerReason seg
    if why ≠ 0 then ((s1.set Ob.upd_state 4).set Ob.upd_reason why).raise 0 Ob.upd_flags 0
    else
      let s2 := s1.updClear
      let k := s2.stageSlot
      let s3 := { s2 with upd := { s2.upd with img := smPutAll 0 [] 0 seg, passed := true, slots := smPut [] s2.upd.slots k [], ids := smPut (0, 0) s2.upd.ids k (0, 0) } }
      (((s3.set Ob.upd_image_id (leAt seg 12 4)).set Ob.upd_state 1).set Ob.upd_reason 0).segDone 0

/-- The key under which the receive buffer of segment 0 is kept beside the image. -/
abbrev seg0Base : Nat := 16777216

/-- One piece of a WRITE_SEG, inside one segment (R433-R436): the state, the status (0 OK, 3 BUSY, 5 SEG_GAP) and FILL. -/
def State.updPiece (s : State) (off : Nat) (data : List Byte) : State × Nat × Nat :=
  let n := off / 4096
  let o := off % 4096
  let fill := smGet 0 s.upd.fills n
  if n = 0 then
    if fill < o then (s, 5, fill)
    else
      let s1 := { s with upd := { s.upd with img := smPutAll 0 s.upd.img (seg0Base + o) (headMasked o data), fills := smPut 0 s.upd.fills 0 (max fill (o + data.length)) } }
      if max fill (o + data.length) < 4096 then (s1, 0, max fill (o + data.length))
      else if !s.journal.open_ then ({ s with upd := { s.upd with fills := smPut 0 s.upd.fills 0 0 } }, 3, 0)
      else (s1.headDone (smRun 0 s1.upd.img seg0Base 4096), 0, 4096)
  else if !s.upd.passed then (s, 5, 0)
  else
    let full := s.segFull n
    let data := data.take (full - o)
    if bit s.upd.bits n && s.imgBytes off data.length = data then (s, 0, 4096 * n + full)
    else
      let s0 := if bit s.upd.bits n then
          (({ s with upd := { s.upd with bits := clearBit s.upd.bits n, fills := smPut 0 s.upd.fills n o, ram := none } } : State).showBits).when (s.pw Ob.upd_state ≠ 4) State.showReceiving
        else s
      let fill := smGet 0 s0.upd.fills n
      if fill < o then (s0, 5, 4096 * n + fill)
      else
        let f := max fill (o + data.length)
        let s1 := { s0 with upd := { s0.upd with img := smPutAll 0 s0.upd.img off data, fills := smPut 0 s0.upd.fills n f } }
        if f < full || full = 0 then (s1, 0, 4096 * n + f)
        else if !s.journal.open_ then ({ s0 with upd := { s0.upd with fills := smPut 0 s0.upd.fills n 0 } }, 3, 4096 * n)
        else (s1.segDone n, 0, 4096 * n + full)

/-- The pieces of a WRITE_SEG in ascending order; the first that is refused ends it (R433). -/
def State.updPieces (s : State) (off : Nat) (data : List Byte) : Nat → State × Nat × Nat
  | 0 => (s, 0, off)
  | k + 1 =>
    let n := min data.length (4096 - off % 4096)
    let r := s.updPiece off (data.take n)
    if r.2.1 ≠ 0 || data.length ≤ n then r else r.1.updPieces (off + n) (data.drop n) k

/-- A WRITE_SEG of upd_image; bytes past the blob's end are dropped. -/
def State.updWrite (s : State) (off : Nat) (data : List Byte) : State × Nat × Nat :=
  if 8388608 ≤ off then (s, 5, 0) else s.updPieces off (data.take (8388608 - off)) 3

/-- The payload hash over the staged slot (R438). -/
def State.hashOk (s : State) : Bool := sha384 (s.imgBytes 512 (s.imgSize - 512)) = s.imgBytes 76 48

/-- The payload hash does not match (R438): FAILED, and the image is cleared. -/
def State.updFail (s : State) : State := ((s.updClear.set Ob.upd_state 5).set Ob.upd_reason 9).raise 0 Ob.upd_flags 1

/-- The staged image in both flashes, known by its IMAGE_ID and FW_VERSION. -/
def State.updCopy (s : State) : State :=
  let k := s.stageSlot
  let img := smPutAll 0 [] 0 (s.imgBytes 0 s.imgSize)
  { s with upd := { s.upd with slots := smPut [] (smPut [] s.upd.slots k img) (2 + k) img, ids := smPut (0, 0) s.upd.ids k (s.pw Ob.upd_image_id, ofLe (s.imgBytes 16 4)) } }

/-- The IMAGE_ID of a slot in a boot sector. -/
def bootId (k id : Nat) (b : BootSect) : BootSect := if k = 0 then { b with id0 := id } else { b with id1 := id }

/-- UPD_VERIFY: with every segment bit set, the image becomes READY, in both flashes, in DRAM and in the boot sectors; or it fails and is cleared. -/
def State.updVerify (s : State) : State :=
  if s.pw Ob.upd_state ≠ 2 || !s.updWhole || !s.journal.open_ then s
  else if s.hashOk then
    let id := s.pw Ob.upd_image_id
    let s1 := { s.updCopy with upd := { s.updCopy.upd with ram := some (id, ofLe (s.imgBytes 16 4)) } }
    (s1.writeBoot false (bootId s.stageSlot id)).set Ob.upd_state 3
  else s.updFail

end Sys2Proof.Machine
end

