-- ==== Sys2Proof/Machine/LampFaults.lean ====
section
/-! DEFINITION. Readback (R320-R322), the lamp fault map and function groups (chapter 11). -/

namespace Sys2Proof.Machine

/-! The fault map (R334-R338) -/

/-- A lamp position's entry. -/
def State.lamp (s : State) (die pos : Nat) : LampSt := smGet {} (s.tdie die).lamps pos

/-- A lamp position's entry changed. -/
def State.setLamp (s : State) (die pos : Nat) (l : LampSt) : State :=
  s.setTdie die fun t => { t with lamps := smPut {} t.lamps pos l }

/-- How many entries of a die are in a state. -/
def State.lampCount (s : State) (die state : Nat) : Nat := ((s.tdie die).lamps.filter fun e => e.2.state = state).length

/-- The counts of open, short and forced entries shown. -/
def State.showLamps (s : State) (die : Nat) : State :=
  ((s.put die Ob.fault_open_count (s.lampCount die 1)).put die Ob.fault_short_count (s.lampCount die 2)).put die Ob.fault_forced_count (s.lampCount die 3)

/-- Does a scan-map entry name the position? -/
def State.isPlaced (s : State) (die pos : Nat) : Bool := (s.placed die).any fun e => e.2.2 = pos

/-- The index of a position's entry in fault_map (R334). -/
def State.faultIndex (s : State) (die pos : Nat) : Nat :=
  let k := pos / 262144
  s.chainOffset die k + (pos / 4096 % 64 * s.nat die (Ob.chain_drivers + k) + pos / 64 % 64) * s.chans die (k / 6) + pos % 64

/-- The bytes of fault_map that are not 0, of those from an offset on. -/
def State.faultBytes (s : State) (die off n : Nat) : List Byte :=
  let l := ((s.tdie die).lamps.filter fun e => e.2.state ≠ 0 && s.posValid die e.1).map fun e => (s.faultIndex die e.1, e.2.state)
  (List.range n).map fun i => byteOf (((l.filter fun e => e.1 / 4 = off + i).map fun e => e.2 * 4 ^ (e.1 % 4)).sum)

/-! Function groups (R341-R344) -/

/-- The members of a function group on a die: the positions of its placed lamps. -/
def State.members (s : State) (die f : Nat) : List Nat := ((s.placed die).filter fun e => s.lampGroup die e.1 e.2.1 = f).map (·.2.2)

/-- Has a member failed (R341)? -/
def State.memberFailed (s : State) (die pos : Nat) : Bool :=
  (s.lamp die pos).state ≠ 0 || s.pw Ob.fault_confirm ≤ smGet 0 (s.tdie die).marks (pos / 262144 * 64 + pos / 64 % 64)

/-- The failed members of a group on its die. -/
def State.ownFailed (s : State) (die f : Nat) : Nat := ((s.members die f).filter (s.memberFailed die)).length

/-- The groups linked with one, itself included (R342). -/
def State.linked (s : State) (die f : Nat) : List (Nat × Nat) :=
  let k := s.nat die (atIndex Ob.fg_link f)
  if k = 0 then [(die, f)]
  else s.aliveList.flatMap fun d => ((List.range 256).filter fun g => s.nat d (atIndex Ob.fg_link g) = k).map fun g => (d, g)

/-- fg_failed: the failed members over the linked groups. -/
def State.fgFailed (s : State) (die f : Nat) : Nat := min 65535 ((s.linked die f).map fun e => s.ownFailed e.1 e.2).sum

/-- Is the rule of a group met (R342)? -/
def State.fgRule (s : State) (die f : Nat) : Bool :=
  match s.nat die (atIndex Ob.fg_mode f) with
  | 1 => 1 ≤ s.fgFailed die f
  | 2 => s.nat die (atIndex Ob.fg_threshold f) ≤ s.fgFailed die f
  | _ => false

/-- View-frame B of a decision taken now: the first whose predecessor launches 50 µs ahead or later (R343). -/
def State.blankFrom (s : State) : Int :=
  match (s.vfsAround s.layNow 1 3).find? fun v => (s.layNow : Int) + 50000 * layNs ≤ v.at_ with
  | some p => match s.vfAfter p.at_ with
    | some b => b.at_
    | none => s.layNow
  | none => s.layNow

/-- A group blanked from B (R343, R345): latched, kept in the journal, reported with its own severity; groups in self-refresh leave it and show their picture again from B, darkened. -/
def State.blankOne (s : State) (die f : Nat) (b : Int) : State :=
  if s.on die (atIndex Ob.fg_blanked f) then s
  else
    let s1 := (s.setTdie die fun t => { t with blanks := smPut none t.blanks f (some b) }).keep die (atIndex Ob.fg_blanked f) 1
    let s2 := if s1.on die Ob.fault_flags 2 then s1
      else (s1.markFlag die Ob.fault_flags 2).report die Ob.fault_flags 2 0 (s1.nat die (atIndex Ob.fg_severity f)) true
    s2.each (s2.groupsUsed die) fun g s => if (s.gst die g).sr then (s.srLeave die g).setG die g fun t => { t with resume := some b } else s

/-- FG_BLANK (R343): every group of the linked group is blanked once its rule is met. -/
def State.judgeGroup (s : State) (die f : Nat) : State :=
  if s.fgRule die f then let b := s.blankFrom; s.each (s.linked die f) fun e s => s.blankOne e.1 e.2 b else s

/-- The function groups whose rule may have changed on a die are judged. -/
def State.judgeGroups (s : State) (die : Nat) : State :=
  s.each ((List.range 256).filter fun f => s.nat die (atIndex Ob.fg_mode f) ≠ 0 && !(s.on die (atIndex Ob.fg_blanked f))) fun f s => s.judgeGroup die f

/-- A write of 1 to fg_blanked (R344): the blank of the linked group is cleared where the rule is no longer met. -/
def State.clearBlank (s : State) (die f : Nat) : State :=
  if s.fgRule die f then s
  else s.each (s.linked die f) fun e s =>
    if s.on e.1 (atIndex Ob.fg_blanked e.2) then
      (s.setTdie e.1 fun t => { t with blanks := smPut none t.blanks e.2 none }).keep e.1 (atIndex Ob.fg_blanked e.2) 0
    else s

/-! Readings (R335, R336) -/

/-- A move of an entry to open or short (R336): recorded and flagged, or counted apart where no scan-map entry names the position. -/
def State.noteFault (s : State) (die pos state : Nat) : State :=
  if s.isPlaced die pos then
    ((((s.bump die Ob.fault_new).put die Ob.fault_last (wordOfPos pos + state * 16777216)).put die Ob.fault_last_at (s.layOf die))).raise die Ob.fault_flags 0 (pos / 262144 / 6)
  else s.bump die Ob.fault_unplaced

/-- A counted reading of a position: 0 good, 1 open, 2 short (R336). -/
def State.reading (s : State) (die pos kind : Nat) : State :=
  let l := s.lamp die pos
  let n := if l.kind = kind then l.count + 1 else 1
  let confirm := s.pw Ob.fault_confirm
  if l.state = 3 then s
  else if l.state = 0 then
    if kind = 0 then s.setLamp die pos {}
    else if confirm ≤ n then ((s.setLamp die pos { state := kind, kind := 0, count := 0 }).noteFault die pos kind).showLamps die
    else s.setLamp die pos { state := 0, kind := kind, count := n }
  else if kind = 0 then
    let clear := s.pw Ob.fault_autoclear
    if clear ≠ 0 && clear ≤ n then (s.setLamp die pos {}).showLamps die else s.setLamp die pos { l with kind := 0, count := n }
  else if kind = l.state then s.setLamp die pos { l with kind := kind, count := 0 }
  else if confirm ≤ n then (s.setLamp die pos { state := kind, kind := 0, count := 0 }).showLamps die
  else s.setLamp die pos { l with kind := kind, count := n }

/-- The value that a lamp showed in the line during which the last readback of its group began (R335). -/
def State.litValue (s : State) (die pos : Nat) : Nat := match (s.gst die (pos / 262144 / 6)).rbHalf with
  | some h => (s.storeValue h die pos).getD 0
  | none => 0

/-! Readback (R320-R322, R340) -/

/-- When a group may send READBACK from a moment on (R320): at the next boundary between the groups of words of the unit that is shifting, else at once. -/
def State.rbAt (s : State) (die g : Nat) (from_ : Int) : Int :=
  let x := s.gst die g
  let c := match x.shiftAt with
    | some t => s.cfgFor die t
    | none => s
  let step : Int := (max 1 (c.wordsNs die g) * layNs : Nat)
  if x.busy && from_ ≤ x.from_ + c.chans die g * step then x.from_ + (max 0 (from_ - x.from_) + step - 1) / step * step else from_

/-- READBACK (R320): in a view-frame that the group has started, or in self-refresh, at the first boundary in the lit time of a line that lights the scan line due, rg_rb_settle_ns after its start
or later, the READBACK command goes out before each of RB_WORDS groups of words; it lengthens the shift in progress by its commands (R315), and where none is in progress groups of zero words without
WORD_LATCH take its place. The scan lines are taken in turn. -/
def State.readback (s : State) (die g : Nat) : State :=
  let x := s.gst die g
  let c := s.slotCfg die g
  let due := s.grp die g Ob.rg_rb_line
  let from_ := s.rbAt die g (x.lineAt + c.grp die g Ob.rg_rb_settle_ns * layNs)
  let till := x.lineAt + c.litNs die g * layNs
  if s.dies ≤ die || !(s.groupRuns die g) || s.groupStopped die g || !x.rbDue || x.rbLine ≠ some due || !x.rowEn || x.line = 0 || (x.mode ≠ 1 && !x.sr) || !(s.reachedOn die from_) || till ≤ from_ then s
  else
    let n := c.prof die g 12 1
    let extra : Int := (n * c.cmdNs die g 3 * layNs : Nat)
    let alone : Int := (n * (c.cmdNs die g 3 + c.wordsNs die g) * layNs : Nat)
    let s1 := s.setG die g fun t =>
      { t with rbDue := false, rbHalf := s.groupHalf die g, from_ := if t.busy then t.from_ + extra else t.from_, freeAt := if t.busy then t.freeAt else s.layOf die + alone }
    let s2 := s1.each (List.range n) fun _ s => s.emit (.readback die g due (c.latWidth die g 3) (if x.busy then 0 else c.groupD die g) (c.nat die (Ob.io_sdo_delay_ps + g)))
    s2.putG die g Ob.rg_rb_line ((due + 1) % max 1 (c.grp die g Ob.rg_scan_lines))

/-- The record of a driver (R321): of each readback group of words the word at position D − 1 − p, word 0 first. -/
def State.recordBits (s : State) (die g driver : Nat) (words : List (List Bool)) : List Bool :=
  let c := s.slotCfg die g
  words.flatMap fun w => (w.drop ((c.groupD die g - 1 - driver) * c.wordBits die g)).take (c.wordBits die g)

/-- A field of a record, its most significant bit first. -/
def recordField (bs : List Bool) (pos n : Nat) : Nat := (List.range n).foldl (fun a i => 2 * a + b2n (bs.getD (pos + i) false)) 0

/-- The driver's temperature from a record, in 1/16 °C (R322, R340). -/
def State.driverTemp (s : State) (die g chain driver : Nat) (bs : List Bool) : State :=
  let n := s.prof die g 16 1
  if n = 0 then s
  else
    let t : Int := (recordField bs (s.prof die g 15 1) n * s.prof die g 17 1 : Nat) + toSigned 16 (s.prof die g 18 2)
    let s1 := (s.setTdie die fun d => { d with drivers := smPut none d.drivers (chain * 64 + driver) (some (t, s.now)) }).zonesOfDriver die chain driver
    if s1.int 0 Ob.fault_drv_temp_max < t then s1.raise die Ob.fault_flags 1 g else s1

/-- The scan line that a group's last READBACK read. -/
def State.rbScan (s : State) (die g : Nat) : Nat :=
  let n := max 1 (s.grp die g Ob.rg_scan_lines)
  (s.grp die g Ob.rg_rb_line + n - 1) % n

/-- READBACK_RECORD (R321, R322, R335, R336, R340, R341): what CHAIN_SDO gave in each readback group of words, first bit first, holds the driver's record; one with a wrong mark is counted; another gives a reading for every channel and a temperature. Function groups are judged after it. -/
def State.record (s0 : State) (die chain driver : Nat) (words : List (List Bool)) : State :=
  let g := chain / 6
  let s := s0.crossEvents die (.readbackRecord g) 1
  let bs := s.recordBits die g driver words
  let key := chain * 64 + driver
  if s.dies ≤ die || !(s.chainUsed die chain) || s.nat die (Ob.chain_drivers + chain) ≤ driver || s.prof die g 12 1 = 0 then s0
  else if recordField bs (s.prof die g 20 1) 8 ≠ s.prof die g 21 1 then
    let s1 := ((s.bump die Ob.rb_mark_bad).setTdie die fun t => { t with marks := smPut 0 t.marks key (smGet 0 t.marks key + 1) }).raise die Ob.raster_flags 4 g
    s1.judgeGroups die
  else
    let line := s.rbScan die g
    let s1 := ((s.bump die Ob.rb_records (s0.crossCount die (.readbackRecord g) 1)).setTdie die fun t => { t with marks := smPut 0 t.marks key 0 }).driverTemp die g chain driver bs
    let s2 := s1.each (List.range (s.chans die g)) fun c s =>
      let pos := posKey chain line driver c
      let short := bs.getD (s.prof die g 14 1 + c) false
      let opened := bs.getD (s.prof die g 13 1 + c) false
      if s.litValue die pos < s.pw Ob.fault_min_code then s
      else s.reading die pos (if short then 2 else if opened then 1 else 0)
    s2.judgeGroups die

/-- A forced entry in the journal: its record, or a DELETE of its key (R338, Table 15.5). -/
def State.journalForced (s : State) (die pos st : Nat) : State :=
  let w := wordOfPos pos
  s.queueRec (if st = 3 then { typ := 1, key := forcedKey die w, value := .num (w + 3 * 16777216 : Nat), size := 4 } else { typ := 3, key := forcedKey die w, value := .dflt, size := 0 })

/-- FAULT_WRITE (R337, R338): one entry set by the host; forced entries go to the journal, 4,096 at most. -/
def State.faultWrite (s : State) (die w : Nat) : State :=
  let pos := posOfWord w
  let st := bits w 25 24
  if !(s.posValid die pos) then s
  else if st = 3 && 4096 ≤ s.lampCount die 3 then s.raise die Ob.fault_flags 3
  else
    let forced := st = 3 || (s.lamp die pos).state = 3
    let s1 := (s.setLamp die pos { state := st }).showLamps die
    (s1.when forced fun s => s.journalForced die pos st).judgeGroups die

/-- A commit that changes the chains: entries keep their code at the same place where it still exists; others are discarded, forced ones from the journal too (R338). -/
def State.remapLamps (s : State) (die : Nat) : State :=
  let gone := (s.tdie die).lamps.filter fun e => !(s.posValid die e.1)
  let s1 := s.setTdie die fun t => { t with lamps := t.lamps.filter fun e => s.posValid die e.1 }
  (s1.each (gone.filter fun e => e.2.state = 3) fun e s => s.journalForced die e.1 0).showLamps die

end Sys2Proof.Machine
end

