-- ==== Sys2Proof/Machine/Pack.lean ====
section
/-! DEFINITION. The packer, the launch rings and the ring engines (R192-R197, R229-R231). -/

namespace Sys2Proof.Machine

/-- SPEC of a PIXEL or CANVAS cell (Table 5.3). -/
def pixelSpec (band view offset frame : Nat) (last : Bool) : Nat :=
  band % 1024 + view % 8 * 1024 + offset % 65536 * 8192 + frame % 16 * 536870912 + b2n last * 8589934592

/-- SPEC of a CHECK cell (R151). -/
def checkSpec (view frame : Nat) : Nat := view % 8 * 1024 + frame % 16 * 536870912

/-- A ring descriptor (Table 6.2), OWN and SEG_SRAM set. -/
def ringDesc (last : Bool) (view frame first len word die : Nat) (at_ : Int) : Nat :=
  1 + b2n last * 2 + view % 8 * 256 + frame % 65536 * 2048 + first % 65536 * 2 ^ 27 + len % 16777216 * 2 ^ 43 + word % 34359738368 * 2 ^ 67 + die % 8 * 2 ^ 102 + 2 ^ 105 +
  ((at_ / (1000 * layNs)).toNat % 4194304) * 2 ^ 106

/-- The fields of a descriptor. -/
def descLast (d : Nat) : Bool := bit d 1
/-- VIEW of a descriptor. -/
def descView (d : Nat) : Nat := bits d 10 8
/-- FRAME of a descriptor. -/
def descFrame (d : Nat) : Nat := bits d 26 11
/-- FIRST_OFFSET of a descriptor. -/
def descFirst (d : Nat) : Nat := bits d 42 27
/-- SEG_LEN of a descriptor. -/
def descLen (d : Nat) : Nat := bits d 66 43
/-- SEG_WORD of a descriptor. -/
def descWord (d : Nat) : Nat := bits d 101 67
/-- SEG_DIE of a descriptor. -/
def descDie (d : Nat) : Nat := bits d 104 102
/-- DUE of a descriptor. -/
def descDue (d : Nat) : Nat := bits d 127 106

/-- A DUE made a Lay time: the instant nearest now (R194). -/
def State.expandDue (s : State) (due : Nat) : Int :=
  let now := s.layNow / (1000 * layNs)
  ((now : Int) + toSigned 22 (due + 4194304 - now % 4194304)) * (1000 * layNs)

/-- A descriptor but for OWN: two of them name one segment. -/
def sameSeg (a b : Nat) : Bool := a / 2 = b / 2

/-- Is a descriptor faulty (R194)? One that names a segment in a pool that was laid out again is (R355). -/
def State.badDesc (s : State) (d : Nat) : Bool :=
  let n := descLen d
  n = 0 || 15990784 < n || (n % 244 ≠ 0 && !(descLast d)) || 65536 < descFirst d + ceilDiv n 244 || !(s.alive (descDie d)) || !(s.comp.segs.any fun g => sameSeg g.desc d)

/-- The die on which a destination's packer works (R230). -/
def State.packDie (s : State) (node : Nat) : Nat := if s.node = some node then 0 else s.at_ Ob.dest_port node / 16

/-! Launch rings in the DRAM of die 0 (R192, R193) -/

/-- A launch ring. -/
def State.ring (s : State) (r : Nat) : RingSt := smGet {} s.launch.rings r

/-- A launch ring changed. -/
def State.setRing (s : State) (r : Nat) (f : RingSt → RingSt) : State :=
  { s with launch := { s.launch with rings := smPut {} s.launch.rings r (f (s.ring r)) } }

/-- D, the descriptors of a ring. -/
def State.ringDepth (s : State) : Nat := 2 ^ s.pw Ob.ring_depth_log

/-- The DRAM address of a slot of a ring on die 0 (R192). -/
def State.slotAddr (s : State) (r slot : Nat) : Nat := s.at_ Ob.dest_ring_base (r / 1024) + (r % 1024) * s.ringDepth * 16 + slot % s.ringDepth * 16

/-- The 16 bytes of a slot, as a number. -/
def State.slotDesc (s : State) (r slot : Nat) : Nat := ofLe (s.dramRead 0 (s.slotAddr r slot) 16)

/-- A slot written. -/
def State.putSlot (s : State) (r slot d : Nat) : State :=
  s.dramPut 0 (s.slotAddr r slot) (leBytes 16 d)

/-- The head descriptor of a ring, where one is posted. -/
def State.ringHead (s : State) (r : Nat) : Option Nat := let d := s.slotDesc r (s.ring r).head; if bit d 0 then some d else none

/-- The descriptors posted in a ring, oldest first. -/
def State.ringPosted (s : State) (r : Nat) : List Nat :=
  ((List.range s.ringDepth).map fun i => s.slotDesc r ((s.ring r).head + i)).takeWhile fun d => bit d 0

/-! The segment pool (R230) -/

/-- Where a die's segment pool begins, and its size, in bytes (R353). -/
def State.poolSpan (s : State) (die : Nat) : Nat × Nat := match s.sramSizes die with
  | [a, b, c] => ((1536 + a + b) * 1024, c * 1024)
  | _ => (0, 0)

/-- The spans of a die's pool that segments hold: first byte and the byte after. -/
def State.poolHeld (s : State) (die : Nat) : List (Nat × Nat) :=
  (s.comp.segs.filter fun g => descDie g.desc = die).map fun g => (32 * descWord g.desc, 32 * descWord g.desc + 32 * ceilDiv (descLen g.desc) 32)

/-- The lowest place in a die's pool for a segment of `n` bytes, where there is one (log entry 134). -/
def State.poolPlace (s : State) (die n : Nat) : Option Nat :=
  let p := s.poolSpan die
  let held := s.poolHeld die
  let len := 32 * ceilDiv n 32
  let free (a : Nat) : Bool := decide (a + len ≤ p.1 + p.2) && held.all fun h => decide (a + len ≤ h.1) || decide (h.2 ≤ a)
  let fit := (p.1 :: held.map (·.2)).filter free
  if fit.isEmpty then none else some (minOr 0 fit)

/-- A segment gone from its pool. -/
def State.dropSeg (s : State) (d : Nat) : State := { s with comp := { s.comp with segs := s.comp.segs.filter fun g => !(sameSeg g.desc d) } }

/-- Bytes of a segment, read from the pool. -/
def State.segBytes (s : State) (d off n : Nat) : List Byte := smRun 0 (s.memOf (descDie d)).sram (32 * descWord d + off) n

/-! The packer (R230, R231) -/

/-- The splice descriptor of a destination, as a view-frame uses it. -/
def State.destSplice (s : State) (w : Work) (node : Nat) : Splice := ({ s with objs := w.objs } : State).spliceIn (atIndex Ob.dest_splice node)

/-- The packing of a view-frame for a destination. -/
def State.packOf (s : State) (node : Nat) (t : Int) : PackSt := (s.comp.packs.find? fun p => p.node = node && p.at_ = t).getD { node := node, at_ := t }

/-- A packing changed or begun; the last 64 are kept. -/
def State.putPack (s : State) (p : PackSt) : State :=
  let l := s.comp.packs.filter fun a => !(a.node = p.node && a.at_ = p.at_)
  { s with comp := { s.comp with packs := (l ++ [p]).drop (l.length + 1 - 8192) } }

/-- The exports of a node and region that a view-frame has not sent (R229). -/
def State.dueExports (s : State) (w : Work) (node band : Nat) : List Nat :=
  let t : State := { s with objs := w.objs }
  (List.range 32).filter fun e => t.at_ Ob.cx_enable e = 1 && t.at_ Ob.cx_node e = node && t.at_ Ob.cx_region e = band && bit (t.at_ Ob.cx_views e) w.view &&
    !(s.comp.exported.contains (e, w.at_))

/-- The pixels of an export, in order. -/
def State.exportPixels (s : State) (w : Work) (e : Nat) : List (Nat × Nat) :=
  let r := rectOf (({ s with objs := w.objs } : State).at_ Ob.cx_rect e)
  (List.range (r.w * r.h)).map fun i => (r.x + i % max 1 r.w, r.y + i / max 1 r.w)

/-- An export's CANVAS cells sent, once its pixels are composed (R229). -/
def State.sendExport (s : State) (w : Work) (e : Nat) : State :=
  let t : State := { s with objs := w.objs }
  let px := s.exportPixels w e
  if !(px.all fun p => s.composedAt w p.1 p.2) then s
  else
    let bs := s.encodePixels w (t.at_ Ob.cx_format e) px
    let n := ceilDiv bs.length 244
    let s1 := s.each (List.range n) fun o s =>
      s.sendOwn (mkCell 3 2 (t.at_ Ob.cx_node e) (pixelSpec (t.at_ Ob.cx_region e) w.view o w.frame (o + 1 = n)) ((bs.drop (244 * o)).take 244))
    { s1 with comp := { s1.comp with exported := ((e, w.at_) :: s1.comp.exported).take 256 } }

/-- Are the pixels that a run of a band's bytes holds composed (R230)? -/
def State.bandReady (s : State) (w : Work) (d : Splice) (band from_ n : Nat) : Bool :=
  let per := if d.format = 0 then 48 else 30
  let a := from_ * 8 / per
  let z := ceilDiv ((from_ + n) * 8) per
  (List.range (min z (bandPixels d band) - a)).all fun i => let p := bandPixelAt d band (a + i); s.composedAt w (d.rect.x + p.1) (d.rect.y + p.2)

/-- A destination's packer waits for room in its pool, or no longer does: composition of its stripes waits with it (R230). -/
def State.stall (s : State) (node : Nat) (on : Bool) : State :=
  let l := s.comp.stalled.filter (· ≠ node)
  { s with comp := { s.comp with stalled := if on then node :: l else l } }

/-- Are the bands above a band packed, so that the lines of a view-frame leave top to bottom (R30)? -/
def State.aboveDone (s : State) (w : Work) (node band : Nat) : Bool :=
  let p := s.packOf node w.at_
  (List.range band).all fun b => decide (bandBytes (s.destSplice w node) b ≤ smGet 0 p.done b)

/-- The next segment of a band written into the pool, band after band, once its lines are composed (R30, R230, R231); with the pool full the packer waits, SEG_POOL_FULL. -/
def State.writeSegment (s : State) (w : Work) (node band : Nat) : State :=
  let t : State := { s with objs := w.objs }
  let d := s.destSplice w node
  let p := s.packOf node w.at_
  let done := smGet 0 p.done band
  let total := bandBytes d band
  let n := min (t.pw Ob.compose_seg_cells * 244) (total - done)
  let die := s.packDie node
  let last := done + n = total
  if !(spliceUsable d) || t.at_ Ob.dest_bands node ≤ band || spliceBands d ≤ band || total ≤ done || !(s.aboveDone w node band) || !(s.bandReady w d band done n) then s
  else match s.poolPlace die n with
  | none => (s.raise die Ob.compose_flags 4).stall node true
  | some a =>
    let bs := ((s.bandStream w d band).drop done).take n
    let seg : SegSt := { ring := node * 1024 + band, desc := ringDesc last w.view w.frame (done / 244) n (a / 32) die w.at_ }
    let fresh := !(s.launch.gather.any fun c => c.node = node && c.at_ = w.at_) && !(s.comp.packs.any fun a => a.node = node && a.at_ = w.at_)
    let c : CheckSt := { node := node, at_ := w.at_, frame := w.frame, view := w.view, crc := s.regionCrc w d, cells := regionCells d, left := List.range (spliceBands d) }
    let s1 := (s.stall node false).putPack { p with done := smPut 0 p.done band (done + n), cells := p.cells + ceilDiv n 244, full := if last then band :: p.full else p.full }
    let s2 : State := { s1 with comp := { s1.comp with segs := s1.comp.segs ++ [seg] } }.setMem die fun m => { m with sram := smPutAll 0 m.sram a bs }
    if fresh then { s2 with launch := { s2.launch with gather := s2.launch.gather ++ [c] } } else s2

/-- SEGMENT_WRITE: a segment of a destination's band, or an export, of a view-frame under composition. -/
def State.segmentWrite (s : State) (node band frame view : Nat) : State :=
  match s.comp.works.find? fun w => w.frame = frame && w.view = view with
  | none => s
  | some w =>
    let s1 := s.each (s.dueExports w node band) fun e s => s.sendExport w e
    if ({ s with objs := w.objs } : State).at_ Ob.dest_enable node = 1 then s1.writeSegment w node band else s1

/-- The CHECK cell of a region (Table 5.4). -/
def checkCell (c : CheckSt) : Cell :=
  mkCell 3 1 c.node (checkSpec c.view c.frame) (leBytes 4 c.crc ++ leBytes 4 c.cells ++ layBytes c.at_.toNat ++ leBytes 4 c.frame)

/-- The REGION_CRC of a CHECK cell that goes out is kept (R231). -/
def State.noteCheck (s : State) (c : Cell) : State :=
  (s.set (atIndex Ob.dest_last_crc c.node) (leAt c.payload 0 4)).set (atIndex Ob.dest_last_frame c.node) (leAt c.payload 20 4)

/-- The path by which the cells of the part's own region go to lamp correction: Braid, no port (R25; log entry 135). -/
abbrev ownPath : Nat := 0xFF

/-- The path that drains the rings of a destination: its dest_port, or Braid for the part's own region (R25, R192). -/
def State.ringPath (s : State) (node : Nat) : Nat := if s.node = some node then ownPath else s.at_ Ob.dest_port node

/-- The die whose ring engine serves a path. -/
def pathDie (p : Nat) : Nat := if p = ownPath then 0 else p / 16

/-- A band's LAST has gone: once every band's has, the CHECK cell waits on the path (R196). -/
def State.bandGone (s : State) (node band view frame16 path : Nat) : State :=
  match s.launch.gather.find? fun c => c.node = node && c.view = view && c.frame % 65536 = frame16 && c.left.contains band with
  | none => s
  | some c =>
    let c1 := { c with left := c.left.filter (· ≠ band) }
    let rest := s.launch.gather.filter fun a => !(a.node = c.node && a.at_ = c.at_)
    if c1.left.isEmpty then
      { s with launch := { s.launch with gather := rest, checks := smPut [] s.launch.checks path (smGet [] s.launch.checks path ++ [(node, checkCell c1)]) } }
    else { s with launch := { s.launch with gather := rest ++ [c1] } }

/-! Posting and the head-of-ring cache (R193, R195) -/

/-- Does a ring hold a place in a die's cache, or wait for one? -/
def State.ringKnown (s : State) (die r : Nat) : Bool := (smGet [] s.launch.cache die).contains r || (smGet [] s.launch.ready die).contains r

/-- A wait of a ring for the cache counted, once. -/
def State.noteWait (s : State) (die r : Nat) : State := if (s.ring r).waited then s else (s.bump die Ob.ring_cache_waits).setRing r fun t => { t with waited := true }

/-- A ring with a posted descriptor joins the ready queue of its die; with 8,192 ready it waits, and the wait is counted (R195). -/
def State.joinReady (s : State) (die r : Nat) : State :=
  if s.ringKnown die r then s
  else
    let full := decide (8192 ≤ (smGet [] s.launch.cache die).length + (smGet [] s.launch.ready die).length)
    let s1 := { s with launch := { s.launch with ready := smPut [] s.launch.ready die (smGet [] s.launch.ready die ++ [r]) } }
    if full then s1.noteWait die r else s1

/-- Is a segment of a destination and view-frame that was written earlier still to be posted: the bands are posted top to bottom (R30)? -/
def State.postedBefore (s : State) (g : SegSt) : Bool :=
  (s.comp.segs.takeWhile fun a => !(sameSeg a.desc g.desc)).any fun a => !a.posted && a.ring / 1024 = g.ring / 1024 && descDue a.desc = descDue g.desc

/-- DESCRIPTOR_POST (R193, R195, R230): a complete segment's descriptor is posted where its ring has room, after those written before it; the ring joins the die's ready queue. -/
def State.descriptorPost (s : State) (node band : Nat) : State :=
  let r := node * 1024 + band
  match s.comp.segs.find? fun g => g.ring = r && !g.posted with
  | none => s
  | some g =>
    let t := s.ring r
    if bit (s.slotDesc r t.tail) 0 || s.postedBefore g then s
    else
      let s1 : State := { s with comp := { s.comp with segs := s.comp.segs.map fun a => if sameSeg a.desc g.desc then { a with posted := true } else a } }
      ((s1.putSlot r t.tail g.desc).setRing r fun t => { t with tail := (t.tail + 1) % s.ringDepth }).joinReady (s.packDie node) r

/-- RING_CACHE_LOAD (R195): the next ready ring is loaded when one of the 8,192 entries is free. -/
def State.cacheLoad (s : State) (die : Nat) : State :=
  match smGet [] s.launch.ready die with
  | [] => s
  | r :: rest =>
    if 8192 ≤ (smGet [] s.launch.cache die).length then s.noteWait die r
    else { s with launch := { s.launch with ready := smPut [] s.launch.ready die rest, cache := smPut [] s.launch.cache die (smGet [] s.launch.cache die ++ [r]) } }.setRing r fun t => { t with waited := false }

/-- A ring advanced past its head: OWN is written 0, the segment leaves the pool, and an empty ring leaves the cache (R193, R196). -/
def State.advanceRing (s : State) (die r : Nat) : State :=
  let t := s.ring r
  let d := s.slotDesc r t.head
  let s1 := ((s.putSlot r t.head (d / 2 * 2)).dropSeg d).setRing r fun t => { t with head := (t.head + 1) % s.ringDepth, sent := 0 }
  if (s1.ringHead r).isSome then s1 else { s1 with launch := { s1.launch with cache := smPut [] s1.launch.cache die ((smGet [] s1.launch.cache die).filter (· ≠ r)) } }

/-- The lead with which a descriptor's view-frame is sent (R189). -/
def State.descLead (s : State) (d : Nat) : Nat :=
  let due := s.expandDue (descDue d)
  match (s.vfsAround due 1 1).find? fun v => v.view = descView d && decide (due ≤ v.at_) && decide (v.at_ < due + 1000 * layNs) with
  | some v => (s.asOf v.at_).lead
  | none => s.lead

/-- The cached rings of a path whose head is posted and past its send start (R196). -/
def State.ringReady (s : State) (p : Nat) : List (Nat × Int) :=
  (smGet [] s.launch.cache (pathDie p)).filterMap fun r =>
    match s.ringHead r with
    | some d =>
      if s.ringPath (r / 1024) = p && s.at_ Ob.dest_enable (r / 1024) = 1 && s.reached (s.expandDue (descDue d) - s.descLead d) then some (r, s.expandDue (descDue d)) else none
    | none => none

/-- The rings moved where a commit has changed their place, their depth or their path (R192): every old slot is emptied, then the descriptors posted keep their order, from slot 0 on; those that a shorter ring has no room for wait to be posted again (log entry 136). -/
def State.moveRings (s old : State) : State :=
  let moved (n : Nat) : Bool := s.ringDepth ≠ old.ringDepth || s.at_ Ob.dest_ring_base n ≠ old.at_ Ob.dest_ring_base n || s.packDie n ≠ old.packDie n
  let rs := (s.launch.rings.map (·.1)).filter fun r => moved (r / 1024)
  let s1 := s.each rs fun r s =>
    let l := old.ringPosted r
    s.each (List.range l.length) fun i s => s.dramPut 0 (old.slotAddr r ((old.ring r).head + i)) (leBytes 16 (l.getD i 0 / 2 * 2))
  s1.each rs fun r s =>
    let l := old.ringPosted r
    let kept := l.take s.ringDepth
    let s2 := (s.each kept.zipIdx fun e s => s.putSlot r e.2 e.1).setRing r fun t => { t with head := 0, tail := kept.length % s.ringDepth }
    let out := l.drop s.ringDepth
    let s3 : State := { s2 with comp := { s2.comp with segs := s2.comp.segs.map fun g => if out.any (sameSeg g.desc) then { g with posted := false } else g } }
    let s4 := s3.each s3.dieList fun d s => { s with launch := { s.launch with cache := smPut [] s.launch.cache d ((smGet [] s.launch.cache d).filter (· ≠ r)), ready := smPut [] s.launch.ready d ((smGet [] s.launch.ready d).filter (· ≠ r)) } }
    if l.isEmpty then s4 else s4.joinReady (s4.packDie (r / 1024)) r

/-! The ring engines (R196) -/

/-- A cell of the ring engine handed to a port's transmitter. -/
def State.release (s : State) (p : Nat) (c : Cell) : State := s.setPort p fun t => { t with ready := t.ready ++ [c] }

/-- May a class-3 cell begin on a port: nothing is being sent, and no cell of class 3 or of a higher priority waits to (R156, R196)? -/
def State.pixelsFree (s : State) (p : Nat) : Bool :=
  let t := s.port p
  t.stack.isEmpty && t.ready.isEmpty && t.lays.isEmpty && !(t.fwd.any fun c => c.cls ≤ 3) && !(t.own.any fun c => c.cls ≤ 2)

/-- A cell leaves a ring engine: to its port's transmitter, or over Braid to the splice receive buffer (R25). -/
def State.ringOut (s : State) (p : Nat) (c : Cell) : State :=
  if p = ownPath then (if c.kind = 1 then s.tileCheck c.spec c.payload true else s.tilePixel c.spec c.payload true) else s.release p c

/-- The next cell of a ring's head segment sent (R196). -/
def State.sendRing (s : State) (p r d : Nat) (due : Int) : State :=
  let sent := (s.ring r).sent
  let done := descLen d ≤ sent + 244
  let node := r / 1024
  let cell := mkCell 3 0 node (pixelSpec (r % 1024) (descView d) (descFirst d + sent / 244) (descFrame d) (descLast d && done)) (s.segBytes d sent (min 244 (descLen d - sent)))
  let s1 := (s.ringOut p cell).setRing r fun t => { t with sent := t.sent + 244 }
  let s2 := { s1 with launch := { s1.launch with last := smPut 0 s1.launch.last p (r + 1) } }
  let s3 := s2.when (due < s.layNow) fun s => (s.bump (pathDie p) Ob.late_sends).launchFlag (pathDie p) 3
  if done then
    let s4 := s3.advanceRing (pathDie p) r
    if descLast d then s4.bandGone node (r % 1024) (descView d) (descFrame d) p else s4
  else s3

/-- May a path take a class-3 cell now? -/
def State.pathFree (s : State) (p : Nat) : Bool :=
  s.isHead && (if p = ownPath then s.isTile else s.inService p && s.feeds p && s.role p ≠ 2 && s.pixelsFree p)

/-- RING_PICK (R194, R196): CHECK cells first; then the rings due first, in rotation; a faulty descriptor is skipped and counted. -/
def State.ringPick (s : State) (p : Nat) : State :=
  if !(s.pathFree p) then s
  else
    match smGet [] s.launch.checks p with
    | (_, c) :: rest => (({ s with launch := { s.launch with checks := smPut [] s.launch.checks p rest } }).ringOut p c).noteCheck c
    | [] =>
      match s.ringReady p with
      | [] => s
      | a :: t =>
        let first := t.foldl (fun m e => min m e.2) a.2
        let rs := ((a :: t).filter fun e => e.2 = first).map (·.1)
        let last := smGet 0 s.launch.last p
        let after := rs.filter fun r => last ≤ r
        let r := minOr 0 (if after.isEmpty then rs else after)
        let d := (s.ringHead r).getD 0
        if s.badDesc d then (s.advanceRing (pathDie p) r).bump (pathDie p) Ob.ring_bad_desc else s.sendRing p r d first

end Sys2Proof.Machine
end

