-- ==== Sys2Proof/Machine/Redund.lean ====
section
/-! DEFINITION. Redundancy (chapter 14): the loss of a die, the supervisor's failover and rejoin, ring heads, heartbeats, checkpoints and declarations. -/

namespace Sys2Proof.Machine

/-! JOURNAL cells (Table 14.4) and ring heads -/

/-- The payload of a JOURNAL cell. -/
def State.ringBytes (s : State) (msg id epoch seq at_ : Nat) (data : List Byte) : List Byte :=
  leBytes 1 msg ++ leBytes 1 (s.pw Ob.red_head_state) ++ leBytes 2 (s.pw Ob.node_id) ++ leBytes 4 id ++ leBytes 4 epoch ++ leBytes 4 seq ++ layBytes at_ ++
  leBytes 2 data.length ++ leBytes 2 0 ++ data

/-- A JOURNAL cell toward the peer head. -/
def State.sendPeer (s : State) (msg id epoch seq at_ : Nat) (data : List Byte) : State :=
  s.sendOwn (mkCell 4 0 (s.pw Ob.red_peer_node) 0 (s.ringBytes msg id epoch seq at_ data))

/-- A ring head: a head whose red_ring_port names a port. -/
def State.isRing (s : State) : Bool := s.isHead && s.pw Ob.red_ring_port ≠ 0xFF

/-- A head enters ACTIVE: red_active_since is now, and it walks its ring port. -/
def State.enterActive (s : State) : State :=
  ((s.set Ob.red_head_state 1).set Ob.red_active_since s.layNow).queueWalks [s.pw Ob.red_ring_port]

/-- HEAD_HEARTBEAT_SEND (R410): every 5 ms; in ACTIVE, SENT_AT is red_active_since. PEER_SILENT sets where the peer has been heard and then not for red_hb_loss_ms. -/
def State.heartbeatSend (s : State) : State :=
  if !s.isRing || !(s.due s.red.sentAt 5000000) then s
  else
    let quiet := match s.red.heardAt with
      | some t => s.past t (s.pw Ob.red_hb_loss_ms * 1000000)
      | none => false
    let s0 := s.when (quiet && !s.red.silent) fun s => s.raise 0 Ob.red_flags 9
    let s1 := { s0 with red := { s0.red with sent := (s0.red.sent + 1) % 4294967296, sentAt := some s.now, silent := quiet } }
    s1.sendPeer 1 0 (s.pw Ob.commit_epoch) s1.red.sent (if s.pw Ob.red_head_state = 1 then s.pw Ob.red_active_since else s.layNow) []

/-- Is a JOURNAL cell from the peer head, for this ring head? -/
def State.fromPeer (s : State) (c : Cell) : Bool :=
  s.isRing && s.node = some c.node && leAt c.payload 2 2 = s.pw Ob.red_peer_node

/-- Since when the checkpoint held is behind the peer (R411). -/
def State.judgeStale (s : State) : State :=
  let behind := s.pw Ob.red_head_state = 2 && s.pw Ob.red_ckpt_epoch < s.red.peerEpoch
  { s with red := { s.red with staleAt := if behind then some (s.red.staleAt.getD s.now) else none } }

/-- CKPT_STALE (R411): behind the peer for more than 2 s. -/
def State.ckptStale (s : State) : State := match s.red.staleAt with
  | some t => if s.past t 2000000001 then s.raise 0 Ob.red_flags 8 else s
  | none => s

/-! Checkpoints (R411) -/

/-- The size of a BLOB at run time: a surface by its width and height, a capture by its arming, else its table's size. -/
def State.blobSize (s : State) (key : Nat) : Nat :=
  let k := key / 256 % 65536
  if 0x4300 ≤ k && k < 0x4320 && key % 256 = 5 then 4 * s.st 0 (atIndex Ob.gs_width (k - 0x4300)) * s.st 0 (atIndex Ob.gs_height (k - 0x4300))
  else if 0x5300 ≤ k && k < 0x5340 && key % 256 = 13 then smGet 0 s.cam.size (k - 0x5300)
  else match objDef key with
    | some d => d.size
    | none => 0

/-- The keys of the objects that a checkpoint holds: 0x3400-0x37FF and 0x4000-0x4FFF, those that can be written. -/
def ckptKeys : List Nat :=
  (dictView.filter fun d => decide (0x3400 ≤ d.lo) && (decide (d.hi ≤ 0x37FF) || decide (0x4000 ≤ d.lo)) && d.acc ≠ .ro && d.acc ≠ .wo && d.acc ≠ .w1c && !d.perDie).flatMap fun d =>
    (List.range (d.hi + 1 - d.lo)).flatMap fun i => (List.range (d.shi + 1 - d.slo)).map fun j => (d.lo + i) * 256 + d.slo + j

/-- An entry of the checkpoint stream: INDEX, SUB, TYPE, SIZE, value. -/
def State.ckptEntry (s : State) (key : Nat) : List Byte :=
  let ty := objTy key
  let bytes := if ty = .blob then s.blobBytes 0 key 0 (s.blobSize key) else encodeVal ty (s.int 0 key)
  leBytes 2 (key / 256) ++ leBytes 1 (key % 256) ++ leBytes 1 ty.code ++ leBytes 4 bytes.length ++ bytes

/-- A byte stream cut into pieces. -/
def pieces (n : Nat) (bs : List Byte) : List (List Byte) := (List.range (ceilDiv bs.length (max 1 n))).map fun i => (bs.drop (i * n)).take n

/-- An active ring head sends a checkpoint of the values of a state: CKPT_SEG cells of up to 212 bytes, then CKPT_END. -/
def State.sendCkpt (s : State) (vals : State) (id epoch : Nat) : State :=
  if !s.isRing || !(s.pw Ob.red_head_state = 1 || s.pw Ob.red_head_state = 3) then s
  else
    let segs := pieces 212 (ckptKeys.flatMap vals.ckptEntry)
    (s.each segs.zipIdx fun e s => s.sendPeer 2 id epoch e.2 s.layNow e.1).sendPeer 3 id epoch segs.length s.layNow []

/-- When the ring port of a joining head came into service. -/
def State.joinedAt (s : State) : Option Nat :=
  let p := s.pw Ob.red_ring_port
  if s.isRing && s.pw Ob.red_head_state = 4 && s.inService p then some (s.port p).sinceAt else none

/-- HEARTBEAT (R217, R408, R409): an ACTIVE head that hears its peer ACTIVE yields where its red_active_since is later, or equal with the higher node; a head
that has joined for 1 s and hears its peer serve enters STANDBY; one whose peer has entered STANDBY sends it a full
checkpoint. -/
def State.heartbeatIn (s : State) (c : Cell) : State :=
  if !s.fromPeer c then s
  else
    let st := leAt c.payload 1 1
    let at_ := layAt c.payload 16
    let s1 := ({ s with red := { s.red with heardAt := some s.now, peer := st, peerSince := at_, peerEpoch := leAt c.payload 8 4 } } : State).judgeStale
    let mine := s.pw Ob.red_active_since
    if (match s1.joinedAt with
      | some t => s1.past t 1000000000
      | none => false) && (st = 1 || st = 3) then s1.set Ob.red_head_state 2
    else if s.pw Ob.red_head_state = 1 && st = 1 && (at_ < mine || (mine = at_ && s.pw Ob.red_peer_node < s.pw Ob.node_id)) then s1.set Ob.red_head_state 2
    else if st = 2 && (s.red.peer ≠ 2 || s.red.heardAt.isNone) then s1.sendCkpt s1 0 (s1.pw Ob.commit_epoch)
    else s1

/-- The values of a checkpoint stream, by key; `fuel` bounds its entries. -/
def ckptParse (bs : List Byte) : Nat → SMap Value → SMap Value
  | 0, m => m
  | n + 1, m =>
    if bs.length < 8 then m
    else
      let key := leAt bs 0 2 * 256 + leAt bs 2 1
      let size := leAt bs 4 4
      let body := (bs.drop 8).take size
      let v : Value := if objTy key = .blob then .blob true (smPutAll 0 [] 0 body)
        else let i := decodeVal (objTy key) body; if i = objDflt key then .dflt else .num i
      ckptParse (bs.drop (8 + size)) n (smPut .dflt m key v)

/-- A checkpoint stream without its surface data, which the journal does not keep (R217); `fuel` bounds its entries. -/
def ckptJournalled : Nat → List Byte → List Byte
  | 0, bs => bs
  | n + 1, bs =>
    if bs.length < 8 then []
    else
      let key := leAt bs 0 2 * 256 + leAt bs 2 1
      let size := 8 + leAt bs 4 4
      (if inKeys key 0x4300 0x431F 5 5 then [] else bs.take size) ++ ckptJournalled n (bs.drop size)

/-- The values of a checkpoint whose indices lie in a span, in force. -/
def State.ckptForce (s : State) (bs : List Byte) (lo hi : Nat) : State :=
  let m := (ckptParse bs bs.length []).filter fun e => decide (lo ≤ e.1 / 256) && decide (e.1 / 256 ≤ hi)
  let keys := ckptKeys.filter fun k => decide (lo ≤ k / 256) && decide (k / 256 ≤ hi)
  s.each keys fun k s => { s with objs := smPut .dflt s.objs k (smGet .dflt m k) }

/-- A checkpoint becomes the one held: its sources come into force at once, and red_ckpt_epoch is its epoch. -/
def State.ckptTake (s : State) (k : Nat × Nat × List Byte) : State :=
  (((({ s with red := { s.red with ckpt := some k } } : State).ckptForce k.2.2 0x4400 0x443F).set Ob.red_ckpt_epoch k.2.1).judgeStale)

/-- CKPT_SEG: a standby stores a segment. -/
def State.ckptSeg (s : State) (c : Cell) : State :=
  if !s.fromPeer c || s.pw Ob.red_head_state ≠ 2 then s
  else
    let n := leAt c.payload 12 4
    let data := (c.payload.drop 32).take (min 212 (leAt c.payload 28 2))
    { s with red := { s.red with segs := smPut [] (if n = 0 then [] else s.red.segs) n data } }

/-- CKPT_END: a whole checkpoint is stored and acknowledged; one tagged with a COMMIT_ID waits for its own commit. -/
def State.ckptEnd (s : State) (c : Cell) : State :=
  if !s.fromPeer c || s.pw Ob.red_head_state ≠ 2 then s
  else
    let n := leAt c.payload 12 4
    let id := leAt c.payload 4 4
    let k := (id, leAt c.payload 8 4, (List.range n).flatMap fun i => smGet [] s.red.segs i)
    if (List.range n).any fun i => (smGet [] s.red.segs i).isEmpty then s
    else
      let s1 := { s with red := { s.red with segs := [] } }
      (if id = 0 then s1.ckptTake k else { s1 with red := { s1.red with tagged := some k } }).sendPeer 4 id k.2.1 n s.layNow []

/-- CKPT_ACK: the active head has its standby's acknowledgement. -/
def State.ckptAck (s : State) (c : Cell) : State :=
  if s.fromPeer c then { s with red := { s.red with acked := some (leAt c.payload 4 4, leAt c.payload 8 4) } } else s

/-- The standby's own commit of a tagged checkpoint is applied (promoted) or aborted (discarded). -/
def State.ckptSettle (s : State) (id : Nat) (applied : Bool) : State := match s.red.tagged with
  | some k =>
    if k.1 ≠ id then s
    else
      let s1 := { s with red := { s.red with tagged := none } }
      if applied && s.pw Ob.red_head_state = 2 then s1.ckptTake k else s1
  | none => s

/-! Declaring failover (R412-R414) -/

/-- A declaration at a standby: ACTIVE where the peer is silent for red_hb_loss_ms, else SPLIT; the checkpoint in force, the destinations by the ring port, a walk of it. -/
def State.declare (s : State) : State :=
  if !s.isRing || s.pw Ob.red_head_state ≠ 2 then s
  else
    let silent := match s.red.heardAt with
      | some t => s.past t (s.pw Ob.red_hb_loss_ms * 1000000)
      | none => true
    let s1 := (s.set Ob.red_head_state (if silent then 1 else 3)).raise 0 Ob.red_flags (if silent then 5 else 6)
    let s2 := (s1.bump 0 Ob.red_takeovers).when silent fun s => s.set Ob.red_active_since s.layNow
    let s3 := match s2.red.ckpt with
      | some k => (s2.ckptForce k.2.2 0x3400 0x37FF).ckptForce k.2.2 0x4000 0x4FFF
      | none => s2
    let s4 := s3.each ((List.range 1024).filter fun n => s3.at_ Ob.dest_enable n = 1) fun n s => s.set (atIndex Ob.dest_port n) (s.pw Ob.red_ring_port)
    ({ s4 with red := { s4.red with waits := true } } : State).queueWalks [s.pw Ob.red_ring_port]

/-- SELF_DECLARE: a standby with red_self_ms above 0 that has heard no heartbeat for it. -/
def State.selfDeclare (s : State) : State :=
  let ms := s.pw Ob.red_self_ms
  let quiet := match s.red.heardAt with
    | some t => s.past t (ms * 1000000)
    | none => s.past s.boot.releaseAt (ms * 1000000)
  if ms ≠ 0 && quiet then s.declare else s

/-- HANDOVER: a standby acts as on a declaration. -/
def State.handoverIn (s : State) (c : Cell) : State := if s.fromPeer c then s.declare else s

/-- Has the peer been heard ACTIVE or SPLIT? -/
def State.peerServes (s : State) : Bool := s.red.heardAt.isSome && (s.red.peer = 1 || s.red.peer = 3)

/-- JOINING_END (R408): after 1 s a joining head whose peer serves enters STANDBY; else one with red_primary 1 enters ACTIVE. -/
def State.joiningEnd (s : State) : State := match s.joinedAt with
  | some t =>
    if !(s.past t 1000000000) then s
    else if s.peerServes then s.set Ob.red_head_state 2
    else if s.on 0 Ob.red_primary then s.enterActive
    else s
  | none => s

/-- JOIN_NO_PEER_TIMEOUT (R408): 2 s later a head with red_primary 0 that has heard no serving peer enters ACTIVE, another STANDBY. -/
def State.joinTimeout (s : State) : State := match s.joinedAt with
  | some t => if s.past t 3000000000 then (if s.peerServes then s.set Ob.red_head_state 2 else s.enterActive) else s
  | none => s

/-! The arbiter tile (R412) -/

/-- The declaration that an arbiter sends: a WRITE of 1 to red_declare of the standby, in one session; its SESSION and SEQ are free values. -/
def State.sendDeclare (s : State) : State :=
  let m : Msg := { via := .udp 0 0 0, seq := s.red.arbSeq, session := Config.arbiterSession % 65535 + 1, target := 0xF400, index := 0x1324, sub := 0, ty := 1, len := 1, payload := [1], crc := 0 }
  ({ s with red := { s.red with arbAt := some s.now } } : State).emit (.request (s.pw Ob.red_standby_addr) 2 { m with crc := msgCrc 2 m })

/-- Does the tile watch: red_arbiter 1 and enum_pos above 1? -/
def State.watches (s : State) : Bool := s.on 0 Ob.red_arbiter && !s.isHead && 1 < s.pw Ob.enum_pos

/-- An arbiter counts its own MISSING view-frames in a row (ARBITER_DECLARE); one that passes re-arms it. `missing` says the reason was MISSING, `passed` that the check passed. -/
def State.arbiterSees (s : State) (missing passed : Bool) : State :=
  if !s.watches then (if s.pw Ob.red_arb_state = 0 then s else s.set Ob.red_arb_state 0)
  else if passed then ({ s with red := { s.red with missing := 0, arbAt := none } } : State).set Ob.red_arb_state 1
  else if !missing then { s with red := { s.red with missing := 0 } }
  else
    let n := s.red.missing + 1
    let s1 := { s with red := { s.red with missing := n } }
    if s.pw Ob.red_arb_state = 2 then s1
    else if s.pw Ob.red_arb_missing ≤ n then
      ((({ s1.draw.2 with red := { s1.red with arbSeq := s1.draw.1 % 65536, arbOk := false } } : State).set Ob.red_arb_state 2).sendDeclare)
    else s1.set Ob.red_arb_state 1

/-- ARBITER_DECLARE_REPEAT: every 5 ms while declared, until the write is answered OK. -/
def State.declareRepeat (s : State) : State :=
  if s.pw Ob.red_arb_state = 2 && !s.red.arbOk && s.watches && s.due s.red.arbAt 5000000 then s.sendDeclare else s

/-- The standby's OK ends the repeats of a declaration (R412). -/
def State.declareAnswer (s : State) (op : Nat) (m : Msg) : State :=
  if op = 2 && m.key = Ob.red_declare && m.status = 0 && m.session = Config.arbiterSession % 65535 + 1 && m.seq = s.red.arbSeq then
    { s with red := { s.red with arbOk := true } }
  else s

/-! The loss of a die (R404, R405, R414, R457, R479) -/

/-- A lane of a die that stops: it drives nothing and leaves service, its equaliser values kept. -/
def State.stopLane (s : State) (die lane : Nat) : State :=
  if !(decide (die < s.dies) && decide (lane < s.laneCount)) then s
  else
    let k := Ob.lane_peer + lane
    let s1 := (s.put die k (clearBit (s.nat die k) 31)).setLane die lane fun l => { l with cands := [], retained := true, missed := 0, feLoop := false, annLeft := 0 }
    ((s1.setTx die lane 0).setRx die lane 0).refreshLane die lane

/-- All lanes of a die stop. -/
def State.stopLanes (s : State) (die : Nat) : State := (s.each (List.range 8) fun l s => s.stopLane die l).put die Ob.eth_link_state 0

/-- Does any die drive THERM_N: at THROTTLE, or shut down (R454)? -/
def State.thermOn (s : State) : Bool := s.pw Ob.therm_shut_dies ≠ 0 || s.aliveList.any fun d => s.nat d Ob.therm_level = 2

/-- THERM_N (active low) follows. -/
def State.driveTherm (s : State) (before : Bool) : State := if s.thermOn = before then s else s.emit (.pin .thermN (!s.thermOn))

/-- The chain groups of a die rest, or are high-impedance where it has switched itself off (R457), and its memories are lost. -/
def State.restDie (s : State) (die : Nat) : State :=
  let shut := s.on 0 Ob.therm_shut_dies die
  let s1 := s.each (List.range 4) fun g s => (s.putG die g Ob.rg_state 0).when shut (fun s => s.emit (.highZ die g)) |>.when (!shut) fun s => s.rest s die g
  let cam : CamSt := { s1.cam with
    streams := s1.cam.streams.filter fun e => e.1 / 4 ≠ die, queue := smPut [] s1.cam.queue die [], px := smPut 0 s1.cam.px die 0, lines := smPut 0 s1.cam.lines die 0 }
  { (s1.setTdie die fun _ => {}) with mem := smPut {} s1.mem die {}, xings := s1.xings.filter fun e => e.1 / 256 ≠ die, cam := cam }

/-- The arbiter die after the loss of a die: the lowest live die above 2 (R404). -/
def State.nextArbiter (s : State) (die : Nat) : State :=
  if s.pw Ob.red_arb_die ≠ die then s
  else (s.set Ob.red_arb_die ((((s.aliveList).find? fun d => decide (2 < d)).getD 0xFF : Nat) : Int)).raise 0 Ob.red_flags 4

/-- A head that serves a ring and loses a die that composes part of its region hands over (R414). -/
def State.headLoses (s : State) (die : Nat) : State :=
  if s.isRing && (s.pw Ob.red_head_state = 1 || s.pw Ob.red_head_state = 3) && 0 < (s.stripe die).w then
    (s.sendPeer 5 0 (s.pw Ob.commit_epoch) 0 s.layNow []).set Ob.red_head_state 2
  else s

/-- A die is gone: not in dies_alive, its firmware, lanes and groups stopped. -/
def State.dieDown (s : State) (die : Nat) : State :=
  if s.dies ≤ die || !(s.alive die) then s
  else
    let s1 := { s.set Ob.dies_alive (clearBit (s.pw Ob.dies_alive) die) with fw := clearBit s.fw die }
    let s2 := ((s1.stopLanes die).restDie die).nextArbiter die
    let s3 := s2.when (die ≤ 1 && die ≠ s2.sup) fun s => s.set Ob.red_sup_state (if s.sup = 1 then 1 else 3)
    (s3.headLoses die).driveTherm s.thermOn

/-- The acting supervisor sees the shutdown of another die (R459). -/
def State.seeShut (s : State) (die : Nat) : State :=
  if s.on 0 Ob.therm_shut_dies die && die ≠ s.sup && s.alive s.sup then s.raise s.sup Ob.therm_flags 4 die else s

/-! Supervisor failover (R402-R406) -/

/-- Is an object an rw object that is not persistent and is held by the part (R403)? -/
def lostRw (k : Nat) : Bool := match objDef (k % 16777216) with
  | some d => d.acc = .rw && !d.perDie
  | none => false

/-- Staged values that a failover keeps (R71, R403): those of the other dies, and of the part-wide ones those mirrored with a vote in favour. -/
def State.keptStaged (s : State) (die : Nat) : SMap Value :=
  let voted : SMap Value := if s.commit = cPreparing then [] else match s.corrix.mirror with
    | some m => m.staged
    | none => []
  s.staged.filter fun e => if objPerDie (e.1 % 16777216) then e.1 / 16777216 ≠ die else decide (smGet .dflt voted e.1 = e.2)

/-- Blob transfers start again at OFFSET 0 (Table 13.3, R403). -/
def State.dropTransfers (s : State) : State := { s with corrix := { s.corrix with blobs := [] } }

/-- What the supervisor that takes over finds: rw values lost, a commit judged by R71, captures freed, transfers at their start, an image in transfer cleared (R437). -/
def State.takeOver (s : State) (old : Nat) : State :=
  let s1 := { s with objs := s.objs.filter fun e => !(lostRw e.1) }
  let kept := s1.keptStaged old
  let s2 := (({ s1 with staged := kept } : State).raise 0 Ob.red_flags 2).when (kept.length < s1.staged.length) fun s => s.raise 0 Ob.red_flags 1
  let s3 := s2.when (s2.commit = cPreparing) fun s => (({ s with corrix := { s.corrix with vote := none } } : State).set Ob.commit_state cStaged).raise 0 Ob.commit_flags 1
  let s4 := s3.each slots fun k s => s.freeSlot k
  let s5 := s4.dropTransfers
  s5.when ((s5.upd.passed || !s5.upd.fills.isEmpty) && s5.pw Ob.upd_state ≠ 3) fun s => s.updClear

/-- SUP_FAILOVER (R405): the acting supervisor is held in reset and the standby acts. -/
def State.failover (s : State) : State :=
  let old := s.sup
  let new := 1 - old
  if 2 ≤ s.dies && s.alive new && s.fwOn new then
    let s1 := (s.dieDown old)
    let s2 := { s1 with boot := { s1.boot with heldDies := setBit s1.boot.heldDies old }, red := { s1.red with supAt := s1.now } }
    let s3 := (s2.set Ob.red_sup_die new).set Ob.red_sup_state (if new = 1 then 1 else 3)
    (((s3.takeOver old).keep 0 Ob.red_sup_failovers ((s.pw Ob.red_sup_failovers + 1 : Nat) : Int)).raise 0 Ob.red_flags 0).seeShut old
  else s

/-- SUP_HEARTBEAT (R404): the acting supervisor's heartbeat over Braid every 0.5 ms, while its firmware runs. -/
def State.supHeartbeat (s : State) : State := if s.fwOn s.sup && s.past s.red.supAt 500000 then { s with red := { s.red with supAt := s.now } } else s

/-- The READ of red_down_alive that the standby sends to the part its up port leads to, of the port that the neighbour's markers name (Table 4.2). -/
def State.askUpstream (s : State) (p : Nat) : State :=
  let w := s.nat (p / 16) (Ob.lane_peer + p % 16)
  let m := clientRead (bits w 9 0 + 4096 * bits w 12 10) 0x1340 (1 + bits w 15 13) 2 s.draw.1 s.draw.2.draw.1
  s.draw.2.draw.2.queueOwn p (corrixCell (bits w 9 0) s.nodeOr0 false false 1 m)

/-- SUP_HB_LOSS (R404): silence for red_sup_hb_ms, judged by the arbiter die, or on two-die parts by what the upstream part answers to a READ of red_down_alive, which is sent where no answer is there
yet. With the up port on the silent die there is no path to ask by. -/
def State.supHbLoss (s : State) (up : Option Nat) : State :=
  let ms := s.pw Ob.red_sup_hb_ms
  if !(s.past s.red.supAt (ms * 1000000)) then s
  else if s.big then (if s.pw Ob.red_arb_die ≠ 0xFF then s.failover else s)
  else match s.upPort with
    | none => s
    | some p =>
      if p / 16 = s.sup then s
      else match up with
        | some v => if ms ≤ v then s.failover else s.raise 0 Ob.red_flags 3
        | none => s.askUpstream p

/-- ARB_IN (R404): held high for 1 µs with red_arb_in_en 1. -/
def State.arbIn (s : State) (ns : Nat) : State := if s.on 0 Ob.red_arb_in_en && 1000 ≤ ns && !s.boot.held && s.sup = 0 then s.failover else s

end Sys2Proof.Machine
end

