-- ==== Sys2Proof/Machine/Therm.lean ====
section
/-! DEFINITION. Thermal management and analogue trims (chapter 16): conversions, broken sensors, levels, shutdown, trim converters and when their codes take effect. -/

namespace Sys2Proof.Machine

/-- Sensors and trims of a die. -/
def State.thermOf (s : State) (die : Nat) : ThermSt := smGet {} s.therm die

/-- Sensors and trims of a die changed. -/
def State.setTherm (s : State) (die : Nat) (f : ThermSt → ThermSt) : State := { s with therm := smPut {} s.therm die (f (s.thermOf die)) }

/-! Levels (R452-R455) -/

/-- The threshold of a level. -/
def State.threshold (s : State) (level : Nat) : Int := s.int 0 (if level = 1 then Ob.therm_warn_c else Ob.therm_throttle_c)

/-- The highest level whose threshold a temperature has reached. -/
def State.levelFor (s : State) (t : Int) : Nat := if s.threshold 2 ≤ t then 2 else if s.threshold 1 ≤ t then 1 else 0

/-- The level after a conversion. -/
def State.nextLevel (s : State) (cur : Nat) (t : Int) (allBroken : Bool) : Nat :=
  let up := s.levelFor t
  let n := if cur < up then up else if 0 < cur && t < s.threshold cur - s.nat 0 Ob.therm_hyst_c then cur - 1 else cur
  if allBroken then 2 else n

/-- The core PLL output divider of a die set for a level (R455): 750 MHz at THROTTLE, else 1.0 GHz. -/
def State.coreClock (s : State) (die n : Nat) : State := s.setClk die fun c => { c with core := if n = 2 then 3 else 4 }

/-- A die takes a level: rising into it sets its flag, its core clock follows (R455), and the time spent at THROTTLE is counted. -/
def State.takeLevel (s : State) (die n : Nat) : State :=
  let cur := s.nat die Ob.therm_level
  let s1 := (s.put die Ob.therm_level n).coreClock die n
  let s2 := if cur < n then s1.raise die Ob.therm_flags (n - 1) else s1
  if n = 2 && cur ≠ 2 then s2.setTherm die fun t => { t with from_ := some s.now }
  else if cur = 2 && n ≠ 2 then
    match (s2.thermOf die).from_ with
    | some t => (s2.bump die Ob.therm_throttle_ms ((s.now - t) / 1000000)).setTherm die fun t => { t with from_ := none }
    | none => s2
  else s2

/-! Conversions (R449-R451) -/

/-- The readings of the last 10 s, with the last one before them. -/
def recentReadings (now : Nat) : List (Nat × Int) → List (Nat × Int)
  | a :: b :: t => if b.1 + 10000000000 ≤ now then recentReadings now (b :: t) else a :: b :: t
  | l => l

/-- How far a sensor's readings span, where they reach back 10 s. -/
def State.spanOf (s : State) (die n : Nat) : Option Int :=
  let h := smGet [] (s.thermOf die).hist n
  match h, h.filter fun e => decide (s.now ≤ e.1 + 10000000000) with
  | (t, _) :: _, (_, v) :: rest => if t + 10000000000 ≤ s.now then some (rest.foldl (fun m e => max m e.2) v - rest.foldl (fun m e => min m e.2) v) else none
  | _, _ => none

/-- Is a sensor broken by its last reading (R450)? -/
def State.judgedBroken (s : State) (die n : Nat) (v : Int) : Bool :=
  decide (v < -880) || decide (2800 < v) ||
  (match s.spanOf die n with
   | some w => decide (w < 4) && (List.range 6).any fun k => k ≠ n && s.sensorOk die k && (match s.spanOf die k with
     | some x => decide (48 < x)
     | none => false)
   | none => false)

/-- T_die: the highest reading among the valid sensors that have converted; +105 °C with none valid (R451). -/
def State.dieTemp (s : State) (die : Nat) : Int :=
  let l := ((List.range 6).filter fun n => s.sensorOk die n && !((smGet [] (s.thermOf die).hist n).isEmpty)).map fun n => s.int die (Ob.therm_sensor_c + n)
  match l with
  | a :: t => t.foldl max a
  | [] => 1680

/-- Are all six sensors of a die broken? -/
def State.allBroken (s : State) (die : Nat) : Bool := (List.range 6).all fun n => !(s.sensorOk die n)

/-- Does a slot of a die begin now: slots of 125 µs in the order 0 to 7, from the first that ran (R449)? -/
def State.slotOpen (s : State) (die n : Nat) : Bool := match (s.thermOf die).slotAt with
  | some (k, t) => s.past t 125000 && (k + (s.now - t) / 125000) % 8 = n
  | none => true

/-- A conversion slot runs. -/
def State.slotRun (s : State) (die n : Nat) : State :=
  s.setTherm die fun t => { t with slotAt := some (n, match t.slotAt with
    | some (_, b) => b + (s.now - b) / 125000 * 125000
    | none => s.now) }

/-- SENSOR_CONVERSION (R449-R454, R281, R429), once per 1 ms for each sensor, in the sensor's slot: the reading, the broken judgement, T_die, the level, the comparator's count, the zones that sample the sensor, the journal's window. -/
def State.conversion (s : State) (die sensor : Nat) (v : Int) : State :=
  if !(s.alive die) || 6 ≤ sensor || !(s.slotOpen die sensor) then s
  else
    let on := s.thermOn
    let s1 := ((s.slotRun die sensor).put die (Ob.therm_sensor_c + sensor) v).setTherm die fun t =>
      { t with hist := smPut [] t.hist sensor (recentReadings s.now (smGet [] t.hist sensor ++ [(s.now, v)])),
               overs := smPut 0 t.overs sensor (if s.int 0 Ob.therm_shutdown_c ≤ v then smGet 0 t.overs sensor + 1 else 0) }
    let bad := s1.sensorOk die sensor && s1.judgedBroken die sensor v
    let s2 := s1.when bad fun s => (s.orBits die Ob.therm_sensor_broken (2 ^ sensor)).raise die Ob.therm_flags 2 sensor
    let s3 := (s2.when (s2.allBroken die) fun s => s.raise die Ob.therm_flags 3).put die Ob.therm_die_c (s2.dieTemp die)
    let s4 := s3.takeLevel die (s3.nextLevel (s3.nat die Ob.therm_level) (s3.int die Ob.therm_die_c) (s3.allBroken die))
    ((s4.zonesOfSensor die sensor).driveTherm on).when (die = s.sup) fun s => s.judgeWindow

/-- Writing 1 to a bit of therm_sensor_broken: the sensor is judged afresh. `mask` holds the bits written. -/
def State.sensorsCleared (s : State) (die mask : Nat) : State :=
  s.setTherm die fun t => { t with hist := t.hist.filter fun e => !(bit mask e.1) }

/-! Shutdown (R457-R459) -/

/-- A die switches off: its latch is set, its lanes and chain outputs stop, its DRAM is lost; THERM_N and FAULT_N are driven from VAUX. -/
def State.shutDie (s : State) (die : Nat) : State :=
  let on := s.thermOn
  let s1 := (s.orBits 0 Ob.therm_shut_dies (2 ^ die)).dieDown die
  (({ s1 with faultSrc := setBit s1.faultSrc 1 } : State).driveFault s1.faultOn).driveTherm on

/-- THERMAL_SHUTDOWN: two conversions of one sensor in a row at or above therm_shutdown_c. With therm_shut_part 1 every die follows. -/
def State.thermalShutdown (s : State) (die : Nat) : State :=
  if s.alive die && (s.thermOf die).overs.any (fun e => 2 ≤ e.2) then
    let gone := if s.on 0 Ob.therm_shut_part then s.aliveList else [die]
    (s.each gone fun d s => s.shutDie d).each gone fun d s => s.seeShut d
  else s

/-! Trim converters (R460-R464) -/

/-- Is a converter the IREF of a group that holds its resting levels (R302)? -/
def State.irefRests (s : State) (die n : Nat) : Bool := decide (26 ≤ n) && decide (n < 30) && (!(s.groupRuns die (n - 26)) || (s.gst die (n - 26)).mode = 0)

/-- A converter's base code (Table 16.3). -/
def State.trimBase (s : State) (die n : Nat) : Int :=
  if n < 8 then Config.swingCode die n (presetSwing (s.nat die (Ob.lane_tx_preset + n)) (s.nat die (Ob.lane_tx_ffe + n)))
  else if 26 ≤ n && n < 30 then s.grp die (n - 26) Ob.rg_iref_code
  else Config.trimBase die n

/-- The sensor that governs a converter, none for T_die. -/
def trimSensor (n : Nat) : Option Nat :=
  if n < 4 then some 2 else if n < 8 then some 3 else if n < 12 then some 2 else if n < 16 then some 3
  else if n = 16 then some 0 else if n = 17 then some 1 else if n = 18 then some 4 else if n = 19 then some 2
  else if n < 26 then some (n - 20) else if n < 30 then some 5 else none

/-- The temperature that governs a converter; T_die where its sensor is broken. -/
def State.trimTemp (s : State) (die n : Nat) : Int := match trimSensor n with
  | some k => if s.sensorOk die k then s.int die (Ob.therm_sensor_c + k) else s.int die Ob.therm_die_c
  | none => s.int die Ob.therm_die_c

/-- A quotient rounded to the nearest, halves away from zero. -/
def roundAway (a : Int) (b : Nat) : Int := if a < 0 then -((2 * a.natAbs + b) / (2 * b) : Nat) else ((2 * a.natAbs + b) / (2 * b) : Nat)

/-- The points in use of a trim set entry: temperature and offset. -/
def State.trimPoints (s : State) (die n : Nat) : List (Int × Int) :=
  (List.range (min 8 (s.blobNum die Ob.trim_set (36 * n) 1))).map fun p =>
    (toSigned 16 (s.blobNum die Ob.trim_set (36 * n + 4 * p + 4) 2), toSigned 16 (s.blobNum die Ob.trim_set (36 * n + 4 * p + 6) 2))

/-- The offset between the points of an entry at a temperature (R462). -/
def trimBetween (t : Int) : List (Int × Int) → Int
  | a :: b :: rest => if t ≤ a.1 then a.2 else if t < b.1 then a.2 + roundAway ((b.2 - a.2) * (t - a.1)) (b.1 - a.1).toNat else trimBetween t (b :: rest)
  | [a] => a.2
  | [] => 0

/-- The code a converter should apply: base plus the offset last found, limited to 0-1,023 (R460); 0 for the IREF of a group at rest (R302). -/
def State.trimTarget (s : State) (die n : Nat) : Nat :=
  if s.irefRests die n then 0 else (clampInt 0 1023 (s.trimBase die n + smGet 0 (s.thermOf die).offs n)).toNat

/-- A code moved toward its target by a step at most. -/
def toward (v goal step : Nat) : Nat := if v < goal then min goal (v + step) else max goal (v - step)

/-- A converter's output moves toward its target at its boundary. -/
def State.trimStep (s : State) (die n step : Nat) : State := s.put die (Ob.trim_code + n) (toward (s.nat die (Ob.trim_code + n)) (s.trimTarget die n) step : Nat)

/-- The swing code of a lane that sends PRBS without markers, at once with its preset (R129, R464). -/
def State.swingNow (s : State) (die lane : Nat) : State := if s.hawserLane die lane && s.tx die lane = 3 then s.trimStep die lane 1023 else s

/-- Does a converter take its code at once: a lane's swing without markers, the termination of a lane not locked, the IREF of a group not in use or at rest? -/
def State.trimAtOnce (s : State) (die n : Nat) : Bool :=
  if n < 8 then s.tx die n = 3
  else if n < 16 then s.rx die (n - 8) ≠ 5 && s.rx die (n - 8) ≠ 6
  else s.irefRests die n

/-- TRIM_EVALUATE: every 10 ms each converter finds its offset; a changed code is pending (trim_pending) until its boundary. -/
def State.trimEvaluate (s : State) (die : Nat) : State :=
  if !(s.alive die) || !(s.due (s.thermOf die).evalAt 10000000) then s
  else
    let s1 := s.setTherm die fun t => { t with
      evalAt := some s.now, offs := (List.range 30).foldl (fun (m : SMap Int) n => smPut 0 m n (trimBetween (s.trimTemp die n) (s.trimPoints die n))) t.offs }
    s1.each (List.range 30) fun n s => if s.trimAtOnce die n then s.trimStep die n 1023 else s

/-- TRIM_PLL_STEP: each 1 ms a PLL bias code moves by 1. -/
def State.trimPll (s : State) (die : Nat) : State :=
  if !(s.alive die) || !(s.due (s.thermOf die).pllAt 1000000) then s
  else (s.setTherm die fun t => { t with pllAt := some s.now }).each [16, 17, 18, 19] fun n s => s.trimStep die n 1

/-- IDLE_CONVERSION_SLOT, 6 or 7 of each millisecond: the sensor offsets reach their converters. -/
def State.trimIdle (s : State) (die : Nat) : State :=
  if s.alive die && (s.slotOpen die 6 || s.slotOpen die 7) then (s.slotRun die (if s.slotOpen die 6 then 6 else 7)).each [20, 21, 22, 23, 24, 25] fun n s => s.trimStep die n 1023 else s

/-- The IREF codes of a die's groups at frame blanking. -/
def State.trimIref (s : State) (die : Nat) (gs : List Nat) : State := s.each gs fun g s => s.trimStep die (26 + g) 1023

/-- The codes at the outputs of a die that starts: base and offset at once. -/
def State.trimStart (s : State) (die : Nat) : State :=
  let s1 := s.setTherm die fun t => { t with offs := (List.range 48).foldl (fun (m : SMap Int) n => smPut 0 m n (trimBetween (s.trimTemp die n) (s.trimPoints die n))) [] }
  s1.each (List.range 48) fun n s => s.trimStep die n 1023

end Sys2Proof.Machine
end

