-- ==== Sys2Proof/Machine/Resets.lean ====
section
/-! DEFINITION. Reference clocks, resets, boot and power (R384-R399, R445, R475, R479). -/

namespace Sys2Proof.Machine

/-! Reference clocks (R384-R387) -/

/-- Both REFCLKs of a die are lost (R386): its lanes stop, the servo holds over, FAULT_N is driven. -/
def State.clocksLost (s : State) (die : Nat) : State :=
  let s1 := ((s.put die Ob.refclk_active 2).stopLanes die).setClk die fun c => { c with lostAt := some s.now }
  let s2 := s1.when (die = s1.sup || s.pw Ob.lay_upstream / 16 = die) fun s => s.enterHoldover
  let s3 := s2.raise die Ob.clock_flags 1
  ({ s3 with faultSrc := setBit s3.faultSrc 0 } : State).driveFault s3.faultOn

/-- A REFCLK is not valid from now on. -/
def State.refBad (s : State) (die which : Nat) : State :=
  (s.put die Ob.refclk_valid (clearBit (s.nat die Ob.refclk_valid) which)).setClk die fun c => { c with faultAt := smPut 0 c.faultAt which s.now }

/-- A REFCLK (0 A, 1 B) is found faulty: the die switches to the other, or holds (R385, R386). -/
def State.refFaulty (s : State) (die which : Nat) : State :=
  if !(s.alive die) || 2 ≤ which then s
  else
    let s1 := s.refBad die which
    if s.nat die Ob.refclk_active ≠ which then s1
    else if s1.on die Ob.refclk_valid (1 - which) then ((s1.put die Ob.refclk_active (1 - which : Nat)).bump die Ob.refclk_switches).raise die Ob.clock_flags 0
    else s1.clocksLost die

/-- Is there a witness of a rate: a LOCKED part's Lay time, or a root's selected reference that is not free-run (R384)? -/
def State.hasWitness (s : State) : Bool := s.layState = layLocked || (s.isRoot && s.pw Ob.lay_ref_selected ≠ 5 && s.pw Ob.lay_ref_selected ≠ 0)

/-- REFCLK_RATE_CHECK: each 10 ms window the rates are compared with the witness, else with each other. Two found faulty in one window are so at once: the die does not switch to either (R385, R386). -/
def State.rateCheck (s : State) (die : Nat) (a b diff : Int) : State :=
  if !(s.alive die) || !(s.due (s.clk die).rateAt 10000000) then s
  else
    let lim : Int := (s.nat die Ob.refclk_rate_ppm : Int) * 1000
    let s1 := (s.put die Ob.refclk_diff_ppb diff).setClk die fun c => { c with rateAt := some s.now }
    if s.hasWitness then
      let bad := (if lim < a.natAbs then [0] else []) ++ if lim < b.natAbs then [1] else []
      s1.each bad fun w s => (s.each (bad.filter (· ≠ w)) fun v s => s.refBad die v).refFaulty die w
    else if lim < diff.natAbs then s1.raise die Ob.clock_flags 2
    else s1

/-- REFCLK_VALID: 10 ms without a fault make a REFCLK valid again; 10 ms more, with refclk_revert 1, the die switches back to the preferred one. -/
def State.refValid (s : State) (die which : Nat) : State :=
  if !(s.alive die) || 2 ≤ which then s
  else
    let c := s.clk die
    if !(s.on die Ob.refclk_valid which) then
      if s.past (smGet 0 c.faultAt which) 10000000 then
        (s.put die Ob.refclk_valid (setBit (s.nat die Ob.refclk_valid) which)).setClk die fun c => { c with validAt := smPut 0 c.validAt which s.now }
      else s
    else if s.on die Ob.refclk_revert && s.nat die Ob.refclk_sel = which && s.nat die Ob.refclk_active = 1 - which && s.past (smGet 0 c.validAt which) 10000000 then
      (s.put die Ob.refclk_active which).bump die Ob.refclk_switches
    else s

/-- PLL_RESUME (R386): with a REFCLK valid again the PLLs track and every enabled lane begins to transmit and relocks. -/
def State.pllResume (s : State) (die : Nat) : State :=
  if !(s.alive die) || s.nat die Ob.refclk_active ≠ 2 || s.nat die Ob.refclk_valid = 0 then s
  else
    let sel := s.nat die Ob.refclk_sel
    let use := if s.on die Ob.refclk_valid sel then sel else 1 - sel
    ((s.put die Ob.refclk_active use).setClk die fun c => { c with lostAt := none }).each (List.range 8) (fun l s => s.laneTxStart die l) |>.ethResume die

/-! Into reset (Table 13.3, R475) -/

/-- The kinds of reset of Table 13.3. -/
abbrev rVaux := 0
abbrev rPorst := 1
abbrev rWarm := 2

/-- The objects that a reset leaves: those of the always-on domain, refclk_valid and reset_cause, and with PLLs kept locked refclk_active (R383, R392). -/
def State.keptObjs (s : State) (kind : Nat) : SMap Value :=
  if kind = rVaux then [] else smKeep (fun k => let i := k % 16777216; i = Ob.refclk_valid || i = Ob.reset_cause || (kind = rWarm && i = Ob.refclk_active)) s.objs

/-- The clocks that a reset leaves: the REFCLK monitor's timers, which are always on; nothing after a loss of VAUX. -/
def State.keptClks (s : State) (kind : Nat) : SMap ClkSt := if kind = rVaux then [] else s.clks

/-- What a reset leaves: fuses, flash, the always-on domain, and for a warm reset the local count, Lay time and the equaliser values. -/
def State.cleared (s : State) (kind : Nat) : State :=
  let r := State.reset
  let shut := if kind = rVaux then 0 else s.pw Ob.therm_shut_dies
  let r1 : State :=
    { r with
      objs := s.keptObjs kind, clks := s.keptClks kind, fuses := s.fuses, now := s.now, pending := s.pending, sent := s.sent, free := s.free,
      journal := { s.journal with queue := [], tamping := false, open_ := true, bootDue := none },
      upd := { s.upd with fills := [], ram := none, act := none, pause := none },
      dieRelease := if kind = rWarm then (s.dieList.filter fun d => bit s.boot.heldDies d).foldl (fun m d => smPut 0 m d s.now) s.dieRelease else [],
      lay := if kind = rWarm then { r.lay with fine := s.lay.fine } else r.lay,
      lanes := if kind = rWarm then s.lanes.filterMap fun e => if e.2.retained then some (e.1, { ({} : LaneSt) with retained := true }) else none else [],
      red := { r.red with ckpt := s.red.ckpt.map fun k => (k.1, k.2.1, ckptJournalled k.2.2.length k.2.2) },
      faultSrc := if shut = 0 then 0 else 2, spi := if shut = 0 then {} else { hstat := 4 },
      boot := { r.boot with env := s.boot.env, pins := s.boot.pins } }
  r1.set Ob.therm_shut_dies shut

/-- The output pins while reset is asserted (Table 17.5). -/
def State.restPins (s : State) : State :=
  (([0, 1, 2, 3].foldl (fun s n => State.emit s (.pin (.layEvt n) false)) ((s.emit (.pin .faultN (s.faultSrc = 0))).emit (.pin .thermN (s.pw Ob.therm_shut_dies = 0)))).emit (.pin .mgmt false)).emit (.pin .tdo false)

/-- The part goes into reset, for a cause of reset_cause; causes that act at once are all set (R394), but a loss of VAUX loses the record. -/
def State.intoReset (s : State) (kind cause : Nat) : State :=
  let s1 := ((s.cleared kind).restPins).each (s.dieList.flatMap fun d => (List.range 4).map fun g => (d, g)) fun e x => x.rest s e.1 e.2
  { s1 with boot := { s1.boot with held := true, heldAt := some s.now, cause := if s.boot.held && kind ≠ rVaux then s.boot.cause ||| cause else cause } }

/-- PORST_N_ASSERT (R475). -/
def State.porstAssert (s : State) : State := s.intoReset rPorst 2

/-- VAUX_LOSS: everything is reset, the shutdown latch too (Table 13.3). -/
def State.vauxLoss (s : State) : State := s.intoReset rVaux 1

/-! Boot (R395-R399, R425) -/

/-- The slots that the ROM tries, each die × 2 + slot, by BOOTSEL (Table 13.4, R432); none for a download or recovery. -/
def bootOrder (bootsel active first : Nat) : List Nat :=
  let a := active % 2
  if first = 1 then [2 + a, 3 - a]
  else if bootsel = 0 || bootsel = 5 || bootsel = 6 then [a, 1 - a, 2 + a, 3 - a]
  else if bootsel = 1 then [a, 1 - a]
  else []

/-- The dies that boot beside the first: those whose Braid links train, not shut down. -/
def State.bootDies (s : State) (env : BootEnv) (first : Nat) : List Nat :=
  s.dieList.filter fun d => !(s.on 0 Ob.therm_shut_dies d) && (d = first || (env.braidDies.contains d && decide (first ≤ d)))

/-- DRAM of a die after the boot sweep (R362, R374, R375, R377): sizes, states, delays, the ECC in effect. -/
def State.bootDram (s : State) (env : BootEnv) (die : Nat) : State :=
  let ecc := s.on die Ob.dram_ecc
  let s1 := s.setMem die fun m => { m with ecc := ecc, rate := s.nat die Ob.dram_rate_code }
  s1.each [0, 1] fun c s =>
    if env.dramFails.contains (2 * die + c) then (s.setChState die c 5).raise die Ob.dram_flags 2 c
    else
      let s2 := (s.setChState die c 1).put die (Ob.dram_size_mb + c) ((if ecc then env.dramMb * 7 / 8 else env.dramMb : Nat) : Int)
      let s3 := s2.setChan die c fun h => { h with idleAt := s.now }
      let base := atIndex Ob.dram_dly_rd c
      s3.each (List.range 12) fun i s =>
        let d := s.draw
        let off := s.int die (atIndex Ob.dram_load_offset c + i % 4)
        if i < 8 then d.2.put die (base + i) (clampInt 0 65535 (d.1 % 65536 + off)) else d.2.put die (base + i) (d.1 % 256 : Nat)

/-- Forced fault entries and blanks of a die come back from the journal (R338, R344). -/
def State.restoreLamps (s : State) (die : Nat) : State :=
  let forced := ((replayForced s.recs die).map posOfWord).filter (s.posValid die)
  let blanks := (List.range 256).filter fun f => s.on die (atIndex Ob.fg_blanked f)
  let s1 := s.each forced fun p s => s.setLamp die p { state := 3 }
  let s2 := s1.when (!blanks.isEmpty) fun s => s.setTdie die fun t => { t with blanks := blanks.map fun f => (f, some 0) }
  s2.when (!forced.isEmpty) fun s => s.showLamps die

/-- The REFCLK that the PLLs of a die lock to as it leaves reset: kept where they stayed locked; else the one that refclk_sel names while it is valid, else the other; 2 none (R385, R392). -/
def State.startRef (s : State) (warm : Bool) (die : Nat) : Nat :=
  let sel := s.nat die Ob.refclk_sel
  if warm then s.nat die Ob.refclk_active else if s.on die Ob.refclk_valid sel then sel else if s.on die Ob.refclk_valid (1 - sel) then 1 - sel else 2

/-- A die starts: clocks, crossings, watchdog, DRAM, chain supplies, trims, cause of reset, local count; without a REFCLK it holds as R386 says. -/
def State.startDie (s : State) (env : BootEnv) (warm : Bool) (die : Nat) : State :=
  let s1 := { s with dieRelease := if warm then s.dieRelease else smPut 0 s.dieRelease die s.now, therm := smPut {} s.therm die {} }
  let s2 := (((s1.put die Ob.refclk_active (s.startRef warm die)).put die Ob.reset_cause s.boot.cause).crossStart die).setClk die fun c => { c with wdogAt := s.now }
  let s3 := s2.each (List.range 4) fun g s => s.putG die g Ob.rg_vddio ((((env.vddio.find? fun e => e.1 = 4 * die + g).map (·.2)).getD 0 : Nat) : Int)
  (((((s3.bootDram env die).trimStart die).pairEffect die 0).coreClock die (s3.nat die Ob.therm_level)).restoreLamps die |>.shiftReport die).each (List.range 4) (fun g s => s.rest s die g) |>.when (s2.nat die Ob.refclk_active = 2) fun s => s.clocksLost die

/-- Role, ring and supervision after a boot (R24, R404, R408). -/
def State.bootRoles (s : State) (env : BootEnv) (first : Nat) : State :=
  let held := (liveRecs s.recs).any fun r => r.ent.key = Ob.role_mode && r.ent.typ = 1
  let role := if !s.big then 0 else if held then s.pw Ob.role_mode else if env.role then 2 else 0
  let s1 := (s.set Ob.role_mode role).set Ob.role_active role
  let arb := if s.big then ((s.aliveList).find? fun d => decide (2 ≤ d)).getD 0xFF else 0xFF
  let s2 := ((s1.set Ob.red_arb_die arb).set Ob.red_sup_die first).set Ob.red_sup_state (if first = 1 then 1 else if s.alive 1 then 0 else 3)
  s2.when s2.isRing fun s => s.set Ob.red_head_state 4

/-- The update image after a boot (R436, R438): the bitmap of the journal; an image that was READY is loaded again. -/
def State.bootImage (s : State) : State :=
  let bits := replayBits s.recs
  let u := s.upd
  let ok := bit bits 0 && u.passed
  let img := u.img.filter fun e => ok && bit bits (e.1 / 4096) && decide (e.1 < 8388608)
  let s1 := ({ s with upd := { u with bits := if ok then bits else 0, passed := ok, img := img } } : State).showBits
  let id := ofLe (s1.imgBytes 12 4)
  let ready := ok && s1.imgSegs ≤ popCount 2048 bits && (let b := s1.bootSect; (if s1.stageSlot = 0 then b.id0 else b.id1) = id)
  let s2 := { s1 with upd := { s1.upd with ram := if ready then some (id, ofLe (s1.imgBytes 16 4)) else none } }
  (s2.set Ob.upd_image_id (if ok then id else 0)).set Ob.upd_state (if ready then 3 else if s2.updWhole then 2 else if ok then 1 else 0)

/-- Sources that start now. -/
def freshSources (now n : Nat) : SMap SourceSt := (List.range n).map fun k => (k, { lastAt := now })

/-- Streams that start now. -/
def freshStreams (now n : Nat) : SMap StreamSt := (List.range n).map fun k => (k, { sinceFs := now })

/-- The host port, the root's listening, the heartbeat, the sources and the streams of a part whose firmware starts. -/
def State.startUnits (s : State) (first : Nat) : State :=
  let spi : SpiSt := { s.spi with hstat := putBit s.spi.hstat 0 (decide (first = 0)) }
  let lay : LaySt := { s.lay with listenAt := some (s.boot.releaseAt + s.boot.env.bootMs.getD 4 0 * 1000000 + 100000000) }
  let red : RedSt := { s.red with supAt := s.now }
  let comp : ComposeSt := { s.comp with sources := if s.now = 0 then [] else freshSources s.now s.sourceCount }
  let cam : CamSt := { s.cam with streams := if s.now = 0 then [] else freshStreams s.now (4 * s.camPorts) }
  { s with spi := spi, lay := lay, red := red, comp := comp, cam := cam }

/-- The management address that a part starts with: static, or none until DHCP gives one. -/
def State.startAddress (s : State) : State :=
  if s.pw Ob.mgmt_ip_mode = 0 then ({ s with boot := { s.boot with ipDhcp := false } } : State).set Ob.mgmt_ip_current (s.pw Ob.mgmt_ip_static) else { s with boot := { s.boot with ipDhcp := true, dhcpAt := some s.now } }

/-- Surfaces configured have lost their data with the DRAM (R217). -/
def State.loseSurfaces (s : State) : State :=
  if s.big && !s.surfacesWhole then s.raise 0 Ob.compose_flags 5 else s

/-- The IMAGE_ID and FW_VERSION of the image that boots from a slot: those of its header where this part has written it. -/
def State.bootedImage (s : State) (env : BootEnv) (k : Nat) : Nat × Nat := match smGet [] s.upd.slots k with
  | [] => env.image
  | m => (ofLe (smRun 0 m 12 4), ofLe (smRun 0 m 16 4))

/-- The image that runs, reset_count, the staged image, and upd_activate where the journal holds none. -/
def State.startImage (s : State) (image : Nat × Nat) : State :=
  let s1 := (s.set Ob.fw_image_id image.1).set Ob.fw_version image.2
  let s2 := (s1.keep 0 Ob.reset_count ((s1.pw Ob.reset_count + 1 : Nat) : Int)).bootImage
  if (liveRecs s.recs).any (fun r => r.ent.key = Ob.upd_activate) then s2 else s2.set Ob.upd_activate image.1

/-- The fade in force after a boot (R205): that of the objects restored. The spec states no start level for one that took its own from the fade before it: a free value (log entry 139). -/
def State.bootFade (s : State) : State :=
  if s.on 0 Ob.fade_from_current then { s.draw.2 with launch := { s.launch with fadeF := s.draw.1 % 65537 } } else { s with launch := { s.launch with fadeF := s.pw Ob.fade_from } }

/-- Firmware runs on the dies given, from the image given: the journal is replayed and every unit starts (steps 5-10 of Table 13.5). -/
def State.bootRun (s : State) (env : BootEnv) (warm : Bool) (first : Nat) (dies : List Nat) (image : Nat × Nat) : State :=
  let mask := dies.foldl (fun m d => setBit m d) 0
  let s1 : State := { s.set Ob.dies_alive mask with fw := mask }
  let s2 : State := s1.replay.each dies fun d s => s.startDie env warm d
  let s3 : State := (s2.bootRoles env first).startImage image
  (((s3.startUnits first).startAddress).loseSurfaces.bootFade).joinFlows []

/-- What the ROM finds: straps, flash, step times but for those that the part's own events end, identity; then firmware, recovery mode, or boundary scan. The image of a download is what the operand
gives; without one the part listens in recovery mode (log entry 165). Where die 0 does not begin to load, no die runs (R399). -/
def State.bootFrom (s : State) (env : BootEnv) (warm : Bool) (first : Nat) : State :=
  let s1 := { s with boot := { s.boot with held := false, releaseAt := if first = 0 then s.now else s.boot.releaseAt, env := env, pins := env, warm := warm, recovery := false, scan := false } }
  let s2 := (((s1.set Ob.boot_straps (env.bootsel % 8 + 8 * b2n env.role : Nat)).set Ob.boot_flash_mode (if env.bootsel % 8 = 5 then 0 else env.flashMode % 3 : Nat)).set Ob.identity s.identity).set Ob.die_count s.dies
  let s3 := ((s2.set Ob.silt_flash_mb env.flashMb.1).set (Ob.silt_flash_mb + 1) env.flashMb.2).set Ob.silt_size_kb ((env.flashMb.1 - 17) * 1024 : Nat)
  let s4 := (s3.set Ob.mgmt_mac s.fuses.mac).each (List.range 11) fun i s => if [6, 8, 10].contains i then s else s.set (Ob.boot_ms + i) (env.bootMs.getD i 0 % 65536 : Nat)
  let dies := s4.bootDies env first
  let sel := env.bootsel % 8
  let missing := s4.dieList.any fun d => !(dies.contains d) && decide (first ≤ d) && !(s4.on 0 Ob.therm_shut_dies d)
  let s5 := s4.when (missing && sel ≠ 7) fun s => s.raise 0 Ob.boot_flags 1
  let slot := (bootOrder sel s.bootSect.slot first).find? (s.slotOk env)
  if sel = 7 then { s5.set Ob.dies_alive 0 with boot := { s5.boot with scan := true } }
  else if !(dies.contains first) || (first = 0 && !env.loads) then s5.set Ob.dies_alive 0
  else match slot with
    | some k =>
      let s6 := (s5.set Ob.boot_source (k / 2 : Nat)).set Ob.fw_slot (k % 2 : Nat)
      let s7 := s6.bootRun env warm first dies (s.bootedImage env k)
      let s8 := s7.when (k % 2 ≠ s.bootSect.slot % 2) fun s => s.raise 0 Ob.upd_flags 4
      s8.when (k / 2 = 1 && first = 0) fun s => s.raise 0 Ob.boot_flags 0
    | none =>
      if first = 0 && (sel = 2 || sel = 3) && env.downloads then (s5.set Ob.boot_source sel).bootRun env warm first dies env.image
      else { ((s5.set Ob.boot_source 4).set Ob.dies_alive (2 ^ first : Nat)).set Ob.node_id s5.bootSect.node with boot := { s5.boot with recovery := true, dhcpAt := some s5.now } }

/-- PORST_RELEASE (R396): the part leaves reset and boots. It must have been held for 1 µs (R392): a release before that is none (DESIGN CHOICE, log entry 166). -/
def State.porstRelease (s : State) (env : BootEnv) : State := if s.boot.held && s.boot.heldAt.all fun t => s.past t 1000 then s.bootFrom env false 0 else s

/-- WARMRST_N (R392): held low for 1 µs, a warm reset and a boot; while PORST_N holds the part, one more cause of its reset (R394). -/
def State.warmReset (s : State) (heldNs : Nat) (env : BootEnv) : State :=
  if heldNs < 1000 then s else if s.boot.held then { s with boot := { s.boot with cause := s.boot.cause ||| 4 } } else (s.intoReset rWarm 4).bootFrom env true 0

/-- A write of 1 to part_reset: a warm reset; the straps are sampled (R395), as the pins were last told (DESIGN CHOICE, log entry 168). -/
def State.partReset (s : State) : State := if s.boot.held then s else (s.intoReset rWarm 8).bootFrom s.boot.pins true 0

/-- DIE1_BOOT_TIMEOUT (R399): with no image from die 0 for 500 ms, die 1 boots from its own flash and acts as supervisor. -/
def State.die1Boot (s : State) : State :=
  if s.boot.held || s.boot.scan || s.boot.recovery || s.fw ≠ 0 || s.pw Ob.dies_alive ≠ 0 || s.on 0 Ob.therm_shut_dies 1 || !(s.past s.boot.releaseAt 500000000) then s
  else s.bootFrom s.boot.env s.boot.warm 1

/-! Control-core restarts (R392, R393) and update activation (R442-R444) -/

/-- A group holds its picture while its die has no firmware: a frame-memory group enters self-refresh at once; afterwards it shows from the first view-frame that passes its check. -/
def State.holdGroup (s0 : State) (die g : Nat) : State :=
  let s := if s0.groupUsed die g then s0.setG die g fun t => { t with proves := true } else s0
  if s.groupUsed die g && s.frameMem die g && !((s.gst die g).sr) && (s.groupHalf die g).isSome then
    ((s.setG die g fun t => { t with sr := true }).putG die g Ob.rg_state 3).raise die Ob.raster_flags 5 g
  else s

/-- The control cores of some dies restart, for a cause of reset_cause; one that comes while a restart still runs is added to its causes (R394). The watchdog starts anew. -/
def State.coreRestart (s : State) (dies : List Nat) (cause : Nat) : State :=
  let live := dies.filter s.alive
  let s1 := { s with fw := live.foldl (fun m d => clearBit m d) s.fw }
  let s2 := s1.each live fun d x =>
    ((((x.put d Ob.reset_cause (if s.fwOn d then cause else s.nat d Ob.reset_cause ||| cause)).crossReset d true .served).setClk d fun c => { c with wdogAt := s.now }).each (List.range 4) fun g s => s.holdGroup d g)
  let s3 := if live.contains s.sup then s2.dropTransfers else { s2 with corrix := { s2.corrix with blobs := s2.corrix.blobs.filter fun e => !(objPerDie (e.1 % 16777216) && live.contains (e.1 / 16777216)) } }
  s3.when (live.contains 0) fun s => { s with spi := { s.spi with hstat := clearBit s.spi.hstat 0 } }

/-- A write of 2 to part_reset: a control-core restart of every die. -/
def State.coresRestart (s : State) : State := if s.boot.held then s else s.coreRestart s.aliveList 8

/-- At T every die restarts into the image that upd_activate names (R442). -/
def State.activate (s : State) (t : Int) : State := match s.upd.ram with
  | some (id, ver) =>
    if s.pw Ob.upd_activate = s.pw Ob.fw_image_id || s.pw Ob.upd_activate ≠ id then s
    else
      let s1 := { s with upd := { s.upd with prev := (s.pw Ob.fw_image_id, s.pw Ob.fw_version, s.pw Ob.fw_slot), act := some { at_ := t, since := s.now } } }
      let s2 := (((s1.set Ob.fw_prev_image_id (s.pw Ob.fw_image_id)).set Ob.fw_image_id id).set Ob.fw_version ver).set Ob.fw_slot s.stageSlot
      s2.coreRestart s.aliveList 32
  | none => s

/-- Every live die serves the new image (R442, R443): the pause is to be recorded, and the boot sectors are to name its slot. -/
def State.activated (s : State) (a : ActSt) : State :=
  let k := s.stageSlot
  ({ s with upd := { s.upd with pause := some a.at_ } } : State).writeBoot true fun b => { b with slot := k }

/-- The previous image comes back (R444). -/
def State.revert (s : State) : State :=
  let p := s.upd.prev
  let s1 := (({ s with upd := { s.upd with act := none, pause := none }, journal := { s.journal with bootDue := none } } : State).set Ob.fw_image_id p.1).set Ob.fw_version p.2.1
  (((s1.set Ob.fw_slot p.2.2).coreRestart s.aliveList 32).keep 0 Ob.upd_activate p.1).raise 0 Ob.upd_flags 3

/-- UPD_REVERTED: 250 ms after T the new image does not serve on every die. -/
def State.updReverted (s : State) : State := match s.upd.act with
  | some a => if s.past a.since 250000000 && !(s.aliveList.all fun d => bit a.serves d) then s.revert else s
  | none => s

/-- FIRMWARE_SERVE (R393, R442, R443): firmware of a die runs again; its groups return to their rg_sr_mode; an activation that every die serves is complete. -/
def State.firmwareServe (s : State) (die : Nat) : State :=
  let late := match s.upd.act with
    | some a => s.past a.since 250000000 && !(s.aliveList.all fun d => bit a.serves d)
    | none => false
  if !(s.alive die) || s.fwOn die || s.boot.held || s.boot.recovery || s.boot.scan || late then s
  else
    let s1 := (({ s with fw := setBit s.fw die } : State).crossEvents die .served 1).setClk die fun c => { c with wdogAt := s.now }
    let s2 := s1.each (s1.groupsUsed die) fun g s => if s.srMode die g = 0 then s.srLeave die g else s
    let s3 := s2.when (die = 0) fun s => { s with spi := { s.spi with hstat := setBit s.spi.hstat 0 } }
    match s3.upd.act with
    | none => s3
    | some a =>
      let b := { a with serves := setBit a.serves die }
      let s4 := { s3 with upd := { s3.upd with act := some b }, boot := { s3.boot with resume := smPut 0 s3.boot.resume die ((s3.layNow + schedLongest s3.sched : Nat) : Int) } }
      if (s4.aliveList.all fun d => bit b.serves d) && !(s.aliveList.all fun d => bit a.serves d) then s4.activated b else s4

/-- WATCHDOG_EXPIRY (R392, R404, R444): not served for wdog_ms, so never sooner after it started, the die's control core restarts; on the acting supervisor it is a supervisor failure; twice within 1 s of T it reverts an activation. -/
def State.watchdog (s : State) (die : Nat) : State :=
  if !(s.alive die) || s.boot.held || !(s.past (s.clk die).wdogAt (s.nat die Ob.wdog_ms * 1000000)) then s
  else
    let s1 := s.coreRestart [die] 16
    let judged := if die = s.sup && (die = 0 || s.pw Ob.red_sup_state = 2) then s1.failover else s1
    match s1.upd.act with
    | some a =>
      let n := smGet 0 a.wdogs die + 1
      if s.past a.since 1000000000 then judged
      else if 2 ≤ n then s1.revert
      else { s1 with upd := { s1.upd with act := some { a with wdogs := smPut 0 a.wdogs die n } } }
    | none => judged

/-! Rejoin, brown-out, recovery (R406, R445, R479) -/

/-- The values of a die's own objects after it rejoins: defaults and the journal's. -/
def State.rejoinObjs (s : State) (die : Nat) : State :=
  let mine := fun (k : Nat) => k / 16777216 = die && objPerDie (k % 16777216)
  let back := (replayObjs s.recs).filter fun e => mine e.1
  { s with objs := overlay (s.objs.filter fun e => !(mine e.1)) back, staged := s.staged.filter fun e => !(mine e.1) }

/-- RED_SUP_REJOIN (R406): a die held after a failover is released and becomes standby supervisor; its chains resume with the first view-frame whose check passes. -/
def State.rejoin (s : State) : State :=
  let die := 1 - s.sup
  if !(bit s.boot.heldDies die) || s.on 0 Ob.therm_shut_dies die || bit s.boot.brown die then s
  else
    let s1 := { s with boot := { s.boot with heldDies := clearBit s.boot.heldDies die } }
    let s2 := (s1.rejoinObjs die).set Ob.dies_alive (setBit (s1.pw Ob.dies_alive) die)
    let fresh : CamSt := { s2.cam with streams := (List.range 4).foldl (fun m k => if die < s.camPorts then smPut {} m (4 * die + k) { sinceFs := s.now } else m) s2.cam.streams }
    let s3 := { s2 with cam := fresh, fw := setBit s2.fw die, spi := if die = 0 then { s2.spi with hstat := setBit s2.spi.hstat 0 } else s2.spi, journal := { s2.journal with recs := s2.recs, recs1 := s2.recs } }
    ((s3.startDie s3.boot.env false die).each (List.range 4) fun g s => s.setG die g fun t => { t with proves := true }).set Ob.red_sup_state (if s.sup = 1 then 2 else 0)

/-- BROWNOUT (R479): a rail of a die below its range for 1 µs; the die is held until the next reset. -/
def State.brownout (s : State) (die ns : Nat) : State :=
  if ns < 1000 || s.dies ≤ die || s.boot.held || bit s.boot.heldDies die then s
  else
    let s1 := { (s.dieDown die) with boot := { s.boot with heldDies := setBit s.boot.heldDies die, brown := setBit s.boot.brown die } }
    ((s1.orBits 0 Ob.pwr_brownout_dies (2 ^ die)).keep 0 Ob.pwr_brownouts ((s1.pw Ob.pwr_brownouts + 1 : Nat) : Int)).raise 0 Ob.pwr_flags 0 die

/-- BROWNOUT_RESTART: with every die held, the part restarts as after PORST_N once the rails have been within range for 1 ms. -/
def State.brownoutRestart (s : State) (ms : Nat) (env : BootEnv) : State :=
  if s.boot.held || ms < 1 || !(s.dieList.all fun d => bit s.boot.heldDies d) then s
  else (s.intoReset rPorst 2).bootFrom env false 0

/-- DHCP_ADDRESS (R54, R445): the management Ethernet takes the address given. -/
def State.dhcpAddress (s : State) (addr : Nat) : State :=
  if s.boot.held || s.boot.scan || (!s.boot.ipDhcp && !s.boot.recovery) then s
  else ({ s with boot := { s.boot with dhcpAt := none } } : State).set Ob.mgmt_ip_current (addr % 4294967296 : Nat)

/-- RECOVERY_DHCP_TIMEOUT (R445): after 10 s without DHCP, 169.254.x.y from the last two bytes of mgmt_mac. -/
def State.recoveryDhcp (s : State) : State := match s.boot.dhcpAt with
  | some t =>
    if s.boot.recovery && s.past t 10000000000 then
      let fix := fun (b : Nat) => if b = 0 then 1 else if b = 255 then 254 else b
      ({ s with boot := { s.boot with dhcpAt := none } } : State).set Ob.mgmt_ip_current (0xA9FE0000 + fix (s.fuses.mac / 256 % 256) * 256 + fix (s.fuses.mac % 256) : Nat)
    else s
  | none => s

end Sys2Proof.Machine
end

