-- ==== Sys2Proof/Machine/Votes.lean ====
section
/-! DEFINITION. What each die computes of a configuration and how it votes on it at prepare (R33-R36, R66, Tables 2.10, 6.1, 7.5, 8.4, 9.8, 10.7, 11.3, 12.7, 15.10, 16.5). The state given to
these functions holds the configuration judged as its values in force. -/

namespace Sys2Proof.Machine

/-! Demands -/

/-- Lamps on a chain: drivers × channels × scan lines. -/
def State.chainLamps (s : State) (die k : Nat) : Nat :=
  if s.chainUsed die k then s.nat die (Ob.chain_drivers + k) * s.chans die (k / 6) * s.grp die (k / 6) Ob.rg_scan_lines else 0

/-- Lamps that a die's chains carry. -/
def State.dieLamps (s : State) (die : Nat) : Nat := ((List.range 24).map (s.chainLamps die)).sum

/-- chain_demand (Table 1.5): lamps × 16 × lit view-frames per second (R184), in Mbit/s, rounded up. -/
def State.chainDemand (s : State) (die : Nat) : Nat :=
  let c := s.sched
  min 4294967295 (ceilDiv (s.dieLamps die * 16 * (schedLit c).length * c.den * 1000) (max 1 c.num))

/-- Does a part compose: it has a compositor and is a head (R33, R208)? -/
def State.composer (s : State) : Bool := s.big && s.isHead

/-- compose_demand (Table 1.5): stripe pixels over the lit views (R184) × frame rate, in Mpixel/s, rounded up. -/
def State.composeDemand (s : State) (die : Nat) : Nat :=
  let c := s.sched
  let r := s.stripe die
  if s.big then min 4294967295 (ceilDiv (r.w * r.h * (schedLit c).length * c.den * 1000) (max 1 c.num)) else 0

/-- The columns of a rectangle that lie in a span, as (first, count) from the rectangle's left edge. -/
def spanIn (x w a b : Nat) : Nat × Nat := let lo := max x a; (lo - x, min (x + w) b - lo)

/-- The crop columns that a die's part of a video layer reads (R214, R232): first and count, filter margins included, held to the crop. -/
def State.readCols (s : State) (die n : Nat) : Nat × Nat :=
  let d := s.vlDst n
  let c := rectOf (s.at_ Ob.vl_src_rect n)
  let t := s.stripe die
  let p := spanIn d.x d.w t.x (min (t.x + t.w) (s.pw Ob.canvas_width))
  if p.2 = 0 || c.w = 0 || d.w = 0 then (0, 0)
  else
    let lo := clampInt 0 (c.w - 1 : Nat) ((scalePos p.1 c.w d.w).1 - 3)
    let hi := clampInt 0 (c.w - 1 : Nat) ((scalePos (p.1 + p.2 - 1) c.w d.w).1 + 4)
    (lo.toNat, (hi - lo + 1).toNat)

/-- Does a source import in RGB30P, by its newest import? One that has had none counts as RGB48L (log entry 140). -/
def State.importsPq (s : State) (src : Nat) : Bool := s.at_ Ob.src_type src = 3 && (match (s.source src).newest with
  | some f => f.pq
  | none => false)

/-- Four times the bytes per stored pixel of a source (R232). -/
def State.srcBytes4 (s : State) (src : Nat) : Nat := if s.at_ Ob.src_type src = 1 && s.at_ Ob.src_format src % 4 = 0 then 16 else if s.importsPq src then 15 else 24

/-- The lit views of a configuration. -/
def State.litViews (s : State) : List Nat := schedLit s.sched

/-- The video layers that have a part on a die. -/
def State.partsOn (s : State) (die : Nat) : List Nat :=
  (List.range s.layerCount).filter fun n => s.at_ Ob.vl_enable n = 1 && rectMeet (s.vlDst n) (s.stripe die)

/-- Four times the bytes per frame that the video parts of a die read. -/
def State.videoRead4 (s : State) (die : Nat) : Nat :=
  ((s.partsOn die).map fun n => (s.readCols die n).2 * (rectOf (s.at_ Ob.vl_src_rect n)).h * s.srcBytes4 (s.at_ Ob.vl_source n) * ((s.litViews.filter (s.vlOn n)).length)).sum

/-- Four times the bytes per frame that the graphic parts of a die read. -/
def State.graphicRead4 (s : State) (die : Nat) : Nat :=
  let t := s.stripe die
  (((List.range s.layerCount).filter fun n => s.at_ Ob.gl_enable n = 1).map fun n =>
    let d := s.glDst n
    let u := s.at_ Ob.gl_surface n
    let xy := s.at_ Ob.gl_src_xy n
    let px := spanIn d.x d.w t.x (t.x + t.w)
    let py := spanIn d.y d.h t.y (t.y + t.h)
    let w := (spanIn (xy % 65536 + px.1) px.2 0 (s.at_ Ob.gs_width u)).2
    let h := (spanIn (xy / 65536 + py.1) py.2 0 (s.at_ Ob.gs_height u)).2
    16 * w * h * (s.litViews.filter (s.glOn n)).length).sum

/-- Four times the bytes that a die stores per frame of a source: the columns and lines that its layer parts need (R224). -/
def State.stored4 (s : State) (die src : Nat) : Nat :=
  let l := (s.partsOn die).filter fun n => s.at_ Ob.vl_source n = src
  let crop n := rectOf (s.at_ Ob.vl_src_rect n)
  let x0 := minOr 0 (l.map fun n => (crop n).x + (s.readCols die n).1)
  let x1 := maxOr 0 (l.map fun n => (crop n).x + (s.readCols die n).1 + (s.readCols die n).2)
  let y0 := minOr 0 (l.map fun n => (crop n).y)
  let y1 := maxOr 0 (l.map fun n => (crop n).y + (crop n).h)
  (x1 - x0) * (y1 - y0) * s.srcBytes4 src

/-- The sources that a die stores, each once. -/
def State.storedSources (s : State) (die : Nat) : List Nat :=
  (List.range s.sourceCount).filter fun k => (s.partsOn die).any fun n => s.at_ Ob.vl_source n = k

/-- The fetch demand F of a die (R232) as a fraction of bytes per second. -/
def State.fetch (s : State) (die : Nat) : Nat × Nat :=
  let c := s.sched
  let frame4 := s.videoRead4 die + s.graphicRead4 die
  let milli4 := ((s.storedSources die).map fun k => s.stored4 die k * s.at_ Ob.src_rate_mhz k).sum + 4 * s.fcam die
  if s.composer then (frame4 * 1000000000000 * c.den + milli4 * c.num, 4000 * max 1 c.num) else (0, 1)

/-- compose_fetch: F in MB/s, rounded up. -/
def State.composeFetch (s : State) (die : Nat) : Nat := let f := s.fetch die; min 4294967295 (ceilDiv f.1 (f.2 * 1000000))

/-- The DRAM demand D of a die (R370) as a fraction of bytes per second. -/
def State.dramNeed (s : State) (die : Nat) : Nat × Nat :=
  let c := s.sched
  let f := s.fetch die
  let px := if s.isTile then s.pixelCount die else 0
  let n := (64 + 8 * b2n (s.anyRule die)) * px * (schedLit c).length * c.den * 1000000000
  (f.1 * max 1 c.num + n * f.2, f.2 * max 1 c.num)

/-- dram_demand: D in MB/s, rounded up. -/
def State.dramDemand (s : State) (die : Nat) : Nat := let d := s.dramNeed die; min 4294967295 (ceilDiv d.1 (d.2 * 1000000))

/-! The votes of the chapters -/

/-- A code, where its condition holds. -/
def code (c : Nat) (b : Bool) : List Nat := if b then [c] else []

/-- The schedule (Table 6.1) and the compositor bound (R33). -/
def State.voteSched (s : State) (die : Nat) : List Nat :=
  let c := s.sched
  let r := s.stripe die
  code 0x01 (s.composer && decide (c.num < r.w * r.h * (schedLit c).length * c.den)) ++
  code 0x10 (schedUneven c) ++ code 0x11 (schedDense c) ++ code 0x12 (schedOutside c) ++
  code 0x13 (s.composer && (schedLit c).any fun v => decide (schedSlot c v < r.w * r.h * c.den))

/-- The destinations that a head serves or shows itself. -/
def State.destList (s : State) : List Nat :=
  (List.range 1024).filter fun n => s.at_ Ob.dest_enable n = 1 || (s.isTile && s.node = some n && (s.spliceIn (atIndex Ob.dest_splice n)).ver ≠ 0)

/-- Is a video layer's scaling or crop outside R214? -/
def State.badScale (s : State) (n : Nat) : Bool :=
  let d := s.vlDst n
  let c := rectOf (s.at_ Ob.vl_src_rect n)
  let z := s.at_ Ob.src_size (s.at_ Ob.vl_source n)
  let bad (dst src : Nat) : Bool := dst = 0 || src = 0 || decide (8 * dst < src) || decide (8 * src < dst)
  bad d.w c.w || bad d.h c.h || decide (bits z 15 0 < c.x + c.w) || decide (bits z 31 16 < c.y + c.h)

/-- Is a user filter bank configured: have both of its blobs been written (R233)? -/
def State.bankSet (s : State) (n : Nat) : Bool := s.val 0 (atIndex Ob.filter_h n) ≠ .dflt && s.val 0 (atIndex Ob.filter_v n) ≠ .dflt

/-- The die that judges a destination at prepare: its packer's, or the acting supervisor where dest_port names no live die. -/
def State.destJudge (s : State) (n : Nat) : Nat := if s.alive (s.packDie n) then s.packDie n else s.sup

/-- Composition (Table 7.5): every die judges the exports; each die judges the layers that its stripe carries and the destinations whose packer it holds. -/
def State.voteCompose (s : State) (die : Nat) : List Nat :=
  if !s.big then []
  else
    let own := s.ownRect
    let starts := s.dieList.map fun d => s.pw (Ob.stripe_start + d)
    let vls := (List.range s.layerCount).filter fun n => s.at_ Ob.vl_enable n = 1
    let gls := (List.range s.layerCount).filter fun n => s.at_ Ob.gl_enable n = 1
    let canvas : Rect := { x := 0, y := 0, w := s.pw Ob.canvas_width, h := s.pw Ob.canvas_height }
    let carries (r : Rect) : Bool := rectMeet r (s.stripe die) && rectMeet r canvas
    let mine := vls.filter fun n => s.litViews.any (s.vlOn n) && carries (s.vlDst n)
    let f := s.fetch die
    code 0x04 ((mine.any fun n => let k := s.at_ Ob.vl_source n; decide (s.sourceCount ≤ k) || s.at_ Ob.src_type k = 0 || (s.at_ Ob.src_type k = 3 && s.at_ Ob.src_import_node k = 0xFFFF)) ||
      mine.any (fun n => decide (2 ≤ s.at_ Ob.vl_filter n) && !(s.bankSet (s.at_ Ob.vl_filter n - 2))) ||
      (gls.filter fun n => s.litViews.any (s.glOn n) && carries (s.glDst n)).any fun n => let k := s.at_ Ob.gl_surface n; decide (s.layerCount ≤ k) || s.at_ Ob.gs_width k = 0 || s.at_ Ob.gs_height k = 0) ++
    code 0x20 (!s.stripesDflt && (starts.any (fun x => x = 0xFFFF || x % 8 ≠ 0) || !(risingInt (starts.map fun (x : Nat) => (x : Int))) || starts.headD 0 ≠ own.x)) ++
    code 0x21 (s.litViews.any fun v => decide (4 < (vls.filter fun n => s.vlOn n v && carries (s.vlDst n)).length) ||
      decide (4 < (gls.filter fun n => s.glOn n v && carries (s.glDst n)).length)) ++
    code 0x22 ((mine.filter fun n => let k := s.at_ Ob.vl_source n; k < s.sourceCount && s.at_ Ob.src_type k ≠ 0).any s.badScale) ++
    code 0x23 (decide (60000000000 * f.2 < f.1)) ++
    code 0x24 (s.destList.any fun n => let d := s.spliceIn (atIndex Ob.dest_splice n); s.destJudge n = die && d.ver ≠ 0 && !(rectIn d.rect own)) ++
    code 0x25 ((List.range 32).any fun e => s.at_ Ob.cx_enable e = 1 &&
      (let r := rectOf (s.at_ Ob.cx_rect e)
       decide (65536 < ceilDiv (if s.at_ Ob.cx_format e = 0 then 6 * (r.w * r.h) else ceilDiv (30 * (r.w * r.h)) 8) 244)))

/-- Destinations whose bands differ from their descriptors (R269). -/
def State.voteDest (s : State) (die : Nat) : List Nat :=
  code 0x40 (s.composer && s.destList.any fun n => s.at_ Ob.dest_enable n = 1 && s.destJudge n = die && s.at_ Ob.dest_bands n ≠ spliceBands (s.spliceIn (atIndex Ob.dest_splice n)))

/-- Cameras (Table 8.4). -/
def State.voteCam (s : State) (die : Nat) : List Nat :=
  if s.camPorts ≤ die then []
  else
    let l := s.dieStreams die
    let n := s.nat die Ob.cam_inline
    code 0x30 (decide (1000000000000 < (l.map s.camRate).sum)) ++
    code 0x31 (l.any fun k => decide (s.camW k < 64) || decide (8192 < s.camW k) || s.camW k % 4 ≠ 0 || decide (s.camH k < 32) || decide (6144 < s.camH k)) ++
    code 0x32 (decide (s.pw (Ob.cam_lanes + die) * 2500000000000 < (l.map fun k => s.camRate k * s.camBits k).sum)) ++
    code 0x33 (n ≠ 0xFF && (n / 4 ≠ die || !(s.streamOn n))) ++
    code 0x34 (decide (s.nat die Ob.cam_capture_pool_mb * 1048576 < s.poolUsed die))

/-- Is a zone matrix outside Table 9.5? -/
def State.badMatrix (s : State) (die z : Nat) : Bool :=
  let k := atIndex Ob.zone_matrix z
  let n := s.blobNum die k 0 1
  decide (8 < n) || !(risingInt ((List.range n).map fun p => s.blobI16 die k (4 + 20 * p)))

/-- The need of the splice receive buffer, in bytes (R272). -/
def State.spliceNeed (s : State) : Nat :=
  let c := s.sched
  let lead := if s.pw Ob.launch_lead_ns = 0 then c.num + 200000 * c.den else s.pw Ob.launch_lead_ns * c.den
  let d := s.spliceIn Ob.splice_desc
  let slot := schedShortest c
  if slot = 0 || !(spliceUsable d) then 0 else regionBytes d * ceilDiv lead slot

/-- Correction (Table 9.8). -/
def State.voteCorr (s : State) (die : Nat) : List Nat :=
  let d := s.spliceIn Ob.splice_desc
  let r := s.corrRect die
  code 0x40 (spliceBad d) ++
  code 0x41 (decide (294912 < r.w * r.h) || (r.w * r.h ≠ 0 && (decide (d.rect.w < r.x + r.w) || decide (d.rect.h < r.y + r.h)))) ++
  code 0x42 (!(s.on die Ob.corr_set_single) && decide (s.nat die Ob.corr_drive_hi ≤ s.nat die Ob.corr_drive_lo)) ++
  code 0x43 ((List.range 64).any (s.badMatrix die)) ++
  code 0x44 (s.isTile && die = s.checkDie && decide (s.nat die Ob.splice_rx_kb * 1024 < s.spliceNeed))

/-- The LAT commands that a group's profile uses (Table 10.2). -/
def State.usedCmds (s : State) (die g : Nat) : List Nat :=
  let cfg := s.prof die g 23 1 ≠ 0
  let opt (c : Nat) : Bool := cfg && s.latWidth die g c ≠ 0
  [0, if s.frameMem die g then 2 else 1] ++ code 3 (s.prof die g 12 1 ≠ 0) ++ code 4 cfg ++ code 5 (opt 5) ++ code 6 (opt 6)

/-- Are two members of a list equal? -/
def hasTwins : List Nat → Bool
  | [] => false
  | a :: t => t.contains a || hasTwins t

/-- Is a group's profile broken (code 0x50)? -/
def State.badProfile (s : State) (die g : Nat) : Bool :=
  let ws := (s.usedCmds die g).map (s.latWidth die g)
  s.prof die g 0 1 ≠ 1 || decide (s.chans die g < 16) || decide (48 < s.chans die g) || decide (s.wordBits die g < 8) || decide (16 < s.wordBits die g) || ws.contains 0 || hasTwins ws

/-- Is a group's line timing broken (code 0x51)? -/
def State.badTiming (s : State) (die g : Nat) : Bool :=
  let k (o : Nat) := s.grp die g o
  decide (k Ob.rg_blank_ns < k Ob.rg_blank_min_ns) || decide (s.litNs die g < (s.prof die g 4 2 + 1) * k Ob.rg_gclk_div) || decide (s.litNs die g < k Ob.rg_sense_ns) ||
    decide (k Ob.rg_blank_min_ns ≤ k Ob.rg_row_dead_ns)

/-- Twice the shift time S of R315, in ns. -/
def State.shift2 (s : State) (die g : Nat) : Nat :=
  let b := s.chans die g * s.groupD die g * s.wordBits die g * s.grp die g Ob.rg_sclk_div * (if s.bothEdges die g then 1 else 2)
  let rb := s.prof die g 12 1 * s.cmdNs die g 3
  if s.frameMem die g then s.grp die g Ob.rg_scan_lines * b + 2 * (s.cmdNs die g 2 + rb) else b + 2 * (s.cmdNs die g 1 + rb)

/-- Is a group's shift time over its limit (R315)? -/
def State.slowShift (s : State) (die g : Nat) : Bool :=
  let c := s.sched
  if s.frameMem die g then (List.range c.count).any fun v => decide (2 * schedSlot c v < s.shift2 die g * c.den)
  else decide (2 * (s.grp die g Ob.rg_line_ns - s.grp die g Ob.rg_blank_min_ns) < s.shift2 die g)

/-- Does a readback field lie beyond the record (code 0x56)? -/
def State.badReadback (s : State) (die g : Nat) : Bool :=
  let n := s.prof die g 12 1 * s.wordBits die g
  let k (o : Nat) := s.prof die g o 1
  decide (12 < k 16) || (k 12 ≠ 0 && (decide (n < k 13 + s.chans die g) || decide (n < k 14 + s.chans die g) || (k 16 ≠ 0 && decide (n < k 15 + k 16)) || decide (n < k 20 + 8)))

/-- Is a check rectangle broken (code 0x57)? -/
def State.badRect (s : State) (die n : Nat) : Bool :=
  let mode := s.nat die (atIndex Ob.rect_mode n)
  let a := s.nat die (atIndex Ob.rect_area n)
  let g := bits a 1 0
  let ks := (List.range 6).filter fun k => bit a (2 + k)
  let xy := s.nat die (atIndex Ob.rect_stream_xy n)
  mode ≠ 0 && (!(s.groupUsed die g) || decide (s.chans die g ≤ bits a 31 26) || decide (s.grp die g Ob.rg_scan_lines ≤ bits a 43 38) ||
    ks.any (fun k => !(s.chainUsed die (6 * g + k)) || decide (s.nat die (Ob.chain_drivers + 6 * g + k) ≤ bits a 19 14)) ||
    (mode = 2 && ((s.spliceIn Ob.splice_desc).format = 1 || s.dieList.any fun d => inRect (s.corrRect d) (xy % 65536) (xy / 65536))))

/-- The chain bounds (R3, R35) and the raster (Table 10.7). -/
def State.voteRaster (s : State) (die : Nat) : List Nat :=
  let c := s.sched
  let per (lamps : Nat) : Nat := lamps * 16 * (schedLit c).length * c.den * 1000000000
  let rate (k : Nat) : Nat := if s.grp die (k / 6) Ob.rg_vddio = 2 then 50000000 else 200000000
  let gs := s.groupsUsed die
  code 0x02 (s.isTile && ((List.range 24).any (fun k => decide (rate k * c.num < per (s.chainLamps die k))) || decide (4800000000 * c.num < per (s.dieLamps die)))) ++
  code 0x04 (gs.any fun g => s.prof die g 0 1 = 0) ++
  code 0x50 (gs.any (s.badProfile die)) ++
  code 0x51 (gs.any (s.badTiming die)) ++
  code 0x52 (gs.any fun g => (schedLit c).any fun v => decide (schedSlot c v < s.grp die g Ob.rg_scan_lines * s.grp die g Ob.rg_line_ns * c.den)) ++
  code 0x53 (gs.any (s.slowShift die)) ++
  code 0x54 (decide (s.nat die Ob.raster_store_kb * 1024 < 4 * s.dieLamps die)) ++
  code 0x55 (gs.any fun g => let v := s.grp die g Ob.rg_vddio; let d := s.grp die g Ob.rg_sclk_div; v = 0 || (v = 1 && decide (d < 10)) || (v = 2 && decide (d < 20))) ++
  code 0x56 (gs.any (s.badReadback die)) ++
  code 0x57 ((List.range 16).any (s.badRect die))

/-- The function groups that are linked: link, mode, threshold. -/
def State.links (s : State) : List (Nat × Nat × Nat) :=
  s.dieList.flatMap fun d => (List.range 256).filterMap fun f =>
    let k := s.nat d (atIndex Ob.fg_link f)
    if k = 0 then none else some (k, s.nat d (atIndex Ob.fg_mode f), s.nat d (atIndex Ob.fg_threshold f))

/-- Function groups (Table 11.3), trim sets (Table 16.5). -/
def State.voteCare (s : State) (die : Nat) : List Nat :=
  let l := s.links
  let set := match s.val die Ob.trim_set with
    | .blob _ _ => true
    | _ => false
  code 0x60 (l.any fun a => l.any fun b => a.1 = b.1 && a.2 ≠ b.2) ++
  code 0x62 (set && (List.range 30).any fun n => decide (8 < s.blobNum die Ob.trim_set (36 * n) 1) || !(risingInt ((s.trimPoints die n).map (·.1))))

/-- Memory (Table 12.7). -/
def State.voteMemory (s : State) (die : Nat) : List Nat :=
  let d := s.dramNeed die
  let lost := s.chState die 0 = 5 && s.chState die 1 = 5
  let top := if (s.onlyChan die).isSome then 30000000000 else 60000000000
  code 0x70 (decide (16384 < s.sramAlloc die)) ++ code 0x71 (decide (top * d.2 < d.1)) ++ code 0x72 (lost && d.1 ≠ 0)

/-- The entries of the manifest (Table 15.9): KIND, PROFILE, NODE, ARG_A, ARG_B, up to the first entry of another kind. -/
def State.manifest (s : State) : List (Nat × Nat × Nat × Nat × Nat) :=
  let b (o k : Nat) := s.blobNum 0 Ob.upd_manifest o k
  ((List.range (min 2048 (b 4 2))).map fun i => let o := 16 + 16 * i; (b o 1, b (o + 1) 1, b (o + 2) 2, b (o + 4) 4, b (o + 8) 4)).takeWhile fun e => e.1 = 1 || e.1 = 2

/-- The CRC-32C of a chain profile. -/
def State.profileCrc (s : State) (p : Nat) : Nat := crc32c (s.blobBytes 0 (atIndex Ob.chain_profile p) 0 64)

/-- An activation (Table 15.10), judged where the configuration names another image than the one running (R440). `old` holds the values in force. -/
def State.voteUpdate (s old : State) : List Nat :=
  let id := s.pw Ob.upd_activate
  if id = old.pw Ob.fw_image_id then []
  else
    let mine := s.manifest.filter fun e => e.2.2.1 = s.pw Ob.node_id
    let part := mine.find? fun e => e.1 = 1 && e.2.2.2.1 = id
    let profs := mine.filter fun e => e.1 = 2 && e.2.1 < 8
    code 0x68 (!((s.pw Ob.upd_state = 3 && s.pw Ob.upd_image_id = id) || old.pw Ob.fw_prev_image_id = id) || !(s.upd.ids.any fun e => e.2.1 = id)) ++
    code 0x69 (match part with
      | some e => e.2.2.2.2 ≠ 0 && e.2.2.2.2 ≠ s.pw Ob.fw_version
      | none => true) ++
    code 0x6A (profs.any (fun e => e.2.2.2.1 ≠ s.profileCrc e.2.1) ||
      (List.range 8).any fun p => s.profileCrc p ≠ old.profileCrc p && !(profs.any fun e => e.2.1 = p)) ++
    code 0x6C (match s.upd.ram with
      | some (i, _) => i ≠ id
      | none => true)

/-- The staged values of a commit that the journal takes (Table 15.3): all but surface data, and none of an absent die. -/
def State.journalled (s : State) : List Nat :=
  (s.staged.map (·.1)).filter fun k => !(0x4300 ≤ k / 256 % 65536 && k / 256 % 65536 < 0x4320 && k % 256 = 5) && (s.alive (k / 16777216) || k < 16777216)

/-- The bytes of the records that a commit writes, GROUP_END and commit_epoch among them. -/
def State.commitBytes (s : State) : Nat := ((s.journalled.map fun k => (s.recOf (k / 16777216) (k % 16777216) none).bytes)).sum + 128

/-- Can the journal not take a commit's records (R420, R430)? -/
def State.journalShort (s : State) : Bool :=
  let n := s.commitBytes
  s.journalFull n || decide (s.regionSectors * 4096 < ((liveRecs s.recs).map (·.len)).sum + s.backlog + n)

/-- A staged BLOB whose transfer has started and is not complete, of an object that concerns a die: part-wide ones concern the acting supervisor (log entry 79). A transfer to an absent unit's BLOB
counts as any other (DEDUCED, log entry 18). -/
def State.openBlob (s : State) (die lo hi : Nat) : Bool :=
  s.corrix.blobs.any fun e => e.2.openX && (if objPerDie (e.1 % 16777216) then e.1 / 16777216 else s.sup) = die && (match objDef (e.1 % 16777216) with
    | some d => decide (d.acc = .rws) && decide (lo ≤ e.1 / 256 % 65536) && decide (e.1 / 256 % 65536 ≤ hi)
    | none => false)

/-- Removes repeats from a list. -/
def dedup : List Nat → List Nat
  | [] => []
  | a :: t => if t.contains a then dedup t else a :: dedup t

/-- Every code that a die finds against the staged configuration (R66). -/
def State.voteOf (s : State) (die : Nat) : List Nat :=
  let t : State := { s with objs := s.overlaid }
  dedup (code 0x03 (s.openBlob die 0 65535) ++ code 0x06 (die = 1 && s.on 0 Ob.commit_flags 1) ++ t.voteSched die ++ t.voteCompose die ++ t.voteDest die ++ t.voteCam die ++ t.voteCorr die ++
    t.voteRaster die ++ t.voteCare die ++ t.voteMemory die ++ t.voteUpdate s ++ code 0x6B s.journalShort)

/-- Every code that a die finds against the values of 0x4000-0x4FFF alone (R223). -/
def State.applyVote (s : State) (die : Nat) : List Nat :=
  let top := s.staged.filter fun e => 0x4000 ≤ e.1 / 256 % 65536 && e.1 / 256 % 65536 ≤ 0x4FFF
  let t : State := { s with objs := overlay s.objs top }
  dedup (code 0x03 (s.openBlob die 0x4000 0x4FFF) ++ code 0x01 ((t.voteSched die).contains 0x01) ++ code 0x13 ((t.voteSched die).contains 0x13) ++ t.voteCompose die ++ t.voteDest die ++
    t.voteMemory die)

/-- The votes shown (R66): REFUSE_MASK, the lowest code of each die as its reason, every code in commit_refuse_codes. `votes` gives each live die's codes. -/
def State.showVotes (s : State) (votes : List (Nat × List Nat)) : State :=
  let codes (d : Nat) : List Nat := ((votes.find? fun v => v.1 = d).map (·.2)).getD []
  let s1 := s.each s.dieList fun d s =>
    (s.put d Ob.commit_refuse_reason (minOr 0 (codes d))).putBlob d Ob.commit_refuse_codes (if (codes d).isEmpty then .dflt else .blob true ((List.range 16).foldl (fun (m : SMap Byte) i =>
      smPut 0 m i (byteOf ((codes d).foldl (fun n c => if c / 8 = i then n ||| 2 ^ (c % 8) else n) 0))) []))
  s1.set Ob.commit_refuse_mask ((s.dieList.foldl (fun (n : Nat) d => if (codes d).isEmpty then n else setBit n d) 0 : Nat) : Int)

/-- REFUSE_MASK and the eight reason bytes of the last vote. -/
def State.voteBytes (s : State) : List Byte :=
  leBytes 1 (s.pw Ob.commit_refuse_mask) ++ (List.range 8).flatMap fun d => leBytes 1 (if d < s.dies then s.nat d Ob.commit_refuse_reason else 0)

end Sys2Proof.Machine
end

