-- ==== Sys2Proof/Machine/Commit.lean ====
section
/-! DEFINITION. Answers and sessions (R48, R49), and the commit state machine (R65-R72, R187, R223). -/

namespace Sys2Proof.Machine

/-! Answers -/

/-- corrix_sessions shows the entries in use. -/
def State.showSessions (s : State) : State := s.set Ob.corrix_sessions s.corrix.sessions.length

/-- The session table keeps a session's last request, most recent first, the least recently used of 16 replaced (R49). -/
def State.putSession (s : State) (m : Msg) (op : Nat) (r : Option Msg) : State :=
  if m.session = 0 then s
  else
    let e : SessionSt := { id := m.session, seq := m.seq, op := op, reply := r }
    { s with corrix := { s.corrix with sessions := (e :: s.corrix.sessions.filter fun x => x.id ≠ m.session).take 16 } }.showSessions

/-- The stored entry that a request repeats, where there is one. -/
def State.sessionHit (s : State) (m : Msg) (op : Nat) : Option SessionSt :=
  if m.session = 0 then none else s.corrix.sessions.find? fun e => e.id = m.session && e.seq = m.seq && e.op = op

/-- A request answered: BUSY and MALFORMED are counted, an executed request too; the response of any but BUSY is stored (R48, R49). -/
def State.answer (s : State) (op : Nat) (m : Msg) (status ty : Nat) (payload : List Byte) : State :=
  let r := respond m op status ty payload
  let s1 := if status = 3 then s.bump 0 Ob.corrix_busy
    else if status = 0x0E then (s.bump 0 Ob.corrix_malformed).putSession m op (some r)
    else (s.bump 0 Ob.corrix_requests).putSession m op (some r)
  s1.reply m.via op r

/-! The vote (R66) -/

/-- The live dies that do not vote: their firmware does not run. -/
def State.silentDies (s : State) : List Nat := s.aliveList.filter fun d => !(s.fwOn d)

/-- A PREPARE that waited is answered with the vote; its session keeps the response unless it has made a later request. -/
def State.answerVote (s : State) (m : Msg) (status : Nat) : State :=
  let r := respond m 0x10 status 0 s.voteBytes
  let s1 := match s.sessionHit m 0x10 with
    | some _ => s.putSession m 0x10 (some r)
    | none => s
  s1.reply m.via 0x10 r

/-- The vote ends (R66, R71): in favour, the commit ID and the part-wide staged values are mirrored, newly allocated slices wake and a ring head sends its checkpoint. -/
def State.finishVote (s : State) (v : VoteSt) (late : List Nat) : State :=
  let votes := s.aliveList.map fun d => (d, if late.contains d then [0x05] else s.voteOf d)
  let s1 := { s.showVotes votes with corrix := { s.corrix with vote := none } }
  let favour := votes.all fun e => e.2.isEmpty
  let s2 :=
    if favour then
      let t : State := { s1 with objs := s1.overlaid }
      let top := s1.staged.filter fun e => decide (e.1 < 16777216) && !(objPerDie e.1)
      let s3 : State := { s1 with corrix := { s1.corrix with mirror := some { id := v.id, staged := top, armed := none } } }
      ((s3.each s3.aliveList fun d s => s.wakeNewSlices d (t.usedSlices d) (s.usedSlices d)).sendCkpt t v.id (s3.pw Ob.commit_epoch + 1)).set Ob.commit_state cReady
    else
      (s1.when (votes.any fun e => e.2.contains 0x6B) State.noteRefused).set Ob.commit_state cStaged
  s2.each v.waiting fun m s => s.answerVote m (if favour then 0 else 0x06)

/-- VOTE_COMPLETE (R66): every live die has voted. -/
def State.voteComplete (s : State) : State := match s.corrix.vote with
  | some v => if s.silentDies.isEmpty then s.finishVote v [] else s
  | none => s

/-- VOTE_TIMEOUT (R66): a live die that has not voted within 2 ms votes against with reason 0x05. -/
def State.voteTimeout (s : State) : State := match s.corrix.vote with
  | some v => if s.past v.startAt 2000000 then s.finishVote v s.silentDies else s
  | none => s

/-- PREPARE (R66, R67). -/
def State.prepare (s : State) (m : Msg) : State :=
  let id := leAt m.payload 0 4
  match s.corrix.vote with
  | some v =>
    if v.id = id then
      ({ s with corrix := { s.corrix with vote := some { v with waiting := v.waiting ++ [m] } } }.bump 0 Ob.corrix_requests).putSession m 0x10 none
    else s.answer 0x10 m 0x08 0 []
  | none =>
    if s.commit = cIdle || s.commit = cStaged then
      let s1 := (s.set Ob.commit_id id).set Ob.commit_state cPreparing
      ({ s1 with corrix := { s1.corrix with vote := some { id := id, waiting := [m], startAt := s.now, late := [] } } }.bump 0 Ob.corrix_requests).putSession m 0x10 none
    else if s.commit = cReady && s.pw Ob.commit_id = id then s.answer 0x10 m 0 0 s.voteBytes
    else s.answer 0x10 m 0x08 0 []

/-! LAUNCH, ABORT, DISCARD (R69, R70, R72) -/

/-- The launch of the last view-frame on which work began or that launched, where it is at or after a time. -/
def State.begunPast (s : State) (t : Int) : Option Int :=
  let l := (s.launch.begun.toList ++ s.launch.lastAt.toList).filter fun b => t ≤ b
  match l with
  | [] => none
  | a :: r => some (r.foldl max a)

/-- Does the staged configuration change the schedule? -/
def State.newSched (s : State) : Bool := ({ s with objs := s.overlaid } : State).sched ≠ s.sched

/-- The launch from which an armed commit with launch time T holds (R70, R187): T, or the first view-frame not yet begun (the first frame, where the schedule changes). -/
def State.effAt (s : State) (t : Int) : Int := match s.begunPast t with
  | none => t
  | some b => match (s.vfsAround b 0 3).find? fun v => decide (b < v.at_) && (!s.newSched || v.view = 0) with
    | some v => v.at_
    | none => t

/-- The commit is armed with a launch time (R69, R71). A LAUNCH repeated with the same one changes nothing: the launches stay fixed since they were (R203). -/
def State.arm (s : State) (t : Nat) : State :=
  if s.commit = cArmed && s.int 0 Ob.commit_launch = t then s
  else
  let e := s.effAt t
  let s1 := (s.set Ob.commit_state cArmed).set Ob.commit_launch t
  { s1 with
      corrix := { s1.corrix with eff := e, mirror := s1.corrix.mirror.map fun m => ({ m with armed := some (t, s.pw Ob.commit_epoch + 1) } : MirrorSt) },
      launch := { s1.launch with armedAt := s.layNow } }

/-- What a LAUNCH does: the state and the answer's status and payload. -/
def State.launchCommit (s : State) (id t : Nat) : State × Nat × List Byte :=
  let epoch := leBytes 4 (s.pw Ob.commit_epoch + 1)
  if (s.commit = cReady || s.commit = cArmed) && s.pw Ob.commit_id = id then
    if s.commit = cReady || !(s.reached (s.int 0 Ob.commit_launch)) then (s.arm t, 0, epoch) else (s, 0, epoch)
  else match s.corrix.applied.find? fun a => a.1 = id with
    | some a => (s, 0, leBytes 4 a.2)
    | none => (s, if s.commit = cReady || s.commit = cArmed then 0x07 else 0x08, [])

/-- What an ABORT does: commit_launch shows T of the last commit applied again. A PREPARE whose vote it ends is answered BUSY (log entry 13). -/
def State.abortCommit (s : State) (id : Nat) : State × Nat :=
  if s.commit = cPreparing || s.commit = cReady || s.commit = cArmed then
    if s.pw Ob.commit_id = id then
      let ws := match s.corrix.vote with
        | some v => v.waiting
        | none => []
      let s1 := (({ s with corrix := { s.corrix with vote := none, mirror := none } }.set Ob.commit_state cStaged).set Ob.commit_launch s.corrix.lastT).ckptSettle id false
      (s1.each ws fun m s => (s.bump 0 Ob.corrix_busy).reply m.via 0x10 (respond m 0x10 0x03 0 []), 0)
    else (s, 0x07)
  else (s, 0x08)

/-- What a DISCARD does. -/
def State.discardStaged (s : State) : State × Nat :=
  if s.commit = cStaged then ({ s with staged := [] }.set Ob.commit_state cIdle, 0) else (s, 0x08)

/-! COMMIT_APPLY (R70, R187) -/

/-- The staged values that a commit brings into force: none of an absent die (R66). -/
def State.commitVals (s : State) : SMap Value := s.staged.filter fun e => s.alive (e.1 / 16777216) || (decide (e.1 < 16777216) && !(objPerDie e.1))

/-- The new schedule joined to the old one (R187). -/
def State.joinSched (s : State) (old : State) : State :=
  if s.sched = old.sched then s
  else
    let j := joinEras old.launch.past old.era s.sched old.corrix.eff old.launch.armedAt
    let s1 : State := { s with launch := { s.launch with past := j.1, start := j.2.start, fixed := j.2.fixed } }
    (s1.each s1.aliveList fun d s => s.launchFlag d 7).recomputeCaps

/-- The journal records of a commit (R423): one for each value it changed, its epoch as one of the group (DEDUCED, log entry 167), then GROUP_END. -/
def State.journalGroup (s : State) (keys : List Nat) : State :=
  let e := s.pw Ob.commit_epoch
  let s1 := s.each keys fun k s => s.queueRec (s.recOf (k / 16777216) (k % 16777216) (some e))
  let s2 := s1.queueRec (s1.recOf 0 Ob.commit_epoch (some e))
  (s2.queueRec { typ := 6, key := e, value := .num (keys.length + 1), size := 4 }).noteDeferred

/-- Sources and streams that a commit changed start afresh (R224, R247); a frame in progress completes as it began (R253), and a stream that stays enabled keeps its wait for a Frame Start (R257). -/
def State.freshInputs (s : State) (old : State) : State :=
  let cam := (List.range (4 * s.camPorts)).filter fun n => [Ob.cam_enable, Ob.cam_dt, Ob.cam_size].any fun o => s.at_ o n ≠ old.at_ o n
  (s.freshFlows old).each cam fun n s => s.setStream n fun t => { t with gen := t.gen + 1, sinceFs := if s.streamOn n && !(old.streamOn n) then s.now else t.sinceFs }

/-- The SRAM of a die laid out again where a region's size or presence changed (R355). -/
def State.relay (s : State) (old : State) (die : Nat) : State :=
  if s.sramSizes die = old.sramSizes die then s
  else
    let s1 := s.when (die = s.checkDie) fun s =>
      let n := (s.tile.rx.map fun r => r.waiting / 244).sum
      { s with tile := { s.tile with rx := s.tile.rx.map fun (r : RxFrame) => if r.verdict.isSome then r else ({ r with cells := [], read := 0, check := none } : RxFrame) } }.bump die Ob.splice_rx_drops n
    let s2 := s1.setTdie die fun t => { t with next := none, shown := none, olds := [] }
    ({ s2 with comp := { s2.comp with segs := s2.comp.segs.filter fun g => descDie g.desc ≠ die } } : State).wakeNewSlices die (s.usedSlices die) (old.usedSlices die)

/-- Groups of a die that leave use hold their resting levels (R302); entries of the fault map follow the chains (R338); the shift times are computed again (R315). -/
def State.rechain (s : State) (old : State) (die : Nat) : State :=
  let gone := (old.groupsUsed die).filter fun g => !(s.groupUsed die g)
  let s1 := s.each gone fun g s => (((s.setG die g fun _ => {}).putG die g Ob.rg_state 0).rest old die g).crossResetGroup die g |>.trimStep die (26 + g) 1023
  ((s1.remapLamps die).shiftReport die).toleranceUpdate die

/-- What a commit's values bring about at once on a die: lane groups, memory, chains. -/
def State.dieEffects (s : State) (old : State) (die : Nat) : State :=
  ((s.when (s.nat die Ob.lane_group_cfg ≠ old.nat die Ob.lane_group_cfg) fun s => s.regroup die (old.nat die Ob.lane_group_cfg)).relay old die).rechain old die

/-- COMMIT_APPLY (R70): at T the staged values come into force; view-frames before the first under the commit keep the old ones. -/
def State.commitApply (s : State) : State :=
  if s.commit ≠ cArmed || !(s.reached (s.int 0 Ob.commit_launch)) then s
  else
    let id := s.pw Ob.commit_id
    let t := s.int 0 Ob.commit_launch
    let eff := s.corrix.eff
    let vals := s.commitVals
    let new : State := { s with objs := overlay s.objs vals }
    let keys := (vals.map (·.1)).filter fun k => s.journalled.contains k
    let fade := if s.stagesFade then s.fadeLevel new t else s.launch.fadeF
    let epoch := (s.pw Ob.commit_epoch + 1) % 4294967296
    let s1 : State := { new with staged := [], launch := { s.launch with fadeF := fade, fadeOld := s.launch.fadeF } }
    let s2 := s1.joinSched s
    let first := ((s2.vfsAround eff 1 3).find? fun v => eff ≤ v.at_).map (·.at_)
    let s3 : State :=
      { s2 with corrix := { s2.corrix with vote := none, mirror := none, capply := none, lastT := t.toNat, before := some (eff, s.objs), applied := (id, epoch) :: s2.corrix.applied } }
    let s4 := ((s3.set Ob.commit_state cIdle).set Ob.commit_epoch epoch).set Ob.commit_applied_at (if eff ≠ t && s.newSched then eff else first.getD eff)
    let s5 := (s4.when (eff ≠ t) fun s => s.markFlag 0 Ob.commit_flags 0).journalGroup keys
    let s6 := (((s5.each s5.aliveList fun d x => x.dieEffects s d).moveRings s).freshInputs s).surfacesBack
    (((s6.each s6.aliveList fun d s => s.judgeGroups d).checkLead).ckptSettle id true).activate t

/-! compose_apply (R223) -/

/-- A write of 1 to compose_apply: the vote, 0x05 for a die whose firmware does not run (R66), and the values voted on set aside for the first frame whose view-0 send start lies 1 ms ahead or more. The status: OK, BUSY or COMMIT_REFUSED. -/
def State.composeApply (s : State) : State × Nat :=
  if s.commit = cPreparing || s.commit = cReady || s.commit = cArmed then (s, 0x03)
  else
    let votes := s.aliveList.map fun d => (d, if s.fwOn d then s.applyVote d else [0x05])
    let s1 := s.showVotes votes
    if votes.any fun e => !(e.2.isEmpty) then (s1, 0x06)
    else
      let top := s.staged.filter fun e => 0x4000 ≤ e.1 / 256 % 65536 && e.1 / 256 % 65536 ≤ 0x4FFF
      let soon : Int := s.layNow + 1000000 * layNs
      match (s.vfsAround (soon + s.lead) 1 3).find? fun v => v.view = 0 && decide (soon ≤ s.sendStartOf v) with
      | some v => ({ s1 with corrix := { s1.corrix with capply := some (v.at_, top) } }, 0)
      | none => (s1, 0)

end Sys2Proof.Machine
end

