-- ==== Sys2Proof/Machine/TimeStep.lean ====
section
/-! DEFINITION. A step of Lay time at S (R92, R93, R188): every pending Lay time the part holds moves with it; past records do not. -/

namespace Sys2Proof.Machine

/-- A Lay object moved, never below 0. -/
def moveObj (m : SMap Value) (k : Nat) (d : Int) : SMap Value :=
  match smGet .dflt m k with
  | .num n => let v := max 0 (n + d); smPut .dflt m k (.num v)
  | _ => m

/-- frame_origin and fade_start moved in a set of values (R188); one at its default counts from 0. -/
def moveOrigins (m : SMap Value) (d : Int) : SMap Value :=
  let put (m : SMap Value) (k : Nat) : SMap Value :=
    let v : Int := match smGet Value.dflt m k with
      | .num n => max 0 (n + d)
      | _ => max 0 d
    smPut Value.dflt m k (if v = 0 then Value.dflt else Value.num v)
  put (put m Ob.frame_origin) Ob.fade_start

/-- A staged value moved where one is staged. -/
def moveStaged (m : SMap Value) (d : Int) : SMap Value := moveObj (moveObj m Ob.frame_origin d) Ob.fade_start d

/-- A Lay time that may be absent, moved. -/
def moveOpt (o : Option Int) (d : Int) : Option Int := o.map (· + d)

/-- An era moved. -/
def moveEra (d : Int) (e : Era) : Era :=
  { e with sched := { e.sched with origin := e.sched.origin + d }, fixed := e.fixed + d, start := moveOpt e.start d, cut := moveOpt e.cut d, stop := moveOpt e.stop d }

/-- A ring descriptor with its DUE moved (R93, R194). -/
def State.moveDue (s : State) (d : Int) (desc : Nat) : Nat :=
  let due := ((s.expandDue (descDue desc) + d) / (1000 * layNs)).toNat % 4194304
  desc % 2 ^ 106 + due * 2 ^ 106

/-- A waiting CHECK cell with its LAUNCH_AT moved. -/
def moveCheck (d : Int) (c : Cell) : Cell :=
  mkCell c.cls c.kind c.node c.spec (c.payload.take 8 ++ layBytes ((layAt c.payload 8 : Int) + d).toNat ++ c.payload.drop 20)

/-- The descriptors posted moved in DRAM. -/
def State.moveDues (s : State) (d : Int) : State :=
  s.each (s.launch.rings.map (·.1)) fun r s => s.each (List.range s.ringDepth) fun i s =>
    let x := s.slotDesc r i
    if bit x 0 then s.putSlot r i (s.moveDue d x) else s

/-- The sending side moved: eras, launches, CHECK cells. -/
def State.moveLaunch (s : State) (d : Int) : LaunchSt :=
  let l := s.launch
  { l with
      past := l.past.map (moveEra d), start := moveOpt l.start d, fixed := l.fixed + d, armedAt := l.armedAt + d, begun := moveOpt l.begun d,
      lastAt := moveOpt l.lastAt d,
      checks := l.checks.map fun e => (e.1, e.2.map fun x => (x.1, moveCheck d x.2)),
      gather := l.gather.map fun c => ({ c with at_ := c.at_ + d } : CheckSt) }

/-- Composition moved. -/
def State.moveComp (s : State) (d : Int) : ComposeSt :=
  let c := s.comp
  { c with
      works := c.works.map fun w => ({ w with at_ := w.at_ + d } : Work),
      packs := c.packs.map fun p => ({ p with at_ := p.at_ + d } : PackSt),
      segs := c.segs.map fun g => ({ g with desc := s.moveDue d g.desc } : SegSt),
      lastAt := moveOpt c.lastAt d,
      exported := c.exported.map fun e => (e.1, e.2 + d) }

/-- A store half moved. -/
def moveHalf (d : Int) (h : Half) : Half := { h with at_ := h.at_ + d }

/-- A chain group moved. -/
def moveGroup (d : Int) (g : GroupSt) : GroupSt :=
  { g with at_ := g.at_ + d, shiftAt := moveOpt g.shiftAt d, ready := g.ready.map fun r => (r.1 + d, r.2 + d), units := g.units.map fun u => (u.1, u.2 + d),
           lineAt := g.lineAt + d, resume := moveOpt g.resume d, from_ := g.from_ + d, freeAt := g.freeAt + d, rbHalf := g.rbHalf.map (moveHalf d), wait := g.wait.map fun v => { v with at_ := v.at_ + d },
           shows := moveOpt g.shows d, fill := g.fill.map fun v => { v with at_ := v.at_ + d } }

/-- A tile die moved. -/
def moveTdie (d : Int) (t : TileDie) : TileDie :=
  { t with next := t.next.map (moveHalf d), shown := t.shown.map (moveHalf d), olds := t.olds.map (moveHalf d), lastAt := moveOpt t.lastAt d,
           groups := t.groups.map fun e => (e.1, moveGroup d e.2), patches := t.patches.map fun e => (e.1 + d, e.2), sets := t.sets.map fun e => (e.1 + d, e.2),
           blanks := t.blanks.map fun e => (e.1, moveOpt e.2 d) }

/-- The tile side moved. -/
def State.moveTile (s : State) (d : Int) : TileSt :=
  { s.tile with rx := s.tile.rx.map fun r => ({ r with at_ := r.at_ + d } : RxFrame), dies := s.tile.dies.map fun e => (e.1, moveTdie d e.2) }

/-- A LAY_EVT output moved: its start, its pulse in progress, the pulses of captures. -/
def moveEvt (d : Int) (e : EvtSt) : EvtSt :=
  { e with endAt := moveOpt e.endAt d, lastAt := e.lastAt + d, shift := e.shift + d, wroteAt := moveOpt e.wroteAt d, olds := e.olds.map fun o => (o.1, (o.2.set 1 (o.2.getD 1 0 + d)).set 8 (o.2.getD 8 0 + d)), pulses := e.pulses.map fun p => (p.1 + d, p.2) }

/-- A commit moved: T, its first view-frame, the span of the values before it. -/
def State.moveCorrix (s : State) (d : Int) : CorrixSt :=
  let c := s.corrix
  { c with
      eff := c.eff + d,
      before := c.before.map fun b => (b.1 + d, moveOrigins b.2 d),
      capply := c.capply.map fun a => (a.1 + d, a.2),
      mirror := c.mirror.map fun m => ({ m with staged := moveStaged m.staged d, armed := m.armed.map fun a => (((a.1 : Int) + d).toNat, a.2) } : MirrorSt) }

/-- A knot's window moved to the window nearest (R93). -/
def State.moveKnot (s : State) (d : Int) (k : Knot) : Knot :=
  { k with window := ((((k.window * s.windowLen : Nat) : Int) + d + s.windowLen / 2) / s.windowLen % 4294967296).toNat }

/-- Captures armed or triggered: their trigger times moved. -/
def State.moveCaps (s : State) (d : Int) : State :=
  s.each (slots.filter fun k => s.at_ Ob.cap_state k = 1 || s.at_ Ob.cap_state k = 2) fun k s =>
    s.set (atIndex Ob.cap_trigger_at k) (max 0 (s.int 0 (atIndex Ob.cap_trigger_at k) + d))

/-- Every pending Lay time of the part moved by an amount (R93). -/
def State.movePending (s : State) (d : Int) : State :=
  let s1 := ((s.when (s.commit = cArmed) fun s => s.set Ob.commit_launch (max 0 (s.int 0 Ob.commit_launch + d))).moveCaps d).moveDues d
  let s2 : State :=
    { s1 with
        objs := moveOrigins s1.objs d, staged := moveStaged s1.staged d, launch := s1.moveLaunch d, comp := s1.moveComp d, tile := s1.moveTile d,
        corrix := s1.moveCorrix d, knots := s1.knots.map (s1.moveKnot d) }
  let s3 : State :=
    { s2 with
        boot := { s2.boot with litAt := s2.boot.litAt + d }
        lay := { s2.lay with evts := s2.lay.evts.map fun e => (e.1, moveEvt d e.2) },
        ports := s2.ports.map fun e => (e.1, { e.2 with req := e.2.req.map fun q => (q.1, ((q.2.1 : Int) + d).toNat, q.2.2) }) }
  { s3 with
      upd := { s3.upd with act := s3.upd.act.map fun a => ({ a with at_ := a.at_ + d } : ActSt), pause := moveOpt s3.upd.pause d },
      boot := { s3.boot with resume := s3.boot.resume.map fun e => (e.1, e.2 + d) },
      red := { s3.red with sendFrom := s3.red.sendFrom + d } }

/-- STEP_APPLIED (R92, R93): at S the amount is added to Lay time and to every pending Lay time; it is recorded and flagged; an offset found meanwhile is handled now. A die that holds over alone steps with the part (DESIGN CHOICE, log entry 123). -/
def State.stepApplied (s : State) : State :=
  match s.lay.step with
  | none => s
  | some (at_, d) =>
    if s.layNow < at_ then s
    else
      let s0 := (s.movePending d).shiftLay d
      let s1 : State := { s0 with lay := { s0.lay with holds := s0.lay.holds.map fun h => (h.1, { h.2 with fine := ((h.2.fine : Int) + d * 4294967296).toNat }) } }
      let s2 := ((s1.set Ob.lay_step_last_at at_).set Ob.lay_step_last_mag d.natAbs).set Ob.lay_step_last_neg (b2n (d < 0))
      let s3 := (({ s2 with lay := { s2.lay with step := none, stepDoneAt := some s2.now, wanted := none, refused := none } }.set Ob.lay_step_at 0).showPending 0).raise 0 Ob.lay_flags 5
      match s.lay.wanted with
      | some off => s3.timeChange off
      | none => s3

end Sys2Proof.Machine
end

