-- ==== Sys2Proof/Machine/Live.lean ====
section
/-! DEFINITION. Objects of absent units (R8), and the objects whose value is found when they are read. -/

namespace Sys2Proof.Machine

/-- Is a key a per-lane or per-port object (its subindex is the lane + 1)? -/
def laneObject (key : Nat) : Bool :=
  inKeys key 0x1230 0x1233 1 8 || inKeys key 0x1340 0x1340 1 8 || inKeys key 0x2001 0x2029 1 8 || inKeys key 0x2800 0x2839 1 8

/-- Does an object belong to a unit that the variant, or the die, does not have (R8, R142, R186, R208, R211, R239)? Destinations, launch rings and the objects
of ring heads belong to no unit that a variant lacks (DEDUCED, log entry 169). -/
def State.absent (s : State) (die key : Nat) : Bool :=
  let i := key / 256
  let span (lo hi : Nat) : Bool := decide (lo ≤ i) && decide (i ≤ hi)
  (decide (s.laneCount = 4) && laneObject key && decide (5 ≤ key % 256)) ||
  (!s.big && (span 0x2030 0x2034 || inKeys key 0x1260 0x1263 2 2 || span 0x4000 0x4FFF || span 0x5000 0x53FF)) ||
  (decide (s.dies = 4) && inKeys key 0x4003 0x4003 5 8) ||
  (span 0x4100 0x42FF && decide (s.layerCount ≤ i % 256)) ||
  (span 0x4300 0x43FF && decide (s.layerCount ≤ i % 256)) ||
  (span 0x4400 0x44FF && decide (s.sourceCount ≤ i % 256)) ||
  (decide (s.camPorts ≤ die) && (span 0x5001 0x5005)) ||
  ((span 0x5000 0x5000 || span 0x5006 0x5007) && decide (s.camPorts < key % 256)) ||
  (span 0x5100 0x52FF && decide (4 * s.camPorts ≤ i % 256))

/-- KB of a number of bytes, rounded up. -/
def ceilKb (n : Nat) : Nat := ceilDiv n 1024

/-- red_down_alive of a port: ms since its last class-0 cell; saturates (R404). -/
def State.downAlive (s : State) (p : Nat) : Nat :=
  match (s.port p).class0At with
  | some t => min 65535 ((s.now - t) / 1000000)
  | none => 65535

/-- Is a record of the set in force identity (R286)? -/
def State.identityRec (s : State) (die q : Nat) : Bool :=
  (List.range (s.nat die Ob.corr_lamps)).all fun lamp => (List.range 3).all fun j => [0, 1].all fun level => s.recEntry die q level lamp j = if lamp = j then 8192 else 0

/-- corr_status of a die: [0] the set in force is used at one level only, [1] every record identity: those with a byte that is not 0 are looked at (R286, R288). -/
def State.corrStatus (s : State) (die : Nat) : Nat :=
  let ident := match s.val die Ob.corr_set_records with
    | .blob _ m => m.all fun e => s.identityRec die (e.1 / 48)
    | _ => true
  b2n (s.singleLevel die) + 2 * b2n ident

/-- The value in force of a numeric object, as a read finds it. -/
def State.liveInt (s : State) (die key : Nat) : Int :=
  if s.absent die key then objDflt key
  else if key = Ob.identity then s.identity
  else if key = Ob.die_count then s.dies
  else if key = Ob.mgmt_mac then s.fuses.mac
  else if key = Ob.eth_mac then (smGet 0 s.fuses.ethMac die : Nat)
  else if key = Ob.chain_demand then s.chainDemand die
  else if key = Ob.compose_demand then s.composeDemand die
  else if key = Ob.compose_fetch then s.composeFetch die
  else if key = Ob.dram_demand then s.dramDemand die
  else if key = Ob.lay_now then s.layNow
  else if key = Ob.local_count then s.localCount die
  else if key = Ob.ptp_time_a then s.ptpTime 0
  else if key = ptpKey Ob.ptp_time_a 1 then s.ptpTime 1
  else if key = Ob.ptp_state_a then s.ptpState 0
  else if key = ptpKey Ob.ptp_state_a 1 then s.ptpState 1
  else if key = Ob.knot_depth then s.knotDepth
  else if key = Ob.knot_entries then s.knots.length
  else if key = Ob.launch_lead_min_ns then s.leadMin
  else if key = Ob.cam_load then s.camLoad die
  else if key = Ob.cam_fcam then ceilDiv (s.fcam die) 1000000000
  else if key = Ob.corr_status then s.corrStatus die
  else if key = Ob.sram_alloc_kb then s.sramAlloc die
  else if key = Ob.dram_tolerance_ns then s.memTolerance die
  else if key = Ob.silt_free_kb then s.freeKb
  else if key = Ob.silt_backlog_kb then ceilKb s.backlog
  else if key = Ob.silt_deferred_kb then ceilKb s.deferred
  else if key = Ob.red_arb_state then (if !s.watches then 0 else if s.int 0 key = 2 then 2 else 1)
  else if key = Ob.silt_seq then s.journal.seq
  else if key = Ob.silt_records then (liveRecs s.recs).length
  else if inKeys key 0x1340 0x1340 1 8 then s.downAlive (laneKey die (key % 256 - 1))
  else if key = Ob.therm_throttle_ms then
    s.int die key + (match (s.thermOf die).from_ with
      | some t => (((s.now - t) / 1000000 : Nat) : Int)
      | none => 0)
  else if inKeys key 0x9033 0x9033 1 11 then (if s.past s.boot.releaseAt ((s.int die key).toNat * 1000000) then s.int die key else 0)
  else if inKeys key 0x1512 0x1512 1 48 then s.trimTarget die (key % 256 - 1)
  else if inKeys key 0x7D00 0x7DFF 5 5 then min 65535 (s.fgFailed die (key / 256 - 0x7D00))
  else s.int die key

/-- The knot log as it reads: the last 32 knots delivered, oldest first (R178). -/
def State.logBytes (s : State) : List Byte := fitBytes 5376 (s.knotLog.flatMap knotBytes)

/-- The bytes of a BLOB in force, as a read finds them. -/
def State.liveBytes (s : State) (die key off n : Nat) : List Byte :=
  if s.absent die key then (List.range n).map fun i => s.blobDflt key (off + i)
  else if key = Ob.route_nodes then fitBytes n ((nodeBytes s.routeNodes).drop off)
  else if key = Ob.knot_log then fitBytes n (s.logBytes.drop off)
  else if key = Ob.fault_map then s.faultBytes die off n
  else if key = Ob.upd_image then s.imgBytes off n
  else if inKeys key 0x5300 0x533F 13 13 then smRun 0 (smGet [] s.cam.data (key / 256 - 0x5300)) off n
  else s.blobBytes die key off n

/-- The value a READ returns: the staged one of an rws object, unless ACTIVE asks for the one in force (R17, R45). -/
def State.readInt (s : State) (die key : Nat) (acc : Acc) (active : Bool) : Int :=
  if acc = .rws && !active && !(s.absent die key) then s.stagedInt die key else s.liveInt die key

/-- The bytes of a BLOB that a READ or READ_SEG returns: staged or in force. -/
def State.readBytes (s : State) (die key off n : Nat) (acc : Acc) (active : Bool) : List Byte :=
  let v := smGet .dflt s.staged (fullKey die key)
  if acc = .rws && !active && !(s.absent die key) && v ≠ .dflt then (List.range n).map fun i => s.byteIn die v key (off + i)
  else s.liveBytes die key off n

end Sys2Proof.Machine
end

