-- ==== Sys2Proof/Machine/Access.lean ====
section
/-! DEFINITION. Reads and writes of objects: clamping (R59, R453), access (R17), effects of a write, blob transfers (R61-R63, R495-R497), direct part-wide writes (R64). -/

namespace Sys2Proof.Machine

/-! Clamping -/

/-- Fields of 16 bits, each held to 4,095 (cam_black). -/
def clampBlack (v : Nat) : Nat := ((List.range 4).map fun i => min 4095 (bits v (16 * i + 15) (16 * i)) * 65536 ^ i).sum

/-- A written value as the object can take it (R59): its row's clamp, and the objects whose bounds depend on the variant, on a neighbour or on several fields. -/
def State.clampVal (s : State) (die key : Nat) (d : ObjDef) (v : Int) : Int :=
  let n := v.toNat
  let w := clampRow d.clamp d.dflt v
  if key = Ob.lane_group_cfg then
    let f (x : Nat) : Nat := if x = 3 then 0 else x
    f (n % 4) + (if s.laneCount = 4 then 0 else 4 * f (n / 4 % 4))
  else if key = Ob.lay_ref_priority then if (List.range 4).any fun i => decide (5 < bits n (4 * i + 3) (4 * i)) then 5 else v
  else if inKeys key 0x4400 0x443F 6 6 then if n % 4 = 3 then n - 3 else n
  else if inKeys key 0x5100 0x510F 8 8 then clampBlack n
  else if key = Ob.role_mode then
    if !s.big then 0 else if n ≤ 2 then v else if bit (s.pw Ob.boot_straps) 3 then 2 else 0
  else if key = Ob.view_count then min w s.maxViews
  else if key = Ob.view_offset_ns then 0
  else if inKeys key 0x7010 0x7013 14 14 then
    if n = 2 && !(s.frameMem die (key / 256 - 0x7010)) then 1 else w
  else if key = Ob.silt_tamp_high_pct then max w (s.pw Ob.silt_tamp_low_pct + 5)
  else if key = Ob.therm_warn_c then min w (s.int 0 Ob.therm_throttle_c - 16)
  else if key = Ob.therm_throttle_c then min (max w (s.int 0 Ob.therm_warn_c + 16)) (s.int 0 Ob.therm_shutdown_c - 16)
  else if key = Ob.therm_shutdown_c then max w (s.int 0 Ob.therm_throttle_c + 16)
  else w

/-- The bytes of a BLOB less its reserved bits. -/
def blobMasked (key : Nat) (buf : SMap Byte) : SMap Byte := (buf.map fun e => (e.1, e.2 &&& blobMask key e.1)).filter fun e => e.2 ≠ 0

/-! Effects of writes -/

/-- Which item of a run of objects a key is, if one. -/
def item (key first n : Nat) : Option Nat := if first ≤ key && key < first + n then some (key - first) else none

/-- What comes before a write of an rw object: the present settings of a LAY_EVT output are kept for 1 ms (R112, R203). -/
def State.touch (s : State) (key : Nat) : State :=
  if inKeys key 0x1280 0x1285 1 4 || inKeys key 0x3010 0x3011 1 4 then s.evtTouched (key % 256 - 1) else s

/-- The REFCLK that refclk_sel names is used while it is valid (R385). -/
def State.selEffect (s : State) (die : Nat) : State :=
  let k := s.nat die Ob.refclk_sel
  if s.on die Ob.refclk_valid k && s.nat die Ob.refclk_active = 1 - k then (s.put die Ob.refclk_active k).bump die Ob.refclk_switches else s

/-- What a write of an rw or rwp object brings about at once; `old` is the value before it. One of eth_an_enable does nothing until the Ethernet pair next restarts (DESIGN CHOICE, log entry 173). -/
def State.wrote (s : State) (die key old : Nat) : State :=
  match item key Ob.lane_enable 8, item key Ob.lane_tx_preset 8, item key Ob.lane_tx_ffe 8, item key Ob.lane_sleep 8 with
  | some l, _, _, _ => s.enableEffect die l
  | _, some l, _, _ => (s.presetEffect die l).swingNow die l
  | _, _, some l, _ => (s.presetEffect die l).swingNow die l
  | _, _, _, some l => s.sleepEffect die l old
  | _, _, _, _ =>
    match item key Ob.lane_loop 8, item key Ob.prbs_gen 8, item key Ob.prbs_chk 8, item key Ob.sram_slice_mode 8 with
    | some l, _, _, _ => s.loopEffect die l
    | _, some l, _, _ => s.testEffect die l
    | _, _, some l, _ => s.chkEffect die l
    | _, _, _, some n => s.sliceModeEffect die n
    | _, _, _, _ =>
      if key = Ob.lane_pair_mode then s.pairEffect die old
      else if key = Ob.sram_bist_mode then s.bistModeEffect die old
      else if key = Ob.refclk_sel then s.selEffect die
      else if inKeys key 0x1240 0x1243 0 0 then s.ptpRestart 0
      else if inKeys key 0x1250 0x1253 0 0 then s.ptpRestart 1
      else if key = Ob.lay_ref_priority || key = Ob.lay_ref_revert then (if s.isRoot then s.refListWritten else s)
      else if key = Ob.enum_id_first || key = Ob.enum_id_last then s.headId
      else if key = Ob.fwd_down_port || (item key Ob.port_role 8).isSome then s.chooseDown
      else if key = Ob.red_ring_port && s.pw Ob.red_ring_port = 0xFF then s.set Ob.red_head_state 0
      else if inKeys key 0x7010 0x7013 14 14 then s.srModeEffect die (key / 256 - 0x7010) old
      else if key = Ob.fault_confirm then s.each s.aliveList fun d s => s.judgeGroups d
      else s

/-- A write of 1s to a w1c object (R17): the bits clear, and what they held up goes on (R316, R328, R344, R450). -/
def State.clearFlags (s : State) (die key mask : Nat) : State :=
  let old := s.nat die key
  if inKeys key 0x7D00 0x7DFF 6 6 then (if bit mask 0 then s.clearBlank die (key / 256 - 0x7D00) else s)
  else
    let mask := if key = Ob.compose_flags && die = 0 && !s.surfacesWhole then clearBit mask 5 else mask
    let s1 := s.put die key (clearMask old mask)
    if key = Ob.therm_sensor_broken then s1.sensorsCleared die (mask &&& old)
    else if inKeys key 0x7010 0x7013 27 27 && mask &&& old ≠ 0 then s1.outCleared die (key / 256 - 0x7010) (mask &&& old)
    else s1

/-- A write of a wo object: what it starts, and the status. part_reset acts after its response (R392). -/
def State.pull (s : State) (die key : Nat) (v : Int) : State × Nat :=
  if key = Ob.lay_time_set then (s.timeSet v.toNat, 0)
  else if key = Ob.fault_write then (s.faultWrite die v.toNat, 0)
  else if v ≠ 1 then (s, 0)
  else if key = Ob.compose_apply then s.composeApply
  else if key = Ob.lay_root_handback then (s.handback, 0)
  else if key = Ob.lay_step_accept then (s.stepAccept, 0)
  else if key = Ob.enum_start then (s.enumStart, 0)
  else if key = Ob.enum_id_forget then ({ s with net := { s.net with forget := true } }, 0)
  else if key = Ob.knot_ack then (s.knotAck, 0)
  else if key = Ob.red_sup_rejoin then (s.rejoin, 0)
  else if key = Ob.red_declare then (s.declare, 0)
  else if key = Ob.upd_abort then (s.updClear, 0)
  else if key = Ob.dram_maint_sweep then (s.sweepStart die, 0)
  else if inKeys key 0x5300 0x533F 8 8 then (s.capArm (key / 256 - 0x5300), 0)
  else if inKeys key 0x5300 0x533F 14 14 then (s.capRelease (key / 256 - 0x5300), 0)
  else (s, 0)

/-- An rws write in IDLE enters STAGED (Table 2.9). -/
def State.noteStaged (s : State) : State := if s.commit = cIdle then s.set Ob.commit_state cStaged else s

/-- A value staged. -/
def State.stage (s : State) (die key : Nat) (v : Value) : State :=
  { s with staged := smPut .dflt s.staged (fullKey die key) v }.noteStaged

/-- A decoded value written to an object of fixed size on one die, by its access code; an object of an absent unit ignores it (R8). -/
def State.writeOne (s : State) (die key : Nat) (d : ObjDef) (v0 : Int) : State × Nat :=
  let v := s.clampVal die key d v0
  let old := s.nat die key
  if s.absent die key then (s, 0)
  else match d.acc with
  | .ro => (s, 0x02)
  | .rw => ((((s.touch key).put die key v).wrote die key old), 0)
  | .rwp => (((s.keep die key v).noteDeferred).wrote die key old, 0)
  | .rws => (s.stage die key (Value.num v), 0)
  | .w1c => (s.clearFlags die key v.toNat, 0)
  | .wo => s.pull die key v

/-! Which requests can be served (R38, R51, R58, R445) -/

/-- Does a die answer over Braid: it is live and its firmware runs? -/
def State.answers (s : State) (die : Nat) : Bool := s.alive die && (s.fwOn die || s.boot.recovery)

/-- Objects that the ROM serves in recovery mode (R445). -/
def romServes (key : Nat) : Bool :=
  [Ob.identity, Ob.upd_image, Ob.upd_bitmap, Ob.upd_state, Ob.upd_reason, Ob.upd_image_id].contains key

/-- The row of the object a request addresses; none where the index, the subindex or the die does not exist (R38, R73). -/
def State.found (s : State) (m : Msg) : Option ObjDef :=
  if (s.dies ≤ m.die && m.die ≠ 15) || (s.boot.recovery && !(romServes m.key)) then none else objDef m.key

/-- The die that holds what a request addresses: die 0 for a part-wide object (R39). -/
def homeDie (d : ObjDef) (m : Msg) : Nat := if d.perDie then m.die else 0

/-- A write of an object on a die held back as BUSY whatever its value (R68, R92, R430). -/
def State.lockedOn (s : State) (d : ObjDef) (key die : Nat) : Bool :=
  (d.acc = .rws && (s.commit = cPreparing || s.commit = cReady || s.commit = cArmed)) ||
  (d.acc = .rwp && s.journalFull (s.recOf die key none).bytes) ||
  (key = Ob.lay_time_set && s.isRoot && s.lay.step.isSome)

/-- A write of one object held back as BUSY. -/
def State.locked (s : State) (d : ObjDef) (m : Msg) : Bool := s.lockedOn d m.key (homeDie d m)

/-! READ (R40, R495) -/

/-- What a READ answers: status and payload. -/
def State.readOut (s : State) (m : Msg) : Nat × List Byte := match s.found m with
  | none => (0x01, [])
  | some d =>
    let key := m.key
    let size := s.blobSize key
    let active := bit m.flags 2
    if d.acc = .wo || (d.ty = .blob && decide (224 < size)) then (0x02, [])
    else if key = Ob.therm_level && m.die = 15 then (0, encodeVal d.ty (maxOr 0 (s.dieList.map fun n => s.nat n key) : Nat))
    else if d.perDie && m.die = 15 then
      if d.ty = .blob || d.ty = .str then (0x02, [])
      else
        let fail := (s.dieList.filter fun n => !(s.answers n)).foldl setBit 0
        (if fail = 0 then 0 else 0x04,
          byteOf fail :: s.dieList.flatMap fun n => encodeVal d.ty (if s.answers n then s.readInt n key d.acc active else d.dflt))
    else
      let die := homeDie d m
      if d.perDie && !(s.answers die) then (0x03, [])
      else if d.ty = .blob then (0, s.readBytes die key 0 size d.acc active)
      else (0, encodeVal d.ty (s.readInt die key d.acc active))

/-! Blob transfers -/

/-- The transfer of a blob. -/
def State.xfer (s : State) (k : Nat) : Xfer := smGet {} s.corrix.blobs k

/-- The transfer of a blob changed. -/
def State.setXfer (s : State) (k : Nat) (x : Xfer) : State := { s with corrix := { s.corrix with blobs := smPut {} s.corrix.blobs k x } }

/-- A complete transfer: the value, less its reserved bits (R18), replaces the old one as a whole (R63); an absent unit ignores it. -/
def State.blobDone (s : State) (die key : Nat) (d : ObjDef) (raw : SMap Byte) : State :=
  let buf := blobMasked key raw
  if s.absent die key then s
  else match d.acc with
  | .rws => s.stage die key (.blob true buf)
  | .rwp => ((s.putBlob die key (.blob true buf)).persist die key).noteDeferred
  | .wo => (s.corrPatch die (smRun 0 buf 0 52)).1
  | _ => s.putBlob die key (.blob true buf)

/-- A segment of the update image (R433-R436), whose transfer a session holds by R62 until every segment is complete. -/
def State.imageSegment (s : State) (session off : Nat) (data : List Byte) : State × Nat × Nat :=
  let r := s.updWrite off data
  let whole := r.1.upd.passed && decide (r.1.imgSegs ≤ popCount 2048 r.1.upd.bits)
  let x := s.xfer Ob.upd_image
  (if r.2.1 = 0 then r.1.setXfer Ob.upd_image { x with holder := if whole then none else some session, lastAt := s.now, openX := !whole }
   else if x.holder.isSome then r.1.setXfer Ob.upd_image { x with lastAt := s.now }
   else r.1, r.2)

/-- A segment of a blob (R61, R62): the state, the status and FILL. Once a hold is released, any session may go on where the transfer stands (DESIGN CHOICE, log entry 170). -/
def State.segment (s : State) (session die key : Nat) (d : ObjDef) (off : Nat) (data : List Byte) (last : Bool) : State × Nat × Nat :=
  let k := fullKey die key
  let x := s.xfer k
  if x.holder.any fun h => decide (h ≠ session) then (s, 0x03, 0)
  else if key = Ob.upd_image then s.imageSegment session off data
  else if key = Ob.corr_patch && last && 64 ≤ (s.tdie die).patches.length then (s, 0x03, 0)
  else if x.fill < off then ((if x.holder.isSome then s.setXfer k { x with lastAt := s.now } else s), 0x05, x.fill)
  else
    let size := s.blobSize key
    let buf := smPutAll 0 (if off = 0 then [] else x.buf) off (data.take (size - off))
    let fill := min size (max (if off = 0 then 0 else x.fill) (off + data.length))
    let s1 := s.setXfer k { fill := fill, buf := buf, holder := if last then none else some session, lastAt := s.now, openX := !last }
    let s2 := if d.acc = .rws && !(s.absent die key) then s1.noteStaged else s1
    (if last then s2.blobDone die key d buf else s2, 0, fill)

/-- BLOB_HOLD_RELEASE (R62): with no segment for blob_idle_s, a session's hold on a blob is released; FILL stays. -/
def State.holdRelease (s : State) : State :=
  s.each (s.corrix.blobs.filter fun e => e.2.holder.isSome && s.past e.2.lastAt (s.pw Ob.blob_idle_s * 1000000000)) fun e s =>
    s.setXfer e.1 { e.2 with holder := none }

/-- A blob that READ_SEG or WRITE_SEG addresses: the status that refuses it, or the row (R58, R496). -/
def State.segTarget (s : State) (m : Msg) (write : Bool) : Nat × Option ObjDef := match s.found m with
  | none => (0x01, none)
  | some d =>
    if d.ty ≠ .blob || (d.perDie && m.die = 15) || (if write then d.acc = .ro || d.acc = .w1c else d.acc = .wo) then (0x02, none)
    else if (d.perDie && !(s.answers m.die)) || (write && s.locked d m) then (0x03, none)
    else (0, some d)

/-- FILL of a BLOB: of cap_data the bytes that its slot has written (R261), of another those that the open or last transfer wrote. -/
def State.fillOf (s : State) (die key : Nat) : Nat :=
  let k := key / 256 % 65536
  if 0x5300 ≤ k && k < 0x5340 && key % 256 = 13 then smGet 0 s.cam.fill (k - 0x5300) else (s.xfer (fullKey die key)).fill

/-- READ_SEG (R61, R63, R496). The update image keeps a fill for each segment and no FILL of its own: that one is a free value. -/
def State.readSegOut (s : State) (m : Msg) : State × Nat × List Byte := match s.segTarget m false with
  | (st, none) => (s, st, [])
  | (_, some d) =>
    let off := leAt m.payload 0 4
    let count := leAt m.payload 4 2
    let die := homeDie d m
    let size := s.blobSize m.key
    if count ≠ 0 then (s, 0, leBytes 4 off ++ s.readBytes die m.key off (min count (size - off)) d.acc false)
    else if m.key = Ob.upd_image then (s.draw.2, 0, leBytes 4 (s.draw.1 % (size + 1)) ++ leBytes 4 size)
    else (s, 0, leBytes 4 (s.fillOf die m.key) ++ leBytes 4 size)

/-- WRITE_SEG. -/
def State.writeSegIn (s : State) (m : Msg) : State × Nat × List Byte := match s.segTarget m true with
  | (st, none) => (s, st, [])
  | (_, some d) =>
    let r := s.segment m.session (homeDie d m) m.key d (leAt m.payload 0 4) (m.payload.drop 4) (bit m.flags 3)
    (r.1, r.2.1, if r.2.1 = 3 then [] else leBytes 4 r.2.2)

/-! WRITE (R47, R58, R64, R497) -/

/-- A WRITE whose TYPE, or for a fixed-size type whose LEN, is not the object's (R47). -/
def badWrite (m : Msg) : Bool := match objDef m.key with
  | some d => m.ty ≠ d.ty.code || (d.ty ≠ .blob && d.ty ≠ .str && m.len ≠ d.ty.size)
  | none => false

/-- A refusal for want of room in the deferral queue is counted (R430). -/
def State.noteLocked (s : State) (d : ObjDef) : State := if d.acc = .rwp then s.noteRefused else s

/-- One die's share of a direct part-wide write (R64): its bit of FAIL is set where it does not answer, or answers BUSY. -/
def State.writeShare (m : Msg) (d : ObjDef) (r : State × Nat) (die : Nat) : State × Nat :=
  if !(r.1.answers die) then (r.1, setBit r.2 die)
  else if r.1.lockedOn d m.key die then (r.1.noteLocked d, setBit r.2 die)
  else
    let w := r.1.writeOne die m.key d (decodeVal d.ty m.payload)
    (w.1, if w.2 = 3 then setBit r.2 die else r.2)

/-- A direct part-wide write (R64): each die on its own, FAIL marking those that did not apply it. -/
def State.writeAll (s : State) (m : Msg) (d : ObjDef) : State × Nat × List Byte :=
  let r := s.dieList.foldl (State.writeShare m d) (s, 0)
  (r.1, if r.2 = 0 then 0 else 0x04, [byteOf r.2])

/-- What a WRITE does: the state, the status and the payload of its response. -/
def State.writeIn (s : State) (m : Msg) : State × Nat × List Byte :=
  if badWrite m && !(s.boot.recovery && !(romServes m.key)) then (s, 0x0E, [])
  else match s.found m with
  | none => (s, 0x01, [])
  | some d =>
    let die := homeDie d m
    if d.acc = .ro then (s, 0x02, [])
    else if d.ty = .blob then
      if d.perDie && m.die = 15 then (s, 0x02, [])
      else if s.locked d m || (d.perDie && !(s.answers die)) then (s, 0x03, [])
      else
        let r := s.segment m.session die m.key d 0 m.payload true
        (r.1, r.2.1, [])
    else if d.perDie && m.die = 15 then s.writeAll m d
    else if s.locked d m then (s.noteLocked d, 0x03, [])
    else if d.perDie && !(s.answers die) then (s, 0x03, [])
    else
      let r := s.writeOne die m.key d (decodeVal d.ty m.payload)
      (r.1, r.2, [])

end Sys2Proof.Machine
end

