-- ==== Sys2Proof/Machine/Corrix.lean ====
section
/-! DEFINITION. Requests that reach the part: their checks and order (R46-R51), broadcasts (R52), the host SPI target (R56), ARP and ICMP (R54). -/

namespace Sys2Proof.Machine

/-! One request -/

/-- The opcodes of Table 2.4 that a host sends. -/
def listedOps : List Nat := [0x01, 0x02, 0x03, 0x04, 0x10, 0x11, 0x12, 0x13, 0x3F]

/-- Does a payload length suit an opcode (Table 2.4)? A READ_SEG whose COUNT is above 220, outside the range of Table 2.4, is taken as MALFORMED too (DESIGN CHOICE, log entry 113). -/
def lengthSuits (op : Nat) (m : Msg) : Bool := match op with
  | 0x01 => decide (m.len = 0)
  | 0x02 => true
  | 0x03 => decide (m.len = 6) && decide (leAt m.payload 4 2 ≤ 220)
  | 0x04 => decide (4 ≤ m.len)
  | 0x10 => decide (m.len = 4)
  | 0x11 => decide (m.len = 16)
  | 0x12 => decide (m.len = 4)
  | 0x13 => decide (m.len = 0)
  | 0x3F => decide (m.len = 0)
  | _ => false

/-- A message without the defects of R46 and R47 that the opcode alone shows. -/
def wellMade (op : Nat) (m : Msg) : Bool :=
  listedOps.contains op && decide (m.ver = 1) && decide (m.len ≤ 224) && decide (m.payload.length = m.len) && lengthSuits op m

/-- What a request other than PREPARE does: the state, the status and the payload of its response. In recovery mode the ROM serves PING and a few objects (R445). -/
def State.serveOp (s : State) (op : Nat) (m : Msg) : State × Nat × List Byte :=
  if op = 0x3F then (s, 0, leBytes 4 s.identity ++ leBytes 2 (s.pw Ob.node_id))
  else if op = 0x01 then (s, s.readOut m)
  else if op = 0x02 then s.writeIn m
  else if op = 0x03 then s.readSegOut m
  else if op = 0x04 then s.writeSegIn m
  else if s.boot.recovery then (s, 0x01, [])
  else if op = 0x11 then s.launchCommit (leAt m.payload 0 4) (layAt m.payload 4)
  else if op = 0x12 then ((s.abortCommit (leAt m.payload 0 4)).1, (s.abortCommit (leAt m.payload 0 4)).2, [])
  else (s.discardStaged.1, s.discardStaged.2, [])

/-- What follows a response: a reset that the write asked for (R392). -/
def State.afterReply (s : State) (op : Nat) (m : Msg) (status : Nat) : State :=
  if op = 0x02 && m.key = Ob.part_reset && status = 0 then
    let v := decodeVal .u8 m.payload
    if v = 1 then s.partReset else if v = 2 then s.coresRestart else s
  else s

/-- Does the part serve Corrix: does the acting supervisor's firmware, or the ROM in recovery mode, run? -/
def State.serving (s : State) : Bool := s.fwOn s.sup || s.boot.recovery

/-- A WRITE for this part whose TYPE or LEN is not the object's: MALFORMED, the first check of R58. The ROM in recovery mode knows only the objects it serves. -/
def State.misfit (s : State) (op : Nat) (m : Msg) : Bool := op = 0x02 && badWrite m && !(s.boot.recovery && !(romServes m.key))

/-- A well-made request for this part (R49, R51, R53): a misfit is MALFORMED; BUSY while no firmware runs or 32 wait (at once, by R51: before the object is looked for and before a repeat is; DEDUCED, log entry 103), the
stored response of a repeat, else served and answered. -/
def State.serve (s : State) (op : Nat) (m : Msg) : State :=
  if s.misfit op m then s.answer op m 0x0E (replyTy op m) []
  else if !s.serving || 32 ≤ m.waiting then s.answer op m 0x03 (replyTy op m) []
  else
    match (s.sessionHit m op).bind (·.reply) with
    | some r =>
      let s1 := ((s.bump 0 Ob.corrix_dup_replays).putSession m op (some r))
      s1.reply m.via op r
    | none =>
      if op = 0x10 then (if s.boot.recovery then s.answer op m 0x01 0 [] else s.prepare m)
      else
        let r := s.serveOp op m
        (r.1.answer op m r.2.1 (replyTy op m) r.2.2).afterReply op m r.2.1

/-- Is a unicast request for this part (R44, R53)? -/
def State.ownRequest (s : State) (m : Msg) : Bool :=
  m.isLocal || s.node = some m.node || (s.node.isNone && match m.via with
    | .hawser _ _ _ => false
    | _ => true)

/-! Broadcast (R52) -/

/-- Does a message come from the host, so that this part is its entry part? -/
def fromHost (m : Msg) : Bool := match m.via with
  | .hawser _ _ _ => false
  | _ => true

/-- A broadcast executed: nothing is answered. -/
def State.obey (s : State) (op : Nat) (m : Msg) : State :=
  let r := s.serveOp op m
  (if r.2.1 = 0x03 || r.2.1 = 0x0E then r.1 else r.1.bump 0 Ob.corrix_requests).afterReply op m r.2.1

/-- A broadcast sent on by every port in service but the one it came by, and none of port_role 2. -/
def State.relayBroadcast (s : State) (op : Nat) (m : Msg) : State :=
  let ports (q : Nat) : List Nat := s.portsUp.filter fun p => p ≠ q && s.role p ≠ 2
  match m.via with
  | .hawser q e h =>
    s.each (ports q) fun p s => s.hopTo q p { corrixCell m.node e false true op m with hops := h } true
  | _ => s.each (s.portsUp.filter fun p => s.role p ≠ 2) fun p s => s.queueOwn p (corrixCell m.node s.nodeOr0 false true op m)

/-- The broadcast as the entry part sends it: its own node ID in NODE (a part without one has none to write: that value is free). -/
def State.entryCopy (s : State) (op : Nat) (m : Msg) : State × Msg :=
  let n := s.node.getD (s.draw.1 % 1024)
  let m1 : Msg := { m with target := m.target / 1024 * 1024 + n }
  (if s.node.isSome then s else s.draw.2, { m1 with crc := msgCrc op m1 })

/-- A broadcast received: repeats within 1 s end here; a part that cannot execute it relays it all the same, but an entry part does neither. -/
def State.broadcastIn (s : State) (op : Nat) (m0 : Msg) : State :=
  if !([0x02, 0x04, 0x11, 0x12, 0x13].contains op) || !(wellMade op m0) || (op = 0x02 && badWrite m0) then s.bump 0 Ob.corrix_malformed
  else
    let entry := if fromHost m0 then s.entryCopy op m0 else (s, m0)
    let s1 := entry.1
    let m := entry.2
    if s1.net.bcasts.any fun b => b.node = m.node && b.session = m.session && b.seq = m.seq && !(s1.past b.since 1000000000) then s1
    else
      let busy := !s1.serving || decide (32 ≤ m.waiting)
      if busy && fromHost m then s1.bump 0 Ob.corrix_busy
      else
        let b : BcastSt := { node := m.node, session := m.session, seq := m.seq, since := s1.now }
        let s2 := ({ s1 with net := { s1.net with bcasts := s1.net.bcasts ++ [b] } } : State).relayBroadcast op m
        if busy then s2.bump 0 Ob.corrix_busy else s2.obey op m

/-! Arrival -/

/-- Is a message one that the cell layer of this part only relays, as it came: a unicast request from a Hawser port for another node (R53)? -/
def State.relayed (s : State) (m : Msg) : Bool := !(fromHost m) && !(bit m.flags 0) && !m.bcast && !(s.ownRequest m)

/-- A request that has reached the part by a path in service (R47, R52-R54): what the cell layer only relays is not looked into; a datagram of the wrong length and a bad CRC are discarded and
counted, other defects answered; what is for another node is relayed. A defective message from the host for another node is answered by this part, its entry part (DESIGN CHOICE, log entry 114), and
a defect is answered before BUSY (R58). A message with RESP set is no request: only an arbiter waits for one. -/
def State.request (s : State) (op : Nat) (m : Msg) : State :=
  let udp := match m.via with
    | .udp _ _ _ => true
    | _ => false
  if s.relayed m then s.relayRequest op m
  else if udp && m.payload.length ≠ m.len then s.bump 0 Ob.corrix_malformed
  else if m.crc ≠ msgCrc op m then s.bump 0 Ob.corrix_crc_drops
  else if bit m.flags 0 then s.declareAnswer op m
  else if m.bcast then s.broadcastIn op m
  else if !(s.alive s.sup) then s
  else if !(wellMade op m) then s.answer op m 0x0E (replyTy op m) []
  else if s.ownRequest m then s.serve op m
  else if !s.serving then s.answer op m 0x03 (replyTy op m) []
  else s.relayRequest op m

/-- Has step 5 of the boot ended, with which firmware or recovery mode runs and REQ_FREE is set (R396)? Before it nothing is answered. -/
def State.booted (s : State) : Bool := s.past s.boot.releaseAt (s.boot.env.bootMs.getD 4 0 * 1000000)

/-- A request row: the message comes in by its path where the path carries anything: the part is out of reset and booted, a Hawser port is in service and not of port_role 2, and a datagram was sent to
the UDP port on which the part listens (R54). -/
def State.corrixIn (s : State) (op : Nat) (m : Msg) : State :=
  if s.boot.held || s.boot.scan || !s.booted then s
  else match m.via with
  | .hawser p _ _ =>
    if !s.inService p then s
    else
      let s1 := s.cellArrives p
      if s.role p = 2 then s1.stray p
      else if s.offChain p && !m.bcast && !(s.ownRequest m) then s1.thirdPort p
      else s1.request op m
  | .udp _ _ d => if d = (if s.boot.recovery then 28741 else s.pw Ob.corrix_udp_port) then (s.crossWords s.sup .mgmtIn (msgSize m)).request op m else s
  | .spi => if s.alive 0 then s.request op m else s

/-- A request row whose message addresses one object, with a value where the row names one. -/
def State.corrixFor (s : State) (m : Msg) (p : Nat → List Byte → Bool) : State := if p m.key m.payload then s.corrixIn 0x02 m else s

/-! Host SPI target (R56) -/

/-- Does the host SPI target of die 0 answer? -/
def State.spiOn (s : State) : Bool := !s.boot.held && !s.boot.scan && s.alive 0

/-- Is a request that came by the host SPI target still without its response in the mailbox: one exchange is in flight at a time (R56)? -/
def State.spiBusy (s : State) : Bool :=
  s.spi.held.isSome || (s.net.entries.any fun e => e.via = .spi) || (match s.corrix.vote with
    | some v => v.waiting.any fun m => m.via = .spi
    | none => false)

/-- REQ_FREE of HSTAT (Table 2.7): firmware serves Corrix and no request is in flight. -/
def State.reqFree (s : State) : Bool := s.booted && bit s.spi.hstat 0 && !s.spiBusy

/-- A byte of the host-port address space (Table 2.6). -/
def State.hostByte (s : State) (ident a : Nat) : Byte :=
  if a < 4 then byteOf (ident / 256 ^ a)
  else if a = 4 then byteOf (putBit s.spi.hstat 0 s.reqFree)
  else if 0x100 ≤ a && a < 0x200 then smGet 0 s.spi.request (a - 0x100)
  else if 0x200 ≤ a && a < 0x300 then smGet 0 s.spi.response (a - 0x200)
  else 0

/-- HOST_SPI_READ: bytes from an address onward; past 0xFFFF the address goes on at 0x0000 (DESIGN CHOICE, log entry 115). The identity word is readable 1 ms after the release of reset; what it reads before is a free value. -/
def State.hostSpiRead (s : State) (addr count : Nat) : State :=
  if !s.spiOn then s
  else
    let early := !(s.past s.boot.releaseAt 1000000) && addr % 65536 < 4
    let ident := if early then s.draw.1 % 4294967296 else s.identity
    (if early then s.draw.2 else s).emit (.spi ((List.range count).map fun i => s.hostByte ident ((addr + i) % 65536)))

/-- HCTL_SEND: the message in the request mailbox is taken as a request, also while no firmware runs: it is answered BUSY then (Table 13.3). -/
def State.hctlSend (s : State) : State :=
  if s.spiOn && s.booted && !s.spiBusy then
    let r := msgParse .spi (smRun 0 s.spi.request 0 256)
    s.corrixIn r.1 r.2
  else s

/-- HCTL_FREE_RESPONSE: the response mailbox is free; a response that waited for it takes its place. -/
def State.hctlFree (s : State) : State :=
  if s.spiOn then
    { s with spi := match s.spi.held with
      | some b => { s.spi with response := b, held := none }
      | none => { s.spi with hstat := clearBit s.spi.hstat 1 } }
  else s

/-- One byte written by the host. -/
def State.hostPoke (s : State) (a : Nat) (b : Byte) : State :=
  if a = 5 then (if b = 1 then s.hctlSend else if b = 2 then s.hctlFree else s)
  else if 0x100 ≤ a && a < 0x200 && s.reqFree then { s with spi := { s.spi with request := smPut 0 s.spi.request (a - 0x100) b } }
  else s

/-- HOST_SPI_WRITE: bytes to an address onward; past 0xFFFF the address goes on at 0x0000 (DESIGN CHOICE, log entry 115). -/
def State.hostSpiWrite (s : State) (addr : Nat) (bytes : List Byte) : State :=
  if s.spiOn then (bytes.zipIdx).foldl (fun s e => State.hostPoke s ((addr + e.2) % 65536) e.1) s else s

/-- ARP_ICMP_REQUEST (R54): an ARP or ICMP echo request for the address in use is answered to its sender. -/
def State.arpIcmp (s : State) (icmp : Bool) (source target : Nat) (data : List Byte) : State :=
  if !s.boot.held && !s.boot.scan && s.pw Ob.mgmt_ip_current ≠ 0 && target = s.pw Ob.mgmt_ip_current then s.emit (.arpIcmp icmp source target data) else s

end Sys2Proof.Machine
end

