-- ==== Sys2Proof/Machine/Frames.lean ====
section
/-! DEFINITION. Cells as they come out of a port's block stream: disposal (Table 5.8), framing (R153-R157, R163), uncorrectable codewords (R121), the update image in recovery mode (R445). -/

namespace Sys2Proof.Machine

/-! Disposal -/

/-- A CORRIX cell for the part, or a broadcast (R52, R53, R172). -/
def State.corrixCellIn (s : State) (p : Nat) (c : Cell) : State :=
  let entry := bits c.spec 9 0
  let r := msgParse (.hawser p entry c.hops) c.payload
  if bit c.spec 10 then s.relayResponse p entry r.1 r.2 else s.request r.1 r.2

/-- A JOURNAL cell for the part (Table 14.4). -/
def State.journalCellIn (s : State) (c : Cell) : State :=
  match leAt c.payload 0 1 with
  | 1 => s.heartbeatIn c
  | 2 => s.ckptSeg c
  | 3 => s.ckptEnd c
  | 4 => s.ckptAck c
  | 5 => s.handoverIn c
  | _ => s

/-- A CANVAS cell at a head (R229). -/
def State.canvasCellIn (s : State) (c : Cell) : State :=
  s.canvasIn (bits c.spec 9 0) (bits c.spec 12 10) (bits c.spec 28 13) (bits c.spec 32 29) (bit c.spec 33) c.payload

/-- An accepted cell that the part itself consumes, by its class and kind (Table 5.8); a reserved kind is stray (R148). An IMAGE cell goes to firmware update, whose chapter gives it nothing to do:
an image is written by WRITE_SEG alone (R433). -/
def State.consume (s : State) (p : Nat) (c : Cell) : State :=
  match c.cls, c.kind with
  | 0, 0 => s.layCellIn p c
  | 1, 0 => s.knotCell p c
  | 2, 0 => s.corrixCellIn p c
  | 2, 1 => s.enumCell p c
  | 2, 2 => s.routeCell p c
  | 3, 0 => if s.offChain p then s.thirdPort p else if s.isHead then s.stray p else s.tilePixel c.spec c.payload true
  | 3, 1 => if s.offChain p then s.thirdPort p else if s.isHead then s.stray p else s.tileCheck c.spec c.payload true
  | 3, 2 => if s.offChain p then s.thirdPort p else if s.isHead then s.canvasCellIn c else s.stray p
  | 4, 0 => if s.offChain p then s.thirdPort p else s.journalCellIn c
  | 4, 1 => if s.offChain p then s.thirdPort p else s
  | _, _ => if s.offChain p && c.cls ≠ 0 then s.thirdPort p else s.stray p

/-- A PIXEL or CHECK cell of the part's own region that failed its CRC is a loss of the splice receive buffer (R164). -/
def State.badOwn (s : State) (c : Cell) : State :=
  if s.isHead || c.cls ≠ 3 then s
  else if c.kind = 0 then s.tilePixel c.spec c.payload false
  else if c.kind = 1 then s.tileCheck c.spec c.payload false
  else s

/-- A whole cell that came in on a port: counted, checked (R148), then passed on or consumed (R159). -/
def State.cellIn (s : State) (p : Nat) (c : Cell) : State :=
  let a := s.accept p c
  let s1 := if a.2 then (if s.passes c then a.1.forward p c else a.1.consume p c)
    else if s.inService p && s.role p ≠ 2 && !c.good && !(s.passes c) then (if c.cls = 0 then a.1.syncBroken p c.payload else if s.offChain p then a.1 else a.1.badOwn c)
    else a.1
  s1.setPort p fun t => { t with stamp := none }

/-! Framing (R153-R157) -/

/-- One more block of a cell, at a Lay time. -/
def Partial.more (x : Partial) (bytes : List Byte) (t : Nat) : Partial :=
  { x with blocks := x.blocks ++ bytes, count := x.count + 1, at_ := if x.count = 0 then t else x.at_ }

/-- The class of a cell in progress. -/
def Partial.cls (x : Partial) : Nat := leAt x.blocks 0 1 % 8

/-- A cell that a framing loss cut off: one being forwarded is completed with zeros and a stomped CRC (R163). -/
def State.cutCell (s : State) (p : Nat) (x : Partial) : State :=
  let c := cellOfBytes (fitBytes 256 x.blocks)
  if x.count ≠ 0 && c.cls < 5 && s.passes c && !(s.offChain p) then s.passOn p c false else s

/-- Is a port one lane wide as its lanes are grouped? -/
def State.oneLane (s : State) (p : Nat) : Bool := s.groupSize (p / 16) (p % 16) = 1

/-- A framing loss (R155). On one lane a class-0 cell in progress is lost with the others; on 2 or 4 it travels beside the group's stream. -/
def State.framingLoss (s : State) (p : Nat) : State :=
  let one := s.oneLane p
  if !(s.port p).framed && !(one && (s.port p).lay.isSome) then s
  else
    let cut := (s.port p).cur
    let s1 := (s.bumpPort p Ob.cell_framing_losses).setPort p fun t => { t with framed := false, cur := [], lay := if one then none else t.lay }
    s1.each cut fun x s => s.cutCell p x

/-- A data block of the group's stream. -/
def State.dataBlock (s : State) (p : Nat) (bytes : List Byte) : State :=
  let t := s.port p
  if !t.framed then s
  else
    let y := (t.cur.headD {}).more bytes (s.layOf (p / 16))
    if y.count < 8 then s.setPort p fun t => { t with cur := y :: t.cur.drop 1 }
    else (s.setPort p fun t => { t with cur := t.cur.drop 1 }).cellIn p (cellOfBytes y.blocks)

/-- A data block of the class-0 cell in progress; one with an errored block is discarded when its 8 blocks have come, and breaks a run of valid SYNC cells (R102, R155). -/
def State.layData (s : State) (p : Nat) (x : Partial) (bytes : List Byte) : State :=
  let y := x.more bytes (s.layOf (p / 16))
  if y.count < 8 then s.setPort p fun t => { t with lay := some y }
  else if y.bad then (s.setPort p fun t => { t with lay := none }).syncBroken p (cellOfBytes y.blocks).payload
  else (s.setPort p fun t => { t with lay := none, stamp := some y.at_ }).cellIn p (cellOfBytes y.blocks)

/-- Is a PREEMPT valid (R153)? -/
def preemptOk (cur : List Partial) (cls depth : Nat) : Bool := match cur with
  | x :: _ => [2, 4, 6].contains x.count && decide (cls < x.cls) && decide (depth = cur.length)
  | [] => true

/-- LAY_START (R133, R157): the next 8 blocks of that lane are a class-0 cell. -/
def State.layStart (s : State) (p lane : Nat) : State := s.setPort p fun t => { t with lay := some {}, layLane := lane }

/-- A control block of the group's stream (R153, R155). -/
def State.ctlBlock (s : State) (p lane : Nat) (c : Option Ctl) : State :=
  let t := s.port p
  match c with
  | some .hold => s
  | some .layStart => s.layStart p lane
  | some .idle => if !t.framed then s.setPort p fun t => { t with framed := true } else if t.cur.isEmpty then s else s.framingLoss p
  | some (.preempt cls depth) =>
    if !t.framed || t.cur.isEmpty then s
    else if preemptOk t.cur cls depth then s.setPort p fun t => { t with cur := {} :: t.cur }
    else s.framingLoss p
  | none => s.framingLoss p

/-- A block other than data on the lane of a class-0 cell in progress (R153, R155): that cell is in progress, of the highest priority, so an IDLE or a PREEMPT in its place is a framing loss. -/
def State.layCtl (s : State) (p lane : Nat) (c : Option Ctl) : State :=
  match c with
  | some .hold => s
  | some .layStart => s.layStart p lane
  | some (.preempt _ _) => if (s.port p).framed then s.framingLoss p else s
  | _ => s.framingLoss p

/-- A block marked errored (R155): of the class-0 cell in progress on a group of 2 or 4 lanes it spoils that cell alone, whose other blocks still follow on its lane; any other costs the group's stream its
framing. -/
def State.erroredBlock (s : State) (p : Nat) (ofLay : Option Partial) : State :=
  match ofLay with
  | some x => if s.oneLane p then s.framingLoss p else s.layData p { x with bad := true } (fitBytes 32 [])
  | none => s.framingLoss p

/-- One block of a port's stream, from a lane. -/
def State.blockIn (s : State) (p : Nat) (b : Block) : State :=
  if !s.inService p then s
  else
    let t := s.port p
    match if t.layLane = b.lane then t.lay else none with
    | some x => if b.errored then s.erroredBlock p (some x) else if b.data then s.layData p x (fitBytes 32 b.bytes) else s.layCtl p b.lane (ctlOf b.bytes)
    | none => if b.errored then s.erroredBlock p none else if b.data then s.dataBlock p (fitBytes 32 b.bytes) else s.ctlBlock p b.lane (ctlOf b.bytes)

/-! Collection of a group's blocks (R132, R133) -/

/-- The map in force for the blocks that follow the marker of a MARKER_SEQ: that of the marker before; every position in service before one is known (R134). -/
def State.mapFor (s : State) (p seq : Nat) : Nat :=
  (((s.port p).mapsIn.find? fun e => e.1 = (seq + 65535) % 65536).map (·.2)).getD (s.rxMap p)

/-- The locked lane that is received at a position of a port's group, in service or not (R131). -/
def State.laneAt (s : State) (p pos : Nat) : Option Nat := (s.portLanes p).find? fun l => (s.rx (p / 16) l = 5 || s.rx (p / 16) l = 6) && (s.lane (p / 16) l).pos = pos

/-- A place in the stream: MARKER_SEQ and the count after the marker, ordered from a MARKER_SEQ on. -/
def blockPlace (from_ : Nat) (e : Nat × Nat × Block) : Nat := (e.1 + 65536 - from_) % 65536 * 65536 + e.2.1

/-- MARKER_SEQ of the next block of a lane: of the first that its deskew buffer holds, else of its last marker. -/
def LaneSt.nextSeq (l : LaneSt) : Nat := match l.buf with
  | e :: _ => e.1
  | [] => l.lastSeq.getD 0

/-- The positions that carry blocks after the marker of a MARKER_SEQ: those of the map, and that of a class-0 cell in progress, whose 8 blocks stay on their lane (R133). -/
def State.carries0 (s : State) (p seq : Nat) : Nat :=
  if (s.port p).lay.isSome then s.mapFor p seq ||| 2 ^ ((s.lane (p / 16) (s.port p).layLane).pos % 4) else s.mapFor p seq

/-- The lanes whose blocks the next round waits for: those in service whose position carries blocks. -/
def State.roundLanes (s : State) (p : Nat) : List Nat := (s.portLanes p).filter fun l =>
  let t := s.lane (p / 16) l
  bit (s.rxMap p) (t.pos % 4) && bit (s.carries0 p t.nextSeq) (t.pos % 4)

/-- The next block of a lane taken from its deskew buffer. -/
def State.popBlock (s : State) (die lane : Nat) : State := (s.setLane die lane fun l => { l with buf := l.buf.drop 1 }).crossPop die (.laneIn lane)

/-- The next blocks whose position carries none leave the deskew buffer (R134). -/
def State.dropIdle (s : State) (p : Nat) : State :=
  s.each (s.portLanes p) fun l s =>
    let t := s.lane (p / 16) l
    let rest := t.buf.dropWhile fun e => !(bit (s.carries0 p e.1) (t.pos % 4))
    let n := t.buf.length - rest.length
    if n = 0 then s else (s.setLane (p / 16) l fun t => { t with buf := rest }).crossPop (p / 16) (.laneIn l) n

/-- One round of the collection (R133): in ascending position order, one block from each position of the map. A lane whose block is missing or that is out of service gives a lost block, which comes up
errored (R155). -/
def State.round (s : State) (p from_ place map : Nat) : State :=
  s.each [0, 1, 2, 3] fun pos s =>
    if !(bit map pos) then s
    else
      let lost (l : Nat) : Block := { lane := l, data := true, bytes := [], errored := true }
      match s.laneAt p pos with
      | none => s.blockIn p (lost (p % 16 + pos))
      | some l => match (s.lane (p / 16) l).buf with
        | e :: _ => if blockPlace from_ e = place && bit (s.rxMap p) pos then (s.popBlock (p / 16) l).blockIn p e.2.2 else s.blockIn p (lost l)
        | [] => s.blockIn p (lost l)

/-- The rounds whose blocks have all come. -/
def State.collect : Nat → Nat → State → State
  | 0, _, s => s
  | k + 1, p, s0 =>
    let s := s0.dropIdle p
    let heads := (s.roundLanes p).filterMap fun l => (s.lane (p / 16) l).buf.head?
    match heads with
    | [] => s
    | e :: _ =>
      if heads.length ≠ (s.roundLanes p).length || !s.inService p then s
      else
        let from_ := (e.1 + 32768) % 65536
        let place := minOr 0 (heads.map (blockPlace from_))
        let seq := (place / 65536 + from_) % 65536
        State.collect k p (s.round p from_ place (s.carries0 p seq))

/-- A block of a lane in service (R132, R133): into the lane's deskew buffer; a lane looped for its neighbour sends it on (R140). -/
def State.laneBlock (s : State) (p : Nat) (b : Block) : State :=
  let l := s.lane (p / 16) b.lane
  if !((s.portLanes p).contains b.lane) then s
  else if l.feLoop then s.emit (.blocks p [b])
  else
    let seq := l.lastSeq.getD 0
    let held := s.inService p && s.rx (p / 16) b.lane = 6 && !(s.crossShut (p / 16) (.laneIn b.lane))
    let s1 := s.setLane (p / 16) b.lane fun t => { t with slot := t.slot + 1, buf := if held then t.buf ++ [(seq, t.slot, b)] else t.buf }
    s1.when held fun s => s.crossPush (p / 16) (.laneIn b.lane)

/-- CELL_RECEIVE (R133, R153): the next blocks of a port's lanes; every round that is whole then goes to the cell layer. -/
def State.blocksIn (s : State) (p : Nat) (bs : List Block) : State :=
  let s1 := s.each bs fun b s => s.laneBlock p b
  State.collect ((((s1.portLanes p).map fun l => (s1.lane (p / 16) l).buf.length).sum) + 1) p s1

/-- FEC_UNCORRECTABLE (R121, R135): counted; its 20 blocks come up marked errored. -/
def State.fecBad (s : State) (die lane : Nat) : State :=
  if !(decide (die < s.dies) && decide (lane < s.laneCount)) || !s.on die (Ob.lane_enable + lane) then s
  else
    let s1 := (s.bump die (Ob.lane_fec_uncorrected + lane)).setLane die lane fun l =>
      { l with ucw := (s.now :: l.ucw).take 1000, clean := 0 }
    if s.hawserLane die lane && s.rx die lane = 6 then
      s1.blocksIn (s.portOf die lane) (List.replicate 20 { lane := lane, data := true, bytes := [], errored := true })
    else s1

/-! The update image in recovery mode (R445) -/

/-- UPD_VERIFY. In recovery mode the image goes into the slot that failed, without the copy to DRAM; when it is READY the ROM makes that slot active and performs a warm reset. -/
def State.verifyImage (s : State) : State :=
  if !s.boot.recovery then s.updVerify
  else if s.pw Ob.upd_state ≠ 2 || !s.updWhole then s
  else if s.hashOk then
    let k := s.stageSlot
    let s1 := s.updCopy.writeBoot false fun b => { bootId k (s.pw Ob.upd_image_id) b with slot := k }
    let env : BootEnv := { s.boot.pins with imageOk := (List.range 4).map fun j => j % 2 = k || s.boot.env.imageOk.getD j false }
    (s1.intoReset rWarm 8).bootFrom env true 0
  else s.updFail

end Sys2Proof.Machine
end

