-- ==== Sys2Proof/Machine/Rows.lean ====
section
/-! DEFINITION. What the commands share: which of them reach a part or a die at all, cells by row, and the effects that follow an event in another unit. -/

namespace Sys2Proof.Machine

/-- An event of the part: nothing happens while the part is held in reset or in boundary scan (R392, R395). -/
def State.run (s : State) (f : State → State) : State := if s.boot.held || s.boot.scan then s else f s

/-- An event of a die: nothing happens on a die that is not in dies_alive (R37). -/
def State.onDie (s : State) (die : Nat) (f : State → State) : State := if s.boot.held || s.boot.scan || !(s.alive die) then s else f s

/-- A row that names a kind of received cell: another cell does nothing. -/
def State.cellRow (s : State) (p : Nat) (c : Cell) (named : Bool) : State := if named then s.run fun s => s.cellIn p c else s

/-- CORRIX_RELAY: a unicast request for another node, from the host or between two Hawser ports. -/
def State.relayRow (s : State) (op : Nat) (m : Msg) : State :=
  if m.bcast || s.ownRequest m then s
  else match m.via with
  | .hawser p e h => s.run fun s => s.cellIn p (Cell.sealed { corrixCell m.node e false false op m with hops := h } true)
  | .udp _ _ _ => s.corrixIn op m
  | .spi => s.corrixIn op m

/-- CORRIX_RESPONSE_RELAY: a response that came in on a port. -/
def State.responseRow (s : State) (p entry op : Nat) (m : Msg) : State :=
  s.run fun s => s.cellIn p (Cell.sealed { corrixCell entry entry true false op m with hops := hopsOf m.via } true)

/-- HOST_SPI_IGNORED_COMMAND (R56): a transaction with a command byte other than read and write is ignored to its end; the two others have rows of their own. -/
def State.hostSpiIgnored (s : State) (_command : Nat) (_bytes : List Byte) : State := s

/-- A marker leaves a lane: the swing code moves in its slot (R464). -/
def State.markerLeaves (s : State) (die lane : Nat) : State :=
  let s1 := s.markerSend die lane
  if s1.sent.length ≠ s.sent.length && lane < 8 then s1.trimStep die lane 4 else s1

/-- A marker arrives on a lane that is locked: the termination code moves in its slot (R464). -/
def State.markerArrives (s : State) (die lane : Nat) (k : RxMarker) : State :=
  let s1 := s.markerIn die lane k
  if (s.rx die lane = 5 || s.rx die lane = 6) && lane < 8 then s1.trimStep die (8 + lane) 4 else s1

/-- SEND_START, with what a compose_apply that comes into force changes beside composition: the SRAM laid out again (R355), and a ring head's checkpoint (R411). A head that does not compose takes the
values at the same frame. -/
def State.sendStartIn (s : State) (frame view : Nat) : State :=
  let s1 := if s.composes then s.sendStart frame view else match s.findVf frame view with
    | some v => if s.reached (s.sendStartOf v) then s.takeApply v.at_ else s
    | none => s
  if s.corrix.capply.isSome && s1.corrix.capply.isNone then
    (s1.each s1.aliveList fun d x => x.relay s d).sendCkpt s1 0 (s1.pw Ob.commit_epoch)
  else s1

/-- REGION_VERDICT, with what a verdict means to groups in self-refresh (R317) and to an arbiter (R412). -/
def State.verdictIn (s : State) (frame view : Nat) : State :=
  let s1 := s.regionVerdict frame view
  if s1.pw Ob.check_passes ≠ s.pw Ob.check_passes then s1.srWake.arbiterSees false true
  else if s1.pw Ob.check_fails ≠ s.pw Ob.check_fails then s1.arbiterSees (decide (s1.tile.missing ≠ s.tile.missing)) false
  else s1

/-- Groups that started another view-frame take their IREF codes in its blanking (R464). -/
def State.irefAfter (s old : State) (die : Nat) : State :=
  s.trimIref die ((s.groupsUsed die).filter fun g => (s.gst die g).at_ ≠ (old.gst die g).at_)

/-- VIEW_FRAME_LAUNCH. -/
def State.launchIn (s : State) (die : Nat) : State := (s.viewFrameLaunch die).irefAfter s die

/-- LATE_START. -/
def State.lateStartIn (s : State) (die group : Nat) : State := (s.lateStart die group).irefAfter s die

end Sys2Proof.Machine
end

