-- ==== Sys2Proof/Machine/CameraCommands.lean ====
section
/-! DEFINITION. Commands of chapter 8: cameras and captures. -/

namespace Sys2Proof.Machine

/-- FRAME_START (R244): A CSI-2 Frame Start is time-stamped and begins a frame or a capture. -/
def execFrameStart (port : Nat) (h : CsiHead) (s : State) : Host.Outcome State Fault Refusal :=
  .next (s.onDie port fun s => s.frameStart port h)

/-- LONG_PACKET (R240): A CSI-2 long packet of line data is checked and passed to the pipeline or a raw buffer. -/
def execLongPacket (port : Nat) (vc : Nat) (p : CsiPkt) (s : State) : Host.Outcome State Fault Refusal :=
  .next (s.onDie port fun s => s.longPacket port vc p)

/-- FRAME_END (R243): A CSI-2 Frame End completes an in-line frame, queues a memory-path frame, or completes a capture. -/
def execFrameEnd (port : Nat) (h : CsiHead) (s : State) : Host.Outcome State Fault Refusal :=
  .next (s.onDie port fun s => s.frameEnd port h)

/-- FRAME_TIMEOUT (R256): No Frame End within cam_frame_timeout_ms drops the frame with code 8. -/
def execFrameTimeout (stream : Nat) (s : State) : Host.Outcome State Fault Refusal :=
  .next (s.onDie (stream / 4) fun s => s.frameTimeout stream)

/-- MEMORY_FRAME_PROCESSED (R243): The pipeline finishes a memory-path frame, which becomes complete and frees its buffer. -/
def execMemoryFrameProcessed (die : Nat) (s : State) : Host.Outcome State Fault Refusal :=
  .next (s.onDie die fun s => s.memoryFrame die)

/-- LINK_LOST (R257): No Frame Start for 4 periods sets LINK_LOST. -/
def execLinkLost (stream : Nat) (s : State) : Host.Outcome State Fault Refusal :=
  .next (s.onDie (stream / 4) fun s => s.linkLost stream)

/-- CAP_ARM (R259): Writing cap_arm fixes the trigger time, sets SIZE and reserves capture memory, or fails. -/
def execCapArm (m : Msg) (s : State) : Host.Outcome State Fault Refusal :=
  .next (s.corrixFor m (fun k _ => inKeys k 0x5300 0x533F 8 8))

/-- CAP_RELEASE (R265): Writing cap_release frees the data, or cancels an armed slot. -/
def execCapRelease (m : Msg) (s : State) : Host.Outcome State Fault Refusal :=
  .next (s.corrixFor m (fun k _ => inKeys k 0x5300 0x533F 14 14))

/-- CAP_TRIGGER (R260): At the trigger time the slot pulses its LAY_EVT output and becomes TRIGGERED. -/
def execCapTrigger (slot : Nat) (s : State) : Host.Outcome State Fault Refusal :=
  .next (s.run fun s => s.capTrigger slot)

/-- CAP_WINDOW_TIMEOUT (R261): A window that closes with no Frame Start fails the slot with TIMEOUT. -/
def execCapWindowTimeout (slot : Nat) (s : State) : Host.Outcome State Fault Refusal :=
  .next (s.run fun s => s.capTimeout slot)

end Sys2Proof.Machine
end

