-- ==== Sys2Proof/Machine/CareCommands.lean ====
section
/-! DEFINITION. Commands of chapters 13 to 17: clocks, resets, redundancy, journal, update, thermal, supplies. -/

namespace Sys2Proof.Machine

/-- REFCLK_FAULT (R384): A REFCLK stop or glitch is detected, switching to the other REFCLK or holding every PLL. -/
def execRefclkFault (die : Nat) (which : Nat) (_why : ClkFault) (s : State) : Host.Outcome State Fault Refusal :=
  .next (s.onDie die fun s => s.refFaulty die which)

/-- REFCLK_RATE_CHECK (R384): Each 10 ms window compares the REFCLK rates with the witness or with each other. -/
def execRefclkRateCheck (die : Nat) (aPpb : Int) (bPpb : Int) (diffPpb : Int) (s : State) : Host.Outcome State Fault Refusal :=
  .next (s.onDie die fun s => s.rateCheck die aPpb bPpb diffPpb)

/-- REFCLK_VALID (R384): A REFCLK without fault for 10 ms becomes valid again, allowing resume or revert. -/
def execRefclkValid (die : Nat) (which : Nat) (s : State) : Host.Outcome State Fault Refusal :=
  .next (s.onDie die fun s => s.refValid die which)

/-- PLL_RESUME (R386): The PLLs resume tracking, and the lanes restart transmitting and relock. -/
def execPllResume (die : Nat) (s : State) : Host.Outcome State Fault Refusal :=
  .next (s.onDie die fun s => s.pllResume die)

/-- PORST_RELEASE (R396): The release of PORST_N samples the straps and runs the boot sequence. -/
def execPorstRelease (env : BootEnv) (s : State) : Host.Outcome State Fault Refusal :=
  .next (s.porstRelease env)

/-- WARMRST_N (R392): WARMRST_N causes a warm reset followed by boot. -/
def execWarmrstN (heldNs : Nat) (env : BootEnv) (s : State) : Host.Outcome State Fault Refusal :=
  .next (s.warmReset heldNs env)

/-- PART_RESET_WARM (R392): Writing part_reset 1 causes a warm reset once the response has been sent. -/
def execPartResetWarm (r : WarmReset) (s : State) : Host.Outcome State Fault Refusal :=
  .next (s.run fun s => ({ s with boot := { s.boot with pins := r.env } } : State).corrixFor r.msg (fun k b => k = Ob.part_reset && leAt b 0 1 = 1))

/-- CONTROL_CORE_RESTART (R393): Writing part_reset 2 restarts the control cores while the raster holds its pictures. -/
def execControlCoreRestart (m : Msg) (s : State) : Host.Outcome State Fault Refusal :=
  .next (s.corrixFor m (fun k b => k = Ob.part_reset && leAt b 0 1 = 2))

/-- WATCHDOG_EXPIRY (R392): Expiry after wdog_ms restarts that die's control core. -/
def execWatchdogExpiry (die : Nat) (s : State) : Host.Outcome State Fault Refusal :=
  .next (s.onDie die fun s => s.watchdog die)

/-- VAUX_LOSS (R392): Loss of VAUX resets everything, including the shutdown latch. -/
def execVauxLoss (s : State) : Host.Outcome State Fault Refusal :=
  .next (s.vauxLoss)

/-- DIE1_BOOT_TIMEOUT (R399): Die 1 not loaded within 500 ms boots from its own flash and acts as supervisor. -/
def execDie1BootTimeout (s : State) : Host.Outcome State Fault Refusal :=
  .next (s.run fun s => s.die1Boot)

/-- SUP_HEARTBEAT (R404): Die 0 sends a heartbeat over Braid every 0.5 ms. -/
def execSupHeartbeat (s : State) : Host.Outcome State Fault Refusal :=
  .next (s.run fun s => s.supHeartbeat)

/-- SUP_HB_LOSS (R404): The arbiter, or die 1 through the upstream part, judges die 0 failed after red_sup_hb_ms of silence. -/
def execSupHbLoss (upstreamAlive : Option Nat) (s : State) : Host.Outcome State Fault Refusal :=
  .next (s.run fun s => s.supHbLoss upstreamAlive)

/-- ARB_IN (R404): ARB_IN held high for 1 µs declares die 0 failed. -/
def execArbIn (highNs : Nat) (s : State) : Host.Outcome State Fault Refusal :=
  .next (s.run fun s => s.arbIn highNs)

/-- RED_SUP_REJOIN (R406): Writing red_sup_rejoin releases die 0, which rejoins as standby. -/
def execRedSupRejoin (m : Msg) (s : State) : Host.Outcome State Fault Refusal :=
  .next (s.corrixFor m fun k _ => decide (k = Ob.red_sup_rejoin))

/-- HEAD_HEARTBEAT_SEND (R410): Every 5 ms a ring head sends a HEARTBEAT to its peer. -/
def execHeadHeartbeatSend (s : State) : Host.Outcome State Fault Refusal :=
  .next (s.run fun s => s.heartbeatSend)

/-- HEARTBEAT (R409): A received peer heartbeat may make an ACTIVE head yield to STANDBY. -/
def execHeartbeat (port : Nat) (c : Cell) (s : State) : Host.Outcome State Fault Refusal :=
  .next (s.cellRow port c (c.cls = 4 && c.kind = 0 && leAt c.payload 0 1 = 1))

/-- CKPT_SEG (R411): A standby stores a received checkpoint segment. -/
def execCkptSeg (port : Nat) (c : Cell) (s : State) : Host.Outcome State Fault Refusal :=
  .next (s.cellRow port c (c.cls = 4 && c.kind = 0 && leAt c.payload 0 1 = 2))

/-- CKPT_END (R411): A checkpoint ends, is journalled and acknowledged, and its sources are brought into force. -/
def execCkptEnd (port : Nat) (c : Cell) (s : State) : Host.Outcome State Fault Refusal :=
  .next (s.cellRow port c (c.cls = 4 && c.kind = 0 && leAt c.payload 0 1 = 3))

/-- CKPT_ACK (R411): The active head receives the standby's checkpoint acknowledgement. -/
def execCkptAck (port : Nat) (c : Cell) (s : State) : Host.Outcome State Fault Refusal :=
  .next (s.cellRow port c (c.cls = 4 && c.kind = 0 && leAt c.payload 0 1 = 4))

/-- CKPT_STALE (R411): A checkpoint epoch behind the peer for 2 s sets CKPT_STALE. -/
def execCkptStale (s : State) : Host.Outcome State Fault Refusal :=
  .next (s.run fun s => s.ckptStale)

/-- HANDOVER (R414): A standby that receives HANDOVER acts as on a declaration. -/
def execHandover (port : Nat) (c : Cell) (s : State) : Host.Outcome State Fault Refusal :=
  .next (s.cellRow port c (c.cls = 4 && c.kind = 0 && leAt c.payload 0 1 = 5))

/-- RED_DECLARE (R412): Writing red_declare makes a standby enter ACTIVE or SPLIT, load the checkpoint and walk. -/
def execRedDeclare (m : Msg) (s : State) : Host.Outcome State Fault Refusal :=
  .next (s.corrixFor m fun k _ => decide (k = Ob.red_declare))

/-- ARBITER_DECLARE_REPEAT (R412): The arbiter repeats the declaration every 5 ms until OK. -/
def execArbiterDeclareRepeat (s : State) : Host.Outcome State Fault Refusal :=
  .next (s.run fun s => s.declareRepeat)

/-- SELF_DECLARE (R412): A standby that has heard no heartbeat for red_self_ms declares on its own. -/
def execSelfDeclare (s : State) : Host.Outcome State Fault Refusal :=
  .next (s.run fun s => s.selfDeclare)

/-- JOINING_END (R408): After 1 s of JOINING the head enters ACTIVE or STANDBY. -/
def execJoiningEnd (s : State) : Host.Outcome State Fault Refusal :=
  .next (s.run fun s => s.joiningEnd)

/-- JOURNAL_RECORD_WRITE (R423): Die 0 programs a journal record, mirrors it to die 1, then writes its commit unit. -/
def execJournalRecordWrite (blank : Bool) (programOk : Bool) (s : State) : Host.Outcome State Fault Refusal :=
  .next (s.run fun s => s.recordWrite blank programOk)

/-- TAMPING (R428): Tamping copies the live records of a sector and erases it. -/
def execTamping (s : State) : Host.Outcome State Fault Refusal :=
  .next (s.run fun s => s.tamp)

/-- UPD_ABORT (R434): Writing upd_abort clears the staged image and its bitmap. -/
def execUpdAbort (m : Msg) (s : State) : Host.Outcome State Fault Refusal :=
  .next (s.corrixFor m fun k _ => decide (k = Ob.upd_abort))

/-- UPD_VERIFY (R438): With every segment present, the payload hash is checked, giving READY or FAILED. -/
def execUpdVerify (s : State) : Host.Outcome State Fault Refusal :=
  .next (s.run fun s => s.verifyImage)

/-- FIRMWARE_SERVE (R443): The new firmware serves, and the boot sectors and the commit group are written. -/
def execFirmwareServe (die : Nat) (s : State) : Host.Outcome State Fault Refusal :=
  .next (s.onDie die fun s => s.firmwareServe die)

/-- UPD_REVERTED (R444): An image that does not serve in 250 ms is reverted. -/
def execUpdReverted (s : State) : Host.Outcome State Fault Refusal :=
  .next (s.run fun s => s.updReverted)

/-- RECOVERY_DHCP_TIMEOUT (R445): After 10 s without DHCP, recovery mode takes a link-local address. -/
def execRecoveryDhcpTimeout (s : State) : Host.Outcome State Fault Refusal :=
  .next (s.run fun s => s.recoveryDhcp)

/-- SENSOR_CONVERSION (R449): A sensor conversion updates T_die, the broken judgement, the thermal level and the zone samples. -/
def execSensorConversion (die : Nat) (sensor : Nat) (reading : Int) (s : State) : Host.Outcome State Fault Refusal :=
  .next (s.onDie die fun s => s.conversion die sensor reading)

/-- THERMAL_SHUTDOWN (R457): Two conversions at or above therm_shutdown_c switch the die off. -/
def execThermalShutdown (die : Nat) (s : State) : Host.Outcome State Fault Refusal :=
  .next (s.onDie die fun s => s.thermalShutdown die)

/-- SENSOR_BROKEN_CLEAR (R450): Writing 1 to a bit of therm_sensor_broken makes the sensor valid again. -/
def execSensorBrokenClear (m : Msg) (s : State) : Host.Outcome State Fault Refusal :=
  .next (s.corrixFor m fun k _ => decide (k = Ob.therm_sensor_broken))

/-- TRIM_EVALUATE (R462): Every 10 ms each trim converter finds its offset, and changed codes become pending. -/
def execTrimEvaluate (die : Nat) (s : State) : Host.Outcome State Fault Refusal :=
  .next (s.onDie die fun s => s.trimEvaluate die)

/-- TRIM_PLL_STEP (R464): Each 1 ms a pending PLL bias code moves by 1 code. -/
def execTrimPllStep (die : Nat) (s : State) : Host.Outcome State Fault Refusal :=
  .next (s.onDie die fun s => s.trimPll die)

/-- BROWNOUT (R479): A monitored rail below range for 1 µs resets and holds the die. -/
def execBrownout (die : Nat) (ns : Nat) (s : State) : Host.Outcome State Fault Refusal :=
  .next (s.run fun s => s.brownout die ns)

/-- PORST_N_ASSERT (R475): Assertion of PORST_N puts the part into reset, releasing FAULT_N and THERM_N, driving LAY_EVT and MGMT outputs low and TDO high-Z until firmware runs. -/
def execPorstNAssert (s : State) : Host.Outcome State Fault Refusal :=
  .next (s.porstAssert)

/-- BROWNOUT_RESTART (R479): When every die is held by brown-out, the part restarts as after PORST_N once every monitored rail has been within range for 1 ms. -/
def execBrownoutRestart (r : BrownEnd) (s : State) : Host.Outcome State Fault Refusal :=
  .next (s.brownoutRestart r.withinMs r.env)

/-- JOIN_NO_PEER_TIMEOUT (R408): A ring head with red_primary 0 that has heard no peer on joining enters ACTIVE after a further 2 s. -/
def execJoinNoPeerTimeout (s : State) : Host.Outcome State Fault Refusal :=
  .next (s.run fun s => s.joinTimeout)

/-- IDLE_CONVERSION_SLOT (R464): In an idle conversion slot (slot 6 or 7 of each millisecond), a pending sensor-offset trim code reaches its converter. -/
def execIdleConversionSlot (die : Nat) (s : State) : Host.Outcome State Fault Refusal :=
  .next (s.onDie die fun s => s.trimIdle die)

/-- DHCP_ADDRESS (R54): A DHCP reply on the management Ethernet assigns the part's IPv4 address, which mgmt_ip_current then reads. -/
def execDhcpAddress (addr : Nat) (s : State) : Host.Outcome State Fault Refusal :=
  .next (s.run fun s => s.dhcpAddress addr)

end Sys2Proof.Machine
end

