-- ==== Sys2Proof/Machine/CellCommands.lean ====
section
/-! DEFINITION. Commands of chapter 5: cells, enumeration, routes, knots. -/

namespace Sys2Proof.Machine

/-- CELL_RECEIVE (R153): A cell is framed from the block stream of a port in service and disposed of by its class and kind. -/
def execCellReceive (port : Nat) (blocks : List Block) (s : State) : Host.Outcome State Fault Refusal :=
  .next (s.run fun s => s.blocksIn port blocks)

/-- CELL_FORWARD (R159): A cell for another node is passed on cut-through, or routed by a head, and queued or dropped at the output. -/
def execCellForward (port : Nat) (c : Cell) (s : State) : Host.Outcome State Fault Refusal :=
  .next (s.cellRow port c (s.passes c))

/-- OWN_CELL_SEND (R160): An own cell of class 1, 2 or 4 is sent once the output leaves room between forwarded cells. -/
def execOwnCellSend (port : Nat) (freeSlots : Nat) (s : State) : Host.Outcome State Fault Refusal :=
  .next (s.run fun s => s.ownSend port freeSlots)

/-- PIXEL_CELL_RECEIVE (R164): A PIXEL cell addressed to the part is copied into the splice receive buffer, or dropped when there is no room. -/
def execPixelCellReceive (port : Nat) (c : Cell) (s : State) : Host.Outcome State Fault Refusal :=
  .next (s.cellRow port c (c.cls = 3 && c.kind = 0))

/-- CHECK_CELL_RECEIVE (R151): A CHECK cell addressed to the part enters the splice receive buffer and closes its view-frame. -/
def execCheckCellReceive (port : Nat) (c : Cell) (s : State) : Host.Outcome State Fault Refusal :=
  .next (s.cellRow port c (c.cls = 3 && c.kind = 1))

/-- CANVAS_CELL_RECEIVE (R229): A CANVAS cell for this head is stored as a canvas import. -/
def execCanvasCellReceive (port : Nat) (c : Cell) (s : State) : Host.Outcome State Fault Refusal :=
  .next (s.cellRow port c (c.cls = 3 && c.kind = 2))

/-- IMAGE_CELL_RECEIVE (R147): An IMAGE bulk cell for this part is passed to firmware update. -/
def execImageCellReceive (port : Nat) (c : Cell) (s : State) : Host.Outcome State Fault Refusal :=
  .next (s.cellRow port c (c.cls = 4 && c.kind = 1))

/-- WALK (R167): A tile processes an ENUM WALK: it takes its up port and an ID, reports, and passes the WALK on. -/
def execWalk (port : Nat) (c : Cell) (s : State) : Host.Outcome State Fault Refusal :=
  .next (s.cellRow port c (c.cls = 2 && c.kind = 1 && (enumParse c.payload).msg = 1))

/-- REPORT (R168): A head collects an ENUM REPORT of its walk into the port's enumeration. -/
def execReport (port : Nat) (c : Cell) (s : State) : Host.Outcome State Fault Refusal :=
  .next (s.cellRow port c (c.cls = 2 && c.kind = 1 && (enumParse c.payload).msg = 2))

/-- DONE (R168): An ENUM DONE ends a walk at the head, sets enum_count, and starts the next port's walk. -/
def execDone (port : Nat) (c : Cell) (s : State) : Host.Outcome State Fault Refusal :=
  .next (s.cellRow port c (c.cls = 2 && c.kind = 1 && (enumParse c.payload).msg = 3))

/-- WALK_END_AT_HEAD (R168): A part in head role that receives a WALK ends it and sends DONE back. -/
def execWalkEndAtHead (port : Nat) (c : Cell) (s : State) : Host.Outcome State Fault Refusal :=
  .next (s.cellRow port c (c.cls = 2 && c.kind = 1 && (enumParse c.payload).msg = 1 && s.isHead))

/-- WALK_AFTER_SERVICE (R166): 10 ms after a chain port comes into service, the head walks it. -/
def execWalkAfterService (port : Nat) (s : State) : Host.Outcome State Fault Refusal :=
  .next (s.run fun s => s.walkAfter port)

/-- ENUM_START (R166): Writing enum_start walks every chain port. -/
def execEnumStart (m : Msg) (s : State) : Host.Outcome State Fault Refusal :=
  .next (s.corrixFor m fun k _ => decide (k = Ob.enum_start))

/-- ENUM_PERIOD_EXPIRY (R166): Every enum_period_s the head walks its chain ports again. -/
def execEnumPeriodExpiry (s : State) : Host.Outcome State Fault Refusal :=
  .next (s.run fun s => s.enumPeriod)

/-- ENUM_TIMEOUT (R168): A walk with no DONE within 50 ms sets TIMEOUT and keeps the REPORTs received. -/
def execEnumTimeout (s : State) : Host.Outcome State Fault Refusal :=
  .next (s.run fun s => s.enumTimeout)

/-- ENUM_ID_FORGET (R167): Writing enum_id_forget makes the part drop its ID at its next WALK. -/
def execEnumIdForget (m : Msg) (s : State) : Host.Outcome State Fault Refusal :=
  .next (s.corrixFor m fun k _ => decide (k = Ob.enum_id_forget))

/-- ROUTE_SEND (R170): Every 100 ms, or when its node map changes, a head sends a ROUTE on each head link. -/
def execRouteSend (s : State) : Host.Outcome State Fault Refusal :=
  .next (s.run fun s => s.routeSend)

/-- ROUTE (R170): A ROUTE arriving on a head link updates routes and is forwarded with HOPS increased. -/
def execRoute (port : Nat) (c : Cell) (s : State) : Host.Outcome State Fault Refusal :=
  .next (s.cellRow port c (c.cls = 2 && c.kind = 2))

/-- ROUTE_EXPIRY (R170): An origin whose advertisements stop for 350 ms is dropped. -/
def execRouteExpiry (s : State) : Host.Outcome State Fault Refusal :=
  .next (s.run fun s => s.routeExpiry)

/-- ID_CONFLICT (R171): An ID held in two enumerations for 3 s sets ID_CONFLICT. -/
def execIdConflict (s : State) : Host.Outcome State Fault Refusal :=
  .next (s.run fun s => s.idConflict)

/-- KNOT_CELL_RECEIVE (R175): A received KNOT cell merges into the knot table, evicts the oldest when full, or is sent on late. -/
def execKnotCellReceive (port : Nat) (c : Cell) (s : State) : Host.Outcome State Fault Refusal :=
  .next (s.cellRow port c (c.cls = 1 && c.kind = 0))

/-- KNOT_FLUSH (R176): At a window's flush time, each knot of the window is sent toward the sink. -/
def execKnotFlush (s : State) : Host.Outcome State Fault Refusal :=
  .next (s.run fun s => s.knotFlush)

/-- KNOT_ACK (R179): Writing knot_ack releases the FAULT_N that the sink drove. -/
def execKnotAck (m : Msg) (s : State) : Host.Outcome State Fault Refusal :=
  .next (s.corrixFor m fun k _ => decide (k = Ob.knot_ack))

end Sys2Proof.Machine
end

