-- ==== Sys2Proof/Machine/CorrixCommands.lean ====
section
/-! DEFINITION. Commands of chapter 2: Corrix requests, relays, the host SPI target, the commit. -/

namespace Sys2Proof.Machine

/-- READ (R46): Corrix READ request: returns the object's value, or for a per-die object addressed with die field 0xF, a FAIL byte followed by one value per die. -/
def execRead (m : Msg) (s : State) : Host.Outcome State Fault Refusal :=
  .next (s.corrixIn 0x01 m)

/-- WRITE (R46): Corrix WRITE request: writes any object that has no row of its own, with access checks and clamping; an rws write moves the commit state from IDLE to STAGED. -/
def execWrite (m : Msg) (s : State) : Host.Outcome State Fault Refusal :=
  .next (s.corrixIn 0x02 m)

/-- READ_SEG (R61): Corrix READ_SEG request: returns COUNT bytes of a blob from OFFSET, or FILL and SIZE when COUNT is 0. -/
def execReadSeg (m : Msg) (s : State) : Host.Outcome State Fault Refusal :=
  .next (s.corrixIn 0x03 m)

/-- WRITE_SEG (R61): Corrix WRITE_SEG request: appends or rewrites a blob segment by its OFFSET against FILL, and completes the transfer when LAST is set. -/
def execWriteSeg (m : Msg) (s : State) : Host.Outcome State Fault Refusal :=
  .next (s.corrixIn 0x04 m)

/-- PREPARE (R66): Corrix PREPARE request: records COMMIT_ID, enters PREPARING and asks every die in dies_alive for its vote. -/
def execPrepare (m : Msg) (s : State) : Host.Outcome State Fault Refusal :=
  .next (s.corrixIn 0x10 m)

/-- LAUNCH (R69): Corrix LAUNCH request: arms a READY commit at launch time T, replaces T in ARMED, or repeats the epoch of a commit already applied. -/
def execLaunch (m : Msg) (s : State) : Host.Outcome State Fault Refusal :=
  .next (s.corrixIn 0x11 m)

/-- ABORT (R72): Corrix ABORT request: returns the part from PREPARING, READY or ARMED to STAGED and keeps the staged values. -/
def execAbort (m : Msg) (s : State) : Host.Outcome State Fault Refusal :=
  .next (s.corrixIn 0x12 m)

/-- DISCARD (R72): Corrix DISCARD request: in STAGED, resets every staged value to its value in force and enters IDLE. -/
def execDiscard (m : Msg) (s : State) : Host.Outcome State Fault Refusal :=
  .next (s.corrixIn 0x13 m)

/-- PING (R46): Corrix PING request: returns the identity word and node_id. -/
def execPing (m : Msg) (s : State) : Host.Outcome State Fault Refusal :=
  .next (s.corrixIn 0x3F m)

/-- UNLISTED_OPCODE (R46): A message with an unlisted opcode, including an EVENT that reaches a part, is answered MALFORMED, counted and not executed. -/
def execUnlistedOpcode (op : Nat) (m : Msg) (s : State) : Host.Outcome State Fault Refusal :=
  .next (if listedOps.contains op then s else s.corrixIn op m)

/-- CORRIX_RELAY (R53): A unicast request for another node is relayed toward that node over Hawser, or answered UNREACHABLE when no route exists. -/
def execCorrixRelay (op : Nat) (m : Msg) (s : State) : Host.Outcome State Fault Refusal :=
  .next (s.relayRow op m)

/-- BROADCAST (R52): A broadcast request is executed, and relayed on every port in service except the arrival port; repeats are discarded. -/
def execBroadcast (op : Nat) (m : Msg) (s : State) : Host.Outcome State Fault Refusal :=
  .next (if m.bcast then s.corrixIn op m else s)

/-- CORRIX_RESPONSE_RELAY (R172): A Corrix response leaves by the port recorded in the relay table, is routed toward ENTRY, or at the entry part is returned on the original path or discarded as an orphan. -/
def execCorrixResponseRelay (port : Nat) (entry : Nat) (op : Nat) (m : Msg) (s : State) : Host.Outcome State Fault Refusal :=
  .next (s.responseRow port entry op m)

/-- RELAY_ENTRY_EXPIRY (R172): After 10 ms a relay table entry, or an entry part's request record, is removed. -/
def execRelayEntryExpiry (s : State) : Host.Outcome State Fault Refusal :=
  .next (s.run fun s => s.relayExpiry)

/-- BCAST_RECORD_EXPIRY (R52): After 1 s the NODE, SESSION and SEQ kept for a broadcast are dropped. -/
def execBcastRecordExpiry (s : State) : Host.Outcome State Fault Refusal :=
  .next (s.run fun s => s.bcastExpiry)

/-- BLOB_HOLD_RELEASE (R62): With no segment for blob_idle_s, the session's hold on the blob transfer is released and FILL is kept. -/
def execBlobHoldRelease (s : State) : Host.Outcome State Fault Refusal :=
  .next (s.run fun s => s.holdRelease)

/-- HOST_SPI_READ (R56): Host SPI command 0x03 returns host-port bytes from the given address onward. -/
def execHostSpiRead (addr : Nat) (count : Nat) (s : State) : Host.Outcome State Fault Refusal :=
  .next (s.hostSpiRead addr count)

/-- HOST_SPI_WRITE (R56): Host SPI command 0x02 writes bytes, such as the request mailbox, from the given address onward. -/
def execHostSpiWrite (addr : Nat) (bytes : List Byte) (s : State) : Host.Outcome State Fault Refusal :=
  .next (s.hostSpiWrite addr bytes)

/-- HOST_SPI_IGNORED_COMMAND (R56): A host SPI transaction with any other command byte is ignored up to the end of the transaction. -/
def execHostSpiIgnoredCommand (command : Nat) (bytes : List Byte) (s : State) : Host.Outcome State Fault Refusal :=
  .next (s.hostSpiIgnored command bytes)

/-- HCTL_SEND (R56): Writing 0x01 to HCTL sends the request held in the request mailbox. -/
def execHctlSend (s : State) : Host.Outcome State Fault Refusal :=
  .next (s.hctlSend)

/-- HCTL_FREE_RESPONSE (R56): Writing 0x02 to HCTL frees the response mailbox. -/
def execHctlFreeResponse (s : State) : Host.Outcome State Fault Refusal :=
  .next (s.hctlFree)

/-- ARP_ICMP_REQUEST (R54): The management Ethernet answers ARP and ICMP echo requests. -/
def execArpIcmpRequest (icmp : Bool) (source : Nat) (target : Nat) (data : List Byte) (s : State) : Host.Outcome State Fault Refusal :=
  .next (s.arpIcmp icmp source target data)

/-- VOTE_TIMEOUT (R66): A die in dies_alive that has not voted within 2 ms counts as voting against, with reason 0x05. -/
def execVoteTimeout (s : State) : Host.Outcome State Fault Refusal :=
  .next (s.run fun s => s.voteTimeout)

/-- VOTE_COMPLETE (R66): When the vote ends, the part enters READY or STAGED, mirrors to die 1 on a vote in favour, and sends the PREPARE response. -/
def execVoteComplete (s : State) : Host.Outcome State Fault Refusal :=
  .next (s.run fun s => s.voteComplete)

/-- COMMIT_APPLY (R70): At T, an armed commit is applied on all dies together, commit_epoch increases, and its journal group is written. -/
def execCommitApply (s : State) : Host.Outcome State Fault Refusal :=
  .next (s.run fun s => s.commitApply)

end Sys2Proof.Machine
end

