-- ==== Sys2Proof/Machine/LampCommands.lean ====
section
/-! DEFINITION. Commands of chapters 9 to 11: correction, raster, lamp faults. -/

namespace Sys2Proof.Machine

/-- CORR_PATCH (R290): A write of corr_patch queues a record patch, or is answered BUSY when the queue is full. -/
def execCorrPatch (m : Msg) (s : State) : Host.Outcome State Fault Refusal :=
  .next (s.corrixFor m fun k _ => decide (k = Ob.corr_patch))

/-- PATCH_APPLY (R290): At each frame boundary the queued patches are written into the set in force. -/
def execPatchApply (die : Nat) (s : State) : Host.Outcome State Fault Refusal :=
  .next (s.onDie die fun s => s.patchApply die)

/-- SHIFT_LINE_BEGIN (R312): A line unit begins to shift once its lamps are written and the previous shift is done. -/
def execShiftLineBegin (die : Nat) (group : Nat) (underrunAt : Option Nat) (s : State) : Host.Outcome State Fault Refusal :=
  .next (s.onDie die fun s => s.shiftBegin die group underrunAt)

/-- SHIFT_COMPLETE (R312): The shift of a view-frame ends, setting ready(j) and comparing the check rectangle CRCs. -/
def execShiftComplete (die : Nat) (group : Nat) (s : State) : Host.Outcome State Fault Refusal :=
  .next (s.onDie die fun s => s.shiftDone die group)

/-- ROW_SHORT (R318): ROW_SENSE not risen at the end of its window makes ROW_EN inactive and skips that scan line. -/
def execRowShort (die : Nat) (group : Nat) (s : State) : Host.Outcome State Fault Refusal :=
  .next (s.onDie die fun s => s.rowShort die group)

/-- RG_ROW_FAULT_CLEAR (R318): Writing 1 to a bit of rg_row_fault drives its scan line again. -/
def execRgRowFaultClear (m : Msg) (s : State) : Host.Outcome State Fault Refusal :=
  .next (s.corrixFor m (fun k _ => inKeys k 0x7010 0x7013 26 26))

/-- OUT_FAULT (R327): An output whose ball disagrees in 16 of 32 samples is disabled with OUT_FAULT. -/
def execOutFault (die : Nat) (group : Nat) (output : Nat) (disagreeing : Nat) (s : State) : Host.Outcome State Fault Refusal :=
  .next (s.onDie die fun s => s.outFault die group output disagreeing)

/-- RG_OUT_FAULT_CLEAR (R328): Writing 1 to a bit of rg_out_fault re-enables the output and rewrites the configuration. -/
def execRgOutFaultClear (m : Msg) (s : State) : Host.Outcome State Fault Refusal :=
  .next (s.corrixFor m (fun k _ => inKeys k 0x7010 0x7013 27 27))

/-- READBACK (R320): A due readback sends READBACK and shifts readback words out of every driver. -/
def execReadback (die : Nat) (group : Nat) (s : State) : Host.Outcome State Fault Refusal :=
  .next (s.onDie die fun s => s.readback die group)

/-- READBACK_RECORD (R322): A readback record is checked by its mark, moves the fault map, and gives the driver temperature. -/
def execReadbackRecord (die : Nat) (chain : Nat) (driver : Nat) (words : List (List Bool)) (s : State) : Host.Outcome State Fault Refusal :=
  .next (s.onDie die fun s => s.record die chain driver words)

/-- SR_ENTERED (R317): After rg_sr_after held view-frames, a frame-memory group enters self-refresh. -/
def execSrEntered (die : Nat) (group : Nat) (s : State) : Host.Outcome State Fault Refusal :=
  .next (s.onDie die fun s => s.srEnter die group)

/-- RG_SR_MODE (R317): Writing rg_sr_mode sets the self-refresh mode, and mode 2 enters self-refresh at once. -/
def execRgSrMode (m : Msg) (s : State) : Host.Outcome State Fault Refusal :=
  .next (s.corrixFor m (fun k _ => inKeys k 0x7010 0x7013 14 14))

/-- RASTER_TOLERANCE_UPDATE (R326): Every 1 µs the die computes and states raster_tolerance_ns to its DRAM controllers. -/
def execRasterToleranceUpdate (die : Nat) (s : State) : Host.Outcome State Fault Refusal :=
  .next (s.onDie die fun s => s.toleranceUpdate die)

/-- FAULT_WRITE (R337): Writing fault_write sets one fault map entry and resets its counts. -/
def execFaultWrite (m : Msg) (s : State) : Host.Outcome State Fault Refusal :=
  .next (s.corrixFor m fun k _ => decide (k = Ob.fault_write))

/-- FG_BLANKED_CLEAR (R344): Writing 1 to fg_blanked lifts the blank of a linked group whose rule is no longer met. -/
def execFgBlankedClear (m : Msg) (s : State) : Host.Outcome State Fault Refusal :=
  .next (s.corrixFor m (fun k _ => inKeys k 0x7D00 0x7DFF 6 6))

end Sys2Proof.Machine
end

