-- ==== Sys2Proof/Machine/LaneCommands.lean ====
section
/-! DEFINITION. Commands of chapter 4: Hawser lanes. -/

namespace Sys2Proof.Machine

/-- LANE_TX_START (R127): Within 100 µs of its lane PLL locking, an enabled lane begins transmitting markers and idle blocks. -/
def execLaneTxStart (die : Nat) (lane : Nat) (s : State) : Host.Outcome State Fault Refusal :=
  .next (s.onDie die fun s => s.laneTxStart die lane)

/-- SQUELCH_OPEN (R128): The receiver's signal detect opens, and bring-up begins or a sleeping receiver wakes. -/
def execSquelchOpen (die : Nat) (lane : Nat) (s : State) : Host.Outcome State Fault Refusal :=
  .next (s.onDie die fun s => s.squelchOpen die lane)

/-- CDR_LOCK (R128): Clock recovery locks and equaliser adaptation begins. -/
def execCdrLock (die : Nat) (lane : Nat) (s : State) : Host.Outcome State Fault Refusal :=
  .next (s.onDie die fun s => s.cdrLock die lane)

/-- EQUALISER_CONVERGED (R128): CTLE and DFE converge and marker search begins. -/
def execEqualiserConverged (die : Nat) (lane : Nat) (s : State) : Host.Outcome State Fault Refusal :=
  .next (s.onDie die fun s => s.eqConverged die lane)

/-- MARKER_CANDIDATE (R123): A pattern match becomes a marker candidate, replacing the oldest of 4. -/
def execMarkerCandidate (die : Nat) (lane : Nat) (pos : Nat) (inverted : Bool) (s : State) : Host.Outcome State Fault Refusal :=
  .next (s.onDie die fun s => s.markerCandidate die lane pos inverted)

/-- MARKER_LOCK (R123): A candidate matched at three further spacings becomes lock, or is rejected when it misses. -/
def execMarkerLock (die : Nat) (lane : Nat) (pos : Nat) (spacings : Nat) (s : State) : Host.Outcome State Fault Refusal :=
  .next (s.onDie die fun s => s.markerLock die lane pos spacings)

/-- LANE_IN_SERVICE (R128): After FEC alignment and deskew the lane is in service, its latencies are measured, and its port may come into service. -/
def execLaneInService (die : Nat) (lane : Nat) (skewNs : Nat) (txPs : Nat) (rxPs : Nat) (s : State) : Host.Outcome State Fault Refusal :=
  .next (s.onDie die fun s => s.laneInService die lane skewNs txPs rxPs)

/-- ALIGNMENT_MARKER_RECEIVE (R122): A received marker updates RX_OK, TX_MAP, BIP8, sleep announce and far-end loop requests. -/
def execAlignmentMarkerReceive (die : Nat) (lane : Nat) (k : RxMarker) (s : State) : Host.Outcome State Fault Refusal :=
  .next (s.onDie die fun s => s.markerArrives die lane k)

/-- ALIGNMENT_MARKER_SEND (R120): A lane sends its marker, applying pending presets, TX_MAP changes, swing trims and sleep announces. -/
def execAlignmentMarkerSend (die : Nat) (lane : Nat) (s : State) : Host.Outcome State Fault Refusal :=
  .next (s.onDie die fun s => s.markerLeaves die lane)

/-- LOCK_LOST (R124): After 4 expected markers missed in a row, the lane loses lock, counts it and returns to marker search. -/
def execLockLost (die : Nat) (lane : Nat) (missed : Nat) (s : State) : Host.Outcome State Fault Refusal :=
  .next (s.onDie die fun s => s.lockLost die lane missed)

/-- SIGNAL_LOST (R125): Signal detect closed for 1 µs takes the lane out of service with SIGNAL_LOST, or enters receive sleep after SLEEP_ANNOUNCE. -/
def execSignalLost (die : Nat) (lane : Nat) (closedNs : Nat) (s : State) : Host.Outcome State Fault Refusal :=
  .next (s.onDie die fun s => s.signalLost die lane closedNs)

/-- FEC_UNCORRECTABLE (R121): An uncorrectable RS codeword is counted and its blocks are passed up marked errored. -/
def execFecUncorrectable (die : Nat) (lane : Nat) (s : State) : Host.Outcome State Fault Refusal :=
  .next (s.onDie die fun s => s.fecBad die lane)

/-- DROPPED (R135): lane_drop_ucw uncorrectable codewords within 10 ms clear the lane's RX_OK and set DROPPED. -/
def execDropped (die : Nat) (lane : Nat) (s : State) : Host.Outcome State Fault Refusal :=
  .next (s.onDie die fun s => s.laneDropped die lane)

/-- DROPPED_LANE_RETURN (R135): After 1,024 clean markers a dropped lane sets RX_OK again. -/
def execDroppedLaneReturn (die : Nat) (lane : Nat) (s : State) : Host.Outcome State Fault Refusal :=
  .next (s.onDie die fun s => s.laneReturn die lane)

/-- LANE_SER_UPDATE (R135): Each second lane_ser is computed, and DEGRADED is set when it exceeds lane_degrade_ser. -/
def execLaneSerUpdate (die : Nat) (lane : Nat) (corrected : Nat) (s : State) : Host.Outcome State Fault Refusal :=
  .next (s.onDie die fun s => s.serUpdate die lane corrected)

/-- DEGRADED_REPORT (R145): DEGRADED held for 10 s raises a fault report. -/
def execDegradedReport (die : Nat) (lane : Nat) (s : State) : Host.Outcome State Fault Refusal :=
  .next (s.onDie die fun s => s.degradedReport die lane)

/-- TX_SLEEP_SET (R137): Setting TX_SLEEP announces sleep in 4 markers, then stops driving. -/
def execTxSleepSet (m : Msg) (s : State) : Host.Outcome State Fault Refusal :=
  .next (s.corrixFor m (fun k b => inKeys k 0x2008 0x2008 1 8 && bit (leAt b 0 1) 0))

/-- TX_SLEEP_CLEAR (R137): Clearing TX_SLEEP makes the transmitter drive valid symbols within 20 µs. -/
def execTxSleepClear (m : Msg) (s : State) : Host.Outcome State Fault Refusal :=
  .next (s.corrixFor m (fun k b => inKeys k 0x2008 0x2008 1 8 && !(bit (leAt b 0 1) 0)))

/-- RX_SLEEP_SET (R137): Setting RX_SLEEP puts the receiver to sleep at once and clears its RX_OK. -/
def execRxSleepSet (m : Msg) (s : State) : Host.Outcome State Fault Refusal :=
  .next (s.corrixFor m (fun k b => inKeys k 0x2008 0x2008 1 8 && bit (leAt b 0 1) 1))

/-- RX_SLEEP_CLEAR (R137): Clearing RX_SLEEP wakes the receiver, which relocks. -/
def execRxSleepClear (m : Msg) (s : State) : Host.Outcome State Fault Refusal :=
  .next (s.corrixFor m (fun k b => inKeys k 0x2008 0x2008 1 8 && !(bit (leAt b 0 1) 1)))

/-- LOOP_OFF (R139): lane_loop 0 ends any test loop on the lane. -/
def execLoopOff (m : Msg) (s : State) : Host.Outcome State Fault Refusal :=
  .next (s.corrixFor m (fun k b => inKeys k 0x2020 0x2020 1 8 && (leAt b 0 1 = 0 || 3 < leAt b 0 1)))

/-- NEAR_END_SERIAL_LOOP (R139): lane_loop 1 loops the serial transmit signal into the receiver and takes the lane out of service. -/
def execNearEndSerialLoop (m : Msg) (s : State) : Host.Outcome State Fault Refusal :=
  .next (s.corrixFor m (fun k b => inKeys k 0x2020 0x2020 1 8 && leAt b 0 1 = 1))

/-- NEAR_END_PARALLEL_LOOP (R139): lane_loop 2 loops the block stream from transmit PCS to receive PCS. -/
def execNearEndParallelLoop (m : Msg) (s : State) : Host.Outcome State Fault Refusal :=
  .next (s.corrixFor m (fun k b => inKeys k 0x2020 0x2020 1 8 && leAt b 0 1 = 2))

/-- FAR_END_LOOP_REQUEST (R140): lane_loop 3 sets FE_LOOP_REQ in the lane's markers. -/
def execFarEndLoopRequest (m : Msg) (s : State) : Host.Outcome State Fault Refusal :=
  .next (s.corrixFor m (fun k b => inKeys k 0x2020 0x2020 1 8 && leAt b 0 1 = 3))

/-- FE_LOOP_REFUSED (R140): After 16 markers without its own SRC, the far-end loop is flagged refused. -/
def execFeLoopRefused (die : Nat) (lane : Nat) (s : State) : Host.Outcome State Fault Refusal :=
  .next (s.onDie die fun s => s.feRefused die lane)

/-- PRBS_GEN (R141): Writing prbs_gen replaces the transmitted stream with a PRBS pattern, or restores it. -/
def execPrbsGen (m : Msg) (s : State) : Host.Outcome State Fault Refusal :=
  .next (s.corrixFor m (fun k _ => inKeys k 0x2022 0x2022 1 8))

/-- PRBS_CHK (R141): Writing prbs_chk selects the checker pattern and clears its counters. -/
def execPrbsChk (m : Msg) (s : State) : Host.Outcome State Fault Refusal :=
  .next (s.corrixFor m (fun k _ => inKeys k 0x2023 0x2023 1 8))

/-- PRBS_SYNC (R141): The checker synchronises after 64 error-free symbols. -/
def execPrbsSync (die : Nat) (lane : Nat) (errorFree : Nat) (bits : Nat) (errors : Nat) (s : State) : Host.Outcome State Fault Refusal :=
  .next (s.onDie die fun s => s.prbsSync die lane errorFree bits errors)

/-- PRBS_RESYNC (R141): More than 128 errors in 1,024 symbols resynchronise the checker, which counts it. -/
def execPrbsResync (die : Nat) (lane : Nat) (errored : Nat) (bits : Nat) (errors : Nat) (s : State) : Host.Outcome State Fault Refusal :=
  .next (s.onDie die fun s => s.prbsResync die lane errored bits errors)

/-- LANE_PAIR_MODE (R142): Writing lane_pair_mode drops lanes 6 and 7 and restarts them in Hawser or Ethernet mode. -/
def execLanePairMode (m : Msg) (s : State) : Host.Outcome State Fault Refusal :=
  .next (s.corrixFor m fun k _ => decide (k = Ob.lane_pair_mode))

/-- ETH_LINK_UP (R142): The 100GbE port completes negotiation and training and comes up. -/
def execEthLinkUp (die : Nat) (s : State) : Host.Outcome State Fault Refusal :=
  .next (s.onDie die fun s => s.ethUp die)

/-- ETH_FRAME_RECEIVE (R142): An Ethernet frame is received on the 100GbE port, and oversize or malformed frames are dropped. -/
def execEthFrameReceive (die : Nat) (length : Nat) (tags : Nat) (kind : EthKind) (s : State) : Host.Outcome State Fault Refusal :=
  .next (s.onDie die fun s => s.ethFrame die length tags kind)

end Sys2Proof.Machine
end

