-- ==== Sys2Proof/Machine/LayCommands.lean ====
section
/-! DEFINITION. Commands of chapter 3: Lay time. -/

namespace Sys2Proof.Machine

/-- ROOT_LISTEN_EXPIRY (R79): After a rank-1 part has listened for 1 s without hearing another root, it becomes root and increments lay_root_gen. -/
def execRootListenExpiry (s : State) : Host.Outcome State Fault Refusal :=
  .next (s.run fun s => s.listenExpiry)

/-- SYNC_RECEIVE (R103): An accepted SYNC cell from the upstream port updates the Lay servo, which may step, count outliers, lock or relock. -/
def execSyncReceive (port : Nat) (c : Cell) (s : State) : Host.Outcome State Fault Refusal :=
  .next (s.cellRow port c (c.cls = 0 && leAt c.payload 0 1 ≠ 2 && leAt c.payload 0 1 ≠ 3))

/-- SYNC_SEND (R96): Every 125 µs, a part in ROOT, LOCKED or HOLDOVER sends a SYNC cell on each port in service. -/
def execSyncSend (s : State) : Host.Outcome State Fault Refusal :=
  .next (s.run fun s => s.syncSend)

/-- DELAY_REQ_SEND (R96): Every 1 ms, each port in service sends a DELAY_REQ. -/
def execDelayReqSend (s : State) : Host.Outcome State Fault Refusal :=
  .next (s.run fun s => s.delayReqSend)

/-- DELAY_REQ_RECEIVE (R96): A received DELAY_REQ is answered with a DELAY_RESP within 10 µs. -/
def execDelayReqReceive (port : Nat) (c : Cell) (s : State) : Host.Outcome State Fault Refusal :=
  .next (s.cellRow port c (c.cls = 0 && leAt c.payload 0 1 = 2))

/-- DELAY_RESP_RECEIVE (R98): A DELAY_RESP completes an exchange, and the port's median path delay is updated. -/
def execDelayRespReceive (port : Nat) (c : Cell) (s : State) : Host.Outcome State Fault Refusal :=
  .next (s.cellRow port c (c.cls = 0 && leAt c.payload 0 1 = 3))

/-- DELAY_REQ_MISSING (R98): A DELAY_REQ unanswered after 1 ms counts as missing. -/
def execDelayReqMissing (port : Nat) (s : State) : Host.Outcome State Fault Refusal :=
  .next (s.run fun s => s.delayMissing port)

/-- UPSTREAM_LOSS (R104): When the upstream port stops being eligible, the follower switches to another eligible port or enters HOLDOVER. -/
def execUpstreamLoss (s : State) : Host.Outcome State Fault Refusal :=
  .next (s.run fun s => s.upstreamLoss)

/-- ROOT_TAKEOVER (R81): A backup root that has heard no live rank-1 sync for lay_root_loss_ms becomes acting root with no step. -/
def execRootTakeover (s : State) : Host.Outcome State Fault Refusal :=
  .next (s.run fun s => s.rootTakeover)

/-- LAY_ROOT_HANDBACK (R82): Writing lay_root_handback makes an acting backup set HANDBACK in its sync cells for 10 ms. -/
def execLayRootHandback (m : Msg) (s : State) : Host.Outcome State Fault Refusal :=
  .next (s.corrixFor m fun k _ => decide (k = Ob.lay_root_handback))

/-- HANDBACK_END (R82): After 10 ms of HANDBACK, the backup returns to follower. -/
def execHandbackEnd (s : State) : Host.Outcome State Fault Refusal :=
  .next (s.run fun s => s.handbackEnd)

/-- REF_QUALIFY (R84): A reference becomes qualified after lay_ref_qual_s of its valid condition, and the root may select it. -/
def execRefQualify (code : Nat) (s : State) : Host.Outcome State Fault Refusal :=
  .next (s.run fun s => s.refQualify code)

/-- REF_LOST (R84): On the loss condition of the selected reference, qualification ends, REF_LOST is set and the root reselects or holds over. -/
def execRefLost (loss : RefLoss) (s : State) : Host.Outcome State Fault Refusal :=
  .next (s.run fun s => s.refLost loss.code loss.frefStopped)

/-- REF_MONITOR_MEASURE (R87): Once per second, the reference monitor measures every qualified reference against REFCLK and computes the drift. -/
def execRefMonitorMeasure (ppb : List (Nat × Int)) (s : State) : Host.Outcome State Fault Refusal :=
  .next (s.run fun s => s.refMeasure ppb)

/-- REF_DRIFT (R87): A drift above lay_drift_ppb for lay_drift_dwell_s disqualifies the selected reference and sets REF_DRIFT. -/
def execRefDrift (s : State) : Host.Outcome State Fault Refusal :=
  .next (s.run fun s => s.refDrift)

/-- LAY_STEP_ACCEPT (R91): Writing lay_step_accept freezes the pending offset and schedules the step. -/
def execLayStepAccept (m : Msg) (s : State) : Host.Outcome State Fault Refusal :=
  .next (s.corrixFor m fun k _ => decide (k = Ob.lay_step_accept))

/-- LAY_TIME_SET (R94): Writing lay_time_set at the root schedules a step to the written value. -/
def execLayTimeSet (m : Msg) (s : State) : Host.Outcome State Fault Refusal :=
  .next (s.corrixFor m fun k _ => decide (k = Ob.lay_time_set))

/-- STEP_APPLIED (R92): At S, every part adds the step amount to Lay time and moves every pending time by it. -/
def execStepApplied (s : State) : Host.Outcome State Fault Refusal :=
  .next (s.run fun s => s.stepApplied)

/-- PTP_MESSAGE_RECEIVE (R85): A PTP message received on a PTP port updates its domain clock. -/
def execPtpMessageReceive (wire : PtpWire) (p : PtpMsg) (s : State) : Host.Outcome State Fault Refusal :=
  .next (s.run fun s => s.ptpMessage wire.port wire.domain wire.transport wire.source p)

/-- PTP_EVENT_TX (R110): A two-step event message sent places a transmit timestamp entry, or sets overflow when the queue is full. -/
def execPtpEventTx (die : Nat) (which : Nat) (seqId : Nat) (msgType : Nat) (domain : Nat) (s : State) : Host.Outcome State Fault Refusal :=
  .next (s.onDie die fun s => s.ptpTx die which seqId msgType domain)

/-- PTP_TXTS_AGED (R110): A timestamp entry not looked up within 1 s is removed and counted. -/
def execPtpTxtsAged (s : State) : Host.Outcome State Fault Refusal :=
  .next (s.run fun s => s.txtsAged)

/-- LAY_EVT_EDGE (R111): A LAY_EVT output edge or pulse falls at its Lay time, by its mode. -/
def execLayEvtEdge (output : Nat) (s : State) : Host.Outcome State Fault Refusal :=
  .next (s.run fun s => s.layEvtEdge output)

/-- PPS_IN_CAPTURE (R113): A rising edge on PPS_IN is captured in Lay time into lay_pps_last. -/
def execPpsInCapture (fref : Nat) (s : State) : Host.Outcome State Fault Refusal :=
  .next (s.run fun s => s.ppsIn fref)

/-- FSYNC_IN_CAPTURE (R113): A rising edge on FSYNC_IN is captured in Lay time into lay_fsync_last. -/
def execFsyncInCapture (s : State) : Host.Outcome State Fault Refusal :=
  .next (s.run fun s => s.fsyncIn)

/-- BRAID_HOLDOVER (R105): A die whose Braid link to die 0 fails holds over alone and sets HOLDOVER_ENTERED. -/
def execBraidHoldover (b : BraidLink) (s : State) : Host.Outcome State Fault Refusal :=
  .next (s.onDie b.die fun s => s.braidHoldover b.die b.linked)

end Sys2Proof.Machine
end

