-- ==== Sys2Proof/Machine/MemoryCommands.lean ====
section
/-! DEFINITION. Commands of chapter 12: SRAM and DRAM. -/

namespace Sys2Proof.Machine

/-- SRAM_REQUEST (R349): A port's SRAM request is served, waits, or receives busy after a same-word collision. -/
def execSramRequest (die : Nat) (reqs : List SramReq) (s : State) : Host.Outcome State Fault Refusal :=
  .next (s.onDie die fun s => s.sramRequest die reqs)

/-- SLICE_RETENTION (R356): A slice idle for sram_ret_idle_us in mode 1 enters retention. -/
def execSliceRetention (die : Nat) (slice : Nat) (s : State) : Host.Outcome State Fault Refusal :=
  .next (s.onDie die fun s => s.sliceRetention die slice)

/-- SLICE_WAKE_COMPLETE (R356): A waking slice finishes its exit and serves the waiting requests. -/
def execSliceWakeComplete (die : Nat) (slice : Nat) (s : State) : Host.Outcome State Fault Refusal :=
  .next (s.onDie die fun s => s.sliceWake die slice)

/-- SRAM_SLICE_MODE (R356): Writing sram_slice_mode keeps a slice on, lets it retain, or turns it off. -/
def execSramSliceMode (m : Msg) (s : State) : Host.Outcome State Fault Refusal :=
  .next (s.corrixFor m (fun k _ => inKeys k 0x8002 0x8002 1 8))

/-- BIST_WORD_TEST (R359): Field BIST locks a word of an idle bank and tests it with 4 accesses. -/
def execBistWordTest (die : Nat) (readBackOk : Bool) (s : State) : Host.Outcome State Fault Refusal :=
  .next (s.onDie die fun s => s.bistWord die readBackOk)

/-- BIST_STOP (R359): sram_bist_mode 0 stops BIST at the end of the word under test. -/
def execBistStop (m : Msg) (s : State) : Host.Outcome State Fault Refusal :=
  .next (s.corrixFor m (fun k b => k = Ob.sram_bist_mode && leAt b 0 1 = 0))

/-- BIST_CONTINUOUS (R359): sram_bist_mode 1 runs BIST passes continuously. -/
def execBistContinuous (m : Msg) (s : State) : Host.Outcome State Fault Refusal :=
  .next (s.corrixFor m (fun k b => k = Ob.sram_bist_mode && (leAt b 0 1 = 1 || 2 < leAt b 0 1)))

/-- BIST_ONE_PASS (R359): sram_bist_mode 2 runs one BIST pass. -/
def execBistOnePass (m : Msg) (s : State) : Host.Outcome State Fault Refusal :=
  .next (s.corrixFor m (fun k b => k = Ob.sram_bist_mode && leAt b 0 1 = 2))

/-- DRAM_ARBITRATION_ROUND (R367): At the end of each burst, the channel grants the highest-priority waiting request. -/
def execDramArbitrationRound (die : Nat) (channel : Nat) (reqs : List DramReq) (s : State) : Host.Outcome State Fault Refusal :=
  if s.boot.held || s.boot.scan || !(s.alive die) || 2 ≤ channel then .next s
  else if reqs.all fun r => s.reqFitted die channel r then .next (s.dramRound die channel reqs)
  else .fault .dramRowAbsent

/-- COMMAND_PICK (R365): At each command slot, the channel issues a row hit, a precharge or an activate. -/
def execCommandPick (die : Nat) (channel : Nat) (t : SlotTiming) (s : State) : Host.Outcome State Fault Refusal :=
  .next (s.onDie die fun s => s.commandPick die channel t)

/-- DRAM_REFRESH (R362): A per-bank refresh is issued at the rate the device requires. -/
def execDramRefresh (die : Nat) (channel : Nat) (bank : Nat) (s : State) : Host.Outcome State Fault Refusal :=
  .next (s.onDie die fun s => s.dramRefresh die channel bank)

/-- MASTER_RESET (R368): A master reset mid-burst completes or discards the burst and removes queued transactions. -/
def execMasterReset (die : Nat) (channel : Nat) (master : Nat) (beatsDone : Nat) (s : State) : Host.Outcome State Fault Refusal :=
  .next (s.onDie die fun s => s.masterReset die channel master beatsDone)

/-- DRAM_SELF_REFRESH_ENTRY (R372): A channel idle for dram_sr_idle_ns enters self-refresh if the tolerance allows, else power-down. -/
def execDramSelfRefreshEntry (die : Nat) (channel : Nat) (s : State) : Host.Outcome State Fault Refusal :=
  .next (s.onDie die fun s => s.srEntry die channel)

/-- DRAM_SELF_REFRESH_EXIT (R373): A channel leaves self-refresh on a request, a low tolerance or an upcoming launch, writing pending delays. -/
def execDramSelfRefreshExit (die : Nat) (channel : Nat) (s : State) : Host.Outcome State Fault Refusal :=
  .next (s.onDie die fun s => s.srExit die channel)

/-- DRAM_DRIFT_CHECK (R374): Every 10 ms firmware reads the interval oscillator and holds delay changes pending. -/
def execDramDriftCheck (die : Nat) (channel : Nat) (drift : List Int) (s : State) : Host.Outcome State Fault Refusal :=
  .next (s.onDie die fun s => s.driftCheck die channel drift)

/-- DRAM_FORCED_EXIT (R374): A delay pending for dram_dly_max_ms forces a self-refresh entry and exit. -/
def execDramForcedExit (die : Nat) (channel : Nat) (s : State) : Host.Outcome State Fault Refusal :=
  .next (s.onDie die fun s => s.forcedExit die channel)

/-- DLY_PENDING (R374): A forced exit not achieved within 1 s sets DLY_PENDING. -/
def execDlyPending (die : Nat) (channel : Nat) (s : State) : Host.Outcome State Fault Refusal :=
  .next (s.onDie die fun s => s.dlyPending die channel)

/-- DRAM_MAINT_SWEEP (R376): Writing dram_maint_sweep starts the load sweep on an idle die, or is refused. -/
def execDramMaintSweep (m : Msg) (s : State) : Host.Outcome State Fault Refusal :=
  .next (s.corrixFor m fun k _ => decide (k = Ob.dram_maint_sweep))

/-- SWEEP_DONE (R376): The maintenance sweep ends with new load offsets and sets SWEEP_DONE. -/
def execSweepDone (die : Nat) (found : List SweepLane) (s : State) : Host.Outcome State Fault Refusal :=
  .next (s.onDie die fun s => s.sweepDone die found)

end Sys2Proof.Machine
end

