-- ==== Sys2Proof/Machine/PictureCommands.lean ====
section
/-! DEFINITION. Commands of chapters 6 and 7: launches, sending, sources. -/

namespace Sys2Proof.Machine

/-- SEND_START (R189): At a view-frame's send start, the head latches sources and starts composing, and applies any compose_apply due. -/
def execSendStart (frame : Nat) (view : Nat) (s : State) : Host.Outcome State Fault Refusal :=
  .next (s.run fun s => s.sendStartIn frame view)

/-- DESCRIPTOR_POST (R195): A completed segment's descriptor is posted, and its ring is put in the ready queue. -/
def execDescriptorPost (node : Nat) (band : Nat) (s : State) : Host.Outcome State Fault Refusal :=
  .next (s.run fun s => s.descriptorPost node band)

/-- SEGMENT_WRITE (R230): The packer encodes region pixels into pool segments, waiting when the pool is full, and updates the region CRC. -/
def execSegmentWrite (node : Nat) (band : Nat) (frame : Nat) (view : Nat) (s : State) : Host.Outcome State Fault Refusal :=
  .next (s.run fun s => s.segmentWrite node band frame view)

/-- RING_CACHE_LOAD (R195): A waiting ready ring is loaded into the head-of-ring cache once an entry frees. -/
def execRingCacheLoad (die : Nat) (s : State) : Host.Outcome State Fault Refusal :=
  .next (s.onDie die fun s => s.cacheLoad die)

/-- RING_PICK (R196): At a cell boundary, the ring engine picks a CHECK cell or the next PIXEL cell by due time and rotation. -/
def execRingPick (port : Nat) (s : State) : Host.Outcome State Fault Refusal :=
  .next (s.run fun s => s.ringPick port)

/-- CORRECTION_BEGIN (R190): Correction of a view-frame begins once its store half frees and its first cell has arrived, fixing every value it uses. -/
def execCorrectionBegin (die : Nat) (frame : Nat) (view : Nat) (s : State) : Host.Outcome State Fault Refusal :=
  .next (s.onDie die fun s => s.correctionBegin die frame view)

/-- REGION_VERDICT (R274): Once the CHECK cell has arrived and every cell is read, the check die judges the view-frame passed or failed. -/
def execRegionVerdict (frame : Nat) (view : Nat) (s : State) : Host.Outcome State Fault Refusal :=
  .next (s.run fun s => s.verdictIn frame view)

/-- VIEW_FRAME_LAUNCH (R198): At a launch time, the tile starts the ready view-frame, or holds or darkens the slot, and records the flip. -/
def execViewFrameLaunch (die : Nat) (s : State) : Host.Outcome State Fault Refusal :=
  .next (s.onDie die fun s => s.launchIn die)

/-- LATE_START (R198): A view-frame whose first line becomes ready after its launch starts then, with LATE_START. -/
def execLateStart (die : Nat) (group : Nat) (s : State) : Host.Outcome State Fault Refusal :=
  .next (s.onDie die fun s => s.lateStartIn die group)

/-- LINE_START (R310): A line starts: ROW_EN goes active, GCLK runs, blanking follows and catch-up is applied. -/
def execLineStart (die : Nat) (group : Nat) (s : State) : Host.Outcome State Fault Refusal :=
  .next (s.onDie die fun s => s.lineStart die group)

/-- SOURCE_FRAME_COMPLETE (R224): A source frame becomes complete in DRAM and available for latching. -/
def execSourceFrameComplete (source : Nat) (s : State) : Host.Outcome State Fault Refusal :=
  .next (s.run fun s => s.sourceComplete source)

/-- ST_2110_PACKET_RECEIVE (R225): An ST 2110 packet is merged by sequence number and its samples written, or discarded. -/
def execSt2110PacketReceive (source : Nat) (p : Pkt) (s : State) : Host.Outcome State Fault Refusal :=
  .next (s.run fun s => s.packetIn source p)

/-- MERGE_SKEW (R226): A copy that arrives later than src_skew_us is discarded as lost on its path. -/
def execMergeSkew (source : Nat) (p : Pkt) (s : State) : Host.Outcome State Fault Refusal :=
  .next (s.run fun s => s.mergeSkew source p)

/-- SOURCE_DAMAGED (R227): A frame still incomplete 2 ms after its marker packet is damaged and never latched. -/
def execSourceDamaged (source : Nat) (s : State) : Host.Outcome State Fault Refusal :=
  .next (s.run fun s => s.sourceDamaged source)

/-- SOURCE_STALE (R227): No frame complete for 4 periods sets SOURCE_STALE. -/
def execSourceStale (source : Nat) (s : State) : Host.Outcome State Fault Refusal :=
  .next (s.run fun s => s.sourceStale source)

/-- COMPOSE_APPLY (R223): Writing compose_apply votes on the staged composition values of this part and schedules them. -/
def execComposeApply (m : Msg) (s : State) : Host.Outcome State Fault Refusal :=
  .next (s.corrixFor m fun k _ => decide (k = Ob.compose_apply))

end Sys2Proof.Machine
end

