-- ==== Sys2Proof/Machine/Dispatch.lean ====
section
/-! DEFINITION. What each command does: one arm per constructor of Instr, each a direct call of its meaning. -/

namespace Sys2Proof.Machine

/-- The effect of a command on everything but the queue. -/
def exec (i : Instr) (s : State) : Host.Outcome State Fault Refusal :=
  match i with
  | .read m => Sys2Proof.Machine.execRead m s
  | .write m => Sys2Proof.Machine.execWrite m s
  | .readSeg m => Sys2Proof.Machine.execReadSeg m s
  | .writeSeg m => Sys2Proof.Machine.execWriteSeg m s
  | .prepare m => Sys2Proof.Machine.execPrepare m s
  | .launch m => Sys2Proof.Machine.execLaunch m s
  | .abort m => Sys2Proof.Machine.execAbort m s
  | .discard m => Sys2Proof.Machine.execDiscard m s
  | .ping m => Sys2Proof.Machine.execPing m s
  | .unlistedOpcode op m => Sys2Proof.Machine.execUnlistedOpcode op m s
  | .corrixRelay op m => Sys2Proof.Machine.execCorrixRelay op m s
  | .broadcast op m => Sys2Proof.Machine.execBroadcast op m s
  | .corrixResponseRelay port entry op m => Sys2Proof.Machine.execCorrixResponseRelay port entry op m s
  | .relayEntryExpiry => Sys2Proof.Machine.execRelayEntryExpiry s
  | .bcastRecordExpiry => Sys2Proof.Machine.execBcastRecordExpiry s
  | .blobHoldRelease => Sys2Proof.Machine.execBlobHoldRelease s
  | .hostSpiRead addr count => Sys2Proof.Machine.execHostSpiRead addr count s
  | .hostSpiWrite addr bytes => Sys2Proof.Machine.execHostSpiWrite addr bytes s
  | .hostSpiIgnoredCommand command bytes => Sys2Proof.Machine.execHostSpiIgnoredCommand command bytes s
  | .hctlSend => Sys2Proof.Machine.execHctlSend s
  | .hctlFreeResponse => Sys2Proof.Machine.execHctlFreeResponse s
  | .arpIcmpRequest icmp source target data => Sys2Proof.Machine.execArpIcmpRequest icmp source target data s
  | .voteTimeout => Sys2Proof.Machine.execVoteTimeout s
  | .voteComplete => Sys2Proof.Machine.execVoteComplete s
  | .commitApply => Sys2Proof.Machine.execCommitApply s
  | .rootListenExpiry => Sys2Proof.Machine.execRootListenExpiry s
  | .syncReceive port c => Sys2Proof.Machine.execSyncReceive port c s
  | .syncSend => Sys2Proof.Machine.execSyncSend s
  | .delayReqSend => Sys2Proof.Machine.execDelayReqSend s
  | .delayReqReceive port c => Sys2Proof.Machine.execDelayReqReceive port c s
  | .delayRespReceive port c => Sys2Proof.Machine.execDelayRespReceive port c s
  | .delayReqMissing port => Sys2Proof.Machine.execDelayReqMissing port s
  | .upstreamLoss => Sys2Proof.Machine.execUpstreamLoss s
  | .rootTakeover => Sys2Proof.Machine.execRootTakeover s
  | .layRootHandback m => Sys2Proof.Machine.execLayRootHandback m s
  | .handbackEnd => Sys2Proof.Machine.execHandbackEnd s
  | .refQualify code => Sys2Proof.Machine.execRefQualify code s
  | .refLost loss => Sys2Proof.Machine.execRefLost loss s
  | .refMonitorMeasure ppb => Sys2Proof.Machine.execRefMonitorMeasure ppb s
  | .refDrift => Sys2Proof.Machine.execRefDrift s
  | .layStepAccept m => Sys2Proof.Machine.execLayStepAccept m s
  | .layTimeSet m => Sys2Proof.Machine.execLayTimeSet m s
  | .stepApplied => Sys2Proof.Machine.execStepApplied s
  | .ptpMessageReceive wire p => Sys2Proof.Machine.execPtpMessageReceive wire p s
  | .ptpEventTx die which seqId msgType domain => Sys2Proof.Machine.execPtpEventTx die which seqId msgType domain s
  | .ptpTxtsAged => Sys2Proof.Machine.execPtpTxtsAged s
  | .layEvtEdge output => Sys2Proof.Machine.execLayEvtEdge output s
  | .ppsInCapture fref => Sys2Proof.Machine.execPpsInCapture fref s
  | .fsyncInCapture => Sys2Proof.Machine.execFsyncInCapture s
  | .braidHoldover b => Sys2Proof.Machine.execBraidHoldover b s
  | .laneTxStart die lane => Sys2Proof.Machine.execLaneTxStart die lane s
  | .squelchOpen die lane => Sys2Proof.Machine.execSquelchOpen die lane s
  | .cdrLock die lane => Sys2Proof.Machine.execCdrLock die lane s
  | .equaliserConverged die lane => Sys2Proof.Machine.execEqualiserConverged die lane s
  | .markerCandidate die lane pos inverted => Sys2Proof.Machine.execMarkerCandidate die lane pos inverted s
  | .markerLock die lane pos spacings => Sys2Proof.Machine.execMarkerLock die lane pos spacings s
  | .laneInService die lane skewNs txPs rxPs => Sys2Proof.Machine.execLaneInService die lane skewNs txPs rxPs s
  | .alignmentMarkerReceive die lane k => Sys2Proof.Machine.execAlignmentMarkerReceive die lane k s
  | .alignmentMarkerSend die lane => Sys2Proof.Machine.execAlignmentMarkerSend die lane s
  | .lockLost die lane missed => Sys2Proof.Machine.execLockLost die lane missed s
  | .signalLost die lane closedNs => Sys2Proof.Machine.execSignalLost die lane closedNs s
  | .fecUncorrectable die lane => Sys2Proof.Machine.execFecUncorrectable die lane s
  | .dropped die lane => Sys2Proof.Machine.execDropped die lane s
  | .droppedLaneReturn die lane => Sys2Proof.Machine.execDroppedLaneReturn die lane s
  | .laneSerUpdate die lane corrected => Sys2Proof.Machine.execLaneSerUpdate die lane corrected s
  | .degradedReport die lane => Sys2Proof.Machine.execDegradedReport die lane s
  | .txSleepSet m => Sys2Proof.Machine.execTxSleepSet m s
  | .txSleepClear m => Sys2Proof.Machine.execTxSleepClear m s
  | .rxSleepSet m => Sys2Proof.Machine.execRxSleepSet m s
  | .rxSleepClear m => Sys2Proof.Machine.execRxSleepClear m s
  | .loopOff m => Sys2Proof.Machine.execLoopOff m s
  | .nearEndSerialLoop m => Sys2Proof.Machine.execNearEndSerialLoop m s
  | .nearEndParallelLoop m => Sys2Proof.Machine.execNearEndParallelLoop m s
  | .farEndLoopRequest m => Sys2Proof.Machine.execFarEndLoopRequest m s
  | .feLoopRefused die lane => Sys2Proof.Machine.execFeLoopRefused die lane s
  | .prbsGen m => Sys2Proof.Machine.execPrbsGen m s
  | .prbsChk m => Sys2Proof.Machine.execPrbsChk m s
  | .prbsSync die lane errorFree bits errors => Sys2Proof.Machine.execPrbsSync die lane errorFree bits errors s
  | .prbsResync die lane errored bits errors => Sys2Proof.Machine.execPrbsResync die lane errored bits errors s
  | .lanePairMode m => Sys2Proof.Machine.execLanePairMode m s
  | .ethLinkUp die => Sys2Proof.Machine.execEthLinkUp die s
  | .ethFrameReceive die length tags kind => Sys2Proof.Machine.execEthFrameReceive die length tags kind s
  | .cellReceive port blocks => Sys2Proof.Machine.execCellReceive port blocks s
  | .cellForward port c => Sys2Proof.Machine.execCellForward port c s
  | .ownCellSend port freeSlots => Sys2Proof.Machine.execOwnCellSend port freeSlots s
  | .pixelCellReceive port c => Sys2Proof.Machine.execPixelCellReceive port c s
  | .checkCellReceive port c => Sys2Proof.Machine.execCheckCellReceive port c s
  | .canvasCellReceive port c => Sys2Proof.Machine.execCanvasCellReceive port c s
  | .imageCellReceive port c => Sys2Proof.Machine.execImageCellReceive port c s
  | .walk port c => Sys2Proof.Machine.execWalk port c s
  | .report port c => Sys2Proof.Machine.execReport port c s
  | .done port c => Sys2Proof.Machine.execDone port c s
  | .walkEndAtHead port c => Sys2Proof.Machine.execWalkEndAtHead port c s
  | .walkAfterService port => Sys2Proof.Machine.execWalkAfterService port s
  | .enumStart m => Sys2Proof.Machine.execEnumStart m s
  | .enumPeriodExpiry => Sys2Proof.Machine.execEnumPeriodExpiry s
  | .enumTimeout => Sys2Proof.Machine.execEnumTimeout s
  | .enumIdForget m => Sys2Proof.Machine.execEnumIdForget m s
  | .routeSend => Sys2Proof.Machine.execRouteSend s
  | .route port c => Sys2Proof.Machine.execRoute port c s
  | .routeExpiry => Sys2Proof.Machine.execRouteExpiry s
  | .idConflict => Sys2Proof.Machine.execIdConflict s
  | .knotCellReceive port c => Sys2Proof.Machine.execKnotCellReceive port c s
  | .knotFlush => Sys2Proof.Machine.execKnotFlush s
  | .knotAck m => Sys2Proof.Machine.execKnotAck m s
  | .sendStart frame view => Sys2Proof.Machine.execSendStart frame view s
  | .descriptorPost node band => Sys2Proof.Machine.execDescriptorPost node band s
  | .segmentWrite node band frame view => Sys2Proof.Machine.execSegmentWrite node band frame view s
  | .ringCacheLoad die => Sys2Proof.Machine.execRingCacheLoad die s
  | .ringPick port => Sys2Proof.Machine.execRingPick port s
  | .correctionBegin die frame view => Sys2Proof.Machine.execCorrectionBegin die frame view s
  | .regionVerdict frame view => Sys2Proof.Machine.execRegionVerdict frame view s
  | .viewFrameLaunch die => Sys2Proof.Machine.execViewFrameLaunch die s
  | .lateStart die group => Sys2Proof.Machine.execLateStart die group s
  | .lineStart die group => Sys2Proof.Machine.execLineStart die group s
  | .sourceFrameComplete source => Sys2Proof.Machine.execSourceFrameComplete source s
  | .st2110PacketReceive source p => Sys2Proof.Machine.execSt2110PacketReceive source p s
  | .mergeSkew source p => Sys2Proof.Machine.execMergeSkew source p s
  | .sourceDamaged source => Sys2Proof.Machine.execSourceDamaged source s
  | .sourceStale source => Sys2Proof.Machine.execSourceStale source s
  | .composeApply m => Sys2Proof.Machine.execComposeApply m s
  | .frameStart port h => Sys2Proof.Machine.execFrameStart port h s
  | .longPacket port vc p => Sys2Proof.Machine.execLongPacket port vc p s
  | .frameEnd port h => Sys2Proof.Machine.execFrameEnd port h s
  | .frameTimeout stream => Sys2Proof.Machine.execFrameTimeout stream s
  | .memoryFrameProcessed die => Sys2Proof.Machine.execMemoryFrameProcessed die s
  | .linkLost stream => Sys2Proof.Machine.execLinkLost stream s
  | .capArm m => Sys2Proof.Machine.execCapArm m s
  | .capRelease m => Sys2Proof.Machine.execCapRelease m s
  | .capTrigger slot => Sys2Proof.Machine.execCapTrigger slot s
  | .capWindowTimeout slot => Sys2Proof.Machine.execCapWindowTimeout slot s
  | .corrPatch m => Sys2Proof.Machine.execCorrPatch m s
  | .patchApply die => Sys2Proof.Machine.execPatchApply die s
  | .shiftLineBegin die group underrunAt => Sys2Proof.Machine.execShiftLineBegin die group underrunAt s
  | .shiftComplete die group => Sys2Proof.Machine.execShiftComplete die group s
  | .rowShort die group => Sys2Proof.Machine.execRowShort die group s
  | .rgRowFaultClear m => Sys2Proof.Machine.execRgRowFaultClear m s
  | .outFault die group output disagreeing => Sys2Proof.Machine.execOutFault die group output disagreeing s
  | .rgOutFaultClear m => Sys2Proof.Machine.execRgOutFaultClear m s
  | .readback die group => Sys2Proof.Machine.execReadback die group s
  | .readbackRecord die chain driver words => Sys2Proof.Machine.execReadbackRecord die chain driver words s
  | .srEntered die group => Sys2Proof.Machine.execSrEntered die group s
  | .rgSrMode m => Sys2Proof.Machine.execRgSrMode m s
  | .rasterToleranceUpdate die => Sys2Proof.Machine.execRasterToleranceUpdate die s
  | .faultWrite m => Sys2Proof.Machine.execFaultWrite m s
  | .fgBlankedClear m => Sys2Proof.Machine.execFgBlankedClear m s
  | .sramRequest die reqs => Sys2Proof.Machine.execSramRequest die reqs s
  | .sliceRetention die slice => Sys2Proof.Machine.execSliceRetention die slice s
  | .sliceWakeComplete die slice => Sys2Proof.Machine.execSliceWakeComplete die slice s
  | .sramSliceMode m => Sys2Proof.Machine.execSramSliceMode m s
  | .bistWordTest die readBackOk => Sys2Proof.Machine.execBistWordTest die readBackOk s
  | .bistStop m => Sys2Proof.Machine.execBistStop m s
  | .bistContinuous m => Sys2Proof.Machine.execBistContinuous m s
  | .bistOnePass m => Sys2Proof.Machine.execBistOnePass m s
  | .dramArbitrationRound die channel reqs => Sys2Proof.Machine.execDramArbitrationRound die channel reqs s
  | .commandPick die channel t => Sys2Proof.Machine.execCommandPick die channel t s
  | .dramRefresh die channel bank => Sys2Proof.Machine.execDramRefresh die channel bank s
  | .masterReset die channel master beatsDone => Sys2Proof.Machine.execMasterReset die channel master beatsDone s
  | .dramSelfRefreshEntry die channel => Sys2Proof.Machine.execDramSelfRefreshEntry die channel s
  | .dramSelfRefreshExit die channel => Sys2Proof.Machine.execDramSelfRefreshExit die channel s
  | .dramDriftCheck die channel drift => Sys2Proof.Machine.execDramDriftCheck die channel drift s
  | .dramForcedExit die channel => Sys2Proof.Machine.execDramForcedExit die channel s
  | .dlyPending die channel => Sys2Proof.Machine.execDlyPending die channel s
  | .dramMaintSweep m => Sys2Proof.Machine.execDramMaintSweep m s
  | .sweepDone die found => Sys2Proof.Machine.execSweepDone die found s
  | .refclkFault die which why => Sys2Proof.Machine.execRefclkFault die which why s
  | .refclkRateCheck die aPpb bPpb diffPpb => Sys2Proof.Machine.execRefclkRateCheck die aPpb bPpb diffPpb s
  | .refclkValid die which => Sys2Proof.Machine.execRefclkValid die which s
  | .pllResume die => Sys2Proof.Machine.execPllResume die s
  | .porstRelease env => Sys2Proof.Machine.execPorstRelease env s
  | .warmrstN heldNs env => Sys2Proof.Machine.execWarmrstN heldNs env s
  | .partResetWarm m => Sys2Proof.Machine.execPartResetWarm m s
  | .controlCoreRestart m => Sys2Proof.Machine.execControlCoreRestart m s
  | .watchdogExpiry die => Sys2Proof.Machine.execWatchdogExpiry die s
  | .vauxLoss => Sys2Proof.Machine.execVauxLoss s
  | .die1BootTimeout => Sys2Proof.Machine.execDie1BootTimeout s
  | .supHeartbeat => Sys2Proof.Machine.execSupHeartbeat s
  | .supHbLoss upstreamAlive => Sys2Proof.Machine.execSupHbLoss upstreamAlive s
  | .arbIn highNs => Sys2Proof.Machine.execArbIn highNs s
  | .redSupRejoin m => Sys2Proof.Machine.execRedSupRejoin m s
  | .headHeartbeatSend => Sys2Proof.Machine.execHeadHeartbeatSend s
  | .heartbeat port c => Sys2Proof.Machine.execHeartbeat port c s
  | .ckptSeg port c => Sys2Proof.Machine.execCkptSeg port c s
  | .ckptEnd port c => Sys2Proof.Machine.execCkptEnd port c s
  | .ckptAck port c => Sys2Proof.Machine.execCkptAck port c s
  | .ckptStale => Sys2Proof.Machine.execCkptStale s
  | .handover port c => Sys2Proof.Machine.execHandover port c s
  | .redDeclare m => Sys2Proof.Machine.execRedDeclare m s
  | .arbiterDeclareRepeat => Sys2Proof.Machine.execArbiterDeclareRepeat s
  | .selfDeclare => Sys2Proof.Machine.execSelfDeclare s
  | .joiningEnd => Sys2Proof.Machine.execJoiningEnd s
  | .journalRecordWrite blank programOk => Sys2Proof.Machine.execJournalRecordWrite blank programOk s
  | .tamping => Sys2Proof.Machine.execTamping s
  | .updAbort m => Sys2Proof.Machine.execUpdAbort m s
  | .updVerify => Sys2Proof.Machine.execUpdVerify s
  | .firmwareServe die => Sys2Proof.Machine.execFirmwareServe die s
  | .updReverted => Sys2Proof.Machine.execUpdReverted s
  | .recoveryDhcpTimeout => Sys2Proof.Machine.execRecoveryDhcpTimeout s
  | .sensorConversion die sensor reading => Sys2Proof.Machine.execSensorConversion die sensor reading s
  | .thermalShutdown die => Sys2Proof.Machine.execThermalShutdown die s
  | .sensorBrokenClear m => Sys2Proof.Machine.execSensorBrokenClear m s
  | .trimEvaluate die => Sys2Proof.Machine.execTrimEvaluate die s
  | .trimPllStep die => Sys2Proof.Machine.execTrimPllStep die s
  | .brownout die ns => Sys2Proof.Machine.execBrownout die ns s
  | .porstNAssert => Sys2Proof.Machine.execPorstNAssert s
  | .brownoutRestart withinMs => Sys2Proof.Machine.execBrownoutRestart withinMs s
  | .joinNoPeerTimeout => Sys2Proof.Machine.execJoinNoPeerTimeout s
  | .idleConversionSlot die => Sys2Proof.Machine.execIdleConversionSlot die s
  | .dhcpAddress addr => Sys2Proof.Machine.execDhcpAddress addr s

end Sys2Proof.Machine
end

