-- ==== Sys2Proof/Machine/Transmit.lean ====
section
/-! DEFINITION. The transmitter of a port, block slot by block slot: the deal over TX_MAP (R133), pre-emption (R156), class-0 cells (R157), IDLE (R154), and what the lanes put out (R119). -/

namespace Sys2Proof.Machine

/-- The waiting cell of a class code below a bound that goes next, and whether it is a forwarded one (R156, R160): the lowest class code, a forwarded cell before an own one; at a tile own cells wait
for a cell boundary, and for every forwarded cell. -/
def State.readyCell (s : State) (p below : Nat) : Option (Bool × Cell) :=
  let t := s.port p
  let own := if s.isHead || (t.stack.isEmpty && t.fwd.isEmpty) then lowest (t.ready.filter fun c => c.cls < below) else none
  match lowest (t.fwd.filter fun c => c.cls < below), own with
  | some c, some d => if d.cls < c.cls then some (false, d) else some (true, c)
  | some c, none => some (true, c)
  | none, some d => some (false, d)
  | none, none => none

/-- A cell begins (R154, R156): counted in cell_tx, its first `done` blocks sent. -/
def State.beginCell (s : State) (p : Nat) (e : Bool × Cell) (done : Nat) : State :=
  ((s.emit (.cell p e.2)).bumpPort p Ob.cell_tx).setPort p fun t =>
    { t with fwd := if e.1 then t.fwd.erase e.2 else t.fwd, ready := if e.1 then t.ready else t.ready.erase e.2, stack := { cell := e.2, done := done } :: t.stack,
             sinceIdle := t.sinceIdle + 1 }

/-- The most cells begun at cell boundaries before an IDLE: 14 of the 16 that R154 allows, so that cells that pre-empt the last of them still fit (DESIGN CHOICE, log entry 127). -/
def idleAfter : Nat := 14

/-- The next block of the group's stream: whether it is a data block, and its bytes. At a fragment boundary a waiting cell of a higher priority pre-empts; at a cell boundary the highest-priority waiting
cell begins, or IDLE is sent (R154, R156). With the last block of the knot of REFCLK_BOTH_LOST, that knot has left the part (R386). -/
def State.groupBlock (s : State) (p : Nat) : State × Bool × List Byte :=
  let t := s.port p
  match t.stack with
  | x :: rest =>
    match if [2, 4, 6].contains x.done && t.sinceIdle < idleAfter + 1 then s.readyCell p x.cell.cls else none with
    | some e => (s.beginCell p e 0, false, (Ctl.preempt e.2.cls (rest.length + 1)).bytes)
    | none => ((s.setPort p fun t => { t with stack := if x.done = 7 then rest else { x with done := x.done + 1 } :: rest }).when (x.done = 7 && s.lossCell x.cell) State.lossSent, true, cellBlock x.cell x.done)
  | [] =>
    match if t.sinceIdle < idleAfter then s.readyCell p 8 else none with
    | some e => (s.beginCell p e 1, true, cellBlock e.2 0)
    | none => (s.setPort p fun t => { t with sinceIdle := 0 }, false, Ctl.idle.bytes)

/-- May LAY_START stand in this slot (R154, R157)? On one lane at a cell or fragment boundary, on a group in any slot of its lane. An IDLE that is due goes before it at a cell boundary, and where 16 cells have
begun since the last one a class-0 cell waits for it (DESIGN CHOICE, log entry 127). -/
def State.layMay (s : State) (p : Nat) : Bool :=
  let t := s.port p
  match t.stack with
  | [] => decide (t.sinceIdle < idleAfter)
  | x :: _ => (s.groupSize (p / 16) (p % 16) ≠ 1 || (x.done ≠ 0 && x.done % 2 = 0)) && decide (t.sinceIdle < 16)

/-- A class-0 cell of the part's own as it leaves: TX_LAYT written, the CRC made anew (R95); a forwarded one goes unchanged (R148). -/
def stampCell (c : Cell) (tx : Nat) : Cell :=
  if c.kind = 0 then Cell.sealed { c with payload := c.payload.take 10 ++ layBytes tx ++ c.payload.drop 22 } true else c

/-- The next block of a class-0 cell, where one is being sent or may start: its LAY_START, then its 8 blocks on the same lane (R133, R157). With a DELAY_REQ its departure t1 is noted (R98). -/
def State.layBlock (s : State) (p l : Nat) : Option (State × Bool × List Byte) :=
  let t := s.port p
  match t.layTx, t.lays with
  | some x, _ => some (s.setPort p fun t => { t with layTx := if x.done = 7 then none else some { x with done := x.done + 1 } }, true, cellBlock x.cell x.done)
  | none, c0 :: rest =>
    if s.layMay p then
      let at_ := s.txStamp p
      let c := stampCell c0 at_
      let s1 := ((s.emit (.cell p c)).bumpPort p Ob.cell_tx).setPort p fun t =>
        { t with lays := rest, layTx := some { cell := c }, layOut := l, sinceIdle := t.sinceIdle + 1,
                 req := match t.req with
                   | some (q, t1, since) => some (q, if c.kind = 0 && leAt c.payload 0 1 = 2 && leAt c.payload 8 2 = q then at_ else t1, since)
                   | none => none }
      some (s1, false, Ctl.layStart.bytes)
    else none
  | none, [] => none

/-- The lane by which a port's class-0 cell leaves: that of the cell being sent, else the lowest lane of the map. -/
def State.layLaneOut (s : State) (p : Nat) : Nat := if (s.port p).layTx.isSome then (s.port p).layOut else s.txLane p

/-- The block a lane puts out in this slot: a class-0 block on the lane of the class-0 cell, its share of the deal where TX_MAP holds it, IDLE on a lane outside the map (R133, R134, R157). -/
def State.laneOut (s : State) (p l : Nat) : State × Block :=
  let t := s.port p
  let lay := l = s.layLaneOut p && (t.layTx.isSome || bit t.txMap (l - p % 16))
  if t.inService && s.role p ≠ 2 && (lay || bit t.txMap (l - p % 16)) then
    let r := if lay then (s.layBlock p l).getD (s.groupBlock p) else s.groupBlock p
    (r.1, { lane := l, data := r.2.1, bytes := r.2.2 })
  else (s, { lane := l, data := false, bytes := Ctl.idle.bytes })

/-- The scrambler and the parity of a lane after a block (R119, Table 4.2). -/
def State.scrambled (s : State) (die : Nat) (b : Block) : State :=
  s.setLane die b.lane fun l =>
    let r := scrambleBlock (l.scr.getD (Config.scramblerSeed die b.lane).toNat) b.bytes
    { l with scr := some r.1, bip := l.bip ^^^ r.2 }

/-- The lanes of a port that send blocks: awake, and not looped for the neighbour (R127, R137, R140). -/
def State.sendingLanes (s : State) (p : Nat) : List Nat := (s.portLanes p).filter fun l => s.tx (p / 16) l = 1 && !(s.lane (p / 16) l).feLoop

/-- A class-0 cell whose lane has stopped sending is cut off. -/
def State.cutLay (s : State) (p : Nat) : State :=
  if (s.port p).layTx.isSome && !((s.sendingLanes p).contains (s.port p).layOut) then s.setPort p fun t => { t with layTx := none } else s

/-- One block slot of a port (R133): the lanes in ascending order. -/
def State.txRound (s0 : State) (p : Nat) : State :=
  let s := s0.cutLay p
  let r := (s.sendingLanes p).foldl (fun (a : State × List Block) l =>
    let b := a.1.laneOut p l
    (b.1.scrambled (p / 16) b.2, a.2 ++ [b.2])) (s, [])
  r.1.emit (.blocks p r.2)

/-- The ports with a block slot that begins by now. -/
def State.txDue (s : State) : List Nat := s.portList.filter fun p => decide ((s.port p).slotPs ≤ s.now * 1000) && !(s.sendingLanes p).isEmpty

/-- The transmitters as time passes: every due slot is sent, the next due a slot later. -/
def State.tickTx (s : State) : State :=
  s.each s.txDue fun p s => (s.setPort p fun t => { t with slotPs := max t.slotPs (s.now * 1000 - 999) + slotLen }).txRound p

end Sys2Proof.Machine
end

