-- ==== Sys2Proof/Machine/Step.lean ====
section
/-! DEFINITION. One step: the command at the front of the queue, or, with none waiting, one nanosecond (log entry 8). -/

namespace Sys2Proof.Machine

/-- A nanosecond passes: REFCLK time, and, out of reset, Lay time of the part and of dies that hold over alone, and the PTP domain clocks (R75, R76, R90, R103, R105, R109); the ports send the block slots that have come (R133); an activation that has proved itself
is written to the boot sectors (R444). -/
def State.tick (s : State) : State :=
  let s1 := { s with now := s.now + 1 }
  if s.boot.held then s1 else s1.tickLay.tickTx.tickCompose.tickCamera.tickCorrect.settleBoot

/-- One step of the part. -/
def step (s : State) : Host.Outcome State Fault Refusal :=
  match s.pending with
  | [] => .next s.tick
  | c :: rest => exec c { s with pending := rest }

/-- A word spells no command: the table gives its rows no bits. -/
def State.withFetchWord (s : State) (nbits w : Nat) : State := match Sys2Proof.decodeTableWord nbits w with
  | some c => { s with pending := c :: s.pending }
  | none => s

end Sys2Proof.Machine
end

