-- ==== Sys2Proof/Safety.lean ====
section
/-! DEFINITION. The terms in which claims are made: when a command reaches the part, what an answer and a fault report may change, and the states a part held in reset can be in. -/

namespace Sys2Proof.Machine

/-! When a command takes effect -/

/-- Out of reset and not in boundary scan (R392, R395). -/
def Up (s : State) : Prop := s.boot.held = false ∧ s.boot.scan = false

/-- The part is up and the die answers (R37). -/
def UpDie (s : State) (die : Nat) : Prop := Up s ∧ s.alive die = true

/-- A message as the path it came by is counted: a Hawser cell adds one to cell_rx of its port, and is an event of its lane's crossing (R389); the bytes of one by UDP cross into the core clock (R388). -/
def State.arrived (s : State) (m : Msg) : State := match m.via with
  | .hawser p _ _ => s.cellArrives p
  | .udp _ _ _ => s.crossWords s.sup .mgmtIn (msgSize m)
  | .spi => s

/-- The path of a message carries it to the part: a Hawser port in service that is not of port_role 2, die 0's host SPI target, or UDP to the port that the part listens on (R54, R445). -/
def Carried (s : State) (m : Msg) : Prop := match m.via with
  | .hawser p _ _ => s.inService p = true ∧ s.role p ≠ 2
  | .spi => s.alive 0 = true
  | .udp _ _ d => d = if s.boot.recovery then 28741 else s.pw Ob.corrix_udp_port

/-- A unicast request of this part that is well made, that no stored response answers, while its acting supervisor serves fewer than 32 (R44-R53): the part executes it. -/
structure Served (s : State) (op : Nat) (m : Msg) : Prop where
  up      : Up s
  booted  : s.booted = true
  carried : Carried s m
  crc     : m.crc = msgCrc op m
  fresh   : bit m.flags 0 = false
  unicast : m.bcast = false
  made    : wellMade op m = true
  sup     : s.alive s.sup = true
  own     : s.ownRequest m = true
  serving : s.serving = true
  room    : m.waiting < 32
  once    : (s.sessionHit m op).bind (·.reply) = none

/-- A WRITE that one die (or the part) executes on an object of fixed size: the row found, the die it concerns, the value written. -/
structure WritesOne (s : State) (m : Msg) (d : ObjDef) (die : Nat) : Prop where
  served : Served s 0x02 m
  found  : (s.arrived m).found m = some d
  good   : badWrite m = false
  open_  : (s.arrived m).locked d m = false
  fixed  : d.ty ≠ .blob ∧ d.acc ≠ .ro
  one    : ¬ (d.perDie = true ∧ m.die = 15)
  die_   : die = homeDie d m
  there  : d.perDie = true → (s.arrived m).answers die = true
  unit   : (s.arrived m).absent die m.key = false

/-- A whole cell with a right CRC on a port in service that is not of port_role 2 (R148, R158). -/
structure CellAt (s : State) (p : Nat) (c : Cell) : Prop where
  up   : Up s
  port : s.inService p = true
  role : s.role p ≠ 2
  good : c.good = true

/-- A cell is done with: its RX stamp is used up (R97). -/
def State.spent (s : State) (p : Nat) : State := s.setPort p fun t => { t with stamp := none }

/-! What may change -/

/-- Every object but those named reads as before. -/
def ObjsBut (s t : State) (p : Nat → Prop) : Prop := ∀ k, ¬ p k → smGet .dflt t.objs k = smGet .dflt s.objs k

/-- The objects a fault report may change beside the flag (R138, R162, R175, R178): the knot counters, event_seq, fwd_drops of a full queue, and the sleep and state of a lane that a queued knot wakes. -/
def reportKey (k : Nat) : Prop :=
  k = Ob.event_seq ∨ k = Ob.knot_late ∨ k = Ob.knot_evictions ∨ k = Ob.knot_undelivered ∨
  (∃ die p, k = fullKey die (Ob.fwd_drops + p % 16)) ∨ (∃ die p, k = fullKey die (Ob.lane_sleep + p % 16)) ∨ ∃ die p, k = fullKey die (Ob.lane_state + p % 16)

/-- The objects that a port's service shows on a die (R134, R158, R162): lane_maps, fwd_drops, and the part's fwd_flags. -/
def portKey (die k : Nat) : Prop := k = Ob.fwd_flags ∨ (∃ l, k = fullKey die (Ob.lane_maps + l)) ∨ ∃ l, k = fullKey die (Ob.fwd_drops + l)

/-- A lane of a live die that runs in Hawser mode and is enabled (R127, R137). -/
structure LaneOn (s : State) (die lane : Nat) : Prop where
  up     : UpDie s die
  hawser : s.hawserLane die lane = true
  on     : s.on die (Ob.lane_enable + lane) = true

/-- What a fault report may change: those objects, the knots, what the part puts out, the queues of own and forwarded cells of a port, a port and the announcements of a lane that it wakes, with the crossing toward that
lane (R391), the FAULT_N mirror in HSTAT. -/
structure ReportOnly (s t : State) (p : Nat → Prop) : Prop where
  objs  : ObjsBut s t fun k => p k ∨ reportKey k
  ports : ∀ q, { smGet {} t.ports q with fwd := (smGet {} s.ports q).fwd, own := (smGet {} s.ports q).own, ready := (smGet {} s.ports q).ready,
                                          waking := (smGet {} s.ports q).waking } = smGet {} s.ports q
  lanes : ∀ l, { smGet {} t.lanes l with annLeft := (smGet {} s.lanes l).annLeft } = smGet {} s.lanes l
  spi   : { t.spi with hstat := s.spi.hstat } = s.spi
  rest  : { t with objs := s.objs, ports := s.ports, lanes := s.lanes, knots := s.knots, knotLog := s.knotLog, knotHold := s.knotHold, spi := s.spi, sent := s.sent,
                   xings := s.xings, free := s.free } = s

/-- Is a command the release of PORST_N? -/
def Instr.releases : Instr → Bool
  | .porstRelease _ => true
  | _ => false

/-- The objects of the always-on domain (Table 13.3): the latch of dies that shut down, the REFCLK monitors' verdicts, the causes of the last reset. -/
def alwaysOn (k : Nat) : Prop := k = Ob.therm_shut_dies ∨ k % 16777216 = Ob.refclk_valid ∨ k % 16777216 = Ob.reset_cause

/-- A part that is held in reset: no firmware runs, every object outside the always-on domain holds its default (Table 13.3, R475), and no release waits in the queue. -/
structure Dormant (s : State) : Prop where
  held  : s.boot.held = true
  fw    : s.fw = 0
  objs  : ObjsBut State.reset s alwaysOn
  queue : ∀ c ∈ s.pending, Instr.releases c = false

end Sys2Proof.Machine
end

