-- ==== Sys2Proof/Certificates/Slice0/Obligations.lean ====
section
/-! DEFINITION. The statements: first what each command does where its own effect happens (Claims), then the obligations, which gather them by kind. -/

namespace Sys2Proof.Claims

open Sys2Proof.Machine

/-! Chapter 2: Corrix -/

/-- READ (R39, R40, R45): a numeric object of the part or of one die is answered OK with its value as its type writes it: the staged value of an rws object unless ACTIVE is set. -/
def readOne : Prop := ∀ (s : State) (m : Msg) (d : ObjDef), Served s 0x01 m → (s.arrived m).found m = some d → d.ty ≠ .blob → d.acc ≠ .wo →
  ¬ (d.perDie = true ∧ m.die = 15) → (d.perDie = true → (s.arrived m).answers m.die = true) →
  exec (.read m) s = .next ((s.arrived m).answer 0x01 m 0 d.ty.code (encodeVal d.ty ((s.arrived m).readInt (homeDie d m) m.key d.acc (bit m.flags 2))))

/-- READ of a per-die object with DIE 0xF (R40): one answer with a FAIL byte, one bit for each die, then a value for each die; PARTIAL where a die does not answer. -/
def readAll : Prop := ∀ (s : State) (m : Msg) (d : ObjDef), Served s 0x01 m → (s.arrived m).found m = some d → d.ty ≠ .blob → d.ty ≠ .str → d.acc ≠ .wo →
  d.perDie = true → m.die = 15 → m.key ≠ Ob.therm_level →
  ∃ fail : Nat, (∀ n, bit fail n = (decide (n < s.dies) && !((s.arrived m).answers n))) ∧
    exec (.read m) s = .next ((s.arrived m).answer 0x01 m (if fail = 0 then 0 else 0x04) d.ty.code
      (byteOf fail :: s.dieList.flatMap fun n => encodeVal d.ty (if (s.arrived m).answers n then (s.arrived m).readInt n m.key d.acc (bit m.flags 2) else d.dflt)))

/-- WRITE of an rws object (R17, R58): the staged value becomes the written one, clamped; the value in force stays; a commit that is IDLE becomes STAGED; the answer is OK. -/
def writeStaged : Prop := ∀ (s : State) (m : Msg) (d : ObjDef) (die : Nat), WritesOne s m d die → d.acc = .rws →
  ∃ x : State, exec (.write m) s = .next (x.answer 0x02 m 0 d.ty.code []) ∧
    x.stagedInt die m.key = (s.arrived m).clampVal die m.key d (decodeVal d.ty m.payload) ∧
    x.commit = (if (s.arrived m).commit = cIdle then cStaged else (s.arrived m).commit) ∧
    (∀ k, k ≠ fullKey die m.key → smGet .dflt x.staged k = smGet .dflt s.staged k) ∧
    ObjsBut (s.arrived m) x (fun k => k = Ob.commit_state) ∧
    x = { s.arrived m with objs := x.objs, staged := x.staged }

/-- WRITE of an rw object whose write brings nothing else about (R17, R59): it reads the written value, clamped, and no other object changes; the answer is OK. -/
def writePlain : Prop := ∀ (s : State) (m : Msg) (d : ObjDef) (die : Nat), WritesOne s m d die → d.acc = .rw →
  (∀ (x : State) (old : Nat), x.touch m.key = x ∧ x.wrote die m.key old = x) → m.key ≠ Ob.part_reset →
  ∃ x : State, exec (.write m) s = .next (x.answer 0x02 m 0 d.ty.code []) ∧
    x.int die m.key = (s.arrived m).clampVal die m.key d (decodeVal d.ty m.payload) ∧
    ObjsBut (s.arrived m) x (fun k => k = fullKey die m.key) ∧ x = { s.arrived m with objs := x.objs }

/-- WRITE with defects (R47, R58): a TYPE or LEN that is not the object's is MALFORMED, an ro object ACCESS_VIOLATION, and neither changes any object beside the counters of answers. -/
def writeRefused : Prop := ∀ (s : State) (m : Msg), Served s 0x02 m → s.boot.recovery = false →
  (badWrite m = true → exec (.write m) s = .next ((s.arrived m).answer 0x02 m 0x0E (replyTy 0x02 m) [])) ∧
  (∀ d, badWrite m = false → (s.arrived m).found m = some d → d.acc = .ro → m.key ≠ Ob.part_reset →
    exec (.write m) s = .next ((s.arrived m).answer 0x02 m 0x02 (replyTy 0x02 m) []))

/-- READ_SEG (R61): COUNT bytes from OFFSET, fewer where SIZE ends before (what the spec leaves open here is the model's choice, log entry 14). -/
def readSegBytes : Prop := ∀ (s : State) (m : Msg) (d : ObjDef), Served s 0x03 m → (s.arrived m).segTarget m false = (0, some d) → leAt m.payload 4 2 ≠ 0 →
  exec (.readSeg m) s = .next ((s.arrived m).answer 0x03 m 0 (replyTy 0x03 m)
    (leBytes 4 (leAt m.payload 0 4) ++ (s.arrived m).readBytes (homeDie d m) m.key (leAt m.payload 0 4)
      (min (leAt m.payload 4 2) ((s.arrived m).blobSize m.key - leAt m.payload 0 4)) d.acc false))

/-- READ_SEG with COUNT 0 (R61) of a blob other than the update image answers its FILL and SIZE (what the spec leaves open here is the model's choice, log entry 16). -/
def readSegFill : Prop := ∀ (s : State) (m : Msg) (d : ObjDef), Served s 0x03 m → (s.arrived m).segTarget m false = (0, some d) → leAt m.payload 4 2 = 0 →
  m.key ≠ Ob.upd_image →
  exec (.readSeg m) s = .next ((s.arrived m).answer 0x03 m 0 (replyTy 0x03 m)
    (leBytes 4 ((s.arrived m).xfer (fullKey (homeDie d m) m.key)).fill ++ leBytes 4 ((s.arrived m).blobSize m.key)))

/-- WRITE_SEG (R61, R62) to a blob that no other session holds, at an OFFSET not past FILL: the bytes that fit SIZE are in the transfer's buffer, FILL is the end of what has come, the session holds the
transfer until LAST, and the answer is OK with FILL (what the spec leaves open here is the model's choice, log entry 16). -/
def writeSegTakes : Prop := ∀ (s : State) (m : Msg) (d : ObjDef) (k : Nat), Served s 0x04 m → (s.arrived m).segTarget m true = (0, some d) →
  k = fullKey (homeDie d m) m.key → (∀ h, ((s.arrived m).xfer k).holder = some h → h = m.session) → m.key ≠ Ob.upd_image → m.key ≠ Ob.corr_patch →
  leAt m.payload 0 4 ≤ ((s.arrived m).xfer k).fill →
  ∃ x : State, exec (.writeSeg m) s = .next (x.answer 0x04 m 0 (replyTy 0x04 m) (leBytes 4 (x.xfer k).fill)) ∧
    (x.xfer k).fill = min ((s.arrived m).blobSize m.key) (max (if leAt m.payload 0 4 = 0 then 0 else ((s.arrived m).xfer k).fill) (leAt m.payload 0 4 + (m.payload.length - 4))) ∧
    (x.xfer k).holder = (if bit m.flags 3 then none else some m.session) ∧
    (∀ i, i < m.payload.length - 4 → leAt m.payload 0 4 + i < (s.arrived m).blobSize m.key →
      smGet 0 (x.xfer k).buf (leAt m.payload 0 4 + i) = (m.payload.drop 4).getD i 0) ∧
    x.mem = s.mem ∧ x.fuses = s.fuses ∧ x.now = s.now ∧ x.pending = s.pending

/-- WRITE_SEG past FILL (R61) is refused with SEG_GAP 0x05 and FILL; one while another session holds the transfer is BUSY. Neither changes a value or the buffer. -/
def writeSegRefused : Prop := ∀ (s : State) (m : Msg) (d : ObjDef) (k : Nat), Served s 0x04 m → (s.arrived m).segTarget m true = (0, some d) →
  k = fullKey (homeDie d m) m.key → m.key ≠ Ob.upd_image → m.key ≠ Ob.corr_patch →
  ((∃ h, ((s.arrived m).xfer k).holder = some h ∧ h ≠ m.session) → exec (.writeSeg m) s = .next ((s.arrived m).answer 0x04 m 0x03 (replyTy 0x04 m) [])) ∧
  (((s.arrived m).xfer k).holder = none → ((s.arrived m).xfer k).fill < leAt m.payload 0 4 →
    exec (.writeSeg m) s = .next ((s.arrived m).answer 0x04 m 0x05 (replyTy 0x04 m) (leBytes 4 ((s.arrived m).xfer k).fill)))

/-- PREPARE in IDLE or STAGED (R66): commit_id is recorded, the state is PREPARING, the vote begins and the PREPARE waits for it: no response yet. -/
def prepareBegins : Prop := ∀ (s : State) (m : Msg), Served s 0x10 m → s.boot.recovery = false → s.corrix.vote = none →
  ((s.arrived m).commit = cIdle ∨ (s.arrived m).commit = cStaged) →
  ∃ t : State, exec (.prepare m) s = .next t ∧ t.commit = cPreparing ∧ t.pw Ob.commit_id = leAt m.payload 0 4 ∧
    t.corrix.vote = some { id := leAt m.payload 0 4, waiting := [m], startAt := s.now, late := [] } ∧ t.sent = s.sent ∧ t.staged = s.staged ∧
    ObjsBut (s.arrived m) t (fun k => k = Ob.commit_id ∨ k = Ob.commit_state ∨ k = Ob.corrix_requests ∨ k = Ob.corrix_sessions) ∧
    t = { s.arrived m with objs := t.objs, corrix := t.corrix, free := t.free }

/-- LAUNCH of a READY commit (R69): the state is ARMED, commit_launch reads T, and the answer is OK with the epoch that the commit will reach. -/
def launchArms : Prop := ∀ (s : State) (m : Msg), Served s 0x11 m → s.boot.recovery = false → (s.arrived m).commit = cReady →
  (s.arrived m).pw Ob.commit_id = leAt m.payload 0 4 →
  ∃ x : State, exec (.launch m) s = .next (x.answer 0x11 m 0 0 (leBytes 4 ((s.arrived m).pw Ob.commit_epoch + 1))) ∧
    x.commit = cArmed ∧ x.int 0 Ob.commit_launch = (layAt m.payload 4 : Nat) ∧ x.staged = s.staged ∧
    ObjsBut (s.arrived m) x (fun k => k = Ob.commit_state ∨ k = Ob.commit_launch) ∧
    x = { s.arrived m with objs := x.objs, corrix := x.corrix, launch := x.launch }

/-- LAUNCH of another commit ID (R69): COMMIT_MISMATCH 0x07 in READY and ARMED, COMMIT_STATE 0x08 elsewhere, where the ID was not applied; nothing else changes. -/
def launchRefused : Prop := ∀ (s : State) (m : Msg), Served s 0x11 m → s.boot.recovery = false → (s.arrived m).pw Ob.commit_id ≠ leAt m.payload 0 4 →
  s.corrix.applied.find? (fun a => a.1 = leAt m.payload 0 4) = none →
  exec (.launch m) s = .next ((s.arrived m).answer 0x11 m (if (s.arrived m).commit = cReady ∨ (s.arrived m).commit = cArmed then 0x07 else 0x08) 0 [])

/-- ABORT of the commit in PREPARING, READY or ARMED (R72): the state is STAGED, the staged values stay, a vote in progress and the mirror end, commit_launch shows the last commit applied again (what the spec leaves open here is the model's choice, log entry 13). -/
def abortReturns : Prop := ∀ (s : State) (m : Msg), Served s 0x12 m → s.boot.recovery = false →
  ((s.arrived m).commit = cPreparing ∨ (s.arrived m).commit = cReady ∨ (s.arrived m).commit = cArmed) → (s.arrived m).pw Ob.commit_id = leAt m.payload 0 4 →
  ∃ x : State, exec (.abort m) s = .next (x.answer 0x12 m 0 0 []) ∧ x.commit = cStaged ∧ x.corrix.vote = none ∧ x.corrix.mirror = none ∧ x.staged = s.staged ∧
    x.int 0 Ob.commit_launch = (s.corrix.lastT : Nat) ∧
    x.mem = s.mem ∧ x.fuses = s.fuses ∧ x.now = s.now ∧ x.pending = s.pending

/-- DISCARD in STAGED (R72): every staged value is the one in force again, and the state is IDLE; elsewhere COMMIT_STATE and nothing is discarded. -/
def discardDrops : Prop := ∀ (s : State) (m : Msg), Served s 0x13 m → s.boot.recovery = false →
  ((s.arrived m).commit = cStaged → ∃ x : State, exec (.discard m) s = .next (x.answer 0x13 m 0 0 []) ∧ x.commit = cIdle ∧ (∀ die key, x.stagedInt die key = x.int die key) ∧
    ObjsBut (s.arrived m) x (fun k => k = Ob.commit_state) ∧ x = { s.arrived m with objs := x.objs, staged := [] }) ∧
  ((s.arrived m).commit ≠ cStaged → exec (.discard m) s = .next ((s.arrived m).answer 0x13 m 0x08 0 []))

/-- PING (R46): the identity word and node_id. -/
def pingAnswers : Prop := ∀ (s : State) (m : Msg), Served s 0x3F m →
  exec (.ping m) s = .next ((s.arrived m).answer 0x3F m 0 0 (leBytes 4 s.identity ++ leBytes 2 (s.pw Ob.node_id)))

/-- A unicast request with an opcode that Table 2.4 does not list (R46): answered MALFORMED, and nothing is executed. -/
def unlistedAnswered : Prop := ∀ (s : State) (op : Nat) (m : Msg), Up s → s.booted = true → Carried s m → listedOps.contains op = false → m.payload.length = m.len →
  m.crc = msgCrc op m → bit m.flags 0 = false → m.bcast = false → s.alive s.sup = true → s.ownRequest m = true →
  exec (.unlistedOpcode op m) s = .next ((s.arrived m).answer op m 0x0E (replyTy op m) [])

/-- What an answer does (R48, R49), by UDP: the response, with SEQ, SESSION, TARGET, INDEX and SUB of the request, the status and the payload, goes out; the requests answered are counted apart from
BUSY and MALFORMED; the session keeps the response of any but BUSY; nothing else changes. -/
def answerOut : Prop := ∀ (s : State) (op : Nat) (m : Msg) (st ty : Nat) (pay : List Byte) (addr port dport : Nat), m.via = .udp addr port dport →
  (s.answer op m st ty pay).sent = .reply m.via op (respond m op st ty pay) :: s.sent ∧
  (st ≠ 3 → m.session ≠ 0 → (s.answer op m st ty pay).sessionHit m op = some { id := m.session, seq := m.seq, op := op, reply := some (respond m op st ty pay) }) ∧
  ObjsBut s (s.answer op m st ty pay) (fun k => k = Ob.corrix_sessions ∨ k = (if st = 3 then Ob.corrix_busy else if st = 0x0E then Ob.corrix_malformed else Ob.corrix_requests)) ∧
  (∀ t, t = s.answer op m st ty pay → t = { s with objs := t.objs, corrix := t.corrix, sent := t.sent, free := t.free, xings := t.xings })

/-- By the host SPI target (R56) the response is in the response mailbox and HSTAT shows it; where the host has not freed the one before, it waits and that one stays. -/
def answerMailbox : Prop := ∀ (s : State) (op : Nat) (m : Msg) (st ty : Nat) (pay : List Byte), m.via = .spi →
  bit (s.answer op m st ty pay).spi.hstat 1 = true ∧
  (bit s.spi.hstat 1 = false →
    ∀ i, i < (msgBytes op (respond m op st ty pay)).length → smGet 0 (s.answer op m st ty pay).spi.response i = (msgBytes op (respond m op st ty pay)).getD i 0) ∧
  (bit s.spi.hstat 1 = true → (s.answer op m st ty pay).spi.response = s.spi.response ∧ (s.answer op m st ty pay).spi.held.isSome = true)

/-- By Hawser (R172) the response waits as a CORRIX cell toward the entry part in the own queue of the port the request came by. -/
def answerCell : Prop := ∀ (s : State) (op : Nat) (m : Msg) (st ty : Nat) (pay : List Byte) (p e h : Nat), m.via = .hawser p e h →
  ((s.answer op m st ty pay).port p).own = (s.port p).own ++ [corrixCell e e true false op (respond m op st ty pay)] ∧ (s.answer op m st ty pay).sent = s.sent

/-- CORRIX_RELAY from the host (R53, R172): toward a node that a port leads to, the request waits as a CORRIX cell in that port's own queue and the entry is recorded; with none it is answered UNREACHABLE (what the spec leaves open here is the model's choice, log entry 99). -/
def relayFromHost : Prop := ∀ (s : State) (op : Nat) (m : Msg) (addr port dport : Nat), Up s → s.booted = true → m.via = .udp addr port dport → Carried s m → m.crc = msgCrc op m → bit m.flags 0 = false →
  m.bcast = false → wellMade op m = true → s.alive s.sup = true → s.ownRequest m = false → s.serving = true →
  (∀ q, s.ownPort m.node = some q → ∃ t : State, exec (.corrixRelay op m) s = .next t ∧
    (t.port q).own = (s.port q).own ++ [corrixCell m.node s.nodeOr0 false false op m] ∧
    t.net.entries.getLast? = some { via := m.via, target := m.target, session := m.session, seq := m.seq, since := s.now } ∧ t.sent = s.sent ∧ t.corrix = s.corrix) ∧
  (s.ownPort m.node = none → exec (.corrixRelay op m) s = .next ((s.arrived m).unreachable op m))

/-- BROADCAST (R52) from the host of a well-made request not heard in the last second: it is remembered, every port in service but those of port_role 2 has a copy with this part's node ID, and the part
executes it without an answer. -/
def broadcastSpreads : Prop := ∀ (s : State) (op n : Nat) (m : Msg) (addr port dport : Nat), Up s → s.booted = true → m.via = .udp addr port dport → Carried s m → m.crc = msgCrc op m → bit m.flags 0 = false →
  m.bcast = true → [0x02, 0x04, 0x11, 0x12, 0x13].contains op = true → wellMade op m = true → (op = 0x02 → badWrite m = false) → s.alive s.sup = true → s.serving = true →
  m.waiting < 32 → s.node = some n → n < 1024 → s.net.bcasts = [] →
  ∃ (x : State) (c : Msg), exec (.broadcast op m) s = .next (x.obey op c) ∧ c.node = n ∧ c.payload = m.payload ∧ c.key = m.key ∧ c.crc = msgCrc op c ∧
    x.net.bcasts = [{ node := n, session := m.session, seq := m.seq, since := s.now }] ∧ x.sent = s.sent ∧ x.staged = s.staged ∧ x.corrix = s.corrix ∧
    (∀ p, p ∈ s.portsUp → s.role p ≠ 2 → (x.port p).own = (s.port p).own ++ [corrixCell n n false true op c])

/-- A broadcast repeated within 1 s (R52) ends where it is heard again: nothing is executed, answered or sent on. -/
def broadcastRepeat : Prop := ∀ (s : State) (op n : Nat) (m : Msg) (addr port dport : Nat) (b : BcastSt), Up s → s.booted = true → m.via = .udp addr port dport → Carried s m → m.crc = msgCrc op m →
  bit m.flags 0 = false → m.bcast = true → [0x02, 0x04, 0x11, 0x12, 0x13].contains op = true → wellMade op m = true → (op = 0x02 → badWrite m = false) → s.alive s.sup = true →
  s.node = some n → n < 1024 → b ∈ s.net.bcasts → b.node = n → b.session = m.session → b.seq = m.seq → s.now < b.since + 1000000000 →
  exec (.broadcast op m) s = .next (s.arrived m)

/-- The response as a port's cell brings it. -/
def carried (p n op : Nat) (m : Msg) : Nat × Msg := msgParse (.hawser p n (hopsOf m.via)) (corrixCell n n true false op m).payload

/-- CORRIX_RESPONSE_RELAY at the entry part (R172): a response to a recorded request leaves by the path that brought the request, and the record goes; one with no record is an orphan, counted and discarded. -/
def responseReturns : Prop := ∀ (s : State) (p n op : Nat) (m : Msg), Up s → s.inService p = true → s.role p ≠ 2 → s.node = some n → n < 1024 → s.net.relay = [] →
  (∀ e : EntrySt, s.net.entries = [e] → e.target = (carried p n op m).2.target → e.session = (carried p n op m).2.session → e.seq = (carried p n op m).2.seq →
    ∃ x : State, exec (.corrixResponseRelay p n op m) s = .next (x.reply e.via (carried p n op m).1 (carried p n op m).2) ∧ x.net.entries = [] ∧
      x = { s.cellArrives p with net := { s.net with entries := [] } }) ∧
  (s.net.entries = [] → exec (.corrixResponseRelay p n op m) s = .next ((s.cellArrives p).bump 0 Ob.corrix_orphan_resp))

/-- RELAY_ENTRY_EXPIRY (R172): entries of the relay table and records of the entry part that are 10 ms old are gone, younger ones stay, and relay_entries counts the rest. -/
def relayExpires : Prop := ∀ (s : State), Up s → ∃ t : State, exec .relayEntryExpiry s = .next t ∧
  (∀ r, r ∈ t.net.relay ↔ r ∈ s.net.relay ∧ s.now < r.since + 10000000) ∧ (∀ e, e ∈ t.net.entries ↔ e ∈ s.net.entries ∧ s.now < e.since + 10000000) ∧
  t.int 0 Ob.relay_entries = t.net.relay.length ∧ ObjsBut s t (fun k => k = Ob.relay_entries) ∧
  t = { s with objs := t.objs, net := { s.net with relay := t.net.relay, entries := t.net.entries } }

/-- BCAST_RECORD_EXPIRY (R52): broadcasts are remembered for 1 s. -/
def bcastExpires : Prop := ∀ (s : State), Up s → ∃ t : State, exec .bcastRecordExpiry s = .next t ∧
  (∀ b, b ∈ t.net.bcasts ↔ b ∈ s.net.bcasts ∧ s.now < b.since + 1000000000) ∧ t = { s with net := { s.net with bcasts := t.net.bcasts } }

/-- BLOB_HOLD_RELEASE (R62): the hold of a session that sent no segment for blob_idle_s ends; FILL and the bytes stay, and so does a younger hold. -/
def holdEnds : Prop := ∀ (s : State), Up s → smWf {} 0 s.corrix.blobs = true → ∃ t : State, exec .blobHoldRelease s = .next t ∧
  (∀ k, t.xfer k = { s.xfer k with holder := if s.past (s.xfer k).lastAt (s.pw Ob.blob_idle_s * 1000000000) then none else (s.xfer k).holder }) ∧
  t = { s with corrix := { s.corrix with blobs := t.corrix.blobs } }

/-- HOST_SPI_READ (R56), later than 1 ms after the release of reset: the bytes of the host-port space from an address on go out, addresses wrapping at 65,536; nothing else changes. -/
def spiReads : Prop := ∀ (s : State) (addr count : Nat), s.spiOn = true → s.boot.releaseAt + 1000000 ≤ s.now →
  exec (.hostSpiRead addr count) s = .next (s.emit (.spi ((List.range count).map fun i => s.hostByte s.identity ((addr + i) % 65536))))

/-- HOST_SPI_WRITE (R56) to the request mailbox while REQ_FREE: the bytes are in the mailbox, the rest of it stays, nothing else changes. -/
def spiWrites : Prop := ∀ (s : State) (o : Nat) (bytes : List Byte), s.spiOn = true → s.reqFree = true → o + bytes.length ≤ 256 →
  ∃ t : State, exec (.hostSpiWrite (0x100 + o) bytes) s = .next t ∧ (∀ i, i < bytes.length → smGet 0 t.spi.request (o + i) = bytes.getD i 0) ∧
    (∀ i, i < o ∨ o + bytes.length ≤ i → smGet 0 t.spi.request i = smGet 0 s.spi.request i) ∧ t = { s with spi := { s.spi with request := t.spi.request } }

/-- A host SPI transaction of any other command is ignored (R56). -/
def spiIgnores : Prop := ∀ (s : State) (c : Nat) (bytes : List Byte), exec (.hostSpiIgnoredCommand c bytes) s = .next s

/-- HCTL 0x01 (R56) with the request before it answered and its response taken: the message in the request mailbox is taken as a request that came by SPI; while one is not, nothing happens. -/
def hctlSends : Prop := ∀ (s : State), s.spiOn = true → s.booted = true →
  (s.spiBusy = false → exec .hctlSend s = .next (s.corrixIn (msgParse .spi (smRun 0 s.spi.request 0 256)).1 (msgParse .spi (smRun 0 s.spi.request 0 256)).2)) ∧
  (s.spiBusy = true → exec .hctlSend s = .next s)

/-- HCTL 0x02 (R56) with no response waiting: RESP_READY is cleared; the other bits of HSTAT and everything else stay. With one waiting it takes the mailbox. -/
def hctlFrees : Prop := ∀ (s : State), s.spiOn = true →
  (s.spi.held = none → ∃ t : State, exec .hctlFreeResponse s = .next t ∧ bit t.spi.hstat 1 = false ∧
    (∀ i, i ≠ 1 → bit t.spi.hstat i = bit s.spi.hstat i) ∧ t = { s with spi := { s.spi with hstat := t.spi.hstat } }) ∧
  (∀ b, s.spi.held = some b → exec .hctlFreeResponse s = .next { s with spi := { s.spi with response := b, held := none } })

/-- ARP_ICMP_REQUEST (R54): a request for the address in use is answered to its sender; one for another address is not. -/
def arpIcmpAnswered : Prop := ∀ (s : State) (icmp : Bool) (src dst : Nat) (data : List Byte), Up s → s.pw Ob.mgmt_ip_current ≠ 0 →
  (dst = s.pw Ob.mgmt_ip_current → exec (.arpIcmpRequest icmp src dst data) s = .next (s.emit (.arpIcmp icmp src dst data))) ∧
  (dst ≠ s.pw Ob.mgmt_ip_current → exec (.arpIcmpRequest icmp src dst data) s = .next s)

/-- The answers that the end of a vote gives (R66): with one PREPARE waiting, come by UDP, the response with the reason byte of every die goes out last; with none, none. -/
def voteAnswered (s t : State) (v : VoteSt) (status : Nat) : Prop :=
  (v.waiting = [] → t.sent = s.sent) ∧
  ∀ (m : Msg) (addr port dport : Nat), v.waiting = [m] → m.via = .udp addr port dport → t.sent = .reply m.via 0x10 (respond m 0x10 status 0 t.voteBytes) :: s.sent

/-- VOTE_COMPLETE (R66, R71) with firmware on every live die: with every live die in favour the state is READY and die 1 holds the commit ID and the staged values of part-wide objects; with one against it is STAGED.
The vote is over, the PREPARE is answered OK or COMMIT_REFUSED, and the staged values stay. -/
def voteEnds : Prop := ∀ (s : State) (v : VoteSt), Up s → s.corrix.vote = some v → s.silentDies = [] →
  ∃ t : State, exec .voteComplete s = .next t ∧ t.corrix.vote = none ∧ t.staged = s.staged ∧
    ((∀ d, d ∈ s.aliveList → s.voteOf d = []) → t.commit = cReady ∧ voteAnswered s t v 0 ∧
      t.corrix.mirror = some { id := v.id, staged := s.staged.filter fun e => decide (e.1 < 16777216) && !(objPerDie e.1), armed := none }) ∧
    ((∃ d, d ∈ s.aliveList ∧ s.voteOf d ≠ []) → t.commit = cStaged ∧ voteAnswered s t v 0x06 ∧ t.corrix.mirror = s.corrix.mirror)

/-- VOTE_TIMEOUT (R66): 2 ms after the PREPARE with a live die that has not voted, that die counts as against, so the state is STAGED, the PREPARE is answered COMMIT_REFUSED and the staged values stay; before 2 ms nothing happens
(what the spec leaves open here is the model's choice, log entry 87). -/
def voteTimesOut : Prop := ∀ (s : State) (v : VoteSt), Up s → s.corrix.vote = some v →
  (v.startAt + 2000000 ≤ s.now → (∃ d, d ∈ s.silentDies ∧ d ∈ s.aliveList) →
    ∃ t : State, exec .voteTimeout s = .next t ∧ t.commit = cStaged ∧ t.corrix.vote = none ∧ t.staged = s.staged ∧ voteAnswered s t v 0x06) ∧
  (s.now < v.startAt + 2000000 → exec .voteTimeout s = .next s)

/-- COMMIT_APPLY (R70) once commit_launch is reached: the state is IDLE, commit_epoch is one more, commit_launch reads T, nothing is staged, no vote and no mirror is left, and the commit ID is remembered
with its epoch; before it nothing happens. -/
def commitApplies : Prop := ∀ (s : State), Up s → s.commit = cArmed →
  (s.reached (s.int 0 Ob.commit_launch) = true → ∃ t : State, exec .commitApply s = .next t ∧ t.staged = [] ∧ t.commit = cIdle ∧
    t.pw Ob.commit_epoch = (s.pw Ob.commit_epoch + 1) % 4294967296 ∧ t.int 0 Ob.commit_launch = s.int 0 Ob.commit_launch ∧ t.corrix.lastT = (s.int 0 Ob.commit_launch).toNat ∧
    t.corrix.vote = none ∧ t.corrix.mirror = none ∧
    t.corrix.applied = (s.pw Ob.commit_id, (s.pw Ob.commit_epoch + 1) % 4294967296) :: s.corrix.applied) ∧
  (s.reached (s.int 0 Ob.commit_launch) = false → exec .commitApply s = .next s)

/-! Chapter 3: Lay time -/

/-- ROOT_LISTEN_EXPIRY (R79): a rank-1 part that heard no other root in its second of listening, and has no reference listed, becomes root with its present Lay time, free on REFCLK (R83), and lay_root_gen is one more, modulo 65,536. -/
def listenEnds : Prop := ∀ (s : State) (t0 : Nat), Up s → s.lay.listenAt = some t0 → t0 + 1000000000 ≤ s.now → s.pw Ob.lay_rank = 1 → s.isRoot = false → s.lay.heardRoot = false →
  s.refList = [] →
  ∃ t : State, exec .rootListenExpiry s = .next t ∧ t.pw Ob.lay_state = layRoot ∧ t.pw Ob.lay_root_node = s.pw Ob.node_id ∧ t.pw Ob.lay_hops = 0 ∧
    t.pw Ob.lay_upstream = 0xFF ∧ t.pw Ob.lay_root_gen = (s.pw Ob.lay_root_gen + 1) % 65536 ∧ t.lay.fine = s.lay.fine ∧ t.lay.freq = 0 ∧ t.lay.listenAt = none ∧ t.sent = s.sent ∧
    ObjsBut s t (fun k => k = Ob.lay_state ∨ k = Ob.lay_root_node ∨ k = Ob.lay_hops ∨ k = Ob.lay_upstream ∨ k = Ob.lay_root_gen ∨ k = Ob.lay_ref_selected ∨
      k = Ob.lay_freq_adj ∨ k = Ob.lay_epoch_tai ∨ k = Ob.lay_utc_offset ∨ k = Ob.lay_step_pending_mag ∨ k = Ob.lay_step_pending_neg ∨ k = Ob.boot_ms + 8) ∧
    t = { s with objs := t.objs, lay := t.lay, journal := t.journal, boot := { s.boot with steps := t.boot.steps } }

/-- A class-0 cell taken in on a port (R99): the port's record, and SKEW_MISMATCH where the skews of both ends are not each other's negatives within 2 ps (R101). -/
def taken (a : State) (p : Nat) (l : LayCell) : State :=
  let b := a.setPort p fun t => { t with class0At := some a.now }
  if (l.skew + b.int (p / 16) (atPort Ob.lay_port_skew_ps p)).natAbs ≤ 2 then b else b.raise 0 Ob.lay_flags 9

/-- The records that a SYNC leaves on its port (R102), and of other roots and rank-1 roots heard (R79, R81). -/
def recorded (a : State) (p : Nat) (l : LayCell) : State :=
  let run := match (a.port p).syncAt with
    | some t => if a.now ≤ t + 375000 then (a.port p).syncRun + 1 else 1
    | none => 1
  let b := a.setPort p fun t => { t with sync := syncInfo l (a.syncOffset p l), syncRun := run, syncAt := some a.now }
  { b with lay := { b.lay with heardRoot := b.lay.heardRoot || decide (l.root % 1024 ≠ a.pw Ob.node_id),
                               rank1At := if (syncInfo l 0).rank = 1 && !(syncInfo l 0).hold then some a.now else b.lay.rank1At } }

/-- SYNC_RECEIVE (R99, R102, R103) at a follower, on the port that it follows, with no step announced and no HANDBACK: the port's record, the root followed, and the servo fed with the offset of R101. -/
def syncSteers : Prop := ∀ (s a : State) (p : Nat) (c : Cell) (l : LayCell), CellAt s p c → c.cls = 0 → c.kind = 0 → layCellBad c.payload = false → l = layCellParse c.payload → l.msg = 1 →
  a = taken (s.cellArrives p) p l → (s.cellArrives p).layQuiet = false → a.isRoot = false → (recorded a p l).chooseUp = some p → bit l.state 2 = false → bit l.state 3 = false →
  exec (.syncReceive p c) s = .next ((((recorded a p l).follow p).servo (a.syncOffset p l)).spent p)

/-- SYNC_RECEIVE (R80) at a root, of a cell with HOLDOVER set or of its own root: the port's record, and it stays root with its own Lay time. -/
def syncAtRoot : Prop := ∀ (s a : State) (p : Nat) (c : Cell) (l : LayCell), CellAt s p c → c.cls = 0 → c.kind = 0 → layCellBad c.payload = false → l = layCellParse c.payload → l.msg = 1 →
  a = taken (s.cellArrives p) p l → (s.cellArrives p).layQuiet = false → a.isRoot = true → (bit l.state 0 = true ∨ l.root % 1024 = a.pw Ob.node_id) →
  exec (.syncReceive p c) s = .next ((recorded a p l).spent p)

/-- A class-0 cell that R99 discards is counted in lay_cells_bad; a SYNC among them ends the run of valid ones of its port (R102); nothing else is done with it. -/
def badLayCell : Prop := ∀ (s a : State) (p : Nat) (c : Cell), CellAt s p c → c.cls = 0 → c.kind = 0 → layCellBad c.payload = true → leAt c.payload 0 1 ≠ 2 → leAt c.payload 0 1 ≠ 3 →
  a = (s.cellArrives p).bump 0 Ob.lay_cells_bad →
  exec (.syncReceive p c) s = .next ((if leAt c.payload 0 1 = 1 then a.setPort p (fun t => { t with syncRun := 0 }) else a).spent p)

/-- The servo in FREE (R103): one step onto the root's time, then ACQUIRE; lay_root_node and lay_hops show the root taken up. -/
def servoFree : Prop := ∀ (s : State) (off : Int), s.layState = layFree →
  (s.servo off).layState = layAcquire ∧ (s.servo off).lay.fine = ((s.lay.fine : Int) - off * 4294967296).toNat ∧
  (s.servo off).int 0 Ob.lay_offset_ps = clampInt (-2147483648) 2147483647 (off * 1000 / layNs) ∧ (s.servo off).pw Ob.lay_root_node = s.lay.node ∧
  ObjsBut s (s.servo off) (fun k => k = Ob.lay_state ∨ k = Ob.lay_offset_ps ∨ k = Ob.lay_root_node ∨ k = Ob.lay_hops)

/-- The servo with an offset of 100 ns or less in ACQUIRE or LOCKED (R103, R498): the integrator gains ki × offset, the frequency word is the integrator's share, kp × offset is spread over the next
125 µs, Lay time does not jump; ACQUIRE turns to LOCKED at the 64th offset in a row below 2 ns. -/
def servoSteers : Prop := ∀ (s : State) (off : Int), (s.layState = layAcquire ∨ s.layState = layLocked) → off.natAbs ≤ 100 * layNs →
  (s.servo off).lay.fine = s.lay.fine ∧
  (s.servo off).lay.integ = s.lay.integ + (servoGains (s.pw Ob.lay_servo_bw)).2 * off / 8192000000 ∧
  (s.servo off).lay.freq = -((s.servo off).lay.integ / 4294967296) ∧
  (s.servo off).lay.trim = -((servoGains (s.pw Ob.lay_servo_bw)).1 * off * 4294967296 / 281474976710656) ∧ (s.servo off).lay.trimNs = 125000 ∧ (s.servo off).lay.bad = 0 ∧
  (s.servo off).lay.good = (if off.natAbs < 2 * layNs then s.lay.good + 1 else 0) ∧
  (s.servo off).layState = (if s.layState = layAcquire ∧ 64 ≤ (s.servo off).lay.good then layLocked else s.layState) ∧
  ObjsBut s (s.servo off) (fun k => k = Ob.lay_state ∨ k = Ob.lay_offset_ps ∨ k = Ob.lay_freq_adj ∨ k = Ob.boot_ms + 8)

/-- The servo with an outlier in LOCKED (R103): up to 7 in a row it is left out; at the eighth the servo returns to FREE and RELOCK is set. -/
def servoOutlier : Prop := ∀ (s : State) (off : Int), s.layState = layLocked → 100 * layNs < off.natAbs →
  (s.lay.bad < 7 → (s.servo off).layState = layLocked ∧ (s.servo off).lay = { s.lay with bad := s.lay.bad + 1 } ∧ ObjsBut s (s.servo off) (fun k => k = Ob.lay_offset_ps)) ∧
  (7 ≤ s.lay.bad → (s.servo off).layState = layFree ∧ (s.servo off).pw Ob.lay_root_node = 0xFFFF ∧ (s.servo off).on 0 Ob.lay_flags 6 = true ∧ (s.servo off).lay.fine = s.lay.fine)

/-- SYNC_SEND (R96) in ROOT, LOCKED or HOLDOVER: on every port in service on which one is due, and that is not of port_role 2, a SYNC cell whose payload is that of Table 3.5 with the port's SEQ is
ready to leave; SEQ moves on by one. Nothing else changes. -/
def syncSent : Prop := ∀ (s : State), Up s → (s.layState = layRoot ∨ s.layState = layLocked ∨ s.layState = layHoldover) →
  ∃ t : State, exec .syncSend s = .next t ∧
    (∀ p, p ∈ s.portsUp → s.role p ≠ 2 → s.due (s.port p).sentSyncAt 125000 = true →
      t.port p = { s.port p with lays := (s.port p).lays ++ [mkCell 0 0 s.nodeOr0 0 (layCellBytes (s.layCell p 1 (s.port p).seqSync 0 0))], seqSync := ((s.port p).seqSync + 1) % 65536,
                                 sentSyncAt := some s.now }) ∧
    (∀ p, (p ∉ s.portsUp ∨ s.role p = 2 ∨ s.due (s.port p).sentSyncAt 125000 = false) → t.port p = s.port p) ∧ t = { s with ports := t.ports }

/-- DELAY_REQ_SEND (R96), in every lay_state: once the ports that slept with a request due are woken (R138), the same for a DELAY_REQ, whose SEQ the port remembers; its TX stamp is taken as it leaves (R97). -/
def delayReqSent : Prop := ∀ (was s : State), Up was →
  s = was.each (was.portList.filter fun p => was.role p ≠ 2 && was.due (was.port p).sentReqAt 1000000) (fun p x => x.wakeSlept p) →
  ∃ t : State, exec .delayReqSend was = .next t ∧
    (∀ p, p ∈ s.portsUp → s.role p ≠ 2 → s.due (s.port p).sentReqAt 1000000 = true →
      t.port p = { s.port p with lays := (s.port p).lays ++ [mkCell 0 0 s.nodeOr0 0 (layCellBytes (s.layCell p 2 (s.port p).seqReq 0 0))], seqReq := ((s.port p).seqReq + 1) % 65536,
                                 sentReqAt := some s.now, req := some ((s.port p).seqReq, 0, s.now) }) ∧
    (∀ p, (p ∉ s.portsUp ∨ s.role p = 2 ∨ s.due (s.port p).sentReqAt 1000000 = false) → t.port p = s.port p) ∧ t = { s with ports := t.ports }

/-- DELAY_REQ_RECEIVE (R96): answered on its port with a DELAY_RESP that carries the RX stamp of the request as T2 (R97) and its SEQ. -/
def delayAnswered : Prop := ∀ (s a : State) (p : Nat) (c : Cell) (l : LayCell), CellAt s p c → c.cls = 0 → c.kind = 0 → layCellBad c.payload = false → l = layCellParse c.payload → l.msg = 2 →
  a = taken (s.cellArrives p) p l → (s.cellArrives p).layQuiet = false →
  ∃ t : State, exec (.delayReqReceive p c) s = .next t ∧
    t.port p = { a.port p with lays := (a.port p).lays ++ [mkCell 0 0 a.nodeOr0 0 (layCellBytes (a.layCell p 3 (a.port p).seqResp (a.rxStamp p) l.seq))],
                               seqResp := ((a.port p).seqResp + 1) % 65536, stamp := none } ∧
    (∀ q, q ≠ p → t.port q = a.port q) ∧ t = { a with ports := t.ports }

/-- DELAY_RESP_RECEIVE (R98) that answers the outstanding DELAY_REQ: the mean of the two ways joins the last 8 results, and lay_port_delay_ps reads their median, not below 0. -/
def delayMeasured : Prop := ∀ (s a : State) (p q t1 at_ : Nat) (c : Cell) (l : LayCell), CellAt s p c → c.cls = 0 → c.kind = 0 → layCellBad c.payload = false → l = layCellParse c.payload →
  l.msg = 3 → a = taken (s.cellArrives p) p l → (s.cellArrives p).layQuiet = false → (a.port p).req = some (q, t1, at_) → q = l.reqSeq →
  ∃ t : State, exec (.delayRespReceive p c) s = .next t ∧
    t.port p = { a.port p with req := none, delays := layToPs (((a.rxStamp p : Int) - t1 - ((l.tx : Int) - l.t2)) / 2) :: (a.port p).delays.take 7, delayAt := some s.now, stamp := none } ∧
    t.int (p / 16) (atPort Ob.lay_port_delay_ps p) = max 0 (medianInt (t.port p).delays) ∧ (∀ q, q ≠ p → t.port q = a.port q) ∧
    ObjsBut a t (fun k => k = fullKey (p / 16) (atPort Ob.lay_port_delay_ps p)) ∧ t = { a with objs := t.objs, ports := t.ports }

/-- DELAY_REQ_MISSING (R98): a DELAY_REQ unanswered for 1 ms is given up; a younger one is not; nothing else changes. -/
def delayGivenUp : Prop := ∀ (s : State) (p q t1 at_ : Nat), Up s → (s.port p).req = some (q, t1, at_) →
  (at_ + 1000000 ≤ s.now → exec (.delayReqMissing p) s = .next (s.setPort p fun t => { t with req := none })) ∧
  (s.now < at_ + 1000000 → exec (.delayReqMissing p) s = .next s)

/-- UPSTREAM_LOSS (R104) at a follower whose upstream port is no longer eligible. With another eligible port, the part follows that port with no step and sets UPSTREAM_CHANGED; lay_state stays. With none, in ACQUIRE or LOCKED, it
enters HOLDOVER at the frequency word averaged over the last 1 s, with no step, sets HOLDOVER_ENTERED and keeps the root it last followed. While the upstream port is eligible nothing happens. -/
def upstreamHolds : Prop := ∀ (s : State), Up s → s.isRoot = false → s.pw Ob.lay_upstream ≠ 0xFF →
  (∀ p, s.eligible (s.pw Ob.lay_upstream) = false → s.bestPort = some p → p ≠ s.pw Ob.lay_upstream →
    ∃ t : State, exec .upstreamLoss s = .next t ∧ t.pw Ob.lay_upstream = p ∧ t.on 0 Ob.lay_flags 8 = true ∧ t.lay.fine = s.lay.fine ∧ t.lay.freq = s.lay.freq ∧ t.layState = s.layState ∧
      t.lay.node = (s.port p).sync.node ∧ t.lay.rank = (s.port p).sync.rank ∧ t.lay.hops = (s.port p).sync.hops + 1) ∧
  (s.eligible (s.pw Ob.lay_upstream) = false → s.bestPort = none → (s.layState = layAcquire ∨ s.layState = layLocked) →
    ∃ t : State, exec .upstreamLoss s = .next t ∧ t.pw Ob.lay_state = layHoldover ∧ t.pw Ob.lay_upstream = 0xFF ∧ t.on 0 Ob.lay_flags 7 = true ∧ t.lay.fine = s.lay.fine ∧
      t.lay.freq = s.meanFreq ∧ t.lay.trim = 0 ∧ t.lay.preHold = s.layState ∧ t.lay.node = s.lay.node ∧ t.lay.rank = s.lay.rank ∧ t.lay.hops = s.lay.hops ∧
      ObjsBut s t (fun k => k = Ob.lay_state ∨ k = Ob.lay_upstream ∨ k = Ob.lay_freq_adj ∨ k = Ob.lay_flags ∨ reportKey k)) ∧
  (s.eligible (s.pw Ob.lay_upstream) = true → exec .upstreamLoss s = .next s)

/-- ROOT_TAKEOVER (R81): a backup root in LOCKED or HOLDOVER that for lay_root_loss_ms heard no sync of a rank-1 root with HOLDOVER clear becomes acting root with no step of Lay time; lay_root_gen is one more and ROOT_TAKEOVER is set.
With no reference listed it runs free on REFCLK (R83). A part of another rank, in another state, or that heard such a sync within lay_root_loss_ms, does not take over. -/
def backupTakes : Prop := ∀ (s : State), Up s →
  (s.pw Ob.lay_rank = 2 → (s.layState = layLocked ∨ s.layState = layHoldover) → (∀ t0, s.lay.rank1At = some t0 → t0 + s.pw Ob.lay_root_loss_ms * 1000000 ≤ s.now) →
    ∃ t : State, exec .rootTakeover s = .next t ∧ t.pw Ob.lay_state = layRoot ∧ t.pw Ob.lay_root_node = s.pw Ob.node_id ∧ t.pw Ob.lay_hops = 0 ∧ t.pw Ob.lay_upstream = 0xFF ∧
      t.pw Ob.lay_root_gen = (s.pw Ob.lay_root_gen + 1) % 65536 ∧ t.on 0 Ob.lay_flags 1 = true ∧ t.lay.fine = s.lay.fine ∧ (s.refList = [] → t.lay.freq = 0)) ∧
  ((s.pw Ob.lay_rank ≠ 2 ∨ (s.layState ≠ layLocked ∧ s.layState ≠ layHoldover) ∨ (∃ t0, s.lay.rank1At = some t0 ∧ s.now < t0 + s.pw Ob.lay_root_loss_ms * 1000000)) →
    exec .rootTakeover s = .next s)

/-- LAY_ROOT_HANDBACK (R82), a write of 1: at an acting backup root HANDBACK begins now, and nothing else changes; on any other part, a root of another rank among them, the write is ignored. It is answered OK either way. -/
def handbackBegins : Prop := ∀ (s : State) (m : Msg) (d : ObjDef), WritesOne s m d 0 → m.key = Ob.lay_root_handback → decodeVal d.ty m.payload = 1 →
  ((s.arrived m).isRoot = true → (s.arrived m).pw Ob.lay_rank = 2 →
    exec (.layRootHandback m) s = .next (({ s.arrived m with lay := { (s.arrived m).lay with handbackAt := some s.now } } : State).answer 0x02 m 0 d.ty.code [])) ∧
  (((s.arrived m).isRoot = false ∨ (s.arrived m).pw Ob.lay_rank ≠ 2) → exec (.layRootHandback m) s = .next ((s.arrived m).answer 0x02 m 0 d.ty.code []))

/-- HANDBACK_END (R82): 10 ms after HANDBACK began the backup returns to follower, in FREE, with no step of Lay time; before that, or with no hand-back in progress, nothing happens. -/
def handbackEnds : Prop := ∀ (s : State), Up s →
  (∀ t0, s.lay.handbackAt = some t0 → t0 + 10000000 ≤ s.now →
    ∃ t : State, exec .handbackEnd s = .next t ∧ t.pw Ob.lay_state = layFree ∧ t.pw Ob.lay_root_node = 0xFFFF ∧ t.lay.handbackAt = none ∧ t.lay.fine = s.lay.fine ∧
      ObjsBut s t (fun k => k = Ob.lay_state ∨ k = Ob.lay_root_node ∨ k = Ob.lay_step_pending_mag ∨ k = Ob.lay_step_pending_neg) ∧ t = { s with objs := t.objs, lay := t.lay }) ∧
  ((s.lay.handbackAt = none ∨ ∃ t0, s.lay.handbackAt = some t0 ∧ s.now < t0 + 10000000) → exec .handbackEnd s = .next s)

/-- REF_QUALIFY (R84) at a part that is no root: after lay_ref_qual_s of its valid condition without its loss condition, and not barred, the bit of lay_ref_qualified is set, and no other object changes. -/
def refQualifies : Prop := ∀ (s : State) (code t0 : Nat), Up s → 1 ≤ code → code ≤ 4 → (s.ref code).validFrom = some t0 → t0 + s.pw Ob.lay_ref_qual_s * 1000000000 ≤ s.now →
  (s.ref code).barredTo ≤ s.now → s.refGone code false = false → s.isRoot = false →
  ∃ t : State, exec (.refQualify code) s = .next t ∧ bit (t.pw Ob.lay_ref_qualified) code = true ∧
    (∀ i, i ≠ code → bit (t.pw Ob.lay_ref_qualified) i = bit (s.pw Ob.lay_ref_qualified) i) ∧
    ObjsBut s t (fun k => k = Ob.lay_ref_qualified) ∧ t = { s with objs := t.objs }

/-- REF_LOST (R84, R89), with the loss condition of Table 3.3 met: a reference that was qualified is no more; where the acting root had it selected and lists no other, LAY_REF_LOST is set and the root
holds the average of its last second. -/
def refLoses : Prop := ∀ (s : State) (l : RefLoss), Up s → 1 ≤ l.code → l.code ≤ 4 → s.qualified l.code = true → s.refGone l.code l.frefStopped = true →
  (s.isRoot = false → ∃ t : State, exec (.refLost l) s = .next t ∧ bit (t.pw Ob.lay_ref_qualified) l.code = false ∧ (t.ref l.code).validFrom = none ∧
    ObjsBut s t (fun k => k = Ob.lay_ref_qualified) ∧ t = { s with objs := t.objs, lay := t.lay }) ∧
  (s.isRoot = true → s.pw Ob.lay_ref_selected = l.code → s.refList = [l.code] →
    ∃ t : State, exec (.refLost l) s = .next t ∧ bit (t.pw Ob.lay_ref_qualified) l.code = false ∧ t.on 0 Ob.lay_flags 2 = true ∧ t.pw Ob.lay_ref_selected = 0 ∧ t.lay.fine = s.lay.fine ∧
      t.lay.freq = s.meanFreq)

/-- REF_MONITOR_MEASURE (R87): a qualified reference shows the frequency measured; one that is not qualified keeps its record; no object changes. -/
def refMeasures : Prop := ∀ (s : State) (code : Nat) (f : Int), Up s → s.isRoot = false → 1 ≤ code → code ≤ 4 →
  (s.qualified code = true → ∃ t : State, exec (.refMonitorMeasure [(code, f)]) s = .next t ∧ (t.ref code).freq = some f ∧ (∀ k, k ≠ code → t.ref k = s.ref k) ∧
    t = { s with lay := { s.lay with refs := t.lay.refs } }) ∧
  (s.qualified code = false → exec (.refMonitorMeasure [(code, f)]) s = .next s)

/-- REF_DRIFT (R87): after lay_drift_dwell_s of too much drift the root's selected reference loses qualification, is barred for 60 s, and LAY_REF_DRIFT is set. -/
def refDrifts : Prop := ∀ (s : State) (code t0 : Nat), Up s → s.isRoot = true → s.pw Ob.lay_ref_selected = code → 1 ≤ code → code ≤ 4 → s.refList = [code] →
  (s.ref code).driftFrom = some t0 → t0 + s.pw Ob.lay_drift_dwell_s * 1000000000 ≤ s.now →
  ∃ t : State, exec .refDrift s = .next t ∧ bit (t.pw Ob.lay_ref_qualified) code = false ∧ (t.ref code).barredTo = s.now + 60000000000 ∧ t.on 0 Ob.lay_flags 3 = true ∧
    t.pw Ob.lay_ref_selected = 0 ∧ t.lay.fine = s.lay.fine

/-- A step scheduled (R92): S is the first whole second of Lay time at least 250 ms ahead, and the amount is d. -/
def stepSet (s t : State) (d : Int) : Prop :=
  ∃ at_ : Nat, t.lay.step = some (at_, d) ∧ at_ % laySec = 0 ∧ s.layNow + 250000000 * layNs ≤ at_ ∧ at_ < s.layNow + 250000000 * layNs + laySec ∧
    t.pw Ob.lay_step_at = at_ ∧ t.pw Ob.lay_step_pending_mag = d.natAbs ∧ t.pw Ob.lay_step_pending_neg = (if d < 0 then 1 else 0)

/-- LAY_STEP_ACCEPT (R91, R92) at the acting root with an amount pending and no step scheduled: the step is scheduled with that amount; Lay time goes on. -/
def stepAccepted : Prop := ∀ (s : State) (m : Msg) (d : ObjDef), WritesOne s m d 0 → m.key = Ob.lay_step_accept → decodeVal d.ty m.payload = 1 →
  s.lay.step = none → (s.arrived m).isRoot = true → (s.arrived m).pendingStep ≠ 0 →
  ∃ x : State, exec (.layStepAccept m) s = .next (x.answer 0x02 m 0 d.ty.code []) ∧ stepSet s x (s.arrived m).pendingStep ∧ x.lay.fine = s.lay.fine ∧
    ObjsBut (s.arrived m) x (fun k => k = Ob.lay_step_at ∨ k = Ob.lay_step_pending_mag ∨ k = Ob.lay_step_pending_neg) ∧ x = { s.arrived m with objs := x.objs, lay := x.lay }

/-- LAY_TIME_SET (R94) at the acting root: a step to the written value is scheduled; at another part nothing is done. -/
def timeSetSteps : Prop := ∀ (s : State) (m : Msg) (d : ObjDef) (v : Nat), WritesOne s m d 0 → m.key = Ob.lay_time_set →
  (s.arrived m).clampVal 0 m.key d (decodeVal d.ty m.payload) = (v : Int) → d.acc = .wo →
  ((s.arrived m).isRoot = true → ∃ x : State, exec (.layTimeSet m) s = .next (x.answer 0x02 m 0 d.ty.code []) ∧ stepSet s x ((v : Int) - s.layNow) ∧ x.lay.fine = s.lay.fine) ∧
  ((s.arrived m).isRoot = false → exec (.layTimeSet m) s = .next ((s.arrived m).answer 0x02 m 0 d.ty.code []))

/-- STEP_APPLIED (R92): at S Lay time moves by the amount, never below 0, LAY_STEPPED is set and lay_step_last_* show the step; before S nothing happens (what the spec leaves open here is the model's choice, log entry 78). -/
def stepHappens : Prop := ∀ (s : State) (at_ : Nat) (d : Int), Up s → s.lay.step = some (at_, d) → s.lay.wanted = none →
  (at_ ≤ s.layNow → ∃ t : State, exec .stepApplied s = .next t ∧ t.lay.fine = ((s.lay.fine : Int) + d * 4294967296).toNat ∧ t.lay.step = none ∧ t.on 0 Ob.lay_flags 5 = true ∧
    t.pw Ob.lay_step_last_at = at_ ∧ t.pw Ob.lay_step_last_mag = d.natAbs ∧ t.pw Ob.lay_step_last_neg = (if d < 0 then 1 else 0) ∧ t.pw Ob.lay_step_pending_mag = 0) ∧
  (s.layNow < at_ → exec .stepApplied s = .next s)

/-- PTP_MESSAGE_RECEIVE (R85, R109) of a Sync that one domain clock follows, from its present master, no root following it: two-step, the time of arrival waits for the Follow_Up; one-step, the offset
(arrival less origin less path delay less ptp_asym_ns) shows in ptp_offset_ns, ptp_state is 3, and the first offset from the master sets the clock, later ones steer it. -/
def ptpSyncSets : Prop := ∀ (s : State) (w : PtpWire) (d seqId origin iv : Nat) (o : Int), Up s → d < 2 → s.ptpFollows d w.port w.domain w.transport = true →
  s.ptpFollows (1 - d) w.port w.domain w.transport = false → (s.ptp d).cur = some w.source → (s.ptpBest d).map (·.source) = some w.source → s.isRoot = false →
  o = s.ptpStamp d w.port - origin - (s.ptp d).delay - s.int 0 (ptpKey Ob.ptp_asym_ns_a d) * layNs →
  (∃ t : State, exec (.ptpMessageReceive w (.sync seqId true origin iv)) s = .next t ∧ t.ptp d = { s.ptp d with syncIv := iv, wait := some (seqId, s.ptpStamp d w.port) } ∧
    t = { s with lay := { s.lay with ptp := t.lay.ptp } }) ∧
  (∃ t : State, exec (.ptpMessageReceive w (.sync seqId false origin iv)) s = .next t ∧ t.pw (ptpKey Ob.ptp_state_a d) = 3 ∧
    t.int 0 (ptpKey Ob.ptp_offset_ns_a d) = clampInt (-2147483648) 2147483647 (o / layNs) ∧
    (s.pw (ptpKey Ob.ptp_state_a d) < 3 → (t.ptp d).set_ = true ∧ (t.ptp d).fine = (s.ptp d).fine - o * 4294967296 ∧ (t.ref (d + 1)).validFrom = none) ∧
    (3 ≤ s.pw (ptpKey Ob.ptp_state_a d) → (t.ptp d).fine = (s.ptp d).fine + (Config.ptpServo o (s.ptp d).freq).1 ∧ (t.ptp d).freq = (Config.ptpServo o (s.ptp d).freq).2) ∧
    (t.ptp d).syncAt = some s.now ∧ ObjsBut s t (fun k => k = ptpKey Ob.ptp_state_a d ∨ k = ptpKey Ob.ptp_offset_ns_a d) ∧
    t = { s with objs := t.objs, lay := { s.lay with ptp := t.lay.ptp, refs := t.lay.refs } })

/-- PTP_EVENT_TX (R110) of a two-step message that needs no Follow_Up of this part: with room in the queue of 16 its timestamp joins, and the level shows it; with none it is dropped, counted, and
TXTS_OVERFLOW is set. The message leaves the port either way. -/
def txtsPlaced : Prop := ∀ (s : State) (die which seqId msgType dom n d : Nat) (ds : List Nat), UpDie s die → die < s.dies → which < 2 → n = (if which = 1 then die + 2 else 1) →
  ds = [0, 1].filter (fun d => s.ptpPort d = some n && s.pw (ptpKey Ob.ptp_domain_a d) = dom) →
  d = ds.headD (if s.pw (ptpKey Ob.ptp_domain_a 1) = dom && s.pw Ob.ptp_domain_a ≠ dom then 1 else 0) →
  (which = 1 → s.on 0 (ptpKey Ob.ptp_one_step_a d) = false) → (msgType ≠ 3 ∨ ds = []) →
  ((smGet [] s.lay.txts (die * 2 + which)).length < 16 → ∃ t : State, exec (.ptpEventTx die which seqId msgType dom) s = .next t ∧
    smGet [] t.lay.txts (die * 2 + which) =
      smGet [] s.lay.txts (die * 2 + which) ++ [{ seqId := seqId, msgType := msgType, domain := dom, since := s.now, stamp := s.ptpStamp d n }] ∧
    t.int die (Ob.ptp_txts_level + which) = ((smGet [] s.lay.txts (die * 2 + which)).length + 1 : Nat) ∧ ObjsBut s t (fun k => k = fullKey die (Ob.ptp_txts_level + which)) ∧
    t.sent = .ptp n msgType seqId 0 :: s.sent ∧ t = { s with objs := t.objs, sent := t.sent, lay := { s.lay with txts := t.lay.txts, ptp := t.lay.ptp } }) ∧
  (16 ≤ (smGet [] s.lay.txts (die * 2 + which)).length → ∃ t : State, exec (.ptpEventTx die which seqId msgType dom) s = .next t ∧ t.lay.txts = s.lay.txts ∧
    t.int die (Ob.ptp_txts_overflow + which) = 1 ∧ t.on 0 Ob.lay_flags 10 = true ∧
    (∀ c, c ∈ ds → (msgType = 1 ∨ msgType = 2) → (t.ptp c).req = none) ∧ (∀ c, (c ∉ ds ∨ ¬ (msgType = 1 ∨ msgType = 2)) → t.ptp c = s.ptp c))

/-- PTP_TXTS_AGED (R110): an entry not looked up within 1 s is removed; younger ones stay. -/
def txtsAge : Prop := ∀ (s : State) (k : Nat) (q : List TxtsSt), Up s → s.lay.txts = [(k, q)] →
  ∃ t : State, exec .ptpTxtsAged s = .next t ∧ smGet [] t.lay.txts k = q.filter (fun e => decide (s.now < e.since + 1000000000)) ∧ t.sent = s.sent ∧
    ObjsBut s t (fun j => j = fullKey (k / 2) (Ob.ptp_txts_level + k % 2) ∨ j = fullKey (k / 2) (Ob.ptp_txts_aged + k % 2))

/-- LAY_EVT_EDGE (R111, R112, R77): the output goes active where a start of its own lies between the last one and now, and inactive after its width; an edge goes out only where the level changes, on the
0.25 ns grid, with the polarity in force from the pulse's first edge; no object changes (what the spec leaves open here is the model's choice, log entry 45). -/
def evtEdges : Prop := ∀ (s : State) (x : Nat), Up s → x < 4 → ∃ t : State, exec (.layEvtEdge x) s = .next t ∧
  (∀ a, ((s.evtStarts x (s.evtNow x) s.layNow).filter (fun a => (s.evt x).lastAt < a && a ≤ (s.layNow : Int) && evtFree (s.evtNow x) a)).getLast? = some a →
    (s.layNow : Int) < a + (s.evtNow x).getD 4 0 * layNs → (t.evt x).level = true ∧ (t.evt x).lastAt = a) ∧
  ((t.evt x).level = (s.evt x).level → t.sent = s.sent) ∧
  ((t.evt x).level ≠ (s.evt x).level → ∃ at_ : Nat, t.sent = .edge x ((t.evt x).level != (t.evt x).pol) at_ :: s.sent ∧ at_ % layGrid = 0) ∧
  ((s.evt x).level = true → (t.evt x).pol = (s.evt x).pol) ∧
  t.objs = s.objs ∧ t = { s with lay := { s.lay with evts := t.lay.evts }, sent := t.sent }

/-- PPS_IN_CAPTURE (R113, R77): lay_pps_last reads the Lay time of the edge on the 0.25 ns grid; where no root follows PPS nothing else is read differently. -/
def ppsCaptured : Prop := ∀ (s : State) (fref : Nat), Up s → s.isRoot = false →
  ∃ t : State, exec (.ppsInCapture fref) s = .next t ∧ t.pw Ob.lay_pps_last = toGrid s.layNow ∧ (t.ref 3).lastEdge = some s.now ∧
    ObjsBut s t (fun k => k = Ob.lay_pps_last) ∧ t = { s with objs := t.objs, lay := { s.lay with refs := t.lay.refs } }

/-- FSYNC_IN_CAPTURE (R113, R77): the same for lay_fsync_last. -/
def fsyncCaptured : Prop := ∀ (s : State), Up s → s.isRoot = false →
  ∃ t : State, exec .fsyncInCapture s = .next t ∧ t.pw Ob.lay_fsync_last = toGrid s.layNow ∧ (t.ref 4).lastEdge = some s.now ∧
    ObjsBut s t (fun k => k = Ob.lay_fsync_last) ∧ t = { s with objs := t.objs, lay := { s.lay with refs := t.lay.refs } }

/-- A capture lies on the 0.25 ns grid, no more than half a step from the time (R77). -/
def gridNearest : Prop := ∀ t : Nat, toGrid t % layGrid = 0 ∧ (toGrid t : Int) - t ≤ layGrid / 2 ∧ (t : Int) - toGrid t < layGrid / 2 + 1

/-- BRAID_HOLDOVER (R105): a die other than 0 whose Braid link fails goes on with the part's present Lay time and frequency word by itself; HOLDOVER_ENTERED is set; die 0's Lay time is as before. Linked
again, it follows die 0. -/
def braidHolds : Prop := ∀ (s : State) (b : BraidLink), UpDie s b.die → 0 < b.die → b.die < s.dies →
  (b.linked = false → ∃ t : State, exec (.braidHoldover b) s = .next t ∧ smGet {} t.lay.holds b.die = { fine := s.lay.fine, freq := s.lay.word, on := true } ∧ t.layOf b.die = s.layNow ∧
    t.lay.fine = s.lay.fine ∧ t.on 0 Ob.lay_flags 7 = true ∧ ReportOnly { s with lay := t.lay } t (fun k => k = Ob.lay_flags)) ∧
  (b.linked = true → ∃ t : State, exec (.braidHoldover b) s = .next t ∧ t.layOf b.die = s.layNow ∧ (∀ d, d ≠ b.die → t.layOf d = s.layOf d) ∧
    t = { s with lay := { s.lay with holds := t.lay.holds } })

/-! Chapter 4: Hawser lanes -/

/-- What a step of a lane's receiver may change (R128): the receive state in lane_state, VALID of lane_peer, the objects named, the lane's record, and the crossings out of the lane, which begin anew. -/
structure RxStep (s t : State) (die lane : Nat) (p : Nat → Prop) : Prop where
  objs : ObjsBut s t fun k => k = fullKey die (Ob.lane_state + lane) ∨ k = fullKey die (Ob.lane_peer + lane) ∨ p k
  lanes : ∀ l, l ≠ laneKey die lane → smGet {} t.lanes l = smGet {} s.lanes l
  tx   : t.tx die lane = s.tx die lane
  rest : t = { s with objs := t.objs, lanes := t.lanes, xings := t.xings }

/-- LANE_TX_START (R127): an enabled lane with its PLL locked that does not transmit begins to, with its presets; it announces nothing yet, and a receiver that was off begins at step 1. -/
def laneStarts : Prop := ∀ (s : State) (die lane : Nat), LaneOn s die lane → s.lanePll die = true → s.tx die lane = 0 → s.nat die (Ob.prbs_gen + lane) = 0 →
  s.nat die (Ob.lane_loop + lane) = 0 → s.nat die (Ob.lane_sleep + lane) = 0 →
  ∃ t : State, exec (.laneTxStart die lane) s = .next t ∧ t.tx die lane = 1 ∧ t.rx die lane = (if s.rx die lane = 0 then 1 else s.rx die lane) ∧
    (t.lane die lane).preset = s.nat die (Ob.lane_tx_preset + lane) ∧ t.sent = s.sent ∧ (∀ d l, laneKey d l ≠ laneKey die lane → { t.lane d l with buf := (s.lane d l).buf } = s.lane d l) ∧
    ObjsBut s t (fun k => k = fullKey die (Ob.lane_state + lane) ∨ k = fullKey die (Ob.lane_peer + lane) ∨ portKey die k)

/-- SQUELCH_OPEN (R125, R128): a receiver at step 1 goes to step 2; the other lanes and all other objects stay. -/
def squelchOpens : Prop := ∀ (s : State) (die lane : Nat), LaneOn s die lane → s.testing die lane = false → s.rx die lane = 1 →
  ∃ t : State, exec (.squelchOpen die lane) s = .next t ∧ t.rx die lane = 2 ∧ (t.lane die lane).annSeen = false ∧ RxStep s t die lane fun _ => False

/-- SQUELCH_OPEN (R137) at a sleeping receiver: it relocks from step 2 with its equaliser values kept; that RX_SLEEP is cleared is the model's choice (log entry 128). -/
def squelchWakes : Prop := ∀ (s : State) (die lane : Nat), LaneOn s die lane → s.testing die lane = false → s.rx die lane = 7 →
  ∃ t : State, exec (.squelchOpen die lane) s = .next t ∧ t.rx die lane = 2 ∧ bit (t.nat die (Ob.lane_sleep + lane)) 1 = false ∧ (t.lane die lane).retained = true ∧
    RxStep s t die lane fun k => k = fullKey die (Ob.lane_sleep + lane)

/-- CDR_LOCK (R128): from step 2 to adaptation, or to marker search where the equaliser values were kept, with no candidates. -/
def cdrLocks : Prop := ∀ (s : State) (die lane : Nat), UpDie s die → s.rx die lane = 2 →
  ∃ t : State, exec (.cdrLock die lane) s = .next t ∧ t.rx die lane = (if (s.lane die lane).retained then 4 else 3) ∧ (t.lane die lane).cands = [] ∧ RxStep s t die lane fun _ => False

/-- EQUALISER_CONVERGED (R128): from step 3 to marker search; the equaliser values are kept from now on. -/
def equaliserConverges : Prop := ∀ (s : State) (die lane : Nat), UpDie s die → s.rx die lane = 3 →
  ∃ t : State, exec (.equaliserConverged die lane) s = .next t ∧ t.rx die lane = 4 ∧ (t.lane die lane).retained = true ∧ (t.lane die lane).cands = [] ∧ RxStep s t die lane fun _ => False

/-- MARKER_CANDIDATE (R123): in marker search a candidate joins those tracked; of five the oldest goes. -/
def candidateJoins : Prop := ∀ (s : State) (die lane pos : Nat) (inv : Bool), UpDie s die → s.rx die lane = 4 →
  ∃ t : State, exec (.markerCandidate die lane pos inv) s = .next t ∧
    (t.lane die lane).cands = (if 4 ≤ (s.lane die lane).cands.length then (s.lane die lane).cands.drop 1 else (s.lane die lane).cands) ++ [(pos, inv)] ∧
    t.objs = s.objs ∧ t = { s with lanes := t.lanes }

/-- MARKER_LOCK (R123, R126): a tracked candidate that matched at three further spacings is lock: step 5, the polarity read, lane_peer valid; one that missed is rejected and counted. -/
def markerLocks : Prop := ∀ (s : State) (die lane pos n : Nat) (inv : Bool), UpDie s die → s.rx die lane = 4 → (s.lane die lane).cands = [(pos, inv)] →
  (3 ≤ n → ∃ t : State, exec (.markerLock die lane pos n) s = .next t ∧ t.rx die lane = 5 ∧ t.int die (Ob.lane_rx_polarity + lane) = (if inv then 1 else 0) ∧
    bit (t.nat die (Ob.lane_peer + lane)) 31 = true ∧ (t.lane die lane).cands = [] ∧ (t.lane die lane).missed = 0 ∧ RxStep s t die lane fun k => k = fullKey die (Ob.lane_rx_polarity + lane)) ∧
  (n < 3 → ∃ t : State, exec (.markerLock die lane pos n) s = .next t ∧ t.rx die lane = 4 ∧ (t.lane die lane).cands = [] ∧
    ObjsBut s t (fun k => k = fullKey die (Ob.lane_am_rejects + lane)) ∧ t = { s with objs := t.objs, lanes := t.lanes, free := t.free })

/-- LANE_IN_SERVICE (R100, R128, R131, R135), with a PLL to run from and a marker received since it locked: a locked lane within 180 ns of its group and wired as it should be is in service; its latencies read as measured; a lane dropped before stays dropped. -/
def laneServes : Prop := ∀ (s : State) (die lane skew txPs rxPs : Nat), UpDie s die → lane < 8 → s.laneRuns die lane = true → (s.lane die lane).lastSeq.isSome = true → s.rx die lane = 5 → skew ≤ 180 →
  s.miswired die lane = false →
  ∃ t : State, exec (.laneInService die lane skew txPs rxPs) s = .next t ∧ t.rx die lane = 6 ∧ t.int die (Ob.lay_lane_tx_ps + lane) = txPs ∧
    t.int die (Ob.lay_lane_rx_ps + lane) = rxPs ∧ (t.lane die lane).skewed = false ∧ (t.lane die lane).dropped = (s.lane die lane).dropped ∧
    ObjsBut s t (fun k => k = fullKey die (Ob.lane_state + lane) ∨ k = fullKey die (Ob.lay_lane_tx_ps + lane) ∨ k = fullKey die (Ob.lay_lane_rx_ps + lane) ∨ k = Ob.boot_ms + 6 ∨ portKey die k)

/-- LANE_IN_SERVICE more than 180 ns behind (R132): held out of service, and SKEW is set. -/
def laneSkewed : Prop := ∀ (s : State) (die lane skew txPs rxPs : Nat), UpDie s die → lane < 8 → s.laneRuns die lane = true → (s.lane die lane).lastSeq.isSome = true → s.rx die lane = 5 → 180 < skew →
  ∃ t : State, exec (.laneInService die lane skew txPs rxPs) s = .next t ∧ t.rx die lane = 5 ∧ (t.lane die lane).skewed = true ∧ t.on die (Ob.lane_flags + lane) 4 = true

/-- ALIGNMENT_MARKER_RECEIVE (R122-R124, R134, R137) of a marker that matches, on a lane in service that is wired as before and no more than 180 ns behind its group: the peer, the position, the
announcement of sleep and the RX_OK of its port are the marker's; no expected marker is missed any more; parity that agrees with the blocks received counts towards the clean markers of R135. -/
def markerTaken : Prop := ∀ (s : State) (die lane : Nat) (k : RxMarker) (m : Marker), UpDie s die → lane < 8 → s.hawserLane die lane = true → s.rx die lane = 6 → patternErrors k.bytes ≤ 3 →
  m = markerParse k.bytes → (s.put die (Ob.lane_peer + lane) (peerWord m)).miswired die lane = false → s.skewOf die lane m.seq ≤ 180 →
  ∃ t : State, exec (.alignmentMarkerReceive die lane k) s = .next t ∧ t.nat die (Ob.lane_peer + lane) = peerWord m ∧ (t.lane die lane).pos = m.groupPos ∧
    (t.lane die lane).annSeen = m.sleepAnnounce ∧ (t.lane die lane).missed = 0 ∧ (t.port (s.portOf die lane)).rxOkIn = some m.rxOk ∧ t.rx die lane = 6 ∧
    (t.lane die lane).clean = (if popCount 8 (m.bip ^^^ k.bip) = 0 then (s.lane die lane).clean + 1 else 0)

/-- ALIGNMENT_MARKER_RECEIVE (R123, R124) with more than 3 bits of PATTERN and PATTERN_N in error: a missed marker; the fourth in a row loses lock, is counted and sets LOCK_LOST. -/
def markerMissed : Prop := ∀ (s : State) (die lane : Nat) (k : RxMarker), UpDie s die → lane < 8 → s.hawserLane die lane = true → (s.rx die lane = 5 ∨ s.rx die lane = 6) → 3 < patternErrors k.bytes →
  ∃ t : State, exec (.alignmentMarkerReceive die lane k) s = .next t ∧
    ((s.lane die lane).missed < 3 → (t.lane die lane).missed = (s.lane die lane).missed + 1 ∧ t.rx die lane = s.rx die lane) ∧
    (3 ≤ (s.lane die lane).missed → t.rx die lane = 4 ∧ bit (t.nat die (Ob.lane_peer + lane)) 31 = false ∧ t.on die (Ob.lane_flags + lane) 0 = true ∧
      (s.int die (Ob.lane_lock_losses + lane) < 4294967295 → t.int die (Ob.lane_lock_losses + lane) = s.int die (Ob.lane_lock_losses + lane) + 1))

/-- ALIGNMENT_MARKER_SEND (R120, R129, R134, R137): a transmitting lane puts out its marker of the cycle it now enters, its pending preset applies, and after the fourth announcing marker it stops
driving, where no cell waits for its port. -/
def markerLeaves : Prop := ∀ (s a : State) (die lane : Nat), UpDie s die → lane < 8 → s.hawserLane die lane = true → s.tx die lane = 1 → (s.lane die lane).feLoop = false → a = s.enterCycle die lane →
  ∃ t : State, exec (.alignmentMarkerSend die lane) s = .next t ∧ t.sent = .marker die lane (markerBytes (a.markerOut die lane)) :: s.sent ∧
    (t.lane die lane).sentSeq = some (a.port (s.portOf die lane)).cycle ∧ (t.lane die lane).preset = s.nat die (Ob.lane_tx_preset + lane) ∧
    ((s.lane die lane).annLeft ≠ 1 → t.tx die lane = 1 ∧ (t.lane die lane).annLeft = (s.lane die lane).annLeft - 1) ∧
    ((s.lane die lane).annLeft = 1 → s.queued (s.portOf die lane) = false → t.tx die lane = 2 ∧ (t.lane die lane).annLeft = 0)

/-- LOCK_LOST (R124): with 4 expected markers missed the lane returns to marker search, lane_peer is no longer valid, the loss is counted and LOCK_LOST set; with fewer it only keeps the count. -/
def lockLoses : Prop := ∀ (s : State) (die lane missed : Nat), UpDie s die → lane < 8 → (s.rx die lane = 5 ∨ s.rx die lane = 6) →
  (4 ≤ missed → ∃ t : State, exec (.lockLost die lane missed) s = .next t ∧ t.rx die lane = 4 ∧ bit (t.nat die (Ob.lane_peer + lane)) 31 = false ∧
    (s.int die (Ob.lane_lock_losses + lane) < 4294967295 → t.int die (Ob.lane_lock_losses + lane) = s.int die (Ob.lane_lock_losses + lane) + 1) ∧
    t.on die (Ob.lane_flags + lane) 0 = true ∧ (t.lane die lane).cands = []) ∧
  (missed < 4 → ∃ t : State, exec (.lockLost die lane missed) s = .next t ∧ (t.lane die lane).missed = missed ∧ t.objs = s.objs ∧ t = { s with lanes := t.lanes })

/-- SIGNAL_LOST (R125, R137), signal detect closed for 1 µs: after SLEEP_ANNOUNCE the receiver sleeps with no flag, else it returns to step 1 and SIGNAL_LOST is set. Shorter, nothing happens. -/
def signalLoses : Prop := ∀ (s : State) (die lane ns : Nat), LaneOn s die lane → lane < 8 → s.testing die lane = false → 2 ≤ s.rx die lane → s.rx die lane ≤ 6 →
  (1000 ≤ ns → (s.lane die lane).annSeen = true → ∃ t : State, exec (.signalLost die lane ns) s = .next t ∧ t.rx die lane = 7 ∧ t.sent = s.sent ∧
    t.nat die (Ob.lane_flags + lane) = s.nat die (Ob.lane_flags + lane)) ∧
  (1000 ≤ ns → (s.lane die lane).annSeen = false → ∃ t : State, exec (.signalLost die lane ns) s = .next t ∧ t.rx die lane = 1 ∧ t.on die (Ob.lane_flags + lane) 6 = true) ∧
  (ns < 1000 → exec (.signalLost die lane ns) s = .next s)

/-- FEC_UNCORRECTABLE (R121, R135) on an enabled lane: counted, its time kept, its run of clean markers over; out of service, nothing else changes. -/
def codewordLost : Prop := ∀ (s : State) (die lane : Nat), UpDie s die → die < s.dies → lane < s.laneCount → s.on die (Ob.lane_enable + lane) = true →
  s.int die (Ob.lane_fec_uncorrected + lane) < 4294967295 →
  ∃ t : State, exec (.fecUncorrectable die lane) s = .next t ∧ t.int die (Ob.lane_fec_uncorrected + lane) = s.int die (Ob.lane_fec_uncorrected + lane) + 1 ∧
    (t.lane die lane).ucw = (s.now :: (s.lane die lane).ucw).take 1000 ∧ (t.lane die lane).clean = 0 ∧
    (s.rx die lane ≠ 6 → ObjsBut s t (fun k => k = fullKey die (Ob.lane_fec_uncorrected + lane)) ∧ t = { s with objs := t.objs, lanes := t.lanes })

/-- DROPPED (R135): lane_drop_ucw uncorrectable codewords within 10 ms drop a lane of a group that keeps another; DROPPED is set. -/
def laneDrops : Prop := ∀ (s : State) (die lane : Nat), UpDie s die → lane < 8 → s.rx die lane = 6 → (s.lane die lane).dropped = false →
  s.nat die Ob.lane_drop_ucw ≤ ((s.lane die lane).ucw.filter fun t => s.now ≤ t + 10000000).length →
  clearMask (s.rxMap (s.portOf die lane)) (2 ^ ((s.lane die lane).pos % 4)) ≠ 0 →
  ∃ t : State, exec (.dropped die lane) s = .next t ∧ (t.lane die lane).dropped = true ∧ (t.lane die lane).clean = 0 ∧ t.on die (Ob.lane_flags + lane) 2 = true ∧ t.rx die lane = 6

/-- DROPPED_LANE_RETURN (R135): after 1,024 clean markers a dropped lane counts in RX_OK again. -/
def laneReturns : Prop := ∀ (s : State) (die lane : Nat), UpDie s die → lane < 8 → (s.lane die lane).dropped = true → 1024 ≤ (s.lane die lane).clean →
  ∃ t : State, exec (.droppedLaneReturn die lane) s = .next t ∧ (t.lane die lane).dropped = false ∧ (t.lane die lane).ucw = [] ∧ ObjsBut s t (portKey die)

/-- LANE_SER_UPDATE (R135): lane_ser reads the corrected symbols of the last second over 5.625 × 10^9, in 10^-9; at most lane_degrade_ser, no flag is set (what the spec leaves open here is the model's choice, log entry 37). -/
def serReads : Prop := ∀ (s : State) (die lane corrected : Nat), UpDie s die → die < s.dies → lane < s.laneCount →
  min (corrected * 8 / 45) 4294967295 ≤ s.nat die Ob.lane_degrade_ser → s.int die (Ob.lane_fec_corrected + lane) + corrected ≤ 18446744073709551615 →
  ∃ t : State, exec (.laneSerUpdate die lane corrected) s = .next t ∧ t.nat die (Ob.lane_ser + lane) = min (corrected * 8 / 45) 4294967295 ∧
    t.int die (Ob.lane_fec_corrected + lane) = s.int die (Ob.lane_fec_corrected + lane) + corrected ∧
    ObjsBut s t (fun k => k = fullKey die (Ob.lane_ser + lane) ∨ k = fullKey die (Ob.lane_fec_corrected + lane)) ∧ t = { s with objs := t.objs }

/-- LANE_SER_UPDATE above lane_degrade_ser sets DEGRADED (R135), from which the 10 s of R145 count. -/
def serDegrades : Prop := ∀ (s : State) (die lane corrected : Nat), UpDie s die → die < s.dies → lane < s.laneCount → lane < 8 →
  s.nat die Ob.lane_degrade_ser < min (corrected * 8 / 45) 4294967295 → s.on die (Ob.lane_flags + lane) 1 = false →
  ∃ t : State, exec (.laneSerUpdate die lane corrected) s = .next t ∧ t.on die (Ob.lane_flags + lane) 1 = true ∧ (t.lane die lane).degradedAt = some s.now ∧
    (t.lane die lane).reported = false ∧ t.sent = s.sent

/-- DEGRADED_REPORT (R145, R173): DEGRADED that has stayed set for 10 s is reported once, as a knot with SEVERITY 2, SUBJECT 0xFFFF and the Lay time at which it set; before 10 s it is not. -/
def degradedReports : Prop := ∀ (s : State) (die lane t0 : Nat), UpDie s die → (s.lane die lane).degradedAt = some t0 → s.on die (Ob.lane_flags + lane) 1 = true →
  (s.lane die lane).reported = false →
  (t0 + 10000000000 ≤ s.now → ∃ t : State, exec (.degradedReport die lane) s = .next t ∧ (t.lane die lane).reported = true ∧
    t = (s.setLane die lane fun l => { l with reported := true }).reportAt die (Ob.lane_flags + lane) 1 lane 2 false (s.lane die lane).degradedLay) ∧
  (s.now < t0 + 10000000000 → exec (.degradedReport die lane) s = .next s)

/-- A WRITE of a lane object of one die that is executed (R58): the object, the lane, the value it takes. -/
def LaneWrite (s : State) (m : Msg) (d : ObjDef) (die lane base v : Nat) : Prop :=
  WritesOne s m d die ∧ d.acc = .rw ∧ m.key = base + lane ∧ lane < 8 ∧ (s.arrived m).clampVal die m.key d (decodeVal d.ty m.payload) = (v : Int) ∧ LaneOn (s.arrived m) die lane

/-- TX_SLEEP_SET (R137): lane_sleep reads the value written, and the transmitter that drives announces sleep in its next 4 markers; it drives on. -/
def txSleepSets : Prop := ∀ (s : State) (m : Msg) (d : ObjDef) (die lane v : Nat), LaneWrite s m d die lane Ob.lane_sleep v → bit (leAt m.payload 0 1) 0 = true → bit v 0 = true → bit v 1 = false →
  (s.arrived m).underTest die lane = false → (s.arrived m).tx die lane = 1 → (s.arrived m).nat die (Ob.lane_sleep + lane) = 0 →
  ∃ x : State, exec (.txSleepSet m) s = .next (x.answer 0x02 m 0 d.ty.code []) ∧ x.nat die (Ob.lane_sleep + lane) = v ∧ (x.lane die lane).annLeft = 4 ∧ x.tx die lane = 1 ∧
    ObjsBut (s.arrived m) x (fun k => k = fullKey die (Ob.lane_sleep + lane) ∨ portKey die k)

/-- TX_SLEEP_CLEAR (R137): a transmitter that sleeps drives valid symbols again, and no announcement is left. -/
def txSleepClears : Prop := ∀ (s : State) (m : Msg) (d : ObjDef) (die lane v : Nat), LaneWrite s m d die lane Ob.lane_sleep v → bit (leAt m.payload 0 1) 0 = false → bit v 0 = false →
  bit v 1 = false → (s.arrived m).underTest die lane = false → (s.arrived m).nat die (Ob.lane_sleep + lane) = 1 →
  ∃ x : State, exec (.txSleepClear m) s = .next (x.answer 0x02 m 0 d.ty.code []) ∧ bit (x.nat die (Ob.lane_sleep + lane)) 0 = false ∧ (x.lane die lane).annLeft = 0 ∧
    x.tx die lane = (if (s.arrived m).tx die lane = 2 then 1 else (s.arrived m).tx die lane) ∧
    ObjsBut (s.arrived m) x (fun k => k = fullKey die (Ob.lane_sleep + lane) ∨ k = fullKey die (Ob.lane_state + lane) ∨ portKey die k)

/-- RX_SLEEP_SET (R137): the receiver sleeps at once. -/
def rxSleepSets : Prop := ∀ (s : State) (m : Msg) (d : ObjDef) (die lane v : Nat), LaneWrite s m d die lane Ob.lane_sleep v → bit (leAt m.payload 0 1) 1 = true → bit v 0 = false →
  bit v 1 = true → (s.arrived m).underTest die lane = false → (s.arrived m).nat die (Ob.lane_sleep + lane) = 0 →
  ∃ x : State, exec (.rxSleepSet m) s = .next (x.answer 0x02 m 0 d.ty.code []) ∧ x.nat die (Ob.lane_sleep + lane) = v ∧ x.rx die lane = 7 ∧ x.tx die lane = (s.arrived m).tx die lane ∧
    ObjsBut (s.arrived m) x (fun k => k = fullKey die (Ob.lane_sleep + lane) ∨ k = fullKey die (Ob.lane_state + lane) ∨ k = fullKey die (Ob.lane_peer + lane) ∨ portKey die k)

/-- RX_SLEEP_CLEAR (R137): a sleeping receiver wakes at step 1 with its equaliser values kept. -/
def rxSleepClears : Prop := ∀ (s : State) (m : Msg) (d : ObjDef) (die lane v : Nat), LaneWrite s m d die lane Ob.lane_sleep v → bit (leAt m.payload 0 1) 1 = false → bit v 0 = false →
  bit v 1 = false → (s.arrived m).underTest die lane = false → (s.arrived m).nat die (Ob.lane_sleep + lane) = 2 → (s.arrived m).rx die lane = 7 →
  ∃ x : State, exec (.rxSleepClear m) s = .next (x.answer 0x02 m 0 d.ty.code []) ∧ x.nat die (Ob.lane_sleep + lane) = v ∧ x.rx die lane = 1 ∧ (x.lane die lane).retained = true ∧
    ObjsBut (s.arrived m) x (fun k => k = fullKey die (Ob.lane_sleep + lane) ∨ k = fullKey die (Ob.lane_state + lane) ∨ k = fullKey die (Ob.lane_peer + lane) ∨ portKey die k)

/-- What a lane under test shows (R139, R141): where it transmits, a pattern if its generator is on; its receiver in test. -/
def inTest (a x : State) (die lane base v : Nat) : Prop :=
  x.nat die (base + lane) = v ∧ x.rx die lane = 8 ∧ x.tx die lane = (if a.tx die lane = 0 then 0 else if x.nat die (Ob.prbs_gen + lane) ≠ 0 then 3 else 1) ∧
  ObjsBut a x (fun k => k = fullKey die (base + lane) ∨ k = fullKey die (Ob.lane_state + lane) ∨ k = fullKey die (Ob.lane_peer + lane) ∨ portKey die k)

/-- lane_loop 1, 2 and 3 (R139, R140): the lane goes out of service into test; 3 makes its markers ask for the far-end loop. -/
def loopsBegin : Prop := ∀ (s : State) (m : Msg) (d : ObjDef) (die lane v : Nat), LaneWrite s m d die lane Ob.lane_loop v → leAt m.payload 0 1 = v →
  (v = 1 → ∃ x : State, exec (.nearEndSerialLoop m) s = .next (x.answer 0x02 m 0 d.ty.code []) ∧ inTest (s.arrived m) x die lane Ob.lane_loop 1) ∧
  (v = 2 → ∃ x : State, exec (.nearEndParallelLoop m) s = .next (x.answer 0x02 m 0 d.ty.code []) ∧ inTest (s.arrived m) x die lane Ob.lane_loop 2) ∧
  (v = 3 → ∃ x : State, exec (.farEndLoopRequest m) s = .next (x.answer 0x02 m 0 d.ty.code []) ∧ inTest (s.arrived m) x die lane Ob.lane_loop 3 ∧
    (x.markerOut die lane).feLoopReq = true ∧ (x.lane die lane).noSrc = 0)

/-- lane_loop 0 (R139): the lane leaves test, transmits where it did, and relocks from step 1 with its equaliser values kept. -/
def loopEnds : Prop := ∀ (s : State) (m : Msg) (d : ObjDef) (die lane : Nat), LaneWrite s m d die lane Ob.lane_loop 0 → leAt m.payload 0 1 = 0 → (s.arrived m).rx die lane = 8 →
  (s.arrived m).nat die (Ob.prbs_gen + lane) = 0 → (s.arrived m).nat die (Ob.lane_sleep + lane) = 0 →
  ∃ x : State, exec (.loopOff m) s = .next (x.answer 0x02 m 0 d.ty.code []) ∧ x.nat die (Ob.lane_loop + lane) = 0 ∧ x.rx die lane = 1 ∧
    x.tx die lane = (if (s.arrived m).tx die lane = 0 then 0 else 1) ∧ (x.lane die lane).retained = true ∧
    ObjsBut (s.arrived m) x (fun k => k = fullKey die (Ob.lane_loop + lane) ∨ k = fullKey die (Ob.lane_state + lane) ∨ k = fullKey die (Ob.lane_peer + lane) ∨ portKey die k)

/-- PRBS_GEN (R141) other than 0: the pattern replaces the stream. -/
def patternSent : Prop := ∀ (s : State) (m : Msg) (d : ObjDef) (die lane v : Nat), LaneWrite s m d die lane Ob.prbs_gen v → v ≠ 0 →
  ∃ x : State, exec (.prbsGen m) s = .next (x.answer 0x02 m 0 d.ty.code []) ∧ inTest (s.arrived m) x die lane Ob.prbs_gen v

/-- PRBS_CHK (R141): its counters are 0, and the checker searches, or is off with 0. -/
def checkerSet : Prop := ∀ (s : State) (m : Msg) (d : ObjDef) (die lane v : Nat), LaneWrite s m d die lane Ob.prbs_chk v →
  ∃ x : State, exec (.prbsChk m) s = .next (x.answer 0x02 m 0 d.ty.code []) ∧ x.nat die (Ob.prbs_chk + lane) = v ∧ x.int die (Ob.prbs_errors + lane) = 0 ∧
    x.int die (Ob.prbs_bits + lane) = 0 ∧ x.int die (Ob.prbs_sync + lane) = (if v = 0 then 0 else 1) ∧
    ObjsBut (s.arrived m) x (fun k => k = fullKey die (Ob.prbs_chk + lane) ∨ k = fullKey die (Ob.prbs_errors + lane) ∨ k = fullKey die (Ob.prbs_bits + lane) ∨
      k = fullKey die (Ob.prbs_sync + lane)) ∧ x = { s.arrived m with objs := x.objs }

/-- FE_LOOP_REFUSED (R140): 16 markers without its own SRC set FE_LOOP_REFUSED; with fewer nothing happens. -/
def farEndRefused : Prop := ∀ (s : State) (die lane : Nat), UpDie s die → lane < 8 → s.nat die (Ob.lane_loop + lane) = 3 → (s.lane die lane).feUp = false →
  (16 ≤ (s.lane die lane).noSrc → ∃ t : State, exec (.feLoopRefused die lane) s = .next t ∧ t.on die (Ob.lane_flags + lane) 5 = true ∧
    ObjsBut s t (fun k => k = fullKey die (Ob.lane_flags + lane)) ∧ t = { s with objs := t.objs }) ∧
  ((s.lane die lane).noSrc < 16 → exec (.feLoopRefused die lane) s = .next s)

/-- PRBS_SYNC (R141): 64 error-free symbols bring a searching checker into synchronism; fewer do not; in synchronism bits and errors are added. -/
def checkerSyncs : Prop := ∀ (s : State) (die lane n b e : Nat), UpDie s die → lane < 8 → s.nat die (Ob.prbs_chk + lane) ≠ 0 → s.nat die (Ob.prbs_sync + lane) = 1 →
  (64 ≤ n → s.int die (Ob.prbs_bits + lane) + b ≤ 18446744073709551615 → s.int die (Ob.prbs_errors + lane) + e ≤ 18446744073709551615 →
    ∃ t : State, exec (.prbsSync die lane n b e) s = .next t ∧ t.int die (Ob.prbs_sync + lane) = 2 ∧ t.int die (Ob.prbs_bits + lane) = s.int die (Ob.prbs_bits + lane) + b ∧
      t.int die (Ob.prbs_errors + lane) = s.int die (Ob.prbs_errors + lane) + e) ∧
  (n < 64 → exec (.prbsSync die lane n b e) s = .next s)

/-- PRBS_RESYNC (R141): more than 128 symbols of 1,024 in error send the checker back to searching. -/
def checkerResyncs : Prop := ∀ (s : State) (die lane n b e : Nat), UpDie s die → lane < 8 → s.nat die (Ob.prbs_sync + lane) = 2 →
  ∃ t : State, exec (.prbsResync die lane n b e) s = .next t ∧ t.int die (Ob.prbs_sync + lane) = (if 128 < n then 1 else 2) ∧
    ObjsBut s t (fun k => k = fullKey die (Ob.prbs_sync + lane) ∨ k = fullKey die (Ob.prbs_bits + lane) ∨ k = fullKey die (Ob.prbs_errors + lane) ∨
      k = fullKey die (Ob.prbs_resyncs + lane))

/-- LANE_PAIR_MODE (R142, R143) changed on a die of a big part: lanes 6 and 7 drop and begin anew, their peers unknown; in Hawser mode lane_state shows where an enabled receiver begins, in Ethernet
mode bit 6 is set and eth_link_state shows the link negotiating, training, or down where the pair does not run. -/
def pairSwitches : Prop := ∀ (s : State) (m : Msg) (d : ObjDef) (die v : Nat), WritesOne s m d die → m.key = Ob.lane_pair_mode → d.acc = .rwp →
  (s.arrived m).clampVal die m.key d (decodeVal d.ty m.payload) = (v : Int) → s.big = true → (s.arrived m).nat die Ob.lane_pair_mode ≠ v →
  ∃ x : State, exec (.lanePairMode m) s = .next (x.answer 0x02 m 0 d.ty.code []) ∧ x.nat die Ob.lane_pair_mode = v ∧
    x.nat die Ob.eth_link_state = (if v = 0 || !(x.ethReady die) then 0 else if x.on die Ob.eth_an_enable then 1 else 2) ∧
    (∀ l, l = 6 ∨ l = 7 → x.nat die (Ob.lane_peer + l) = 0 ∧ (v = 0 → x.nat die (Ob.lane_state + l) = if x.on die (Ob.lane_enable + l) then x.rxBegin die l else 0) ∧
      (v ≠ 0 → bit (x.nat die (Ob.lane_state + l)) 6 = true))

/-- ETH_LINK_UP (R142): a link that negotiates or trains comes up, and both lanes receive. -/
def ethLinks : Prop := ∀ (s : State) (die : Nat), UpDie s die → s.ethMode die = true → (s.nat die Ob.eth_link_state = 1 ∨ s.nat die Ob.eth_link_state = 2) →
  exec (.ethLinkUp die) s = .next (((s.put die Ob.eth_link_state 3).setRx die 6 6).setRx die 7 6)

/-- ETH_FRAME_RECEIVE (Table 4.7) with the link up: a good frame of 64 to 9,216 bytes with at most one tag is handed on; a PAUSE frame is ignored; another is counted and dropped. -/
def ethFrames : Prop := ∀ (s : State) (die len tags : Nat), UpDie s die → s.ethMode die = true → s.nat die Ob.eth_link_state = 3 →
  (64 ≤ len → len ≤ 9216 → tags ≤ 1 → exec (.ethFrameReceive die len tags .good) s = .next (s.emit (.frame die len))) ∧
  ((len < 64 ∨ 9216 < len ∨ 1 < tags) → exec (.ethFrameReceive die len tags .good) s = .next (s.bump die Ob.eth_frames_dropped)) ∧
  exec (.ethFrameReceive die len tags .malformed) s = .next (s.bump die Ob.eth_frames_dropped) ∧
  exec (.ethFrameReceive die len tags .pause) s = .next s

/-! Chapter 5: cells and forwarding -/

/-- Blocks of one lane alone make a port's stream (R133): the lane is received in service, its position is the one of the received map, its crossing is open, and no lane of the die holds a block back. -/
structure LoneLane (s : State) (p lane : Nat) : Prop where
  up    : Up s
  port  : s.inService p = true
  lane_ : (s.portLanes p).contains lane = true
  rx    : s.rx (p / 16) lane = 6
  loop  : (s.lane (p / 16) lane).feLoop = false
  at_   : s.laneAt p (s.lane (p / 16) lane).pos = some lane
  map   : s.rxMap p = 2 ^ (s.lane (p / 16) lane).pos
  deal  : s.mapFor p ((s.lane (p / 16) lane).lastSeq.getD 0) = 2 ^ (s.lane (p / 16) lane).pos
  four  : (s.lane (p / 16) lane).pos < 4
  open_ : s.crossShut (p / 16) (.laneIn lane) = false
  empty : ∀ l, (s.lane (p / 16) l).buf = []

/-- A block of a lane that has gone through the lane's deskew buffer and its crossing (R132, R388). -/
def blockThrough (s : State) (p lane : Nat) : State :=
  ((s.setLane (p / 16) lane fun l => { l with slot := l.slot + 1, buf := [] }).crossPush (p / 16) (.laneIn lane)).crossPop (p / 16) (.laneIn lane)

/-- CELL_RECEIVE (R153) while hunting: an IDLE block frames the stream; a data block or HOLD does nothing to it. -/
def idleFrames : Prop := ∀ (s a : State) (p lane : Nat), LoneLane s p lane → (s.port p).framed = false → (s.port p).lay = none → a = blockThrough s p lane →
  exec (.cellReceive p [{ lane := lane, data := false, bytes := Ctl.idle.bytes }]) s = .next (a.setPort p fun t => { t with framed := true }) ∧
  (∀ bytes, exec (.cellReceive p [{ lane := lane, data := true, bytes := bytes }]) s = .next a) ∧
  exec (.cellReceive p [{ lane := lane, data := false, bytes := Ctl.hold.bytes }]) s = .next a

/-- CELL_RECEIVE (R146, R153) of a data block in a framed stream: it joins the cell in progress; the eighth completes it, and the cell goes to its disposal. -/
def blocksJoin : Prop := ∀ (s a : State) (p lane : Nat) (x : Partial) (bytes : List Byte), LoneLane s p lane → (s.port p).framed = true → (s.port p).lay = none →
  (s.port p).cur = [x] → bytes.length = 32 → a = blockThrough s p lane →
  (x.count < 7 → exec (.cellReceive p [{ lane := lane, data := true, bytes := bytes }]) s = .next (a.setPort p fun t =>
    { t with cur := [{ blocks := x.blocks ++ bytes, count := x.count + 1, at_ := if x.count = 0 then s.layOf (p / 16) else x.at_ }] })) ∧
  (7 ≤ x.count → exec (.cellReceive p [{ lane := lane, data := true, bytes := bytes }]) s = .next ((a.setPort p fun t => { t with cur := [] }).cellIn p (cellOfBytes (x.blocks ++ bytes))))

/-- CELL_RECEIVE of an invalid block (R152, R155) in a framed stream with no cell in progress: a framing loss, counted, and the receiver hunts. -/
def framingLost : Prop := ∀ (s a : State) (p lane : Nat) (bytes : List Byte), LoneLane s p lane → (s.port p).framed = true → (s.port p).cur = [] → (s.port p).lay = none → ctlOf bytes = none →
  s.int (p / 16) (atPort Ob.cell_framing_losses p) < 4294967295 → p % 16 < 8 → a = blockThrough s p lane →
  ∃ t : State, exec (.cellReceive p [{ lane := lane, data := false, bytes := bytes }]) s = .next t ∧ (t.port p).framed = false ∧ (t.port p).cur = [] ∧
    t.int (p / 16) (atPort Ob.cell_framing_losses p) = s.int (p / 16) (atPort Ob.cell_framing_losses p) + 1 ∧
    ObjsBut s t (fun k => k = fullKey (p / 16) (atPort Ob.cell_framing_losses p)) ∧ t = { a with objs := t.objs, ports := t.ports }

/-- The cell as it goes on: HOPS one more, the CRC right for the new header (R148, R163). -/
def onward (c : Cell) : Cell := Cell.sealed { c with hops := c.hops + 1 } true

/-- CELL_FORWARD (R159, R162) of a class 3 or 4 cell for another node on a chain port of a tile: it waits in the other chain port's queue; it is dropped and counted where that port is out of service and
no cell wakes it (R138), or its class queue holds 64; one whose HOPS would reach 1,023 is a bad header (what the spec leaves open here is the model's choice, log entry 42). -/
def cellForwards : Prop := ∀ (s a : State) (p q : Nat) (c : Cell), CellAt s p c → c.cls = 3 ∨ c.cls = 4 → s.node ≠ some c.node → a = s.cellArrives p → a.isHead = false →
  a.isChain p = true → a.otherChain p = some q → a.role q ≠ 2 →
  (c.hops + 1 < 1023 → (a.inService q = true ∨ a.wakes q = true) → ((a.port q).fwd.filter fun d => d.cls = c.cls).length < 64 →
    ∃ t : State, exec (.cellForward p c) s = .next t ∧ (t.port q).fwd = (s.port q).fwd ++ [onward c] ∧ (∀ r, r ≠ q → (t.port r).fwd = (s.port r).fwd) ∧ t.sent = s.sent ∧ t.lay = s.lay) ∧
  (c.hops + 1 < 1023 → (a.inService q = true ∨ a.wakes q = true) → 64 ≤ ((a.port q).fwd.filter fun d => d.cls = c.cls).length →
    exec (.cellForward p c) s = .next ((a.bumpPort q Ob.fwd_drops).spent p)) ∧
  (c.hops + 1 < 1023 → a.inService q = false → a.wakes q = false → exec (.cellForward p c) s = .next ((a.bumpPort q Ob.fwd_drops).spent p)) ∧
  (1023 ≤ c.hops + 1 → exec (.cellForward p c) s = .next ((a.bumpPort p Ob.cell_bad_header).spent p))

/-- OWN_CELL_SEND (R156, R160): the own cell of the lowest class may begin: at a head, and at a tile with 9 free slots, no cell in progress, no other own cell about to begin and no forwarded cell waiting; with fewer slots a tile's own cells
wait. -/
def ownCellLeaves : Prop := ∀ (s : State) (p n : Nat) (c : Cell), Up s → s.inService p = true → s.role p ≠ 2 → lowest (s.port p).own = some c →
  ((s.isHead = true ∨ (9 ≤ n ∧ (s.port p).stack = [] ∧ (s.port p).fwd = [] ∧ (s.port p).ready = [])) →
    exec (.ownCellSend p n) s = .next (s.setPort p fun t => { t with own := t.own.erase c, ready := t.ready ++ [c] })) ∧
  (s.isHead = false → n < 9 → exec (.ownCellSend p n) s = .next s)

/-- A cell of the part's own region at a tile (R164, R191): the view-frame it belongs to is open, lit and usable, and there is room. -/
structure RegionCell (a : State) (p : Nat) (c : Cell) (r : RxFrame) (known : Bool) : Prop where
  tile   : a.isHead = false
  chain  : a.isChain p = true
  node   : a.node = some c.node
  place  : a.rxPlace (bits c.spec 12 10) (bits c.spec 32 29) = some (r, known)
  lit    : a.darkAt (bits c.spec 12 10) r.at_ = false
  usable : spliceUsable (a.spliceAt r.at_) = true
  open_  : r.check = none ∧ r.verdict = none ∧ a.missedAt r = false
  room   : a.rxUsed + 244 ≤ a.nat a.checkDie Ob.splice_rx_kb * 1024

/-- PIXEL_CELL_RECEIVE (R164): the cell joins its view-frame with BAND, OFFSET, LAST and its 244 bytes. -/
def pixelTaken : Prop := ∀ (s a : State) (p : Nat) (c : Cell) (r : RxFrame) (known : Bool), CellAt s p c → c.cls = 3 → c.kind = 0 → a = s.cellArrives p → RegionCell a p c r known →
  ∃ (t : State) (r' : RxFrame), exec (.pixelCellReceive p c) s = .next t ∧ r' ∈ t.tile.rx ∧ r'.at_ = r.at_ ∧ r'.frame = r.frame ∧ r'.check = none ∧
    r'.cells = r.cells ++ [{ band := bits c.spec 9 0, offset := bits c.spec 28 13, last := bit c.spec 33, bytes := c.payload }] ∧ t.mem = s.mem ∧ t.lay = s.lay ∧ t.pending = s.pending

/-- PIXEL_CELL_RECEIVE with no room, or for no view-frame (R164): dropped and counted in splice_rx_drops; nothing else changes. -/
def pixelDropped : Prop := ∀ (s a : State) (p : Nat) (c : Cell), CellAt s p c → c.cls = 3 → c.kind = 0 → a = s.cellArrives p → a.isHead = false → a.isChain p = true →
  a.node = some c.node → a.rxPlace (bits c.spec 12 10) (bits c.spec 32 29) = none → exec (.pixelCellReceive p c) s = .next ((a.bump a.checkDie Ob.splice_rx_drops).spent p)

/-- CHECK_CELL_RECEIVE (R151): the view-frame is closed with the CRC and the number of cells that CHECK gives; LAUNCH_AT agrees. -/
def checkTaken : Prop := ∀ (s a : State) (p : Nat) (c : Cell) (r : RxFrame) (known : Bool), CellAt s p c → c.cls = 3 → c.kind = 1 → a = s.cellArrives p → RegionCell a p c r known →
  (layAt c.payload 8 : Int) = r.at_ →
  exec (.checkCellReceive p c) s = .next ((a.putRx { r with check := some (leAt c.payload 0 4, leAt c.payload 4 4) }).spent p)

/-- CANVAS_CELL_RECEIVE (R229) at a head, for the one source that imports its region, of an import not yet whole: the cell is kept by its OFFSET (what the spec leaves open here is the model's choice, log entry 44). -/
def canvasKept : Prop := ∀ (s a : State) (p k : Nat) (c : Cell), CellAt s p c → c.cls = 3 → c.kind = 2 → a = s.cellArrives p → a.isHead = true → a.node = some c.node →
  (List.range a.sourceCount).filter (fun k => a.at_ Ob.src_type k = 3 && a.at_ Ob.src_import_region k = bits c.spec 9 0) = [k] → (a.source k).imports = [] →
  bit c.spec 33 = false →
  ∃ t : State, exec (.canvasCellReceive p c) s = .next t ∧
    (t.source k).imports = [{ view := bits c.spec 12 10, frame := bits c.spec 32 29, cells := smPut [] [] (bits c.spec 28 13) c.payload, last := none }] ∧ t.objs = a.objs ∧
    t = { a with comp := t.comp, ports := t.ports }

/-- IMAGE_CELL_RECEIVE (R147, R433): consumed; an image comes by WRITE_SEG alone, so nothing but the count of cells changes (what the spec leaves open here is the model's choice, log entry 24). -/
def imageConsumed : Prop := ∀ (s : State) (p : Nat) (c : Cell), CellAt s p c → c.cls = 4 → c.kind = 1 → s.node = some c.node → (s.cellArrives p).offChain p = false →
  exec (.imageCellReceive p c) s = .next ((s.cellArrives p).spent p)

/-- WALK at a tile on a port of port_role 0 (R158, R167, R168): the port is the up port, the ID is the present one where it is clear in TAKEN, and enum_head and enum_pos are the WALK's; a REPORT goes
back, and the WALK goes on out of the down port with POS one more and the ID in TAKEN. -/
def walkPasses : Prop := ∀ (s a : State) (p q n : Nat) (c : Cell) (e : Enum), CellAt s p c → c.cls = 2 → c.kind = 1 → e = enumParse c.payload → e.msg = 1 → a = s.cellArrives p →
  a.isHead = false → s.role p = 0 → s.net.forget = false → s.node = some n → bit e.taken n = false → e.pos < 255 → (a.pickDown p) = (some q, 0) → p ≠ q →
  ∃ t : State, exec (.walk p c) s = .next t ∧ t.pw Ob.fwd_up_port = p ∧ t.pw Ob.enum_head = e.head ∧ t.pw Ob.enum_pos = e.pos ∧ t.pw Ob.node_id = n ∧ t.net.headDepth = e.depth ∧
    (t.port p).own = (s.port p).own ++ [mkCell 2 1 (e.head % 1024) 0 (enumBytes { e with msg := 2, argA := n, argB := n, argC := s.identity, argD := 0, taken := 0, depth := 0 })] ∧
    (t.port q).own = (s.port q).own ++ [mkCell 2 1 0 0 (enumBytes { e with pos := e.pos + 1, taken := setBit e.taken n })] ∧
    ObjsBut a t (fun k => k = Ob.fwd_up_port ∨ k = Ob.enum_head ∨ k = Ob.enum_pos ∨ k = Ob.fwd_flags ∨ reportKey k)

/-- WALK_END_AT_HEAD (R168): DONE goes back out of the port the WALK came by, with REASON 1 and the head's own node ID. -/
def walkEnds : Prop := ∀ (s a : State) (p : Nat) (c : Cell) (e : Enum), CellAt s p c → c.cls = 2 → c.kind = 1 → e = enumParse c.payload → e.msg = 1 → a = s.cellArrives p → s.isHead = true →
  ∃ t : State, exec (.walkEndAtHead p c) s = .next t ∧
    (t.port p).own = (s.port p).own ++ [mkCell 2 1 (e.head % 1024) 0 (enumBytes { e with msg := 3, pos := e.pos - 1, argA := s.pw Ob.node_id, argB := 0, argC := 0, argD := 1, taken := 0, depth := 0 })] ∧
    (∀ q, q ≠ p → t.port q = s.port q) ∧ t.net = s.net ∧ ObjsBut a t (fun k => reportKey k)

/-- REPORT at the head whose walk it answers (R168): its ID joins the enumeration under way, once. -/
def reportJoins : Prop := ∀ (s : State) (p : Nat) (c : Cell) (e : Enum) (w : WalkSt), CellAt s p c → c.cls = 2 → c.kind = 1 → e = enumParse c.payload → e.msg = 2 → s.isHead = true →
  s.node = some c.node → s.net.walk = some w → w.seq = e.seq → w.port = e.port → e.argA ≠ 0xFFFF → w.ids.contains e.argA = false →
  ∃ t : State, exec (.report p c) s = .next t ∧ t.net.walk = some { w with ids := w.ids ++ [e.argA] } ∧ t = { s.cellArrives p with net := t.net, ports := t.ports }

/-- DONE at the head whose walk it ends (R168, R170): the enumeration of the port is what the walk found, enum_count reads its length, and no walk is left where no port waits. -/
def doneRecords : Prop := ∀ (s : State) (p : Nat) (c : Cell) (e : Enum) (w : WalkSt), CellAt s p c → c.cls = 2 → c.kind = 1 → e = enumParse c.payload → e.msg = 3 → s.isHead = true →
  s.node = some c.node → s.net.walk = some w → w.seq = e.seq → w.port = e.port → s.net.queue = [] → s.pw Ob.red_head_state ≠ 3 → w.port ≠ s.pw Ob.red_ring_port →
  ∃ t : State, exec (.done p c) s = .next t ∧ t.net.walk = none ∧ smGet [] t.enums w.port = w.ids ∧ t.int (w.port / 16) (atPort Ob.enum_count w.port) = w.ids.length ∧
    (∀ q, q ≠ w.port → smGet [] t.enums q = smGet [] s.enums q) ∧ t.sent = s.sent

/-- What a walk's first cell says (R166): from the head, out of a port, at POS 1 with the pool's bounds. -/
def walkBegun (a t : State) (p : Nat) : Prop :=
  (∃ w, t.net.walk = some w ∧ w.port = p ∧ w.ids = [] ∧ w.startAt = a.now ∧ w.seq = (a.net.walkSeq + 1) % 65536) ∧
  ∃ c e, (t.port p).own = (a.port p).own ++ [c] ∧ c = mkCell 2 1 0 0 (enumBytes e) ∧ e.msg = 1 ∧ e.pos = 1 ∧ e.port = p ∧ e.seq = (a.net.walkSeq + 1) % 65536 ∧
    e.argA = a.pw Ob.enum_id_first ∧ e.argB = a.pw Ob.enum_id_last

/-- WALK_AFTER_SERVICE (R166), 10 ms after a chain port came into service with no other walk under way or waiting: its walk begins. -/
def walkFollows : Prop := ∀ (s : State) (p t0 : Nat), Up s → (s.port p).walkDue = some t0 → s.inService p = true → s.feeds p = true → s.net.walk = none → s.net.queue = [] →
  s.pw Ob.enum_id_first ≤ s.pw Ob.enum_id_last →
  (t0 ≤ s.now → ∃ t : State, exec (.walkAfterService p) s = .next t ∧ walkBegun s t p) ∧
  (s.now < t0 → exec (.walkAfterService p) s = .next s)

/-- ENUM_START at a head with one chain port and no walk under way (R166): that port is walked; at a tile nothing is done. -/
def enumStarts : Prop := ∀ (s : State) (m : Msg) (d : ObjDef) (p : Nat), WritesOne s m d 0 → m.key = Ob.enum_start → d.acc = .wo →
  (s.arrived m).clampVal 0 m.key d (decodeVal d.ty m.payload) = 1 →
  (s.isHead = true → (s.arrived m).walkPorts = [p] → s.net.walk = none → s.net.queue = [] → s.pw Ob.enum_id_first ≤ s.pw Ob.enum_id_last →
    ∃ x : State, exec (.enumStart m) s = .next (x.answer 0x02 m 0 d.ty.code []) ∧ walkBegun (s.arrived m) x p) ∧
  (s.isHead = false → exec (.enumStart m) s = .next ((s.arrived m).answer 0x02 m 0 d.ty.code []))

/-- ENUM_PERIOD_EXPIRY (R166): every enum_period_s, while that is not 0, a head with one chain port walks it; with 0 it does not. -/
def enumRepeats : Prop := ∀ (s : State) (p : Nat), Up s → s.isHead = true → s.walkPorts = [p] → s.net.walk = none → s.net.queue = [] → s.pw Ob.enum_id_first ≤ s.pw Ob.enum_id_last →
  (s.pw Ob.enum_period_s ≠ 0 → s.net.periodAt + s.pw Ob.enum_period_s * 1000000000 ≤ s.now →
    ∃ t : State, exec .enumPeriodExpiry s = .next t ∧ walkBegun s t p ∧ t.net.periodAt = s.now) ∧
  (s.pw Ob.enum_period_s = 0 → exec .enumPeriodExpiry s = .next s)

/-- ENUM_TIMEOUT (R168): a walk with no DONE for 50 ms ends with TIMEOUT and the REPORTs it had; a younger one goes on. -/
def enumTimesOut : Prop := ∀ (s : State) (w : WalkSt), Up s → s.net.walk = some w → s.net.queue = [] →
  (w.startAt + 50000000 ≤ s.now → ∃ t : State, exec .enumTimeout s = .next t ∧ t.net.walk = none ∧ smGet [] t.enums w.port = w.ids ∧ t.on 0 Ob.enum_flags 0 = true) ∧
  (s.now < w.startAt + 50000000 → exec .enumTimeout s = .next s)

/-- ENUM_ID_FORGET (R167): the part will drop its ID at its next WALK; its ID stays until then. -/
def idForgotten : Prop := ∀ (s : State) (m : Msg) (d : ObjDef), WritesOne s m d 0 → m.key = Ob.enum_id_forget → d.acc = .wo →
  (s.arrived m).clampVal 0 m.key d (decodeVal d.ty m.payload) = 1 →
  exec (.enumIdForget m) s = .next (({ s.arrived m with net := { (s.arrived m).net with forget := true } } : State).answer 0x02 m 0 d.ty.code [])

/-- ROUTE_SEND (R170) at a head that has its ID, 100 ms after the last or with a changed node map: on every head link a ROUTE with the next SEQ, HOPS 0 and the head's nodes. -/
def routeSent : Prop := ∀ (s : State), Up s → s.isHead = true → s.node.isSome = true → s.pw Ob.enum_id_first ≤ s.pw Ob.enum_id_last →
  (s.net.routeNodes ≠ s.ownNodes ∨ s.due s.net.routeAt 100000000 = true) →
  ∃ t : State, exec .routeSend s = .next t ∧ t.net.routeSeq = (s.net.routeSeq + 1) % 65536 ∧ t.net.routeNodes = s.ownNodes ∧ t.net.routeAt = some s.now ∧
    (∀ p, p ∈ s.headLinks → (t.port p).own = (s.port p).own ++ [mkCell 2 2 s.nodeOr0 0 (routeBytes s.nodeOr0 ((s.net.routeSeq + 1) % 65536) 0 s.ownNodes)]) ∧
    (∀ p, p ∉ s.headLinks → t.port p = s.port p) ∧ t.sent = s.sent ∧ t.enums = s.enums

/-- ROUTE on a head link (R170) from an origin not known yet: it is kept with its link, HOPS, SEQ and NODES; one with the part's own ORIGIN is not. -/
def routeKept : Prop := ∀ (s : State) (p : Nat) (c : Cell), CellAt s p c → c.cls = 2 → c.kind = 2 → s.isHead = true → s.role p = 1 →
  ((∀ r, r ∈ s.net.routes → r.origin ≠ leAt c.payload 0 2) → s.node ≠ some (leAt c.payload 0 2) →
    ∃ t : State, exec (.route p c) s = .next t ∧ (∃ r, r ∈ t.net.routes ∧ r.origin = leAt c.payload 0 2 ∧ r.link = p ∧ r.hops = leAt c.payload 4 1 ∧ r.seq = leAt c.payload 2 2 ∧
      r.nodes = leAt c.payload 8 128 ∧ r.lastAt = s.now) ∧ (∀ r, r ∈ s.net.routes → r ∈ t.net.routes)) ∧
  (s.node = some (leAt c.payload 0 2) → exec (.route p c) s = .next ((s.cellArrives p).spent p))

/-- ROUTE_EXPIRY (R170): an origin that has been silent for 350 ms is dropped, and no other; of those kept, the links that were silent as long. -/
def routesExpire : Prop := ∀ (s : State), Up s → ∃ t : State, exec .routeExpiry s = .next t ∧
  t.net.routes.map (·.origin) = (s.net.routes.filter fun r => decide (s.now < r.lastAt + 350000000)).map (·.origin) ∧
  (∀ r, r ∈ t.net.routes → ∀ h, h ∈ r.heard → s.now < h.at_ + 350000000) ∧ t = { s with net := { s.net with routes := t.net.routes } }

/-- ID_CONFLICT (R171) at a head: where another origin's NODES has held for 3 s an ID of the head's own enumerations, ID_CONFLICT is set (no report); else nothing happens. -/
def conflictFlags : Prop := ∀ (s : State), Up s → s.isHead = true →
  ((∃ r, r ∈ s.net.routes ∧ ∃ e, e ∈ r.held ∧ e.1 + 3000000000 ≤ s.now ∧ e.2 &&& s.enumSet ≠ 0) → ∃ t : State, exec .idConflict s = .next t ∧ t.on 0 Ob.enum_flags 2 = true ∧
    ObjsBut s t (fun k => k = Ob.enum_flags) ∧ t = { s with objs := t.objs }) ∧
  ((∀ r, r ∈ s.net.routes → ∀ e, e ∈ r.held → e.2 &&& s.enumSet ≠ 0 → s.now < e.1 + 3000000000) → exec .idConflict s = .next s)

/-- KNOT_CELL_RECEIVE (R174, R175), of a window not yet flushed: a knot with the key and window of an entry merges into it; a new one joins a table of fewer than 128. -/
def knotJoins : Prop := ∀ (s a : State) (p : Nat) (c : Cell) (k : Knot), CellAt s p c → c.cls = 1 → c.kind = 0 → k = knotParse c.payload → a = s.cellArrives p → a.offChain p = false →
  a.layNow < a.flushTime k.window →
  (s.knots.any (fun e => e.sameAs k) = true → exec (.knotCellReceive p c) s = .next (({ a with knots := s.knots.map fun e => if e.sameAs k then e.merge k else e } : State).spent p)) ∧
  (s.knots.any (fun e => e.sameAs k) = false → s.knots.length < 128 → exec (.knotCellReceive p c) s = .next (({ a with knots := s.knots ++ [k] } : State).spent p))

/-- What merging keeps (R175): counts add up to 65,535, node sets join, the earlier first and the later last time stand. -/
def knotsMerge : Prop := ∀ e k : Knot, (e.merge k).count = min (e.count + k.count) 65535 ∧ (e.merge k).nodes = e.nodes ||| k.nodes ∧ (e.merge k).firstAt = min e.firstAt k.firstAt ∧
  (e.merge k).lastAt = max e.lastAt k.lastAt ∧ (e.merge k).code = e.code ∧ (e.merge k).window = e.window ∧ (e.merge k).severity = e.severity

/-- KNOT_FLUSH at a part that is no sink and has a port toward it (R176): the knots of windows whose flush time has come are gone from the table, the others stay. -/
def knotsFlush : Prop := ∀ (s : State), Up s → s.isSink = false → s.knotPort.isSome = true →
  ∃ t : State, exec .knotFlush s = .next t ∧ t.knots = s.knots.filter (fun k => decide (s.layNow < s.flushTime k.window))

/-- KNOT_FLUSH at the sink (R178, R179) of one knot due: it is in the log of the last 32, event_seq is one more, modulo 65,536, and with event_dest set an EVENT goes out; nothing is queued on a port (what the spec leaves open here is the model's choice, log entry 36). -/
def knotDelivered : Prop := ∀ (s : State) (k : Knot), Up s → s.isSink = true → s.knots = [k] → s.flushTime k.window ≤ s.layNow →
  ∃ t : State, exec .knotFlush s = .next t ∧ t.knots = [] ∧ t.knotLog.getLast? = some k ∧ t.knotLog.length ≤ 32 ∧
    (0 ≤ s.int 0 Ob.event_seq → s.int 0 Ob.event_seq ≤ 65535 → t.int 0 Ob.event_seq = (s.int 0 Ob.event_seq + 1) % 65536) ∧ t.ports = s.ports ∧ t.knotHold = (s.knotHold || decide (2 ≤ k.severity)) ∧
    (s.pw Ob.event_dest ≠ 0 → Output.event (s.pw Ob.event_dest) (s.pw Ob.corrix_udp_port) (msgBytes 0x20 (s.eventMsg k)) ∈ t.sent)

/-- KNOT_ACK (R179): the sink no longer holds FAULT_N; where nothing else drives it, it is released, and HSTAT shows it. -/
def knotsAcked : Prop := ∀ (s : State) (m : Msg) (d : ObjDef), WritesOne s m d 0 → m.key = Ob.knot_ack → d.acc = .wo →
  (s.arrived m).clampVal 0 m.key d (decodeVal d.ty m.payload) = 1 →
  ∃ x : State, exec (.knotAck m) s = .next (x.answer 0x02 m 0 d.ty.code []) ∧ x.knotHold = false ∧ x.knots = s.knots ∧
    (s.knotHold = true → s.faultSrc = 0 → x.sent = Output.pin .faultN true :: s.sent ∧ bit x.spi.hstat 2 = false) ∧
    x = { s.arrived m with knotHold := false, spi := x.spi, sent := x.sent }

/-! Chapters 6 and 7: sending, launching, sources -/

/-- A counter of 32 bits went up by `n`, where that is within its range. -/
def Counts (s t : State) (die key n : Nat) : Prop := s.int die key + n ≤ 4294967295 → t.int die key = s.int die key + n

/-- SEND_START (R189, R197, R222) of a lit view-frame whose send start has come, at a head that composes and has a die that has ended the view-frame before: the values in force for it are taken and its
composition begins; before its send start nothing happens. -/
def sendStarts : Prop := ∀ (s : State) (frame view : Nat) (v : Vf), Up s → s.composes = true → s.findVf frame view = some v →
  (s.reached (s.sendStartOf v) = true → v.dark = false → (∀ a, s.comp.lastAt = some a → a < v.at_) → s.red.sendFrom ≤ s.sendStartOf v → s.aliveList.all s.dieBusy = false → s.corrix.capply = none →
    ∃ (t : State) (w : Work), exec (.sendStart frame view) s = .next t ∧ w ∈ t.comp.works ∧ w.at_ = v.at_ ∧ w.frame = v.frame ∧ w.view = v.view ∧
      w.objs = (s.checkLead.asOf v.at_).objs ∧ t.comp.lastAt = some v.at_ ∧ t.launch.begun = some (max v.at_ (s.launch.begun.getD v.at_)) ∧ t.staged = s.staged ∧ t.mem = s.mem ∧ t.tile = s.tile) ∧
  (s.reached (s.sendStartOf v) = false → exec (.sendStart frame view) s = .next s)

/-- COMPOSE_APPLY coming due (R223): at the send start of its frame the values voted on are in force (what the spec leaves open here is the model's choice, log entry 85). -/
def applyDue : Prop := ∀ (s : State) (frame view : Nat) (v : Vf) (f : Int) (top : SMap Value), Up s → s.composes = false → s.findVf frame view = some v →
  s.reached (s.sendStartOf v) = true → s.corrix.capply = some (f, top) →
  (f ≤ v.at_ → ∃ t : State, exec (.sendStart frame view) s = .next t ∧ t.corrix.capply = none ∧
    (∀ k, ¬ reportKey k → k ≠ Ob.compose_flags → (∀ n, k ≠ fullKey n Ob.splice_rx_drops) → smGet .dflt t.objs k = smGet .dflt (overlay s.objs top) k) ∧ t.mem = s.mem ∧ t.lay = s.lay) ∧
  (v.at_ < f → exec (.sendStart frame view) s = .next s)

/-- DESCRIPTOR_POST (R193, R195) of a complete segment, with its ring's next slot free and a place left in the die's cache and ready queue: the descriptor is written into that slot in the DRAM of die 0,
and a ring that is not known to its die joins the ready queue. With the slot still owned by the ring engine, nothing happens. -/
def descriptorPosted : Prop := ∀ (s : State) (node band r die : Nat) (g : SegSt), Up s → r = node * 1024 + band → die = s.packDie node →
  s.comp.segs.find? (fun g => decide (g.ring = r) && !g.posted) = some g →
  (bit (s.slotDesc r (s.ring r).tail) 0 = false → (smGet [] s.launch.cache die).length + (smGet [] s.launch.ready die).length < 8192 →
    ∃ t : State, exec (.descriptorPost node band) s = .next t ∧ t.mem = (s.putSlot r (s.ring r).tail g.desc).mem ∧ (t.ring r).tail = ((s.ring r).tail + 1) % s.ringDepth ∧
      t.comp = { s.comp with segs := s.comp.segs.map fun a => if sameSeg a.desc g.desc then { a with posted := true } else a } ∧
      smGet [] t.launch.ready die = smGet [] s.launch.ready die ++ (if (smGet [] s.launch.cache die).contains r || (smGet [] s.launch.ready die).contains r then [] else [r]) ∧
      t = { s with comp := t.comp, launch := t.launch, mem := t.mem }) ∧
  (bit (s.slotDesc r (s.ring r).tail) 0 = true → exec (.descriptorPost node band) s = .next s)

/-- SEGMENT_WRITE (R230) for an enabled destination whose next lines are composed: the next bytes of the band, at most a segment, are written where the pool of the packing die has room for them; with no room
the packer waits and SEG_POOL_FULL shows it. -/
def segmentWritten : Prop := ∀ (s : State) (node band frame view : Nat) (w : Work) (d : Splice) (done total n die : Nat), Up s →
  s.comp.works.find? (fun w => decide (w.frame = frame) && decide (w.view = view)) = some w → s.dueExports w node band = [] → ({ s with objs := w.objs } : State).at_ Ob.dest_enable node = 1 →
  d = s.destSplice w node → done = smGet 0 (s.packOf node w.at_).done band → total = bandBytes d band → n = min (({ s with objs := w.objs } : State).pw Ob.compose_seg_cells * 244) (total - done) →
  spliceUsable d = true → band < ({ s with objs := w.objs } : State).at_ Ob.dest_bands node → band < spliceBands d → done < total → s.bandReady w d band done n = true → die = s.packDie node →
  (∀ a, s.poolPlace die n = some a → ∃ t : State, exec (.segmentWrite node band frame view) s = .next t ∧
    t.comp.segs = s.comp.segs ++ [{ ring := node * 1024 + band, desc := ringDesc (decide (done + n = total)) w.view w.frame (done / 244) n (a / 32) die w.at_ }] ∧
    (t.memOf die).sram = smPutAll 0 (s.memOf die).sram a (((s.bandStream w d band).drop done).take n) ∧ smGet 0 (t.packOf node w.at_).done band = done + n ∧
    t = { s with comp := t.comp, launch := t.launch, mem := t.mem }) ∧
  (s.poolPlace die n = none → exec (.segmentWrite node band frame view) s = .next ((s.raise die Ob.compose_flags 4).stall node true))

/-- RING_CACHE_LOAD (R195): the oldest ready ring moves into a cache of fewer than 8,192; a full cache leaves it waiting, which ring_cache_waits counts once. -/
def cacheLoaded : Prop := ∀ (s : State) (die r : Nat) (rest : List Nat), UpDie s die → smGet [] s.launch.ready die = r :: rest →
  ((smGet [] s.launch.cache die).length < 8192 → ∃ t : State, exec (.ringCacheLoad die) s = .next t ∧ smGet [] t.launch.ready die = rest ∧
    smGet [] t.launch.cache die = smGet [] s.launch.cache die ++ [r] ∧ t = { s with launch := t.launch }) ∧
  (8192 ≤ (smGet [] s.launch.cache die).length → exec (.ringCacheLoad die) s = .next (if (s.ring r).waited then s else (s.bump die Ob.ring_cache_waits).setRing r fun t => { t with waited := true }))

/-- RING_PICK (R25, R156, R196) on a path that may take a class-3 cell: a CHECK cell that waits goes first; else the one ready ring's next PIXEL cell, of 244 bytes from where it stands in its segment, and
with the segment's last cell the ring moves on and the segment leaves the pool; a faulty descriptor is skipped and counted; else nothing. -/
def ringPicked : Prop := ∀ (s : State) (p : Nat), Up s → s.pathFree p = true →
  (∀ n c rest, smGet [] s.launch.checks p = (n, c) :: rest → ∃ t : State, exec (.ringPick p) s = .next t ∧ (p ≠ ownPath → (t.port p).ready = (s.port p).ready ++ [c]) ∧
    smGet [] t.launch.checks p = rest ∧ t.launch.rings = s.launch.rings ∧ t.comp = s.comp ∧ t.mem = s.mem) ∧
  (∀ r due d, smGet [] s.launch.checks p = [] → s.ringReady p = [(r, due)] → s.ringHead r = some d → s.badDesc d = false → (s.layNow : Int) ≤ due →
    ∃ t : State, exec (.ringPick p) s = .next t ∧ (p ≠ ownPath → (t.port p).ready = (s.port p).ready ++ [mkCell 3 0 (r / 1024)
      (pixelSpec (r % 1024) (descView d) (descFirst d + (s.ring r).sent / 244) (descFrame d) (descLast d && decide (descLen d ≤ (s.ring r).sent + 244)))
      (s.segBytes d (s.ring r).sent (min 244 (descLen d - (s.ring r).sent)))]) ∧
    ((s.ring r).sent + 244 < descLen d → (t.ring r).sent = (s.ring r).sent + 244 ∧ (t.ring r).head = (s.ring r).head ∧ t.mem = s.mem) ∧
    (descLen d ≤ (s.ring r).sent + 244 → (t.ring r).sent = 0 ∧ (t.ring r).head = ((s.ring r).head + 1) % s.ringDepth ∧ t.mem = (s.putSlot r (s.ring r).head (d / 2 * 2)).mem ∧
      t.comp.segs = s.comp.segs.filter fun g => !(sameSeg g.desc d))) ∧
  (∀ r due d, smGet [] s.launch.checks p = [] → s.ringReady p = [(r, due)] → s.ringHead r = some d → s.badDesc d = true →
    ∃ t : State, exec (.ringPick p) s = .next t ∧ t.ports = s.ports ∧ (t.ring r).head = ((s.ring r).head + 1) % s.ringDepth ∧ (t.ring r).sent = 0 ∧
      Counts s t (pathDie p) Ob.ring_bad_desc 1) ∧
  (smGet [] s.launch.checks p = [] → s.ringReady p = [] → exec (.ringPick p) s = .next s)

/-- CORRECTION_BEGIN (R190, R267, R290): once the view-frame before it has launched, with its store half free and a cell come, a view-frame begins, with the patches due applied first, and all it will use is fixed: the object values at its launch, with the coefficients of the last frame boundary before it, its fade gain, zone temperatures and lamp states. -/
def correctionBegins : Prop := ∀ (s a : State) (die frame view : Nat) (r : RxFrame), UpDie s die →
  s.tile.rx.find? (fun r => decide (r.frame = frame) && decide (r.view = view) && !(bit r.begun die)) = some r → s.isTile = true → die < s.dies → s.fwOn die = true → r.cells ≠ [] →
  (∀ p, s.vfPrev { at_ := r.at_, frame := r.frame, view := r.view, dark := false } = some p → s.reachedOn die p.at_ = true) → (s.tdie die).next = none → s.storeFree die = true →
  a = s.patchApply die →
  ∃ (t : State) (h : Half) (r' : RxFrame), exec (.correctionBegin die frame view) s = .next t ∧ (t.tdie die).next = some h ∧ h.at_ = r.at_ ∧ h.frame = r.frame ∧ h.view = r.view ∧
    h.objs = a.objsFor die r.at_ ∧ h.gain = a.fadeAt r.at_ ∧ h.temps = a.zoneTemps die ∧ h.scales = (a.asOf r.at_).zoneScales die (a.zoneTemps die) ∧ h.faults = a.faultStates die ∧ h.px = 0 ∧
    r' ∈ t.tile.rx ∧ r'.at_ = r.at_ ∧ r'.reading = true ∧ r'.cells = r.cells ∧ t.launch.begun = some (max r.at_ (a.launch.begun.getD r.at_)) ∧
    ObjsBut a t (fun k => ∃ z, k = fullKey die (atIndex Ob.zone_derate z)) ∧ t.sent = a.sent ∧ t.mem = a.mem

/-- A view-frame that is still to be judged, for a tile's lit region with a usable descriptor. -/
structure ToJudge (s : State) (frame view : Nat) (r : RxFrame) : Prop where
  up     : Up s
  found  : s.tile.rx.find? (fun r => decide (r.frame = frame) && decide (r.view = view) && r.verdict.isNone) = some r
  tile   : s.isTile = true
  lit    : s.darkAt view r.at_ = false
  usable : spliceUsable (s.spliceAt r.at_) = true

/-- REGION_VERDICT (R274, R275) once CHECK has come and the cells are read: with no reason to fail the view-frame has passed and check_passes counts it; with one, it has failed, check_fails counts
it and check_last_reason, _frame, _view, _crc and _expected tell which and why. -/
def verdictGiven : Prop := ∀ (s : State) (frame view : Nat) (r : RxFrame) (crc cells why : Nat), ToJudge s frame view r → r.check = some (crc, cells) → 244 * r.cells.length ≤ r.read →
  why = regionReason r (s.spliceAt r.at_) → s.watches = false → s.pw Ob.red_arb_state = 0 →
  (why = 0 → ∃ (t : State) (r' : RxFrame), exec (.regionVerdict frame view) s = .next t ∧ r' ∈ t.tile.rx ∧ r' = { r with verdict := some 0 } ∧ Counts s t 0 Ob.check_passes 1 ∧
    ObjsBut s t (fun k => k = Ob.check_passes ∨ ∃ n g, k = fullKey n (atIndex Ob.rg_state g)) ∧ t.sent = s.sent) ∧
  (why ≠ 0 → r.started = false → ∃ (t : State) (r' : RxFrame), exec (.regionVerdict frame view) s = .next t ∧ r' ∈ t.tile.rx ∧ r' = { r with verdict := some why } ∧
    Counts s t 0 Ob.check_fails 1 ∧ t.pw Ob.check_last_reason = why ∧ t.pw Ob.check_last_frame = r.frame ∧ t.pw Ob.check_last_view = r.view ∧ t.pw Ob.check_last_crc = rxCrc r (s.spliceAt r.at_) ∧
    t.pw Ob.check_last_expected = crc ∧ t.on 0 Ob.check_flags 0 = true)

/-- VIEW_FRAME_LAUNCH (R198, R207) with a launch due on a die of a part that is not lit yet: the launch is recorded in frame_now, frame_last_launch and fade_gain, and handled once; with none due nothing. -/
def launchRecorded : Prop := ∀ (s : State) (die : Nat), UpDie s die → die < s.dies →
  (s.dueLaunch die = none → exec (.viewFrameLaunch die) s = .next s) ∧
  (∀ v, s.dueLaunch die = some v → s.launch.lastAt ≠ some v.at_ → s.boot.lit = false → s.bootReady = false →
    ∃ t : State, exec (.viewFrameLaunch die) s = .next t ∧ (t.tdie die).lastAt = some v.at_ ∧ t.launch.lastAt = some v.at_ ∧ t.pw Ob.frame_now = v.frame ∧
      t.int 0 Ob.frame_last_launch = s.frameLaunch v ∧ t.pw Ob.fade_gain = s.fadeAt v.at_ ∧
      ObjsBut s t (fun k => k = Ob.frame_now ∨ k = Ob.frame_last_launch ∨ k = Ob.fade_gain) ∧ t = { s with objs := t.objs, tile := t.tile, launch := t.launch })

/-- VIEW_FRAME_LAUNCH on a lit tile die with one chain group (R198, R199): a group whose data are ready at the launch starts the view-frame at its first line, its flip is recorded and the latch
command leaves at the launch time; a group darkened for the view takes its slot dark (what the spec leaves open here is the model's choice, log entry 100). -/
def launchStarts : Prop := ∀ (s : State) (die g : Nat) (v : Vf), UpDie s die → die < s.dies → g < 4 → s.dueLaunch die = some v → s.launch.lastAt = some v.at_ → s.boot.lit = true → s.isTile = true →
  s.unaligned = false → s.groupsRun die = [g] → s.groupStopped die g = false →
  (v.dark = true → ∃ t : State, exec (.viewFrameLaunch die) s = .next t ∧ (t.gst die g).mode = 3 ∧ (t.gst die g).at_ = v.at_ ∧ (t.gst die g).line = 0 ∧ (t.tdie die).lastAt = some v.at_) ∧
  (v.dark = false → (s.gst die g).sr = false → (s.gst die g).resume = none → (s.gst die g).proves = false → s.pausedAt die v.at_ = false → spliceUsable (s.spliceAt v.at_) = true → s.tile.rx.find? (fun r => decide (r.at_ = v.at_)) = none →
    ¬ ((s.gst die g).mode = 1 ∧ (0 < (s.gst die g).lag ∨ (s.slotCfg die g).frameMem die g = false ∧ (s.gst die g).line < (s.slotCfg die g).lineCount die g (s.groupSlot die g))) → ((s.gst die g).due ++ (s.gst die g).wait).filter s.awaitsStill = [] → ((s.gst die g).mode = 4 ∨ (s.gst die g).carry = 0) → (∃ a, s.readyAt die g v.at_ = some a ∧ a ≤ v.at_) →
    ∃ t : State, exec (.viewFrameLaunch die) s = .next t ∧ (t.gst die g).mode = 1 ∧ (t.gst die g).at_ = v.at_ ∧ (t.gst die g).frame = v.frame ∧ (t.gst die g).view = v.view ∧
      (t.gst die g).line = 0 ∧ (t.gst die g).lag = 0 ∧ Output.latch die g ((s.cfgFor die v.at_).frameMem die g) ((s.cfgFor die v.at_).latWidth die g (if (s.cfgFor die v.at_).frameMem die g then 2 else 1)) (gridQuot v.at_ 1).toNat ∈ t.sent ∧ t.grp die g Ob.rg_last_flip_frame = v.frame ∧
      t.int die (atIndex Ob.rg_last_flip g) = gridQuot v.at_ 1 ∧ (t.tdie die).lastAt = some v.at_)

/-- LATE_START (R198): a view-frame that was not ready at its launch starts once its first line is: at its lag, which late_starts counts and lag_last_ns and late_last_at tell, with LATE_START (what the spec leaves open here is the model's choice, log entry 47). -/
def lateStarts : Prop := ∀ (s : State) (die g lag : Nat) (a : Int), UpDie s die → g < 4 → (s.gst die g).mode = 4 → (s.gst die g).sr = false → s.readyAt die g (s.gst die g).at_ = some a → s.rxFailed (s.gst die g).at_ = false →
  s.fwOn die = true → (s.gst die g).proves = false →
  lag = max (s.gst die g).carry (a - (s.gst die g).at_).toNat → s.groupStopped die g = false →
  (s.reachedOn die ((s.gst die g).at_ + lag) = true → 0 < lag → ∃ t : State, exec (.lateStart die g) s = .next t ∧ (t.gst die g).mode = 1 ∧ (t.gst die g).at_ = (s.gst die g).at_ ∧
    (t.gst die g).line = 0 ∧ (t.gst die g).lag = lag ∧ (t.gst die g).carry = 0 ∧ t.grp die g Ob.rg_state = 1 ∧ Counts s t die Ob.late_starts 1 ∧ t.nat die Ob.lag_last_ns = lag / layNs ∧
    t.int die Ob.late_last_at = (s.gst die g).at_ ∧ t.on die Ob.launch_flags 0 = true ∧ Output.latch die g ((s.cfgFor die (s.gst die g).at_).frameMem die g) ((s.cfgFor die (s.gst die g).at_).latWidth die g (if (s.cfgFor die (s.gst die g).at_).frameMem die g then 2 else 1))
      (gridQuot ((s.gst die g).at_ + lag) 1).toNat ∈ t.sent) ∧
  (s.reachedOn die ((s.gst die g).at_ + lag) = false → exec (.lateStart die g) s = .next s)

/-- LINE_START (R204, R310, R311) of a started view-frame on drivers with a frame memory: the next line begins at its place in the slot, on the 0.25 ns grid, with ROW_EN active for line_ns less blank_ns unless
its row or the output is faulty, and its GCLK pulses from the first multiple of their period; before that time, or with every line done, nothing happens. `c`: the values in force for the slot; `a`: with the outputs that come back at this line start (R328). -/
def lineStarts : Prop := ∀ (s a c : State) (die g n scan : Nat) (start : Int), UpDie s die → s.groupRuns die g = true → c = s.slotCfg die g → c.frameMem die g = true → (s.gst die g).mode = 1 → (s.gst die g).lag = 0 →
  (s.gst die g).wait = [] → (s.groupHalf die g).isSome = true → n = c.lineCount die g (s.groupSlot die g) → a = s.reenable die g →
  start = gridQuot ((s.gst die g).slotVf.at_ * n + (s.gst die g).line * s.groupSlot die g) n → scan = (s.gst die g).line % max 1 (c.grp die g Ob.rg_scan_lines) →
  ((s.gst die g).line < n → s.reachedOn die start = true → ∃ (t : State), exec (.lineStart die g) s = .next t ∧
    t.sent = (a.lineOut die g scan (!(bit (a.grp die g Ob.rg_row_fault) scan) && !(a.outOff die g 9)) false (s.gst die g).slotVf.at_ start 0).sent ∧ (t.gst die g).line = (s.gst die g).line + 1 ∧
    (a.outOff die g 2 = false →
      Output.gclk die g (gclkFirst (s.gst die g).slotVf.at_ start ((a.slotCfg die g).grp die g Ob.rg_gclk_div)).toNat ((a.slotCfg die g).prof die g 4 2) ((a.slotCfg die g).grp die g Ob.rg_gclk_div) ∈ t.sent) ∧
    (t.gst die g).lineAt = start ∧ (t.gst die g).rbLine = some scan ∧ t = { a with tile := t.tile, sent := t.sent }) ∧
  ((s.gst die g).line < n → s.reachedOn die start = false → exec (.lineStart die g) s = .next s) ∧
  (n ≤ (s.gst die g).line → exec (.lineStart die g) s = .next s)

/-- SOURCE_FRAME_COMPLETE (R224): a whole ST 2110 frame is the newest, counted in src_frames with its RTP time in src_last_time; with none whole nothing happens. -/
def frameCompletes : Prop := ∀ (s : State) (src : Nat), Up s → src < 32 →
  (∀ w, (s.source src).work.find? (s.wholeFrame src) = some w → ∃ t : State, exec (.sourceFrameComplete src) s = .next t ∧
    (t.source src).newest = some { id := (s.source src).nextId, time := w.time, data := w.data } ∧ (t.source src).used = false ∧ (t.source src).stale = false ∧
    (t.source src).work = (s.source src).work.map (fun a => if a.time = w.time then a.end_ else a) ∧ Counts s t 0 (atIndex Ob.src_frames src) 1 ∧ t.pw (atIndex Ob.src_last_time src) = s.rtpTime src w.time ∧
    ObjsBut s t (fun k => k = atIndex Ob.src_frames src ∨ k = atIndex Ob.src_skips src ∨ k = atIndex Ob.src_last_time src) ∧ t.sent = s.sent) ∧
  ((s.source src).work.find? (s.wholeFrame src) = none → exec (.sourceFrameComplete src) s = .next s)

/-- ST_2110_PACKET_RECEIVE (R225, R226) of a packet of a copy of the source: one of features not listed is counted and dropped; the first of a stream opens a frame and its samples are written; a second copy
of a packet, in time, is noted and writes nothing. One of another flow does nothing. -/
def packetTaken : Prop := ∀ (s : State) (src : Nat) (p : Pkt), Up s → src < s.sourceCount → s.at_ Ob.src_type src = 1 →
  (s.copyOf src p = none → exec (.st2110PacketReceive src p) s = .next s) ∧
  (∀ copy, s.copyOf src p = some copy → s.pktListed src copy p = false → exec (.st2110PacketReceive src p) s = .next (s.bump 0 (atIndex Ob.src_bad_packets src))) ∧
  (∀ copy, s.copyOf src p = some copy → s.pktListed src copy p = true → (s.source src).seen = [] → (s.source src).work = [] → (s.source src).top = none → (∀ e, e ∈ p.samples → e.1 < s.samplesOf src) →
    ∃ (t : State) (w : PktWork), exec (.st2110PacketReceive src p) s = .next t ∧ (t.source src).work = [w] ∧ w.time = p.time ∧ w.firstAt = s.now ∧ w.bad = false ∧ w.over_ = false ∧
      w.markerAt = (if p.marker then some s.now else none) ∧ w.data = p.samples.foldl (fun (m : SMap Nat) e => smPut 0 m e.1 (e.2 + 1)) [] ∧
      (t.source src).seen = [({ seq := p.seq, since := s.now } : SeenPkt).take copy s.now] ∧ (t.source src).top = some p.seq ∧ t = { s with comp := { s.comp with sources := t.comp.sources } }) ∧
  (∀ copy e, s.copyOf src p = some copy → s.pktListed src copy p = true → (s.source src).seen = [e] → e.seq = p.seq → (e.came (1 - copy)).isSome = true → s.tooLate src p.seq copy = false →
    s.past e.since 1000000000 = false →
    ∃ t : State, exec (.st2110PacketReceive src p) s = .next t ∧ (t.source src).work = (s.source src).work ∧ (t.source src).seen = [e.take copy s.now] ∧
      t = { s with comp := { s.comp with sources := t.comp.sources } })

/-- MERGE_SKEW (R226): a copy of a packet that comes more than src_skew_us after the other, or after a later packet on the other path, is lost on its path: the path's half of src_path_loss counts it and
SKEW_EXCEEDED is set; one in time changes nothing. -/
def skewExceeded : Prop := ∀ (s : State) (src copy : Nat) (p : Pkt) (e : SeenPkt), Up s → src < 32 → s.copyOf src p = some copy → (s.source src).seen.find? (fun e => decide (e.seq = p.seq)) = some e →
  (s.tooLate src p.seq copy = true → e.came copy = none → e.lost copy = false →
    ∃ t : State, exec (.mergeSkew src p) s = .next t ∧
      (copy = 0 → s.pw (atIndex Ob.src_path_loss src) % 4294967296 < 4294967295 → t.pw (atIndex Ob.src_path_loss src) = s.pw (atIndex Ob.src_path_loss src) + 1) ∧
      (copy ≠ 0 → s.pw (atIndex Ob.src_path_loss src) / 4294967296 < 4294967295 → t.pw (atIndex Ob.src_path_loss src) = s.pw (atIndex Ob.src_path_loss src) + 4294967296) ∧
      (∀ d, d ∈ s.sourceDies src → t.on d Ob.compose_flags 3 = true) ∧ (t.source src).work = (s.source src).work ∧ t.sent = s.sent) ∧
  (s.tooLate src p.seq copy = false → exec (.mergeSkew src p) s = .next s)

/-- SOURCE_DAMAGED (R227): frames that can no longer become whole are over, counted once in src_damaged and flagged; with none nothing happens. -/
def frameDamaged : Prop := ∀ (s : State) (src : Nat), Up s → src < 32 →
  ((s.source src).work.filter (s.damaged src) ≠ [] → ∃ t : State, exec (.sourceDamaged src) s = .next t ∧
    (t.source src).work = (s.source src).work.map (fun w => if s.damaged src w then w.end_ else w) ∧
    Counts s t 0 (atIndex Ob.src_damaged src) ((s.source src).work.filter (s.damaged src)).length ∧ (∀ d, d ∈ s.sourceDies src → t.on d Ob.compose_flags 1 = true) ∧
    (t.source src).newest = (s.source src).newest ∧ t.sent = s.sent) ∧
  ((s.source src).work.filter (s.damaged src) = [] → exec (.sourceDamaged src) s = .next s)

/-- SOURCE_STALE (R227): a source with no frame complete for 4 periods is stale and flagged on the dies that show it; one with a frame within them is not. -/
def sourceStales : Prop := ∀ (s : State) (src : Nat), Up s → src < s.sourceCount → s.at_ Ob.src_type src ≠ 0 →
  (s.past (s.source src).lastAt (4000000000000 / max 1 (s.at_ Ob.src_rate_mhz src)) = true → ∃ t : State, exec (.sourceStale src) s = .next t ∧ (t.source src).stale = true ∧
    (t.source src).newest = (s.source src).newest ∧ (∀ d, d ∈ s.sourceDies src → t.on d Ob.compose_flags 0 = true) ∧ t.mem = s.mem ∧ t.staged = s.staged) ∧
  (s.past (s.source src).lastAt (4000000000000 / max 1 (s.at_ Ob.src_rate_mhz src)) = false → exec (.sourceStale src) s = .next s)

/-- COMPOSE_APPLY (R223): with no vote against it of a die that answers, each running its firmware, the staged composition values are scheduled for the first frame whose view-0 send start is 1 ms away or more; with one it is refused with status
0x06 and nothing is scheduled; in PREPARING, READY or ARMED it is BUSY (what the spec leaves open here is the model's choice, log entry 85). -/
def applyScheduled : Prop := ∀ (s a : State) (m : Msg) (d : ObjDef), WritesOne s m d 0 → m.key = Ob.compose_apply → d.acc = .wo → a = s.arrived m → a.clampVal 0 m.key d (decodeVal d.ty m.payload) = 1 →
  (∀ v, a.commit ≤ 1 → (∀ n, n ∈ a.aliveList → a.fwOn n = true ∧ a.applyVote n = []) →
    (a.vfsAround (((a.layNow : Int) + 1000000 * layNs) + a.lead) 1 3).find? (fun v => decide (v.view = 0) && decide ((a.layNow : Int) + 1000000 * layNs ≤ a.sendStartOf v)) = some v →
    ∃ x : State, exec (.composeApply m) s = .next (x.answer 0x02 m 0 d.ty.code []) ∧
      x.corrix.capply = some (v.at_, a.staged.filter fun e => decide (0x4000 ≤ e.1 / 256 % 65536) && decide (e.1 / 256 % 65536 ≤ 0x4FFF)) ∧ x.staged = a.staged ∧ x.pw Ob.commit_refuse_mask = 0) ∧
  (a.commit ≤ 1 → (∃ n, n ∈ a.aliveList ∧ (a.fwOn n = false ∨ a.applyVote n ≠ [])) →
    ∃ x : State, exec (.composeApply m) s = .next (x.answer 0x02 m 6 d.ty.code []) ∧ x.corrix = a.corrix ∧ x.staged = a.staged) ∧
  (2 ≤ a.commit → a.commit ≤ 4 → exec (.composeApply m) s = .next (a.answer 0x02 m 3 d.ty.code []))

/-! Chapter 8: cameras and captures -/

/-- A packet's header with nothing to say against it comes by a CSI-2 port that is there: `n` is its stream. -/
structure OnPort (s : State) (port n : Nat) (h : CsiHead) : Prop where
  up : UpDie s port
  there : port < s.camPorts
  ecc : h.ecc = 0
  plain : h.extVc = false
  n_ : n = 4 * port + h.vc % 4

/-- FRAME_START (R243, R244, R261) on an enabled stream with no frame in progress and a raw buffer free: cam_last_fs is its Lay time on the grid and the frame begins, its values fixed; in the window of
an armed slot that slot captures it, with its Frame Start in cap_fs_at. `a`: after the Frame Start has crossed (R388). -/
def frameStarts : Prop := ∀ (s a : State) (port n fs : Nat) (h : CsiHead), OnPort s port n h → s.streamOn n = true → (s.stream n).cur = none → (s.camInline n = true ∨ s.rawUsed n < 2) →
  fs = toGrid (s.layOf port) → a = s.crossEvents port .frameStart 1 →
  ((s.at_ Ob.cam_output n = 0 ∨ s.slotFor n fs = none) → ∃ (t : State) (w : CamWork), exec (.frameStart port h) s = .next t ∧ (t.stream n).cur = some w ∧ w.startAt = s.now ∧ w.fsAt = fs ∧
    w.inline = s.camInline n ∧ w.lines = 0 ∧ w.raw = [] ∧ w.slot = none ∧ w.objs = t.objs ∧ t.int 0 (atIndex Ob.cam_last_fs n) = fs ∧ ObjsBut a t (fun k => k = atIndex Ob.cam_last_fs n) ∧
    (t.stream n).sinceFs = s.now ∧ t = { a with objs := t.objs, cam := t.cam }) ∧
  (∀ k, k < 64 → s.at_ Ob.cam_output n ≠ 0 → s.slotFor n fs = some k → ∃ (t : State) (w : CamWork), exec (.frameStart port h) s = .next t ∧ (t.stream n).cur = some w ∧ w.slot = some k ∧ w.fsAt = fs ∧
    t.at_ Ob.cap_state k = 3 ∧ t.int 0 (atIndex Ob.cap_fs_at k) = fs ∧ t = { a with objs := t.objs, cam := t.cam })

/-- FRAME_START with both raw buffers of a memory-path stream in use (R243, R256): the frame is skipped and counted; one that finds the last frame unended drops that, code 6; of a stream not
enabled only the Lay time stays (R244). -/
def frameSkipped : Prop := ∀ (s : State) (port n : Nat) (h : CsiHead), OnPort s port n h →
  (s.streamOn n = true → (s.stream n).cur = none → s.camInline n = false → 2 ≤ s.rawUsed n → s.at_ Ob.cam_output n = 0 →
    ∃ t : State, exec (.frameStart port h) s = .next t ∧ (t.stream n).cur = none ∧ Counts s t 0 (atIndex Ob.cam_skips n) 1 ∧ t.on port Ob.cam_flags 3 = true ∧ t.sent = s.sent) ∧
  (∀ k, s.streamOn n = true → (s.stream n).cur = some k → k.slot = none → s.camInline n = true → s.at_ Ob.cam_output n = 0 →
    ∃ (t : State) (w : CamWork), exec (.frameStart port h) s = .next t ∧ (t.stream n).cur = some w ∧ w.lines = 0 ∧ Counts s t 0 (atIndex Ob.cam_drops n) 1 ∧
      t.pw (atIndex Ob.cam_drop_reason n) = 6) ∧
  (s.streamOn n = false → exec (.frameStart port h) s = .next ((s.crossEvents port .frameStart 1).set (atIndex Ob.cam_last_fs n) (toGrid (s.layOf port))))

/-- A header of FRAME_START, FRAME_END or LONG_PACKET that ECC cannot correct drops the frame in progress with code 1; one with extended virtual channel bits is counted and discarded; one that ECC corrects
is counted (R240, R256). A long packet's bytes cross into the core clock either way (R388). -/
def headersJudged : Prop := ∀ (s : State) (port n : Nat) (h : CsiHead) (p : CsiPkt), UpDie s port → port < s.camPorts → n = 4 * port + h.vc % 4 → p.ecc = h.ecc → p.extVc = h.extVc →
  (∀ k, h.ecc = 2 → (s.stream n).cur = some k → k.slot = none → ∃ t : State, exec (.frameStart port h) s = .next t ∧ exec (.frameEnd port h) s = .next t ∧
    exec (.longPacket port h.vc p) s = exec (.frameEnd port h) (s.crossWords port .pixels p.wc) ∧
    (t.stream n).cur = none ∧ Counts s t 0 (atIndex Ob.cam_drops n) 1 ∧ t.pw (atIndex Ob.cam_drop_reason n) = 1 ∧ t.on port Ob.cam_flags 0 = true) ∧
  (h.ecc = 0 → h.extVc = true → exec (.frameStart port h) s = .next (s.bump 0 (Ob.cam_bad_packets + port)) ∧ exec (.frameEnd port h) s = .next (s.bump 0 (Ob.cam_bad_packets + port)) ∧
    exec (.longPacket port h.vc p) s = .next ((s.crossWords port .pixels p.wc).bump 0 (Ob.cam_bad_packets + port))) ∧
  (h.ecc = 1 → h.extVc = false → exec (.frameStart port h) s = exec (.frameStart port { h with ecc := 0 }) (s.bump 0 (Ob.cam_ecc_corrected + port)) ∧
    exec (.frameEnd port h) s = exec (.frameEnd port { h with ecc := 0 }) (s.bump 0 (Ob.cam_ecc_corrected + port)))

/-- LONG_PACKET (R240, R241, R243, R256) in a frame: a good line of the configured type joins it, by the receive buffer where the stream is in-line; one of another type is counted and left; a bad checksum drops the frame, code 2; a line the receive buffer has no room for drops it, code 7. `a`: after the packet's bytes have crossed (R388). -/
def lineTaken : Prop := ∀ (s a f : State) (port vc n : Nat) (p : CsiPkt) (k : CamWork), UpDie s port → port < s.camPorts → n = 4 * port + vc % 4 → (s.stream n).cur = some k → f = { s with objs := k.objs } →
  a = s.crossWords port .pixels p.wc →
  p.extVc = false → p.ecc = 0 →
  (4 ≤ p.dt → p.dt ≠ 0x12 → p.dt ≠ f.at_ Ob.cam_dt n → exec (.longPacket port vc p) s = .next (a.bump 0 (Ob.cam_bad_packets + port))) ∧
  ((p.dt < 4 ∨ p.dt = 0x12 ∧ p.crcOk = true) → exec (.longPacket port vc p) s = .next a) ∧
  (p.dt = f.at_ Ob.cam_dt n → 0x2B ≤ p.dt → p.dt ≤ 0x2D → p.crcOk = true → k.slot = none → p.wc = f.camW n * f.camBits n / 8 → k.lines < f.camH n →
    ((k.inline = false ∨ p.overflow = false ∧ f.rxWaiting port n + p.wc ≤ 65536) →
      ∃ t : State, exec (.longPacket port vc p) s = .next t ∧ (t.stream n).cur = some (takeLine k (f.camW n) (2 ^ (14 - f.camBits n)) p.samples) ∧
        smGet 0 t.cam.lines port = smGet 0 s.cam.lines port + (if k.inline then 4 * f.camW n else 0) ∧ t = { a with cam := t.cam }) ∧
    (k.inline = true → (p.overflow = true ∨ 65536 < f.rxWaiting port n + p.wc) →
      ∃ t : State, exec (.longPacket port vc p) s = .next t ∧ (t.stream n).cur = none ∧ Counts s t 0 (atIndex Ob.cam_drops n) 1 ∧ t.pw (atIndex Ob.cam_drop_reason n) = 7)) ∧
  ((p.dt = f.at_ Ob.cam_dt n ∧ 0x2B ≤ p.dt ∧ p.dt ≤ 0x2D ∨ p.dt = 0x12) → p.crcOk = false → k.slot = none →
    ∃ t : State, exec (.longPacket port vc p) s = .next t ∧ (t.stream n).cur = none ∧ Counts s t 0 (atIndex Ob.cam_drops n) 1 ∧ t.pw (atIndex Ob.cam_drop_reason n) = 2 ∧
      t.on port Ob.cam_flags 0 = true ∧ t.sent = s.sent)

/-- FRAME_END (R243, R256): a frame with every line leaves: in-line it is processed and counted, by memory it joins its die's queue; one short of lines is dropped, code 5; with no frame in progress only the Frame End crosses into the core clock (`a`, R388). -/
def frameEnds : Prop := ∀ (s a : State) (port n : Nat) (h : CsiHead), OnPort s port n h → a = s.crossEvents port .frameEnd 1 →
  (∀ k, (s.stream n).cur = some k → k.slot = none → k.lines < ({ s with objs := k.objs } : State).camH n →
    ∃ t : State, exec (.frameEnd port h) s = .next t ∧ (t.stream n).cur = none ∧ Counts s t 0 (atIndex Ob.cam_drops n) 1 ∧ t.pw (atIndex Ob.cam_drop_reason n) = 5) ∧
  (∀ k, (s.stream n).cur = some k → k.inline = false → ({ s with objs := k.objs } : State).camH n ≤ k.lines →
    ∃ t : State, exec (.frameEnd port h) s = .next t ∧ (t.stream n).cur = none ∧ smGet [] t.cam.queue port = smGet [] s.cam.queue port ++ [(n, k)] ∧ t = { a with cam := t.cam }) ∧
  (∀ k, (s.stream n).cur = some k → k.inline = true → k.slot = none → ({ s with objs := k.objs } : State).camH n ≤ k.lines →
    ∃ t : State, exec (.frameEnd port h) s = .next t ∧ (t.stream n).cur = none ∧ (t.stream n).ref.isSome = true ∧ Counts s t 0 (atIndex Ob.cam_frames n) 1) ∧
  ((s.stream n).cur = none → exec (.frameEnd port h) s = .next a)

/-- FRAME_TIMEOUT (R256): a frame with no Frame End within cam_frame_timeout_ms is dropped with code 8; a younger one goes on. -/
def frameTimesOut : Prop := ∀ (s : State) (n : Nat) (k : CamWork), UpDie s (n / 4) → n < 16 → (s.stream n).cur = some k → k.slot = none →
  (s.past k.startAt (s.at_ Ob.cam_frame_timeout_ms n * 1000000) = true → ∃ t : State, exec (.frameTimeout n) s = .next t ∧ (t.stream n).cur = none ∧ Counts s t 0 (atIndex Ob.cam_drops n) 1 ∧
    t.pw (atIndex Ob.cam_drop_reason n) = 8 ∧ t.on (n / 4) Ob.cam_flags 0 = true) ∧
  (s.past k.startAt (s.at_ Ob.cam_frame_timeout_ms n * 1000000) = false → exec (.frameTimeout n) s = .next s)

/-- MEMORY_FRAME_PROCESSED (R243): the die's oldest memory-path frame, all its pixels processed, leaves the pipeline: its raw buffer is free, it is counted and is the reference; with pixels left, or none
queued, nothing happens. -/
def memoryFrameDone : Prop := ∀ (s : State) (die : Nat), UpDie s die →
  (∀ n k rest, smGet [] s.cam.queue die = (n, k) :: rest → n < 16 → k.slot = none →
    ((s.frameWork n k).1 ≤ smGet 0 s.cam.px die → ∃ t : State, exec (.memoryFrameProcessed die) s = .next t ∧ smGet [] t.cam.queue die = rest ∧ smGet 0 t.cam.px die = 0 ∧
      Counts s t 0 (atIndex Ob.cam_frames n) 1 ∧ (t.stream n).ref.isSome = true ∧ t.sent = s.sent) ∧
    (smGet 0 s.cam.px die < (s.frameWork n k).1 → exec (.memoryFrameProcessed die) s = .next s)) ∧
  (smGet [] s.cam.queue die = [] → exec (.memoryFrameProcessed die) s = .next s)

/-- LINK_LOST (R257): an enabled stream with no Frame Start for 4 periods sets LINK_LOST and counts anew. -/
def linkIsLost : Prop := ∀ (s : State) (n : Nat), UpDie s (n / 4) → s.streamOn n = true →
  (s.past (s.stream n).sinceFs (4000000000000 / max 1 (s.at_ Ob.cam_rate_mhz n)) = true → ∃ t : State, exec (.linkLost n) s = .next t ∧ (t.stream n).sinceFs = s.now ∧
    t.on (n / 4) Ob.cam_flags 1 = true ∧ (t.stream n).cur = (s.stream n).cur) ∧
  (s.past (s.stream n).sinceFs (4000000000000 / max 1 (s.at_ Ob.cam_rate_mhz n)) = false → exec (.linkLost n) s = .next s)

/-- The settings that arming fixes for a slot (Table 8.6). -/
def armedVals (a : State) (k : Nat) : List Int :=
  [Ob.cap_stream, Ob.cap_frame, Ob.cap_view, Ob.cap_offset_ns, Ob.cap_evt, Ob.cap_width_ns, Ob.cap_window_us].map fun o => a.int 0 (atIndex o k)

/-- A slot freed with its settings fixed, as arming finds it. -/
def fixedSlot (a : State) (k : Nat) : State := { a.freeSlot k with cam := { (a.freeSlot k).cam with armed := smPut [] (a.freeSlot k).cam.armed k (armedVals a k) } }

/-- CAP_ARM (R259) of a slot that is FREE, DONE or FAILED: with its stream enabled, its trigger known and 1 ms away or more, and room in the pool it is ARMED, with its trigger time and SIZE; a trigger
that no schedule gives fails it with reason 6. An ARMED, TRIGGERED or CAPTURING slot is left as it is. -/
def slotArmed : Prop := ∀ (s a b : State) (m : Msg) (d : ObjDef) (k n : Nat), WritesOne s m d 0 → k < 64 → m.key = atIndex Ob.cap_arm k → d.acc = .wo → a = s.arrived m →
  a.clampVal 0 m.key d (decodeVal d.ty m.payload) = 1 → b = fixedSlot a k → n = b.slotStream k →
  (∀ t, (a.at_ Ob.cap_state k = 0 ∨ a.at_ Ob.cap_state k = 4 ∨ a.at_ Ob.cap_state k = 5) → b.streamOn n = true → b.at_ Ob.cam_output n ≠ 0 → b.trigger (armedVals a k) = some t →
    (b.layNow : Int) + 1000000 * layNs ≤ t → b.poolUsed (n / 4) + b.camW n * b.camH n * 2 ≤ b.nat (n / 4) Ob.cam_capture_pool_mb * 1048576 →
    ∃ x : State, exec (.capArm m) s = .next (x.answer 0x02 m 0 d.ty.code []) ∧ x.at_ Ob.cap_state k = 1 ∧ x.at_ Ob.cap_reason k = 0 ∧ x.int 0 (atIndex Ob.cap_trigger_at k) = t ∧
      smGet 0 x.cam.size k = b.camW n * b.camH n * 2 ∧ smGet [] x.cam.armed k = armedVals a k ∧ x.sent = a.sent) ∧
  ((a.at_ Ob.cap_state k = 0 ∨ a.at_ Ob.cap_state k = 4 ∨ a.at_ Ob.cap_state k = 5) → b.streamOn n = true → b.at_ Ob.cam_output n ≠ 0 → b.trigger (armedVals a k) = none →
    ∃ x : State, exec (.capArm m) s = .next (x.answer 0x02 m 0 d.ty.code []) ∧ x.at_ Ob.cap_state k = 5 ∧ x.at_ Ob.cap_reason k = 6 ∧ smGet 0 x.cam.size k = 0) ∧
  ((a.at_ Ob.cap_state k = 1 ∨ a.at_ Ob.cap_state k = 2 ∨ a.at_ Ob.cap_state k = 3) → exec (.capArm m) s = .next (a.answer 0x02 m 0 d.ty.code []))

/-- CAP_RELEASE (R265): the data are freed and the slot is FREE; an ARMED, TRIGGERED or CAPTURING slot is cancelled: FAILED with reason 7 (what the spec leaves open here is the model's choice, log entry 48). -/
def slotReleased : Prop := ∀ (s a : State) (m : Msg) (d : ObjDef) (k : Nat), WritesOne s m d 0 → k < 64 → m.key = atIndex Ob.cap_release k → d.acc = .wo → a = s.arrived m →
  a.clampVal 0 m.key d (decodeVal d.ty m.payload) = 1 →
  ((a.at_ Ob.cap_state k = 0 ∨ a.at_ Ob.cap_state k = 4 ∨ a.at_ Ob.cap_state k = 5) →
    ∃ x : State, exec (.capRelease m) s = .next (x.answer 0x02 m 0 d.ty.code []) ∧ x.at_ Ob.cap_state k = 0 ∧ x.at_ Ob.cap_reason k = 0 ∧ smGet 0 x.cam.size k = 0 ∧ smGet [] x.cam.data k = [] ∧
      x = { a with objs := x.objs, cam := x.cam }) ∧
  ((a.at_ Ob.cap_state k = 1 ∨ a.at_ Ob.cap_state k = 2 ∨ a.at_ Ob.cap_state k = 3) →
    ∃ x : State, exec (.capRelease m) s = .next (x.answer 0x02 m 0 d.ty.code []) ∧ x.at_ Ob.cap_state k = 5 ∧ x.at_ Ob.cap_reason k = 7 ∧ smGet 0 x.cam.size k = 0 ∧
      x = { a with objs := x.objs, cam := x.cam, lay := x.lay })

/-- CAP_TRIGGER (R260): at its trigger time an ARMED slot is TRIGGERED; before it nothing happens. -/
def slotTriggers : Prop := ∀ (s : State) (k : Nat), Up s → k < 64 → s.at_ Ob.cap_state k = 1 →
  (s.reached (s.int 0 (atIndex Ob.cap_trigger_at k)) = true → ∃ t : State, exec (.capTrigger k) s = .next t ∧ t.at_ Ob.cap_state k = 2 ∧ ObjsBut s t (fun x => x = atIndex Ob.cap_state k) ∧
    t = { s with objs := t.objs }) ∧
  (s.reached (s.int 0 (atIndex Ob.cap_trigger_at k)) = false → exec (.capTrigger k) s = .next s)

/-- CAP_WINDOW_TIMEOUT (R261): a slot whose window closed with no Frame Start fails with reason 4 and its reservation is free; before that nothing happens. -/
def windowCloses : Prop := ∀ (s : State) (k : Nat), Up s → k < 64 → (s.at_ Ob.cap_state k = 1 ∨ s.at_ Ob.cap_state k = 2) →
  (s.reached (s.windowEnd k) = true → ∃ t : State, exec (.capWindowTimeout k) s = .next t ∧ t.at_ Ob.cap_state k = 5 ∧ t.at_ Ob.cap_reason k = 4 ∧ smGet 0 t.cam.size k = 0 ∧
    (s.slotStream k / 4 < s.camPorts → t.on (s.slotStream k / 4) Ob.cam_flags 2 = true)) ∧
  (s.reached (s.windowEnd k) = false → exec (.capWindowTimeout k) s = .next s)

/-! Chapters 9 to 11: patches, the raster, readback, lamp faults -/

/-- CORR_PATCH (R290): while a schedule is in force a patch of 52 bytes joins the die's queue, of 64 at most, and is answered OK; while none is, its 48 bytes are the record's at once (R397); with the queue full it is BUSY. -/
def patchQueued : Prop := ∀ (s a : State) (m : Msg) (d : ObjDef), Served s 0x02 m → a = s.arrived m → a.found m = some d → badWrite m = false → m.key = Ob.corr_patch → d.acc = .wo → d.ty = .blob →
  d.perDie = true → m.die ≠ 15 → a.answers m.die = true → a.absent m.die m.key = false → (a.xfer (fullKey m.die m.key)).holder = none → m.payload.length = 52 → leAt m.payload 0 4 < 294912 →
  ((a.tdie m.die).patches.length < 64 → a.scheduled = true → ∃ x : State, exec (.corrPatch m) s = .next (x.answer 0x02 m 0 d.ty.code []) ∧
    (x.tdie m.die).patches = (a.tdie m.die).patches ++ [((a.layOf m.die : Int), m.payload)] ∧ x.nat m.die Ob.corr_patches_pending = (a.tdie m.die).patches.length + 1 ∧
    ObjsBut a x (fun k => k = fullKey m.die Ob.corr_patches_pending) ∧ x = { a with objs := x.objs, tile := x.tile, corrix := x.corrix }) ∧
  ((a.tdie m.die).patches.length < 64 → a.scheduled = false → ∃ x : State, exec (.corrPatch m) s = .next (x.answer 0x02 m 0 d.ty.code []) ∧
    x.blobBytes m.die Ob.corr_set_records (48 * leAt m.payload 0 4) 48 = (m.payload.drop 4).take 48 ∧ x.tile = a.tile ∧ x.sent = a.sent) ∧
  (64 ≤ (a.tdie m.die).patches.length → exec (.corrPatch m) s = .next (a.answer 0x02 m 3 d.ty.code []))

/-- PATCH_APPLY (R290): at a frame boundary the patches queued before it leave the queue and their 48 bytes are the record's; with none due nothing happens. -/
def patchesApply : Prop := ∀ (s : State) (die : Nat) (b : Int), UpDie s die → s.lastBoundary die = some b →
  (∀ at_ bs, (s.tdie die).patches.filter (fun p => decide (p.1 ≤ b)) = [(at_, bs)] → bs.length = 52 → ∃ t : State, exec (.patchApply die) s = .next t ∧
    (t.tdie die).patches = (s.tdie die).patches.filter (fun p => !decide (p.1 ≤ b)) ∧ t.blobBytes die Ob.corr_set_records (48 * leAt bs 0 4) 48 = (bs.drop 4).take 48 ∧
    ObjsBut s t (fun k => k = fullKey die Ob.corr_set_records ∨ k = fullKey die Ob.corr_patches_pending) ∧ t.sent = s.sent) ∧
  ((s.tdie die).patches.filter (fun p => decide (p.1 ≤ b)) = [] → exec (.patchApply die) s = .next s)

/-- SHIFT_LINE_BEGIN (R305, R312, R316) of a line whose lamps are written, on drivers with a frame memory or in step with the lines shown: the line's grey words go out and the shift is under way from the end of
the configuration and of a readback's words on; the objects in force are those that the view-frame fixed; with no view-frame to shift nothing happens. `a` is the part after the line has crossed into the chain clock (R388). -/
def shiftBegins : Prop := ∀ (s a : State) (die g : Nat), UpDie s die → die < s.dies → s.groupRuns die g = true → (s.gst die g).busy = false → s.groupStopped die g = false →
  a = s.crossEvents die (.lampWritten g) 1 →
  (∀ h t held u c, s.shiftTarget die g = some (h, t, held) → (s.gst die g).sr = false → c = ({ s with objs := h.objs } : State) → c.groupUsed die g = true →
    u = (if (s.gst die g).shiftAt ≠ some t ∨ (s.gst die g).again ≠ held then 0 else (s.gst die g).unit) →
    u < (if c.frameMem die g then c.grp die g Ob.rg_scan_lines else c.lineCount die g (s.slotOf { at_ := t, frame := h.frame, view := h.view, dark := false })) →
    (c.frameMem die g = true ∨ u = 0 ∨ u ≤ (s.gst die g).line ∧ ((s.gst die g).at_ = t ∧ (s.gst die g).mode ≠ 4 ∨ held = true)) →
    s.lineWritten h die g (u % max 1 (c.grp die g Ob.rg_scan_lines)) = true →
    ∃ x : State, exec (.shiftLineBegin die g none) s = .next x ∧ (x.gst die g).busy = true ∧ (x.gst die g).shiftAt = some t ∧ (x.gst die g).unit = u ∧ (x.gst die g).again = held ∧
      (x.gst die g).from_ = max (s.layOf die : Int) (s.gst die g).freeAt + ((s.configWrite c die g).2 * layNs : Nat) ∧
      x.sent.head? = some (Output.shift die g (u % max 1 (c.grp die g Ob.rg_scan_lines)) (c.latWidth die g 0)
        (c.lineWords h die g (u % max 1 (c.grp die g Ob.rg_scan_lines)) none fun k => s.outOff die g (10 + k))) ∧
      x = { a with tile := x.tile, sent := x.sent }) ∧
  (s.shiftTarget die g = none → exec (.shiftLineBegin die g none) s = .next s)

/-- SHIFT_COMPLETE (R312), at the end of the unit's time: the unit is done; on drivers with a frame memory the view-frame is ready, after its last line, from the end of the latch command on; on others each
line has its own end. Before that time nothing happens. `a` is the part after the end of the line has crossed into the core clock (R388), `c` holds the values in force for the view-frame. -/
def shiftCompletes : Prop := ∀ (s a c : State) (die g : Nat) (at_ done : Int), UpDie s die → (s.gst die g).shiftAt = some at_ → c = s.cfgFor die at_ →
  done = (s.gst die g).from_ + (c.unitNs die g * layNs : Nat) → a = s.crossEvents die (.lineReady g) 1 →
  ((s.gst die g).busy = true → s.reachedOn die done = true → ∃ t : State, exec (.shiftComplete die g) s = .next t ∧ (t.gst die g).busy = false ∧ (t.gst die g).unit = (s.gst die g).unit + 1 ∧
    (c.frameMem die g = true → (t.gst die g).units = [] ∧
      ((s.gst die g).unit + 1 = c.grp die g Ob.rg_scan_lines → (t.gst die g).ready = some (at_, done + (c.cmdNs die g 2 * layNs : Nat)))) ∧
    (c.frameMem die g = false → (t.gst die g).ready = (s.gst die g).ready ∧ (t.gst die g).units = (s.gst die g).units ++ [((s.gst die g).unit, done + (c.cmdNs die g 1 * layNs : Nat))]) ∧
    ((s.gst die g).unit + 1 ≠ c.grp die g Ob.rg_scan_lines → (t.gst die g).ready = (s.gst die g).ready ∧ t = { a with tile := t.tile })) ∧
  (((s.gst die g).busy = false ∨ s.reachedOn die done = false) → exec (.shiftComplete die g) s = .next s)

/-- ROW_SHORT (R318), rg_sense_ns or more into a line whose ROW_EN is active: the scan line's bit is set in rg_row_fault, ROW_EN goes inactive and SENSE is flagged; with rg_sense_ns 0, or before it, nothing is
sensed. -/
def rowShorts : Prop := ∀ (s : State) (die g scan sense : Nat), UpDie s die → die < s.dies → s.groupRuns die g = true → (s.gst die g).rbLine = some scan → sense = s.grp die g Ob.rg_sense_ns →
  (sense ≠ 0 → (s.gst die g).rowEn = true → s.reachedOn die ((s.gst die g).lineAt + (sense * layNs : Nat)) = true → ∃ t : State, exec (.rowShort die g) s = .next t ∧
    t.grp die g Ob.rg_row_fault = s.grp die g Ob.rg_row_fault ||| 2 ^ scan ∧ Output.rowOff die g scan (s.restLevel die g 9) ∈ t.sent ∧ (t.gst die g).rowEn = false ∧ t.on die Ob.raster_flags 1 = true) ∧
  ((sense = 0 ∨ (s.gst die g).rowEn = false ∨ s.reachedOn die ((s.gst die g).lineAt + (sense * layNs : Nat)) = false) → exec (.rowShort die g) s = .next s)

/-- RG_ROW_FAULT_CLEAR (R318): the bits written 1 are clear, the others stand. -/
def rowFaultClears : Prop := ∀ (s a : State) (m : Msg) (d : ObjDef) (die g v : Nat), WritesOne s m d die → g < 4 → m.key = atIndex Ob.rg_row_fault g → d.acc = .w1c → a = s.arrived m →
  v = (a.clampVal die m.key d (decodeVal d.ty m.payload)).toNat →
  ∃ x : State, exec (.rgRowFaultClear m) s = .next (x.answer 0x02 m 0 d.ty.code []) ∧ (∀ i, bit (x.grp die g Ob.rg_row_fault) i = (bit (a.grp die g Ob.rg_row_fault) i && !(bit v i))) ∧
    ObjsBut a x (fun k => k = fullKey die (atIndex Ob.rg_row_fault g)) ∧ x = { a with objs := x.objs }

/-- OUT_FAULT (R327): 16 samples of 32 that disagree disable the output, which is pulled to its resting level, with OUT_FAULT; a stopped group's state is 4; with fewer nothing happens. -/
def outFaults : Prop := ∀ (s : State) (die g n disagreeing : Nat), UpDie s die → die < s.dies → g < 4 → n < 16 → s.outOff die g n = false →
  (16 ≤ disagreeing → ∃ t : State, exec (.outFault die g n disagreeing) s = .next t ∧ t.outOff die g n = true ∧ t.grp die g Ob.rg_out_fault = s.grp die g Ob.rg_out_fault ||| 2 ^ n ∧
    Output.pulled die g n (s.restLevel die g n) ∈ t.sent ∧ t.on die Ob.raster_flags 2 = true ∧ ((n = 0 ∨ n = 1 ∨ n = 9) → t.grp die g Ob.rg_state = 4 ∧ (t.gst die g).busy = false)) ∧
  (disagreeing < 16 → exec (.outFault die g n disagreeing) s = .next s)

/-- RG_OUT_FAULT_CLEAR (R328): the bits written 1 are clear. A group in a slot enables their outputs at its next line start: they wait for it. One in no slot enables them now: it drives them, and writes its
configuration and shifts its lines afresh; a group that had stopped holds. -/
def outFaultClears : Prop := ∀ (s a : State) (m : Msg) (d : ObjDef) (die g v : Nat), WritesOne s m d die → g < 4 → m.key = atIndex Ob.rg_out_fault g → d.acc = .w1c → a = s.arrived m →
  v = (a.clampVal die m.key d (decodeVal d.ty m.payload)).toNat → v &&& a.grp die g Ob.rg_out_fault ≠ 0 →
  ∃ x : State, exec (.rgOutFaultClear m) s = .next (x.answer 0x02 m 0 d.ty.code []) ∧ (∀ i, bit (x.grp die g Ob.rg_out_fault) i = (bit (a.grp die g Ob.rg_out_fault) i && !(bit v i))) ∧
    ((a.gst die g).mode ≠ 0 → (x.gst die g).back = (a.gst die g).back ||| v &&& a.grp die g Ob.rg_out_fault ∧ x.sent = a.sent) ∧
    ((a.gst die g).mode = 0 → (x.gst die g).back = 0 ∧ (x.gst die g).cfg = none ∧ (x.gst die g).unit = 0 ∧ (x.gst die g).shiftAt = none ∧ (x.gst die g).busy = false ∧
      (∀ n, n < 16 → bit (v &&& a.grp die g Ob.rg_out_fault) n = true → Output.driven die g n ∈ x.sent) ∧
      (a.grp die g Ob.rg_state = 4 → x.groupStopped die g = false → x.grp die g Ob.rg_state = 2))

/-- READBACK (R320), in a view-frame started, or self-refresh, in the lit time of the scan line due with its ROW_EN active, rg_rb_settle_ns into it and between two groups of words of the shift in progress: RB_WORDS
commands go out, each with its LAT width, the view-frame that the group shows is kept for their records, and the next scan line is due; with none due nothing happens. `c` holds the values in force for the slot. -/
def readbackSent : Prop := ∀ (s c : State) (die g due : Nat), UpDie s die → die < s.dies → s.groupRuns die g = true → s.groupStopped die g = false → due = s.grp die g Ob.rg_rb_line → c = s.slotCfg die g →
  ((s.gst die g).rbDue = true → (s.gst die g).rbLine = some due → (s.gst die g).rowEn = true → (s.gst die g).line ≠ 0 → ((s.gst die g).mode = 1 ∨ (s.gst die g).sr = true) →
    s.reachedOn die (s.rbAt die g ((s.gst die g).lineAt + c.grp die g Ob.rg_rb_settle_ns * layNs)) = true →
    s.rbAt die g ((s.gst die g).lineAt + c.grp die g Ob.rg_rb_settle_ns * layNs) < (s.gst die g).lineAt + c.litNs die g * layNs →
    ∃ t : State, exec (.readback die g) s = .next t ∧
      t.sent = List.replicate (c.prof die g 12 1) (Output.readback die g due (c.latWidth die g 3) (if (s.gst die g).busy then 0 else c.groupD die g) (c.nat die (Ob.io_sdo_delay_ps + g))) ++ s.sent ∧
      (t.gst die g).rbDue = false ∧ (t.gst die g).rbHalf = s.groupHalf die g ∧
      t.grp die g Ob.rg_rb_line = (due + 1) % max 1 (c.grp die g Ob.rg_scan_lines) ∧ ObjsBut s t (fun k => k = fullKey die (atIndex Ob.rg_rb_line g)) ∧
      t = { s with objs := t.objs, tile := t.tile, sent := t.sent }) ∧
  ((s.gst die g).rbDue = false → exec (.readback die g) s = .next s)

/-- A record that a driver of a chain in use can give. -/
structure RecordOf (s : State) (die chain driver : Nat) : Prop where
  up     : UpDie s die
  die_   : die < s.dies
  chain_ : s.chainUsed die chain = true
  driver_ : driver < s.nat die (Ob.chain_drivers + chain)
  gives  : s.prof die (chain / 6) 12 1 ≠ 0

/-- READBACK_RECORD (R321, R322, R335): the record is the words of the driver's place on the chain, joined; one with a wrong mark is counted in rb_mark_bad and for its driver; a good one, its crossing into the core
clock open, in rb_records, and it clears the driver's count. -/
def recordChecked : Prop := ∀ (s : State) (die chain driver : Nat) (words : List (List Bool)) (bs : List Bool), RecordOf s die chain driver → driver < 64 → bs = s.recordBits die (chain / 6) driver words →
  (recordField bs (s.prof die (chain / 6) 20 1) 8 ≠ s.prof die (chain / 6) 21 1 →
    ∃ t : State, exec (.readbackRecord die chain driver words) s = .next t ∧ Counts s t die Ob.rb_mark_bad 1 ∧ smGet 0 (t.tdie die).marks (chain * 64 + driver) = smGet 0 (s.tdie die).marks (chain * 64 + driver) + 1 ∧
      t.on die Ob.raster_flags 4 = true ∧ (t.tdie die).lamps = (s.tdie die).lamps) ∧
  (recordField bs (s.prof die (chain / 6) 20 1) 8 = s.prof die (chain / 6) 21 1 → s.crossShut die (.readbackRecord (chain / 6)) = false →
    ∃ t : State, exec (.readbackRecord die chain driver words) s = .next t ∧ Counts s t die Ob.rb_records 1 ∧ smGet 0 (t.tdie die).marks (chain * 64 + driver) = 0)

/-- A reading (R336): fault_confirm readings in a row move a good lamp to open or short; a good reading starts the count again; a forced entry stays. -/
def readingMoves : Prop := ∀ (s : State) (die pos kind : Nat), (kind = 1 ∨ kind = 2) →
  ((s.lamp die pos).state = 0 → s.pw Ob.fault_confirm ≤ (if (s.lamp die pos).kind = kind then (s.lamp die pos).count + 1 else 1) →
    (s.reading die pos kind).lamp die pos = { state := kind } ∧ (s.isPlaced die pos = true → (s.reading die pos kind).on die Ob.fault_flags 0 = true)) ∧
  ((s.lamp die pos).state = 0 → (if (s.lamp die pos).kind = kind then (s.lamp die pos).count + 1 else 1) < s.pw Ob.fault_confirm →
    (s.reading die pos kind).lamp die pos = { state := 0, kind := kind, count := if (s.lamp die pos).kind = kind then (s.lamp die pos).count + 1 else 1 }) ∧
  ((s.lamp die pos).state = 0 → (s.reading die pos 0).lamp die pos = {}) ∧
  ((s.lamp die pos).state = 3 → s.reading die pos kind = s)

/-- SR_ENTERED (R317): a frame-memory group that has held long enough in mode 1, or is in mode 2, enters self-refresh, state 3; one not due does not. -/
def srEnters : Prop := ∀ (s : State) (die g : Nat), UpDie s die → die < s.dies → s.groupRuns die g = true → s.frameMem die g = true → (s.gst die g).sr = false → (s.gst die g).resume = none →
  (s.groupHalf die g).isSome = true →
  (((s.srMode die g = 1 ∧ s.grp die g Ob.rg_sr_after ≤ (s.gst die g).run) ∨ s.srMode die g = 2) → ∃ t : State, exec (.srEntered die g) s = .next t ∧ (t.gst die g).sr = true ∧
    t.grp die g Ob.rg_state = 3 ∧ t.on die Ob.raster_flags 5 = true ∧
    ObjsBut s t (fun k => k = fullKey die (atIndex Ob.rg_state g) ∨ k = fullKey die Ob.raster_flags) ∧ t = { s with objs := t.objs, tile := t.tile }) ∧
  (s.srMode die g = 0 → exec (.srEntered die g) s = .next s)

/-- RG_SR_MODE (R317): the mode is set; 2 enters self-refresh at once, 0 leaves it, and so does 1 from 2 (what the spec leaves open here is the model's choice, log entry 91). -/
def srModeSet : Prop := ∀ (s a : State) (m : Msg) (d : ObjDef) (die g v : Nat), WritesOne s m d die → g < 4 → die < a.dies → m.key = atIndex Ob.rg_sr_mode g → d.acc = .rw → a = s.arrived m →
  (v : Int) = a.clampVal die m.key d (decodeVal d.ty m.payload) →
  (v = 2 → a.groupRuns die g = true → a.frameMem die g = true → (a.gst die g).sr = false → (a.gst die g).resume = none → (a.groupHalf die g).isSome = true →
    ∃ x : State, exec (.rgSrMode m) s = .next (x.answer 0x02 m 0 d.ty.code []) ∧ x.grp die g Ob.rg_sr_mode = 2 ∧ (x.gst die g).sr = true ∧ x.grp die g Ob.rg_state = 3) ∧
  (v ≠ 2 → (a.grp die g Ob.rg_sr_mode = 2 ∨ v = 0) → (a.gst die g).sr = true →
    ∃ x : State, exec (.rgSrMode m) s = .next (x.answer 0x02 m 0 d.ty.code []) ∧ x.grp die g Ob.rg_sr_mode = v ∧ (x.gst die g).sr = false ∧ (x.gst die g).run = 0 ∧ x.grp die g Ob.rg_state = 2) ∧
  (v ≠ 2 → ((a.grp die g Ob.rg_sr_mode ≠ 2 ∧ v ≠ 0) ∨ (a.gst die g).sr = false) → exec (.rgSrMode m) s = .next ((a.put die m.key v).answer 0x02 m 0 d.ty.code []))

/-- RASTER_TOLERANCE_UPDATE (R326): raster_tolerance_ns is no more than the tolerance of any group that runs, and its largest value where none does. -/
def toleranceStated : Prop := ∀ (s : State) (die : Nat), UpDie s die → die < s.dies →
  ∃ t : State, exec (.rasterToleranceUpdate die) s = .next t ∧ (∀ g, g ∈ s.groupsRun die → (s.gst die g).sr = false → t.nat die Ob.raster_tolerance_ns ≤ s.groupTolerance die g) ∧
    ((∀ g, g ∈ s.groupsRun die → (s.gst die g).sr = true) → t.nat die Ob.raster_tolerance_ns = 4294967295) ∧ ObjsBut s t (fun k => k = fullKey die Ob.raster_tolerance_ns) ∧ t = { s with objs := t.objs }

/-- FAULT_WRITE (R337, R338): the entry of a position that exists takes the state written, its counts at zero, and the counts of entries follow; with 4,096 forced a further STATE 3 is not taken and FORCE_FULL is set; at any other position nothing changes. -/
def faultWritten : Prop := ∀ (s a : State) (m : Msg) (d : ObjDef) (die v pos : Nat), WritesOne s m d die → m.key = Ob.fault_write → d.acc = .wo → a = s.arrived m →
  v = (a.clampVal die m.key d (decodeVal d.ty m.payload)).toNat → pos = posOfWord v →
  (a.posValid die pos = true → bits v 25 24 ≠ 3 → ∃ x : State, exec (.faultWrite m) s = .next (x.answer 0x02 m 0 d.ty.code []) ∧ x.lamp die pos = { state := bits v 25 24 } ∧
    (∀ q, q ≠ pos → x.lamp die q = a.lamp die q) ∧ x.nat die Ob.fault_open_count = x.lampCount die 1 ∧ x.nat die Ob.fault_short_count = x.lampCount die 2 ∧
    x.nat die Ob.fault_forced_count = x.lampCount die 3) ∧
  (a.posValid die pos = true → bits v 25 24 = 3 → 4096 ≤ a.lampCount die 3 → ∃ x : State, exec (.faultWrite m) s = .next (x.answer 0x02 m 0 d.ty.code []) ∧ x.tile = a.tile ∧
    x.on die Ob.fault_flags 3 = true) ∧
  (a.posValid die pos = false → exec (.faultWrite m) s = .next (a.answer 0x02 m 0 d.ty.code []))

/-- FG_BLANKED_CLEAR (R344): a blank whose rule is no longer met is lifted on every group linked with it; one whose rule is met stands. -/
def blankLifted : Prop := ∀ (s a : State) (m : Msg) (d : ObjDef) (die f : Nat), WritesOne s m d die → f < 256 → m.key = atIndex Ob.fg_blanked f → d.acc = .w1c → a = s.arrived m →
  bit (a.clampVal die m.key d (decodeVal d.ty m.payload)).toNat 0 = true →
  (a.fgRule die f = false → ∃ x : State, exec (.fgBlankedClear m) s = .next (x.answer 0x02 m 0 d.ty.code []) ∧ (∀ e, e ∈ a.linked die f → x.on e.1 (atIndex Ob.fg_blanked e.2) = false) ∧
    ObjsBut a x (fun k => ∃ e, e ∈ a.linked die f ∧ k = fullKey e.1 (atIndex Ob.fg_blanked e.2)) ∧ x.sent = a.sent) ∧
  (a.fgRule die f = true → exec (.fgBlankedClear m) s = .next (a.answer 0x02 m 0 d.ty.code []))

/-! Chapter 12: the memories -/

/-- One request of a port for an SRAM word of a region that Table 12.2 lets it read or write, with no other request in the cycle. -/
structure OneSram (s : State) (die : Nat) (r : SramReq) : Prop where
  up    : UpDie s die
  die_  : die < s.dies
  port  : r.port < 16
  may   : s.presents die r = true
  alone : (s.memOf die).waits = []

/-- SRAM_REQUEST (R348, R349, R352, R356, R359) alone in its cycle: on a slice that is on a write stores its 32 bytes and nothing else, a read hands the port the word's bytes; on a retained slice the
request waits while the slice wakes, 2 µs; a word under test answers busy, counted, and the request waits. -/
def sramServed : Prop := ∀ (s : State) (die w : Nat) (r : SramReq), OneSram s die r → w = sramWord r →
  (∀ bs, s.nat die (Ob.sram_slice_state + w / 65536) = 0 → (s.memOf die).bist.lock = none → r.data = some bs → bs.length = 32 →
    ∃ t : State, exec (.sramRequest die [r]) s = .next t ∧ t.sramRead die w = bs ∧ (∀ a, a / 32 ≠ w → smGet 0 (t.memOf die).sram a = smGet 0 (s.memOf die).sram a) ∧
      (t.memOf die).dram = (s.memOf die).dram ∧ t = { s with mem := t.mem }) ∧
  (s.nat die (Ob.sram_slice_state + w / 65536) = 0 → (s.memOf die).bist.lock = none → r.data = none →
    ∃ t : State, exec (.sramRequest die [r]) s = .next t ∧ smGet [] (t.memOf die).got r.port = s.sramRead die w ∧ (t.memOf die).sram = (s.memOf die).sram ∧ t = { s with mem := t.mem }) ∧
  (s.nat die (Ob.sram_slice_state + w / 65536) = 1 →
    ∃ t : State, exec (.sramRequest die [r]) s = .next t ∧ (t.memOf die).waits = [r] ∧ t.nat die (Ob.sram_slice_state + w / 65536) = 3 ∧ smGet 0 (t.memOf die).wakeAt (w / 65536) = s.now + 2000 ∧
      (t.memOf die).sram = (s.memOf die).sram) ∧
  (∀ ends, s.nat die (Ob.sram_slice_state + w / 65536) = 0 → (s.memOf die).bist.lock = some (w, ends) → s.now < ends →
    ∃ t : State, exec (.sramRequest die [r]) s = .next t ∧ (t.memOf die).waits = [r] ∧ (t.memOf die).sram = (s.memOf die).sram ∧ Counts s t die (Ob.sram_busy + r.port) 1)

/-- SRAM_REQUEST (R351, Table 12.3) of two ports for one word of a slice that is on: two reads are both served; where one is a write the lowest writer's data stands and the higher port is busy; a lower
port that reads while the higher writes completes, its data undefined and counted. -/
def sramMeets : Prop := ∀ (s : State) (die w : Nat) (r q : SramReq), OneSram s die r → q.port < 16 → s.presents die q = true → r.port < q.port → w = sramWord r → sramWord q = w →
  s.nat die (Ob.sram_slice_state + w / 65536) = 0 → (s.memOf die).bist.lock = none →
  (r.data = none → q.data = none → ∃ t : State, exec (.sramRequest die [r, q]) s = .next t ∧ smGet [] (t.memOf die).got r.port = s.sramRead die w ∧
    smGet [] (t.memOf die).got q.port = s.sramRead die w ∧ (t.memOf die).waits = [] ∧ (t.memOf die).sram = (s.memOf die).sram ∧ t.objs = s.objs) ∧
  (∀ bs, r.data = some bs → bs.length = 32 → ∃ t : State, exec (.sramRequest die [r, q]) s = .next t ∧ t.sramRead die w = bs ∧ (t.memOf die).waits = [q] ∧
    Counts s t die (Ob.sram_busy + q.port) 1 ∧ ObjsBut s t (fun k => k = fullKey die (Ob.sram_busy + q.port))) ∧
  (∀ bs, r.data = none → q.data = some bs → bs.length = 32 → ∃ t : State, exec (.sramRequest die [r, q]) s = .next t ∧ t.sramRead die w = bs ∧ (t.memOf die).waits = [q] ∧
    Counts s t die (Ob.sram_busy + q.port) 1 ∧ Counts s t die Ob.sram_undef_reads 1 ∧ t.on die Ob.sram_flags 1 = true)

/-- SLICE_RETENTION (R356, R357, R361): in mode 1 or 2, with no word of it under test, a slice that holds no region of the values in force or of a commit that is ready or armed turns off and loses its contents; one that holds a region, idle for
sram_ret_idle_us and not the store of a running group, enters retention and keeps them; in mode 0 nothing happens (what the spec leaves open here is the model's choice, log entry 54). -/
def sliceRetains : Prop := ∀ (s : State) (die n : Nat), UpDie s die → die < s.dies → n < 8 →
  (s.nat die (Ob.sram_slice_mode + n) = 0 → exec (.sliceRetention die n) s = .next s) ∧
  (s.nat die (Ob.sram_slice_mode + n) ≠ 0 → s.lockedIn die n = false → n ∉ s.heldSlices die → s.nat die (Ob.sram_slice_state + n) ≠ 2 →
    ∃ t : State, exec (.sliceRetention die n) s = .next t ∧ t.nat die (Ob.sram_slice_state + n) = 2 ∧ (∀ a, smGet 0 (t.memOf die).sram a = if a / 2097152 = n then 0 else smGet 0 (s.memOf die).sram a) ∧
      ObjsBut s t (fun k => k = fullKey die (Ob.sram_slice_state + n)) ∧ t = { s with objs := t.objs, mem := t.mem }) ∧
  (s.nat die (Ob.sram_slice_mode + n) ≠ 0 → s.lockedIn die n = false → n ∈ s.heldSlices die → s.nat die (Ob.sram_slice_state + n) = 0 →
    (∀ g, g ∈ s.groupsUsed die → s.grp die g Ob.rg_state = 1 → n ∉ s.storeSlices die g) →
    s.past (smGet 0 (s.memOf die).sliceAt n) (s.nat die Ob.sram_ret_idle_us * 1000) = true →
    ∃ t : State, exec (.sliceRetention die n) s = .next t ∧ t.nat die (Ob.sram_slice_state + n) = 1 ∧ (t.memOf die).sram = (s.memOf die).sram ∧ n ∈ (t.memOf die).bist.skip ∧
      ObjsBut s t (fun k => k = fullKey die (Ob.sram_slice_state + n)) ∧ t = { s with objs := t.objs, mem := t.mem })

/-- SLICE_WAKE_COMPLETE (R356): once its exit is over a waking slice is on, its contents as they were; before that nothing happens. -/
def sliceWakes : Prop := ∀ (s : State) (die n : Nat), UpDie s die → die < s.dies → n < 8 → s.nat die (Ob.sram_slice_state + n) = 3 →
  (smGet 0 (s.memOf die).wakeAt n ≤ s.now → ∃ t : State, exec (.sliceWakeComplete die n) s = .next t ∧ t.nat die (Ob.sram_slice_state + n) = 0 ∧ smGet 0 (t.memOf die).sliceAt n = s.now ∧
    (t.memOf die).sram = (s.memOf die).sram ∧ ObjsBut s t (fun k => k = fullKey die (Ob.sram_slice_state + n)) ∧ t = { s with objs := t.objs, mem := t.mem }) ∧
  (s.now < smGet 0 (s.memOf die).wakeAt n → exec (.sliceWakeComplete die n) s = .next s)

/-- SRAM_SLICE_MODE (R356): mode 0 wakes a retained slice in 2 µs and one that is off in 20 µs; another mode turns off a slice that holds no region, and leaves one that does as it is. -/
def sliceModeSet : Prop := ∀ (s a : State) (m : Msg) (d : ObjDef) (die n v : Nat), WritesOne s m d die → n < 8 → m.key = Ob.sram_slice_mode + n → d.acc = .rw → a = s.arrived m →
  (v : Int) = a.clampVal die m.key d (decodeVal d.ty m.payload) →
  (v = 0 → (a.nat die (Ob.sram_slice_state + n) = 1 ∨ a.nat die (Ob.sram_slice_state + n) = 2) →
    ∃ x : State, exec (.sramSliceMode m) s = .next (x.answer 0x02 m 0 d.ty.code []) ∧ x.nat die (Ob.sram_slice_mode + n) = 0 ∧ x.nat die (Ob.sram_slice_state + n) = 3 ∧
      smGet 0 (x.memOf die).wakeAt n = a.now + (if a.nat die (Ob.sram_slice_state + n) = 1 then 2000 else 20000)) ∧
  (v ≠ 0 → n ∉ a.usedSlices die → ∃ x : State, exec (.sramSliceMode m) s = .next (x.answer 0x02 m 0 d.ty.code []) ∧ x.nat die (Ob.sram_slice_mode + n) = v ∧
    x.nat die (Ob.sram_slice_state + n) = 2) ∧
  (v ≠ 0 → n ∈ a.usedSlices die → exec (.sramSliceMode m) s = .next ((a.put die m.key v).answer 0x02 m 0 d.ty.code []))

/-- BIST_WORD_TEST (R359-R361): the next word of the pass, due and with its bank idle for 8 cycles, is locked for the 4 accesses, and memory reads as before; a word that fails is counted, kept in
sram_bist_last_addr and flagged; the last word ends the pass. With BIST stopped nothing is tested (what the spec leaves open here is the model's choice, log entry 56). -/
def wordTested : Prop := ∀ (s : State) (die w : Nat) (ok : Bool), UpDie s die → die < s.dies →
  (s.nat die Ob.sram_bist_mode ≠ 0 → (s.memOf die).bist.over_ = false → (s.memOf die).bist.nextAt ≤ s.now → s.bistNext die (s.memOf die).bist.next = some w →
    s.past (smGet 0 (s.memOf die).bankAt (w % 64)) (s.coreNs die 8) = true →
    ∃ t : State, exec (.bistWordTest die ok) s = .next t ∧ (t.memOf die).bist.lock = some (w, s.now + s.coreNs die 4) ∧ (t.memOf die).sram = (s.memOf die).sram ∧
      ((s.bistNext die (w + 1)).isSome = true → (t.memOf die).bist.next = w + 1) ∧ ((s.bistNext die (w + 1)).isSome = false → Counts s t die Ob.sram_bist_passes 1 ∧ (t.memOf die).bist.next = 0) ∧
      (ok = false → Counts s t die Ob.sram_bist_fails 1 ∧ t.nat die Ob.sram_bist_last_addr = 32 * w ∧ t.on die Ob.sram_flags 0 = true)) ∧
  (s.nat die Ob.sram_bist_mode = 0 → exec (.bistWordTest die ok) s = .next s)

/-- A write of sram_bist_mode to a die: the value in force and where the pass stands. -/
def BistWrite (s a : State) (m : Msg) (d : ObjDef) (die v : Nat) : Prop :=
  WritesOne s m d die ∧ m.key = Ob.sram_bist_mode ∧ d.acc = .rw ∧ a = s.arrived m ∧ (v : Int) = a.clampVal die m.key d (decodeVal d.ty m.payload)

/-- BIST_STOP (R359): mode 0 stops the pass where it stands. -/
def bistStops : Prop := ∀ (s a : State) (m : Msg) (d : ObjDef) (die : Nat), BistWrite s a m d die 0 → leAt m.payload 0 1 = 0 →
  ∃ x : State, exec (.bistStop m) s = .next (x.answer 0x02 m 0 d.ty.code []) ∧ x.nat die Ob.sram_bist_mode = 0 ∧ x.memOf die = a.memOf die ∧
    ObjsBut a x (fun k => k = fullKey die Ob.sram_bist_mode) ∧ x = { a with objs := x.objs, mem := x.mem }

/-- BIST_CONTINUOUS (R359): mode 1 begins a pass where BIST was stopped, and lets one in progress go on (what the spec leaves open here is the model's choice, log entry 56). -/
def bistRuns : Prop := ∀ (s a : State) (m : Msg) (d : ObjDef) (die : Nat), BistWrite s a m d die 1 → (leAt m.payload 0 1 = 1 ∨ 2 < leAt m.payload 0 1) →
  ∃ x : State, exec (.bistContinuous m) s = .next (x.answer 0x02 m 0 d.ty.code []) ∧ x.nat die Ob.sram_bist_mode = 1 ∧
    (a.nat die Ob.sram_bist_mode = 0 → (x.memOf die).bist.next = 0 ∧ (x.memOf die).bist.skip = [] ∧ (x.memOf die).bist.over_ = false) ∧
    (a.nat die Ob.sram_bist_mode ≠ 0 → (a.memOf die).bist.over_ = false → x.memOf die = a.memOf die) ∧
    ObjsBut a x (fun k => k = fullKey die Ob.sram_bist_mode) ∧ x = { a with objs := x.objs, mem := x.mem }

/-- BIST_ONE_PASS (R359): mode 2 begins one pass at the first word (what the spec leaves open here is the model's choice, log entry 56). -/
def bistOnce : Prop := ∀ (s a : State) (m : Msg) (d : ObjDef) (die : Nat), BistWrite s a m d die 2 → leAt m.payload 0 1 = 2 →
  ∃ x : State, exec (.bistOnePass m) s = .next (x.answer 0x02 m 0 d.ty.code []) ∧ x.nat die Ob.sram_bist_mode = 2 ∧ (x.memOf die).bist.next = 0 ∧ (x.memOf die).bist.skip = [] ∧
    (x.memOf die).bist.over_ = false ∧ (x.memOf die).sram = (a.memOf die).sram ∧ ObjsBut a x (fun k => k = fullKey die Ob.sram_bist_mode) ∧ x = { a with objs := x.objs, mem := x.mem }

/-- A channel's state as a round of arbitration finds it: the burst has ended, the requests presented have crossed into the DRAM clock and wait. -/
def roundAt (s : State) (die c : Nat) (reqs : List DramReq) : State := (((s.endBurst die c).setChan die c fun h => { h with waiting := h.waiting ++ reqs }).crossPush die (.dramOut c) reqs.length).crossWords die .braidIn (reqs.countP fun r => decide (r.master = 6))

/-- DRAM_ARBITRATION_ROUND (R363, R364, R367) on a channel that grants with room for the accesses of the request among the 1,024 in flight: the first in order is granted and waits no more; a request for a row that the device does not
have is a fault (what the spec leaves open here is the model's choice, log entry 105). -/
def roundGrants : Prop := ∀ (s b : State) (die c : Nat) (reqs : List DramReq), UpDie s die → c < 2 → b = roundAt s die c reqs →
  (∀ r, (∀ q, q ∈ reqs → s.reqFitted die c q = true) → b.grants die c = true → b.pickReq die ((b.chan die c).waiting.filter (b.servedNow die)) = some r →
    (b.chan die c).inFlight + (b.accesses die c r).length ≤ 1024 →
    ∃ t : State, exec (.dramArbitrationRound die c reqs) s = .next t ∧ (t.chan die c).holder = some r ∧ (t.chan die c).waiting = (b.chan die c).waiting.erase r ∧
      (t.memOf die).dram = (s.memOf die).dram ∧ t.sent = s.sent) ∧
  ((∃ q, q ∈ reqs ∧ s.reqFitted die c q = false) → exec (.dramArbitrationRound die c reqs) s = .fault .dramRowAbsent)

/-- The order of a round (R367): the request picked waits, and none that waits goes before it: none has a higher priority (one that has waited dram_age_ns counts as 3), nor the same and a longer wait (what the spec leaves open here is the model's choice, log entry 58). -/
def roundOrder : Prop := ∀ (s : State) (die : Nat) (l : List DramReq) (r : DramReq), s.pickReq die l = some r → r ∈ l ∧ ∀ q, q ∈ l → s.reqPrio die q ≤ s.reqPrio die r ∧
  (s.reqPrio die q = s.reqPrio die r → r.since ≤ q.since)

/-- The candidates of a command slot: the entry each bank offers. -/
def offered (a : State) (die c : Nat) (t : SlotTiming) : List (Nat × DramEnt) :=
  (List.range 16).filterMap fun b => (candidate t b (smGet [] (a.chan die c).banks b)).map fun e => (b, e)

/-- COMMAND_PICK (R365) with one candidate: a hit on the open row is issued, and a write's enabled bytes are then the memory's (here with dram_ecc 0); with the bank's row closed and the activate allowed its row opens; with
another row open that one is closed. A channel that is not active issues nothing. -/
def commandIssued : Prop := ∀ (s a : State) (die c b : Nat) (t : SlotTiming) (e : DramEnt), UpDie s die → a = s.settle die c →
  (s.chState die c = 1 → offered a die c t = [(b, e)] → a.isHit die c b e = true → (s.memOf die).ecc = false → ∀ bs, e.data = some bs →
    ∃ x : State, exec (.commandPick die c t) s = .next x ∧ (x.memOf die).dram = dramPoke (s.memOf die).dram (s.dramCell die e.addr) bs ∧ (x.memOf die).sram = (s.memOf die).sram) ∧
  (s.chState die c = 1 → offered a die c t = [(b, e)] → a.isHit die c b e = false → b < 16 → a.openRow die c b = none → t.actsInFaw < 4 → b ∈ t.trrdOk →
    ∃ x : State, exec (.commandPick die c t) s = .next x ∧ x.openRow die c b = some (s.rowOf die e.addr) ∧ (x.chan die c).rot = b ∧ (x.memOf die).dram = (s.memOf die).dram) ∧
  (∀ r, s.chState die c = 1 → offered a die c t = [(b, e)] → a.isHit die c b e = false → b < 16 → a.openRow die c b = some r → r ≠ s.rowOf die e.addr →
    ∃ x : State, exec (.commandPick die c t) s = .next x ∧ x.openRow die c b = none ∧ (x.memOf die).dram = (s.memOf die).dram) ∧
  (s.chState die c ≠ 1 → exec (.commandPick die c t) s = .next s)

/-- DRAM_REFRESH (R362) on a channel out of self-refresh: the bank has no open row after it, and memory reads as before; in self-refresh none is issued. -/
def bankRefreshed : Prop := ∀ (s : State) (die c b : Nat), UpDie s die → b < 16 →
  (s.grants die c = true → ∃ t : State, exec (.dramRefresh die c b) s = .next t ∧ t.openRow die c b = none ∧ (∀ n, n ≠ b → t.openRow die c n = s.openRow die c n) ∧
    (t.memOf die).dram = (s.memOf die).dram ∧ (t.chan die c).banks = (s.chan die c).banks ∧ t = { s with mem := t.mem }) ∧
  (s.chState die c = 3 → exec (.dramRefresh die c b) s = .next s)

/-- MASTER_RESET (R368): the master's waiting requests are gone and its burst has ended; another master's burst and requests stand, and what memory holds is as it was. -/
def masterIsReset : Prop := ∀ (s : State) (die c master beats : Nat), UpDie s die →
  ∃ t : State, exec (.masterReset die c master beats) s = .next t ∧ (t.chan die c).waiting = (s.chan die c).waiting.filter (fun r => decide (r.master ≠ master)) ∧
    ((∀ r, (s.chan die c).holder = some r → r.master = master) → (t.chan die c).holder = none) ∧
    (∀ r, (s.chan die c).holder = some r → r.master ≠ master → (t.chan die c).holder = some r) ∧ (t.memOf die).dram = (s.memOf die).dram ∧ t.sent = s.sent

/-- DRAM_SELF_REFRESH_ENTRY (R372) of a channel idle for dram_sr_idle_ns: where the tolerance allows it is in self-refresh, counted, with no row open; else it is refused, counted once, and stays in
power-down. A channel with work does not enter. -/
def refreshEntered : Prop := ∀ (s : State) (die c : Nat), UpDie s die → c < 2 → s.grants die c = true →
  (s.chIdle die c = true → s.past (s.chan die c).idleAt (s.nat die Ob.dram_sr_idle_ns) = true → s.tolerates die c = true →
    ∃ t : State, exec (.dramSelfRefreshEntry die c) s = .next t ∧ t.chState die c = 3 ∧ Counts s t die (Ob.dram_sr_entries + c) 1 ∧ (∀ b, t.openRow die c b = none) ∧
      (t.memOf die).dram = (s.memOf die).dram) ∧
  (s.chIdle die c = true → s.past (s.chan die c).idleAt (s.nat die Ob.dram_sr_idle_ns) = true → s.tolerates die c = false → (s.chan die c).refused = false →
    ∃ t : State, exec (.dramSelfRefreshEntry die c) s = .next t ∧ t.chState die c = 2 ∧ Counts s t die (Ob.dram_sr_refused + c) 1 ∧ (t.chan die c).refused = true) ∧
  (s.chIdle die c = false → exec (.dramSelfRefreshEntry die c) s = .next s)

/-- DRAM_SELF_REFRESH_EXIT (R373, R374): on a request or a low tolerance the channel is active again and its pending delay changes are written; with neither, and no launch near, it stays. -/
def refreshLeft : Prop := ∀ (s : State) (die c : Nat), UpDie s die → c < 2 → s.chState die c = 3 →
  (((s.chan die c).waiting ≠ [] ∨ s.memTolerance die ≤ s.nat die (Ob.dram_sr_exit_ns + c) + s.nat die Ob.dram_sr_margin_ns) → (s.chan die c).pend.length ≤ 12 →
    ∃ t : State, exec (.dramSelfRefreshExit die c) s = .next t ∧ t.chState die c = 1 ∧ (t.chan die c).pend = [] ∧ (t.chan die c).idleAt = s.now ∧ (t.chan die c).waiting = (s.chan die c).waiting ∧
      (∀ i p, (s.chan die c).pend[i]? = some p → t.int die (atIndex Ob.dram_dly_rd c + i) = clampInt 0 (if i < 8 then 65535 else 255) (s.int die (atIndex Ob.dram_dly_rd c + i) + p)) ∧
      (t.memOf die).dram = (s.memOf die).dram) ∧
  ((s.chan die c).waiting = [] → s.nat die (Ob.dram_sr_exit_ns + c) + s.nat die Ob.dram_sr_margin_ns < s.memTolerance die → s.launchNear die c = false →
    exec (.dramSelfRefreshExit die c) s = .next s)

/-- DRAM_DRIFT_CHECK (R374), each 10 ms on a trained channel: what the delays have drifted joins what is pending, which stands since it first was; sooner nothing happens (what the spec leaves open here is the model's choice, log entry 60). -/
def driftChecked : Prop := ∀ (s : State) (die c : Nat) (drift : List Int), UpDie s die → die < s.dies → s.chState die c ≠ 5 → s.chState die c ≠ 0 →
  (s.due (s.chan die c).driftAt 10000000 = true → ∃ t : State, exec (.dramDriftCheck die c drift) s = .next t ∧ (t.chan die c).driftAt = some s.now ∧
    ((t.chan die c).pend = [] ∨ (t.chan die c).pend = (List.range 12).map fun i => (s.chan die c).pend.getD i 0 + (if i < 8 then drift.getD i 0 else 0)) ∧
    ((∃ i, i < 8 ∧ (s.chan die c).pend.getD i 0 + drift.getD i 0 ≠ 0) → (t.chan die c).pend ≠ [] ∧ (t.chan die c).pendAt = if (s.chan die c).pend = [] then s.now else (s.chan die c).pendAt) ∧
    (t.memOf die).dram = (s.memOf die).dram ∧ t = { s with mem := t.mem }) ∧
  (s.due (s.chan die c).driftAt 10000000 = false → exec (.dramDriftCheck die c drift) s = .next s)

/-- DRAM_FORCED_EXIT (R374): a change pending for dram_dly_max_ms, where the tolerance allows, is written by an entry to and exit from self-refresh; one younger waits. -/
def exitForced : Prop := ∀ (s : State) (die c : Nat), UpDie s die → c < 2 →
  (s.pendFor die c 0 = true → s.grants die c = true → s.tolerates die c = true → ∃ t : State, exec (.dramForcedExit die c) s = .next t ∧ t.chState die c = 1 ∧ (t.chan die c).pend = [] ∧
    Counts s t die (Ob.dram_sr_entries + c) 1) ∧
  (s.pendFor die c 0 = false → exec (.dramForcedExit die c) s = .next s)

/-- DLY_PENDING (R374): a change pending for 1 s past dram_dly_max_ms is flagged and stays pending; one younger is not. -/
def delayFlagged : Prop := ∀ (s : State) (die c : Nat), UpDie s die →
  (s.pendFor die c 1000 = true → ∃ t : State, exec (.dlyPending die c) s = .next t ∧ t.on die Ob.dram_flags 1 = true ∧ t.mem = s.mem) ∧
  (s.pendFor die c 1000 = false → exec (.dlyPending die c) s = .next s)

/-- DRAM_MAINT_SWEEP (R376): on an idle die the sweep begins, dram_sweep_status 1; on one at work it is refused, 3; one in progress goes on. -/
def sweepBegins : Prop := ∀ (s a : State) (m : Msg) (d : ObjDef) (die : Nat), WritesOne s m d die → m.key = Ob.dram_maint_sweep → d.acc = .wo → a = s.arrived m →
  a.clampVal die m.key d (decodeVal d.ty m.payload) = 1 →
  (a.nat die Ob.dram_sweep_status ≠ 1 → a.sweepIdle die = true → ∃ x : State, exec (.dramMaintSweep m) s = .next (x.answer 0x02 m 0 d.ty.code []) ∧ x.nat die Ob.dram_sweep_status = 1 ∧
    (x.memOf die).sweepAt = a.now ∧ ObjsBut a x (fun k => k = fullKey die Ob.dram_sweep_status) ∧ x = { a with objs := x.objs, mem := x.mem }) ∧
  (a.nat die Ob.dram_sweep_status ≠ 1 → a.sweepIdle die = false → exec (.dramMaintSweep m) s = .next ((a.put die Ob.dram_sweep_status 3).answer 0x02 m 0 d.ty.code [])) ∧
  (a.nat die Ob.dram_sweep_status = 1 → exec (.dramMaintSweep m) s = .next (a.answer 0x02 m 0 d.ty.code []))

/-- SWEEP_DONE (R376) of a sweep under way: the load offsets found are kept, within ±64, the centres found wait to become the delays, the status is 2 and SWEEP_DONE is set; with none found the status is 4 and
offsets and delays stand (what the spec leaves open here is the model's choice, log entry 61). -/
def sweepEnds : Prop := ∀ (s : State) (die : Nat) (found : List SweepLane), UpDie s die → die < s.dies →
  (s.nat die Ob.dram_sweep_status = 1 → 8 ≤ found.length → ∃ t : State, exec (.sweepDone die found) s = .next t ∧ t.nat die Ob.dram_sweep_status = 2 ∧ t.on die Ob.dram_flags 3 = true ∧
    (∀ c l e, c < 2 → l < 4 → found[4 * c + l]? = some e → t.int die (atIndex Ob.dram_load_offset c + l) = clampInt (-64) 64 e.offset ∧
      s.int die (atIndex Ob.dram_dly_rd c + l) + (t.chan die c).pend.getD l 0 = e.rd + clampInt (-64) 64 e.offset) ∧
    (t.memOf die).dram = (s.memOf die).dram ∧ t.sent = s.sent) ∧
  (s.nat die Ob.dram_sweep_status = 1 → found.length < 8 → exec (.sweepDone die found) s = .next (s.put die Ob.dram_sweep_status 4)) ∧
  (s.nat die Ob.dram_sweep_status ≠ 1 → exec (.sweepDone die found) s = .next s)

/-! Chapter 13: clocks, resets, boot -/

/-- REFCLK_FAULT (R385, R386): the REFCLK is no longer valid; where the die ran from it, it switches to the other, counted and flagged, or with neither valid holds, and FAULT_N has a source (what the spec leaves open here is the model's choice, log entry 97). -/
def clockFaults : Prop := ∀ (s : State) (die which : Nat) (why : ClkFault), UpDie s die → which < 2 →
  (s.nat die Ob.refclk_active ≠ which → ∃ t : State, exec (.refclkFault die which why) s = .next t ∧ t.on die Ob.refclk_valid which = false ∧
    ObjsBut s t (fun k => k = fullKey die Ob.refclk_valid) ∧ smGet 0 (t.clk die).faultAt which = s.now ∧ t = { s with objs := t.objs, clks := t.clks }) ∧
  (s.nat die Ob.refclk_active = which → s.on die Ob.refclk_valid (1 - which) = true → ∃ t : State, exec (.refclkFault die which why) s = .next t ∧ t.on die Ob.refclk_valid which = false ∧
    t.nat die Ob.refclk_active = 1 - which ∧ Counts s t die Ob.refclk_switches 1 ∧ t.on die Ob.clock_flags 0 = true) ∧
  (s.nat die Ob.refclk_active = which → s.on die Ob.refclk_valid (1 - which) = false → ∃ t : State, exec (.refclkFault die which why) s = .next t ∧ t.on die Ob.refclk_valid which = false ∧
    t.nat die Ob.refclk_active = 2 ∧ t.on die Ob.clock_flags 1 = true ∧ bit t.faultSrc 0 = true)

/-- REFCLK_RATE_CHECK (R384), each 10 ms: refclk_diff_ppb reads the difference; with a witness the REFCLK beyond refclk_rate_ppm is faulty, without one a difference beyond it is flagged; sooner nothing
happens. -/
def ratesChecked : Prop := ∀ (s : State) (die : Nat) (a b diff : Int), UpDie s die →
  (s.due (s.clk die).rateAt 10000000 = false → exec (.refclkRateCheck die a b diff) s = .next s) ∧
  (s.due (s.clk die).rateAt 10000000 = true → s.hasWitness = false → ∃ t : State, exec (.refclkRateCheck die a b diff) s = .next t ∧ t.int die Ob.refclk_diff_ppb = diff ∧
    (t.clk die).rateAt = some s.now ∧ t.nat die Ob.refclk_valid = s.nat die Ob.refclk_valid ∧ ((s.nat die Ob.refclk_rate_ppm : Int) * 1000 < diff.natAbs → t.on die Ob.clock_flags 2 = true)) ∧
  (s.due (s.clk die).rateAt 10000000 = true → s.hasWitness = true → (s.nat die Ob.refclk_rate_ppm : Int) * 1000 < a.natAbs → (b.natAbs : Int) ≤ (s.nat die Ob.refclk_rate_ppm : Int) * 1000 →
    ∃ t : State, exec (.refclkRateCheck die a b diff) s = .next t ∧ t.int die Ob.refclk_diff_ppb = diff ∧ t.on die Ob.refclk_valid 0 = false ∧
      t.on die Ob.refclk_valid 1 = s.on die Ob.refclk_valid 1)

/-- REFCLK_VALID (R384, R385): after 10 ms without a fault the REFCLK is valid; valid for 10 ms more and preferred, with refclk_revert 1, the die switches back to it; before that nothing happens. -/
def clockValid : Prop := ∀ (s : State) (die which : Nat), UpDie s die → which < 2 →
  (s.on die Ob.refclk_valid which = false → s.past (smGet 0 (s.clk die).faultAt which) 10000000 = true → ∃ t : State, exec (.refclkValid die which) s = .next t ∧
    t.on die Ob.refclk_valid which = true ∧ smGet 0 (t.clk die).validAt which = s.now ∧ ObjsBut s t (fun k => k = fullKey die Ob.refclk_valid) ∧ t = { s with objs := t.objs, clks := t.clks }) ∧
  (s.on die Ob.refclk_valid which = false → s.past (smGet 0 (s.clk die).faultAt which) 10000000 = false → exec (.refclkValid die which) s = .next s) ∧
  (s.on die Ob.refclk_valid which = true → s.on die Ob.refclk_revert = true → s.nat die Ob.refclk_sel = which → s.nat die Ob.refclk_active = 1 - which →
    s.past (smGet 0 (s.clk die).validAt which) 10000000 = true →
    ∃ t : State, exec (.refclkValid die which) s = .next t ∧ t.nat die Ob.refclk_active = which ∧ Counts s t die Ob.refclk_switches 1)

/-- PLL_RESUME (R386): with a REFCLK valid again the PLLs track it, the preferred one where that is valid; with none valid they go on holding. -/
def pllsResume : Prop := ∀ (s : State) (die : Nat), UpDie s die → s.nat die Ob.refclk_active = 2 →
  (s.nat die Ob.refclk_valid ≠ 0 → ∃ t : State, exec (.pllResume die) s = .next t ∧
    t.nat die Ob.refclk_active = (if s.on die Ob.refclk_valid (s.nat die Ob.refclk_sel) then s.nat die Ob.refclk_sel else 1 - s.nat die Ob.refclk_sel) ∧ (t.clk die).lostAt = none ∧ t.mem = s.mem) ∧
  (s.nat die Ob.refclk_valid = 0 → exec (.pllResume die) s = .next s)

/-- A part whose journal flashes hold no record. -/
def BlankJournal (s : State) : Prop := s.journal.recs = [] ∧ s.journal.recs1 = []

/-- PORST_RELEASE (R394-R398) of a part held in reset for 1 µs or more (log entry 166, the model's choice): with an image in the active slot of die 0 that ROM accepts, firmware runs from it on every die that boots, and reset_count is one more; with no good
image the part is in recovery mode; with BOOTSEL 7 it is in boundary scan and no die answers. A part out of reset is not touched (what the spec leaves open here is the model's choice, log entry 62). -/
def bootRuns : Prop := ∀ (s : State) (env : BootEnv), (∀ t0, s.boot.heldAt = some t0 → t0 + 1000 ≤ s.now) →
  (s.boot.held = false → exec (.porstRelease env) s = .next s) ∧
  (s.boot.held = true → env.bootsel % 8 = 7 → ∃ t : State, exec (.porstRelease env) s = .next t ∧ t.boot.held = false ∧ t.boot.scan = true ∧ t.pw Ob.dies_alive = 0) ∧
  (s.boot.held = true → env.bootsel % 8 = 0 → env.loads = true → s.on 0 Ob.therm_shut_dies 0 = false → s.bootSect.slot % 2 = 0 → env.imageOk.getD 0 false = true → BlankJournal s →
    ∃ t : State, exec (.porstRelease env) s = .next t ∧ t.boot.held = false ∧ t.boot.scan = false ∧ t.boot.recovery = false ∧ t.boot.releaseAt = s.now ∧ t.pw Ob.fw_slot = 0 ∧ t.pw Ob.boot_source = 0 ∧
      t.fw = (s.bootDies env 0).foldl (fun m d => setBit m d) 0 ∧ t.pw Ob.dies_alive = t.fw ∧ t.pw Ob.fw_image_id = env.image.1 ∧ t.pw Ob.reset_count = s.pw Ob.reset_count + 1) ∧
  (s.boot.held = true → env.bootsel % 8 = 0 → env.loads = true → s.on 0 Ob.therm_shut_dies 0 = false → (∀ k, env.imageOk.getD k false = false) →
    ∃ t : State, exec (.porstRelease env) s = .next t ∧ t.boot.held = false ∧ t.boot.recovery = true ∧ t.pw Ob.boot_source = 4 ∧ t.pw Ob.dies_alive = 1 ∧ t.fw = s.fw)

/-- What a warm reset keeps of a part whose journal is blank and what it clears (Table 13.3): Lay time, the local counts of the dies not held, the fuses, the shutdown latch and the waiting commands stay; staged values, routes
and enumerations are gone. -/
structure WarmKept (s t : State) : Prop where
  fine   : t.lay.fine = s.lay.fine
  counts : ∀ n, bit s.boot.heldDies n = false → t.localCount n = s.localCount n
  fuses  : t.fuses = s.fuses
  latch  : t.pw Ob.therm_shut_dies = s.pw Ob.therm_shut_dies
  queue  : t.pending = s.pending
  staged : t.staged = []
  enums  : t.enums = []
  routes : t.net.routes = []
  held   : t.boot.held = false
  now    : t.now = s.now

/-- WARMRST_N (R392, R394, Table 13.3) low for 1 µs: a warm reset and a boot; on a part held in reset it only joins the causes of that reset; shorter it does nothing (what the spec leaves open here is the model's choice, log entry 66). -/
def warmResets : Prop := ∀ (s : State) (ns : Nat) (env : BootEnv),
  (s.boot.held = false → 1000 ≤ ns → BlankJournal s → ∃ t : State, exec (.warmrstN ns env) s = .next t ∧ WarmKept s t) ∧
  (s.boot.held = true → 1000 ≤ ns → exec (.warmrstN ns env) s = .next { s with boot := { s.boot with cause := s.boot.cause ||| 4 } }) ∧
  (ns < 1000 → exec (.warmrstN ns env) s = .next s)

/-- PART_RESET_WARM (R392): the write is answered OK, then the part resets warm and boots with the straps and devices that the command tells (what the spec leaves open here is the model's choice, log entry 62). -/
def partResets : Prop := ∀ (s a : State) (m : Msg) (env : BootEnv) (d : ObjDef), WritesOne s m d 0 → m.key = Ob.part_reset → d.acc = .wo → m.payload = [1] → a = (s.arrived m).answer 0x02 m 0 d.ty.code [] →
  BlankJournal s → ∃ t : State, exec (.partResetWarm { msg := m, env := env }) s = .next t ∧ WarmKept a t ∧ t.boot.env = env ∧ ∃ l, t.sent = l ++ a.sent

/-- CONTROL_CORE_RESTART (R393): the write is answered OK, then no die's firmware runs, reset_cause of each gains 8 where it restarts already and else is 8, and staged values, Lay time and memory stay. -/
def coresRestartAll : Prop := ∀ (s a : State) (m : Msg) (d : ObjDef), WritesOne s m d 0 → m.key = Ob.part_reset → d.acc = .wo → m.payload = [2] → a = (s.arrived m).answer 0x02 m 0 d.ty.code [] →
  ∃ t : State, exec (.controlCoreRestart m) s = .next t ∧ (∀ n, n < a.dies → a.alive n = true → t.fwOn n = false ∧ t.nat n Ob.reset_cause = if a.fwOn n then 8 else a.nat n Ob.reset_cause ||| 8) ∧ t.staged = a.staged ∧ t.lay = a.lay ∧ t.mem = a.mem ∧
    t.boot = a.boot ∧ t.sent = a.sent

/-- The standby supervisor can act: its die is alive and its firmware runs. -/
structure CanFail (s : State) : Prop where
  dies    : 2 ≤ s.dies
  sup     : s.sup < 2
  old     : s.alive s.sup = true
  standby : s.alive (1 - s.sup) = true
  runs    : s.fwOn (1 - s.sup) = true

/-- What a failover leaves (R403, R405): the other die of 0 and 1 acts, the failed one is held and answers no more, the failover is counted and flagged. -/
structure FailedOver (s t : State) : Prop where
  sup    : t.pw Ob.red_sup_die = 1 - s.sup
  dead   : t.alive s.sup = false
  held   : bit t.boot.heldDies s.sup = true
  fw     : t.fwOn s.sup = false
  count  : t.pw Ob.red_sup_failovers = s.pw Ob.red_sup_failovers + 1
  flag   : t.on 0 Ob.red_flags 0 = true
  lay    : t.lay.fine = s.lay.fine

/-- WATCHDOG_EXPIRY (R392, R404), wdog_ms after the die's firmware last began or served, with no activation under way: the die's firmware stops and reset_cause is 16; on the acting supervisor, die 0, with a standby, it is a failover (what the spec leaves open here is the model's choice, log entry 77). -/
def watchdogExpires : Prop := ∀ (s : State) (die : Nat), UpDie s die → die < s.dies → s.upd.act = none → s.past (s.clk die).wdogAt (s.nat die Ob.wdog_ms * 1000000) = true →
  (die ≠ s.sup → s.fwOn die = true → ∃ t : State, exec (.watchdogExpiry die) s = .next t ∧ t.fwOn die = false ∧ t.nat die Ob.reset_cause = 16 ∧ (∀ n, n ≠ die → t.fwOn n = s.fwOn n) ∧ t.staged = s.staged ∧ t.lay = s.lay ∧
    t.boot = s.boot) ∧
  (die = 0 → s.sup = 0 → CanFail s → ∃ t : State, exec (.watchdogExpiry die) s = .next t ∧ FailedOver s t)

/-- What every reset by VAUX or PORST_N leaves (Table 13.3, Table 17.5): the part held, no firmware, nothing staged, every object outside the always-on domain at its default, the pins at rest. -/
structure AtRest (s t : State) (cause : Nat) : Prop where
  held   : t.boot.held = true
  cause_ : t.boot.cause = cause
  fw     : t.fw = 0
  staged : t.staged = []
  objs   : ObjsBut State.reset t alwaysOn
  fuses  : t.fuses = s.fuses
  recs   : t.journal.recs = s.journal.recs
  queue  : t.pending = s.pending
  evts   : ∀ n, n < 4 → Output.pin (.layEvt n) false ∈ t.sent
  mgmt   : Output.pin .mgmt false ∈ t.sent
  tdo    : Output.pin .tdo false ∈ t.sent

/-- VAUX_LOSS (R392, Table 13.3): everything is reset, the shutdown latch too. -/
def vauxLost : Prop := ∀ s : State, ∃ t : State, exec .vauxLoss s = .next t ∧ AtRest s t 1 ∧ t.pw Ob.therm_shut_dies = 0

/-- PORST_N_ASSERT (R475): everything but the always-on domain is reset; the shutdown latch stays. -/
def porstAsserted : Prop := ∀ s : State, ∃ t : State, exec .porstNAssert s = .next t ∧ AtRest s t (if s.boot.held then s.boot.cause ||| 2 else 2) ∧ t.pw Ob.therm_shut_dies = s.pw Ob.therm_shut_dies ∧ t.red.ckpt = s.red.ckpt

/-- DIE1_BOOT_TIMEOUT (R399) with nothing loaded 500 ms after the release: die 1 boots from its own flash and acts as supervisor, with every die from it up that trains; where firmware runs nothing happens. -/
def die1Boots : Prop := ∀ s : State, Up s → s.boot.recovery = false →
  (s.fw = 0 → s.pw Ob.dies_alive = 0 → s.on 0 Ob.therm_shut_dies 1 = false → s.past s.boot.releaseAt 500000000 = true → s.boot.env.bootsel % 8 = 0 → s.bootSect.slot % 2 = 0 →
    s.boot.env.imageOk.getD 2 false = true → BlankJournal s →
    ∃ t : State, exec .die1BootTimeout s = .next t ∧ t.pw Ob.red_sup_die = 1 ∧ t.pw Ob.red_sup_state = 1 ∧ t.fwOn 1 = true ∧ t.fwOn 0 = false ∧ t.boot.releaseAt = s.boot.releaseAt ∧ t.pw Ob.boot_source = 1) ∧
  (s.fw ≠ 0 → exec .die1BootTimeout s = .next s)

/-! Chapter 14: redundancy -/

/-- SUP_HEARTBEAT (R404): each 0.5 ms while the acting supervisor's firmware runs; sooner, or with it stopped, none is sent. -/
def heartbeatKept : Prop := ∀ s : State, Up s →
  (s.fwOn s.sup = true → s.past s.red.supAt 500000 = true → exec .supHeartbeat s = .next { s with red := { s.red with supAt := s.now } }) ∧
  ((s.fwOn s.sup = false ∨ s.past s.red.supAt 500000 = false) → exec .supHeartbeat s = .next s)

/-- SUP_HB_LOSS (R404): after red_sup_hb_ms of silence the arbiter die of a big part makes the standby act; on a two-die part with a chain up port on the standby the upstream part is asked, and where it has
heard nothing either the standby acts, else the disagreement is flagged. -/
def heartbeatLost : Prop := ∀ (s : State) (up : Option Nat), Up s →
  (s.past s.red.supAt (s.pw Ob.red_sup_hb_ms * 1000000) = false → exec (.supHbLoss up) s = .next s) ∧
  (s.past s.red.supAt (s.pw Ob.red_sup_hb_ms * 1000000) = true → s.big = true → s.pw Ob.red_arb_die ≠ 0xFF → CanFail s → ∃ t : State, exec (.supHbLoss up) s = .next t ∧ FailedOver s t) ∧
  (∀ p, s.past s.red.supAt (s.pw Ob.red_sup_hb_ms * 1000000) = true → s.big = false → s.upPort = some p → p / 16 ≠ s.sup →
    (∀ v, up = some v → s.pw Ob.red_sup_hb_ms ≤ v → CanFail s → ∃ t : State, exec (.supHbLoss up) s = .next t ∧ FailedOver s t) ∧
    (∀ v, up = some v → v < s.pw Ob.red_sup_hb_ms → ∃ t : State, exec (.supHbLoss up) s = .next t ∧ t.on 0 Ob.red_flags 3 = true ∧ t.pw Ob.red_sup_die = s.pw Ob.red_sup_die) ∧
    (up = none → ∃ (t : State) (k : Cell), exec (.supHbLoss up) s = .next t ∧ (t.port p).own = (s.port p).own ++ [k] ∧ k.cls = 2 ∧ t.pw Ob.red_sup_die = s.pw Ob.red_sup_die))

/-- ARB_IN (R404) high for 1 µs with red_arb_in_en 1, die 0 acting: the standby acts; shorter, or with it disabled, nothing happens. -/
def arbiterPin : Prop := ∀ (s : State) (ns : Nat), Up s →
  (s.on 0 Ob.red_arb_in_en = true → 1000 ≤ ns → s.sup = 0 → CanFail s → ∃ t : State, exec (.arbIn ns) s = .next t ∧ FailedOver s t) ∧
  ((s.on 0 Ob.red_arb_in_en = false ∨ ns < 1000) → exec (.arbIn ns) s = .next s)

/-- RED_SUP_REJOIN (R406): the die held after a failover is released, answers again and is standby; with none held nothing happens. -/
def dieRejoins : Prop := ∀ (s a : State) (m : Msg) (d : ObjDef) (die : Nat), WritesOne s m d 0 → m.key = Ob.red_sup_rejoin → d.acc = .wo → a = s.arrived m →
  a.clampVal 0 m.key d (decodeVal d.ty m.payload) = 1 → die = 1 - a.sup → a.sup < 2 →
  (bit a.boot.heldDies die = true → a.on 0 Ob.therm_shut_dies die = false → bit a.boot.brown die = false →
    ∃ x : State, exec (.redSupRejoin m) s = .next (x.answer 0x02 m 0 d.ty.code []) ∧ bit x.boot.heldDies die = false ∧ x.alive die = true ∧ x.fwOn die = true ∧
      x.pw Ob.red_sup_state = (if a.sup = 1 then 2 else 0)) ∧
  (bit a.boot.heldDies die = false → exec (.redSupRejoin m) s = .next (a.answer 0x02 m 0 d.ty.code []))

/-- HEAD_HEARTBEAT_SEND (R410, Table 14.4), each 5 ms: a ring head queues a HEARTBEAT with the next SEQ toward its peer; sooner, or off a ring, nothing is sent (what the spec leaves open here is the model's choice, log entry 70). -/
def ringHeartbeat : Prop := ∀ (s : State) (p : Nat), Up s →
  (s.isRing = true → s.due s.red.sentAt 5000000 = true → s.ownPort (s.pw Ob.red_peer_node) = some p → ∃ t : State, exec .headHeartbeatSend s = .next t ∧ t.red.sent = (s.red.sent + 1) % 4294967296 ∧
    t.red.sentAt = some s.now ∧ (t.port p).own = (s.port p).own ++ [mkCell 4 0 (s.pw Ob.red_peer_node) 0 (s.ringBytes 1 0 (s.pw Ob.commit_epoch) ((s.red.sent + 1) % 4294967296)
      (if s.pw Ob.red_head_state = 1 then s.pw Ob.red_active_since else s.layNow) [])] ∧ (∀ q, q ≠ p → t.port q = s.port q)) ∧
  ((s.isRing = false ∨ s.due s.red.sentAt 5000000 = false) → exec .headHeartbeatSend s = .next s)

/-- A JOURNAL cell of the peer head at this ring head. -/
structure PeerCell (s a : State) (p : Nat) (c : Cell) (msg : Nat) : Prop where
  at_   : CellAt s p c
  cls   : c.cls = 4
  kind  : c.kind = 0
  mine  : s.node = some c.node
  here  : a = s.cellArrives p
  chain : a.offChain p = false
  peer  : a.fromPeer c = true
  msg_  : leAt c.payload 0 1 = msg

/-- HEARTBEAT (R409, R411): the peer is heard, with its state, its red_active_since and its epoch; an ACTIVE head whose peer has been ACTIVE for longer, or as long with a lower node, yields to STANDBY; one that has been JOINING for 1 s goes to STANDBY; a peer
that has become STANDBY is sent a checkpoint (what the spec leaves open here is the model's choice, log entry 70). -/
def heartbeatHeard : Prop := ∀ (s a : State) (p : Nat) (c : Cell), PeerCell s a p c 1 →
  ∃ t : State, exec (.heartbeat p c) s = .next t ∧ t.red.heardAt = some s.now ∧ t.red.peer = leAt c.payload 1 1 ∧ t.red.peerSince = layAt c.payload 16 ∧ t.red.peerEpoch = leAt c.payload 8 4 ∧
    (a.pw Ob.red_head_state = 1 → leAt c.payload 1 1 = 1 → (layAt c.payload 16 < a.pw Ob.red_active_since ∨
      (layAt c.payload 16 = a.pw Ob.red_active_since ∧ a.pw Ob.red_peer_node < a.pw Ob.node_id)) → t.pw Ob.red_head_state = 2) ∧
    (∀ q, a.pw Ob.red_head_state = 1 → leAt c.payload 1 1 = 2 → a.red.peer ≠ 2 → a.ownPort (a.pw Ob.red_peer_node) = some q → (a.port q).own.length < (t.port q).own.length) ∧
    (∀ t0, a.joinedAt = some t0 → a.past t0 1000000000 = true → (leAt c.payload 1 1 = 1 ∨ leAt c.payload 1 1 = 3) → t.pw Ob.red_head_state = 2) ∧
    ((leAt c.payload 1 1 ≠ 2 ∨ (a.red.peer = 2 ∧ a.red.heardAt ≠ none)) → a.joinedAt = none →
      ((a.pw Ob.red_head_state ≠ 1 ∨ leAt c.payload 1 1 ≠ 1 ∨ a.pw Ob.red_active_since < layAt c.payload 16) → t.objs = a.objs) ∧ t = { a.spent p with objs := t.objs, red := t.red })

/-- CKPT_SEG (R411) at a standby: the segment is kept under its number, segment 0 beginning anew; in another state it is left. -/
def segmentKept : Prop := ∀ (s a : State) (p : Nat) (c : Cell), PeerCell s a p c 2 →
  (a.pw Ob.red_head_state = 2 → exec (.ckptSeg p c) s = .next { a.spent p with red := { a.red with
    segs := smPut [] (if leAt c.payload 12 4 = 0 then [] else a.red.segs) (leAt c.payload 12 4) ((c.payload.drop 32).take (min 212 (leAt c.payload 28 2))) } }) ∧
  (a.pw Ob.red_head_state ≠ 2 → exec (.ckptSeg p c) s = .next (a.spent p))

/-- CKPT_END (R411) at a standby that has every segment: an untagged checkpoint is the one held, its epoch in red_ckpt_epoch, a tagged one waits for its commit; either is acknowledged to the peer. With
a segment missing it is not. -/
def checkpointEnds : Prop := ∀ (s a : State) (p q n : Nat) (c : Cell), PeerCell s a p c 3 → a.pw Ob.red_head_state = 2 → n = leAt c.payload 12 4 →
  ((∀ i, i < n → smGet [] a.red.segs i ≠ []) → a.ownPort (a.pw Ob.red_peer_node) = some q →
    ∃ t : State, exec (.ckptEnd p c) s = .next t ∧ t.red.segs = [] ∧
      (leAt c.payload 4 4 = 0 → t.pw Ob.red_ckpt_epoch = leAt c.payload 8 4 ∧ t.red.ckpt = some (0, leAt c.payload 8 4, (List.range n).flatMap fun i => smGet [] a.red.segs i)) ∧
      (leAt c.payload 4 4 ≠ 0 → t.red.tagged = some (leAt c.payload 4 4, leAt c.payload 8 4, (List.range n).flatMap fun i => smGet [] a.red.segs i) ∧ t.red.ckpt = a.red.ckpt) ∧
      ∃ k, (t.port q).own = (a.port q).own ++ [mkCell 4 0 (a.pw Ob.red_peer_node) 0 k] ∧ leAt k 0 1 = 4) ∧
  ((∃ i, i < n ∧ smGet [] a.red.segs i = []) → exec (.ckptEnd p c) s = .next (a.spent p))

/-- CKPT_ACK (R411): the active head keeps which checkpoint its standby has acknowledged, by id and epoch, and changes nothing else. -/
def checkpointAcked : Prop := ∀ (s a : State) (p : Nat) (c : Cell), PeerCell s a p c 4 →
  exec (.ckptAck p c) s = .next { a.spent p with red := { a.red with acked := some (leAt c.payload 4 4, leAt c.payload 8 4) } }

/-- CKPT_STALE (R411): a checkpoint behind the peer for more than 2 s is flagged; with none behind nothing happens. -/
def checkpointStale : Prop := ∀ s : State, Up s →
  (∀ t0, s.red.staleAt = some t0 → s.past t0 2000000001 = true → ∃ t : State, exec .ckptStale s = .next t ∧ t.on 0 Ob.red_flags 8 = true ∧ t.red = s.red) ∧
  (s.red.staleAt = none → exec .ckptStale s = .next s)

/-- A ring head in STANDBY. -/
def Standby (s : State) : Prop := s.isRing = true ∧ s.pw Ob.red_head_state = 2

/-- What a declaration does to a standby (R412): ACTIVE since now where the peer has been silent for red_hb_loss_ms, else SPLIT; counted; it composes once its walk of the ring port is done. -/
structure Declared (s t : State) : Prop where
  state  : t.pw Ob.red_head_state = if (match s.red.heardAt with
    | some a => s.past a (s.pw Ob.red_hb_loss_ms * 1000000)
    | none => true) = true then 1 else 3
  since  : t.pw Ob.red_head_state = 1 → t.pw Ob.red_active_since = s.layNow
  count  : Counts s t 0 Ob.red_takeovers 1
  waits  : t.red.waits = true
  staged : t.staged = s.staged

/-- HANDOVER (R414) at a standby: as on a declaration; another head does nothing. -/
def handedOver : Prop := ∀ (s a : State) (p : Nat) (c : Cell), PeerCell s a p c 5 →
  (Standby a → ∃ t : State, exec (.handover p c) s = .next t ∧ Declared a t) ∧ (a.pw Ob.red_head_state ≠ 2 → exec (.handover p c) s = .next (a.spent p))

/-- RED_DECLARE (R412): a standby enters ACTIVE or SPLIT; any other head answers OK and stays. -/
def headDeclared : Prop := ∀ (s a : State) (m : Msg) (d : ObjDef), WritesOne s m d 0 → m.key = Ob.red_declare → d.acc = .wo → a = s.arrived m → a.clampVal 0 m.key d (decodeVal d.ty m.payload) = 1 →
  (Standby a → ∃ x : State, exec (.redDeclare m) s = .next (x.answer 0x02 m 0 d.ty.code []) ∧ Declared a x) ∧
  (a.pw Ob.red_head_state ≠ 2 → exec (.redDeclare m) s = .next (a.answer 0x02 m 0 d.ty.code []))

/-- ARBITER_DECLARE_REPEAT (R412), each 5 ms until OK: the declaration goes out again, with the same SEQ; once answered, or not declared, none does. -/
def declarationRepeats : Prop := ∀ s : State, Up s →
  (s.pw Ob.red_arb_state = 2 → s.red.arbOk = false → s.watches = true → s.due s.red.arbAt 5000000 = true → ∃ (t : State) (m : Msg), exec .arbiterDeclareRepeat s = .next t ∧
    t.sent = Output.request (s.pw Ob.red_standby_addr) 2 m :: s.sent ∧ m.key = Ob.red_declare ∧ m.seq = s.red.arbSeq ∧ m.payload = [1] ∧ t.red.arbAt = some s.now ∧ t.objs = s.objs) ∧
  ((s.pw Ob.red_arb_state ≠ 2 ∨ s.red.arbOk = true) → exec .arbiterDeclareRepeat s = .next s)

/-- SELF_DECLARE (R412): a standby that has heard no heartbeat for red_self_ms, where that is not 0, declares itself. -/
def selfDeclared : Prop := ∀ s : State, Up s →
  (∀ a, Standby s → s.pw Ob.red_self_ms ≠ 0 → s.red.heardAt = some a → s.past a (s.pw Ob.red_self_ms * 1000000) = true → ∃ t : State, exec .selfDeclare s = .next t ∧ Declared s t) ∧
  (s.pw Ob.red_self_ms = 0 → exec .selfDeclare s = .next s)

/-- JOINING_END (R408), 1 s after its ring port came into service: a head whose peer serves is STANDBY; else one with red_primary 1 is ACTIVE since now; else it goes on joining (what the spec leaves open here is the model's choice, log entry 71). -/
def joiningEnds : Prop := ∀ (s : State) (t0 : Nat), Up s → s.joinedAt = some t0 →
  (s.past t0 1000000000 = false → exec .joiningEnd s = .next s) ∧
  (s.past t0 1000000000 = true → s.peerServes = true → exec .joiningEnd s = .next (s.set Ob.red_head_state 2)) ∧
  (s.past t0 1000000000 = true → s.peerServes = false → s.on 0 Ob.red_primary = true → ∃ t : State, exec .joiningEnd s = .next t ∧ t.pw Ob.red_head_state = 1 ∧ t.pw Ob.red_active_since = s.layNow) ∧
  (s.past t0 1000000000 = true → s.peerServes = false → s.on 0 Ob.red_primary = false → exec .joiningEnd s = .next s)

/-- JOIN_NO_PEER_TIMEOUT (R408): 2 s later a head that has heard no serving peer is ACTIVE (what the spec leaves open here is the model's choice, log entry 71). -/
def joinTimesOut : Prop := ∀ (s : State) (t0 : Nat), Up s → s.joinedAt = some t0 →
  (s.past t0 3000000000 = true → s.peerServes = false → ∃ t : State, exec .joinNoPeerTimeout s = .next t ∧ t.pw Ob.red_head_state = 1 ∧ t.pw Ob.red_active_since = s.layNow) ∧
  (s.past t0 3000000000 = false → exec .joinNoPeerTimeout s = .next s)

/-! Chapter 15: the journal and updates -/

/-- JOURNAL_RECORD_WRITE (R423, R427, R429): the oldest waiting record is programmed where the journal stands, with the next SEQ; a failed program retires the sector and the record still waits; with none
waiting nothing happens. -/
def recordWritten : Prop := ∀ (s : State) (blank ok : Bool), Up s → s.journal.open_ = true → s.fwOn s.sup = true →
  (s.journal.queue = [] → exec (.journalRecordWrite blank ok) s = .next s) ∧
  (∀ e rest a, s.journal.queue = e :: rest → s.placeFor e.bytes = some a → blank = true → ok = true → ∃ t : State, exec (.journalRecordWrite blank ok) s = .next t ∧
    t.recs = s.recs ++ [s.recordAt a (s.journal.seq + 1) e] ∧ t.journal.queue = rest ∧ t.journal.seq = s.journal.seq + 1 ∧ t.journal.pos = a + e.bytes ∧
    (s.journal.bootDue = none → t = { s with journal := t.journal })) ∧
  (∀ e rest a, s.journal.queue = e :: rest → s.placeFor e.bytes = some a → ok = false → ∃ t : State, exec (.journalRecordWrite blank ok) s = .next t ∧ t.recs = s.recs ∧ e ∈ t.journal.queue ∧
    a / 4096 ∈ t.journal.bad ∧ (s.int 0 Ob.silt_bad_sectors < 65535 → t.int 0 Ob.silt_bad_sectors = s.int 0 Ob.silt_bad_sectors + 1) ∧ t.on 0 Ob.silt_flags 3 = true)

/-- TAMPING (R428) of a marked sector: one that holds no record is erased and counted; the live record of one is copied with a new SEQ and the old copy is gone. With nothing to tamp nothing happens. -/
def sectorTamped : Prop := ∀ s : State, Up s → s.journal.open_ = true → s.fwOn s.sup = true →
  (∀ n, s.journal.marked.find? (fun n => !(openGroup s.recs n)) = some n → (∀ r, r ∈ s.recs → n ∉ r.sectors) → ∃ t : State, exec .tamping s = .next t ∧ t.recs = s.recs ∧ n ∉ t.journal.marked ∧
    n ∉ t.journal.dirty ∧ Counts s t 0 Ob.silt_tamps 1) ∧
  (∀ n r a, s.journal.marked.find? (fun n => !(openGroup s.recs n)) = some n → s.recs = [r] → r.sectors = [n] → r.ent.group = none → r.ent.typ ≠ 6 → r.seq ≤ s.journal.seq →
    s.journal.seq + 1 < 18446744073709551616 → s.placeFor r.ent.bytes = some a → ∃ t : State, exec .tamping s = .next t ∧ t.recs = [s.recordAt a (s.journal.seq + 1) r.ent] ∧ n ∉ t.journal.marked ∧
    Counts s t 0 Ob.silt_tamps 1) ∧
  (s.tampSector = none → exec .tamping s = .next s)

/-- UPD_ABORT (R434): the staged image, its bitmap and its state are cleared, with an UPD_CLEAR record. -/
def updateAborted : Prop := ∀ (s a : State) (m : Msg) (d : ObjDef), WritesOne s m d 0 → m.key = Ob.upd_abort → d.acc = .wo → a = s.arrived m → a.clampVal 0 m.key d (decodeVal d.ty m.payload) = 1 →
  ∃ x : State, exec (.updAbort m) s = .next (x.answer 0x02 m 0 d.ty.code []) ∧ x.upd.bits = 0 ∧ x.upd.img = [] ∧ x.upd.passed = false ∧ x.upd.ram = none ∧ x.pw Ob.upd_state = 0 ∧ x.pw Ob.upd_image_id = 0 ∧
    x.pw Ob.upd_segments = 0 ∧ (∃ e, e ∈ x.journal.queue ∧ e.typ = 5) ∧ x.upd.slots = a.upd.slots

/-- UPD_VERIFY (R438) of a COMPLETE image, with every segment there: the image whose payload hash is right is READY and copied to the staging slot and to DRAM, upd_state 3; another has FAILED, upd_state 5 with
reason 9, and is cleared. In another state nothing happens. -/
def imageVerified : Prop := ∀ s : State, Up s → s.boot.recovery = false →
  (s.pw Ob.upd_state = 2 → s.upd.passed = true → s.journal.open_ = true → s.imgSegs ≤ popCount 2048 s.upd.bits → ∃ t : State, exec .updVerify s = .next t ∧
    t.pw Ob.upd_state = (if s.hashOk then 3 else 5) ∧
    (s.hashOk = true → t.upd.ram = some (s.pw Ob.upd_image_id, ofLe (s.imgBytes 16 4)) ∧ smGet (0, 0) t.upd.ids s.stageSlot = (s.pw Ob.upd_image_id, ofLe (s.imgBytes 16 4)) ∧
      smGet [] t.upd.slots s.stageSlot = smPutAll 0 [] 0 (s.imgBytes 0 s.imgSize)) ∧
    (s.hashOk = false → t.pw Ob.upd_reason = 9 ∧ t.upd.bits = 0 ∧ t.on 0 Ob.upd_flags 1 = true)) ∧
  ((s.pw Ob.upd_state ≠ 2 ∨ s.updWhole = false ∨ s.journal.open_ = false) → exec .updVerify s = .next s)

/-- FIRMWARE_SERVE (R393, R443): the die's firmware runs again and the host port of die 0 is free. With the last live die of an activation the boot sector that names the slot waits, and the journal takes up the
values from its moment on. A die that runs already changes nothing. -/
def firmwareServes : Prop := ∀ (s : State) (die : Nat), UpDie s die → s.boot.recovery = false →
  (s.fwOn die = false → s.upd.act = none → ∃ t : State, exec (.firmwareServe die) s = .next t ∧ t.fwOn die = true ∧ (∀ n, n ≠ die → t.fwOn n = s.fwOn n) ∧ (die = 0 → bit t.spi.hstat 0 = true) ∧
    t.upd = s.upd ∧ t.staged = s.staged) ∧
  (∀ a, s.fwOn die = false → s.upd.act = some a → s.past a.since 250000000 = false → bit a.serves die = false → (∀ n, n < s.dies → s.alive n = true → n ≠ die → bit a.serves n = true) →
    ∃ t : State, exec (.firmwareServe die) s = .next t ∧ t.fwOn die = true ∧ t.upd.act = some { a with serves := setBit a.serves die } ∧ t.upd.pause = some a.at_ ∧
      t.journal.bootDue = some ({ s.bootNext with slot := s.stageSlot }, true)) ∧
  (s.fwOn die = true → exec (.firmwareServe die) s = .next s)

/-- UPD_REVERTED (R444): an activation that a live die does not serve 250 ms after T is undone: the image before it is the running one again, kept in upd_activate; sooner, with every die serving, or with none
under way, nothing happens. -/
def updateReverts : Prop := ∀ s : State, Up s →
  (∀ a, s.upd.act = some a → s.past a.since 250000000 = true → (s.aliveList.all fun d => bit a.serves d) = false → ∃ t : State, exec .updReverted s = .next t ∧ t.upd.act = none ∧
    t.pw Ob.fw_image_id = s.upd.prev.1 ∧ t.pw Ob.fw_version = s.upd.prev.2.1 ∧ t.pw Ob.fw_slot = s.upd.prev.2.2 ∧ t.pw Ob.upd_activate = s.upd.prev.1 ∧ t.on 0 Ob.upd_flags 3 = true) ∧
  (∀ a, s.upd.act = some a → (s.past a.since 250000000 = false ∨ (s.aliveList.all fun d => bit a.serves d) = true) → exec .updReverted s = .next s) ∧
  (s.upd.act = none → exec .updReverted s = .next s)

/-- RECOVERY_DHCP_TIMEOUT (R445): after 10 s without DHCP in recovery mode the address is 169.254 and the last two bytes of mgmt_mac, neither 0 nor 255; sooner it stays. -/
def linkLocal : Prop := ∀ (s : State) (t0 : Nat), Up s → s.boot.recovery = true → s.boot.dhcpAt = some t0 →
  (s.past t0 10000000000 = true → ∃ (t : State) (x y : Nat), exec .recoveryDhcpTimeout s = .next t ∧ t.pw Ob.mgmt_ip_current = 0xA9FE0000 + x * 256 + y ∧
    x = (if s.fuses.mac / 256 % 256 = 0 then 1 else if s.fuses.mac / 256 % 256 = 255 then 254 else s.fuses.mac / 256 % 256) ∧
    y = (if s.fuses.mac % 256 = 0 then 1 else if s.fuses.mac % 256 = 255 then 254 else s.fuses.mac % 256) ∧ ObjsBut s t (fun k => k = Ob.mgmt_ip_current)) ∧
  (s.past t0 10000000000 = false → exec .recoveryDhcpTimeout s = .next s)

/-- DHCP_ADDRESS (R54, Table 2.12): the part takes the address; with mgmt_ip_mode 0 at its last reset and out of recovery it keeps its own. -/
def addressTaken : Prop := ∀ (s : State) (addr : Nat), Up s →
  ((s.boot.ipDhcp = true ∨ s.boot.recovery = true) → ∃ t : State, exec (.dhcpAddress addr) s = .next t ∧ t.pw Ob.mgmt_ip_current = addr % 4294967296 ∧ t.boot.dhcpAt = none ∧
    ObjsBut s t (fun k => k = Ob.mgmt_ip_current)) ∧
  (s.boot.ipDhcp = false → s.boot.recovery = false → exec (.dhcpAddress addr) s = .next s)

/-! Chapters 16 and 17: sensors, trims, supplies -/

/-- SENSOR_CONVERSION (R449-R451, R457), in the sensor's own slot of each 1 ms, once: the reading is shown, T_die is at least that of a valid sensor, a reading at or above therm_shutdown_c counts toward shutdown and another ends the count; one
out of the sensor's range marks it broken, and is flagged. Outside its slot, or of a sensor that does not exist, there is no reading. -/
def sensorConverts : Prop := ∀ (s : State) (die n : Nat) (v : Int) (go : Bool), UpDie s die → go = s.slotOpen die n →
  (n < 6 → go = true → ∃ t : State, exec (.sensorConversion die n v) s = .next t ∧ t.int die (Ob.therm_sensor_c + n) = v ∧
    smGet 0 (t.thermOf die).overs n = (if s.int 0 Ob.therm_shutdown_c ≤ v then smGet 0 (s.thermOf die).overs n + 1 else 0) ∧
    (s.on die Ob.therm_sensor_broken n = false → -880 ≤ v → v ≤ 2800 → smGet [] (s.thermOf die).hist n = [] → v ≤ t.int die Ob.therm_die_c) ∧
    (s.on die Ob.therm_sensor_broken n = false → (v < -880 ∨ 2800 < v) → t.on die Ob.therm_sensor_broken n = true ∧ t.on die Ob.therm_flags 2 = true)) ∧
  ((6 ≤ n ∨ go = false) → exec (.sensorConversion die n v) s = .next s)

/-- THERMAL_SHUTDOWN (R457, R459): a die with a sensor that read at or above the limit twice in a row switches off: its latch is set, it answers no more and FAULT_N has a source; with none it stays. -/
def dieShutsDown : Prop := ∀ (s : State) (die : Nat), UpDie s die → die < s.dies → s.on 0 Ob.therm_shut_part = false →
  ((s.thermOf die).overs.any (fun e => decide (2 ≤ e.2)) = true → ∃ t : State, exec (.thermalShutdown die) s = .next t ∧ t.on 0 Ob.therm_shut_dies die = true ∧ t.alive die = false ∧ t.fwOn die = false ∧
    bit t.faultSrc 1 = true ∧ (∀ n, n ≠ die → t.alive n = s.alive n)) ∧
  ((s.thermOf die).overs.any (fun e => decide (2 ≤ e.2)) = false → exec (.thermalShutdown die) s = .next s)

/-- SENSOR_BROKEN_CLEAR (R450): the bits written 1 are clear, the others stand, and the sensors of those written are judged from now on. -/
def brokenCleared : Prop := ∀ (s a : State) (m : Msg) (d : ObjDef) (die v : Nat), WritesOne s m d die → m.key = Ob.therm_sensor_broken → d.acc = .w1c → a = s.arrived m →
  v = (a.clampVal die m.key d (decodeVal d.ty m.payload)).toNat →
  ∃ x : State, exec (.sensorBrokenClear m) s = .next (x.answer 0x02 m 0 d.ty.code []) ∧ (∀ i, x.on die Ob.therm_sensor_broken i = (a.on die Ob.therm_sensor_broken i && !(bit v i))) ∧
    (∀ i, bit v i = true → a.on die Ob.therm_sensor_broken i = true → smGet [] (x.thermOf die).hist i = []) ∧ ObjsBut a x (fun k => k = fullKey die Ob.therm_sensor_broken) ∧
    x = { a with objs := x.objs, therm := x.therm }

/-- TRIM_EVALUATE (R462), each 10 ms: every converter finds its offset between its points at its temperature; sooner nothing happens. -/
def trimsEvaluated : Prop := ∀ (s : State) (die : Nat), UpDie s die →
  (s.due (s.thermOf die).evalAt 10000000 = true → ∃ t : State, exec (.trimEvaluate die) s = .next t ∧ (t.thermOf die).evalAt = some s.now ∧
    (∀ n, n < 30 → smGet 0 (t.thermOf die).offs n = trimBetween (s.trimTemp die n) (s.trimPoints die n)) ∧
    ObjsBut s t (fun k => ∃ n, n < 30 ∧ (k = fullKey die (Ob.trim_code + n) ∨ k = fullKey die (Ob.trim_pending + n))) ∧ t = { s with objs := t.objs, therm := t.therm }) ∧
  (s.due (s.thermOf die).evalAt 10000000 = false → exec (.trimEvaluate die) s = .next s)

/-- TRIM_PLL_STEP (R464), each 1 ms: a PLL bias code moves toward its target by 1 at most; sooner none moves. -/
def pllTrimSteps : Prop := ∀ (s : State) (die : Nat), UpDie s die →
  (s.due (s.thermOf die).pllAt 1000000 = true → ∃ t : State, exec (.trimPllStep die) s = .next t ∧ (∀ n, 16 ≤ n → n < 20 → t.nat die (Ob.trim_code + n) = toward (s.nat die (Ob.trim_code + n)) (s.trimTarget die n) 1) ∧
    ObjsBut s t (fun k => ∃ n, 16 ≤ n ∧ n < 20 ∧ (k = fullKey die (Ob.trim_code + n) ∨ k = fullKey die (Ob.trim_pending + n))) ∧ t = { s with objs := t.objs, therm := t.therm }) ∧
  (s.due (s.thermOf die).pllAt 1000000 = false → exec (.trimPllStep die) s = .next s)

/-- IDLE_CONVERSION_SLOT (R449, R464): in one of the two slots of 1 ms in which no sensor converts, the sensor-offset codes reach their converters; outside them nothing happens. -/
def offsetsReach : Prop := ∀ (s : State) (die : Nat), UpDie s die → (∀ n, 20 ≤ n → n < 26 → s.nat die (Ob.trim_code + n) ≤ 1023) →
  ((s.slotOpen die 6 = true ∨ s.slotOpen die 7 = true) → ∃ t : State, exec (.idleConversionSlot die) s = .next t ∧ (∀ n, 20 ≤ n → n < 26 → t.nat die (Ob.trim_code + n) = s.trimTarget die n) ∧
    ObjsBut s t (fun k => ∃ n, 20 ≤ n ∧ n < 26 ∧ (k = fullKey die (Ob.trim_code + n) ∨ k = fullKey die (Ob.trim_pending + n))) ∧
      t = { s with objs := t.objs, therm := t.therm }) ∧
  (s.slotOpen die 6 = false → s.slotOpen die 7 = false → exec (.idleConversionSlot die) s = .next s)

/-- BROWNOUT (R479) of 1 µs: the die is held until the next reset and answers no more; it is counted, kept and flagged. A shorter one does nothing. -/
def dieBrownsOut : Prop := ∀ (s : State) (die ns : Nat), Up s → die < s.dies → bit s.boot.heldDies die = false →
  (1000 ≤ ns → ∃ t : State, exec (.brownout die ns) s = .next t ∧ bit t.boot.heldDies die = true ∧ t.alive die = false ∧ t.on 0 Ob.pwr_brownout_dies die = true ∧
    t.pw Ob.pwr_brownouts = s.pw Ob.pwr_brownouts + 1 ∧ t.on 0 Ob.pwr_flags 0 = true) ∧
  (ns < 1000 → exec (.brownout die ns) s = .next s)

/-- BROWNOUT_RESTART (R479): with every die held, 1 ms of good rails restart the part as after PORST_N; less does nothing. -/
def brownoutEnds : Prop := ∀ (s : State) (ms : Nat) (env : BootEnv), Up s → (∀ n, n < s.dies → bit s.boot.heldDies n = true) →
  (1 ≤ ms → ∃ t : State, exec (.brownoutRestart { withinMs := ms, env := env }) s = .next t ∧ t.boot.held = false ∧ t.boot.heldDies = 0 ∧ t.boot.releaseAt = s.now ∧ t.boot.env = env ∧ t.staged = [] ∧ t.fuses = s.fuses ∧ t.pending = s.pending) ∧
  (ms < 1 → exec (.brownoutRestart { withinMs := ms, env := env }) s = .next s)

/-! The part as a whole -/

/-- A step with a command waiting runs the command at the front, with the queue's rest. -/
def stepRunsFront : Prop := ∀ (s : State) (c : Instr) (rest : List Instr), s.pending = c :: rest → step s = exec c { s with pending := rest }

/-- A step on an empty queue is one nanosecond (log entry 8, the model's choice): REFCLK time moves on by one. Held in reset nothing else changes; out of reset Lay time moves by 1 ns and the servo's frequency
word where no trim or slew is under way, and on a part with nothing to send, compose, process, correct or write to a boot sector nothing but its clocks moves. -/
def idleTicks : Prop := ∀ (s : State), s.pending = [] → ∃ t : State, step s = .next t ∧ t.now = s.now + 1 ∧ t.staged = s.staged ∧ t.fuses = s.fuses ∧ t.pending = [] ∧
  (s.boot.held = true → t = { s with now := s.now + 1 }) ∧
  (s.boot.held = false → s.lay.slew = 0 → s.lay.trim = 0 → s.lay.word = s.lay.freq → t.lay.fine = ((s.lay.fine : Int) + 281474976710656 + s.lay.word).toNat) ∧
  (s.boot.held = false → (∀ p, p ∈ s.portList → s.sendingLanes p = []) → s.comp.works = [] → s.cam.lines = [] → s.cam.queue = [] → s.tile.rx = [] → s.journal.bootDue = none →
    t = { s with now := t.now, lay := t.lay })

/-- Reset: every object reads its default where no rule of its own gives it a value, PORST_N is held, no firmware runs, no die answers, nothing waits, every memory is empty (what the spec leaves open here is the model's choice, log entry 3). -/
def resetHolds : Prop := State.reset.boot.held = true ∧ State.reset.fw = 0 ∧ State.reset.pending = [] ∧ State.reset.mem = [] ∧ State.reset.sent = [] ∧ State.reset.commit = cIdle ∧
  (∀ die key, State.reset.int die key = objDflt key) ∧ (∀ die, State.reset.alive die = false) ∧ State.reset.memWf = true

/-- The part that State.reset describes is a ZW-880 of revision 0xA0 (log entry 2, the model's choice of fuses): its identity word is that of Table 0.2's worked example. -/
def resetIdentity : Prop := State.reset.identity = 0x5A1688A0

/-- State.reset is a part held in reset. -/
def resetIsDormant : Prop := Dormant State.reset

/-- Whatever waits in its queue, a part held in reset stays so until PORST_N is released: every object outside the always-on domain keeps its default (Table 13.3). -/
def dormantKept : Prop := ∀ s t : State, Dormant s → step s = .next t → Dormant t

/-- The commands that concern a part in reset: its release, the two events that put it into reset, and WARMRST_N, which joins the causes of the reset (R394). -/
def actsHeld : Instr → Bool
  | .porstRelease _ | .porstNAssert | .vauxLoss | .warmrstN .. => true
  | _ => false

/-- While PORST_N is held no other command has an effect. -/
def heldIgnores : Prop := ∀ (s : State) (c : Instr), s.boot.held = true → actsHeld c = false → exec c s = .next s

/-- The commands that end boundary scan: the events that put the part into reset. -/
def endsScan : Instr → Bool
  | .porstNAssert | .vauxLoss | .warmrstN .. | .brownoutRestart _ => true
  | _ => false

/-- In boundary scan, out of reset, no other command has an effect. -/
def scanIgnores : Prop := ∀ (s : State) (c : Instr), s.boot.held = false → s.boot.scan = true → endsScan c = false → exec c s = .next s

/-- The commands of chapter 12 that act on the memories. -/
def memoryRow : Instr → Bool
  | .sramRequest .. | .sliceRetention .. | .sliceWakeComplete .. | .bistWordTest .. | .dramArbitrationRound .. | .commandPick .. | .dramRefresh .. | .masterReset ..
  | .dramSelfRefreshEntry .. | .dramSelfRefreshExit .. | .dramDriftCheck .. | .dramForcedExit .. | .dlyPending .. | .sweepDone .. => true
  | _ => false

/-- Every command on the memories keeps their canonical form, in which equal contents are equal data. -/
def memoryKept : Prop := ∀ (s t : State) (c : Instr), memoryRow c = true → s.memWf = true → exec c s = .next t → t.memWf = true

/-- The row that names a WRITE of one object is that WRITE: the message of a row, where the message addresses the row's object with the row's value. -/
def asWrite : Instr → Option Msg
  | .layRootHandback m => if m.key = Ob.lay_root_handback then some m else none
  | .layStepAccept m => if m.key = Ob.lay_step_accept then some m else none
  | .layTimeSet m => if m.key = Ob.lay_time_set then some m else none
  | .txSleepSet m => if inKeys m.key 0x2008 0x2008 1 8 && bit (leAt m.payload 0 1) 0 then some m else none
  | .txSleepClear m => if inKeys m.key 0x2008 0x2008 1 8 && !(bit (leAt m.payload 0 1) 0) then some m else none
  | .rxSleepSet m => if inKeys m.key 0x2008 0x2008 1 8 && bit (leAt m.payload 0 1) 1 then some m else none
  | .rxSleepClear m => if inKeys m.key 0x2008 0x2008 1 8 && !(bit (leAt m.payload 0 1) 1) then some m else none
  | .loopOff m => if inKeys m.key 0x2020 0x2020 1 8 && leAt m.payload 0 1 = 0 then some m else none
  | .nearEndSerialLoop m => if inKeys m.key 0x2020 0x2020 1 8 && leAt m.payload 0 1 = 1 then some m else none
  | .nearEndParallelLoop m => if inKeys m.key 0x2020 0x2020 1 8 && leAt m.payload 0 1 = 2 then some m else none
  | .farEndLoopRequest m => if inKeys m.key 0x2020 0x2020 1 8 && leAt m.payload 0 1 = 3 then some m else none
  | .prbsGen m => if inKeys m.key 0x2022 0x2022 1 8 then some m else none
  | .prbsChk m => if inKeys m.key 0x2023 0x2023 1 8 then some m else none
  | .lanePairMode m => if m.key = Ob.lane_pair_mode then some m else none
  | .enumStart m => if m.key = Ob.enum_start then some m else none
  | .enumIdForget m => if m.key = Ob.enum_id_forget then some m else none
  | .knotAck m => if m.key = Ob.knot_ack then some m else none
  | .composeApply m => if m.key = Ob.compose_apply then some m else none
  | .capArm m => if inKeys m.key 0x5300 0x533F 8 8 then some m else none
  | .capRelease m => if inKeys m.key 0x5300 0x533F 14 14 then some m else none
  | .corrPatch m => if m.key = Ob.corr_patch then some m else none
  | .rgRowFaultClear m => if inKeys m.key 0x7010 0x7013 26 26 then some m else none
  | .rgOutFaultClear m => if inKeys m.key 0x7010 0x7013 27 27 then some m else none
  | .rgSrMode m => if inKeys m.key 0x7010 0x7013 14 14 then some m else none
  | .faultWrite m => if m.key = Ob.fault_write then some m else none
  | .fgBlankedClear m => if inKeys m.key 0x7D00 0x7DFF 6 6 then some m else none
  | .sramSliceMode m => if inKeys m.key 0x8002 0x8002 1 8 then some m else none
  | .bistStop m => if m.key = Ob.sram_bist_mode && leAt m.payload 0 1 = 0 then some m else none
  | .bistContinuous m => if m.key = Ob.sram_bist_mode && leAt m.payload 0 1 = 1 then some m else none
  | .bistOnePass m => if m.key = Ob.sram_bist_mode && leAt m.payload 0 1 = 2 then some m else none
  | .dramMaintSweep m => if m.key = Ob.dram_maint_sweep then some m else none
  | .partResetWarm r => if r.msg.key = Ob.part_reset && leAt r.msg.payload 0 1 = 1 then some r.msg else none
  | .controlCoreRestart m => if m.key = Ob.part_reset && leAt m.payload 0 1 = 2 then some m else none
  | .redSupRejoin m => if m.key = Ob.red_sup_rejoin then some m else none
  | .redDeclare m => if m.key = Ob.red_declare then some m else none
  | .updAbort m => if m.key = Ob.upd_abort then some m else none
  | .sensorBrokenClear m => if m.key = Ob.therm_sensor_broken then some m else none
  | _ => none

/-- A row that names a WRITE of one object does what that WRITE does, for every state and message; PART_RESET_WARM beside it tells the straps and devices, and is that WRITE where they are as last told (log entry 168, the model's choice). -/
def rowsAreWrites : Prop := ∀ (s : State) (c : Instr) (m : Msg), asWrite c = some m → (∀ r, c = .partResetWarm r → r.env = s.boot.pins) → exec c s = exec (.write m) s

/-- READ of the identity object (R5): under every die field the part has, and under 0xF, the one identity word, once. -/
def identityRead : Prop := ∀ (s : State) (m : Msg), Served s 0x01 m → m.key = Ob.identity → (m.die < s.dies ∨ m.die = 15) →
  exec (.read m) s = .next ((s.arrived m).answer 0x01 m 0 4 (leBytes 4 s.identity))

/-- A die field that names no die of the part (R38), 0x8 to 0xE among them, is answered UNKNOWN_INDEX by every opcode that addresses an object; nothing is done. -/
def dieUnknown : Prop := ∀ (s : State) (m : Msg), s.dies ≤ m.die → m.die ≠ 15 →
  (Served s 0x01 m → exec (.read m) s = .next ((s.arrived m).answer 0x01 m 0x01 (replyTy 0x01 m) [])) ∧
  (Served s 0x02 m → badWrite m = false → exec (.write m) s = .next ((s.arrived m).answer 0x02 m 0x01 (replyTy 0x02 m) [])) ∧
  (Served s 0x03 m → exec (.readSeg m) s = .next ((s.arrived m).answer 0x03 m 0x01 (replyTy 0x03 m) [])) ∧
  (Served s 0x04 m → exec (.writeSeg m) s = .next ((s.arrived m).answer 0x04 m 0x01 (replyTy 0x04 m) []))

/-- READ_SEG and WRITE_SEG of an object that is no BLOB, or of a per-die BLOB with die field 0xF (R496): ACCESS_VIOLATION, and nothing changes but the count of requests. A per-die BLOB is transferred die by
die: a READ_SEG with die field 0 to 7 answers that die's bytes, and a WRITE_SEG that is taken puts its bytes into that die's transfer, and leaves every other die's transfer and value as they are. -/
def segNeedsBlob : Prop := ∀ (s : State) (m : Msg) (d : ObjDef), (s.arrived m).found m = some d →
  ((d.ty ≠ .blob ∨ (d.perDie = true ∧ m.die = 15)) →
    (Served s 0x03 m → exec (.readSeg m) s = .next ((s.arrived m).answer 0x03 m 0x02 (replyTy 0x03 m) [])) ∧
    (Served s 0x04 m → exec (.writeSeg m) s = .next ((s.arrived m).answer 0x04 m 0x02 (replyTy 0x04 m) []))) ∧
  (Served s 0x03 m → d.ty = .blob → d.perDie = true → m.die ≠ 15 → d.acc ≠ .wo → (s.arrived m).answers m.die = true → leAt m.payload 4 2 ≠ 0 →
    leAt m.payload 0 4 + leAt m.payload 4 2 ≤ (s.arrived m).blobSize m.key →
    exec (.readSeg m) s = .next ((s.arrived m).answer 0x03 m 0 (replyTy 0x03 m)
      (leBytes 4 (leAt m.payload 0 4) ++ (s.arrived m).readBytes m.die m.key (leAt m.payload 0 4) (leAt m.payload 4 2) d.acc false))) ∧
  (Served s 0x04 m → d.perDie = true → (s.arrived m).segTarget m true = (0, some d) → m.key ≠ Ob.corr_patch →
    (∀ h, ((s.arrived m).xfer (fullKey m.die m.key)).holder = some h → h = m.session) → leAt m.payload 0 4 ≤ ((s.arrived m).xfer (fullKey m.die m.key)).fill →
    ∃ x : State, exec (.writeSeg m) s = .next (x.answer 0x04 m 0 (replyTy 0x04 m) (leBytes 4 (x.xfer (fullKey m.die m.key)).fill)) ∧
      (∀ i, i < m.payload.length - 4 → leAt m.payload 0 4 + i < (s.arrived m).blobSize m.key →
        smGet 0 (x.xfer (fullKey m.die m.key)).buf (leAt m.payload 0 4 + i) = (m.payload.drop 4).getD i 0) ∧
      (∀ n, n < 8 → n ≠ m.die → x.xfer (fullKey n m.key) = (s.arrived m).xfer (fullKey n m.key) ∧
        smGet .dflt x.objs (fullKey n m.key) = smGet .dflt (s.arrived m).objs (fullKey n m.key) ∧ smGet .dflt x.staged (fullKey n m.key) = smGet .dflt (s.arrived m).staged (fullKey n m.key)))

/-- In PREPARING, READY and ARMED (R68) a WRITE of any rws object is answered BUSY, and so is a WRITE_SEG to an rws BLOB: nothing staged changes. -/
def votedSetHeld : Prop := ∀ (s : State) (m : Msg) (d : ObjDef), (s.arrived m).found m = some d → d.acc = .rws →
  ((s.arrived m).commit = cPreparing ∨ (s.arrived m).commit = cReady ∨ (s.arrived m).commit = cArmed) → ¬ (d.ty = .blob ∧ d.perDie = true ∧ m.die = 15) →
  (Served s 0x02 m → badWrite m = false → exec (.write m) s = .next ((s.arrived m).answer 0x02 m 0x03 (replyTy 0x02 m) [])) ∧
  (Served s 0x04 m → d.ty = .blob → exec (.writeSeg m) s = .next ((s.arrived m).answer 0x04 m 0x03 (replyTy 0x04 m) []))

/-- A WRITE with die field 0xF of a per-die staged object (R64): each die that answers stages the value, clamped; a die that does not keeps what it had and has its bit in FAIL; OK with no bit, else PARTIAL. -/
def writeEveryDie : Prop := ∀ (s : State) (m : Msg) (d : ObjDef), Served s 0x02 m → (s.arrived m).found m = some d → badWrite m = false → (s.arrived m).locked d m = false →
  d.ty ≠ .blob → d.ty ≠ .str → d.acc = .rws → d.perDie = true → m.die = 15 → (∀ n, n < s.dies → (s.arrived m).absent n m.key = false) → (∃ n, n < s.dies ∧ (s.arrived m).answers n = true) →
  ∃ (x : State) (fail : Nat), exec (.write m) s = .next (x.answer 0x02 m (if fail = 0 then 0 else 0x04) d.ty.code [byteOf fail]) ∧
    (∀ n, bit fail n = (decide (n < s.dies) && !((s.arrived m).answers n))) ∧
    (∀ n, n < s.dies → x.stagedInt n m.key = if (s.arrived m).answers n then (s.arrived m).clampVal n m.key d (decodeVal d.ty m.payload) else (s.arrived m).stagedInt n m.key) ∧
    ObjsBut (s.arrived m) x (fun k => k = Ob.commit_state) ∧ x = { s.arrived m with objs := x.objs, staged := x.staged }

/-- Every command is executed: whatever the state and its operands, exec answers a next state; the one that may end in a fault is a round of DRAM arbitration, and it answers a next state on every list of
requests for rows that the device has. What the next state is the statements about each command say. -/
def allAnswer : Prop := ∀ (s : State) (c : Instr), (∀ die ch reqs, c = .dramArbitrationRound die ch reqs → ∀ r, r ∈ reqs → s.reqFitted die ch r = true) → ∃ t : State, exec c s = .next t

end Sys2Proof.Claims

/-- READ_SEG of bytes and of FILL, and PING: what each answers. Exec answers a next state, on conditions on the state and the operands alone, for: readSeg, ping. -/
def Obligations.SegmentsAreReadAndPingAnswers : Prop :=
  Sys2Proof.Claims.readSegBytes ∧
  Sys2Proof.Claims.readSegFill ∧
  Sys2Proof.Claims.pingAnswers

/-- WRITE and WRITE_SEG: a staged value waits, a plain one is in force, a refused one changes nothing. Exec answers a next state, on conditions on the state and the operands alone, for: write, writeSeg. -/
def Obligations.WritesStageOrTakeEffect : Prop :=
  Sys2Proof.Claims.writeStaged ∧
  Sys2Proof.Claims.writePlain ∧
  Sys2Proof.Claims.writeRefused ∧
  Sys2Proof.Claims.writeSegTakes ∧
  Sys2Proof.Claims.writeSegRefused

/-- PREPARE, LAUNCH, ABORT and DISCARD. Exec answers a next state, on conditions on the state and the operands alone, for: prepare, launch, abort, discard. -/
def Obligations.CommitCommandsMoveTheVote : Prop :=
  Sys2Proof.Claims.prepareBegins ∧
  Sys2Proof.Claims.launchArms ∧
  Sys2Proof.Claims.launchRefused ∧
  Sys2Proof.Claims.abortReturns ∧
  Sys2Proof.Claims.discardDrops

/-- Unlisted opcodes, answers out and back, mailboxes, relays and responses. Exec answers a next state, on conditions on the state and the operands alone, for: unlistedOpcode, corrixRelay, corrixResponseRelay. -/
def Obligations.RequestsAreRelayedAndAnswered : Prop :=
  Sys2Proof.Claims.unlistedAnswered ∧
  Sys2Proof.Claims.answerOut ∧
  Sys2Proof.Claims.answerMailbox ∧
  Sys2Proof.Claims.answerCell ∧
  Sys2Proof.Claims.relayFromHost ∧
  Sys2Proof.Claims.responseReturns

/-- Broadcasts, their repeats, and the timeouts of relays, broadcasts and holds. Exec answers a next state, on conditions on the state and the operands alone, for: broadcast, relayEntryExpiry, bcastRecordExpiry, blobHoldRelease. -/
def Obligations.BroadcastsSpreadAndRelaysExpire : Prop :=
  Sys2Proof.Claims.broadcastSpreads ∧
  Sys2Proof.Claims.broadcastRepeat ∧
  Sys2Proof.Claims.relayExpires ∧
  Sys2Proof.Claims.bcastExpires ∧
  Sys2Proof.Claims.holdEnds

/-- The host SPI target, HCTL, and ARP and ICMP on the management port. Exec answers a next state, on conditions on the state and the operands alone, for: hostSpiRead, hostSpiWrite, hostSpiIgnoredCommand, hctlSend, hctlFreeResponse, arpIcmpRequest. -/
def Obligations.HostPortsTakeTheirTransactions : Prop :=
  Sys2Proof.Claims.spiReads ∧
  Sys2Proof.Claims.spiWrites ∧
  Sys2Proof.Claims.spiIgnores ∧
  Sys2Proof.Claims.hctlSends ∧
  Sys2Proof.Claims.hctlFrees ∧
  Sys2Proof.Claims.arpIcmpAnswered

/-- The end of a vote, its timeout, and the moment a commit takes effect. Exec answers a next state, on conditions on the state and the operands alone, for: voteComplete, voteTimeout, commitApply. -/
def Obligations.VotesEndAndCommitsApply : Prop :=
  Sys2Proof.Claims.voteEnds ∧
  Sys2Proof.Claims.voteTimesOut ∧
  Sys2Proof.Claims.commitApplies

/-- LAY_SYNC cells: the listening window, a first sync, the servo and its outliers. Exec answers a next state, on conditions on the state and the operands alone, for: rootListenExpiry, syncReceive. -/
def Obligations.LayTimeIsAcquired : Prop :=
  Sys2Proof.Claims.listenEnds ∧
  Sys2Proof.Claims.syncSteers ∧
  Sys2Proof.Claims.syncAtRoot ∧
  Sys2Proof.Claims.badLayCell ∧
  Sys2Proof.Claims.servoFree ∧
  Sys2Proof.Claims.servoSteers ∧
  Sys2Proof.Claims.servoOutlier

/-- SYNC, DELAY_REQ and DELAY_RESP: sent, answered, measured, given up. Exec answers a next state, on conditions on the state and the operands alone, for: syncSend, delayReqReceive, delayRespReceive, delayReqMissing. -/
def Obligations.LayCellsMeasureTheDelay : Prop :=
  Sys2Proof.Claims.syncSent ∧
  Sys2Proof.Claims.delayReqSent ∧
  Sys2Proof.Claims.delayAnswered ∧
  Sys2Proof.Claims.delayMeasured ∧
  Sys2Proof.Claims.delayGivenUp

/-- Loss of the upstream, the backup root and the hand-back. Exec answers a next state, on conditions on the state and the operands alone, for: upstreamLoss, rootTakeover, layRootHandback, handbackEnd. -/
def Obligations.RootsHandOver : Prop :=
  Sys2Proof.Claims.upstreamHolds ∧
  Sys2Proof.Claims.backupTakes ∧
  Sys2Proof.Claims.handbackBegins ∧
  Sys2Proof.Claims.handbackEnds

/-- References of the root: qualified, lost, measured, drifting. Exec answers a next state, on conditions on the state and the operands alone, for: refQualify, refLost, refMonitorMeasure, refDrift. -/
def Obligations.ReferencesAreJudged : Prop :=
  Sys2Proof.Claims.refQualifies ∧
  Sys2Proof.Claims.refLoses ∧
  Sys2Proof.Claims.refMeasures ∧
  Sys2Proof.Claims.refDrifts

/-- lay_step_accept, lay_time_set and the step itself. Exec answers a next state, on conditions on the state and the operands alone, for: layStepAccept, layTimeSet, stepApplied. -/
def Obligations.LayTimeSteps : Prop :=
  Sys2Proof.Claims.stepAccepted ∧
  Sys2Proof.Claims.timeSetSteps ∧
  Sys2Proof.Claims.stepHappens

/-- PTP, time stamps, LAY_EVT edges, PPS and FSYNC captures, the grid and the Braid hold. Exec answers a next state, on conditions on the state and the operands alone, for: ptpMessageReceive, ptpEventTx, ptpTxtsAged, layEvtEdge, ppsInCapture, fsyncInCapture, braidHoldover. -/
def Obligations.TimeReachesPinsAndWire : Prop :=
  Sys2Proof.Claims.ptpSyncSets ∧
  Sys2Proof.Claims.txtsPlaced ∧
  Sys2Proof.Claims.txtsAge ∧
  Sys2Proof.Claims.evtEdges ∧
  Sys2Proof.Claims.ppsCaptured ∧
  Sys2Proof.Claims.fsyncCaptured ∧
  Sys2Proof.Claims.gridNearest ∧
  Sys2Proof.Claims.braidHolds

/-- A lane from start to service: squelch, CDR, equaliser, block lock, markers, skew. Exec answers a next state, on conditions on the state and the operands alone, for: laneTxStart, squelchOpen, cdrLock, equaliserConverged, markerCandidate, markerLock, laneInService. -/
def Obligations.LanesComeUp : Prop :=
  Sys2Proof.Claims.laneStarts ∧
  Sys2Proof.Claims.squelchOpens ∧
  Sys2Proof.Claims.squelchWakes ∧
  Sys2Proof.Claims.cdrLocks ∧
  Sys2Proof.Claims.equaliserConverges ∧
  Sys2Proof.Claims.candidateJoins ∧
  Sys2Proof.Claims.markerLocks ∧
  Sys2Proof.Claims.laneServes ∧
  Sys2Proof.Claims.laneSkewed

/-- Markers sent on a lane, and a lane that loses its signal. Exec answers a next state, on conditions on the state and the operands alone, for: alignmentMarkerSend, signalLost. -/
def Obligations.MarkersLeaveAndSignalsAreLost : Prop :=
  Sys2Proof.Claims.markerLeaves ∧
  Sys2Proof.Claims.signalLoses

/-- Lost codewords, dropped lanes and their return, the symbol error ratio, degraded reports. Exec answers a next state, on conditions on the state and the operands alone, for: fecUncorrectable, dropped, droppedLaneReturn, laneSerUpdate, degradedReport. -/
def Obligations.LanesDegradeDropAndReturn : Prop :=
  Sys2Proof.Claims.codewordLost ∧
  Sys2Proof.Claims.laneDrops ∧
  Sys2Proof.Claims.laneReturns ∧
  Sys2Proof.Claims.serReads ∧
  Sys2Proof.Claims.serDegrades ∧
  Sys2Proof.Claims.degradedReports

/-- lane_sleep and lane_loop: each value written, and the end of a loop. Exec answers a next state, on conditions on the state and the operands alone, for: txSleepSet, txSleepClear, rxSleepSet, rxSleepClear, nearEndSerialLoop, nearEndParallelLoop, farEndLoopRequest, loopOff. -/
def Obligations.LanesSleepAndLoop : Prop :=
  Sys2Proof.Claims.txSleepSets ∧
  Sys2Proof.Claims.txSleepClears ∧
  Sys2Proof.Claims.rxSleepSets ∧
  Sys2Proof.Claims.rxSleepClears ∧
  Sys2Proof.Claims.loopsBegin ∧
  Sys2Proof.Claims.loopEnds

/-- lane_prbs_gen and lane_prbs_chk, the checker, and the far-end loop. Exec answers a next state, on conditions on the state and the operands alone, for: prbsGen, prbsChk, feLoopRefused, prbsSync, prbsResync. -/
def Obligations.LanesSendAndCheckPatterns : Prop :=
  Sys2Proof.Claims.patternSent ∧
  Sys2Proof.Claims.checkerSet ∧
  Sys2Proof.Claims.farEndRefused ∧
  Sys2Proof.Claims.checkerSyncs ∧
  Sys2Proof.Claims.checkerResyncs

/-- lane_pair_mode, 25GBASE-R link and frames. Exec answers a next state, on conditions on the state and the operands alone, for: lanePairMode, ethLinkUp, ethFrameReceive. -/
def Obligations.PairsCarryEthernet : Prop :=
  Sys2Proof.Claims.pairSwitches ∧
  Sys2Proof.Claims.ethLinks ∧
  Sys2Proof.Claims.ethFrames

/-- Idle and data blocks, framing loss, whole cells forwarded, own cells sent. Exec answers a next state, on conditions on the state and the operands alone, for: cellReceive, cellForward, ownCellSend. -/
def Obligations.CellsAreFramedAndForwarded : Prop :=
  Sys2Proof.Claims.idleFrames ∧
  Sys2Proof.Claims.blocksJoin ∧
  Sys2Proof.Claims.framingLost ∧
  Sys2Proof.Claims.cellForwards ∧
  Sys2Proof.Claims.ownCellLeaves

/-- PIXEL, CHECK, CANVAS and IMAGE cells at a part. Exec answers a next state, on conditions on the state and the operands alone, for: pixelCellReceive, checkCellReceive, canvasCellReceive, imageCellReceive. -/
def Obligations.PixelCellsReachTheTile : Prop :=
  Sys2Proof.Claims.pixelTaken ∧
  Sys2Proof.Claims.pixelDropped ∧
  Sys2Proof.Claims.checkTaken ∧
  Sys2Proof.Claims.canvasKept ∧
  Sys2Proof.Claims.imageConsumed

/-- WALK, REPORT and DONE cells of an enumeration. Exec answers a next state, on conditions on the state and the operands alone, for: walk, walkEndAtHead, report, done, walkAfterService. -/
def Obligations.WalksEnumerate : Prop :=
  Sys2Proof.Claims.walkPasses ∧
  Sys2Proof.Claims.walkEnds ∧
  Sys2Proof.Claims.reportJoins ∧
  Sys2Proof.Claims.doneRecords ∧
  Sys2Proof.Claims.walkFollows

/-- enum_start, its repeats and timeout, enum_id_forget, and the routes of heads. Exec answers a next state, on conditions on the state and the operands alone, for: enumStart, enumPeriodExpiry, enumTimeout, enumIdForget, routeSend, route, routeExpiry, idConflict. -/
def Obligations.EnumerationsAndRoutesAreKept : Prop :=
  Sys2Proof.Claims.enumStarts ∧
  Sys2Proof.Claims.enumRepeats ∧
  Sys2Proof.Claims.enumTimesOut ∧
  Sys2Proof.Claims.idForgotten ∧
  Sys2Proof.Claims.routeSent ∧
  Sys2Proof.Claims.routeKept ∧
  Sys2Proof.Claims.routesExpire ∧
  Sys2Proof.Claims.conflictFlags

/-- EVENT knots: joined, merged, flushed, delivered, acknowledged. Exec answers a next state, on conditions on the state and the operands alone, for: knotCellReceive, knotFlush, knotAck. -/
def Obligations.KnotsCarryEvents : Prop :=
  Sys2Proof.Claims.knotJoins ∧
  Sys2Proof.Claims.knotsMerge ∧
  Sys2Proof.Claims.knotsFlush ∧
  Sys2Proof.Claims.knotDelivered ∧
  Sys2Proof.Claims.knotsAcked

/-- A head: composition starts, due applies, descriptors, segments, the launch cache, the ring. Exec answers a next state, on conditions on the state and the operands alone, for: sendStart, descriptorPost, segmentWrite, ringCacheLoad, ringPick. -/
def Obligations.HeadsPackAndSend : Prop :=
  Sys2Proof.Claims.sendStarts ∧
  Sys2Proof.Claims.applyDue ∧
  Sys2Proof.Claims.descriptorPosted ∧
  Sys2Proof.Claims.segmentWritten ∧
  Sys2Proof.Claims.cacheLoaded ∧
  Sys2Proof.Claims.ringPicked

/-- A tile: correction begins, the verdict, the launch, late starts and lines. Exec answers a next state, on conditions on the state and the operands alone, for: correctionBegin, regionVerdict, viewFrameLaunch, lateStart, lineStart. -/
def Obligations.ViewFramesAreCorrectedAndLaunched : Prop :=
  Sys2Proof.Claims.correctionBegins ∧
  Sys2Proof.Claims.verdictGiven ∧
  Sys2Proof.Claims.launchRecorded ∧
  Sys2Proof.Claims.launchStarts ∧
  Sys2Proof.Claims.lateStarts ∧
  Sys2Proof.Claims.lineStarts

/-- Sources: frames, packets, skew, damage, staleness; compose_apply. Exec answers a next state, on conditions on the state and the operands alone, for: sourceFrameComplete, st2110PacketReceive, mergeSkew, sourceDamaged, sourceStale, composeApply. -/
def Obligations.SourcesComplete : Prop :=
  Sys2Proof.Claims.frameCompletes ∧
  Sys2Proof.Claims.packetTaken ∧
  Sys2Proof.Claims.skewExceeded ∧
  Sys2Proof.Claims.frameDamaged ∧
  Sys2Proof.Claims.sourceStales ∧
  Sys2Proof.Claims.applyScheduled

/-- Camera streams: Frame Start, lines, Frame End, timeouts, the memory path, the link. Exec answers a next state, on conditions on the state and the operands alone, for: frameStart, frameEnd, longPacket, frameTimeout, memoryFrameProcessed, linkLost. -/
def Obligations.CameraFramesAreTaken : Prop :=
  Sys2Proof.Claims.frameStarts ∧
  Sys2Proof.Claims.frameSkipped ∧
  Sys2Proof.Claims.headersJudged ∧
  Sys2Proof.Claims.lineTaken ∧
  Sys2Proof.Claims.frameEnds ∧
  Sys2Proof.Claims.frameTimesOut ∧
  Sys2Proof.Claims.memoryFrameDone ∧
  Sys2Proof.Claims.linkIsLost

/-- Capture slots: armed, released, triggered, timed out. Exec answers a next state, on conditions on the state and the operands alone, for: capArm, capRelease, capTrigger, capWindowTimeout. -/
def Obligations.CapturesAreArmedAndTaken : Prop :=
  Sys2Proof.Claims.slotArmed ∧
  Sys2Proof.Claims.slotReleased ∧
  Sys2Proof.Claims.slotTriggers ∧
  Sys2Proof.Claims.windowCloses

/-- corr_patch, patches at a frame boundary, and the shift of a line. Exec answers a next state, on conditions on the state and the operands alone, for: corrPatch, patchApply, shiftLineBegin, shiftComplete. -/
def Obligations.PatchesAndShiftsProceed : Prop :=
  Sys2Proof.Claims.patchQueued ∧
  Sys2Proof.Claims.patchesApply ∧
  Sys2Proof.Claims.shiftBegins ∧
  Sys2Proof.Claims.shiftCompletes

/-- Row shorts, output faults and their clearing, readback and its records. Exec answers a next state, on conditions on the state and the operands alone, for: rowShort, rgRowFaultClear, outFault, rgOutFaultClear, readback, readbackRecord. -/
def Obligations.ChainFaultsStopOutputs : Prop :=
  Sys2Proof.Claims.rowShorts ∧
  Sys2Proof.Claims.rowFaultClears ∧
  Sys2Proof.Claims.outFaults ∧
  Sys2Proof.Claims.outFaultClears ∧
  Sys2Proof.Claims.readbackSent ∧
  Sys2Proof.Claims.recordChecked

/-- Readings of a lamp, fault_write, function groups, self-refresh, the raster tolerance. Exec answers a next state, on conditions on the state and the operands alone, for: srEntered, rgSrMode, rasterToleranceUpdate, faultWrite, fgBlankedClear. -/
def Obligations.LampFaultsAndSelfRefresh : Prop :=
  Sys2Proof.Claims.readingMoves ∧
  Sys2Proof.Claims.srEnters ∧
  Sys2Proof.Claims.srModeSet ∧
  Sys2Proof.Claims.toleranceStated ∧
  Sys2Proof.Claims.faultWritten ∧
  Sys2Proof.Claims.blankLifted

/-- SRAM requests, collisions, slices in and out of retention. Exec answers a next state, on conditions on the state and the operands alone, for: sramRequest, sliceRetention, sliceWakeComplete, sramSliceMode. -/
def Obligations.SramServesItsPorts : Prop :=
  Sys2Proof.Claims.sramServed ∧
  Sys2Proof.Claims.sramMeets ∧
  Sys2Proof.Claims.sliceRetains ∧
  Sys2Proof.Claims.sliceWakes ∧
  Sys2Proof.Claims.sliceModeSet

/-- Field BIST: a word tested, and each value of sram_bist_mode. Exec answers a next state, on conditions on the state and the operands alone, for: bistWordTest, bistStop, bistContinuous, bistOnePass. -/
def Obligations.SramIsTestedInTheField : Prop :=
  Sys2Proof.Claims.wordTested ∧
  Sys2Proof.Claims.bistStops ∧
  Sys2Proof.Claims.bistRuns ∧
  Sys2Proof.Claims.bistOnce

/-- DRAM: arbitration and its order, command pick, refresh, master reset. Exec answers a next state, on conditions on the state and the operands alone, for: dramArbitrationRound, commandPick, dramRefresh, masterReset. -/
def Obligations.DramGrantsAndIssues : Prop :=
  Sys2Proof.Claims.roundGrants ∧
  Sys2Proof.Claims.roundOrder ∧
  Sys2Proof.Claims.commandIssued ∧
  Sys2Proof.Claims.bankRefreshed ∧
  Sys2Proof.Claims.masterIsReset

/-- DRAM self-refresh, delay drift and the maintenance sweep. Exec answers a next state, on conditions on the state and the operands alone, for: dramSelfRefreshEntry, dramSelfRefreshExit, dramDriftCheck, dramForcedExit, dlyPending, dramMaintSweep, sweepDone. -/
def Obligations.DramSleepsAndTracksDelays : Prop :=
  Sys2Proof.Claims.refreshEntered ∧
  Sys2Proof.Claims.refreshLeft ∧
  Sys2Proof.Claims.driftChecked ∧
  Sys2Proof.Claims.exitForced ∧
  Sys2Proof.Claims.delayFlagged ∧
  Sys2Proof.Claims.sweepBegins ∧
  Sys2Proof.Claims.sweepEnds

/-- REFCLK faults, rate checks, validity, PLL resume. Exec answers a next state, on conditions on the state and the operands alone, for: refclkFault, refclkRateCheck, refclkValid, pllResume. -/
def Obligations.ReferenceClocksSwitch : Prop :=
  Sys2Proof.Claims.clockFaults ∧
  Sys2Proof.Claims.ratesChecked ∧
  Sys2Proof.Claims.clockValid ∧
  Sys2Proof.Claims.pllsResume

/-- Boot, warm reset, control-core restart, watchdog, VAUX loss, PORST_N. Exec answers a next state, on conditions on the state and the operands alone, for: porstRelease, warmrstN, partResetWarm, controlCoreRestart, watchdogExpiry, vauxLoss, porstNAssert. -/
def Obligations.ResetsAndBoots : Prop :=
  Sys2Proof.Claims.bootRuns ∧
  Sys2Proof.Claims.warmResets ∧
  Sys2Proof.Claims.partResets ∧
  Sys2Proof.Claims.coresRestartAll ∧
  Sys2Proof.Claims.watchdogExpires ∧
  Sys2Proof.Claims.vauxLost ∧
  Sys2Proof.Claims.porstAsserted

/-- Die 1 boots alone, supervisor heartbeats, failover, rejoin. Exec answers a next state, on conditions on the state and the operands alone, for: die1BootTimeout, supHeartbeat, supHbLoss, arbIn, redSupRejoin. -/
def Obligations.SupervisorsFailOver : Prop :=
  Sys2Proof.Claims.die1Boots ∧
  Sys2Proof.Claims.heartbeatKept ∧
  Sys2Proof.Claims.heartbeatLost ∧
  Sys2Proof.Claims.arbiterPin ∧
  Sys2Proof.Claims.dieRejoins

/-- Ring heads: heartbeats and checkpoints. Exec answers a next state, on conditions on the state and the operands alone, for: headHeartbeatSend, heartbeat, ckptSeg, ckptEnd, ckptAck, ckptStale. -/
def Obligations.RingHeadsExchangeCheckpoints : Prop :=
  Sys2Proof.Claims.ringHeartbeat ∧
  Sys2Proof.Claims.heartbeatHeard ∧
  Sys2Proof.Claims.segmentKept ∧
  Sys2Proof.Claims.checkpointEnds ∧
  Sys2Proof.Claims.checkpointAcked ∧
  Sys2Proof.Claims.checkpointStale

/-- Ring heads: handover, declarations, joining. Exec answers a next state, on conditions on the state and the operands alone, for: handover, redDeclare, arbiterDeclareRepeat, selfDeclare, joiningEnd, joinNoPeerTimeout. -/
def Obligations.RingHeadsTakeOver : Prop :=
  Sys2Proof.Claims.handedOver ∧
  Sys2Proof.Claims.headDeclared ∧
  Sys2Proof.Claims.declarationRepeats ∧
  Sys2Proof.Claims.selfDeclared ∧
  Sys2Proof.Claims.joiningEnds ∧
  Sys2Proof.Claims.joinTimesOut

/-- Journal records, tamping, and the update image from upload to activation or reversion. Exec answers a next state, on conditions on the state and the operands alone, for: journalRecordWrite, tamping, updAbort, updVerify, firmwareServe, updReverted. -/
def Obligations.JournalAndUpdatesProceed : Prop :=
  Sys2Proof.Claims.recordWritten ∧
  Sys2Proof.Claims.sectorTamped ∧
  Sys2Proof.Claims.updateAborted ∧
  Sys2Proof.Claims.imageVerified ∧
  Sys2Proof.Claims.firmwareServes ∧
  Sys2Proof.Claims.updateReverts

/-- DHCP and the link-local address of recovery mode. Exec answers a next state, on conditions on the state and the operands alone, for: recoveryDhcpTimeout, dhcpAddress. -/
def Obligations.ManagementAddressIsTaken : Prop :=
  Sys2Proof.Claims.linkLocal ∧
  Sys2Proof.Claims.addressTaken

/-- Sensors, thermal shutdown, trims. Exec answers a next state, on conditions on the state and the operands alone, for: sensorConversion, thermalShutdown, sensorBrokenClear, trimEvaluate, trimPllStep, idleConversionSlot. -/
def Obligations.SensorsAndTrimsFollow : Prop :=
  Sys2Proof.Claims.sensorConverts ∧
  Sys2Proof.Claims.dieShutsDown ∧
  Sys2Proof.Claims.brokenCleared ∧
  Sys2Proof.Claims.trimsEvaluated ∧
  Sys2Proof.Claims.pllTrimSteps ∧
  Sys2Proof.Claims.offsetsReach

/-- Brown-out of a die, and the restart after it. Exec answers a next state, on conditions on the state and the operands alone, for: brownout, brownoutRestart. -/
def Obligations.BrownoutsHoldDies : Prop :=
  Sys2Proof.Claims.dieBrownsOut ∧
  Sys2Proof.Claims.brownoutEnds

/-- A step runs the command at the front of the queue, with the queue's rest. -/
def Obligations.StepRunsTheFrontCommand : Prop :=
  Sys2Proof.Claims.stepRunsFront

/-- Every command answers a next state, whatever the state and its operands. Exec answers a next state, on conditions on the state and the operands alone, for: every constructor of Instr. -/
def Obligations.EveryCommandAnswersANextState : Prop :=
  Sys2Proof.Claims.allAnswer

/-- A step on an empty queue moves time by one nanosecond (log entry 8, the model's choice). -/
def Obligations.EmptyQueueStepIsOneNanosecond : Prop :=
  Sys2Proof.Claims.idleTicks

/-- What State.reset holds, and its identity word. -/
def Obligations.ResetStateHoldsDefaults : Prop :=
  Sys2Proof.Claims.resetHolds ∧
  Sys2Proof.Claims.resetIdentity

/-- State.reset is a part held in reset. -/
def Obligations.ResetStateIsDormant : Prop :=
  Sys2Proof.Claims.resetIsDormant

/-- Every step keeps a part held in reset dormant, whatever waits, until PORST_N is released. -/
def Obligations.DormantPartStaysDormant : Prop :=
  Sys2Proof.Claims.dormantKept

/-- In reset and in boundary scan, no command but the events that end them has an effect. -/
def Obligations.HeldAndScannedPartsIgnoreCommands : Prop :=
  Sys2Proof.Claims.heldIgnores ∧
  Sys2Proof.Claims.scanIgnores

/-- Every command on the memories keeps their canonical form. -/
def Obligations.MemoryStaysCanonical : Prop :=
  Sys2Proof.Claims.memoryKept

/-- A row that names a WRITE of one object does what that WRITE does. -/
def Obligations.ObjectRowsAreWrites : Prop :=
  Sys2Proof.Claims.rowsAreWrites

/-- A WRITE with die field 0xF stages on every die that answers. Exec answers a next state, on conditions on the state and the operands alone, for: write. -/
def Obligations.WriteToEveryDieStages : Prop :=
  Sys2Proof.Claims.writeEveryDie

/-- READ of identity: one word, under every die field and once under 0xF. Exec answers a next state, on conditions on the state and the operands alone, for: read. -/
def Obligations.IdentityIsReadOnce : Prop :=
  Sys2Proof.Claims.identityRead

/-- A die field that names no die of the part is answered UNKNOWN_INDEX. Exec answers a next state, on conditions on the state and the operands alone, for: read, write, readSeg, writeSeg. -/
def Obligations.AbsentDiesAreUnknown : Prop :=
  Sys2Proof.Claims.readOne ∧
  Sys2Proof.Claims.readAll ∧
  Sys2Proof.Claims.dieUnknown

/-- READ_SEG and WRITE_SEG transfer a BLOB, a per-die one die by die; of no BLOB, or under 0xF, ACCESS_VIOLATION. Exec answers a next state, on conditions on the state and the operands alone, for: readSeg, writeSeg. -/
def Obligations.SegmentsTransferBlobs : Prop :=
  Sys2Proof.Claims.segNeedsBlob

/-- While a vote is prepared, ready or armed, writes of the staged set are BUSY. Exec answers a next state, on conditions on the state and the operands alone, for: write, writeSeg. -/
def Obligations.VotedSetIsHeld : Prop :=
  Sys2Proof.Claims.votedSetHeld

/-- Four expected markers that do not match lose lock; one that matches resets the count. Exec answers a next state, on conditions on the state and the operands alone, for: alignmentMarkerReceive, lockLost. -/
def Obligations.LockedLaneLosesLock : Prop :=
  Sys2Proof.Claims.markerTaken ∧
  Sys2Proof.Claims.markerMissed ∧
  Sys2Proof.Claims.lockLoses
end

