-- ==== Sys2Proof/Laws/Maps.lean ====
section
/-! SUPPORT. Laws of the sparse tables: a read after a write, what a write leaves alone, and the canonical form that every operation keeps. -/

namespace Sys2Proof.Laws

open Sys2Proof.Machine

variable {α : Type}

theorem smGet_smIns_same (d : α) (m : SMap α) (a : Nat) (v : α) : smGet d (smIns m a v) a = v := by
  induction m with
  | nil => simp [smIns, smGet]
  | cons e t ih =>
    obtain ⟨k, w⟩ := e
    simp only [smIns]
    split
    · simp [smGet]
    · split <;> simp_all [smGet]

theorem smGet_smIns_other (d : α) (m : SMap α) {a b : Nat} (v : α) (h : b ≠ a) : smGet d (smIns m a v) b = smGet d m b := by
  induction m with
  | nil => simp [smIns, smGet, Ne.symm h]
  | cons e t ih =>
    obtain ⟨k, w⟩ := e
    simp only [smIns]
    split
    · simp [smGet, Ne.symm h]
    · split
      · subst_vars; simp [smGet, Ne.symm h]
      · simp only [smGet, ih]

theorem smGet_smKeep_same (d : α) (m : SMap α) (a : Nat) : smGet d (smKeep (fun k => decide (k ≠ a)) m) a = d := by
  induction m with
  | nil => rfl
  | cons e t ih =>
    obtain ⟨k, w⟩ := e
    simp only [smKeep, List.filter_cons] at ih ⊢
    by_cases h : k = a <;> simp_all [smGet]

theorem smGet_smKeep_other (d : α) (m : SMap α) {a b : Nat} (h : b ≠ a) : smGet d (smKeep (fun k => decide (k ≠ a)) m) b = smGet d m b := by
  induction m with
  | nil => rfl
  | cons e t ih =>
    obtain ⟨k, w⟩ := e
    simp only [smKeep, List.filter_cons] at ih ⊢
    by_cases hk : k = a
    · have hb : k ≠ b := by omega
      simp [hk, smGet, ← ih]
      intro hab; omega
    · simp only [hk, ne_eq, not_false_eq_true, decide_true, if_true, smGet, ih]

variable [DecidableEq α]

/-- What is written is what is read. -/
@[simp] theorem smGet_smPut_same (d : α) (m : SMap α) (a : Nat) (v : α) : smGet d (smPut d m a v) a = v := by
  unfold smPut
  split
  · subst_vars; exact smGet_smKeep_same _ m a
  · exact smGet_smIns_same d m a v

/-- A write leaves every other key alone. -/
theorem smGet_smPut_other (d : α) (m : SMap α) {a b : Nat} (v : α) (h : b ≠ a) : smGet d (smPut d m a v) b = smGet d m b := by
  unfold smPut
  split
  · exact smGet_smKeep_other d m h
  · exact smGet_smIns_other d m v h

theorem smWf_filter (d : α) (p : Nat × α → Bool) (m : SMap α) : ∀ lo, smWf d lo m = true → smWf d lo (m.filter p) = true := by
  have weaken : ∀ (l : SMap α) lo lo', lo' ≤ lo → smWf d lo l = true → smWf d lo' l = true := by
    intro l
    cases l with
    | nil => intro _ _ _ _; rfl
    | cons e t => obtain ⟨k, w⟩ := e; intro lo lo' h hw; simp only [smWf, Bool.and_eq_true, decide_eq_true_eq] at hw ⊢; exact ⟨⟨by omega, hw.1.2⟩, hw.2⟩
  induction m with
  | nil => intro _ _; rfl
  | cons e t ih =>
    obtain ⟨k, w⟩ := e
    intro lo hw
    simp only [smWf, Bool.and_eq_true, decide_eq_true_eq] at hw
    rw [List.filter_cons]
    split
    · simp only [smWf, Bool.and_eq_true, decide_eq_true_eq]; exact ⟨hw.1, ih _ hw.2⟩
    · exact weaken _ (k + 1) lo (by omega) (ih _ hw.2)

theorem smWf_smIns (d : α) (m : SMap α) (a : Nat) (v : α) (hv : v ≠ d) : ∀ lo, lo ≤ a → smWf d lo m = true → smWf d lo (smIns m a v) = true := by
  induction m with
  | nil => intro lo h _; simp [smIns, smWf, h, hv]
  | cons e t ih =>
    obtain ⟨k, w⟩ := e
    intro lo h hw
    simp only [smWf, Bool.and_eq_true, decide_eq_true_eq] at hw
    simp only [smIns]
    split
    · simp only [smWf, Bool.and_eq_true, decide_eq_true_eq]; exact ⟨⟨h, hv⟩, ⟨by omega, hw.1.2⟩, hw.2⟩
    · split
      · subst_vars; simp only [smWf, Bool.and_eq_true, decide_eq_true_eq]; exact ⟨⟨h, hv⟩, hw.2⟩
      · simp only [smWf, Bool.and_eq_true, decide_eq_true_eq]; exact ⟨hw.1, ih _ (by omega) hw.2⟩

/-- A write keeps the canonical form: keys strictly rising, no entry equal to what an unlisted key reads as. -/
theorem smWf_smPut (d : α) (m : SMap α) (a : Nat) (v : α) (h : smWf d 0 m = true) : smWf d 0 (smPut d m a v) = true := by
  unfold smPut
  split
  · exact smWf_filter d _ m 0 h
  · next hv => exact smWf_smIns d m a v hv 0 (Nat.zero_le a) h

/-- A run of writes keeps the canonical form. -/
theorem smWf_smPutAll (d : α) (vs : List α) : ∀ (m : SMap α) (a : Nat), smWf d 0 m = true → smWf d 0 (smPutAll d m a vs) = true := by
  induction vs with
  | nil => intro m a h; exact h
  | cons v t ih => intro m a h; exact ih _ _ (smWf_smPut d m a v h)

/-- Keeping the keys that satisfy a condition keeps the canonical form. -/
theorem smWf_smKeep (d : α) (p : Nat → Bool) (m : SMap α) (h : smWf d 0 m = true) : smWf d 0 (smKeep p m) = true := smWf_filter d _ m 0 h

end Sys2Proof.Laws
end

