-- ==== Sys2Proof/Laws/State.lean ====
section
/-! SUPPORT. What each elementary update of the state leaves alone: one lemma per field per update, true by definition. -/

namespace Sys2Proof.Laws

open Sys2Proof.Machine


/-! put -/

@[simp] theorem put_fuses (s : State) (die key : Nat) (v : Int) : (s.put die key v).fuses = s.fuses := rfl
@[simp] theorem put_now (s : State) (die key : Nat) (v : Int) : (s.put die key v).now = s.now := rfl
@[simp] theorem put_staged (s : State) (die key : Nat) (v : Int) : (s.put die key v).staged = s.staged := rfl
@[simp] theorem put_corrix (s : State) (die key : Nat) (v : Int) : (s.put die key v).corrix = s.corrix := rfl
@[simp] theorem put_spi (s : State) (die key : Nat) (v : Int) : (s.put die key v).spi = s.spi := rfl
@[simp] theorem put_lay (s : State) (die key : Nat) (v : Int) : (s.put die key v).lay = s.lay := rfl
@[simp] theorem put_dieRelease (s : State) (die key : Nat) (v : Int) : (s.put die key v).dieRelease = s.dieRelease := rfl
@[simp] theorem put_lanes (s : State) (die key : Nat) (v : Int) : (s.put die key v).lanes = s.lanes := rfl
@[simp] theorem put_ports (s : State) (die key : Nat) (v : Int) : (s.put die key v).ports = s.ports := rfl
@[simp] theorem put_enums (s : State) (die key : Nat) (v : Int) : (s.put die key v).enums = s.enums := rfl
@[simp] theorem put_net (s : State) (die key : Nat) (v : Int) : (s.put die key v).net = s.net := rfl
@[simp] theorem put_knots (s : State) (die key : Nat) (v : Int) : (s.put die key v).knots = s.knots := rfl
@[simp] theorem put_knotLog (s : State) (die key : Nat) (v : Int) : (s.put die key v).knotLog = s.knotLog := rfl
@[simp] theorem put_knotHold (s : State) (die key : Nat) (v : Int) : (s.put die key v).knotHold = s.knotHold := rfl
@[simp] theorem put_faultSrc (s : State) (die key : Nat) (v : Int) : (s.put die key v).faultSrc = s.faultSrc := rfl
@[simp] theorem put_fw (s : State) (die key : Nat) (v : Int) : (s.put die key v).fw = s.fw := rfl
@[simp] theorem put_launch (s : State) (die key : Nat) (v : Int) : (s.put die key v).launch = s.launch := rfl
@[simp] theorem put_comp (s : State) (die key : Nat) (v : Int) : (s.put die key v).comp = s.comp := rfl
@[simp] theorem put_cam (s : State) (die key : Nat) (v : Int) : (s.put die key v).cam = s.cam := rfl
@[simp] theorem put_tile (s : State) (die key : Nat) (v : Int) : (s.put die key v).tile = s.tile := rfl
@[simp] theorem put_mem (s : State) (die key : Nat) (v : Int) : (s.put die key v).mem = s.mem := rfl
@[simp] theorem put_journal (s : State) (die key : Nat) (v : Int) : (s.put die key v).journal = s.journal := rfl
@[simp] theorem put_upd (s : State) (die key : Nat) (v : Int) : (s.put die key v).upd = s.upd := rfl
@[simp] theorem put_clks (s : State) (die key : Nat) (v : Int) : (s.put die key v).clks = s.clks := rfl
@[simp] theorem put_xings (s : State) (die key : Nat) (v : Int) : (s.put die key v).xings = s.xings := rfl
@[simp] theorem put_boot (s : State) (die key : Nat) (v : Int) : (s.put die key v).boot = s.boot := rfl
@[simp] theorem put_red (s : State) (die key : Nat) (v : Int) : (s.put die key v).red = s.red := rfl
@[simp] theorem put_therm (s : State) (die key : Nat) (v : Int) : (s.put die key v).therm = s.therm := rfl
@[simp] theorem put_pending (s : State) (die key : Nat) (v : Int) : (s.put die key v).pending = s.pending := rfl
@[simp] theorem put_sent (s : State) (die key : Nat) (v : Int) : (s.put die key v).sent = s.sent := rfl
@[simp] theorem put_free (s : State) (die key : Nat) (v : Int) : (s.put die key v).free = s.free := rfl

/-! putBlob -/

@[simp] theorem putBlob_fuses (s : State) (die key : Nat) (v : Value) : (s.putBlob die key v).fuses = s.fuses := rfl
@[simp] theorem putBlob_now (s : State) (die key : Nat) (v : Value) : (s.putBlob die key v).now = s.now := rfl
@[simp] theorem putBlob_staged (s : State) (die key : Nat) (v : Value) : (s.putBlob die key v).staged = s.staged := rfl
@[simp] theorem putBlob_corrix (s : State) (die key : Nat) (v : Value) : (s.putBlob die key v).corrix = s.corrix := rfl
@[simp] theorem putBlob_spi (s : State) (die key : Nat) (v : Value) : (s.putBlob die key v).spi = s.spi := rfl
@[simp] theorem putBlob_lay (s : State) (die key : Nat) (v : Value) : (s.putBlob die key v).lay = s.lay := rfl
@[simp] theorem putBlob_dieRelease (s : State) (die key : Nat) (v : Value) : (s.putBlob die key v).dieRelease = s.dieRelease := rfl
@[simp] theorem putBlob_lanes (s : State) (die key : Nat) (v : Value) : (s.putBlob die key v).lanes = s.lanes := rfl
@[simp] theorem putBlob_ports (s : State) (die key : Nat) (v : Value) : (s.putBlob die key v).ports = s.ports := rfl
@[simp] theorem putBlob_enums (s : State) (die key : Nat) (v : Value) : (s.putBlob die key v).enums = s.enums := rfl
@[simp] theorem putBlob_net (s : State) (die key : Nat) (v : Value) : (s.putBlob die key v).net = s.net := rfl
@[simp] theorem putBlob_knots (s : State) (die key : Nat) (v : Value) : (s.putBlob die key v).knots = s.knots := rfl
@[simp] theorem putBlob_knotLog (s : State) (die key : Nat) (v : Value) : (s.putBlob die key v).knotLog = s.knotLog := rfl
@[simp] theorem putBlob_knotHold (s : State) (die key : Nat) (v : Value) : (s.putBlob die key v).knotHold = s.knotHold := rfl
@[simp] theorem putBlob_faultSrc (s : State) (die key : Nat) (v : Value) : (s.putBlob die key v).faultSrc = s.faultSrc := rfl
@[simp] theorem putBlob_fw (s : State) (die key : Nat) (v : Value) : (s.putBlob die key v).fw = s.fw := rfl
@[simp] theorem putBlob_launch (s : State) (die key : Nat) (v : Value) : (s.putBlob die key v).launch = s.launch := rfl
@[simp] theorem putBlob_comp (s : State) (die key : Nat) (v : Value) : (s.putBlob die key v).comp = s.comp := rfl
@[simp] theorem putBlob_cam (s : State) (die key : Nat) (v : Value) : (s.putBlob die key v).cam = s.cam := rfl
@[simp] theorem putBlob_tile (s : State) (die key : Nat) (v : Value) : (s.putBlob die key v).tile = s.tile := rfl
@[simp] theorem putBlob_mem (s : State) (die key : Nat) (v : Value) : (s.putBlob die key v).mem = s.mem := rfl
@[simp] theorem putBlob_journal (s : State) (die key : Nat) (v : Value) : (s.putBlob die key v).journal = s.journal := rfl
@[simp] theorem putBlob_upd (s : State) (die key : Nat) (v : Value) : (s.putBlob die key v).upd = s.upd := rfl
@[simp] theorem putBlob_clks (s : State) (die key : Nat) (v : Value) : (s.putBlob die key v).clks = s.clks := rfl
@[simp] theorem putBlob_xings (s : State) (die key : Nat) (v : Value) : (s.putBlob die key v).xings = s.xings := rfl
@[simp] theorem putBlob_boot (s : State) (die key : Nat) (v : Value) : (s.putBlob die key v).boot = s.boot := rfl
@[simp] theorem putBlob_red (s : State) (die key : Nat) (v : Value) : (s.putBlob die key v).red = s.red := rfl
@[simp] theorem putBlob_therm (s : State) (die key : Nat) (v : Value) : (s.putBlob die key v).therm = s.therm := rfl
@[simp] theorem putBlob_pending (s : State) (die key : Nat) (v : Value) : (s.putBlob die key v).pending = s.pending := rfl
@[simp] theorem putBlob_sent (s : State) (die key : Nat) (v : Value) : (s.putBlob die key v).sent = s.sent := rfl
@[simp] theorem putBlob_free (s : State) (die key : Nat) (v : Value) : (s.putBlob die key v).free = s.free := rfl

/-! set -/

@[simp] theorem set_fuses (s : State) (key : Nat) (v : Int) : (s.set key v).fuses = s.fuses := rfl
@[simp] theorem set_now (s : State) (key : Nat) (v : Int) : (s.set key v).now = s.now := rfl
@[simp] theorem set_staged (s : State) (key : Nat) (v : Int) : (s.set key v).staged = s.staged := rfl
@[simp] theorem set_corrix (s : State) (key : Nat) (v : Int) : (s.set key v).corrix = s.corrix := rfl
@[simp] theorem set_spi (s : State) (key : Nat) (v : Int) : (s.set key v).spi = s.spi := rfl
@[simp] theorem set_lay (s : State) (key : Nat) (v : Int) : (s.set key v).lay = s.lay := rfl
@[simp] theorem set_dieRelease (s : State) (key : Nat) (v : Int) : (s.set key v).dieRelease = s.dieRelease := rfl
@[simp] theorem set_lanes (s : State) (key : Nat) (v : Int) : (s.set key v).lanes = s.lanes := rfl
@[simp] theorem set_ports (s : State) (key : Nat) (v : Int) : (s.set key v).ports = s.ports := rfl
@[simp] theorem set_enums (s : State) (key : Nat) (v : Int) : (s.set key v).enums = s.enums := rfl
@[simp] theorem set_net (s : State) (key : Nat) (v : Int) : (s.set key v).net = s.net := rfl
@[simp] theorem set_knots (s : State) (key : Nat) (v : Int) : (s.set key v).knots = s.knots := rfl
@[simp] theorem set_knotLog (s : State) (key : Nat) (v : Int) : (s.set key v).knotLog = s.knotLog := rfl
@[simp] theorem set_knotHold (s : State) (key : Nat) (v : Int) : (s.set key v).knotHold = s.knotHold := rfl
@[simp] theorem set_faultSrc (s : State) (key : Nat) (v : Int) : (s.set key v).faultSrc = s.faultSrc := rfl
@[simp] theorem set_fw (s : State) (key : Nat) (v : Int) : (s.set key v).fw = s.fw := rfl
@[simp] theorem set_launch (s : State) (key : Nat) (v : Int) : (s.set key v).launch = s.launch := rfl
@[simp] theorem set_comp (s : State) (key : Nat) (v : Int) : (s.set key v).comp = s.comp := rfl
@[simp] theorem set_cam (s : State) (key : Nat) (v : Int) : (s.set key v).cam = s.cam := rfl
@[simp] theorem set_tile (s : State) (key : Nat) (v : Int) : (s.set key v).tile = s.tile := rfl
@[simp] theorem set_mem (s : State) (key : Nat) (v : Int) : (s.set key v).mem = s.mem := rfl
@[simp] theorem set_journal (s : State) (key : Nat) (v : Int) : (s.set key v).journal = s.journal := rfl
@[simp] theorem set_upd (s : State) (key : Nat) (v : Int) : (s.set key v).upd = s.upd := rfl
@[simp] theorem set_clks (s : State) (key : Nat) (v : Int) : (s.set key v).clks = s.clks := rfl
@[simp] theorem set_xings (s : State) (key : Nat) (v : Int) : (s.set key v).xings = s.xings := rfl
@[simp] theorem set_boot (s : State) (key : Nat) (v : Int) : (s.set key v).boot = s.boot := rfl
@[simp] theorem set_red (s : State) (key : Nat) (v : Int) : (s.set key v).red = s.red := rfl
@[simp] theorem set_therm (s : State) (key : Nat) (v : Int) : (s.set key v).therm = s.therm := rfl
@[simp] theorem set_pending (s : State) (key : Nat) (v : Int) : (s.set key v).pending = s.pending := rfl
@[simp] theorem set_sent (s : State) (key : Nat) (v : Int) : (s.set key v).sent = s.sent := rfl
@[simp] theorem set_free (s : State) (key : Nat) (v : Int) : (s.set key v).free = s.free := rfl

/-! orBits -/

@[simp] theorem orBits_fuses (s : State) (die key m : Nat) : (s.orBits die key m).fuses = s.fuses := rfl
@[simp] theorem orBits_now (s : State) (die key m : Nat) : (s.orBits die key m).now = s.now := rfl
@[simp] theorem orBits_staged (s : State) (die key m : Nat) : (s.orBits die key m).staged = s.staged := rfl
@[simp] theorem orBits_corrix (s : State) (die key m : Nat) : (s.orBits die key m).corrix = s.corrix := rfl
@[simp] theorem orBits_spi (s : State) (die key m : Nat) : (s.orBits die key m).spi = s.spi := rfl
@[simp] theorem orBits_lay (s : State) (die key m : Nat) : (s.orBits die key m).lay = s.lay := rfl
@[simp] theorem orBits_dieRelease (s : State) (die key m : Nat) : (s.orBits die key m).dieRelease = s.dieRelease := rfl
@[simp] theorem orBits_lanes (s : State) (die key m : Nat) : (s.orBits die key m).lanes = s.lanes := rfl
@[simp] theorem orBits_ports (s : State) (die key m : Nat) : (s.orBits die key m).ports = s.ports := rfl
@[simp] theorem orBits_enums (s : State) (die key m : Nat) : (s.orBits die key m).enums = s.enums := rfl
@[simp] theorem orBits_net (s : State) (die key m : Nat) : (s.orBits die key m).net = s.net := rfl
@[simp] theorem orBits_knots (s : State) (die key m : Nat) : (s.orBits die key m).knots = s.knots := rfl
@[simp] theorem orBits_knotLog (s : State) (die key m : Nat) : (s.orBits die key m).knotLog = s.knotLog := rfl
@[simp] theorem orBits_knotHold (s : State) (die key m : Nat) : (s.orBits die key m).knotHold = s.knotHold := rfl
@[simp] theorem orBits_faultSrc (s : State) (die key m : Nat) : (s.orBits die key m).faultSrc = s.faultSrc := rfl
@[simp] theorem orBits_fw (s : State) (die key m : Nat) : (s.orBits die key m).fw = s.fw := rfl
@[simp] theorem orBits_launch (s : State) (die key m : Nat) : (s.orBits die key m).launch = s.launch := rfl
@[simp] theorem orBits_comp (s : State) (die key m : Nat) : (s.orBits die key m).comp = s.comp := rfl
@[simp] theorem orBits_cam (s : State) (die key m : Nat) : (s.orBits die key m).cam = s.cam := rfl
@[simp] theorem orBits_tile (s : State) (die key m : Nat) : (s.orBits die key m).tile = s.tile := rfl
@[simp] theorem orBits_mem (s : State) (die key m : Nat) : (s.orBits die key m).mem = s.mem := rfl
@[simp] theorem orBits_journal (s : State) (die key m : Nat) : (s.orBits die key m).journal = s.journal := rfl
@[simp] theorem orBits_upd (s : State) (die key m : Nat) : (s.orBits die key m).upd = s.upd := rfl
@[simp] theorem orBits_clks (s : State) (die key m : Nat) : (s.orBits die key m).clks = s.clks := rfl
@[simp] theorem orBits_xings (s : State) (die key m : Nat) : (s.orBits die key m).xings = s.xings := rfl
@[simp] theorem orBits_boot (s : State) (die key m : Nat) : (s.orBits die key m).boot = s.boot := rfl
@[simp] theorem orBits_red (s : State) (die key m : Nat) : (s.orBits die key m).red = s.red := rfl
@[simp] theorem orBits_therm (s : State) (die key m : Nat) : (s.orBits die key m).therm = s.therm := rfl
@[simp] theorem orBits_pending (s : State) (die key m : Nat) : (s.orBits die key m).pending = s.pending := rfl
@[simp] theorem orBits_sent (s : State) (die key m : Nat) : (s.orBits die key m).sent = s.sent := rfl
@[simp] theorem orBits_free (s : State) (die key m : Nat) : (s.orBits die key m).free = s.free := rfl

/-! markFlag -/

@[simp] theorem markFlag_fuses (s : State) (die key i : Nat) : (s.markFlag die key i).fuses = s.fuses := rfl
@[simp] theorem markFlag_now (s : State) (die key i : Nat) : (s.markFlag die key i).now = s.now := rfl
@[simp] theorem markFlag_staged (s : State) (die key i : Nat) : (s.markFlag die key i).staged = s.staged := rfl
@[simp] theorem markFlag_corrix (s : State) (die key i : Nat) : (s.markFlag die key i).corrix = s.corrix := rfl
@[simp] theorem markFlag_spi (s : State) (die key i : Nat) : (s.markFlag die key i).spi = s.spi := rfl
@[simp] theorem markFlag_lay (s : State) (die key i : Nat) : (s.markFlag die key i).lay = s.lay := rfl
@[simp] theorem markFlag_dieRelease (s : State) (die key i : Nat) : (s.markFlag die key i).dieRelease = s.dieRelease := rfl
@[simp] theorem markFlag_lanes (s : State) (die key i : Nat) : (s.markFlag die key i).lanes = s.lanes := rfl
@[simp] theorem markFlag_ports (s : State) (die key i : Nat) : (s.markFlag die key i).ports = s.ports := rfl
@[simp] theorem markFlag_enums (s : State) (die key i : Nat) : (s.markFlag die key i).enums = s.enums := rfl
@[simp] theorem markFlag_net (s : State) (die key i : Nat) : (s.markFlag die key i).net = s.net := rfl
@[simp] theorem markFlag_knots (s : State) (die key i : Nat) : (s.markFlag die key i).knots = s.knots := rfl
@[simp] theorem markFlag_knotLog (s : State) (die key i : Nat) : (s.markFlag die key i).knotLog = s.knotLog := rfl
@[simp] theorem markFlag_knotHold (s : State) (die key i : Nat) : (s.markFlag die key i).knotHold = s.knotHold := rfl
@[simp] theorem markFlag_faultSrc (s : State) (die key i : Nat) : (s.markFlag die key i).faultSrc = s.faultSrc := rfl
@[simp] theorem markFlag_fw (s : State) (die key i : Nat) : (s.markFlag die key i).fw = s.fw := rfl
@[simp] theorem markFlag_launch (s : State) (die key i : Nat) : (s.markFlag die key i).launch = s.launch := rfl
@[simp] theorem markFlag_comp (s : State) (die key i : Nat) : (s.markFlag die key i).comp = s.comp := rfl
@[simp] theorem markFlag_cam (s : State) (die key i : Nat) : (s.markFlag die key i).cam = s.cam := rfl
@[simp] theorem markFlag_tile (s : State) (die key i : Nat) : (s.markFlag die key i).tile = s.tile := rfl
@[simp] theorem markFlag_mem (s : State) (die key i : Nat) : (s.markFlag die key i).mem = s.mem := rfl
@[simp] theorem markFlag_journal (s : State) (die key i : Nat) : (s.markFlag die key i).journal = s.journal := rfl
@[simp] theorem markFlag_upd (s : State) (die key i : Nat) : (s.markFlag die key i).upd = s.upd := rfl
@[simp] theorem markFlag_clks (s : State) (die key i : Nat) : (s.markFlag die key i).clks = s.clks := rfl
@[simp] theorem markFlag_xings (s : State) (die key i : Nat) : (s.markFlag die key i).xings = s.xings := rfl
@[simp] theorem markFlag_boot (s : State) (die key i : Nat) : (s.markFlag die key i).boot = s.boot := rfl
@[simp] theorem markFlag_red (s : State) (die key i : Nat) : (s.markFlag die key i).red = s.red := rfl
@[simp] theorem markFlag_therm (s : State) (die key i : Nat) : (s.markFlag die key i).therm = s.therm := rfl
@[simp] theorem markFlag_pending (s : State) (die key i : Nat) : (s.markFlag die key i).pending = s.pending := rfl
@[simp] theorem markFlag_sent (s : State) (die key i : Nat) : (s.markFlag die key i).sent = s.sent := rfl
@[simp] theorem markFlag_free (s : State) (die key i : Nat) : (s.markFlag die key i).free = s.free := rfl

/-! emit -/

@[simp] theorem emit_fuses (s : State) (o : Output) : (s.emit o).fuses = s.fuses := rfl
@[simp] theorem emit_now (s : State) (o : Output) : (s.emit o).now = s.now := rfl
@[simp] theorem emit_objs (s : State) (o : Output) : (s.emit o).objs = s.objs := rfl
@[simp] theorem emit_staged (s : State) (o : Output) : (s.emit o).staged = s.staged := rfl
@[simp] theorem emit_corrix (s : State) (o : Output) : (s.emit o).corrix = s.corrix := rfl
@[simp] theorem emit_spi (s : State) (o : Output) : (s.emit o).spi = s.spi := rfl
@[simp] theorem emit_lay (s : State) (o : Output) : (s.emit o).lay = s.lay := rfl
@[simp] theorem emit_dieRelease (s : State) (o : Output) : (s.emit o).dieRelease = s.dieRelease := rfl
@[simp] theorem emit_lanes (s : State) (o : Output) : (s.emit o).lanes = s.lanes := rfl
@[simp] theorem emit_ports (s : State) (o : Output) : (s.emit o).ports = s.ports := rfl
@[simp] theorem emit_enums (s : State) (o : Output) : (s.emit o).enums = s.enums := rfl
@[simp] theorem emit_net (s : State) (o : Output) : (s.emit o).net = s.net := rfl
@[simp] theorem emit_knots (s : State) (o : Output) : (s.emit o).knots = s.knots := rfl
@[simp] theorem emit_knotLog (s : State) (o : Output) : (s.emit o).knotLog = s.knotLog := rfl
@[simp] theorem emit_knotHold (s : State) (o : Output) : (s.emit o).knotHold = s.knotHold := rfl
@[simp] theorem emit_faultSrc (s : State) (o : Output) : (s.emit o).faultSrc = s.faultSrc := rfl
@[simp] theorem emit_fw (s : State) (o : Output) : (s.emit o).fw = s.fw := rfl
@[simp] theorem emit_launch (s : State) (o : Output) : (s.emit o).launch = s.launch := rfl
@[simp] theorem emit_comp (s : State) (o : Output) : (s.emit o).comp = s.comp := rfl
@[simp] theorem emit_cam (s : State) (o : Output) : (s.emit o).cam = s.cam := rfl
@[simp] theorem emit_tile (s : State) (o : Output) : (s.emit o).tile = s.tile := rfl
@[simp] theorem emit_mem (s : State) (o : Output) : (s.emit o).mem = s.mem := rfl
@[simp] theorem emit_journal (s : State) (o : Output) : (s.emit o).journal = s.journal := rfl
@[simp] theorem emit_upd (s : State) (o : Output) : (s.emit o).upd = s.upd := rfl
@[simp] theorem emit_clks (s : State) (o : Output) : (s.emit o).clks = s.clks := rfl
@[simp] theorem emit_xings (s : State) (o : Output) : (s.emit o).xings = s.xings := rfl
@[simp] theorem emit_boot (s : State) (o : Output) : (s.emit o).boot = s.boot := rfl
@[simp] theorem emit_red (s : State) (o : Output) : (s.emit o).red = s.red := rfl
@[simp] theorem emit_therm (s : State) (o : Output) : (s.emit o).therm = s.therm := rfl
@[simp] theorem emit_pending (s : State) (o : Output) : (s.emit o).pending = s.pending := rfl
@[simp] theorem emit_free (s : State) (o : Output) : (s.emit o).free = s.free := rfl

/-! setLane -/

@[simp] theorem setLane_fuses (s : State) (die lane : Nat) (f : LaneSt → LaneSt) : (s.setLane die lane f).fuses = s.fuses := rfl
@[simp] theorem setLane_now (s : State) (die lane : Nat) (f : LaneSt → LaneSt) : (s.setLane die lane f).now = s.now := rfl
@[simp] theorem setLane_objs (s : State) (die lane : Nat) (f : LaneSt → LaneSt) : (s.setLane die lane f).objs = s.objs := rfl
@[simp] theorem setLane_staged (s : State) (die lane : Nat) (f : LaneSt → LaneSt) : (s.setLane die lane f).staged = s.staged := rfl
@[simp] theorem setLane_corrix (s : State) (die lane : Nat) (f : LaneSt → LaneSt) : (s.setLane die lane f).corrix = s.corrix := rfl
@[simp] theorem setLane_spi (s : State) (die lane : Nat) (f : LaneSt → LaneSt) : (s.setLane die lane f).spi = s.spi := rfl
@[simp] theorem setLane_lay (s : State) (die lane : Nat) (f : LaneSt → LaneSt) : (s.setLane die lane f).lay = s.lay := rfl
@[simp] theorem setLane_dieRelease (s : State) (die lane : Nat) (f : LaneSt → LaneSt) : (s.setLane die lane f).dieRelease = s.dieRelease := rfl
@[simp] theorem setLane_ports (s : State) (die lane : Nat) (f : LaneSt → LaneSt) : (s.setLane die lane f).ports = s.ports := rfl
@[simp] theorem setLane_enums (s : State) (die lane : Nat) (f : LaneSt → LaneSt) : (s.setLane die lane f).enums = s.enums := rfl
@[simp] theorem setLane_net (s : State) (die lane : Nat) (f : LaneSt → LaneSt) : (s.setLane die lane f).net = s.net := rfl
@[simp] theorem setLane_knots (s : State) (die lane : Nat) (f : LaneSt → LaneSt) : (s.setLane die lane f).knots = s.knots := rfl
@[simp] theorem setLane_knotLog (s : State) (die lane : Nat) (f : LaneSt → LaneSt) : (s.setLane die lane f).knotLog = s.knotLog := rfl
@[simp] theorem setLane_knotHold (s : State) (die lane : Nat) (f : LaneSt → LaneSt) : (s.setLane die lane f).knotHold = s.knotHold := rfl
@[simp] theorem setLane_faultSrc (s : State) (die lane : Nat) (f : LaneSt → LaneSt) : (s.setLane die lane f).faultSrc = s.faultSrc := rfl
@[simp] theorem setLane_fw (s : State) (die lane : Nat) (f : LaneSt → LaneSt) : (s.setLane die lane f).fw = s.fw := rfl
@[simp] theorem setLane_launch (s : State) (die lane : Nat) (f : LaneSt → LaneSt) : (s.setLane die lane f).launch = s.launch := rfl
@[simp] theorem setLane_comp (s : State) (die lane : Nat) (f : LaneSt → LaneSt) : (s.setLane die lane f).comp = s.comp := rfl
@[simp] theorem setLane_cam (s : State) (die lane : Nat) (f : LaneSt → LaneSt) : (s.setLane die lane f).cam = s.cam := rfl
@[simp] theorem setLane_tile (s : State) (die lane : Nat) (f : LaneSt → LaneSt) : (s.setLane die lane f).tile = s.tile := rfl
@[simp] theorem setLane_mem (s : State) (die lane : Nat) (f : LaneSt → LaneSt) : (s.setLane die lane f).mem = s.mem := rfl
@[simp] theorem setLane_journal (s : State) (die lane : Nat) (f : LaneSt → LaneSt) : (s.setLane die lane f).journal = s.journal := rfl
@[simp] theorem setLane_upd (s : State) (die lane : Nat) (f : LaneSt → LaneSt) : (s.setLane die lane f).upd = s.upd := rfl
@[simp] theorem setLane_clks (s : State) (die lane : Nat) (f : LaneSt → LaneSt) : (s.setLane die lane f).clks = s.clks := rfl
@[simp] theorem setLane_xings (s : State) (die lane : Nat) (f : LaneSt → LaneSt) : (s.setLane die lane f).xings = s.xings := rfl
@[simp] theorem setLane_boot (s : State) (die lane : Nat) (f : LaneSt → LaneSt) : (s.setLane die lane f).boot = s.boot := rfl
@[simp] theorem setLane_red (s : State) (die lane : Nat) (f : LaneSt → LaneSt) : (s.setLane die lane f).red = s.red := rfl
@[simp] theorem setLane_therm (s : State) (die lane : Nat) (f : LaneSt → LaneSt) : (s.setLane die lane f).therm = s.therm := rfl
@[simp] theorem setLane_pending (s : State) (die lane : Nat) (f : LaneSt → LaneSt) : (s.setLane die lane f).pending = s.pending := rfl
@[simp] theorem setLane_sent (s : State) (die lane : Nat) (f : LaneSt → LaneSt) : (s.setLane die lane f).sent = s.sent := rfl
@[simp] theorem setLane_free (s : State) (die lane : Nat) (f : LaneSt → LaneSt) : (s.setLane die lane f).free = s.free := rfl

/-! setPort -/

@[simp] theorem setPort_fuses (s : State) (p : Nat) (f : PortSt → PortSt) : (s.setPort p f).fuses = s.fuses := rfl
@[simp] theorem setPort_now (s : State) (p : Nat) (f : PortSt → PortSt) : (s.setPort p f).now = s.now := rfl
@[simp] theorem setPort_objs (s : State) (p : Nat) (f : PortSt → PortSt) : (s.setPort p f).objs = s.objs := rfl
@[simp] theorem setPort_staged (s : State) (p : Nat) (f : PortSt → PortSt) : (s.setPort p f).staged = s.staged := rfl
@[simp] theorem setPort_corrix (s : State) (p : Nat) (f : PortSt → PortSt) : (s.setPort p f).corrix = s.corrix := rfl
@[simp] theorem setPort_spi (s : State) (p : Nat) (f : PortSt → PortSt) : (s.setPort p f).spi = s.spi := rfl
@[simp] theorem setPort_lay (s : State) (p : Nat) (f : PortSt → PortSt) : (s.setPort p f).lay = s.lay := rfl
@[simp] theorem setPort_dieRelease (s : State) (p : Nat) (f : PortSt → PortSt) : (s.setPort p f).dieRelease = s.dieRelease := rfl
@[simp] theorem setPort_lanes (s : State) (p : Nat) (f : PortSt → PortSt) : (s.setPort p f).lanes = s.lanes := rfl
@[simp] theorem setPort_enums (s : State) (p : Nat) (f : PortSt → PortSt) : (s.setPort p f).enums = s.enums := rfl
@[simp] theorem setPort_net (s : State) (p : Nat) (f : PortSt → PortSt) : (s.setPort p f).net = s.net := rfl
@[simp] theorem setPort_knots (s : State) (p : Nat) (f : PortSt → PortSt) : (s.setPort p f).knots = s.knots := rfl
@[simp] theorem setPort_knotLog (s : State) (p : Nat) (f : PortSt → PortSt) : (s.setPort p f).knotLog = s.knotLog := rfl
@[simp] theorem setPort_knotHold (s : State) (p : Nat) (f : PortSt → PortSt) : (s.setPort p f).knotHold = s.knotHold := rfl
@[simp] theorem setPort_faultSrc (s : State) (p : Nat) (f : PortSt → PortSt) : (s.setPort p f).faultSrc = s.faultSrc := rfl
@[simp] theorem setPort_fw (s : State) (p : Nat) (f : PortSt → PortSt) : (s.setPort p f).fw = s.fw := rfl
@[simp] theorem setPort_launch (s : State) (p : Nat) (f : PortSt → PortSt) : (s.setPort p f).launch = s.launch := rfl
@[simp] theorem setPort_comp (s : State) (p : Nat) (f : PortSt → PortSt) : (s.setPort p f).comp = s.comp := rfl
@[simp] theorem setPort_cam (s : State) (p : Nat) (f : PortSt → PortSt) : (s.setPort p f).cam = s.cam := rfl
@[simp] theorem setPort_tile (s : State) (p : Nat) (f : PortSt → PortSt) : (s.setPort p f).tile = s.tile := rfl
@[simp] theorem setPort_mem (s : State) (p : Nat) (f : PortSt → PortSt) : (s.setPort p f).mem = s.mem := rfl
@[simp] theorem setPort_journal (s : State) (p : Nat) (f : PortSt → PortSt) : (s.setPort p f).journal = s.journal := rfl
@[simp] theorem setPort_upd (s : State) (p : Nat) (f : PortSt → PortSt) : (s.setPort p f).upd = s.upd := rfl
@[simp] theorem setPort_clks (s : State) (p : Nat) (f : PortSt → PortSt) : (s.setPort p f).clks = s.clks := rfl
@[simp] theorem setPort_xings (s : State) (p : Nat) (f : PortSt → PortSt) : (s.setPort p f).xings = s.xings := rfl
@[simp] theorem setPort_boot (s : State) (p : Nat) (f : PortSt → PortSt) : (s.setPort p f).boot = s.boot := rfl
@[simp] theorem setPort_red (s : State) (p : Nat) (f : PortSt → PortSt) : (s.setPort p f).red = s.red := rfl
@[simp] theorem setPort_therm (s : State) (p : Nat) (f : PortSt → PortSt) : (s.setPort p f).therm = s.therm := rfl
@[simp] theorem setPort_pending (s : State) (p : Nat) (f : PortSt → PortSt) : (s.setPort p f).pending = s.pending := rfl
@[simp] theorem setPort_sent (s : State) (p : Nat) (f : PortSt → PortSt) : (s.setPort p f).sent = s.sent := rfl
@[simp] theorem setPort_free (s : State) (p : Nat) (f : PortSt → PortSt) : (s.setPort p f).free = s.free := rfl

/-! setRef -/

@[simp] theorem setRef_fuses (s : State) (code : Nat) (f : RefSt → RefSt) : (s.setRef code f).fuses = s.fuses := rfl
@[simp] theorem setRef_now (s : State) (code : Nat) (f : RefSt → RefSt) : (s.setRef code f).now = s.now := rfl
@[simp] theorem setRef_objs (s : State) (code : Nat) (f : RefSt → RefSt) : (s.setRef code f).objs = s.objs := rfl
@[simp] theorem setRef_staged (s : State) (code : Nat) (f : RefSt → RefSt) : (s.setRef code f).staged = s.staged := rfl
@[simp] theorem setRef_corrix (s : State) (code : Nat) (f : RefSt → RefSt) : (s.setRef code f).corrix = s.corrix := rfl
@[simp] theorem setRef_spi (s : State) (code : Nat) (f : RefSt → RefSt) : (s.setRef code f).spi = s.spi := rfl
@[simp] theorem setRef_dieRelease (s : State) (code : Nat) (f : RefSt → RefSt) : (s.setRef code f).dieRelease = s.dieRelease := rfl
@[simp] theorem setRef_lanes (s : State) (code : Nat) (f : RefSt → RefSt) : (s.setRef code f).lanes = s.lanes := rfl
@[simp] theorem setRef_ports (s : State) (code : Nat) (f : RefSt → RefSt) : (s.setRef code f).ports = s.ports := rfl
@[simp] theorem setRef_enums (s : State) (code : Nat) (f : RefSt → RefSt) : (s.setRef code f).enums = s.enums := rfl
@[simp] theorem setRef_net (s : State) (code : Nat) (f : RefSt → RefSt) : (s.setRef code f).net = s.net := rfl
@[simp] theorem setRef_knots (s : State) (code : Nat) (f : RefSt → RefSt) : (s.setRef code f).knots = s.knots := rfl
@[simp] theorem setRef_knotLog (s : State) (code : Nat) (f : RefSt → RefSt) : (s.setRef code f).knotLog = s.knotLog := rfl
@[simp] theorem setRef_knotHold (s : State) (code : Nat) (f : RefSt → RefSt) : (s.setRef code f).knotHold = s.knotHold := rfl
@[simp] theorem setRef_faultSrc (s : State) (code : Nat) (f : RefSt → RefSt) : (s.setRef code f).faultSrc = s.faultSrc := rfl
@[simp] theorem setRef_fw (s : State) (code : Nat) (f : RefSt → RefSt) : (s.setRef code f).fw = s.fw := rfl
@[simp] theorem setRef_launch (s : State) (code : Nat) (f : RefSt → RefSt) : (s.setRef code f).launch = s.launch := rfl
@[simp] theorem setRef_comp (s : State) (code : Nat) (f : RefSt → RefSt) : (s.setRef code f).comp = s.comp := rfl
@[simp] theorem setRef_cam (s : State) (code : Nat) (f : RefSt → RefSt) : (s.setRef code f).cam = s.cam := rfl
@[simp] theorem setRef_tile (s : State) (code : Nat) (f : RefSt → RefSt) : (s.setRef code f).tile = s.tile := rfl
@[simp] theorem setRef_mem (s : State) (code : Nat) (f : RefSt → RefSt) : (s.setRef code f).mem = s.mem := rfl
@[simp] theorem setRef_journal (s : State) (code : Nat) (f : RefSt → RefSt) : (s.setRef code f).journal = s.journal := rfl
@[simp] theorem setRef_upd (s : State) (code : Nat) (f : RefSt → RefSt) : (s.setRef code f).upd = s.upd := rfl
@[simp] theorem setRef_clks (s : State) (code : Nat) (f : RefSt → RefSt) : (s.setRef code f).clks = s.clks := rfl
@[simp] theorem setRef_xings (s : State) (code : Nat) (f : RefSt → RefSt) : (s.setRef code f).xings = s.xings := rfl
@[simp] theorem setRef_boot (s : State) (code : Nat) (f : RefSt → RefSt) : (s.setRef code f).boot = s.boot := rfl
@[simp] theorem setRef_red (s : State) (code : Nat) (f : RefSt → RefSt) : (s.setRef code f).red = s.red := rfl
@[simp] theorem setRef_therm (s : State) (code : Nat) (f : RefSt → RefSt) : (s.setRef code f).therm = s.therm := rfl
@[simp] theorem setRef_pending (s : State) (code : Nat) (f : RefSt → RefSt) : (s.setRef code f).pending = s.pending := rfl
@[simp] theorem setRef_sent (s : State) (code : Nat) (f : RefSt → RefSt) : (s.setRef code f).sent = s.sent := rfl
@[simp] theorem setRef_free (s : State) (code : Nat) (f : RefSt → RefSt) : (s.setRef code f).free = s.free := rfl

/-! setPtp -/

@[simp] theorem setPtp_fuses (s : State) (d : Nat) (f : PtpSt → PtpSt) : (s.setPtp d f).fuses = s.fuses := rfl
@[simp] theorem setPtp_now (s : State) (d : Nat) (f : PtpSt → PtpSt) : (s.setPtp d f).now = s.now := rfl
@[simp] theorem setPtp_objs (s : State) (d : Nat) (f : PtpSt → PtpSt) : (s.setPtp d f).objs = s.objs := rfl
@[simp] theorem setPtp_staged (s : State) (d : Nat) (f : PtpSt → PtpSt) : (s.setPtp d f).staged = s.staged := rfl
@[simp] theorem setPtp_corrix (s : State) (d : Nat) (f : PtpSt → PtpSt) : (s.setPtp d f).corrix = s.corrix := rfl
@[simp] theorem setPtp_spi (s : State) (d : Nat) (f : PtpSt → PtpSt) : (s.setPtp d f).spi = s.spi := rfl
@[simp] theorem setPtp_dieRelease (s : State) (d : Nat) (f : PtpSt → PtpSt) : (s.setPtp d f).dieRelease = s.dieRelease := rfl
@[simp] theorem setPtp_lanes (s : State) (d : Nat) (f : PtpSt → PtpSt) : (s.setPtp d f).lanes = s.lanes := rfl
@[simp] theorem setPtp_ports (s : State) (d : Nat) (f : PtpSt → PtpSt) : (s.setPtp d f).ports = s.ports := rfl
@[simp] theorem setPtp_enums (s : State) (d : Nat) (f : PtpSt → PtpSt) : (s.setPtp d f).enums = s.enums := rfl
@[simp] theorem setPtp_net (s : State) (d : Nat) (f : PtpSt → PtpSt) : (s.setPtp d f).net = s.net := rfl
@[simp] theorem setPtp_knots (s : State) (d : Nat) (f : PtpSt → PtpSt) : (s.setPtp d f).knots = s.knots := rfl
@[simp] theorem setPtp_knotLog (s : State) (d : Nat) (f : PtpSt → PtpSt) : (s.setPtp d f).knotLog = s.knotLog := rfl
@[simp] theorem setPtp_knotHold (s : State) (d : Nat) (f : PtpSt → PtpSt) : (s.setPtp d f).knotHold = s.knotHold := rfl
@[simp] theorem setPtp_faultSrc (s : State) (d : Nat) (f : PtpSt → PtpSt) : (s.setPtp d f).faultSrc = s.faultSrc := rfl
@[simp] theorem setPtp_fw (s : State) (d : Nat) (f : PtpSt → PtpSt) : (s.setPtp d f).fw = s.fw := rfl
@[simp] theorem setPtp_launch (s : State) (d : Nat) (f : PtpSt → PtpSt) : (s.setPtp d f).launch = s.launch := rfl
@[simp] theorem setPtp_comp (s : State) (d : Nat) (f : PtpSt → PtpSt) : (s.setPtp d f).comp = s.comp := rfl
@[simp] theorem setPtp_cam (s : State) (d : Nat) (f : PtpSt → PtpSt) : (s.setPtp d f).cam = s.cam := rfl
@[simp] theorem setPtp_tile (s : State) (d : Nat) (f : PtpSt → PtpSt) : (s.setPtp d f).tile = s.tile := rfl
@[simp] theorem setPtp_mem (s : State) (d : Nat) (f : PtpSt → PtpSt) : (s.setPtp d f).mem = s.mem := rfl
@[simp] theorem setPtp_journal (s : State) (d : Nat) (f : PtpSt → PtpSt) : (s.setPtp d f).journal = s.journal := rfl
@[simp] theorem setPtp_upd (s : State) (d : Nat) (f : PtpSt → PtpSt) : (s.setPtp d f).upd = s.upd := rfl
@[simp] theorem setPtp_clks (s : State) (d : Nat) (f : PtpSt → PtpSt) : (s.setPtp d f).clks = s.clks := rfl
@[simp] theorem setPtp_xings (s : State) (d : Nat) (f : PtpSt → PtpSt) : (s.setPtp d f).xings = s.xings := rfl
@[simp] theorem setPtp_boot (s : State) (d : Nat) (f : PtpSt → PtpSt) : (s.setPtp d f).boot = s.boot := rfl
@[simp] theorem setPtp_red (s : State) (d : Nat) (f : PtpSt → PtpSt) : (s.setPtp d f).red = s.red := rfl
@[simp] theorem setPtp_therm (s : State) (d : Nat) (f : PtpSt → PtpSt) : (s.setPtp d f).therm = s.therm := rfl
@[simp] theorem setPtp_pending (s : State) (d : Nat) (f : PtpSt → PtpSt) : (s.setPtp d f).pending = s.pending := rfl
@[simp] theorem setPtp_sent (s : State) (d : Nat) (f : PtpSt → PtpSt) : (s.setPtp d f).sent = s.sent := rfl
@[simp] theorem setPtp_free (s : State) (d : Nat) (f : PtpSt → PtpSt) : (s.setPtp d f).free = s.free := rfl

/-! shiftLay -/

@[simp] theorem shiftLay_fuses (s : State) (d : Int) : (s.shiftLay d).fuses = s.fuses := by simp only [State.shiftLay]
@[simp] theorem shiftLay_now (s : State) (d : Int) : (s.shiftLay d).now = s.now := by simp only [State.shiftLay]
@[simp] theorem shiftLay_objs (s : State) (d : Int) : (s.shiftLay d).objs = s.objs := by simp only [State.shiftLay]
@[simp] theorem shiftLay_staged (s : State) (d : Int) : (s.shiftLay d).staged = s.staged := by simp only [State.shiftLay]
@[simp] theorem shiftLay_corrix (s : State) (d : Int) : (s.shiftLay d).corrix = s.corrix := by simp only [State.shiftLay]
@[simp] theorem shiftLay_spi (s : State) (d : Int) : (s.shiftLay d).spi = s.spi := by simp only [State.shiftLay]
@[simp] theorem shiftLay_dieRelease (s : State) (d : Int) : (s.shiftLay d).dieRelease = s.dieRelease := by simp only [State.shiftLay]
@[simp] theorem shiftLay_lanes (s : State) (d : Int) : (s.shiftLay d).lanes = s.lanes := by simp only [State.shiftLay]
@[simp] theorem shiftLay_ports (s : State) (d : Int) : (s.shiftLay d).ports = s.ports := by simp only [State.shiftLay]
@[simp] theorem shiftLay_enums (s : State) (d : Int) : (s.shiftLay d).enums = s.enums := by simp only [State.shiftLay]
@[simp] theorem shiftLay_net (s : State) (d : Int) : (s.shiftLay d).net = s.net := by simp only [State.shiftLay]
@[simp] theorem shiftLay_knots (s : State) (d : Int) : (s.shiftLay d).knots = s.knots := by simp only [State.shiftLay]
@[simp] theorem shiftLay_knotLog (s : State) (d : Int) : (s.shiftLay d).knotLog = s.knotLog := by simp only [State.shiftLay]
@[simp] theorem shiftLay_knotHold (s : State) (d : Int) : (s.shiftLay d).knotHold = s.knotHold := by simp only [State.shiftLay]
@[simp] theorem shiftLay_faultSrc (s : State) (d : Int) : (s.shiftLay d).faultSrc = s.faultSrc := by simp only [State.shiftLay]
@[simp] theorem shiftLay_fw (s : State) (d : Int) : (s.shiftLay d).fw = s.fw := by simp only [State.shiftLay]
@[simp] theorem shiftLay_launch (s : State) (d : Int) : (s.shiftLay d).launch = s.launch := by simp only [State.shiftLay]
@[simp] theorem shiftLay_comp (s : State) (d : Int) : (s.shiftLay d).comp = s.comp := by simp only [State.shiftLay]
@[simp] theorem shiftLay_cam (s : State) (d : Int) : (s.shiftLay d).cam = s.cam := by simp only [State.shiftLay]
@[simp] theorem shiftLay_tile (s : State) (d : Int) : (s.shiftLay d).tile = s.tile := by simp only [State.shiftLay]
@[simp] theorem shiftLay_mem (s : State) (d : Int) : (s.shiftLay d).mem = s.mem := by simp only [State.shiftLay]
@[simp] theorem shiftLay_journal (s : State) (d : Int) : (s.shiftLay d).journal = s.journal := by simp only [State.shiftLay]
@[simp] theorem shiftLay_upd (s : State) (d : Int) : (s.shiftLay d).upd = s.upd := by simp only [State.shiftLay]
@[simp] theorem shiftLay_clks (s : State) (d : Int) : (s.shiftLay d).clks = s.clks := by simp only [State.shiftLay]
@[simp] theorem shiftLay_xings (s : State) (d : Int) : (s.shiftLay d).xings = s.xings := by simp only [State.shiftLay]
@[simp] theorem shiftLay_boot (s : State) (d : Int) : (s.shiftLay d).boot = s.boot := by simp only [State.shiftLay]
@[simp] theorem shiftLay_red (s : State) (d : Int) : (s.shiftLay d).red = s.red := by simp only [State.shiftLay]
@[simp] theorem shiftLay_therm (s : State) (d : Int) : (s.shiftLay d).therm = s.therm := by simp only [State.shiftLay]
@[simp] theorem shiftLay_pending (s : State) (d : Int) : (s.shiftLay d).pending = s.pending := by simp only [State.shiftLay]
@[simp] theorem shiftLay_sent (s : State) (d : Int) : (s.shiftLay d).sent = s.sent := by simp only [State.shiftLay]
@[simp] theorem shiftLay_free (s : State) (d : Int) : (s.shiftLay d).free = s.free := by simp only [State.shiftLay]

/-! showFreq -/

@[simp] theorem showFreq_fuses (s : State) : (s.showFreq).fuses = s.fuses := by simp only [State.showFreq, set_fuses]
@[simp] theorem showFreq_now (s : State) : (s.showFreq).now = s.now := by simp only [State.showFreq, set_now]
@[simp] theorem showFreq_staged (s : State) : (s.showFreq).staged = s.staged := by simp only [State.showFreq, set_staged]
@[simp] theorem showFreq_corrix (s : State) : (s.showFreq).corrix = s.corrix := by simp only [State.showFreq, set_corrix]
@[simp] theorem showFreq_spi (s : State) : (s.showFreq).spi = s.spi := by simp only [State.showFreq, set_spi]
@[simp] theorem showFreq_lay (s : State) : (s.showFreq).lay = s.lay := by simp only [State.showFreq, set_lay]
@[simp] theorem showFreq_dieRelease (s : State) : (s.showFreq).dieRelease = s.dieRelease := by simp only [State.showFreq, set_dieRelease]
@[simp] theorem showFreq_lanes (s : State) : (s.showFreq).lanes = s.lanes := by simp only [State.showFreq, set_lanes]
@[simp] theorem showFreq_ports (s : State) : (s.showFreq).ports = s.ports := by simp only [State.showFreq, set_ports]
@[simp] theorem showFreq_enums (s : State) : (s.showFreq).enums = s.enums := by simp only [State.showFreq, set_enums]
@[simp] theorem showFreq_net (s : State) : (s.showFreq).net = s.net := by simp only [State.showFreq, set_net]
@[simp] theorem showFreq_knots (s : State) : (s.showFreq).knots = s.knots := by simp only [State.showFreq, set_knots]
@[simp] theorem showFreq_knotLog (s : State) : (s.showFreq).knotLog = s.knotLog := by simp only [State.showFreq, set_knotLog]
@[simp] theorem showFreq_knotHold (s : State) : (s.showFreq).knotHold = s.knotHold := by simp only [State.showFreq, set_knotHold]
@[simp] theorem showFreq_faultSrc (s : State) : (s.showFreq).faultSrc = s.faultSrc := by simp only [State.showFreq, set_faultSrc]
@[simp] theorem showFreq_fw (s : State) : (s.showFreq).fw = s.fw := by simp only [State.showFreq, set_fw]
@[simp] theorem showFreq_launch (s : State) : (s.showFreq).launch = s.launch := by simp only [State.showFreq, set_launch]
@[simp] theorem showFreq_comp (s : State) : (s.showFreq).comp = s.comp := by simp only [State.showFreq, set_comp]
@[simp] theorem showFreq_cam (s : State) : (s.showFreq).cam = s.cam := by simp only [State.showFreq, set_cam]
@[simp] theorem showFreq_tile (s : State) : (s.showFreq).tile = s.tile := by simp only [State.showFreq, set_tile]
@[simp] theorem showFreq_mem (s : State) : (s.showFreq).mem = s.mem := by simp only [State.showFreq, set_mem]
@[simp] theorem showFreq_journal (s : State) : (s.showFreq).journal = s.journal := by simp only [State.showFreq, set_journal]
@[simp] theorem showFreq_upd (s : State) : (s.showFreq).upd = s.upd := by simp only [State.showFreq, set_upd]
@[simp] theorem showFreq_clks (s : State) : (s.showFreq).clks = s.clks := by simp only [State.showFreq, set_clks]
@[simp] theorem showFreq_xings (s : State) : (s.showFreq).xings = s.xings := by simp only [State.showFreq, set_xings]
@[simp] theorem showFreq_boot (s : State) : (s.showFreq).boot = s.boot := by simp only [State.showFreq, set_boot]
@[simp] theorem showFreq_red (s : State) : (s.showFreq).red = s.red := by simp only [State.showFreq, set_red]
@[simp] theorem showFreq_therm (s : State) : (s.showFreq).therm = s.therm := by simp only [State.showFreq, set_therm]
@[simp] theorem showFreq_pending (s : State) : (s.showFreq).pending = s.pending := by simp only [State.showFreq, set_pending]
@[simp] theorem showFreq_sent (s : State) : (s.showFreq).sent = s.sent := by simp only [State.showFreq, set_sent]
@[simp] theorem showFreq_free (s : State) : (s.showFreq).free = s.free := by simp only [State.showFreq, set_free]

/-! showPending -/

@[simp] theorem showPending_fuses (s : State) (d : Int) : (s.showPending d).fuses = s.fuses := rfl
@[simp] theorem showPending_now (s : State) (d : Int) : (s.showPending d).now = s.now := rfl
@[simp] theorem showPending_staged (s : State) (d : Int) : (s.showPending d).staged = s.staged := rfl
@[simp] theorem showPending_corrix (s : State) (d : Int) : (s.showPending d).corrix = s.corrix := rfl
@[simp] theorem showPending_spi (s : State) (d : Int) : (s.showPending d).spi = s.spi := rfl
@[simp] theorem showPending_lay (s : State) (d : Int) : (s.showPending d).lay = s.lay := rfl
@[simp] theorem showPending_dieRelease (s : State) (d : Int) : (s.showPending d).dieRelease = s.dieRelease := rfl
@[simp] theorem showPending_lanes (s : State) (d : Int) : (s.showPending d).lanes = s.lanes := rfl
@[simp] theorem showPending_ports (s : State) (d : Int) : (s.showPending d).ports = s.ports := rfl
@[simp] theorem showPending_enums (s : State) (d : Int) : (s.showPending d).enums = s.enums := rfl
@[simp] theorem showPending_net (s : State) (d : Int) : (s.showPending d).net = s.net := rfl
@[simp] theorem showPending_knots (s : State) (d : Int) : (s.showPending d).knots = s.knots := rfl
@[simp] theorem showPending_knotLog (s : State) (d : Int) : (s.showPending d).knotLog = s.knotLog := rfl
@[simp] theorem showPending_knotHold (s : State) (d : Int) : (s.showPending d).knotHold = s.knotHold := rfl
@[simp] theorem showPending_faultSrc (s : State) (d : Int) : (s.showPending d).faultSrc = s.faultSrc := rfl
@[simp] theorem showPending_fw (s : State) (d : Int) : (s.showPending d).fw = s.fw := rfl
@[simp] theorem showPending_launch (s : State) (d : Int) : (s.showPending d).launch = s.launch := rfl
@[simp] theorem showPending_comp (s : State) (d : Int) : (s.showPending d).comp = s.comp := rfl
@[simp] theorem showPending_cam (s : State) (d : Int) : (s.showPending d).cam = s.cam := rfl
@[simp] theorem showPending_tile (s : State) (d : Int) : (s.showPending d).tile = s.tile := rfl
@[simp] theorem showPending_mem (s : State) (d : Int) : (s.showPending d).mem = s.mem := rfl
@[simp] theorem showPending_journal (s : State) (d : Int) : (s.showPending d).journal = s.journal := rfl
@[simp] theorem showPending_upd (s : State) (d : Int) : (s.showPending d).upd = s.upd := rfl
@[simp] theorem showPending_clks (s : State) (d : Int) : (s.showPending d).clks = s.clks := rfl
@[simp] theorem showPending_xings (s : State) (d : Int) : (s.showPending d).xings = s.xings := rfl
@[simp] theorem showPending_boot (s : State) (d : Int) : (s.showPending d).boot = s.boot := rfl
@[simp] theorem showPending_red (s : State) (d : Int) : (s.showPending d).red = s.red := rfl
@[simp] theorem showPending_therm (s : State) (d : Int) : (s.showPending d).therm = s.therm := rfl
@[simp] theorem showPending_pending (s : State) (d : Int) : (s.showPending d).pending = s.pending := rfl
@[simp] theorem showPending_sent (s : State) (d : Int) : (s.showPending d).sent = s.sent := rfl
@[simp] theorem showPending_free (s : State) (d : Int) : (s.showPending d).free = s.free := rfl

/-! queueRec -/

@[simp] theorem queueRec_fuses (s : State) (e : JEnt) : (s.queueRec e).fuses = s.fuses := rfl
@[simp] theorem queueRec_now (s : State) (e : JEnt) : (s.queueRec e).now = s.now := rfl
@[simp] theorem queueRec_objs (s : State) (e : JEnt) : (s.queueRec e).objs = s.objs := rfl
@[simp] theorem queueRec_staged (s : State) (e : JEnt) : (s.queueRec e).staged = s.staged := rfl
@[simp] theorem queueRec_corrix (s : State) (e : JEnt) : (s.queueRec e).corrix = s.corrix := rfl
@[simp] theorem queueRec_spi (s : State) (e : JEnt) : (s.queueRec e).spi = s.spi := rfl
@[simp] theorem queueRec_lay (s : State) (e : JEnt) : (s.queueRec e).lay = s.lay := rfl
@[simp] theorem queueRec_dieRelease (s : State) (e : JEnt) : (s.queueRec e).dieRelease = s.dieRelease := rfl
@[simp] theorem queueRec_lanes (s : State) (e : JEnt) : (s.queueRec e).lanes = s.lanes := rfl
@[simp] theorem queueRec_ports (s : State) (e : JEnt) : (s.queueRec e).ports = s.ports := rfl
@[simp] theorem queueRec_enums (s : State) (e : JEnt) : (s.queueRec e).enums = s.enums := rfl
@[simp] theorem queueRec_net (s : State) (e : JEnt) : (s.queueRec e).net = s.net := rfl
@[simp] theorem queueRec_knots (s : State) (e : JEnt) : (s.queueRec e).knots = s.knots := rfl
@[simp] theorem queueRec_knotLog (s : State) (e : JEnt) : (s.queueRec e).knotLog = s.knotLog := rfl
@[simp] theorem queueRec_knotHold (s : State) (e : JEnt) : (s.queueRec e).knotHold = s.knotHold := rfl
@[simp] theorem queueRec_faultSrc (s : State) (e : JEnt) : (s.queueRec e).faultSrc = s.faultSrc := rfl
@[simp] theorem queueRec_fw (s : State) (e : JEnt) : (s.queueRec e).fw = s.fw := rfl
@[simp] theorem queueRec_launch (s : State) (e : JEnt) : (s.queueRec e).launch = s.launch := rfl
@[simp] theorem queueRec_comp (s : State) (e : JEnt) : (s.queueRec e).comp = s.comp := rfl
@[simp] theorem queueRec_cam (s : State) (e : JEnt) : (s.queueRec e).cam = s.cam := rfl
@[simp] theorem queueRec_tile (s : State) (e : JEnt) : (s.queueRec e).tile = s.tile := rfl
@[simp] theorem queueRec_mem (s : State) (e : JEnt) : (s.queueRec e).mem = s.mem := rfl
@[simp] theorem queueRec_upd (s : State) (e : JEnt) : (s.queueRec e).upd = s.upd := rfl
@[simp] theorem queueRec_clks (s : State) (e : JEnt) : (s.queueRec e).clks = s.clks := rfl
@[simp] theorem queueRec_xings (s : State) (e : JEnt) : (s.queueRec e).xings = s.xings := rfl
@[simp] theorem queueRec_boot (s : State) (e : JEnt) : (s.queueRec e).boot = s.boot := rfl
@[simp] theorem queueRec_red (s : State) (e : JEnt) : (s.queueRec e).red = s.red := rfl
@[simp] theorem queueRec_therm (s : State) (e : JEnt) : (s.queueRec e).therm = s.therm := rfl
@[simp] theorem queueRec_pending (s : State) (e : JEnt) : (s.queueRec e).pending = s.pending := rfl
@[simp] theorem queueRec_sent (s : State) (e : JEnt) : (s.queueRec e).sent = s.sent := rfl
@[simp] theorem queueRec_free (s : State) (e : JEnt) : (s.queueRec e).free = s.free := rfl

/-! keep -/

@[simp] theorem keep_fuses (s : State) (die key : Nat) (v : Int) : (s.keep die key v).fuses = s.fuses := rfl
@[simp] theorem keep_now (s : State) (die key : Nat) (v : Int) : (s.keep die key v).now = s.now := rfl
@[simp] theorem keep_staged (s : State) (die key : Nat) (v : Int) : (s.keep die key v).staged = s.staged := rfl
@[simp] theorem keep_corrix (s : State) (die key : Nat) (v : Int) : (s.keep die key v).corrix = s.corrix := rfl
@[simp] theorem keep_spi (s : State) (die key : Nat) (v : Int) : (s.keep die key v).spi = s.spi := rfl
@[simp] theorem keep_lay (s : State) (die key : Nat) (v : Int) : (s.keep die key v).lay = s.lay := rfl
@[simp] theorem keep_dieRelease (s : State) (die key : Nat) (v : Int) : (s.keep die key v).dieRelease = s.dieRelease := rfl
@[simp] theorem keep_lanes (s : State) (die key : Nat) (v : Int) : (s.keep die key v).lanes = s.lanes := rfl
@[simp] theorem keep_ports (s : State) (die key : Nat) (v : Int) : (s.keep die key v).ports = s.ports := rfl
@[simp] theorem keep_enums (s : State) (die key : Nat) (v : Int) : (s.keep die key v).enums = s.enums := rfl
@[simp] theorem keep_net (s : State) (die key : Nat) (v : Int) : (s.keep die key v).net = s.net := rfl
@[simp] theorem keep_knots (s : State) (die key : Nat) (v : Int) : (s.keep die key v).knots = s.knots := rfl
@[simp] theorem keep_knotLog (s : State) (die key : Nat) (v : Int) : (s.keep die key v).knotLog = s.knotLog := rfl
@[simp] theorem keep_knotHold (s : State) (die key : Nat) (v : Int) : (s.keep die key v).knotHold = s.knotHold := rfl
@[simp] theorem keep_faultSrc (s : State) (die key : Nat) (v : Int) : (s.keep die key v).faultSrc = s.faultSrc := rfl
@[simp] theorem keep_fw (s : State) (die key : Nat) (v : Int) : (s.keep die key v).fw = s.fw := rfl
@[simp] theorem keep_launch (s : State) (die key : Nat) (v : Int) : (s.keep die key v).launch = s.launch := rfl
@[simp] theorem keep_comp (s : State) (die key : Nat) (v : Int) : (s.keep die key v).comp = s.comp := rfl
@[simp] theorem keep_cam (s : State) (die key : Nat) (v : Int) : (s.keep die key v).cam = s.cam := rfl
@[simp] theorem keep_tile (s : State) (die key : Nat) (v : Int) : (s.keep die key v).tile = s.tile := rfl
@[simp] theorem keep_mem (s : State) (die key : Nat) (v : Int) : (s.keep die key v).mem = s.mem := rfl
@[simp] theorem keep_upd (s : State) (die key : Nat) (v : Int) : (s.keep die key v).upd = s.upd := rfl
@[simp] theorem keep_clks (s : State) (die key : Nat) (v : Int) : (s.keep die key v).clks = s.clks := rfl
@[simp] theorem keep_xings (s : State) (die key : Nat) (v : Int) : (s.keep die key v).xings = s.xings := rfl
@[simp] theorem keep_boot (s : State) (die key : Nat) (v : Int) : (s.keep die key v).boot = s.boot := rfl
@[simp] theorem keep_red (s : State) (die key : Nat) (v : Int) : (s.keep die key v).red = s.red := rfl
@[simp] theorem keep_therm (s : State) (die key : Nat) (v : Int) : (s.keep die key v).therm = s.therm := rfl
@[simp] theorem keep_pending (s : State) (die key : Nat) (v : Int) : (s.keep die key v).pending = s.pending := rfl
@[simp] theorem keep_sent (s : State) (die key : Nat) (v : Int) : (s.keep die key v).sent = s.sent := rfl
@[simp] theorem keep_free (s : State) (die key : Nat) (v : Int) : (s.keep die key v).free = s.free := rfl

/-! setMem -/

@[simp] theorem setMem_fuses (s : State) (die : Nat) (f : MemSt → MemSt) : (s.setMem die f).fuses = s.fuses := rfl
@[simp] theorem setMem_now (s : State) (die : Nat) (f : MemSt → MemSt) : (s.setMem die f).now = s.now := rfl
@[simp] theorem setMem_objs (s : State) (die : Nat) (f : MemSt → MemSt) : (s.setMem die f).objs = s.objs := rfl
@[simp] theorem setMem_staged (s : State) (die : Nat) (f : MemSt → MemSt) : (s.setMem die f).staged = s.staged := rfl
@[simp] theorem setMem_corrix (s : State) (die : Nat) (f : MemSt → MemSt) : (s.setMem die f).corrix = s.corrix := rfl
@[simp] theorem setMem_spi (s : State) (die : Nat) (f : MemSt → MemSt) : (s.setMem die f).spi = s.spi := rfl
@[simp] theorem setMem_lay (s : State) (die : Nat) (f : MemSt → MemSt) : (s.setMem die f).lay = s.lay := rfl
@[simp] theorem setMem_dieRelease (s : State) (die : Nat) (f : MemSt → MemSt) : (s.setMem die f).dieRelease = s.dieRelease := rfl
@[simp] theorem setMem_lanes (s : State) (die : Nat) (f : MemSt → MemSt) : (s.setMem die f).lanes = s.lanes := rfl
@[simp] theorem setMem_ports (s : State) (die : Nat) (f : MemSt → MemSt) : (s.setMem die f).ports = s.ports := rfl
@[simp] theorem setMem_enums (s : State) (die : Nat) (f : MemSt → MemSt) : (s.setMem die f).enums = s.enums := rfl
@[simp] theorem setMem_net (s : State) (die : Nat) (f : MemSt → MemSt) : (s.setMem die f).net = s.net := rfl
@[simp] theorem setMem_knots (s : State) (die : Nat) (f : MemSt → MemSt) : (s.setMem die f).knots = s.knots := rfl
@[simp] theorem setMem_knotLog (s : State) (die : Nat) (f : MemSt → MemSt) : (s.setMem die f).knotLog = s.knotLog := rfl
@[simp] theorem setMem_knotHold (s : State) (die : Nat) (f : MemSt → MemSt) : (s.setMem die f).knotHold = s.knotHold := rfl
@[simp] theorem setMem_faultSrc (s : State) (die : Nat) (f : MemSt → MemSt) : (s.setMem die f).faultSrc = s.faultSrc := rfl
@[simp] theorem setMem_fw (s : State) (die : Nat) (f : MemSt → MemSt) : (s.setMem die f).fw = s.fw := rfl
@[simp] theorem setMem_launch (s : State) (die : Nat) (f : MemSt → MemSt) : (s.setMem die f).launch = s.launch := rfl
@[simp] theorem setMem_comp (s : State) (die : Nat) (f : MemSt → MemSt) : (s.setMem die f).comp = s.comp := rfl
@[simp] theorem setMem_cam (s : State) (die : Nat) (f : MemSt → MemSt) : (s.setMem die f).cam = s.cam := rfl
@[simp] theorem setMem_tile (s : State) (die : Nat) (f : MemSt → MemSt) : (s.setMem die f).tile = s.tile := rfl
@[simp] theorem setMem_journal (s : State) (die : Nat) (f : MemSt → MemSt) : (s.setMem die f).journal = s.journal := rfl
@[simp] theorem setMem_upd (s : State) (die : Nat) (f : MemSt → MemSt) : (s.setMem die f).upd = s.upd := rfl
@[simp] theorem setMem_clks (s : State) (die : Nat) (f : MemSt → MemSt) : (s.setMem die f).clks = s.clks := rfl
@[simp] theorem setMem_xings (s : State) (die : Nat) (f : MemSt → MemSt) : (s.setMem die f).xings = s.xings := rfl
@[simp] theorem setMem_boot (s : State) (die : Nat) (f : MemSt → MemSt) : (s.setMem die f).boot = s.boot := rfl
@[simp] theorem setMem_red (s : State) (die : Nat) (f : MemSt → MemSt) : (s.setMem die f).red = s.red := rfl
@[simp] theorem setMem_therm (s : State) (die : Nat) (f : MemSt → MemSt) : (s.setMem die f).therm = s.therm := rfl
@[simp] theorem setMem_pending (s : State) (die : Nat) (f : MemSt → MemSt) : (s.setMem die f).pending = s.pending := rfl
@[simp] theorem setMem_sent (s : State) (die : Nat) (f : MemSt → MemSt) : (s.setMem die f).sent = s.sent := rfl
@[simp] theorem setMem_free (s : State) (die : Nat) (f : MemSt → MemSt) : (s.setMem die f).free = s.free := rfl

/-! setClk -/

@[simp] theorem setClk_fuses (s : State) (die : Nat) (f : ClkSt → ClkSt) : (s.setClk die f).fuses = s.fuses := rfl
@[simp] theorem setClk_now (s : State) (die : Nat) (f : ClkSt → ClkSt) : (s.setClk die f).now = s.now := rfl
@[simp] theorem setClk_objs (s : State) (die : Nat) (f : ClkSt → ClkSt) : (s.setClk die f).objs = s.objs := rfl
@[simp] theorem setClk_staged (s : State) (die : Nat) (f : ClkSt → ClkSt) : (s.setClk die f).staged = s.staged := rfl
@[simp] theorem setClk_corrix (s : State) (die : Nat) (f : ClkSt → ClkSt) : (s.setClk die f).corrix = s.corrix := rfl
@[simp] theorem setClk_spi (s : State) (die : Nat) (f : ClkSt → ClkSt) : (s.setClk die f).spi = s.spi := rfl
@[simp] theorem setClk_lay (s : State) (die : Nat) (f : ClkSt → ClkSt) : (s.setClk die f).lay = s.lay := rfl
@[simp] theorem setClk_dieRelease (s : State) (die : Nat) (f : ClkSt → ClkSt) : (s.setClk die f).dieRelease = s.dieRelease := rfl
@[simp] theorem setClk_lanes (s : State) (die : Nat) (f : ClkSt → ClkSt) : (s.setClk die f).lanes = s.lanes := rfl
@[simp] theorem setClk_ports (s : State) (die : Nat) (f : ClkSt → ClkSt) : (s.setClk die f).ports = s.ports := rfl
@[simp] theorem setClk_enums (s : State) (die : Nat) (f : ClkSt → ClkSt) : (s.setClk die f).enums = s.enums := rfl
@[simp] theorem setClk_net (s : State) (die : Nat) (f : ClkSt → ClkSt) : (s.setClk die f).net = s.net := rfl
@[simp] theorem setClk_knots (s : State) (die : Nat) (f : ClkSt → ClkSt) : (s.setClk die f).knots = s.knots := rfl
@[simp] theorem setClk_knotLog (s : State) (die : Nat) (f : ClkSt → ClkSt) : (s.setClk die f).knotLog = s.knotLog := rfl
@[simp] theorem setClk_knotHold (s : State) (die : Nat) (f : ClkSt → ClkSt) : (s.setClk die f).knotHold = s.knotHold := rfl
@[simp] theorem setClk_faultSrc (s : State) (die : Nat) (f : ClkSt → ClkSt) : (s.setClk die f).faultSrc = s.faultSrc := rfl
@[simp] theorem setClk_fw (s : State) (die : Nat) (f : ClkSt → ClkSt) : (s.setClk die f).fw = s.fw := rfl
@[simp] theorem setClk_launch (s : State) (die : Nat) (f : ClkSt → ClkSt) : (s.setClk die f).launch = s.launch := rfl
@[simp] theorem setClk_comp (s : State) (die : Nat) (f : ClkSt → ClkSt) : (s.setClk die f).comp = s.comp := rfl
@[simp] theorem setClk_cam (s : State) (die : Nat) (f : ClkSt → ClkSt) : (s.setClk die f).cam = s.cam := rfl
@[simp] theorem setClk_tile (s : State) (die : Nat) (f : ClkSt → ClkSt) : (s.setClk die f).tile = s.tile := rfl
@[simp] theorem setClk_mem (s : State) (die : Nat) (f : ClkSt → ClkSt) : (s.setClk die f).mem = s.mem := rfl
@[simp] theorem setClk_journal (s : State) (die : Nat) (f : ClkSt → ClkSt) : (s.setClk die f).journal = s.journal := rfl
@[simp] theorem setClk_upd (s : State) (die : Nat) (f : ClkSt → ClkSt) : (s.setClk die f).upd = s.upd := rfl
@[simp] theorem setClk_xings (s : State) (die : Nat) (f : ClkSt → ClkSt) : (s.setClk die f).xings = s.xings := rfl
@[simp] theorem setClk_boot (s : State) (die : Nat) (f : ClkSt → ClkSt) : (s.setClk die f).boot = s.boot := rfl
@[simp] theorem setClk_red (s : State) (die : Nat) (f : ClkSt → ClkSt) : (s.setClk die f).red = s.red := rfl
@[simp] theorem setClk_therm (s : State) (die : Nat) (f : ClkSt → ClkSt) : (s.setClk die f).therm = s.therm := rfl
@[simp] theorem setClk_pending (s : State) (die : Nat) (f : ClkSt → ClkSt) : (s.setClk die f).pending = s.pending := rfl
@[simp] theorem setClk_sent (s : State) (die : Nat) (f : ClkSt → ClkSt) : (s.setClk die f).sent = s.sent := rfl
@[simp] theorem setClk_free (s : State) (die : Nat) (f : ClkSt → ClkSt) : (s.setClk die f).free = s.free := rfl

/-! setXfer -/

@[simp] theorem setXfer_fuses (s : State) (k : Nat) (x : Xfer) : (s.setXfer k x).fuses = s.fuses := rfl
@[simp] theorem setXfer_now (s : State) (k : Nat) (x : Xfer) : (s.setXfer k x).now = s.now := rfl
@[simp] theorem setXfer_objs (s : State) (k : Nat) (x : Xfer) : (s.setXfer k x).objs = s.objs := rfl
@[simp] theorem setXfer_staged (s : State) (k : Nat) (x : Xfer) : (s.setXfer k x).staged = s.staged := rfl
@[simp] theorem setXfer_spi (s : State) (k : Nat) (x : Xfer) : (s.setXfer k x).spi = s.spi := rfl
@[simp] theorem setXfer_lay (s : State) (k : Nat) (x : Xfer) : (s.setXfer k x).lay = s.lay := rfl
@[simp] theorem setXfer_dieRelease (s : State) (k : Nat) (x : Xfer) : (s.setXfer k x).dieRelease = s.dieRelease := rfl
@[simp] theorem setXfer_lanes (s : State) (k : Nat) (x : Xfer) : (s.setXfer k x).lanes = s.lanes := rfl
@[simp] theorem setXfer_ports (s : State) (k : Nat) (x : Xfer) : (s.setXfer k x).ports = s.ports := rfl
@[simp] theorem setXfer_enums (s : State) (k : Nat) (x : Xfer) : (s.setXfer k x).enums = s.enums := rfl
@[simp] theorem setXfer_net (s : State) (k : Nat) (x : Xfer) : (s.setXfer k x).net = s.net := rfl
@[simp] theorem setXfer_knots (s : State) (k : Nat) (x : Xfer) : (s.setXfer k x).knots = s.knots := rfl
@[simp] theorem setXfer_knotLog (s : State) (k : Nat) (x : Xfer) : (s.setXfer k x).knotLog = s.knotLog := rfl
@[simp] theorem setXfer_knotHold (s : State) (k : Nat) (x : Xfer) : (s.setXfer k x).knotHold = s.knotHold := rfl
@[simp] theorem setXfer_faultSrc (s : State) (k : Nat) (x : Xfer) : (s.setXfer k x).faultSrc = s.faultSrc := rfl
@[simp] theorem setXfer_fw (s : State) (k : Nat) (x : Xfer) : (s.setXfer k x).fw = s.fw := rfl
@[simp] theorem setXfer_launch (s : State) (k : Nat) (x : Xfer) : (s.setXfer k x).launch = s.launch := rfl
@[simp] theorem setXfer_comp (s : State) (k : Nat) (x : Xfer) : (s.setXfer k x).comp = s.comp := rfl
@[simp] theorem setXfer_cam (s : State) (k : Nat) (x : Xfer) : (s.setXfer k x).cam = s.cam := rfl
@[simp] theorem setXfer_tile (s : State) (k : Nat) (x : Xfer) : (s.setXfer k x).tile = s.tile := rfl
@[simp] theorem setXfer_mem (s : State) (k : Nat) (x : Xfer) : (s.setXfer k x).mem = s.mem := rfl
@[simp] theorem setXfer_journal (s : State) (k : Nat) (x : Xfer) : (s.setXfer k x).journal = s.journal := rfl
@[simp] theorem setXfer_upd (s : State) (k : Nat) (x : Xfer) : (s.setXfer k x).upd = s.upd := rfl
@[simp] theorem setXfer_clks (s : State) (k : Nat) (x : Xfer) : (s.setXfer k x).clks = s.clks := rfl
@[simp] theorem setXfer_xings (s : State) (k : Nat) (x : Xfer) : (s.setXfer k x).xings = s.xings := rfl
@[simp] theorem setXfer_boot (s : State) (k : Nat) (x : Xfer) : (s.setXfer k x).boot = s.boot := rfl
@[simp] theorem setXfer_red (s : State) (k : Nat) (x : Xfer) : (s.setXfer k x).red = s.red := rfl
@[simp] theorem setXfer_therm (s : State) (k : Nat) (x : Xfer) : (s.setXfer k x).therm = s.therm := rfl
@[simp] theorem setXfer_pending (s : State) (k : Nat) (x : Xfer) : (s.setXfer k x).pending = s.pending := rfl
@[simp] theorem setXfer_sent (s : State) (k : Nat) (x : Xfer) : (s.setXfer k x).sent = s.sent := rfl
@[simp] theorem setXfer_free (s : State) (k : Nat) (x : Xfer) : (s.setXfer k x).free = s.free := rfl

/-! setG -/

@[simp] theorem setG_fuses (s : State) (die g : Nat) (f : GroupSt → GroupSt) : (s.setG die g f).fuses = s.fuses := rfl
@[simp] theorem setG_now (s : State) (die g : Nat) (f : GroupSt → GroupSt) : (s.setG die g f).now = s.now := rfl
@[simp] theorem setG_objs (s : State) (die g : Nat) (f : GroupSt → GroupSt) : (s.setG die g f).objs = s.objs := rfl
@[simp] theorem setG_staged (s : State) (die g : Nat) (f : GroupSt → GroupSt) : (s.setG die g f).staged = s.staged := rfl
@[simp] theorem setG_corrix (s : State) (die g : Nat) (f : GroupSt → GroupSt) : (s.setG die g f).corrix = s.corrix := rfl
@[simp] theorem setG_spi (s : State) (die g : Nat) (f : GroupSt → GroupSt) : (s.setG die g f).spi = s.spi := rfl
@[simp] theorem setG_lay (s : State) (die g : Nat) (f : GroupSt → GroupSt) : (s.setG die g f).lay = s.lay := rfl
@[simp] theorem setG_dieRelease (s : State) (die g : Nat) (f : GroupSt → GroupSt) : (s.setG die g f).dieRelease = s.dieRelease := rfl
@[simp] theorem setG_lanes (s : State) (die g : Nat) (f : GroupSt → GroupSt) : (s.setG die g f).lanes = s.lanes := rfl
@[simp] theorem setG_ports (s : State) (die g : Nat) (f : GroupSt → GroupSt) : (s.setG die g f).ports = s.ports := rfl
@[simp] theorem setG_enums (s : State) (die g : Nat) (f : GroupSt → GroupSt) : (s.setG die g f).enums = s.enums := rfl
@[simp] theorem setG_net (s : State) (die g : Nat) (f : GroupSt → GroupSt) : (s.setG die g f).net = s.net := rfl
@[simp] theorem setG_knots (s : State) (die g : Nat) (f : GroupSt → GroupSt) : (s.setG die g f).knots = s.knots := rfl
@[simp] theorem setG_knotLog (s : State) (die g : Nat) (f : GroupSt → GroupSt) : (s.setG die g f).knotLog = s.knotLog := rfl
@[simp] theorem setG_knotHold (s : State) (die g : Nat) (f : GroupSt → GroupSt) : (s.setG die g f).knotHold = s.knotHold := rfl
@[simp] theorem setG_faultSrc (s : State) (die g : Nat) (f : GroupSt → GroupSt) : (s.setG die g f).faultSrc = s.faultSrc := rfl
@[simp] theorem setG_fw (s : State) (die g : Nat) (f : GroupSt → GroupSt) : (s.setG die g f).fw = s.fw := rfl
@[simp] theorem setG_launch (s : State) (die g : Nat) (f : GroupSt → GroupSt) : (s.setG die g f).launch = s.launch := rfl
@[simp] theorem setG_comp (s : State) (die g : Nat) (f : GroupSt → GroupSt) : (s.setG die g f).comp = s.comp := rfl
@[simp] theorem setG_cam (s : State) (die g : Nat) (f : GroupSt → GroupSt) : (s.setG die g f).cam = s.cam := rfl
@[simp] theorem setG_mem (s : State) (die g : Nat) (f : GroupSt → GroupSt) : (s.setG die g f).mem = s.mem := rfl
@[simp] theorem setG_journal (s : State) (die g : Nat) (f : GroupSt → GroupSt) : (s.setG die g f).journal = s.journal := rfl
@[simp] theorem setG_upd (s : State) (die g : Nat) (f : GroupSt → GroupSt) : (s.setG die g f).upd = s.upd := rfl
@[simp] theorem setG_clks (s : State) (die g : Nat) (f : GroupSt → GroupSt) : (s.setG die g f).clks = s.clks := rfl
@[simp] theorem setG_xings (s : State) (die g : Nat) (f : GroupSt → GroupSt) : (s.setG die g f).xings = s.xings := rfl
@[simp] theorem setG_boot (s : State) (die g : Nat) (f : GroupSt → GroupSt) : (s.setG die g f).boot = s.boot := rfl
@[simp] theorem setG_red (s : State) (die g : Nat) (f : GroupSt → GroupSt) : (s.setG die g f).red = s.red := rfl
@[simp] theorem setG_therm (s : State) (die g : Nat) (f : GroupSt → GroupSt) : (s.setG die g f).therm = s.therm := rfl
@[simp] theorem setG_pending (s : State) (die g : Nat) (f : GroupSt → GroupSt) : (s.setG die g f).pending = s.pending := rfl
@[simp] theorem setG_sent (s : State) (die g : Nat) (f : GroupSt → GroupSt) : (s.setG die g f).sent = s.sent := rfl
@[simp] theorem setG_free (s : State) (die g : Nat) (f : GroupSt → GroupSt) : (s.setG die g f).free = s.free := rfl

/-! putG -/

@[simp] theorem putG_fuses (s : State) (die g key : Nat) (v : Int) : (s.putG die g key v).fuses = s.fuses := rfl
@[simp] theorem putG_now (s : State) (die g key : Nat) (v : Int) : (s.putG die g key v).now = s.now := rfl
@[simp] theorem putG_staged (s : State) (die g key : Nat) (v : Int) : (s.putG die g key v).staged = s.staged := rfl
@[simp] theorem putG_corrix (s : State) (die g key : Nat) (v : Int) : (s.putG die g key v).corrix = s.corrix := rfl
@[simp] theorem putG_spi (s : State) (die g key : Nat) (v : Int) : (s.putG die g key v).spi = s.spi := rfl
@[simp] theorem putG_lay (s : State) (die g key : Nat) (v : Int) : (s.putG die g key v).lay = s.lay := rfl
@[simp] theorem putG_dieRelease (s : State) (die g key : Nat) (v : Int) : (s.putG die g key v).dieRelease = s.dieRelease := rfl
@[simp] theorem putG_lanes (s : State) (die g key : Nat) (v : Int) : (s.putG die g key v).lanes = s.lanes := rfl
@[simp] theorem putG_ports (s : State) (die g key : Nat) (v : Int) : (s.putG die g key v).ports = s.ports := rfl
@[simp] theorem putG_enums (s : State) (die g key : Nat) (v : Int) : (s.putG die g key v).enums = s.enums := rfl
@[simp] theorem putG_net (s : State) (die g key : Nat) (v : Int) : (s.putG die g key v).net = s.net := rfl
@[simp] theorem putG_knots (s : State) (die g key : Nat) (v : Int) : (s.putG die g key v).knots = s.knots := rfl
@[simp] theorem putG_knotLog (s : State) (die g key : Nat) (v : Int) : (s.putG die g key v).knotLog = s.knotLog := rfl
@[simp] theorem putG_knotHold (s : State) (die g key : Nat) (v : Int) : (s.putG die g key v).knotHold = s.knotHold := rfl
@[simp] theorem putG_faultSrc (s : State) (die g key : Nat) (v : Int) : (s.putG die g key v).faultSrc = s.faultSrc := rfl
@[simp] theorem putG_fw (s : State) (die g key : Nat) (v : Int) : (s.putG die g key v).fw = s.fw := rfl
@[simp] theorem putG_launch (s : State) (die g key : Nat) (v : Int) : (s.putG die g key v).launch = s.launch := rfl
@[simp] theorem putG_comp (s : State) (die g key : Nat) (v : Int) : (s.putG die g key v).comp = s.comp := rfl
@[simp] theorem putG_cam (s : State) (die g key : Nat) (v : Int) : (s.putG die g key v).cam = s.cam := rfl
@[simp] theorem putG_tile (s : State) (die g key : Nat) (v : Int) : (s.putG die g key v).tile = s.tile := rfl
@[simp] theorem putG_mem (s : State) (die g key : Nat) (v : Int) : (s.putG die g key v).mem = s.mem := rfl
@[simp] theorem putG_journal (s : State) (die g key : Nat) (v : Int) : (s.putG die g key v).journal = s.journal := rfl
@[simp] theorem putG_upd (s : State) (die g key : Nat) (v : Int) : (s.putG die g key v).upd = s.upd := rfl
@[simp] theorem putG_clks (s : State) (die g key : Nat) (v : Int) : (s.putG die g key v).clks = s.clks := rfl
@[simp] theorem putG_xings (s : State) (die g key : Nat) (v : Int) : (s.putG die g key v).xings = s.xings := rfl
@[simp] theorem putG_boot (s : State) (die g key : Nat) (v : Int) : (s.putG die g key v).boot = s.boot := rfl
@[simp] theorem putG_red (s : State) (die g key : Nat) (v : Int) : (s.putG die g key v).red = s.red := rfl
@[simp] theorem putG_therm (s : State) (die g key : Nat) (v : Int) : (s.putG die g key v).therm = s.therm := rfl
@[simp] theorem putG_pending (s : State) (die g key : Nat) (v : Int) : (s.putG die g key v).pending = s.pending := rfl
@[simp] theorem putG_sent (s : State) (die g key : Nat) (v : Int) : (s.putG die g key v).sent = s.sent := rfl
@[simp] theorem putG_free (s : State) (die g key : Nat) (v : Int) : (s.putG die g key v).free = s.free := rfl

/-! setXing -/

@[simp] theorem setXing_fuses (s : State) (die : Nat) (x : Crossing) (f : Xing → Xing) : (s.setXing die x f).fuses = s.fuses := rfl
@[simp] theorem setXing_now (s : State) (die : Nat) (x : Crossing) (f : Xing → Xing) : (s.setXing die x f).now = s.now := rfl
@[simp] theorem setXing_objs (s : State) (die : Nat) (x : Crossing) (f : Xing → Xing) : (s.setXing die x f).objs = s.objs := rfl
@[simp] theorem setXing_staged (s : State) (die : Nat) (x : Crossing) (f : Xing → Xing) : (s.setXing die x f).staged = s.staged := rfl
@[simp] theorem setXing_corrix (s : State) (die : Nat) (x : Crossing) (f : Xing → Xing) : (s.setXing die x f).corrix = s.corrix := rfl
@[simp] theorem setXing_spi (s : State) (die : Nat) (x : Crossing) (f : Xing → Xing) : (s.setXing die x f).spi = s.spi := rfl
@[simp] theorem setXing_lay (s : State) (die : Nat) (x : Crossing) (f : Xing → Xing) : (s.setXing die x f).lay = s.lay := rfl
@[simp] theorem setXing_dieRelease (s : State) (die : Nat) (x : Crossing) (f : Xing → Xing) : (s.setXing die x f).dieRelease = s.dieRelease := rfl
@[simp] theorem setXing_lanes (s : State) (die : Nat) (x : Crossing) (f : Xing → Xing) : (s.setXing die x f).lanes = s.lanes := rfl
@[simp] theorem setXing_ports (s : State) (die : Nat) (x : Crossing) (f : Xing → Xing) : (s.setXing die x f).ports = s.ports := rfl
@[simp] theorem setXing_enums (s : State) (die : Nat) (x : Crossing) (f : Xing → Xing) : (s.setXing die x f).enums = s.enums := rfl
@[simp] theorem setXing_net (s : State) (die : Nat) (x : Crossing) (f : Xing → Xing) : (s.setXing die x f).net = s.net := rfl
@[simp] theorem setXing_knots (s : State) (die : Nat) (x : Crossing) (f : Xing → Xing) : (s.setXing die x f).knots = s.knots := rfl
@[simp] theorem setXing_knotLog (s : State) (die : Nat) (x : Crossing) (f : Xing → Xing) : (s.setXing die x f).knotLog = s.knotLog := rfl
@[simp] theorem setXing_knotHold (s : State) (die : Nat) (x : Crossing) (f : Xing → Xing) : (s.setXing die x f).knotHold = s.knotHold := rfl
@[simp] theorem setXing_faultSrc (s : State) (die : Nat) (x : Crossing) (f : Xing → Xing) : (s.setXing die x f).faultSrc = s.faultSrc := rfl
@[simp] theorem setXing_fw (s : State) (die : Nat) (x : Crossing) (f : Xing → Xing) : (s.setXing die x f).fw = s.fw := rfl
@[simp] theorem setXing_launch (s : State) (die : Nat) (x : Crossing) (f : Xing → Xing) : (s.setXing die x f).launch = s.launch := rfl
@[simp] theorem setXing_comp (s : State) (die : Nat) (x : Crossing) (f : Xing → Xing) : (s.setXing die x f).comp = s.comp := rfl
@[simp] theorem setXing_cam (s : State) (die : Nat) (x : Crossing) (f : Xing → Xing) : (s.setXing die x f).cam = s.cam := rfl
@[simp] theorem setXing_tile (s : State) (die : Nat) (x : Crossing) (f : Xing → Xing) : (s.setXing die x f).tile = s.tile := rfl
@[simp] theorem setXing_mem (s : State) (die : Nat) (x : Crossing) (f : Xing → Xing) : (s.setXing die x f).mem = s.mem := rfl
@[simp] theorem setXing_journal (s : State) (die : Nat) (x : Crossing) (f : Xing → Xing) : (s.setXing die x f).journal = s.journal := rfl
@[simp] theorem setXing_upd (s : State) (die : Nat) (x : Crossing) (f : Xing → Xing) : (s.setXing die x f).upd = s.upd := rfl
@[simp] theorem setXing_clks (s : State) (die : Nat) (x : Crossing) (f : Xing → Xing) : (s.setXing die x f).clks = s.clks := rfl
@[simp] theorem setXing_boot (s : State) (die : Nat) (x : Crossing) (f : Xing → Xing) : (s.setXing die x f).boot = s.boot := rfl
@[simp] theorem setXing_red (s : State) (die : Nat) (x : Crossing) (f : Xing → Xing) : (s.setXing die x f).red = s.red := rfl
@[simp] theorem setXing_therm (s : State) (die : Nat) (x : Crossing) (f : Xing → Xing) : (s.setXing die x f).therm = s.therm := rfl
@[simp] theorem setXing_pending (s : State) (die : Nat) (x : Crossing) (f : Xing → Xing) : (s.setXing die x f).pending = s.pending := rfl
@[simp] theorem setXing_sent (s : State) (die : Nat) (x : Crossing) (f : Xing → Xing) : (s.setXing die x f).sent = s.sent := rfl
@[simp] theorem setXing_free (s : State) (die : Nat) (x : Crossing) (f : Xing → Xing) : (s.setXing die x f).free = s.free := rfl

/-! crossReset -/

@[simp] theorem crossReset_fuses (s : State) (die : Nat) (test : Bool) (x : Crossing) : (s.crossReset die test x).fuses = s.fuses := rfl
@[simp] theorem crossReset_now (s : State) (die : Nat) (test : Bool) (x : Crossing) : (s.crossReset die test x).now = s.now := rfl
@[simp] theorem crossReset_objs (s : State) (die : Nat) (test : Bool) (x : Crossing) : (s.crossReset die test x).objs = s.objs := rfl
@[simp] theorem crossReset_staged (s : State) (die : Nat) (test : Bool) (x : Crossing) : (s.crossReset die test x).staged = s.staged := rfl
@[simp] theorem crossReset_corrix (s : State) (die : Nat) (test : Bool) (x : Crossing) : (s.crossReset die test x).corrix = s.corrix := rfl
@[simp] theorem crossReset_spi (s : State) (die : Nat) (test : Bool) (x : Crossing) : (s.crossReset die test x).spi = s.spi := rfl
@[simp] theorem crossReset_lay (s : State) (die : Nat) (test : Bool) (x : Crossing) : (s.crossReset die test x).lay = s.lay := rfl
@[simp] theorem crossReset_dieRelease (s : State) (die : Nat) (test : Bool) (x : Crossing) : (s.crossReset die test x).dieRelease = s.dieRelease := rfl
@[simp] theorem crossReset_lanes (s : State) (die : Nat) (test : Bool) (x : Crossing) : (s.crossReset die test x).lanes = s.lanes := rfl
@[simp] theorem crossReset_ports (s : State) (die : Nat) (test : Bool) (x : Crossing) : (s.crossReset die test x).ports = s.ports := rfl
@[simp] theorem crossReset_enums (s : State) (die : Nat) (test : Bool) (x : Crossing) : (s.crossReset die test x).enums = s.enums := rfl
@[simp] theorem crossReset_net (s : State) (die : Nat) (test : Bool) (x : Crossing) : (s.crossReset die test x).net = s.net := rfl
@[simp] theorem crossReset_knots (s : State) (die : Nat) (test : Bool) (x : Crossing) : (s.crossReset die test x).knots = s.knots := rfl
@[simp] theorem crossReset_knotLog (s : State) (die : Nat) (test : Bool) (x : Crossing) : (s.crossReset die test x).knotLog = s.knotLog := rfl
@[simp] theorem crossReset_knotHold (s : State) (die : Nat) (test : Bool) (x : Crossing) : (s.crossReset die test x).knotHold = s.knotHold := rfl
@[simp] theorem crossReset_faultSrc (s : State) (die : Nat) (test : Bool) (x : Crossing) : (s.crossReset die test x).faultSrc = s.faultSrc := rfl
@[simp] theorem crossReset_fw (s : State) (die : Nat) (test : Bool) (x : Crossing) : (s.crossReset die test x).fw = s.fw := rfl
@[simp] theorem crossReset_launch (s : State) (die : Nat) (test : Bool) (x : Crossing) : (s.crossReset die test x).launch = s.launch := rfl
@[simp] theorem crossReset_comp (s : State) (die : Nat) (test : Bool) (x : Crossing) : (s.crossReset die test x).comp = s.comp := rfl
@[simp] theorem crossReset_cam (s : State) (die : Nat) (test : Bool) (x : Crossing) : (s.crossReset die test x).cam = s.cam := rfl
@[simp] theorem crossReset_tile (s : State) (die : Nat) (test : Bool) (x : Crossing) : (s.crossReset die test x).tile = s.tile := rfl
@[simp] theorem crossReset_mem (s : State) (die : Nat) (test : Bool) (x : Crossing) : (s.crossReset die test x).mem = s.mem := rfl
@[simp] theorem crossReset_journal (s : State) (die : Nat) (test : Bool) (x : Crossing) : (s.crossReset die test x).journal = s.journal := rfl
@[simp] theorem crossReset_upd (s : State) (die : Nat) (test : Bool) (x : Crossing) : (s.crossReset die test x).upd = s.upd := rfl
@[simp] theorem crossReset_clks (s : State) (die : Nat) (test : Bool) (x : Crossing) : (s.crossReset die test x).clks = s.clks := rfl
@[simp] theorem crossReset_boot (s : State) (die : Nat) (test : Bool) (x : Crossing) : (s.crossReset die test x).boot = s.boot := rfl
@[simp] theorem crossReset_red (s : State) (die : Nat) (test : Bool) (x : Crossing) : (s.crossReset die test x).red = s.red := rfl
@[simp] theorem crossReset_therm (s : State) (die : Nat) (test : Bool) (x : Crossing) : (s.crossReset die test x).therm = s.therm := rfl
@[simp] theorem crossReset_pending (s : State) (die : Nat) (test : Bool) (x : Crossing) : (s.crossReset die test x).pending = s.pending := rfl
@[simp] theorem crossReset_sent (s : State) (die : Nat) (test : Bool) (x : Crossing) : (s.crossReset die test x).sent = s.sent := rfl
@[simp] theorem crossReset_free (s : State) (die : Nat) (test : Bool) (x : Crossing) : (s.crossReset die test x).free = s.free := rfl

/-! setRx -/

@[simp] theorem setRx_fuses (s : State) (die lane v : Nat) : (s.setRx die lane v).fuses = s.fuses := by unfold State.setRx; dsimp only; (repeat' split) <;> rfl
@[simp] theorem setRx_now (s : State) (die lane v : Nat) : (s.setRx die lane v).now = s.now := by unfold State.setRx; dsimp only; (repeat' split) <;> rfl
@[simp] theorem setRx_staged (s : State) (die lane v : Nat) : (s.setRx die lane v).staged = s.staged := by unfold State.setRx; dsimp only; (repeat' split) <;> rfl
@[simp] theorem setRx_corrix (s : State) (die lane v : Nat) : (s.setRx die lane v).corrix = s.corrix := by unfold State.setRx; dsimp only; (repeat' split) <;> rfl
@[simp] theorem setRx_spi (s : State) (die lane v : Nat) : (s.setRx die lane v).spi = s.spi := by unfold State.setRx; dsimp only; (repeat' split) <;> rfl
@[simp] theorem setRx_lay (s : State) (die lane v : Nat) : (s.setRx die lane v).lay = s.lay := by unfold State.setRx; dsimp only; (repeat' split) <;> rfl
@[simp] theorem setRx_dieRelease (s : State) (die lane v : Nat) : (s.setRx die lane v).dieRelease = s.dieRelease := by unfold State.setRx; dsimp only; (repeat' split) <;> rfl
@[simp] theorem setRx_ports (s : State) (die lane v : Nat) : (s.setRx die lane v).ports = s.ports := by unfold State.setRx; dsimp only; (repeat' split) <;> rfl
@[simp] theorem setRx_enums (s : State) (die lane v : Nat) : (s.setRx die lane v).enums = s.enums := by unfold State.setRx; dsimp only; (repeat' split) <;> rfl
@[simp] theorem setRx_net (s : State) (die lane v : Nat) : (s.setRx die lane v).net = s.net := by unfold State.setRx; dsimp only; (repeat' split) <;> rfl
@[simp] theorem setRx_knots (s : State) (die lane v : Nat) : (s.setRx die lane v).knots = s.knots := by unfold State.setRx; dsimp only; (repeat' split) <;> rfl
@[simp] theorem setRx_knotLog (s : State) (die lane v : Nat) : (s.setRx die lane v).knotLog = s.knotLog := by unfold State.setRx; dsimp only; (repeat' split) <;> rfl
@[simp] theorem setRx_knotHold (s : State) (die lane v : Nat) : (s.setRx die lane v).knotHold = s.knotHold := by unfold State.setRx; dsimp only; (repeat' split) <;> rfl
@[simp] theorem setRx_faultSrc (s : State) (die lane v : Nat) : (s.setRx die lane v).faultSrc = s.faultSrc := by unfold State.setRx; dsimp only; (repeat' split) <;> rfl
@[simp] theorem setRx_fw (s : State) (die lane v : Nat) : (s.setRx die lane v).fw = s.fw := by unfold State.setRx; dsimp only; (repeat' split) <;> rfl
@[simp] theorem setRx_launch (s : State) (die lane v : Nat) : (s.setRx die lane v).launch = s.launch := by unfold State.setRx; dsimp only; (repeat' split) <;> rfl
@[simp] theorem setRx_comp (s : State) (die lane v : Nat) : (s.setRx die lane v).comp = s.comp := by unfold State.setRx; dsimp only; (repeat' split) <;> rfl
@[simp] theorem setRx_cam (s : State) (die lane v : Nat) : (s.setRx die lane v).cam = s.cam := by unfold State.setRx; dsimp only; (repeat' split) <;> rfl
@[simp] theorem setRx_tile (s : State) (die lane v : Nat) : (s.setRx die lane v).tile = s.tile := by unfold State.setRx; dsimp only; (repeat' split) <;> rfl
@[simp] theorem setRx_mem (s : State) (die lane v : Nat) : (s.setRx die lane v).mem = s.mem := by unfold State.setRx; dsimp only; (repeat' split) <;> rfl
@[simp] theorem setRx_journal (s : State) (die lane v : Nat) : (s.setRx die lane v).journal = s.journal := by unfold State.setRx; dsimp only; (repeat' split) <;> rfl
@[simp] theorem setRx_upd (s : State) (die lane v : Nat) : (s.setRx die lane v).upd = s.upd := by unfold State.setRx; dsimp only; (repeat' split) <;> rfl
@[simp] theorem setRx_clks (s : State) (die lane v : Nat) : (s.setRx die lane v).clks = s.clks := by unfold State.setRx; dsimp only; (repeat' split) <;> rfl
@[simp] theorem setRx_boot (s : State) (die lane v : Nat) : (s.setRx die lane v).boot = s.boot := by unfold State.setRx; dsimp only; (repeat' split) <;> rfl
@[simp] theorem setRx_red (s : State) (die lane v : Nat) : (s.setRx die lane v).red = s.red := by unfold State.setRx; dsimp only; (repeat' split) <;> rfl
@[simp] theorem setRx_therm (s : State) (die lane v : Nat) : (s.setRx die lane v).therm = s.therm := by unfold State.setRx; dsimp only; (repeat' split) <;> rfl
@[simp] theorem setRx_pending (s : State) (die lane v : Nat) : (s.setRx die lane v).pending = s.pending := by unfold State.setRx; dsimp only; (repeat' split) <;> rfl
@[simp] theorem setRx_sent (s : State) (die lane v : Nat) : (s.setRx die lane v).sent = s.sent := by unfold State.setRx; dsimp only; (repeat' split) <;> rfl
@[simp] theorem setRx_free (s : State) (die lane v : Nat) : (s.setRx die lane v).free = s.free := by unfold State.setRx; dsimp only; (repeat' split) <;> rfl

/-! setTx -/

@[simp] theorem setTx_fuses (s : State) (die lane v : Nat) : (s.setTx die lane v).fuses = s.fuses := by unfold State.setTx State.when; dsimp only; split <;> rfl
@[simp] theorem setTx_now (s : State) (die lane v : Nat) : (s.setTx die lane v).now = s.now := by unfold State.setTx State.when; dsimp only; split <;> rfl
@[simp] theorem setTx_staged (s : State) (die lane v : Nat) : (s.setTx die lane v).staged = s.staged := by unfold State.setTx State.when; dsimp only; split <;> rfl
@[simp] theorem setTx_corrix (s : State) (die lane v : Nat) : (s.setTx die lane v).corrix = s.corrix := by unfold State.setTx State.when; dsimp only; split <;> rfl
@[simp] theorem setTx_spi (s : State) (die lane v : Nat) : (s.setTx die lane v).spi = s.spi := by unfold State.setTx State.when; dsimp only; split <;> rfl
@[simp] theorem setTx_lay (s : State) (die lane v : Nat) : (s.setTx die lane v).lay = s.lay := by unfold State.setTx State.when; dsimp only; split <;> rfl
@[simp] theorem setTx_dieRelease (s : State) (die lane v : Nat) : (s.setTx die lane v).dieRelease = s.dieRelease := by unfold State.setTx State.when; dsimp only; split <;> rfl
@[simp] theorem setTx_lanes (s : State) (die lane v : Nat) : (s.setTx die lane v).lanes = s.lanes := by unfold State.setTx State.when; dsimp only; split <;> rfl
@[simp] theorem setTx_ports (s : State) (die lane v : Nat) : (s.setTx die lane v).ports = s.ports := by unfold State.setTx State.when; dsimp only; split <;> rfl
@[simp] theorem setTx_enums (s : State) (die lane v : Nat) : (s.setTx die lane v).enums = s.enums := by unfold State.setTx State.when; dsimp only; split <;> rfl
@[simp] theorem setTx_net (s : State) (die lane v : Nat) : (s.setTx die lane v).net = s.net := by unfold State.setTx State.when; dsimp only; split <;> rfl
@[simp] theorem setTx_knots (s : State) (die lane v : Nat) : (s.setTx die lane v).knots = s.knots := by unfold State.setTx State.when; dsimp only; split <;> rfl
@[simp] theorem setTx_knotLog (s : State) (die lane v : Nat) : (s.setTx die lane v).knotLog = s.knotLog := by unfold State.setTx State.when; dsimp only; split <;> rfl
@[simp] theorem setTx_knotHold (s : State) (die lane v : Nat) : (s.setTx die lane v).knotHold = s.knotHold := by unfold State.setTx State.when; dsimp only; split <;> rfl
@[simp] theorem setTx_faultSrc (s : State) (die lane v : Nat) : (s.setTx die lane v).faultSrc = s.faultSrc := by unfold State.setTx State.when; dsimp only; split <;> rfl
@[simp] theorem setTx_fw (s : State) (die lane v : Nat) : (s.setTx die lane v).fw = s.fw := by unfold State.setTx State.when; dsimp only; split <;> rfl
@[simp] theorem setTx_launch (s : State) (die lane v : Nat) : (s.setTx die lane v).launch = s.launch := by unfold State.setTx State.when; dsimp only; split <;> rfl
@[simp] theorem setTx_comp (s : State) (die lane v : Nat) : (s.setTx die lane v).comp = s.comp := by unfold State.setTx State.when; dsimp only; split <;> rfl
@[simp] theorem setTx_cam (s : State) (die lane v : Nat) : (s.setTx die lane v).cam = s.cam := by unfold State.setTx State.when; dsimp only; split <;> rfl
@[simp] theorem setTx_tile (s : State) (die lane v : Nat) : (s.setTx die lane v).tile = s.tile := by unfold State.setTx State.when; dsimp only; split <;> rfl
@[simp] theorem setTx_mem (s : State) (die lane v : Nat) : (s.setTx die lane v).mem = s.mem := by unfold State.setTx State.when; dsimp only; split <;> rfl
@[simp] theorem setTx_journal (s : State) (die lane v : Nat) : (s.setTx die lane v).journal = s.journal := by unfold State.setTx State.when; dsimp only; split <;> rfl
@[simp] theorem setTx_upd (s : State) (die lane v : Nat) : (s.setTx die lane v).upd = s.upd := by unfold State.setTx State.when; dsimp only; split <;> rfl
@[simp] theorem setTx_clks (s : State) (die lane v : Nat) : (s.setTx die lane v).clks = s.clks := by unfold State.setTx State.when; dsimp only; split <;> rfl
@[simp] theorem setTx_boot (s : State) (die lane v : Nat) : (s.setTx die lane v).boot = s.boot := by unfold State.setTx State.when; dsimp only; split <;> rfl
@[simp] theorem setTx_red (s : State) (die lane v : Nat) : (s.setTx die lane v).red = s.red := by unfold State.setTx State.when; dsimp only; split <;> rfl
@[simp] theorem setTx_therm (s : State) (die lane v : Nat) : (s.setTx die lane v).therm = s.therm := by unfold State.setTx State.when; dsimp only; split <;> rfl
@[simp] theorem setTx_pending (s : State) (die lane v : Nat) : (s.setTx die lane v).pending = s.pending := by unfold State.setTx State.when; dsimp only; split <;> rfl
@[simp] theorem setTx_sent (s : State) (die lane v : Nat) : (s.setTx die lane v).sent = s.sent := by unfold State.setTx State.when; dsimp only; split <;> rfl
@[simp] theorem setTx_free (s : State) (die lane v : Nat) : (s.setTx die lane v).free = s.free := by unfold State.setTx State.when; dsimp only; split <;> rfl

end Sys2Proof.Laws
end

