-- ==== Sys2Proof/Laws/Ops.lean ====
section
/-! SUPPORT. What the shared operations do, once each: objects written and read, counters, what is put out, fault reports, commands that reach the part. -/

namespace Sys2Proof.Laws

open Sys2Proof.Machine

/-! Objects -/

theorem set_eq_put (s : State) (key : Nat) (v : Int) : s.set key v = s.put 0 key v := rfl

theorem val_put_same (s : State) (die key : Nat) (v : Int) : (s.put die key v).val die key = if v = objDflt key then .dflt else .num v := by
  simp [State.val, State.put]

theorem get_put_other (s : State) (die key k : Nat) (v : Int) (h : k ≠ fullKey die key) : smGet .dflt (s.put die key v).objs k = smGet .dflt s.objs k :=
  smGet_smPut_other _ _ _ h

/-- What is written to an object is what it reads. -/
@[simp] theorem int_put_same (s : State) (die key : Nat) (v : Int) : (s.put die key v).int die key = v := by
  unfold State.int
  rw [val_put_same]
  by_cases h : v = objDflt key <;> simp [h]

/-- Writing one object leaves the others. -/
theorem int_put_other (s : State) (die key d k : Nat) (v : Int) (h : fullKey d k ≠ fullKey die key) : (s.put die key v).int d k = s.int d k := by
  simp only [State.int, State.val, get_put_other _ _ _ _ _ h]

@[simp] theorem nat_put_same (s : State) (die key : Nat) (v : Int) : (s.put die key v).nat die key = v.toNat := by simp [State.nat]

theorem nat_put_other (s : State) (die key d k : Nat) (v : Int) (h : fullKey d k ≠ fullKey die key) : (s.put die key v).nat d k = s.nat d k := by
  simp [State.nat, int_put_other _ _ _ _ _ _ h]

/-- Two objects with keys of 24 bits share a key only if die and key agree. -/
theorem fullKey_inj {d k e j : Nat} (hk : k < 16777216) (hj : j < 16777216) (h : fullKey d k = fullKey e j) : d = e ∧ k = j := by
  unfold fullKey at h; omega

theorem objsBut_refl (s : State) (p : Nat → Prop) : ObjsBut s s p := fun _ _ => rfl

theorem objsBut_trans {s t u : State} {p : Nat → Prop} (h : ObjsBut s t p) (h' : ObjsBut t u p) : ObjsBut s u p := fun k hk => (h' k hk).trans (h k hk)

theorem objsBut_mono {s t : State} {p q : Nat → Prop} (h : ObjsBut s t p) (hpq : ∀ k, p k → q k) : ObjsBut s t q := fun k hk => h k fun hp => hk (hpq k hp)

/-- Two states with the same objects differ in none. -/
theorem objsBut_of_eq {s t : State} {p : Nat → Prop} (h : t.objs = s.objs) : ObjsBut s t p := fun k _ => by rw [h]

/-- A write of one object changes at most it. -/
theorem objsBut_put (s : State) (die key : Nat) (v : Int) : ObjsBut s (s.put die key v) fun k => k = fullKey die key := fun _ hk => get_put_other s die key _ v hk

/-- What an unchanged object reads. -/
theorem objsBut_int {s t : State} {p : Nat → Prop} (h : ObjsBut s t p) {die key : Nat} (hk : ¬ p (fullKey die key)) : t.int die key = s.int die key := by
  simp only [State.int, State.val, h _ hk]

theorem objsBut_nat {s t : State} {p : Nat → Prop} (h : ObjsBut s t p) {die key : Nat} (hk : ¬ p (fullKey die key)) : t.nat die key = s.nat die key := by
  simp [State.nat, objsBut_int h hk]

/-! Counters -/

/-- A counter increased changes its object and, past the largest value, the count of free values drawn. -/
theorem bump_rest (s : State) (die key n : Nat) : s.bump die key n = { s with objs := (s.bump die key n).objs, free := (s.bump die key n).free } := by
  unfold State.bump
  simp only []
  repeat' split
  all_goals rfl

@[simp] theorem bump_fuses (s : State) (die key n : Nat) : (s.bump die key n).fuses = s.fuses := (congrArg State.fuses (bump_rest s die key n) :)
@[simp] theorem bump_now (s : State) (die key n : Nat) : (s.bump die key n).now = s.now := (congrArg State.now (bump_rest s die key n) :)
@[simp] theorem bump_staged (s : State) (die key n : Nat) : (s.bump die key n).staged = s.staged := (congrArg State.staged (bump_rest s die key n) :)
@[simp] theorem bump_corrix (s : State) (die key n : Nat) : (s.bump die key n).corrix = s.corrix := (congrArg State.corrix (bump_rest s die key n) :)
@[simp] theorem bump_spi (s : State) (die key n : Nat) : (s.bump die key n).spi = s.spi := (congrArg State.spi (bump_rest s die key n) :)
@[simp] theorem bump_lay (s : State) (die key n : Nat) : (s.bump die key n).lay = s.lay := (congrArg State.lay (bump_rest s die key n) :)
@[simp] theorem bump_dieRelease (s : State) (die key n : Nat) : (s.bump die key n).dieRelease = s.dieRelease := (congrArg State.dieRelease (bump_rest s die key n) :)
@[simp] theorem bump_lanes (s : State) (die key n : Nat) : (s.bump die key n).lanes = s.lanes := (congrArg State.lanes (bump_rest s die key n) :)
@[simp] theorem bump_ports (s : State) (die key n : Nat) : (s.bump die key n).ports = s.ports := (congrArg State.ports (bump_rest s die key n) :)
@[simp] theorem bump_enums (s : State) (die key n : Nat) : (s.bump die key n).enums = s.enums := (congrArg State.enums (bump_rest s die key n) :)
@[simp] theorem bump_net (s : State) (die key n : Nat) : (s.bump die key n).net = s.net := (congrArg State.net (bump_rest s die key n) :)
@[simp] theorem bump_knots (s : State) (die key n : Nat) : (s.bump die key n).knots = s.knots := (congrArg State.knots (bump_rest s die key n) :)
@[simp] theorem bump_knotLog (s : State) (die key n : Nat) : (s.bump die key n).knotLog = s.knotLog := (congrArg State.knotLog (bump_rest s die key n) :)
@[simp] theorem bump_knotHold (s : State) (die key n : Nat) : (s.bump die key n).knotHold = s.knotHold := (congrArg State.knotHold (bump_rest s die key n) :)
@[simp] theorem bump_faultSrc (s : State) (die key n : Nat) : (s.bump die key n).faultSrc = s.faultSrc := (congrArg State.faultSrc (bump_rest s die key n) :)
@[simp] theorem bump_fw (s : State) (die key n : Nat) : (s.bump die key n).fw = s.fw := (congrArg State.fw (bump_rest s die key n) :)
@[simp] theorem bump_launch (s : State) (die key n : Nat) : (s.bump die key n).launch = s.launch := (congrArg State.launch (bump_rest s die key n) :)
@[simp] theorem bump_comp (s : State) (die key n : Nat) : (s.bump die key n).comp = s.comp := (congrArg State.comp (bump_rest s die key n) :)
@[simp] theorem bump_cam (s : State) (die key n : Nat) : (s.bump die key n).cam = s.cam := (congrArg State.cam (bump_rest s die key n) :)
@[simp] theorem bump_tile (s : State) (die key n : Nat) : (s.bump die key n).tile = s.tile := (congrArg State.tile (bump_rest s die key n) :)
@[simp] theorem bump_mem (s : State) (die key n : Nat) : (s.bump die key n).mem = s.mem := (congrArg State.mem (bump_rest s die key n) :)
@[simp] theorem bump_journal (s : State) (die key n : Nat) : (s.bump die key n).journal = s.journal := (congrArg State.journal (bump_rest s die key n) :)
@[simp] theorem bump_upd (s : State) (die key n : Nat) : (s.bump die key n).upd = s.upd := (congrArg State.upd (bump_rest s die key n) :)
@[simp] theorem bump_clks (s : State) (die key n : Nat) : (s.bump die key n).clks = s.clks := (congrArg State.clks (bump_rest s die key n) :)
@[simp] theorem bump_xings (s : State) (die key n : Nat) : (s.bump die key n).xings = s.xings := (congrArg State.xings (bump_rest s die key n) :)
@[simp] theorem bump_boot (s : State) (die key n : Nat) : (s.bump die key n).boot = s.boot := (congrArg State.boot (bump_rest s die key n) :)
@[simp] theorem bump_red (s : State) (die key n : Nat) : (s.bump die key n).red = s.red := (congrArg State.red (bump_rest s die key n) :)
@[simp] theorem bump_therm (s : State) (die key n : Nat) : (s.bump die key n).therm = s.therm := (congrArg State.therm (bump_rest s die key n) :)
@[simp] theorem bump_pending (s : State) (die key n : Nat) : (s.bump die key n).pending = s.pending := (congrArg State.pending (bump_rest s die key n) :)
@[simp] theorem bump_sent (s : State) (die key n : Nat) : (s.bump die key n).sent = s.sent := (congrArg State.sent (bump_rest s die key n) :)

theorem bump_objs (s : State) (die key n : Nat) : ObjsBut s (s.bump die key n) fun k => k = fullKey die key := by
  unfold State.bump
  simp only []
  repeat' split
  all_goals exact objsBut_put _ _ _ _

/-- Below its largest value a counter adds. -/
theorem bump_int (s : State) (die key n : Nat) (h : s.int die key + n ≤ (objTy key).bounds.2) : (s.bump die key n).int die key = s.int die key + n := by
  unfold State.bump
  simp [h]

/-! Crossings (R388, R389) -/

/-- A flag that raises no report is marked and changes nothing else. -/
theorem raise_plain (s : State) (die key i x : Nat) (h : reportOf key i = none) : s.raise die key i x = { s with objs := (s.raise die key i x).objs } ∧
    ObjsBut s (s.raise die key i x) fun k => k = fullKey die key := by
  unfold State.raise
  rw [h]
  split
  · exact ⟨rfl, objsBut_refl _ _⟩
  · exact ⟨rfl, objsBut_put _ _ _ _⟩

/-- What holds of a state with an update and without it holds where the update is conditional. -/
theorem when_of {P : State → Prop} (s : State) (b : Bool) (f : State → State) (h0 : P s) (h1 : P (f s)) : P (s.when b f) := by
  cases b
  · exact h0
  · exact h1

/-- Two updates of objects, crossings and the count of free values alone. -/
theorem cross_trans {s t u : State} (h : t = { s with objs := t.objs, xings := t.xings, free := t.free }) (h' : u = { t with objs := u.objs, xings := u.xings, free := u.free }) :
    u = { s with objs := u.objs, xings := u.xings, free := u.free } :=
  h'.trans (congrArg (fun v : State => { v with objs := u.objs, xings := u.xings, free := u.free }) h)

/-- A counter increased is such an update, and so is a flag that raises no report. -/
theorem bump_cross (s : State) (die key n : Nat) : s.bump die key n = { s with objs := (s.bump die key n).objs, xings := (s.bump die key n).xings, free := (s.bump die key n).free } := by
  rw [bump_xings]
  exact bump_rest s die key n

theorem raise_cross (s : State) (die key i x : Nat) (h : reportOf key i = none) :
    s.raise die key i x = { s with objs := (s.raise die key i x).objs, xings := (s.raise die key i x).xings, free := (s.raise die key i x).free } := by
  have e := (raise_plain s die key i x h).1
  have e1 : (s.raise die key i x).xings = s.xings := by rw [e]
  have e2 : (s.raise die key i x).free = s.free := by rw [e]
  rw [e1, e2]
  exact e

/-- Events over a crossing change its entry, xing_overruns and clock_flags of the die, and nothing else. -/
theorem crossEvents_rest (s : State) (die : Nat) (x : Crossing) (n : Nat) :
    s.crossEvents die x n = { s with objs := (s.crossEvents die x n).objs, xings := (s.crossEvents die x n).xings, free := (s.crossEvents die x n).free } := by
  unfold State.crossEvents
  dsimp only
  by_cases h : (decide (n = 0) || s.crossShut die x) = true
  · rw [if_pos h]
  · rw [if_neg h]
    refine when_of (P := fun t => t = { s with objs := t.objs, xings := t.xings, free := t.free }) _ _ _ rfl ?_
    exact cross_trans (t := State.setXing s die x _) rfl (cross_trans (bump_cross _ _ _ _) (raise_cross _ _ _ _ _ rfl))

theorem crossEvents_objs (s : State) (die : Nat) (x : Crossing) (n : Nat) :
    ObjsBut s (s.crossEvents die x n) fun k => k = fullKey die Ob.xing_overruns ∨ k = fullKey die Ob.clock_flags := by
  unfold State.crossEvents
  dsimp only
  by_cases h : (decide (n = 0) || s.crossShut die x) = true
  · rw [if_pos h]
    exact objsBut_refl _ _
  · rw [if_neg h]
    exact when_of (P := fun t => ObjsBut s t _) _ _ _ (objsBut_of_eq rfl) (objsBut_trans (t := State.setXing s die x _) (objsBut_of_eq rfl)
        (objsBut_trans (objsBut_mono (bump_objs _ _ _ _) fun _ h => .inl h) (objsBut_mono (raise_plain _ die Ob.clock_flags 3 0 rfl).2 fun _ h => .inr h)))

/-- A cell that comes in by a port changes cell_rx of the port, its crossing, xing_overruns and clock_flags. -/
theorem cellArrives_rest (s : State) (p : Nat) :
    s.cellArrives p = { s with objs := (s.cellArrives p).objs, xings := (s.cellArrives p).xings, free := (s.cellArrives p).free } := by
  unfold State.cellArrives
  generalize s.crossCount (p / 16) (.cellReceived (p % 16)) 1 = n
  exact cross_trans (bump_cross s _ _ _) (crossEvents_rest _ _ _ _)

theorem cellArrives_objs (s : State) (p : Nat) :
    ObjsBut s (s.cellArrives p) fun k => k = fullKey (p / 16) (Ob.cell_rx + p % 16) ∨ k = fullKey (p / 16) Ob.xing_overruns ∨ k = fullKey (p / 16) Ob.clock_flags := by
  unfold State.cellArrives
  generalize s.crossCount (p / 16) (.cellReceived (p % 16)) 1 = n
  exact objsBut_trans (objsBut_mono (bump_objs s (p / 16) (Ob.cell_rx + p % 16) n) fun _ h => .inl h) (objsBut_mono (crossEvents_objs _ _ _ _) fun _ h => .inr h)

end Sys2Proof.Laws
end

