-- ==== Sys2Proof/Laws/Reports.lean ====
section
/-! SUPPORT. What a fault report can change (R173-R179): the chain from a flag to its knot, one lemma per operation. -/

namespace Sys2Proof.Laws

open Sys2Proof.Machine

variable {p : Nat → Prop}

theorem reportOnly_refl (s : State) : ReportOnly s s p := ⟨objsBut_refl _ _, fun _ => rfl, fun _ => rfl, rfl, rfl⟩

theorem reportOnly_trans {s t u : State} (h : ReportOnly s t p) (h' : ReportOnly t u p) : ReportOnly s u p where
  objs := objsBut_trans h.objs h'.objs
  ports q := by
    have a := h.ports q
    have b := h'.ports q
    rw [← a]; rw [← b]
  lanes q := by
    have a := h.lanes q
    have b := h'.lanes q
    rw [← a]; rw [← b]
  spi := by
    have a := h.spi
    have b := h'.spi
    rw [← a]; rw [← b]
  rest := by
    have a := h.rest
    have b := h'.rest
    rw [← a]; rw [← b]

/-- A write of an object that a report may change, or of the one named. -/
theorem reportOnly_put (s : State) (die key : Nat) (v : Int) (h : p (fullKey die key) ∨ reportKey (fullKey die key)) : ReportOnly s (s.put die key v) p where
  objs := objsBut_mono (objsBut_put _ _ _ _) fun _ hk => hk ▸ h
  ports _ := rfl
  lanes _ := rfl
  spi := rfl
  rest := rfl

theorem reportOnly_bump (s : State) (die key n : Nat) (h : p (fullKey die key) ∨ reportKey (fullKey die key)) : ReportOnly s (s.bump die key n) p where
  objs := objsBut_mono (bump_objs _ _ _ _) fun _ hk => hk ▸ h
  ports _ := by rw [bump_ports]
  lanes _ := by rw [bump_lanes]
  spi := by rw [bump_spi]
  rest := by simp

theorem reportOnly_emit (s : State) (o : Output) : ReportOnly s (s.emit o) p := ⟨objsBut_of_eq rfl, fun _ => rfl, fun _ => rfl, rfl, rfl⟩

theorem reportOnly_setLane (s : State) (die lane n : Nat) : ReportOnly s (s.setLane die lane fun l => { l with annLeft := n }) p where
  objs := objsBut_of_eq rfl
  ports _ := rfl
  lanes l := by
    by_cases h : l = laneKey die lane
    · subst h; simp [State.setLane, State.lane]
    · simp only [State.setLane, smGet_smPut_other _ _ _ h]
  spi := rfl
  rest := rfl

theorem wakeTx_reportOnly (s : State) (die q : Nat) : ReportOnly s (s.wakeTx die (q % 16)) p := by
  have k1 : p (fullKey die (Ob.lane_sleep + q % 16)) ∨ reportKey (fullKey die (Ob.lane_sleep + q % 16)) := .inr (.inr (.inr (.inr (.inr (.inr (.inl ⟨die, q, rfl⟩))))))
  have k2 : p (fullKey die (Ob.lane_state + q % 16)) ∨ reportKey (fullKey die (Ob.lane_state + q % 16)) := .inr (.inr (.inr (.inr (.inr (.inr (.inr ⟨die, q, rfl⟩))))))
  unfold State.wakeTx
  dsimp only
  split
  · exact reportOnly_trans (reportOnly_trans (reportOnly_put _ _ _ _ k1) (reportOnly_setLane _ _ _ _)) (reportOnly_put _ _ _ _ k2)
  · exact reportOnly_trans (reportOnly_put _ _ _ _ k1) (reportOnly_setLane _ _ _ _)

theorem reportOnly_xings (s : State) (l : SMap Xing) : ReportOnly s { s with xings := l } p := ⟨objsBut_of_eq rfl, fun _ => rfl, fun _ => rfl, rfl, rfl⟩

/-- A port's forwarding queue and its wake. -/
theorem reportOnly_setPort (s : State) (q : Nat) (f : PortSt → PortSt) (h : ∀ t : PortSt, { f t with fwd := t.fwd, own := t.own, ready := t.ready, waking := t.waking } = t) : ReportOnly s (s.setPort q f) p where
  objs := objsBut_of_eq rfl
  ports r := by
    by_cases e : r = q
    · subst e
      simp only [State.setPort, State.port, smGet_smPut_same]
      exact h _
    · simp only [State.setPort, smGet_smPut_other _ _ _ e]
  lanes _ := rfl
  spi := rfl
  rest := rfl

theorem wakeClock_reportOnly (s : State) (q : Nat) : ReportOnly s (s.wakeClock q) p := by
  unfold State.wakeClock
  dsimp only
  split
  · exact reportOnly_xings _ _
  · exact reportOnly_refl _

theorem autoWake_reportOnly (s : State) (q : Nat) : ReportOnly s (s.autoWake q) p := by
  unfold State.autoWake
  dsimp only
  split
  · exact reportOnly_trans (wakeClock_reportOnly _ _) (reportOnly_trans (reportOnly_setPort _ q (fun t => { t with waking := true }) fun _ => rfl) (wakeTx_reportOnly _ _ _))
  · exact wakeClock_reportOnly _ _

/-- A cell queued to be forwarded changes the forwarding queue of its port, or fwd_drops, and may wake the port. -/
theorem queueFwd_reportOnly (s : State) (q : Nat) (c : Cell) (hc : c.cls ≠ 0) : ReportOnly s (s.queueFwd q c) p := by
  have key : reportKey (fullKey (q / 16) (Ob.fwd_drops + q % 16)) := .inr (.inr (.inr (.inr (.inl ⟨q / 16, q, rfl⟩))))
  have drop : ReportOnly s (s.bump (q / 16) (Ob.fwd_drops + q % 16)) p := reportOnly_bump _ _ _ _ (.inr key)
  unfold State.queueFwd State.bumpPort atPort
  split
  · exact drop
  · split
    · exact drop
    · refine reportOnly_trans (t := s.setPort q fun t => { t with fwd := t.fwd ++ [c], own := if s.isHead then t.own else t.ready ++ t.own, ready := if s.isHead then t.ready else [] }) ?_
        (autoWake_reportOnly _ _)
      exact reportOnly_setPort s q (fun t => { t with fwd := t.fwd ++ [c], own := if s.isHead then t.own else t.ready ++ t.own, ready := if s.isHead then t.ready else [] }) fun _ => rfl

theorem driveFault_reportOnly (s : State) (b : Bool) : ReportOnly s (s.driveFault b) p := by
  unfold State.driveFault
  split
  · exact reportOnly_refl _
  · exact ⟨objsBut_of_eq rfl, fun _ => rfl, fun _ => rfl, rfl, rfl⟩

theorem deliverKnot_reportOnly (s : State) (k : Knot) : ReportOnly s (s.deliverKnot k) p := by
  unfold State.deliverKnot
  refine reportOnly_trans ?_ (driveFault_reportOnly _ _)
  refine reportOnly_trans (t := State.bump _ 0 Ob.event_seq) ?_ ⟨objsBut_of_eq rfl, fun _ => rfl, fun _ => rfl, rfl, rfl⟩
  refine reportOnly_trans ?_ (reportOnly_bump _ _ _ _ (.inr (.inl rfl)))
  refine reportOnly_trans (t := { s with knotLog := (s.knotLog ++ [k]).drop ((s.knotLog.length + 1) - 32) }) ⟨objsBut_of_eq rfl, fun _ => rfl, fun _ => rfl, rfl, rfl⟩ ?_
  unfold State.when
  split
  · exact reportOnly_emit _ _
  · exact reportOnly_refl _

theorem sendKnot_reportOnly (s : State) (k : Knot) : ReportOnly s (s.sendKnot k).1 p := by
  unfold State.sendKnot
  split
  · exact deliverKnot_reportOnly _ _
  · split
    · exact queueFwd_reportOnly _ _ _ (Nat.one_ne_zero : _)
    · exact reportOnly_refl _

theorem reportOnly_knots (s : State) (l : List Knot) : ReportOnly s { s with knots := l } p := ⟨objsBut_of_eq rfl, fun _ => rfl, fun _ => rfl, rfl, rfl⟩

theorem insertKnot_reportOnly (s : State) (k : Knot) : ReportOnly s (s.insertKnot k) p := by
  unfold State.insertKnot
  split
  · exact reportOnly_knots _ _
  · split
    · next old rest _ =>
      split
      · refine reportOnly_trans (sendKnot_reportOnly s old) ?_
        dsimp only
        refine reportOnly_trans ?_ (reportOnly_knots _ _)
        split
        · exact reportOnly_bump _ _ _ _ (.inr (.inr (.inr (.inl rfl))))
        · exact reportOnly_bump _ _ _ _ (.inr (.inr (.inr (.inr (.inl rfl)))))
      · exact reportOnly_knots _ _
    · exact reportOnly_knots _ _

theorem enterKnot_reportOnly (s : State) (k : Knot) : ReportOnly s (s.enterKnot k) p := by
  unfold State.enterKnot
  split
  · exact reportOnly_trans (sendKnot_reportOnly _ _) (reportOnly_bump _ _ _ _ (.inr (.inr (.inl rfl))))
  · exact insertKnot_reportOnly _ _

/-- A flag raised changes its object and what a report changes. -/
theorem raise_reportOnly (s : State) (die key i x : Nat) (h : p (fullKey die key)) : ReportOnly s (s.raise die key i x) p := by
  unfold State.raise
  split
  · exact reportOnly_refl _
  · split
    · exact reportOnly_trans (reportOnly_put _ _ _ _ (.inl h)) (enterKnot_reportOnly _ _)
    · exact reportOnly_put _ _ _ _ (.inl h)

end Sys2Proof.Laws
end

