-- ==== Sys2Proof/Laws/Memory.lean ====
section
/-! SUPPORT. The memories of chapter 12: every operation that changes a byte of SRAM or DRAM keeps their canonical form, and one that changes none leaves their contents alone. -/

namespace Sys2Proof.Laws

open Sys2Proof.Machine

/-- The contents of one die's memory in canonical form. -/
abbrev memStWf (m : MemSt) : Prop := bytesWf m.sram = true ∧ bytesWf m.dram = true

theorem memWf_iff (s : State) : s.memWf = true ↔ ∀ e ∈ s.mem, memStWf e.2 := by
  simp only [State.memWf, List.all_eq_true, Bool.and_eq_true]

theorem memWf_of_mem {s t : State} (h : t.mem = s.mem) (hs : s.memWf = true) : t.memWf = true := by
  simpa only [State.memWf, h] using hs

theorem smGet_mem_or {α : Type} (d : α) (m : SMap α) (k : Nat) : smGet d m k = d ∨ (k, smGet d m k) ∈ m := by
  induction m with
  | nil => exact .inl rfl
  | cons e t ih =>
    obtain ⟨a, v⟩ := e
    simp only [smGet]
    split
    · subst_vars; exact .inr (List.mem_cons_self ..)
    · rcases ih with h | h
      · exact .inl h
      · exact .inr (List.mem_cons_of_mem _ h)

/-- What a well-formed part holds for a die is well formed. -/
theorem memOf_wf {s : State} (h : s.memWf = true) (die : Nat) : memStWf (s.memOf die) := by
  rcases smGet_mem_or ({} : MemSt) s.mem die with e | e
  · simp only [State.memOf, e]; exact ⟨rfl, rfl⟩
  · exact (memWf_iff s).1 h _ e

theorem smIns_all {α : Type} (P : α → Prop) (m : SMap α) (k : Nat) (v : α) (hm : ∀ e ∈ m, P e.2) (hv : P v) : ∀ e ∈ smIns m k v, P e.2 := by
  induction m with
  | nil => intro e he; simp only [smIns, List.mem_singleton] at he; exact he ▸ hv
  | cons x t ih =>
    obtain ⟨a, w⟩ := x
    have ht : ∀ e ∈ t, P e.2 := fun e he => hm e (List.mem_cons_of_mem _ he)
    simp only [smIns]
    split
    · intro e he
      rcases List.mem_cons.1 he with r | r
      · exact r ▸ hv
      · exact hm e r
    · split
      · intro e he
        rcases List.mem_cons.1 he with r | r
        · exact r ▸ hv
        · exact ht e r
      · intro e he
        rcases List.mem_cons.1 he with r | r
        · exact r ▸ hm _ (List.mem_cons_self ..)
        · exact ih ht e r

/-- A change of one die's memory keeps the form where it keeps that die's. -/
theorem memWf_setMem {s : State} (h : s.memWf = true) (die : Nat) (f : MemSt → MemSt) (hf : memStWf (s.memOf die) → memStWf (f (s.memOf die))) : (s.setMem die f).memWf = true := by
  rw [memWf_iff]
  have hm := (memWf_iff s).1 h
  have hv := hf (memOf_wf h die)
  simp only [State.setMem]
  unfold smPut
  split
  · intro e he; exact hm e (List.mem_of_mem_filter he)
  · exact smIns_all memStWf s.mem die _ hm hv

/-- A change that leaves the bytes of a die alone keeps the form. -/
theorem memWf_setMem_data {s : State} (h : s.memWf = true) (die : Nat) (f : MemSt → MemSt) (hs : (f (s.memOf die)).sram = (s.memOf die).sram) (hd : (f (s.memOf die)).dram = (s.memOf die).dram) :
    (s.setMem die f).memWf = true := memWf_setMem h die f fun w => by simpa only [memStWf, hs, hd] using w

theorem memWf_setChan {s : State} (h : s.memWf = true) (die c : Nat) (f : DramCh → DramCh) : (s.setChan die c f).memWf = true := memWf_setMem_data h die _ rfl rfl

theorem memWf_put {s : State} (h : s.memWf = true) (die key : Nat) (v : Int) : (s.put die key v).memWf = true := memWf_of_mem rfl h

theorem memWf_bump {s : State} (h : s.memWf = true) (die key : Nat) (n : Nat := 1) : (s.bump die key n).memWf = true := memWf_of_mem (bump_mem s die key n) h

theorem memWf_each {α : Type} {s : State} (l : List α) (f : α → State → State) (hf : ∀ a s, s.memWf = true → (f a s).memWf = true) (h : s.memWf = true) : (s.each l f).memWf = true := by
  induction l generalizing s with
  | nil => exact h
  | cons a t ih => exact ih (hf a s h)

theorem memWf_when {s : State} (b : Bool) (f : State → State) (h : s.memWf = true) (hf : s.memWf = true → (f s).memWf = true) : (s.when b f).memWf = true := by
  unfold State.when; split
  · exact hf h
  · exact h

/-- A word stored in SRAM (R348). -/
theorem memWf_sramWrite {s : State} (h : s.memWf = true) (die w : Nat) (bs : List Byte) : (s.sramWrite die w bs).memWf = true :=
  memWf_setMem h die _ fun x => ⟨smWf_smPutAll 0 _ _ _ x.1, x.2⟩

/-- A request served. -/
theorem memWf_sramServe {s : State} (h : s.memWf = true) (die : Nat) (r : SramReq) : (s.sramServe die r).memWf = true := by
  unfold State.sramServe; split
  · exact memWf_sramWrite h ..
  · exact memWf_setMem_data h die _ rfl rfl

theorem memWf_sramWait {s : State} (h : s.memWf = true) (die : Nat) (r : SramReq) : (s.sramWait die r).memWf = true := memWf_setMem_data h die _ rfl rfl

theorem memWf_sramBusy {s : State} (h : s.memWf = true) (die : Nat) (r : SramReq) : (s.sramBusy die r).memWf = true := memWf_bump (memWf_sramWait h die r) ..

theorem memWf_setSlice {s : State} (h : s.memWf = true) (die n v : Nat) : (s.setSlice die n v).memWf = true := by
  unfold State.setSlice; dsimp only; split
  · exact memWf_put h ..
  · exact memWf_setMem_data (memWf_put h ..) die _ rfl rfl

/-- A slice turned off loses its contents (R356). -/
theorem memWf_sliceOff {s : State} (h : s.memWf = true) (die n : Nat) : (s.sliceOff die n).memWf = true :=
  memWf_setMem (memWf_setSlice h ..) die _ fun x => ⟨smWf_smKeep 0 (fun a => decide (a / 2097152 ≠ n)) _ x.1, x.2⟩

theorem memWf_wakeSlice {s : State} (h : s.memWf = true) (die n : Nat) : (s.wakeSlice die n).memWf = true := by
  unfold State.wakeSlice; dsimp only; split
  · exact memWf_setMem_data (memWf_setSlice h ..) die _ rfl rfl
  · exact h

/-- Bytes written under their enables keep a bank's form. -/
theorem bytesWf_dramPoke (bs : List (Option Byte)) : ∀ (m : SMap Byte) (a : Nat), bytesWf m = true → bytesWf (dramPoke m a bs) = true := by
  induction bs with
  | nil => intro _ _ h; exact h
  | cons b t ih =>
    intro m a h
    cases b with
    | none => exact ih _ _ h
    | some b => exact ih _ _ (smWf_smPut 0 m a b h)

/-- A report leaves the memories alone. -/
theorem memWf_raise {s : State} (h : s.memWf = true) (die key i : Nat) (src : Nat := 0) : (s.raise die key i src).memWf = true :=
  memWf_of_mem (t := s.raise die key i src) (s := s) (by have e := congrArg State.mem (raise_reportOnly (p := fun k => k = fullKey die key) s die key i src rfl).rest; exact e) h

theorem memWf_crossWords {s : State} (h : s.memWf = true) (die : Nat) (x : Crossing) (n : Nat) : (s.crossWords die x n).memWf = true := by
  unfold State.crossWords; split
  · exact h
  · exact memWf_of_mem rfl h

theorem memWf_dramGive {s : State} (h : s.memWf = true) (die : Nat) (e : DramEnt) (bs : List Byte) (poison : Bool) : (s.dramGive die e bs poison).memWf = true := by
  unfold State.dramGive; split
  · exact h
  · exact memWf_crossWords (memWf_crossWords (memWf_setMem_data h die _ rfl rfl) ..) ..

/-- Check bytes put beside the data keep the form. -/
theorem bytesWf_puts (f : Nat → Nat) (g : Nat → Byte) (l : List Nat) : ∀ m : SMap Byte, bytesWf m = true → bytesWf (l.foldl (fun t i => smPut 0 t (f i) (g i)) m) = true := by
  induction l with
  | nil => exact fun _ h => h
  | cons a t ih => exact fun m h => ih _ (smWf_smPut 0 m (f a) (g a) h)

/-- Bytes stored, with their check bytes where ECC is on (R377). -/
theorem memWf_dramStore {s : State} (h : s.memWf = true) (die a : Nat) (d : List (Option Byte)) (old : List Byte) : (s.dramStore die a d old).memWf = true := by
  unfold State.dramStore; split
  · exact memWf_setMem h die _ fun x => ⟨x.1, bytesWf_dramPoke _ _ _ x.2⟩
  · exact memWf_setMem h die _ fun x => ⟨x.1, bytesWf_puts _ _ _ _ (bytesWf_dramPoke _ _ _ x.2)⟩

theorem memWf_eccCount {s : State} (h : s.memWf = true) (die c ecc : Nat) : (s.eccCount die c ecc).memWf = true := by
  unfold State.eccCount; split
  · exact h
  · split
    · exact memWf_bump h ..
    · exact memWf_raise (memWf_bump h die (Ob.dram_ecc_uncorrected + c) 1) die Ob.dram_flags 0 c

theorem memWf_eccBytes {s : State} (h : s.memWf = true) (die a n ecc : Nat) : (s.eccBytes die a n ecc).1.memWf = true := by
  unfold State.eccBytes; split
  · exact memWf_of_mem rfl h
  · exact h

/-- An access that reaches the DRAM device (R363, R377, R378). -/
theorem memWf_dramAccess {s : State} (h : s.memWf = true) (die c ecc : Nat) (e : DramEnt) : (s.dramAccess die c ecc e).memWf = true := by
  unfold State.dramAccess; split
  · split
    · exact memWf_dramStore h ..
    · exact memWf_dramGive h ..
  · have k : (s.cacheCheck die c e.addr).memWf = true := memWf_setChan h ..
    dsimp only
    split
    · split
      · exact memWf_dramStore k ..
      · exact memWf_eccCount (memWf_dramStore (memWf_eccBytes k ..) ..) ..
    · exact memWf_eccCount (memWf_dramGive (memWf_eccBytes k ..) ..) ..

theorem memWf_dropMem {s t : State} (h : s.memWf = true) (die : Nat) (e : t.mem = smPut {} s.mem die {}) : t.memWf = true := by
  have hm := (memWf_iff s).1 h
  rw [memWf_iff, e]
  unfold smPut
  split
  · intro x hx; exact hm x (List.mem_of_mem_filter hx)
  · exact smIns_all memStWf _ die _ hm ⟨rfl, rfl⟩

/-- A die lost with its memories (R402). -/
theorem memWf_restDie {s : State} (h : s.memWf = true) (die : Nat) : (s.restDie die).memWf = true := by
  unfold State.restDie
  refine memWf_dropMem (memWf_each (List.range 4) _ (fun g t (ht : t.memWf = true) => ?_) h) die rfl
  have hp : (t.putG die g Ob.rg_state 0).memWf = true := memWf_of_mem (putG_mem ..) ht
  have hz := when_of (P := fun u => u.memWf = true) _ (s.on 0 Ob.therm_shut_dies die) (fun s => s.emit (.highZ die g)) hp (memWf_of_mem rfl hp)
  exact when_of (P := fun u => u.memWf = true) _ _ _ hz (memWf_of_mem rfl hz)

/-- Reset lists no byte. -/
theorem memWf_reset : State.reset.memWf = true := rfl

end Sys2Proof.Laws
end

