-- ==== Sys2Proof/Laws/Requests.lean ====
section
/-! SUPPORT. What a request that the part executes does (R46-R51): it is served and answered; a WRITE of one object on one die; what an answer changes. -/

namespace Sys2Proof.Laws

open Sys2Proof.Machine

/-- Words that cross change their crossing alone. -/
theorem crossWords_rest (s : State) (die : Nat) (x : Crossing) (n : Nat) : s.crossWords die x n = { s with xings := (s.crossWords die x n).xings } := by
  unfold State.crossWords; split <;> rfl

@[simp] theorem crossWords_objs (s : State) (die : Nat) (x : Crossing) (n : Nat) : (s.crossWords die x n).objs = s.objs := (congrArg State.objs (crossWords_rest s die x n) :)
@[simp] theorem crossWords_free (s : State) (die : Nat) (x : Crossing) (n : Nat) : (s.crossWords die x n).free = s.free := (congrArg State.free (crossWords_rest s die x n) :)

/-- A message counted changes objects, crossings and the count of free values at most. -/
theorem arrived_rest (s : State) (m : Msg) : s.arrived m = { s with objs := (s.arrived m).objs, xings := (s.arrived m).xings, free := (s.arrived m).free } := by
  unfold State.arrived
  split
  · exact cellArrives_rest _ _
  · simpa using crossWords_rest s _ _ _
  · rfl

/-- A part-wide object other than the counters of a cell reads the same once the cell that brought a message is counted. -/
theorem arrived_pw (s : State) (m : Msg) (key : Nat)
    (h : ∀ q, key ≠ fullKey (q / 16) (Ob.cell_rx + q % 16) ∧ key ≠ fullKey (q / 16) Ob.xing_overruns ∧ key ≠ fullKey (q / 16) Ob.clock_flags) : (s.arrived m).pw key = s.pw key := by
  unfold State.arrived
  split
  · next p _ _ _ =>
    have e : fullKey 0 key = key := by simp [fullKey]
    exact objsBut_nat (cellArrives_objs s p) (by rw [e]; exact fun hk => hk.elim (h p).1 fun hk => hk.elim (h p).2.1 (h p).2.2)
  · simp [State.pw, State.nat, State.int, State.val]
  · rfl

@[simp] theorem arrived_fuses (s : State) (m : Msg) : (s.arrived m).fuses = s.fuses := (congrArg State.fuses (arrived_rest s m) :)
@[simp] theorem arrived_fw (s : State) (m : Msg) : (s.arrived m).fw = s.fw := (congrArg State.fw (arrived_rest s m) :)
@[simp] theorem arrived_boot (s : State) (m : Msg) : (s.arrived m).boot = s.boot := (congrArg State.boot (arrived_rest s m) :)
@[simp] theorem arrived_corrix (s : State) (m : Msg) : (s.arrived m).corrix = s.corrix := (congrArg State.corrix (arrived_rest s m) :)

@[simp] theorem arrived_node (s : State) (m : Msg) : (s.arrived m).node = s.node := by
  simp only [State.node, arrived_pw s m Ob.node_id (by intro q; unfold fullKey Ob.node_id Ob.cell_rx Ob.xing_overruns Ob.clock_flags; omega)]

@[simp] theorem arrived_sup (s : State) (m : Msg) : (s.arrived m).sup = s.sup :=
  arrived_pw s m _ (by intro q; unfold fullKey Ob.red_sup_die Ob.cell_rx Ob.xing_overruns Ob.clock_flags; omega)

@[simp] theorem arrived_alive (s : State) (m : Msg) (die : Nat) : (s.arrived m).alive die = s.alive die := by
  simp only [State.alive, arrived_pw s m Ob.dies_alive (by intro q; unfold fullKey Ob.dies_alive Ob.cell_rx Ob.xing_overruns Ob.clock_flags; omega)]

@[simp] theorem arrived_own (s : State) (m : Msg) : (s.arrived m).ownRequest m = s.ownRequest m := by simp [State.ownRequest]
@[simp] theorem arrived_serving (s : State) (m : Msg) : (s.arrived m).serving = s.serving := by simp [State.serving, State.fwOn]
@[simp] theorem arrived_sessionHit (s : State) (m : Msg) (op : Nat) : (s.arrived m).sessionHit m op = s.sessionHit m op := by simp [State.sessionHit]

/-- The cell layer does not only relay a request of the part's own (R53). -/
theorem not_relayed {s : State} {m : Msg} (h : s.ownRequest m = true) : s.relayed m = false := by simp [State.relayed, h]

/-- A served request is served in the state in which its path was counted. -/
theorem corrixIn_served {s : State} {op : Nat} {m : Msg} (h : Served s op m) : s.corrixIn op m = (s.arrived m).serve op m := by
  obtain ⟨⟨hheld, hscan⟩, hboot, hc, hcrc, hfresh, huni, hmade, hsup, hown, hserv, hroom, _⟩ := h
  have hlen : m.payload.length = m.len := by
    simp only [wellMade, Bool.and_eq_true, decide_eq_true_eq] at hmade
    exact hmade.1.2
  have req : (s.arrived m).request op m = (s.arrived m).serve op m := by
    simp [State.request, not_relayed (s := s.arrived m) (m := m) (by simpa using hown), hlen, hcrc, hfresh, huni, hmade, hsup, hown]
  rw [← req]
  unfold State.corrixIn
  simp only [hheld, hscan, hboot, Bool.not_true, Bool.or_self, Bool.false_eq_true, if_false]
  unfold Carried at hc
  unfold State.arrived
  split
  · next p e hh hv =>
    simp only [hv] at hc ⊢
    simp [hc.1, hc.2, hown]
  · next hv =>
    simp only [hv] at hc ⊢
    simp [hc]
  · next hv =>
    simp only [hv] at hc ⊢
    simp [hc]

/-- A misfit WRITE is answered MALFORMED and does nothing else: the same answer that executing it would give. -/
theorem misfit_serveOp {s : State} {op : Nat} {m : Msg} (h : s.misfit op m = true) :
    (s.serveOp op m = (s, 0x0E, [])) ∧ op = 0x02 := by
  simp only [State.misfit, Bool.and_eq_true, decide_eq_true_eq] at h
  obtain ⟨⟨rfl, hb⟩, hr⟩ := h
  simp [State.serveOp, State.writeIn, hb, hr]

/-- Only a WRITE with status OK has an effect after its response. -/
theorem afterReply_malformed (s : State) (op : Nat) (m : Msg) : s.afterReply op m 0x0E = s := by simp [State.afterReply]

/-- A served request other than PREPARE is executed, answered with the status and payload it gives, and may reset the part after its response. -/
theorem serve_served {s : State} {op : Nat} {m : Msg} (h : Served s op m) (hop : op ≠ 0x10) :
    s.corrixIn op m = (((s.arrived m).serveOp op m).1.answer op m ((s.arrived m).serveOp op m).2.1 (replyTy op m) ((s.arrived m).serveOp op m).2.2).afterReply op m
      ((s.arrived m).serveOp op m).2.1 := by
  rw [corrixIn_served h]
  have hroom : ¬ 32 ≤ m.waiting := by have := h.room; omega
  simp only [State.serve, arrived_serving, arrived_sessionHit, h.serving, hroom, h.once, hop, Bool.not_true, Bool.false_eq_true, decide_false, Bool.or_self, if_false]
  split
  · next hm => rw [(misfit_serveOp hm).1, afterReply_malformed]
  · rfl

/-- A served PREPARE begins or joins a vote. -/
theorem prepare_served {s : State} {m : Msg} (h : Served s 0x10 m) (hr : s.boot.recovery = false) : s.corrixIn 0x10 m = (s.arrived m).prepare m := by
  rw [corrixIn_served h]
  have hroom : ¬ 32 ≤ m.waiting := by have := h.room; omega
  simp [State.serve, State.misfit, h.serving, hroom, h.once, hr]

/-- A WRITE of one object on one die writes it and is answered. -/
theorem write_one {s : State} {m : Msg} {d : ObjDef} {die : Nat} (h : WritesOne s m d die) :
    s.corrixIn 0x02 m = ((((s.arrived m).writeOne die m.key d (decodeVal d.ty m.payload)).1.answer 0x02 m ((s.arrived m).writeOne die m.key d (decodeVal d.ty m.payload)).2
      (replyTy 0x02 m) []).afterReply 0x02 m ((s.arrived m).writeOne die m.key d (decodeVal d.ty m.payload)).2) := by
  rw [serve_served h.served (by decide)]
  have hone : (d.perDie && m.die = 15) = false := by
    have := h.one
    simpa using this
  have hthere : (d.perDie && !((s.arrived m).answers die)) = false := by
    cases hd : d.perDie
    · rfl
    · simp [h.there hd]
  have e : (s.arrived m).serveOp 0x02 m = (((s.arrived m).writeOne die m.key d (decodeVal d.ty m.payload)).1, ((s.arrived m).writeOne die m.key d (decodeVal d.ty m.payload)).2, []) := by
    have hthere' := hthere
    rw [h.die_] at hthere'
    simp only [State.serveOp, State.writeIn, h.good, h.found, h.fixed.1, h.fixed.2, h.open_, Bool.false_and, Bool.false_eq_true, if_false, hthere', h.die_]
    simp [hone]
  rw [e]

end Sys2Proof.Laws
end

