-- ==== Sys2Proof/Tests/Slice0.lean ====
section
/-! SUPPORT. Tests: for each claim, a concrete state and operands that meet its hypotheses, clause by clause (wit_…); worked examples of the spec; ill-formed commands. -/

namespace Sys2Proof.Tests

set_option Elab.async false

open Sys2Proof.Machine Sys2Proof.Claims

/-! The predicates of the statements, decided -/

def upB (s : State) : Bool := !s.boot.held && !s.boot.scan

theorem up_of {s : State} (h : upB s = true) : Up s := by simpa [upB, Up] using h

theorem upDie_of {s : State} {die : Nat} (h : (upB s && s.alive die) = true) : UpDie s die := by
  simp only [Bool.and_eq_true] at h
  exact ⟨up_of h.1, h.2⟩

def carriedB (s : State) (m : Msg) : Bool := match m.via with
  | .hawser p _ _ => s.inService p && decide (s.role p ≠ 2)
  | .spi => s.alive 0
  | .udp _ _ d => decide (d = if s.boot.recovery then 28741 else s.pw Ob.corrix_udp_port)

theorem carried_of {s : State} {m : Msg} (h : carriedB s m = true) : Carried s m := by
  unfold carriedB at h
  unfold Carried
  split at h <;> simp_all

def servedB (s : State) (op : Nat) (m : Msg) : Bool :=
  (upB s && s.booted && carriedB s m) && (decide (m.crc = msgCrc op m) && wellMade op m && s.ownRequest m) && (s.alive s.sup && s.serving) &&
    decide (bit m.flags 0 = false ∧ m.bcast = false ∧ m.waiting < 32 ∧ (s.sessionHit m op).bind (·.reply) = none)

theorem served_of {s : State} {op : Nat} {m : Msg} (h : servedB s op m = true) : Served s op m := by
  simp only [servedB, Bool.and_eq_true, decide_eq_true_eq] at h
  exact { up := up_of h.1.1.1.1.1, booted := h.1.1.1.1.2, carried := carried_of h.1.1.1.2, crc := h.1.1.2.1.1, made := h.1.1.2.1.2, own := h.1.1.2.2, sup := h.1.2.1, serving := h.1.2.2,
          fresh := h.2.1, unicast := h.2.2.1, room := h.2.2.2.1, once := h.2.2.2.2 }

def writesOneB (s : State) (m : Msg) (d : ObjDef) (die : Nat) : Bool :=
  servedB s 2 m && decide ((s.arrived m).found m = some d ∧ die = homeDie d m ∧ d.ty ≠ .blob ∧ d.acc ≠ .ro) &&
    decide (badWrite m = false ∧ (s.arrived m).locked d m = false ∧ (s.arrived m).absent die m.key = false) &&
    decide (¬ (d.perDie = true ∧ m.die = 15) ∧ (d.perDie = true → (s.arrived m).answers die = true))

theorem writesOne_of {s : State} {m : Msg} {d : ObjDef} {die : Nat} (h : writesOneB s m d die = true) : WritesOne s m d die := by
  simp only [writesOneB, Bool.and_eq_true] at h
  have row := of_decide_eq_true h.1.1.2
  have now := of_decide_eq_true h.1.2
  have here := of_decide_eq_true h.2
  exact { served := served_of h.1.1.1, found := row.1, die_ := row.2.1, fixed := row.2.2, good := now.1, open_ := now.2.1, unit := now.2.2, one := here.1, there := here.2 }

def cellAtB (s : State) (p : Nat) (c : Cell) : Bool := upB s && s.inService p && decide (s.role p ≠ 2) && c.good

theorem cellAt_of {s : State} {p : Nat} {c : Cell} (h : cellAtB s p c = true) : CellAt s p c := by
  simp only [cellAtB, Bool.and_eq_true, decide_eq_true_eq] at h
  exact ⟨up_of h.1.1.1, h.1.1.2, h.1.2, h.2⟩

def laneOnB (s : State) (die lane : Nat) : Bool := upB s && s.alive die && s.hawserLane die lane && s.on die (Ob.lane_enable + lane)

theorem laneOn_of {s : State} {die lane : Nat} (h : laneOnB s die lane = true) : LaneOn s die lane := by
  simp only [laneOnB, Bool.and_eq_true] at h
  exact ⟨⟨up_of h.1.1.1, h.1.1.2⟩, h.1.2, h.2⟩

def laneWriteB (s : State) (m : Msg) (d : ObjDef) (die lane base v : Nat) : Bool :=
  writesOneB s m d die && decide (d.acc = .rw ∧ m.key = base + lane ∧ lane < 8 ∧ (s.arrived m).clampVal die m.key d (decodeVal d.ty m.payload) = (v : Int)) && laneOnB (s.arrived m) die lane

theorem laneWrite_of {s : State} {m : Msg} {d : ObjDef} {die lane base v : Nat} (h : laneWriteB s m d die lane base v = true) : LaneWrite s m d die lane base v := by
  simp only [laneWriteB, Bool.and_eq_true] at h
  have b := of_decide_eq_true h.1.2
  exact ⟨writesOne_of h.1.1, b.1, b.2.1, b.2.2.1, b.2.2.2, laneOn_of h.2⟩

def regionCellB (a : State) (p : Nat) (c : Cell) (r : RxFrame) (known : Bool) : Bool :=
  decide (a.isHead = false ∧ a.node = some c.node ∧ a.rxPlace (bits c.spec 12 10) (bits c.spec 32 29) = some (r, known) ∧ a.darkAt (bits c.spec 12 10) r.at_ = false) &&
    (a.isChain p && spliceUsable (a.spliceAt r.at_)) &&
    decide ((r.check = none ∧ r.verdict = none ∧ a.missedAt r = false) ∧ a.rxUsed + 244 ≤ a.nat a.checkDie Ob.splice_rx_kb * 1024)

theorem regionCell_of {a : State} {p : Nat} {c : Cell} {r : RxFrame} {known : Bool} (h : regionCellB a p c r known = true) : RegionCell a p c r known := by
  simp only [regionCellB, Bool.and_eq_true] at h
  have tile := of_decide_eq_true h.1.1
  have room := of_decide_eq_true h.2
  exact { tile := tile.1, node := tile.2.1, place := tile.2.2.1, lit := tile.2.2.2, chain := h.1.2.1, usable := h.1.2.2, open_ := room.1, room := room.2 }

def toJudgeB (s : State) (frame view : Nat) (r : RxFrame) : Bool :=
  upB s && decide (s.tile.rx.find? (fun r => decide (r.frame = frame) && decide (r.view = view) && r.verdict.isNone) = some r) && s.isTile && !(s.darkAt view r.at_) && spliceUsable (s.spliceAt r.at_)

theorem toJudge_of {s : State} {frame view : Nat} {r : RxFrame} (h : toJudgeB s frame view r = true) : ToJudge s frame view r := by
  simp only [toJudgeB, Bool.and_eq_true, Bool.not_eq_true'] at h
  exact { up := up_of h.1.1.1.1, found := of_decide_eq_true h.1.1.1.2, tile := h.1.1.2, lit := h.1.2, usable := h.2 }

theorem onPort_of {s : State} {port n : Nat} {k : CsiHead}
    (h : ((upB s && s.alive port) && decide (port < s.camPorts ∧ k.ecc = 0 ∧ k.extVc = false ∧ n = 4 * port + k.vc % 4)) = true) : OnPort s port n k := by
  rw [Bool.and_eq_true] at h
  have q := of_decide_eq_true h.2
  exact { up := upDie_of h.1, there := q.1, ecc := q.2.1, plain := q.2.2.1, n_ := q.2.2.2 }

theorem noBuf (l : SMap LaneSt) (k : Nat) (h : l.all (fun x => decide (x.2.buf = [])) = true) : (smGet {} l k).buf = [] := by
  induction l with
  | nil => rfl
  | cons x t ih =>
    rw [List.all_cons, Bool.and_eq_true] at h
    unfold smGet
    split
    · exact of_decide_eq_true h.1
    · exact ih h.2

theorem loneLane_of {s : State} {p lane : Nat}
    (h : ((upB s && s.inService p && (s.portLanes p).contains lane) && decide (s.rx (p / 16) lane = 6 ∧ (s.lane (p / 16) lane).feLoop = false ∧
        s.laneAt p (s.lane (p / 16) lane).pos = some lane ∧ s.rxMap p = 2 ^ (s.lane (p / 16) lane).pos ∧
        s.mapFor p ((s.lane (p / 16) lane).lastSeq.getD 0) = 2 ^ (s.lane (p / 16) lane).pos ∧ (s.lane (p / 16) lane).pos < 4 ∧ s.crossShut (p / 16) (.laneIn lane) = false)) = true)
    (e : s.lanes.all (fun x => decide (x.2.buf = [])) = true) : LoneLane s p lane := by
  simp only [Bool.and_eq_true] at h
  have q := of_decide_eq_true h.2
  exact { up := up_of h.1.1.1, port := h.1.1.2, lane_ := h.1.2, rx := q.1, loop := q.2.1, at_ := q.2.2.1, map := q.2.2.2.1, deal := q.2.2.2.2.1, four := q.2.2.2.2.2.1, open_ := q.2.2.2.2.2.2,
          empty := fun l => noBuf s.lanes (laneKey (p / 16) l) e }

theorem recordOf_of {s : State} {die chain driver : Nat}
    (h : (upB s && s.alive die && decide (die < s.dies) && s.chainUsed die chain && decide (driver < s.nat die (Ob.chain_drivers + chain)) && decide (s.prof die (chain / 6) 12 1 ≠ 0)) = true) :
    RecordOf s die chain driver := by
  simp only [Bool.and_eq_true] at h
  exact { up := ⟨up_of h.1.1.1.1.1, h.1.1.1.1.2⟩, die_ := of_decide_eq_true h.1.1.1.2, chain_ := h.1.1.2, driver_ := of_decide_eq_true h.1.2, gives := of_decide_eq_true h.2 }

theorem oneSram_of {s : State} {die : Nat} {r : SramReq} (h : (upB s && s.alive die && decide (die < s.dies) && decide (r.port < 16) && s.presents die r && decide ((s.memOf die).waits = [])) = true) : OneSram s die r := by
  simp only [Bool.and_eq_true] at h
  exact ⟨⟨up_of h.1.1.1.1.1, h.1.1.1.1.2⟩, of_decide_eq_true h.1.1.1.2, of_decide_eq_true h.1.1.2, h.1.2, of_decide_eq_true h.2⟩

theorem bistWrite_of {s a : State} {m : Msg} {d : ObjDef} {die v : Nat}
    (h : (writesOneB s m d die && decide (m.key = Ob.sram_bist_mode ∧ d.acc = .rw ∧ a = s.arrived m ∧ (v : Int) = a.clampVal die m.key d (decodeVal d.ty m.payload))) = true) :
    BistWrite s a m d die v := by
  simp only [Bool.and_eq_true] at h
  exact ⟨writesOne_of h.1, of_decide_eq_true h.2⟩

theorem blankJournal_of {s : State} (h : (s.journal.recs.isEmpty && s.journal.recs1.isEmpty) = true) : BlankJournal s := by
  simpa [BlankJournal] using h

theorem canFail_of {s : State} (h : (decide (2 ≤ s.dies) && decide (s.sup < 2) && s.alive s.sup && s.alive (1 - s.sup) && s.fwOn (1 - s.sup)) = true) : CanFail s := by
  simp only [Bool.and_eq_true, decide_eq_true_eq] at h
  exact ⟨h.1.1.1.1, h.1.1.1.2, h.1.1.2, h.1.2, h.2⟩

theorem peerCell_of {s a : State} {p : Nat} {c : Cell} {msg : Nat}
    (h : (cellAtB s p c && decide (c.cls = 4 ∧ c.kind = 0 ∧ s.node = some c.node ∧ a = s.cellArrives p) && !(a.offChain p) && a.fromPeer c && decide (leAt c.payload 0 1 = msg)) = true) :
    PeerCell s a p c msg := by
  simp only [Bool.and_eq_true, Bool.not_eq_true'] at h
  have b := of_decide_eq_true h.1.1.1.2
  exact ⟨cellAt_of h.1.1.1.1, b.1, b.2.1, b.2.2.1, b.2.2.2, h.1.1.2, h.1.2, of_decide_eq_true h.2⟩

theorem standby_of {s : State} (h : (s.isRing && decide (s.pw Ob.red_head_state = 2)) = true) : Standby s := by
  simpa [Standby] using h

/-- blob_idle_s is an object whose write has no effect of its own. -/
theorem quiet_key (x : State) (old : Nat) : x.touch Ob.blob_idle_s = x ∧ x.wrote 0 Ob.blob_idle_s old = x := by
  constructor
  · unfold State.touch; rw [if_neg (by decide +kernel)]
  · have e : ∀ b ∈ [Ob.lane_enable, Ob.lane_tx_preset, Ob.lane_tx_ffe, Ob.lane_sleep, Ob.lane_loop, Ob.prbs_gen, Ob.prbs_chk, Ob.sram_slice_mode, Ob.port_role], item Ob.blob_idle_s b 8 = none := by decide +kernel
    simp only [List.forall_mem_cons] at e
    obtain ⟨e1, e2, e3, e4, e5, e6, e7, e8, e9, -⟩ := e
    unfold State.wrote
    rw [e1, e2, e3, e4, e5, e6, e7, e8, e9]
    simp [Ob.blob_idle_s, Ob.lane_pair_mode, Ob.sram_bist_mode, Ob.refclk_sel, Ob.fwd_down_port, Ob.red_ring_port, inKeys]

/-! Small states -/

/-- An eight-die part out of reset, every die's firmware running, with some objects written. -/
def S (kv : List (Nat × Int)) : State := (kv.foldl (fun (s : State) e => s.set e.1 e.2) ({ boot := { held := false }, fw := 255, objs := [] } : State)).set Ob.dies_alive 255

/-- A request message with its right CRC. -/
def M (op : Nat) (key die ty : Nat) (pl : List Byte) (flags : Nat := 0) (via : Path := .udp 1 2 28741) (session : Nat := 7) : Msg :=
  let m : Msg := { via := via, flags := flags, seq := 3, session := session, target := die * 4096 + 1024, index := key / 256, sub := key % 256, ty := ty, len := pl.length, payload := pl, crc := 0 }
  { m with crc := msgCrc op m }

/-- The full key of an object. -/
def K (die key : Nat) : Nat := fullKey die key

def s0 : State := S [(Ob.node_id, 5)]
def D (k : Nat) : ObjDef := (objDef k).get!
/-- A state with Hawser ports in service. -/
def sp (s : State) (ps : List Nat) : State := { s with ports := ps.foldl (fun m p => smPut {} m p { inService := true }) [], objs := s.objs }
def toNode (m : Msg) (op n : Nat) : Msg := let m1 : Msg := { m with target := n, crc := 0 }; { m1 with crc := msgCrc op m1 }
def bc (m : Msg) (op : Nat) : Msg := let m1 : Msg := { m with flags := 2, crc := 0 }; { m1 with crc := msgCrc op m1 }
def W (key die : Nat) (pl : List Byte) (via : Path := .udp 1 2 28741) : Msg := M 2 key die (D key).ty.code pl 0 via
def bl (bs : List Nat) : Value := .blob true (smPutAll 0 [] 0 (bs.map fun b => (byteOf b)))
def spl : List Nat := [1, 0, 0, 0, 0, 0, 0, 0, 4, 0, 2, 0, 2, 0]
def ns (n : Nat) : Nat := n * 281474976710656
def head : State := sp (s0.set Ob.role_active 1) [0, 4]
def tile : State := sp (s0.set Ob.fwd_up_port 0) [0, 4]
def blob (s : State) (die key : Nat) (bs : List Nat) : State := { s with objs := smPut .dflt s.objs (fullKey die key) (bl bs) }
def per : Nat := 1092266667
/-- A head composing, at a Lay time in ms. -/
def hd (ms : Nat) : State := { head with lay := { fine := ns (ms * 1000000) } }
def vfs (s : State) (f v : Nat) : Vf := (s.findVf f v).get!
def seg0 : SegSt := { ring := 44 * 1024 + 2, desc := 2 ^ 43 * 488 + 2 * 1 }
def mkDesc (len last view frame due : Nat) : Nat := len * 2 ^ 43 + last * 2 + view * 2 ^ 8 + frame % 16 * 2 ^ 11 + due * 2 ^ 106
/-- A lit tile: die 1 group 2 with frame-memory drivers, at a Lay time in ms. -/
def lit (fm ms : Nat) : State :=
  let s := blob (blob (((((((tile.set Ob.role_active 0).put 1 (atIndex Ob.rg_vddio 2) 1).put 1 (atIndex Ob.rg_profile 2) 0).put 1 (atIndex Ob.rg_scan_lines 2) 4).put 1 (atIndex Ob.rg_line_ns 2) 100000).set Ob.lay_state layLocked)) 0 Ob.chain_profile ([1, 0, 0, fm])) 0 Ob.splice_desc spl
  { s with boot := { s.boot with lit := true }, lay := { fine := ns (ms * 1000000) } }
def lv (s : State) : Vf := (s.dueLaunch 1).get!
def setg (s : State) (g : GroupSt) : State := s.setTdie 1 fun t => { t with groups := smPut {} t.groups 2 g }
def rxC : List RxCell := [{ band := 0, offset := 0, last := true, bytes := List.replicate 244 9 }]
def rxS (f : State → RxFrame) (s : State) : State := { s with tile := { s.tile with rx := [f s] } }
def sA : State := ((head.set Ob.src_group_a (7 + 5 * 4294967296)).set Ob.src_pt 96).set Ob.src_port 0


/-! Worked examples of the spec -/

/-- The clamping examples of Table 2.8: object, value written, value read back. -/
theorem test_clamps : ([(Ob.corrix_udp_port, 80, 1024), (Ob.blob_idle_s, 47, 45), (Ob.blob_idle_s, 3, 5), (Ob.mgmt_ip_mode, 7, 1), (Ob.cam_lanes, 3, 4), (Ob.knot_sink, 2000, 0xFFFF),
    (Ob.lane_group_cfg, 0x0B, 0x08), (Ob.event_dest, 0x123470000A000005, 0x70000A000005), (Ob.red_primary, 2, 0)] : List (Nat × Int × Int)).all
    (fun e => s0.clampVal 0 e.1 (D e.1) e.2.1 == e.2.2) = true := by decide +kernel

/-- The identity word of Table 0.2 for a ZW-880 of revision A0. -/
theorem test_identity : s0.identity = 0x5A1688A0 := by decide +kernel

/-- The read of chapter 2, byte by byte: 3 chains of 49,152 lamps at 480 view-frames per second make 1,133 Mbit/s; the response carries its TARGET, INDEX, status, TYPE, LEN and value. -/
def demand : State :=
  (List.range 3).foldl (fun s g => (((s.put 3 (atIndex Ob.rg_profile g) 0).put 3 (atIndex Ob.rg_chains g) 1).put 3 (Ob.chain_drivers + 6 * g) 32).put 3 (atIndex Ob.rg_scan_lines g) 32)
    (blob ((s0.set Ob.node_id 17).set Ob.view_count 8) 0 Ob.chain_profile [1, 48, 16, 3, 0, 0, 0x31, 0x95, 0xD0, 0, 0, 0, 7])

theorem test_read_bytes :
    (let m0 : Msg := { via := .udp 1 2 28741, seq := 0x0105, session := 0x0042, target := 0x3011, index := 0x1020, sub := 0, ty := 0, len := 0, payload := [], crc := 0 }
     let m : Msg := { m0 with crc := msgCrc 1 m0 }
     (match exec (.read m) demand with
      | .next t => (match t.sent.head? with
        | some (.reply _ op r) => op == 1 && r.flags == 1 && r.status == 0 && r.seq == 0x0105 && r.session == 0x42 && r.target == 0x3011 && r.index == 0x1020 && r.ty == 4 && r.len == 4 &&
            r.payload == [0x6D, 4, 0, 0]
        | _ => false)
      | _ => false) = true) := by decide +kernel

/-- SHA-384 of the empty message (FIPS 180-4), by which an update image is judged. -/
theorem test_sha384 : ((sha384 []).take 8).map (·.toNat) = [0x38, 0xB0, 0x60, 0xA7, 0x51, 0xAC, 0x96, 0x38] := by decide +kernel

/-- CRC-32C of "123456789" is 0xE3069283. -/
theorem test_crc32c : crc32c ([0x31, 0x32, 0x33, 0x34, 0x35, 0x36, 0x37, 0x38, 0x39].map byteOf) = 0xE3069283 := by decide +kernel

/-- The dither of chapter 9's pixel: t is 11, 1 and 9 at canvas (131, 300) in frame 3,001. -/
theorem test_dither : ([0, 1, 2].map fun c => ditherT 2 131 300 c 3001) = [11, 1, 9] := by decide +kernel

/-- The reference chain group of chapter 10: S is 3,932,540 ns, and slots of 4.0 and 4.333 ms have 800 and 864 lines. -/
theorem test_chain_group :
    (let s := (((((((blob s0 0 Ob.chain_profile [1, 48, 16, 3, 0, 0, 0x31, 0x95, 0xD0, 0, 0, 0, 7]).set (atIndex Ob.rg_profile 0) 0).set (atIndex Ob.rg_vddio 0) 1).set (atIndex Ob.rg_sclk_div 0) 10).set
       (atIndex Ob.rg_chains 0) 1).set (Ob.chain_drivers) 32).set (atIndex Ob.rg_scan_lines 0) 32).set (atIndex Ob.rg_line_ns 0) 5000
     s.bitsNs 0 0 (32 * 48 * 32 * 16) = 3932160 ∧ s.lineCount 0 0 (4000000 * layNs) = 800 ∧ s.lineCount 0 0 (4333333 * layNs) = 864) := by decide +kernel

/-- The default launch lead of chapter 6's example: 16,866,667 ns, to the nearest unit. -/
theorem test_lead : (s0.lead + layNs / 2) / layNs = 16866667 := by decide +kernel

/-- A data block with k in its first byte. -/
def blk (k : Nat) : Block := { lane := 4, data := true, bytes := List.replicate 32 (byteOf k) }

/-- A control block. -/
def ctl (c : Ctl) : Block := { lane := 4, data := false, bytes := c.bytes }

/-- Blocks in the order in which the port's lane brings them. -/
def came (s : State) (bs : List Block) : State := bs.foldl (fun s b => s.blockIn 4 b) s

/-- A port after the first 6 block slots of Table 5.7, once framed. -/
def nested : State := came tile [ctl .idle, blk 3, blk 3, ctl (.preempt 2 1), blk 2, blk 2, ctl .layStart]

/-- Table 5.7, slots 1 to 6: P (class 3) and C (class 2) are suspended after two blocks each, and the class-0 cell begins. -/
theorem test_nested_suspends : ((nested.port 4).cur.map (·.count), (nested.port 4).lay.isSome) = ([2, 2], true) := by decide +kernel

/-- Table 5.7, slots 7 to 14: the class-0 cell completes and C resumes. -/
theorem test_nested_resumes : (((came nested (List.replicate 8 (blk 0) ++ [blk 2])).port 4).cur.map (·.count)) = [3, 2] := by decide +kernel

/-! Ill-formed commands: each check refuses a term that breaks it alone -/

def okMsg : Msg := M 1 Ob.identity 0 4 []

def okCell : Cell := mkCell 1 0 5 0 []

def okMarker : RxMarker := { bytes := List.replicate 32 0, bip := 255 }

def okCsi : CsiPkt := { dt := 0x2C, wc := 6, ecc := 0, crcOk := true, extVc := false, overflow := false, samples := [] }

def okHead : CsiHead := { vc := 3, extVc := false, ecc := 2 }

def okPkt : Pkt := { die := 7, dest := 4294967295, port := 65535, sender := 0, pt := 127, seq := 7, time := 9000, marker := true, good := true, samples := [] }

theorem wf_accepts : ([.read okMsg, .syncReceive 4 okCell, .alignmentMarkerReceive 1 2 okMarker, .cellReceive 4 [blk 1], .longPacket 1 2 okCsi, .frameStart 1 okHead, .frameEnd 1 okHead, .st2110PacketReceive 3 okPkt,
    .sramRequest 1 [{ port := 15, addr := 16777215, data := none }], .dramArbitrationRound 1 0 [{ master := 7, addr := 64, data := none, since := 0 }],
    .commandPick 1 0 { ready := [127], actsInFaw := 0, trrdOk := [15], ecc := 2 }] : List Instr).all Instr.wf = true := by decide +kernel

theorem wf_refuses_messages : ([{ okMsg with ver := 256 }, { okMsg with flags := 256 }, { okMsg with status := 256 }, { okMsg with seq := 65536 }, { okMsg with session := 65536 },
    { okMsg with target := 65536 }, { okMsg with index := 65536 }, { okMsg with sub := 256 }, { okMsg with ty := 256 }, { okMsg with len := 65536 }, { okMsg with crc := 4294967296 }] : List Msg).all
    (fun m => !(Instr.write m).wf) = true := by decide +kernel

theorem wf_refuses_cells : ([{ okCell with cls := 8 }, { okCell with kind := 16 }, { okCell with node := 1024 }, { okCell with spec := 2 ^ 36 }, { okCell with hops := 1024 }, { okCell with payload := [] },
    { okCell with crc := 4294967296 }] : List Cell).all (fun c => !(Instr.route 4 c).wf) = true ∧
    ([.cellReceive 4 [{ blk 1 with bytes := [] }], .cellReceive 4 [{ blk 1 with lane := 8 }], .cellReceive 128 [], .ownCellSend 8 0] : List Instr).all (fun c => !c.wf) = true := by decide +kernel

theorem wf_refuses_markers : ([{ okMarker with bytes := [] }, { okMarker with bip := 256 }] : List RxMarker).all (fun k => !(Instr.alignmentMarkerReceive 1 2 k).wf) = true := by decide +kernel

theorem wf_refuses_headers : ([{ okHead with vc := 4 }, { okHead with ecc := 3 }] : List CsiHead).all (fun h => !(Instr.frameStart 1 h).wf && !(Instr.frameEnd 1 h).wf) = true := by decide +kernel

theorem wf_refuses_ptp : ([{ port := 0, domain := 0, transport := 0, source := 0 }, { port := 10, domain := 0, transport := 0, source := 0 }, { port := 1, domain := 128, transport := 0, source := 0 },
    { port := 1, domain := 0, transport := 2, source := 0 }] : List PtpWire).all (fun w => !(Instr.ptpMessageReceive w .unsupported).wf) = true := by decide +kernel

theorem wf_refuses_numbers : ([.unlistedOpcode 256 okMsg, .corrixResponseRelay 4 64 1 okMsg, .hostSpiRead 65536 1, .hostSpiIgnoredCommand 256 [], .refQualify 6, .refLost { code := 6, frefStopped := false },
    .layEvtEdge 4, .braidHoldover { die := 8, linked := false }, .cdrLock 1 8, .sendStart 4294967296 0, .sendStart 0 8, .descriptorPost 1024 0, .descriptorPost 0 1024, .lateStart 1 4, .sourceStale 64, .frameStart 4 okHead,
    .linkLost 16, .capTrigger 64, .outFault 1 0 16 20, .readbackRecord 1 24 0 [], .readbackRecord 1 0 64 [], .sliceRetention 1 8, .dramRefresh 1 2 0, .dramRefresh 1 0 16,
    .masterReset 1 0 8 0, .refclkFault 1 2 .stop, .sensorConversion 1 6 0, .dhcpAddress 4294967296] : List Instr).all (fun c => !c.wf) = true := by decide +kernel

theorem wf_refuses_requests : ([.longPacket 1 2 { okCsi with dt := 64 }, .longPacket 1 2 { okCsi with wc := 65536 }, .longPacket 1 2 { okCsi with ecc := 3 }, .st2110PacketReceive 3 { okPkt with die := 8 }, .st2110PacketReceive 3 { okPkt with dest := 4294967296 },
    .st2110PacketReceive 3 { okPkt with port := 65536 }, .st2110PacketReceive 3 { okPkt with sender := 4294967296 }, .st2110PacketReceive 3 { okPkt with pt := 128 },
    .mergeSkew 3 { okPkt with seq := 4294967296 }, .sramRequest 1 [{ port := 16, addr := 0, data := none }], .sramRequest 1 [{ port := 0, addr := 16777216, data := none }],
    .sramRequest 1 [{ port := 0, addr := 0, data := some [] }], .dramArbitrationRound 1 0 [{ master := 8, addr := 0, data := none, since := 0 }],
    .dramArbitrationRound 1 0 [{ master := 0, addr := 1099511627776, data := none, since := 0 }], .dramArbitrationRound 1 0 [{ master := 0, addr := 0, data := none, since := 0, beats := 0 }],
    .dramArbitrationRound 1 0 [{ master := 0, addr := 0, data := none, since := 0, beats := 65 }], .dramArbitrationRound 1 0 [{ master := 0, addr := 0, data := some [], since := 0 }],
    .commandPick 1 0 { ready := [128], actsInFaw := 0, trrdOk := [] }, .commandPick 1 0 { ready := [], actsInFaw := 0, trrdOk := [16] },
    .commandPick 1 0 { ready := [], actsInFaw := 0, trrdOk := [], ecc := 3 }] : List Instr).all (fun c => !c.wf) = true := by decide +kernel

namespace C02

def s0 : State := S [(Ob.node_id, 5)]
def D (k : Nat) : ObjDef := (objDef k).get!
/-- a state with a Hawser port 0 in service -/
def sp (s : State) (ps : List Nat) : State := { s with ports := ps.foldl (fun m p => smPut {} m p { inService := true }) [], objs := s.objs }
def toNode (m : Msg) (op n : Nat) : Msg := let m1 : Msg := { m with target := n, crc := 0 }; { m1 with crc := msgCrc op m1 }
def bc (m : Msg) (op : Nat) : Msg := let m1 : Msg := { m with flags := 2, crc := 0 }; { m1 with crc := msgCrc op m1 }

theorem wit_readOne :
    (let s : State := s0; let m : Msg := M 1 Ob.node_id 0 0 []; let d : ObjDef := D Ob.node_id; (Served s 0x01 m) ∧ ((s.arrived m).found m = some d) ∧ (d.ty ≠ .blob) ∧ (d.acc ≠ .wo) ∧ (¬ (d.perDie = true ∧ m.die = 15)) ∧ (d.perDie = true → (s.arrived m).answers m.die = true)) :=
  ⟨served_of (by decide +kernel), by decide +kernel⟩

theorem wit_readAll :
    (let s : State := s0; let m : Msg := M 1 Ob.lane_enable 15 0 []; let d : ObjDef := D Ob.lane_enable; (Served s 0x01 m) ∧ ((s.arrived m).found m = some d) ∧ (d.ty ≠ .blob) ∧ (d.ty ≠ .str) ∧ (d.acc ≠ .wo) ∧ (d.perDie = true) ∧ (m.die = 15) ∧ (m.key ≠ Ob.therm_level)) :=
  ⟨served_of (by decide +kernel), by decide +kernel⟩

theorem wit_writeStaged :
    (let s : State := s0; let m : Msg := M 2 Ob.corr_drive_lo 3 3 [0x12, 0x34]; let d : ObjDef := D Ob.corr_drive_lo; let die : Nat := 3; (WritesOne s m d die) ∧ (d.acc = .rws)) :=
  ⟨writesOne_of (by decide +kernel), by decide +kernel⟩

theorem wit_writePlain :
    (let s : State := { s0 with ports := [(0, { inService := true })] }; let m : Msg := M 2 Ob.blob_idle_s 0 3 [47,0] 0 (.hawser 0 9 2); let d : ObjDef := D Ob.blob_idle_s; let die : Nat := 0; (WritesOne s m d die) ∧ (∀ (x : State) (old : Nat), x.touch m.key = x ∧ x.wrote die m.key old = x) ∧ (d.acc = .rw) ∧ (m.key ≠ Ob.part_reset)) :=
  ⟨writesOne_of (by decide +kernel), fun x old => quiet_key x old, by decide +kernel⟩

theorem wit_writeRefused :
    (let s : State := s0; let m : Msg := M 2 Ob.blob_idle_s 0 4 [47,0,0,0]; (Served s 0x02 m) ∧ (s.boot.recovery = false) ∧ (badWrite m = true)) ∧
    (let s : State := s0; let m : Msg := M 2 Ob.identity 0 4 [47,0,0,0]; let d := ((s.arrived m).found m).get!; (Served s 0x02 m) ∧ (s.boot.recovery = false) ∧ (badWrite m = false) ∧ ((s.arrived m).found m = some d) ∧ (d.acc = .ro) ∧ (m.key ≠ Ob.part_reset)) :=
  ⟨⟨served_of (by decide +kernel), by decide +kernel⟩,
   ⟨served_of (by decide +kernel), by decide +kernel⟩⟩

theorem wit_readSegBytes :
    (let s : State := s0; let m : Msg := M 3 Ob.cam_ccm 0 0 [15,0,0,0,9,0]; let d : ObjDef := D Ob.cam_ccm; (Served s 0x03 m) ∧ ((s.arrived m).segTarget m false = (0, some d)) ∧ (leAt m.payload 4 2 ≠ 0)) :=
  ⟨served_of (by decide +kernel), by decide +kernel⟩

theorem wit_readSegFill :
    (let s : State := s0; let m : Msg := M 3 Ob.cam_ccm 0 0 [15,0,0,0,0,0]; let d : ObjDef := D Ob.cam_ccm; (Served s 0x03 m) ∧ ((s.arrived m).segTarget m false = (0, some d)) ∧ (leAt m.payload 4 2 = 0) ∧ (m.key ≠ Ob.upd_image)) :=
  ⟨served_of (by decide +kernel), by decide +kernel⟩

theorem wit_writeSegTakes :
    (let s : State := s0; let m : Msg := M 4 Ob.pq_lut 0 0 [0,0,0,0,9,8]; let d : ObjDef := D Ob.pq_lut; let k : Nat := Ob.pq_lut; (Served s 0x04 m) ∧ ((s.arrived m).segTarget m true = (0, some d)) ∧ (k = fullKey (homeDie d m) m.key) ∧ (∀ h, ((s.arrived m).xfer k).holder = some h → h = m.session) ∧ (m.key ≠ Ob.upd_image) ∧ (m.key ≠ Ob.corr_patch) ∧ (leAt m.payload 0 4 ≤ ((s.arrived m).xfer k).fill)) :=
  ⟨served_of (by decide +kernel), by decide +kernel⟩

theorem wit_writeSegRefused :
    (let s : State := { s0 with corrix := { blobs := [(Ob.pq_lut, { fill := 10, holder := some 8 })] } }; let m : Msg := M 4 Ob.pq_lut 0 0 [10,0,0,0,9,8]; let d : ObjDef := D Ob.pq_lut; let k : Nat := Ob.pq_lut; (Served s 0x04 m) ∧ ((s.arrived m).segTarget m true = (0, some d)) ∧ (k = fullKey (homeDie d m) m.key) ∧ (m.key ≠ Ob.upd_image) ∧ (m.key ≠ Ob.corr_patch) ∧ (∃ h, ((s.arrived m).xfer k).holder = some h ∧ h ≠ m.session)) ∧
    (let s : State := s0; let m : Msg := M 4 Ob.pq_lut 0 0 [10,0,0,0,9,8]; let d : ObjDef := D Ob.pq_lut; let k : Nat := Ob.pq_lut; (Served s 0x04 m) ∧ ((s.arrived m).segTarget m true = (0, some d)) ∧ (k = fullKey (homeDie d m) m.key) ∧ (m.key ≠ Ob.upd_image) ∧ (m.key ≠ Ob.corr_patch) ∧ (((s.arrived m).xfer k).holder = none) ∧ (((s.arrived m).xfer k).fill < leAt m.payload 0 4)) :=
  ⟨⟨served_of (by decide +kernel), by decide +kernel⟩,
   ⟨served_of (by decide +kernel), by decide +kernel⟩⟩

theorem wit_prepareBegins :
    (let s : State := s0; let m : Msg := M 0x10 0 0 0 [10,0,0,9]; (Served s 0x10 m) ∧ (s.boot.recovery = false) ∧ (s.corrix.vote = none) ∧ ((s.arrived m).commit = cIdle ∨ (s.arrived m).commit = cStaged)) :=
  ⟨served_of (by decide +kernel), by decide +kernel⟩

theorem wit_launchArms :
    (let s : State := (s0.set Ob.commit_state cReady).set Ob.commit_id 0x0900000A; let m : Msg := M 0x11 0 0 0 ([10,0,0,9] ++ [1,0,0,0,0,0,5,0,0,0,0,0]); (Served s 0x11 m) ∧ (s.boot.recovery = false) ∧ ((s.arrived m).commit = cReady) ∧ ((s.arrived m).pw Ob.commit_id = leAt m.payload 0 4)) :=
  ⟨served_of (by decide +kernel), by decide +kernel⟩

theorem wit_launchRefused :
    (let s : State := (s0.set Ob.commit_state cReady).set Ob.commit_id 0x0900000A; let m : Msg := M 0x11 0 0 0 ([11,0,0,9] ++ [1,0,0,0,0,0,5,0,0,0,0,0]); (Served s 0x11 m) ∧ (s.boot.recovery = false) ∧ ((s.arrived m).pw Ob.commit_id ≠ leAt m.payload 0 4) ∧ (s.corrix.applied.find? (fun a => a.1 = leAt m.payload 0 4) = none)) :=
  ⟨served_of (by decide +kernel), by decide +kernel⟩

theorem wit_abortReturns :
    (let s : State := (s0.set Ob.commit_state cArmed).set Ob.commit_id 0x0900000A; let m : Msg := M 0x12 0 0 0 [10,0,0,9]; (Served s 0x12 m) ∧ (s.boot.recovery = false) ∧ ((s.arrived m).commit = cPreparing ∨ (s.arrived m).commit = cReady ∨ (s.arrived m).commit = cArmed) ∧ ((s.arrived m).pw Ob.commit_id = leAt m.payload 0 4)) :=
  ⟨served_of (by decide +kernel), by decide +kernel⟩

theorem wit_discardDrops :
    (let s : State := { (s0.set Ob.commit_state cStaged) with staged := [(Ob.view_count, .num 2)] }; let m : Msg := M 0x13 0 0 0 []; (Served s 0x13 m) ∧ (s.boot.recovery = false) ∧ ((s.arrived m).commit = cStaged)) ∧
    (let s : State := s0; let m : Msg := M 0x13 0 0 0 []; (Served s 0x13 m) ∧ (s.boot.recovery = false) ∧ ((s.arrived m).commit ≠ cStaged)) :=
  ⟨⟨served_of (by decide +kernel), by decide +kernel⟩,
   ⟨served_of (by decide +kernel), by decide +kernel⟩⟩

theorem wit_pingAnswers :
    (let s : State := s0; let m : Msg := M 0x3F 0 0 0 []; Served s 0x3F m) :=
  served_of (by decide +kernel)

theorem wit_unlistedAnswered :
    (let s : State := s0; let op : Nat := 0x55; let m : Msg := M 0x55 0 0 0 [1,2]; (Up s) ∧ (Carried s m) ∧ (s.booted = true) ∧ (listedOps.contains op = false) ∧ (m.payload.length = m.len) ∧ (m.crc = msgCrc op m) ∧ (bit m.flags 0 = false) ∧ (m.bcast = false) ∧ (s.alive s.sup = true) ∧ (s.ownRequest m = true)) :=
  ⟨up_of (by decide +kernel), carried_of (by decide +kernel), by decide +kernel⟩

theorem wit_answerOut :
    (let m : Msg := M 1 0x100000 0 0 []; let st : Nat := 0; let addr : Nat := 1; let port : Nat := 2; let dport : Nat := 28741; (m.via = .udp addr port dport) ∧ (st ≠ 3) ∧ (m.session ≠ 0)) ∧
    (let s : State := s0; let op : Nat := 1; let m : Msg := M 1 0x100000 0 0 []; let st : Nat := 0; let ty : Nat := 4; let pay : List Byte := [1,2,3,4]; let addr : Nat := 1; let port : Nat := 2; let dport : Nat := 28741; let t := s.answer op m st ty pay; (m.via = .udp addr port dport) ∧ (t = s.answer op m st ty pay)) :=
  ⟨by decide +kernel,
   by decide +kernel⟩

theorem wit_answerMailbox :
    (let s : State := s0; let op : Nat := 1; let m : Msg := M 1 0x100000 0 0 [] 0 .spi; let st : Nat := 0; let ty : Nat := 4; let pay : List Byte := [1,2,3,4]; let i := 0; (m.via = .spi) ∧ (bit s.spi.hstat 1 = false) ∧ (i < (msgBytes op (respond m op st ty pay)).length)) ∧
    (let s : State := { s0 with spi := { hstat := 7 } }; let m : Msg := M 1 0x100000 0 0 [] 0 .spi; (m.via = .spi) ∧ (bit s.spi.hstat 1 = true)) :=
  ⟨by decide +kernel,
   by decide +kernel⟩

theorem wit_answerCell :
    (let m : Msg := M 1 0x100000 0 0 [] 0 (.hawser 3 9 4); let p : Nat := 3; let e : Nat := 9; let h : Nat := 4; m.via = .hawser p e h) :=
  by decide +kernel

theorem wit_relayFromHost :
    (let s : State := sp ((s0.set Ob.role_mode 2).set Ob.fwd_up_port 4) [0, 4]; let op : Nat := 1; let m : Msg := toNode (M 1 0x100000 0 0 []) 1 44; let addr : Nat := 1; let port : Nat := 2; let dport : Nat := 28741; let q := (s.ownPort m.node).get!; (Up s) ∧ (Carried s m) ∧ (s.booted = true) ∧ (m.via = .udp addr port dport) ∧ (m.crc = msgCrc op m) ∧ (bit m.flags 0 = false) ∧ (m.bcast = false) ∧ (wellMade op m = true) ∧ (s.alive s.sup = true) ∧ (s.ownRequest m = false) ∧ (s.serving = true) ∧ (s.ownPort m.node = some q)) ∧
    (let s : State := sp s0 [0, 4]; let op : Nat := 1; let m : Msg := toNode (M 1 0x100000 0 0 []) 1 44; let addr : Nat := 1; let port : Nat := 2; let dport : Nat := 28741; (Up s) ∧ (Carried s m) ∧ (s.booted = true) ∧ (m.via = .udp addr port dport) ∧ (m.crc = msgCrc op m) ∧ (bit m.flags 0 = false) ∧ (m.bcast = false) ∧ (wellMade op m = true) ∧ (s.alive s.sup = true) ∧ (s.ownRequest m = false) ∧ (s.serving = true) ∧ (s.ownPort m.node = none)) :=
  ⟨⟨up_of (by decide +kernel), carried_of (by decide +kernel), by decide +kernel⟩,
   ⟨up_of (by decide +kernel), carried_of (by decide +kernel), by decide +kernel⟩⟩

theorem wit_broadcastSpreads :
    (let s : State := sp s0 [0, 4]; let op : Nat := 2; let n : Nat := 5; let m : Msg := bc (M 2 Ob.blob_idle_s 0 3 [47,0]) 2; let addr : Nat := 1; let port : Nat := 2; let dport : Nat := 28741; (Up s) ∧ (Carried s m) ∧ (s.booted = true) ∧ (m.via = .udp addr port dport) ∧ (m.crc = msgCrc op m) ∧ (bit m.flags 0 = false) ∧ (m.bcast = true) ∧ ([0x02, 0x04, 0x11, 0x12, 0x13].contains op = true) ∧ (wellMade op m = true) ∧ (op = 0x02 → badWrite m = false) ∧ (s.alive s.sup = true) ∧ (s.serving = true) ∧ (m.waiting < 32) ∧ (s.node = some n) ∧ (n < 1024) ∧ (s.net.bcasts = [])) :=
  ⟨up_of (by decide +kernel), carried_of (by decide +kernel), by decide +kernel⟩

theorem wit_broadcastRepeat :
    (let s : State := { sp s0 [0, 4] with net := { bcasts := [{ node := 5, session := 7, seq := 3, since := 0 }] } }; let op : Nat := 2; let n : Nat := 5; let m : Msg := bc (M 2 Ob.blob_idle_s 0 3 [47,0]) 2; let addr : Nat := 1; let port : Nat := 2; let dport : Nat := 28741; let b : BcastSt := { node := 5, session := 7, seq := 3, since := 0 }; (Up s) ∧ (Carried s m) ∧ (s.booted = true) ∧ (m.via = .udp addr port dport) ∧ (m.crc = msgCrc op m) ∧ (bit m.flags 0 = false) ∧ (m.bcast = true) ∧ ([0x02, 0x04, 0x11, 0x12, 0x13].contains op = true) ∧ (wellMade op m = true) ∧ (op = 0x02 → badWrite m = false) ∧ (s.alive s.sup = true) ∧ (s.node = some n) ∧ (n < 1024) ∧ (b ∈ s.net.bcasts) ∧ (b.node = n) ∧ (b.session = m.session) ∧ (b.seq = m.seq) ∧ (s.now < b.since + 1000000000)) :=
  ⟨up_of (by decide +kernel), carried_of (by decide +kernel), by decide +kernel⟩

theorem wit_responseReturns :
    (let s : State := { sp s0 [0, 4] with net := { entries := [{ via := .spi, target := 44, session := 7, seq := 3, since := 0 }] } }; let p : Nat := 4; let n : Nat := 5; let op : Nat := 1; let m : Msg := toNode (M 1 0x100000 0 0 [1]) 1 44; let e := (s.net.entries).head!; (Up s) ∧ (s.inService p = true) ∧ (s.role p ≠ 2) ∧ (s.node = some n) ∧ (n < 1024) ∧ (s.net.relay = []) ∧ (s.net.entries = [e]) ∧ (e.target = (carried p n op m).2.target) ∧ (e.session = (carried p n op m).2.session) ∧ (e.seq = (carried p n op m).2.seq)) ∧
    (let s : State := sp s0 [0, 4]; let p : Nat := 4; let n : Nat := 5; (Up s) ∧ (s.inService p = true) ∧ (s.role p ≠ 2) ∧ (s.node = some n) ∧ (n < 1024) ∧ (s.net.relay = []) ∧ (s.net.entries = [])) :=
  ⟨⟨up_of (by decide +kernel), by decide +kernel⟩,
   ⟨up_of (by decide +kernel), by decide +kernel⟩⟩

theorem wit_relayExpires :
    (let s : State := { s0 with now := 20000000, net := { entries := [{ via := .spi, target := 44, session := 7, seq := 3, since := 0 },{ via := .spi, target := 44, session := 7, seq := 4, since := 15000000 }], relay := [{ target := 44, session := 7, seq := 3, since := 0, port := 0 },{ target := 44, session := 7, seq := 4, since := 15000000, port := 4 }] } }; Up s) :=
  up_of (by decide +kernel)

theorem wit_bcastExpires :
    (let s : State := { s0 with now := 2000000000, net := { bcasts := [{ node := 5, session := 7, seq := 3, since := 0 }, { node := 5, session := 7, seq := 4, since := 1500000000 }] } }; Up s) :=
  up_of (by decide +kernel)

theorem wit_holdEnds :
    (let s : State := { s0 with now := 700000000000, corrix := { blobs := [(Ob.upd_image, { fill := 10, holder := some 8, lastAt := 699999999999 }), (Ob.pq_lut, { fill := 10, holder := some 8 })] } }; (Up s) ∧ (smWf {} 0 s.corrix.blobs = true)) :=
  ⟨up_of (by decide +kernel), by decide +kernel⟩

theorem wit_spiReads :
    (let s : State := { s0 with now := 2000000 }; (s.spiOn = true) ∧ (s.boot.releaseAt + 1000000 ≤ s.now)) :=
  by decide +kernel

theorem wit_spiWrites :
    (let s : State := { s0 with spi := { hstat := 1, request := [(0, 9), (7, 7)] } }; let o : Nat := 0xFE; let bytes : List Byte := [1, 2]; (s.spiOn = true) ∧ (s.reqFree = true) ∧ (o + bytes.length ≤ 256)) :=
  by decide +kernel

theorem wit_hctlSends :
    (let s : State := { s0 with spi := { hstat := 1, request := smPutAll 0 [] 0 (msgBytes 0x3F (M 0x3F 0 0 0 [] 0 .spi)) } }; (s.spiOn = true) ∧ (s.booted = true) ∧ (s.spiBusy = false)) ∧
    (let s : State := { s0 with spi := { held := some [] } }; (s.spiOn = true) ∧ (s.booted = true) ∧ (s.spiBusy = true)) :=
  ⟨by decide +kernel,
   by decide +kernel⟩

theorem wit_hctlFrees :
    (let s : State := { s0 with spi := { hstat := 7 } }; (s.spiOn = true) ∧ (s.spi.held = none)) ∧
    (let s : State := { s0 with spi := { hstat := 7, held := some [(0, byteOf 3)] } }; let b := (s.spi.held).get!; (s.spiOn = true) ∧ (s.spi.held = some b)) :=
  ⟨by decide +kernel,
   by decide +kernel⟩

theorem wit_arpIcmpAnswered :
    (let s : State := s0.set Ob.mgmt_ip_current 99; let dst : Nat := 99; (Up s) ∧ (s.pw Ob.mgmt_ip_current ≠ 0) ∧ (dst = s.pw Ob.mgmt_ip_current)) ∧
    (let s : State := s0.set Ob.mgmt_ip_current 99; let dst : Nat := 98; (Up s) ∧ (s.pw Ob.mgmt_ip_current ≠ 0) ∧ (dst ≠ s.pw Ob.mgmt_ip_current)) :=
  ⟨⟨up_of (by decide +kernel), by decide +kernel⟩,
   ⟨up_of (by decide +kernel), by decide +kernel⟩⟩

theorem wit_voteEnds :
    (let s : State := { (s0.set Ob.commit_state cPreparing) with staged := [(0x300100, .num 50)], corrix := { vote := some { id := 6, waiting := [M 0x10 0 0 0 [6,0,0,0]], startAt := 0, late := [] } } }; let v : VoteSt := { id := 6, waiting := [M 0x10 0 0 0 [6,0,0,0]], startAt := 0, late := [] }; (Up s) ∧ (s.corrix.vote = some v) ∧ (s.silentDies = [])) :=
  ⟨up_of (by decide +kernel), by decide +kernel⟩

theorem wit_voteTimesOut :
    (let s : State := { (s0.set Ob.commit_state cPreparing) with fw := 3, now := 2000000, corrix := { vote := some { id := 6, waiting := [M 0x10 0 0 0 [6,0,0,0]], startAt := 0, late := [] } } }; let v : VoteSt := { id := 6, waiting := [M 0x10 0 0 0 [6,0,0,0]], startAt := 0, late := [] }; (Up s) ∧ (s.corrix.vote = some v) ∧ (v.startAt + 2000000 ≤ s.now) ∧ (∃ d, d ∈ s.silentDies ∧ d ∈ s.aliveList)) ∧
    (let s : State := { (s0.set Ob.commit_state cPreparing) with fw := 3, now := 1999999, corrix := { vote := some { id := 6, waiting := [M 0x10 0 0 0 [6,0,0,0]], startAt := 0, late := [] } } }; let v : VoteSt := { id := 6, waiting := [M 0x10 0 0 0 [6,0,0,0]], startAt := 0, late := [] }; (Up s) ∧ (s.corrix.vote = some v) ∧ (s.now < v.startAt + 2000000)) :=
  ⟨⟨up_of (by decide +kernel), by decide +kernel⟩,
   ⟨up_of (by decide +kernel), by decide +kernel⟩⟩

theorem wit_commitApplies :
    (let s : State := { (s0.set Ob.commit_state cArmed) with staged := [(0x300100, .num 50)] }; (Up s) ∧ (s.commit = cArmed) ∧ (s.reached (s.int 0 Ob.commit_launch) = true)) ∧
    (let s : State := ((s0.set Ob.commit_state cArmed).set Ob.commit_launch 1000000000000); (Up s) ∧ (s.commit = cArmed) ∧ (s.reached (s.int 0 Ob.commit_launch) = false)) :=
  ⟨⟨up_of (by decide +kernel), by decide +kernel⟩,
   ⟨up_of (by decide +kernel), by decide +kernel⟩⟩

end C02

namespace C03

def lc (msg st root : Nat) (h : Nat := 1) : Cell := mkCell 0 0 9 0 (layCellBytes { msg := msg, state := st, root := root, gen := 3, hops := h, seq := 8, tx := 500 * layNs, t2 := 300 * layNs, reqSeq := 4, skew := 0, stepAt := 0, stepMag := 0, utc := 37, ref := 1, cumErr := 50 })
def fed (s : State) : State := { s with ports := [(0, { inService := true, syncRun := 9, syncAt := some s.now, delayAt := some s.now, delays := [10, 20] })] }

theorem wit_listenEnds :
    (let s : State := { (s0.set Ob.lay_rank 1).set Ob.lay_ref_priority 0 with now := 1000000005, lay := { listenAt := some 5 } }; let t0 : Nat := 5; (Up s) ∧ (s.lay.listenAt = some t0) ∧ (t0 + 1000000000 ≤ s.now) ∧ (s.pw Ob.lay_rank = 1) ∧ (s.isRoot = false) ∧ (s.lay.heardRoot = false) ∧ (s.refList = [])) :=
  ⟨up_of (by decide +kernel), by decide +kernel⟩

theorem wit_syncSteers :
    (let s : State := fed ({ s0 with now := 10000, lay := { fine := 700 * 281474976710656 } }); let p : Nat := 0; let c : Cell := lc 1 2 1049; let l : LayCell := layCellParse c.payload; let a : State := taken (s.cellArrives 0) 0 l; (CellAt s p c) ∧ (c.cls = 0) ∧ (c.kind = 0) ∧ (layCellBad c.payload = false) ∧ (l = layCellParse c.payload) ∧ (l.msg = 1) ∧ (a = taken (s.cellArrives p) p l) ∧ ((s.cellArrives p).layQuiet = false) ∧ (a.isRoot = false) ∧ ((recorded a p l).chooseUp = some p) ∧ (bit l.state 2 = false) ∧ (bit l.state 3 = false)) :=
  ⟨cellAt_of (by decide +kernel), by decide +kernel⟩

theorem wit_syncAtRoot :
    (let s : State := fed ((s0.set Ob.lay_rank 1).set Ob.lay_state layRoot); let p : Nat := 0; let c : Cell := lc 1 1 1049; let l : LayCell := layCellParse c.payload; let a : State := taken (s.cellArrives 0) 0 l; (CellAt s p c) ∧ (c.cls = 0) ∧ (c.kind = 0) ∧ (layCellBad c.payload = false) ∧ (l = layCellParse c.payload) ∧ (l.msg = 1) ∧ (a = taken (s.cellArrives p) p l) ∧ ((s.cellArrives p).layQuiet = false) ∧ (a.isRoot = true) ∧ (bit l.state 0 = true ∨ l.root % 1024 = a.pw Ob.node_id)) :=
  ⟨cellAt_of (by decide +kernel), by decide +kernel⟩

theorem wit_badLayCell :
    (let s : State := fed s0; let p : Nat := 0; let c : Cell := mkCell 0 0 9 0 ((layCellBytes { msg := 1, state := 0, root := 0, gen := 3, hops := 1, seq := 8, tx := 5, t2 := 0, reqSeq := 4, skew := 0, stepAt := 0, stepMag := 0, utc := 37, ref := 1, cumErr := 50 }).set 0 9); let a : State := (s.cellArrives 0).bump 0 Ob.lay_cells_bad; (CellAt s p c) ∧ (c.cls = 0) ∧ (c.kind = 0) ∧ (layCellBad c.payload = true) ∧ (leAt c.payload 0 1 ≠ 2) ∧ (leAt c.payload 0 1 ≠ 3) ∧ (a = (s.cellArrives p).bump 0 Ob.lay_cells_bad)) :=
  ⟨cellAt_of (by decide +kernel), by decide +kernel⟩

theorem wit_servoFree :
    (let s : State := { s0 with lay := { fine := 700 * 281474976710656 } }; s.layState = layFree) :=
  by decide +kernel

theorem wit_servoSteers :
    (let s : State := { (s0.set Ob.lay_state layAcquire) with lay := { fine := 700 * 281474976710656, good := 63 } }; let off : Int := -5000; (s.layState = layAcquire ∨ s.layState = layLocked) ∧ (off.natAbs ≤ 100 * layNs)) :=
  by decide +kernel

theorem wit_servoOutlier :
    (let s : State := { (s0.set Ob.lay_state layLocked) with lay := { fine := 700 * 281474976710656, bad := 6 } }; let off : Int := 300000000; (s.layState = layLocked) ∧ (100 * layNs < off.natAbs) ∧ (s.lay.bad < 7)) ∧
    (let s : State := { (s0.set Ob.lay_state layLocked) with lay := { fine := 700 * 281474976710656, bad := 7 } }; let off : Int := 300000000; (s.layState = layLocked) ∧ (100 * layNs < off.natAbs) ∧ (7 ≤ s.lay.bad)) :=
  ⟨by decide +kernel,
   by decide +kernel⟩

theorem wit_syncSent :
    (let s : State := sp ((s0.set Ob.lay_state layLocked).set (Ob.port_role + 4) 2) [0, 2, 4, 16]; (Up s) ∧ (s.layState = layRoot ∨ s.layState = layLocked ∨ s.layState = layHoldover)) :=
  ⟨up_of (by decide +kernel), by decide +kernel⟩

theorem wit_delayReqSent :
    (let was : State := sp ((s0.set Ob.lay_state layLocked).set (Ob.port_role + 4) 2) [0, 2, 4, 16]; let s : State := was.each (was.portList.filter fun p => was.role p ≠ 2 && was.due (was.port p).sentReqAt 1000000) (fun p x => x.wakeSlept p); (Up was) ∧ (s = was.each (was.portList.filter fun p => was.role p ≠ 2 && was.due (was.port p).sentReqAt 1000000) (fun p x => x.wakeSlept p))) :=
  ⟨up_of (by decide +kernel), by decide +kernel⟩

theorem wit_delayAnswered :
    (let s : State := fed { s0 with now := 77 }; let p : Nat := 0; let c : Cell := lc 2 0 9; let l : LayCell := layCellParse c.payload; let a : State := taken (s.cellArrives 0) 0 l; (CellAt s p c) ∧ (c.cls = 0) ∧ (c.kind = 0) ∧ (layCellBad c.payload = false) ∧ (l = layCellParse c.payload) ∧ (l.msg = 2) ∧ (a = taken (s.cellArrives p) p l) ∧ ((s.cellArrives p).layQuiet = false)) :=
  ⟨cellAt_of (by decide +kernel), by decide +kernel⟩

theorem wit_delayMeasured :
    (let s : State := { fed s0 with lay := { fine := 900 * 281474976710656 }, ports := [(0, { inService := true, req := some (4, 100 * layNs, 3), delays := [10,20,30,40,50,60,70,80] })] }; let p : Nat := 0; let q : Nat := 4; let t1 : Nat := 100 * layNs; let at_ : Nat := 3; let c : Cell := lc 3 0 9; let l : LayCell := layCellParse c.payload; let a : State := taken (s.cellArrives 0) 0 l; (CellAt s p c) ∧ (c.cls = 0) ∧ (c.kind = 0) ∧ (layCellBad c.payload = false) ∧ (l = layCellParse c.payload) ∧ (l.msg = 3) ∧ (a = taken (s.cellArrives p) p l) ∧ ((s.cellArrives p).layQuiet = false) ∧ ((a.port p).req = some (q, t1, at_)) ∧ (q = l.reqSeq)) :=
  ⟨cellAt_of (by decide +kernel), by decide +kernel⟩

theorem wit_delayGivenUp :
    (let s : State := { fed s0 with now := 1000003, ports := [(0, { inService := true, req := some (4, 100 * layNs, 3), delays := [10,20,30,40,50,60,70,80] })] }; let p : Nat := 0; let q : Nat := 4; let t1 : Nat := 100 * layNs; let at_ : Nat := 3; (Up s) ∧ ((s.port p).req = some (q, t1, at_)) ∧ (at_ + 1000000 ≤ s.now)) ∧
    (let s : State := { fed s0 with now := 1000002, ports := [(0, { inService := true, req := some (4, 100 * layNs, 3), delays := [10,20,30,40,50,60,70,80] })] }; let p : Nat := 0; let q : Nat := 4; let t1 : Nat := 100 * layNs; let at_ : Nat := 3; (Up s) ∧ ((s.port p).req = some (q, t1, at_)) ∧ (s.now < at_ + 1000000)) :=
  ⟨⟨up_of (by decide +kernel), by decide +kernel⟩,
   ⟨up_of (by decide +kernel), by decide +kernel⟩⟩

theorem wit_upstreamHolds :
    (let s : State := fed ((s0.set Ob.lay_state layLocked).set Ob.lay_upstream 2); let p := 0; let p := (s.bestPort).get!; (Up s) ∧ (s.isRoot = false) ∧ (s.pw Ob.lay_upstream ≠ 0xFF) ∧ (s.eligible (s.pw Ob.lay_upstream) = false) ∧ (s.bestPort = some p) ∧ (p ≠ s.pw Ob.lay_upstream)) ∧
    (let s : State := { (s0.set Ob.lay_state layLocked).set Ob.lay_upstream 0 with lay := { fine := 900, freq := 17, trim := 5, trimNs := 3, hasRoot := true } }; (Up s) ∧ (s.isRoot = false) ∧ (s.pw Ob.lay_upstream ≠ 0xFF) ∧ (s.eligible (s.pw Ob.lay_upstream) = false) ∧ (s.bestPort = none) ∧ (s.layState = layAcquire ∨ s.layState = layLocked)) ∧
    (let s : State := fed ((s0.set Ob.lay_state layLocked).set Ob.lay_upstream 0); (Up s) ∧ (s.isRoot = false) ∧ (s.pw Ob.lay_upstream ≠ 0xFF) ∧ (s.eligible (s.pw Ob.lay_upstream) = true)) :=
  ⟨⟨up_of (by decide +kernel), by decide +kernel⟩,
   ⟨up_of (by decide +kernel), by decide +kernel⟩,
   ⟨up_of (by decide +kernel), by decide +kernel⟩⟩

theorem wit_backupTakes :
    (let s : State := { ((s0.set Ob.lay_state layLocked).set Ob.lay_rank 2).set Ob.lay_ref_priority 0 with lay := { fine := 900, freq := 17 } }; (Up s) ∧ (s.pw Ob.lay_rank = 2) ∧ (s.layState = layLocked ∨ s.layState = layHoldover) ∧ (∀ t0, s.lay.rank1At = some t0 → t0 + s.pw Ob.lay_root_loss_ms * 1000000 ≤ s.now)) ∧
    (let s : State := { ((s0.set Ob.lay_state layLocked).set Ob.lay_rank 2) with now := 7, lay := { fine := 900, freq := 17, rank1At := some 7 } }; let t0 := 7; (Up s) ∧ (s.pw Ob.lay_rank ≠ 2 ∨ (s.layState ≠ layLocked ∧ s.layState ≠ layHoldover) ∨ (∃ t0, s.lay.rank1At = some t0 ∧ s.now < t0 + s.pw Ob.lay_root_loss_ms * 1000000))) :=
  ⟨⟨up_of (by decide +kernel), by decide +kernel⟩,
   ⟨up_of (by decide +kernel), by decide +kernel⟩⟩

theorem wit_handbackBegins :
    (let s : State := (s0.set Ob.lay_state layRoot).set Ob.lay_rank 2; let m : Msg := W Ob.lay_root_handback 0 [1]; let d : ObjDef := D Ob.lay_root_handback; (WritesOne s m d 0) ∧ (m.key = Ob.lay_root_handback) ∧ (decodeVal d.ty m.payload = 1) ∧ ((s.arrived m).isRoot = true) ∧ ((s.arrived m).pw Ob.lay_rank = 2)) ∧
    (let s : State := (s0.set Ob.lay_state layLocked).set Ob.lay_rank 2; let m : Msg := W Ob.lay_root_handback 0 [1]; let d : ObjDef := D Ob.lay_root_handback; (WritesOne s m d 0) ∧ (m.key = Ob.lay_root_handback) ∧ (decodeVal d.ty m.payload = 1) ∧ ((s.arrived m).isRoot = false ∨ (s.arrived m).pw Ob.lay_rank ≠ 2)) :=
  ⟨⟨writesOne_of (by decide +kernel), by decide +kernel⟩,
   ⟨writesOne_of (by decide +kernel), by decide +kernel⟩⟩

theorem wit_handbackEnds :
    (let s : State := { (s0.set Ob.lay_state layRoot).set Ob.lay_rank 2 with now := 10000001, lay := { handbackAt := some 1, fine := 4 } }; let t0 := 1; let t0 := (s.lay.handbackAt).get!; (Up s) ∧ (s.lay.handbackAt = some t0) ∧ (t0 + 10000000 ≤ s.now)) ∧
    (let s : State := { (s0.set Ob.lay_state layRoot).set Ob.lay_rank 2 with now := 10000000, lay := { handbackAt := some 1, fine := 4 } }; let t0 := 1; (Up s) ∧ (s.lay.handbackAt = none ∨ ∃ t0, s.lay.handbackAt = some t0 ∧ s.now < t0 + 10000000)) :=
  ⟨⟨up_of (by decide +kernel), by decide +kernel⟩,
   ⟨up_of (by decide +kernel), by decide +kernel⟩⟩

theorem wit_refQualifies :
    (let s : State := { s0 with now := 30000000000, lay := { refs := [(3, { validFrom := some 0, lastEdge := some 29500000000 })] } }; let code : Nat := 3; let t0 : Nat := 0; (Up s) ∧ (1 ≤ code) ∧ (code ≤ 4) ∧ ((s.ref code).validFrom = some t0) ∧ (t0 + s.pw Ob.lay_ref_qual_s * 1000000000 ≤ s.now) ∧ ((s.ref code).barredTo ≤ s.now) ∧ (s.refGone code false = false) ∧ (s.isRoot = false)) :=
  ⟨up_of (by decide +kernel), by decide +kernel⟩

theorem wit_refLoses :
    (let s : State := { s0.set Ob.lay_ref_qualified 0xA with lay := { refs := [(3, { validFrom := some 0 })] } }; let l : RefLoss := { code := 3, frefStopped := false }; (Up s) ∧ (1 ≤ l.code) ∧ (l.code ≤ 4) ∧ (s.qualified l.code = true) ∧ (s.refGone l.code l.frefStopped = true) ∧ (s.isRoot = false)) ∧
    (let s : State := { (((s0.set Ob.lay_ref_qualified 0xA).set Ob.lay_state layRoot).set Ob.lay_ref_selected 3).set Ob.lay_ref_priority 3 with lay := { refs := [(3, { validFrom := some 0 })] } }; let l : RefLoss := { code := 3, frefStopped := false }; (Up s) ∧ (1 ≤ l.code) ∧ (l.code ≤ 4) ∧ (s.qualified l.code = true) ∧ (s.refGone l.code l.frefStopped = true) ∧ (s.isRoot = true) ∧ (s.pw Ob.lay_ref_selected = l.code) ∧ (s.refList = [l.code])) :=
  ⟨⟨up_of (by decide +kernel), by decide +kernel⟩,
   ⟨up_of (by decide +kernel), by decide +kernel⟩⟩

theorem wit_refMeasures :
    (let s : State := { s0.set Ob.lay_ref_qualified 0xA with lay := { refs := [(3, { validFrom := some 0 })] } }; let code : Nat := 3; (Up s) ∧ (s.isRoot = false) ∧ (1 ≤ code) ∧ (code ≤ 4) ∧ (s.qualified code = true)) ∧
    (let s : State := { s0.set Ob.lay_ref_qualified 0xA with lay := { refs := [(3, { validFrom := some 0 })] } }; let code : Nat := 4; (Up s) ∧ (s.isRoot = false) ∧ (1 ≤ code) ∧ (code ≤ 4) ∧ (s.qualified code = false)) :=
  ⟨⟨up_of (by decide +kernel), by decide +kernel⟩,
   ⟨up_of (by decide +kernel), by decide +kernel⟩⟩

theorem wit_refDrifts :
    (let s : State := { (((s0.set Ob.lay_ref_qualified 0xA).set Ob.lay_state layRoot).set Ob.lay_ref_selected 3).set Ob.lay_ref_priority 3 with now := 90000000000, lay := { refs := [(3, { validFrom := some 0, driftFrom := some 0 })] } }; let code : Nat := 3; let t0 : Nat := 0; (Up s) ∧ (s.isRoot = true) ∧ (s.pw Ob.lay_ref_selected = code) ∧ (1 ≤ code) ∧ (code ≤ 4) ∧ (s.refList = [code]) ∧ ((s.ref code).driftFrom = some t0) ∧ (t0 + s.pw Ob.lay_drift_dwell_s * 1000000000 ≤ s.now)) :=
  ⟨up_of (by decide +kernel), by decide +kernel⟩

theorem wit_stepAccepted :
    (let s : State := { (s0.set Ob.lay_state layRoot).set Ob.lay_step_pending_mag 4000000000 with lay := { fine := 900 * 281474976710656 } }; let m : Msg := W Ob.lay_step_accept 0 [1]; let d : ObjDef := D Ob.lay_step_accept; (WritesOne s m d 0) ∧ (m.key = Ob.lay_step_accept) ∧ (decodeVal d.ty m.payload = 1) ∧ (s.lay.step = none) ∧ ((s.arrived m).isRoot = true) ∧ ((s.arrived m).pendingStep ≠ 0)) :=
  ⟨writesOne_of (by decide +kernel), by decide +kernel⟩

theorem wit_timeSetSteps :
    (let s : State := { s0.set Ob.lay_state layRoot with lay := { fine := 750000000 * 281474976710656 } }; let m : Msg := M 2 Ob.lay_time_set 0 8 [5,0,0,0,0,0,6,0,0,0,7,0]; let d : ObjDef := D Ob.lay_time_set; let v : Nat := (decodeVal d.ty m.payload).toNat; (WritesOne s m d 0) ∧ (m.key = Ob.lay_time_set) ∧ ((s.arrived m).clampVal 0 m.key d (decodeVal d.ty m.payload) = (v : Int)) ∧ (d.acc = .wo) ∧ ((s.arrived m).isRoot = true)) ∧
    (let s : State := { s0 with lay := { fine := 750000001 * 281474976710656 } }; let m : Msg := M 2 Ob.lay_time_set 0 8 [5,0,0,0,0,0,6,0,0,0,7,0]; let d : ObjDef := D Ob.lay_time_set; let v : Nat := (decodeVal d.ty m.payload).toNat; (WritesOne s m d 0) ∧ (m.key = Ob.lay_time_set) ∧ ((s.arrived m).clampVal 0 m.key d (decodeVal d.ty m.payload) = (v : Int)) ∧ (d.acc = .wo) ∧ ((s.arrived m).isRoot = false)) :=
  ⟨⟨writesOne_of (by decide +kernel), by decide +kernel⟩,
   ⟨writesOne_of (by decide +kernel), by decide +kernel⟩⟩

theorem wit_stepHappens :
    (let s : State := { s0 with lay := { fine := 1000000000 * 281474976710656, step := some (laySec, -5000000) } }; let at_ : Nat := laySec; let d : Int := -5000000; (Up s) ∧ (s.lay.step = some (at_, d)) ∧ (s.lay.wanted = none) ∧ (at_ ≤ s.layNow)) ∧
    (let s : State := { s0 with lay := { fine := 999999999 * 281474976710656, step := some (laySec, -5000000) } }; let at_ : Nat := laySec; let d : Int := -5000000; (Up s) ∧ (s.lay.step = some (at_, d)) ∧ (s.lay.wanted = none) ∧ (s.layNow < at_)) :=
  ⟨⟨up_of (by decide +kernel), by decide +kernel⟩,
   ⟨up_of (by decide +kernel), by decide +kernel⟩⟩

theorem wit_ptpSyncSets :
    (let s : State := { (s0.set Ob.ptp_port_a 1).set Ob.ptp_state_a 2 with now := 40, lay := { ptp := [(0, { cur := some 77, sources := [{ source := 77, said := default, at_ := 30, interval := 1000000000 }] })] } }; let d : Nat := 0; let w : PtpWire := { port := 1, domain := s.pw Ob.ptp_domain_a, transport := s.pw Ob.ptp_transport_a, source := 77 }; let origin : Nat := 9000000; let o : Int := s.ptpStamp d w.port - origin - (s.ptp d).delay - s.int 0 (ptpKey Ob.ptp_asym_ns_a d) * layNs; (Up s) ∧ (d < 2) ∧ (s.ptpFollows d w.port w.domain w.transport = true) ∧ (s.ptpFollows (1 - d) w.port w.domain w.transport = false) ∧ ((s.ptp d).cur = some w.source) ∧ ((s.ptpBest d).map (·.source) = some w.source) ∧ (s.isRoot = false) ∧ (o = s.ptpStamp d w.port - origin - (s.ptp d).delay - s.int 0 (ptpKey Ob.ptp_asym_ns_a d) * layNs)) :=
  ⟨up_of (by decide +kernel), by decide +kernel⟩

theorem wit_txtsPlaced :
    (let s : State := { s0 with now := 40, lay := { fine := 5 * 281474976710656 } }; let die : Nat := 3; let which : Nat := 1; let msgType : Nat := 1; let dom : Nat := 0; let n : Nat := 5; let ds : List Nat := [0, 1].filter (fun d => s.ptpPort d = some n && s.pw (ptpKey Ob.ptp_domain_a d) = dom); let d : Nat := ds.headD (if s.pw (ptpKey Ob.ptp_domain_a 1) = dom && s.pw Ob.ptp_domain_a ≠ dom then 1 else 0); (UpDie s die) ∧ (die < s.dies) ∧ (which < 2) ∧ (n = (if which = 1 then die + 2 else 1)) ∧ (ds = [0, 1].filter (fun d => s.ptpPort d = some n && s.pw (ptpKey Ob.ptp_domain_a d) = dom)) ∧ (d = ds.headD (if s.pw (ptpKey Ob.ptp_domain_a 1) = dom && s.pw Ob.ptp_domain_a ≠ dom then 1 else 0)) ∧ (which = 1 → s.on 0 (ptpKey Ob.ptp_one_step_a d) = false) ∧ (msgType ≠ 3 ∨ ds = []) ∧ ((smGet [] s.lay.txts (die * 2 + which)).length < 16)) ∧
    (let s : State := { s0 with now := 40, lay := { fine := 5 * 281474976710656, txts := [(7, List.replicate 16 { seqId := 1, msgType := 2, domain := 0, since := 1, stamp := 4 })] } }; let die : Nat := 3; let which : Nat := 1; let msgType : Nat := 1; let dom : Nat := 0; let n : Nat := 5; let ds : List Nat := [0, 1].filter (fun d => s.ptpPort d = some n && s.pw (ptpKey Ob.ptp_domain_a d) = dom); let d : Nat := ds.headD (if s.pw (ptpKey Ob.ptp_domain_a 1) = dom && s.pw Ob.ptp_domain_a ≠ dom then 1 else 0); (UpDie s die) ∧ (die < s.dies) ∧ (which < 2) ∧ (n = (if which = 1 then die + 2 else 1)) ∧ (ds = [0, 1].filter (fun d => s.ptpPort d = some n && s.pw (ptpKey Ob.ptp_domain_a d) = dom)) ∧ (d = ds.headD (if s.pw (ptpKey Ob.ptp_domain_a 1) = dom && s.pw Ob.ptp_domain_a ≠ dom then 1 else 0)) ∧ (which = 1 → s.on 0 (ptpKey Ob.ptp_one_step_a d) = false) ∧ (msgType ≠ 3 ∨ ds = []) ∧ (16 ≤ (smGet [] s.lay.txts (die * 2 + which)).length)) :=
  ⟨⟨upDie_of (by decide +kernel), by decide +kernel⟩,
   ⟨upDie_of (by decide +kernel), by decide +kernel⟩⟩

theorem wit_txtsAge :
    (let s : State := { s0 with now := 1000000040, lay := { txts := [(7, [{ seqId := 1, msgType := 2, domain := 0, since := 1, stamp := 4 }, { seqId := 2, msgType := 2, domain := 0, since := 100, stamp := 4 }])] } }; let k : Nat := 7; let q : List TxtsSt := [{ seqId := 1, msgType := 2, domain := 0, since := 1, stamp := 4 }, { seqId := 2, msgType := 2, domain := 0, since := 100, stamp := 4 }]; (Up s) ∧ (s.lay.txts = [(k, q)])) :=
  ⟨up_of (by decide +kernel), by decide +kernel⟩

theorem wit_evtEdges :
    (let s : State := { ((s0.set (Ob.lay_evt_mode) 1).set Ob.lay_evt_start (1000000 * layNs)).set Ob.lay_evt_width_ns 100000 with now := 1000000040, lay := { fine := 1000000 * 281474976710656 } }; let x : Nat := 0; (Up s) ∧ (x < 4)) :=
  ⟨up_of (by decide +kernel), by decide +kernel⟩

theorem wit_ppsCaptured :
    (let s : State := { s0 with now := 7, lay := { fine := 1500000 * 281474976710656 + 281474976710656 * 3 / 8 } }; (Up s) ∧ (s.isRoot = false)) :=
  ⟨up_of (by decide +kernel), by decide +kernel⟩

theorem wit_fsyncCaptured :
    (let s : State := { s0 with now := 7, lay := { fine := 1500000 * 281474976710656 + 281474976710656 * 3 / 8 } }; (Up s) ∧ (s.isRoot = false)) :=
  ⟨up_of (by decide +kernel), by decide +kernel⟩

theorem wit_braidHolds :
    (let s : State := { s0 with now := 7, lay := { fine := 1500000 * 281474976710656 + 281474976710656 * 3 / 8, freq := -9 } }; let b : BraidLink := { die := 3, linked := false }; (UpDie s b.die) ∧ (0 < b.die) ∧ (b.die < s.dies) ∧ (b.linked = false)) ∧
    (let s : State := { s0 with now := 7, lay := { fine := 1500000 * 281474976710656, freq := -9, holds := [(3, { fine := 44, freq := 2, on := true })] } }; let b : BraidLink := { die := 3, linked := true }; (UpDie s b.die) ∧ (0 < b.die) ∧ (b.die < s.dies) ∧ (b.linked = true)) :=
  ⟨⟨upDie_of (by decide +kernel), by decide +kernel⟩,
   ⟨upDie_of (by decide +kernel), by decide +kernel⟩⟩

end C03

namespace C04

/-- lane `l` of die 1 enabled, receiver r, transmitter t -/
def L (l r t : Nat) : State := ((s0.put 1 (Ob.lane_enable + l) 1).setRx 1 l r).setTx 1 l t
def mk (ok : Nat := 15) (size : Nat := 2) (pos : Nat := 0) : Marker := { node := 9, die := 0, lane := 1, groupPos := pos, groupSize := size, rxOk := ok, txMap := 15, sleepAnnounce := true, feLoopReq := false, nodeValid := true, seq := 5, bip := 0 }

theorem wit_laneStarts :
    (let s : State := L 2 0 0; let die : Nat := 1; let lane : Nat := 2; (LaneOn s die lane) ∧ (s.lanePll die = true) ∧ (s.tx die lane = 0) ∧ (s.nat die (Ob.prbs_gen + lane) = 0) ∧ (s.nat die (Ob.lane_loop + lane) = 0) ∧ (s.nat die (Ob.lane_sleep + lane) = 0)) :=
  ⟨laneOn_of (by decide +kernel), by decide +kernel⟩

theorem wit_squelchOpens :
    (let s : State := L 2 1 1; let die : Nat := 1; let lane : Nat := 2; (LaneOn s die lane) ∧ (s.testing die lane = false) ∧ (s.rx die lane = 1)) :=
  ⟨laneOn_of (by decide +kernel), by decide +kernel⟩

theorem wit_squelchWakes :
    (let s : State := (L 2 7 1).put 1 (Ob.lane_sleep + 2) 2; let die : Nat := 1; let lane : Nat := 2; (LaneOn s die lane) ∧ (s.testing die lane = false) ∧ (s.rx die lane = 7)) :=
  ⟨laneOn_of (by decide +kernel), by decide +kernel⟩

theorem wit_cdrLocks :
    (let s : State := L 2 2 1; let die : Nat := 1; let lane : Nat := 2; (UpDie s die) ∧ (s.rx die lane = 2)) :=
  ⟨upDie_of (by decide +kernel), by decide +kernel⟩

theorem wit_equaliserConverges :
    (let s : State := L 2 3 1; let die : Nat := 1; let lane : Nat := 2; (UpDie s die) ∧ (s.rx die lane = 3)) :=
  ⟨upDie_of (by decide +kernel), by decide +kernel⟩

theorem wit_candidateJoins :
    (let s : State := (L 2 4 1).setLane 1 2 fun l => { l with cands := [(1, false), (2, true), (3, false), (4, false)] }; let die : Nat := 1; let lane : Nat := 2; (UpDie s die) ∧ (s.rx die lane = 4)) :=
  ⟨upDie_of (by decide +kernel), by decide +kernel⟩

theorem wit_markerLocks :
    (let s : State := (L 2 4 1).setLane 1 2 fun l => { l with cands := [(9, true)] }; let die : Nat := 1; let lane : Nat := 2; let pos : Nat := 9; let n : Nat := 3; let inv : Bool := true; (UpDie s die) ∧ (s.rx die lane = 4) ∧ ((s.lane die lane).cands = [(pos, inv)]) ∧ (3 ≤ n)) ∧
    (let s : State := (L 2 4 1).setLane 1 2 fun l => { l with cands := [(9, true)] }; let die : Nat := 1; let lane : Nat := 2; let pos : Nat := 9; let n : Nat := 2; let inv : Bool := true; (UpDie s die) ∧ (s.rx die lane = 4) ∧ ((s.lane die lane).cands = [(pos, inv)]) ∧ (n < 3)) :=
  ⟨⟨upDie_of (by decide +kernel), by decide +kernel⟩,
   ⟨upDie_of (by decide +kernel), by decide +kernel⟩⟩

theorem wit_laneServes :
    (let s : State := ((L 0 5 1).setLane 1 0 fun l => { l with lastSeq := some 4 }).put 1 (Ob.lane_peer + 0) (peerWord (mk 15 0)); let die : Nat := 1; let lane : Nat := 0; let skew : Nat := 180; (UpDie s die) ∧ (lane < 8) ∧ (s.laneRuns die lane = true) ∧ ((s.lane die lane).lastSeq.isSome = true) ∧ (s.rx die lane = 5) ∧ (skew ≤ 180) ∧ (s.miswired die lane = false)) :=
  ⟨upDie_of (by decide +kernel), by decide +kernel⟩

theorem wit_laneSkewed :
    (let s : State := ((L 0 5 1).setLane 1 0 fun l => { l with lastSeq := some 4 }).put 1 (Ob.lane_peer + 0) (peerWord mk); let die : Nat := 1; let lane : Nat := 0; let skew : Nat := 181; (UpDie s die) ∧ (lane < 8) ∧ (s.laneRuns die lane = true) ∧ ((s.lane die lane).lastSeq.isSome = true) ∧ (s.rx die lane = 5) ∧ (180 < skew)) :=
  ⟨upDie_of (by decide +kernel), by decide +kernel⟩

theorem wit_markerTaken :
    (let s : State := (L 0 6 1).put 1 (Ob.lane_peer + 0) (peerWord (mk 15 0)); let die : Nat := 1; let lane : Nat := 0; let k : RxMarker := { bytes := markerBytes (mk 15 0), bip := 0 }; let m : Marker := markerParse k.bytes; (UpDie s die) ∧ (lane < 8) ∧ (s.hawserLane die lane = true) ∧ (s.rx die lane = 6) ∧ (patternErrors k.bytes ≤ 3) ∧ (m = markerParse k.bytes) ∧ ((s.put die (Ob.lane_peer + lane) (peerWord m)).miswired die lane = false) ∧ (s.skewOf die lane m.seq ≤ 180)) :=
  ⟨upDie_of (by decide +kernel), by decide +kernel⟩

theorem wit_markerMissed :
    (let s : State := (L 0 6 1).setLane 1 0 fun l => { l with missed := 3 }; let die : Nat := 1; let lane : Nat := 0; let k : RxMarker := { bytes := List.replicate 32 0, bip := 3 }; (UpDie s die) ∧ (lane < 8) ∧ (s.hawserLane die lane = true) ∧ (s.rx die lane = 5 ∨ s.rx die lane = 6) ∧ (3 < patternErrors k.bytes)) :=
  ⟨upDie_of (by decide +kernel), by decide +kernel⟩

theorem wit_markerLeaves :
    (let s : State := (L 0 6 1).setLane 1 0 fun l => { l with annLeft := 1, preset := 3 }; let die : Nat := 1; let lane : Nat := 0; let a : State := s.enterCycle 1 0; (UpDie s die) ∧ (lane < 8) ∧ (s.hawserLane die lane = true) ∧ (s.tx die lane = 1) ∧ ((s.lane die lane).feLoop = false) ∧ (a = s.enterCycle die lane)) :=
  ⟨upDie_of (by decide +kernel), by decide +kernel⟩

theorem wit_lockLoses :
    (let s : State := (((L 0 6 1).put 1 (Ob.lane_peer + 0) (peerWord mk)).setPort 16 fun t => { t with inService := true, rxOkIn := some 15 }); let die : Nat := 1; let lane : Nat := 0; let missed : Nat := 4; (UpDie s die) ∧ (lane < 8) ∧ (s.rx die lane = 5 ∨ s.rx die lane = 6) ∧ (4 ≤ missed)) ∧
    (let s : State := (((L 0 6 1).put 1 (Ob.lane_peer + 0) (peerWord mk)).setPort 16 fun t => { t with inService := true, rxOkIn := some 15 }); let die : Nat := 1; let lane : Nat := 0; let missed : Nat := 3; (UpDie s die) ∧ (lane < 8) ∧ (s.rx die lane = 5 ∨ s.rx die lane = 6) ∧ (missed < 4)) :=
  ⟨⟨upDie_of (by decide +kernel), by decide +kernel⟩,
   ⟨upDie_of (by decide +kernel), by decide +kernel⟩⟩

theorem wit_signalLoses :
    (let s : State := (((L 0 6 1).put 1 (Ob.lane_peer + 0) (peerWord mk)).setPort 16 fun t => { t with inService := true, rxOkIn := some 15 }).setLane 1 0 fun l => { l with annSeen := true }; let die : Nat := 1; let lane : Nat := 0; let ns : Nat := 1000; (LaneOn s die lane) ∧ (lane < 8) ∧ (s.testing die lane = false) ∧ (2 ≤ s.rx die lane) ∧ (s.rx die lane ≤ 6) ∧ (1000 ≤ ns) ∧ ((s.lane die lane).annSeen = true)) ∧
    (let s : State := (((L 0 6 1).put 1 (Ob.lane_peer + 0) (peerWord mk)).setPort 16 fun t => { t with inService := true, rxOkIn := some 15 }); let die : Nat := 1; let lane : Nat := 0; let ns : Nat := 1000; (LaneOn s die lane) ∧ (lane < 8) ∧ (s.testing die lane = false) ∧ (2 ≤ s.rx die lane) ∧ (s.rx die lane ≤ 6) ∧ (1000 ≤ ns) ∧ ((s.lane die lane).annSeen = false)) ∧
    (let s : State := (((L 0 6 1).put 1 (Ob.lane_peer + 0) (peerWord mk)).setPort 16 fun t => { t with inService := true, rxOkIn := some 15 }); let die : Nat := 1; let lane : Nat := 0; let ns : Nat := 999; (LaneOn s die lane) ∧ (lane < 8) ∧ (s.testing die lane = false) ∧ (2 ≤ s.rx die lane) ∧ (s.rx die lane ≤ 6) ∧ (ns < 1000)) :=
  ⟨⟨laneOn_of (by decide +kernel), by decide +kernel⟩,
   ⟨laneOn_of (by decide +kernel), by decide +kernel⟩,
   ⟨laneOn_of (by decide +kernel), by decide +kernel⟩⟩

theorem wit_codewordLost :
    (let s : State := L 0 5 1; let die : Nat := 1; let lane : Nat := 0; (UpDie s die) ∧ (die < s.dies) ∧ (lane < s.laneCount) ∧ (s.on die (Ob.lane_enable + lane) = true) ∧ (s.int die (Ob.lane_fec_uncorrected + lane) < 4294967295)) :=
  ⟨upDie_of (by decide +kernel), by decide +kernel⟩

theorem wit_laneDrops :
    (let s : State := { (((((L 0 6 1).put 1 Ob.lane_group_cfg 2).setRx 1 1 6).put 1 (Ob.lane_enable + 1) 1).setPort 16 fun t => { t with inService := true, rxOkIn := some 15 }).setLane 1 0 (fun l => { l with ucw := List.replicate 1000 8 }) with now := 10 }.setLane 1 1 fun l => { l with pos := 1 }; let die : Nat := 1; let lane : Nat := 0; (UpDie s die) ∧ (lane < 8) ∧ (s.rx die lane = 6) ∧ ((s.lane die lane).dropped = false) ∧ (s.nat die Ob.lane_drop_ucw ≤ ((s.lane die lane).ucw.filter fun t => s.now ≤ t + 10000000).length) ∧ (clearMask (s.rxMap (s.portOf die lane)) (2 ^ ((s.lane die lane).pos % 4)) ≠ 0)) :=
  ⟨upDie_of (by decide +kernel), by decide +kernel⟩

theorem wit_laneReturns :
    (let s : State := (L 0 6 1).setLane 1 0 fun l => { l with dropped := true, clean := 1024, ucw := [1] }; let die : Nat := 1; let lane : Nat := 0; (UpDie s die) ∧ (lane < 8) ∧ ((s.lane die lane).dropped = true) ∧ (1024 ≤ (s.lane die lane).clean)) :=
  ⟨upDie_of (by decide +kernel), by decide +kernel⟩

theorem wit_serReads :
    (let s : State := L 0 6 1; let die : Nat := 1; let lane : Nat := 0; let corrected : Nat := 90; (UpDie s die) ∧ (die < s.dies) ∧ (lane < s.laneCount) ∧ (min (corrected * 8 / 45) 4294967295 ≤ s.nat die Ob.lane_degrade_ser) ∧ (s.int die (Ob.lane_fec_corrected + lane) + corrected ≤ 18446744073709551615)) :=
  ⟨upDie_of (by decide +kernel), by decide +kernel⟩

theorem wit_serDegrades :
    (let s : State := L 0 6 1; let die : Nat := 1; let lane : Nat := 0; let corrected : Nat := 900000000; (UpDie s die) ∧ (die < s.dies) ∧ (lane < s.laneCount) ∧ (lane < 8) ∧ (s.nat die Ob.lane_degrade_ser < min (corrected * 8 / 45) 4294967295) ∧ (s.on die (Ob.lane_flags + lane) 1 = false)) :=
  ⟨upDie_of (by decide +kernel), by decide +kernel⟩

theorem wit_degradedReports :
    (let s : State := { ((L 0 6 1).put 1 Ob.lane_flags 2).setLane 1 0 (fun l => { l with degradedAt := some 1 }) with now := 10000000001 }; let die : Nat := 1; let lane : Nat := 0; let t0 : Nat := 1; (UpDie s die) ∧ ((s.lane die lane).degradedAt = some t0) ∧ (s.on die (Ob.lane_flags + lane) 1 = true) ∧ ((s.lane die lane).reported = false) ∧ (t0 + 10000000000 ≤ s.now)) ∧
    (let s : State := { ((L 0 6 1).put 1 Ob.lane_flags 2).setLane 1 0 (fun l => { l with degradedAt := some 1 }) with now := 10000000000 }; let die : Nat := 1; let lane : Nat := 0; let t0 : Nat := 1; (UpDie s die) ∧ ((s.lane die lane).degradedAt = some t0) ∧ (s.on die (Ob.lane_flags + lane) 1 = true) ∧ ((s.lane die lane).reported = false) ∧ (s.now < t0 + 10000000000)) :=
  ⟨⟨upDie_of (by decide +kernel), by decide +kernel⟩,
   ⟨upDie_of (by decide +kernel), by decide +kernel⟩⟩

theorem wit_txSleepSets :
    (let s : State := L 2 6 1; let m : Msg := W (Ob.lane_sleep + 2) 1 [1]; let d : ObjDef := D (Ob.lane_sleep + 2); let die : Nat := 1; let lane : Nat := 2; let v : Nat := 1; (LaneWrite s m d die lane Ob.lane_sleep v) ∧ (bit (leAt m.payload 0 1) 0 = true) ∧ (bit v 0 = true) ∧ (bit v 1 = false) ∧ ((s.arrived m).underTest die lane = false) ∧ ((s.arrived m).tx die lane = 1) ∧ ((s.arrived m).nat die (Ob.lane_sleep + lane) = 0)) :=
  ⟨laneWrite_of (by decide +kernel), by decide +kernel⟩

theorem wit_txSleepClears :
    (let s : State := (L 2 6 2).put 1 (Ob.lane_sleep + 2) 1; let m : Msg := W (Ob.lane_sleep + 2) 1 [0]; let d : ObjDef := D (Ob.lane_sleep + 2); let die : Nat := 1; let lane : Nat := 2; let v : Nat := 0; (LaneWrite s m d die lane Ob.lane_sleep v) ∧ (bit (leAt m.payload 0 1) 0 = false) ∧ (bit v 0 = false) ∧ (bit v 1 = false) ∧ ((s.arrived m).underTest die lane = false) ∧ ((s.arrived m).nat die (Ob.lane_sleep + lane) = 1)) :=
  ⟨laneWrite_of (by decide +kernel), by decide +kernel⟩

theorem wit_rxSleepSets :
    (let s : State := (((L 0 6 1).put 1 (Ob.lane_peer + 0) (peerWord mk)).setPort 16 fun t => { t with inService := true, rxOkIn := some 15 }); let m : Msg := W (Ob.lane_sleep + 0) 1 [2]; let d : ObjDef := D (Ob.lane_sleep + 0); let die : Nat := 1; let lane : Nat := 0; let v : Nat := 2; (LaneWrite s m d die lane Ob.lane_sleep v) ∧ (bit (leAt m.payload 0 1) 1 = true) ∧ (bit v 0 = false) ∧ (bit v 1 = true) ∧ ((s.arrived m).underTest die lane = false) ∧ ((s.arrived m).nat die (Ob.lane_sleep + lane) = 0)) :=
  ⟨laneWrite_of (by decide +kernel), by decide +kernel⟩

theorem wit_rxSleepClears :
    (let s : State := (L 2 7 1).put 1 (Ob.lane_sleep + 2) 2; let m : Msg := W (Ob.lane_sleep + 2) 1 [0]; let d : ObjDef := D (Ob.lane_sleep + 2); let die : Nat := 1; let lane : Nat := 2; let v : Nat := 0; (LaneWrite s m d die lane Ob.lane_sleep v) ∧ (bit (leAt m.payload 0 1) 1 = false) ∧ (bit v 0 = false) ∧ (bit v 1 = false) ∧ ((s.arrived m).underTest die lane = false) ∧ ((s.arrived m).nat die (Ob.lane_sleep + lane) = 2) ∧ ((s.arrived m).rx die lane = 7)) :=
  ⟨laneWrite_of (by decide +kernel), by decide +kernel⟩

theorem wit_loopsBegin :
    (let s : State := L 2 6 1; let m : Msg := W (Ob.lane_loop + 2) 1 [1]; let d : ObjDef := D (Ob.lane_loop + 2); let die : Nat := 1; let lane : Nat := 2; let v : Nat := 1; (LaneWrite s m d die lane Ob.lane_loop v) ∧ (leAt m.payload 0 1 = v) ∧ (v = 1)) ∧
    (let s : State := L 2 6 1; let m : Msg := W (Ob.lane_loop + 2) 1 [2]; let d : ObjDef := D (Ob.lane_loop + 2); let die : Nat := 1; let lane : Nat := 2; let v : Nat := 2; (LaneWrite s m d die lane Ob.lane_loop v) ∧ (leAt m.payload 0 1 = v) ∧ (v = 2)) ∧
    (let s : State := L 2 6 1; let m : Msg := W (Ob.lane_loop + 2) 1 [3]; let d : ObjDef := D (Ob.lane_loop + 2); let die : Nat := 1; let lane : Nat := 2; let v : Nat := 3; (LaneWrite s m d die lane Ob.lane_loop v) ∧ (leAt m.payload 0 1 = v) ∧ (v = 3)) :=
  ⟨⟨laneWrite_of (by decide +kernel), by decide +kernel⟩,
   ⟨laneWrite_of (by decide +kernel), by decide +kernel⟩,
   ⟨laneWrite_of (by decide +kernel), by decide +kernel⟩⟩

theorem wit_loopEnds :
    (let s : State := (L 2 8 1).put 1 (Ob.lane_loop + 2) 1; let m : Msg := W (Ob.lane_loop + 2) 1 [0]; let d : ObjDef := D (Ob.lane_loop + 2); let die : Nat := 1; let lane : Nat := 2; (LaneWrite s m d die lane Ob.lane_loop 0) ∧ (leAt m.payload 0 1 = 0) ∧ ((s.arrived m).rx die lane = 8) ∧ ((s.arrived m).nat die (Ob.prbs_gen + lane) = 0) ∧ ((s.arrived m).nat die (Ob.lane_sleep + lane) = 0)) :=
  ⟨laneWrite_of (by decide +kernel), by decide +kernel⟩

theorem wit_patternSent :
    (let s : State := L 2 6 1; let m : Msg := W (Ob.prbs_gen + 2) 1 [3]; let d : ObjDef := D (Ob.prbs_gen + 2); let die : Nat := 1; let lane : Nat := 2; let v : Nat := 3; (LaneWrite s m d die lane Ob.prbs_gen v) ∧ (v ≠ 0)) :=
  ⟨laneWrite_of (by decide +kernel), by decide +kernel⟩

theorem wit_checkerSet :
    (let s : State := ((L 2 6 1).put 1 (Ob.prbs_bits + 2) 44).put 1 (Ob.prbs_errors + 2) 4; let m : Msg := W (Ob.prbs_chk + 2) 1 [3]; let d : ObjDef := D (Ob.prbs_chk + 2); let die : Nat := 1; let lane : Nat := 2; let v : Nat := 3; LaneWrite s m d die lane Ob.prbs_chk v) :=
  laneWrite_of (by decide +kernel)

theorem wit_farEndRefused :
    (let s : State := ((L 2 8 1).put 1 (Ob.lane_loop + 2) 3).setLane 1 2 fun l => { l with noSrc := 16 }; let die : Nat := 1; let lane : Nat := 2; (UpDie s die) ∧ (lane < 8) ∧ (s.nat die (Ob.lane_loop + lane) = 3) ∧ ((s.lane die lane).feUp = false) ∧ (16 ≤ (s.lane die lane).noSrc)) ∧
    (let s : State := ((L 2 8 1).put 1 (Ob.lane_loop + 2) 3).setLane 1 2 fun l => { l with noSrc := 15 }; let die : Nat := 1; let lane : Nat := 2; (UpDie s die) ∧ (lane < 8) ∧ (s.nat die (Ob.lane_loop + lane) = 3) ∧ ((s.lane die lane).feUp = false) ∧ ((s.lane die lane).noSrc < 16)) :=
  ⟨⟨upDie_of (by decide +kernel), by decide +kernel⟩,
   ⟨upDie_of (by decide +kernel), by decide +kernel⟩⟩

theorem wit_checkerSyncs :
    (let s : State := ((L 2 8 1).put 1 (Ob.prbs_chk + 2) 3).put 1 (Ob.prbs_sync + 2) 1; let die : Nat := 1; let lane : Nat := 2; let n : Nat := 64; let b : Nat := 10; let e : Nat := 3; (UpDie s die) ∧ (lane < 8) ∧ (s.nat die (Ob.prbs_chk + lane) ≠ 0) ∧ (s.nat die (Ob.prbs_sync + lane) = 1) ∧ (64 ≤ n) ∧ (s.int die (Ob.prbs_bits + lane) + b ≤ 18446744073709551615) ∧ (s.int die (Ob.prbs_errors + lane) + e ≤ 18446744073709551615)) ∧
    (let s : State := ((L 2 8 1).put 1 (Ob.prbs_chk + 2) 3).put 1 (Ob.prbs_sync + 2) 1; let die : Nat := 1; let lane : Nat := 2; let n : Nat := 63; (UpDie s die) ∧ (lane < 8) ∧ (s.nat die (Ob.prbs_chk + lane) ≠ 0) ∧ (s.nat die (Ob.prbs_sync + lane) = 1) ∧ (n < 64)) :=
  ⟨⟨upDie_of (by decide +kernel), by decide +kernel⟩,
   ⟨upDie_of (by decide +kernel), by decide +kernel⟩⟩

theorem wit_checkerResyncs :
    (let s : State := ((L 2 8 1).put 1 (Ob.prbs_chk + 2) 3).put 1 (Ob.prbs_sync + 2) 2; let die : Nat := 1; let lane : Nat := 2; (UpDie s die) ∧ (lane < 8) ∧ (s.nat die (Ob.prbs_sync + lane) = 2)) :=
  ⟨upDie_of (by decide +kernel), by decide +kernel⟩

theorem wit_pairSwitches :
    (let s : State := s0.put 1 Ob.lane_peer 9; let m : Msg := W Ob.lane_pair_mode 1 [1]; let d : ObjDef := D Ob.lane_pair_mode; let die : Nat := 1; let v : Nat := 1; (WritesOne s m d die) ∧ (m.key = Ob.lane_pair_mode) ∧ (d.acc = .rwp) ∧ ((s.arrived m).clampVal die m.key d (decodeVal d.ty m.payload) = (v : Int)) ∧ (s.big = true) ∧ ((s.arrived m).nat die Ob.lane_pair_mode ≠ v)) :=
  ⟨writesOne_of (by decide +kernel), by decide +kernel⟩

theorem wit_ethLinks :
    (let s : State := (s0.put 1 Ob.lane_pair_mode 1).put 1 Ob.eth_link_state 2; let die : Nat := 1; (UpDie s die) ∧ (s.ethMode die = true) ∧ (s.nat die Ob.eth_link_state = 1 ∨ s.nat die Ob.eth_link_state = 2)) :=
  ⟨upDie_of (by decide +kernel), by decide +kernel⟩

theorem wit_ethFrames :
    (let s : State := (s0.put 1 Ob.lane_pair_mode 1).put 1 Ob.eth_link_state 3; let die : Nat := 1; let len : Nat := 64; let tags : Nat := 1; (UpDie s die) ∧ (s.ethMode die = true) ∧ (s.nat die Ob.eth_link_state = 3) ∧ (64 ≤ len) ∧ (len ≤ 9216) ∧ (tags ≤ 1)) ∧
    (let s : State := (s0.put 1 Ob.lane_pair_mode 1).put 1 Ob.eth_link_state 3; let die : Nat := 1; let len : Nat := 64; let tags : Nat := 2; (UpDie s die) ∧ (s.ethMode die = true) ∧ (s.nat die Ob.eth_link_state = 3) ∧ (len < 64 ∨ 9216 < len ∨ 1 < tags)) :=
  ⟨⟨upDie_of (by decide +kernel), by decide +kernel⟩,
   ⟨upDie_of (by decide +kernel), by decide +kernel⟩⟩

end C04

namespace C05

/-- a head (node 5) with chain ports 0 and 4 -/
def head1 : State := sp (s0.set Ob.role_active 1) [4]
def tileS : State := { tile with objs := smPut .dflt tile.objs Ob.splice_desc (bl spl), lay := { fine := 281474976710656 * 1000 } }
def Kn : Knot := { code := 0x101, subject := 5, detail := 3, severity := 2, window := 1000, count := 2, firstNode := 44, firstAt := 100, lastAt := 200, nodes := 16 }
def en (msg : Nat) : Enum := { msg := msg, pos := 3, head := 77, port := 4, depth := 9, seq := 6, argA := 44, argB := 500, argC := 0, argD := 0, taken := 2 ^ 77 }
def ec (msg node : Nat) : Cell := mkCell 2 1 node 0 (enumBytes (en msg))
def lone (s : State) : State := (s.set (Ob.lane_enable) 1).setRx 0 0 6
def fullPort (p : PortSt) (s : State) (k : Nat) : State := { s with ports := smPut {} s.ports k p }

theorem wit_idleFrames :
    (let s : State := lone tile; let p : Nat := 0; let lane : Nat := 0; let a : State := blockThrough s 0 0; (LoneLane s p lane) ∧ ((s.port p).framed = false) ∧ ((s.port p).lay = none) ∧ (a = blockThrough s p lane)) :=
  ⟨loneLane_of (by decide +kernel) (by decide +kernel), by decide +kernel⟩

theorem wit_blocksJoin :
    (let s : State := fullPort { inService := true, framed := true, cur := [{ blocks := [1,2], count := 3 }] } (lone tile) 0; let p : Nat := 0; let lane : Nat := 0; let a : State := blockThrough s 0 0; let x : Partial := { blocks := [1,2], count := 3 }; let bytes : List Byte := List.replicate 32 7; (LoneLane s p lane) ∧ ((s.port p).framed = true) ∧ ((s.port p).lay = none) ∧ ((s.port p).cur = [x]) ∧ (bytes.length = 32) ∧ (a = blockThrough s p lane) ∧ (x.count < 7)) ∧
    (let s : State := fullPort { inService := true, framed := true, cur := [{ blocks := List.replicate 224 3, count := 7 }] } (lone tile) 0; let p : Nat := 0; let lane : Nat := 0; let a : State := blockThrough s 0 0; let x : Partial := { blocks := List.replicate 224 3, count := 7 }; let bytes : List Byte := List.replicate 32 7; (LoneLane s p lane) ∧ ((s.port p).framed = true) ∧ ((s.port p).lay = none) ∧ ((s.port p).cur = [x]) ∧ (bytes.length = 32) ∧ (a = blockThrough s p lane) ∧ (7 ≤ x.count)) :=
  ⟨⟨loneLane_of (by decide +kernel) (by decide +kernel), by decide +kernel⟩,
   ⟨loneLane_of (by decide +kernel) (by decide +kernel), by decide +kernel⟩⟩

theorem wit_framingLost :
    (let s : State := fullPort { inService := true, framed := true } (lone tile) 0; let p : Nat := 0; let lane : Nat := 0; let bytes : List Byte := List.replicate 32 7; let a : State := blockThrough s 0 0; (LoneLane s p lane) ∧ ((s.port p).framed = true) ∧ ((s.port p).cur = []) ∧ ((s.port p).lay = none) ∧ (ctlOf bytes = none) ∧ (s.int (p / 16) (atPort Ob.cell_framing_losses p) < 4294967295) ∧ (p % 16 < 8) ∧ (a = blockThrough s p lane)) :=
  ⟨loneLane_of (by decide +kernel) (by decide +kernel), by decide +kernel⟩

theorem wit_cellForwards :
    (let s : State := tile; let a : State := s.cellArrives 0; let p : Nat := 0; let q : Nat := 4; let c : Cell := mkCell 4 0 44 0 [1]; (CellAt s p c) ∧ (c.cls = 3 ∨ c.cls = 4) ∧ (s.node ≠ some c.node) ∧ (a = s.cellArrives p) ∧ (a.isHead = false) ∧ (a.isChain p = true) ∧ (a.otherChain p = some q) ∧ (a.role q ≠ 2) ∧ (c.hops + 1 < 1023) ∧ (a.inService q = true ∨ a.wakes q = true) ∧ (((a.port q).fwd.filter fun d => d.cls = c.cls).length < 64)) ∧
    (let s : State := fullPort { inService := true, fwd := List.replicate 64 (mkCell 3 0 44 0 [2]) } tile 4; let a : State := s.cellArrives 0; let p : Nat := 0; let q : Nat := 4; let c : Cell := mkCell 3 0 44 0 [1]; (CellAt s p c) ∧ (c.cls = 3 ∨ c.cls = 4) ∧ (s.node ≠ some c.node) ∧ (a = s.cellArrives p) ∧ (a.isHead = false) ∧ (a.isChain p = true) ∧ (a.otherChain p = some q) ∧ (a.role q ≠ 2) ∧ (c.hops + 1 < 1023) ∧ (a.inService q = true ∨ a.wakes q = true) ∧ (64 ≤ ((a.port q).fwd.filter fun d => d.cls = c.cls).length)) ∧
    (let s : State := { tile with ports := (smPut {} tile.ports 0 {}) }; let a : State := s.cellArrives 4; let p : Nat := 4; let q : Nat := 0; let c : Cell := mkCell 4 0 44 0 [1]; (CellAt s p c) ∧ (c.cls = 3 ∨ c.cls = 4) ∧ (s.node ≠ some c.node) ∧ (a = s.cellArrives p) ∧ (a.isHead = false) ∧ (a.isChain p = true) ∧ (a.otherChain p = some q) ∧ (a.role q ≠ 2) ∧ (c.hops + 1 < 1023) ∧ (a.inService q = false) ∧ (a.wakes q = false)) ∧
    (let s : State := tile; let a : State := s.cellArrives 0; let p : Nat := 0; let q : Nat := 4; let c : Cell := Cell.sealed { mkCell 4 0 44 0 [1] with hops := 1022 } true; (CellAt s p c) ∧ (c.cls = 3 ∨ c.cls = 4) ∧ (s.node ≠ some c.node) ∧ (a = s.cellArrives p) ∧ (a.isHead = false) ∧ (a.isChain p = true) ∧ (a.otherChain p = some q) ∧ (a.role q ≠ 2) ∧ (1023 ≤ c.hops + 1)) :=
  ⟨⟨cellAt_of (by decide +kernel), by decide +kernel⟩,
   ⟨cellAt_of (by decide +kernel), by decide +kernel⟩,
   ⟨cellAt_of (by decide +kernel), by decide +kernel⟩,
   ⟨cellAt_of (by decide +kernel), by decide +kernel⟩⟩

theorem wit_ownCellLeaves :
    (let s : State := fullPort { inService := true, own := [mkCell 2 0 44 0 [1], mkCell 1 0 44 0 [2]] } tile 4; let p : Nat := 4; let n : Nat := 9; let c : Cell := mkCell 1 0 44 0 [2]; (Up s) ∧ (s.inService p = true) ∧ (s.role p ≠ 2) ∧ (lowest (s.port p).own = some c) ∧ (s.isHead = true ∨ (9 ≤ n ∧ (s.port p).stack = [] ∧ (s.port p).fwd = [] ∧ (s.port p).ready = []))) ∧
    (let s : State := fullPort { inService := true, own := [mkCell 2 0 44 0 [1], mkCell 1 0 44 0 [2]] } tile 4; let p : Nat := 4; let n : Nat := 8; let c : Cell := mkCell 1 0 44 0 [2]; (Up s) ∧ (s.inService p = true) ∧ (s.role p ≠ 2) ∧ (lowest (s.port p).own = some c) ∧ (s.isHead = false) ∧ (n < 9)) :=
  ⟨⟨up_of (by decide +kernel), by decide +kernel⟩,
   ⟨up_of (by decide +kernel), by decide +kernel⟩⟩

theorem wit_pixelTaken :
    (let s : State := tileS; let a : State := s.cellArrives 0; let p : Nat := 0; let c : Cell := mkCell 3 0 5 (2 ^ 29 * 1) [1, 2]; let r : RxFrame := (a.rxPlace (bits c.spec 12 10) (bits c.spec 32 29)).get!.1; let known : Bool := false; (CellAt s p c) ∧ (RegionCell a p c r known) ∧ (c.cls = 3) ∧ (c.kind = 0) ∧ (a = s.cellArrives p)) :=
  ⟨cellAt_of (by decide +kernel), regionCell_of (by decide +kernel), by decide +kernel⟩

theorem wit_pixelDropped :
    (let s : State := tile; let a : State := s.cellArrives 0; let p : Nat := 0; let c : Cell := mkCell 3 0 5 (2 ^ 10 * 7) [1, 2]; (CellAt s p c) ∧ (c.cls = 3) ∧ (c.kind = 0) ∧ (a = s.cellArrives p) ∧ (a.isHead = false) ∧ (a.isChain p = true) ∧ (a.node = some c.node) ∧ (a.rxPlace (bits c.spec 12 10) (bits c.spec 32 29) = none)) :=
  ⟨cellAt_of (by decide +kernel), by decide +kernel⟩

theorem wit_checkTaken :
    (let s : State := tileS; let a : State := s.cellArrives 0; let p : Nat := 0; let r : RxFrame := ((s.cellArrives 0).rxPlace 0 1).get!.1; let c : Cell := mkCell 3 1 5 (2 ^ 29 * 1) ([1,2,3,4,5,0,0,0] ++ layBytes r.at_.toNat); let known : Bool := false; (CellAt s p c) ∧ (RegionCell a p c r known) ∧ (c.cls = 3) ∧ (c.kind = 1) ∧ (a = s.cellArrives p) ∧ ((layAt c.payload 8 : Int) = r.at_)) :=
  ⟨cellAt_of (by decide +kernel), regionCell_of (by decide +kernel), by decide +kernel⟩

theorem wit_canvasKept :
    (let s : State := (head.set Ob.src_type 3).set Ob.src_import_region 0; let a : State := s.cellArrives 0; let p : Nat := 0; let k : Nat := 0; let c : Cell := mkCell 3 2 5 (2 ^ 29 * 1 + 2 ^ 13 * 5) [1, 2]; (CellAt s p c) ∧ (c.cls = 3) ∧ (c.kind = 2) ∧ (a = s.cellArrives p) ∧ (a.isHead = true) ∧ (a.node = some c.node) ∧ ((List.range a.sourceCount).filter (fun k => a.at_ Ob.src_type k = 3 && a.at_ Ob.src_import_region k = bits c.spec 9 0) = [k]) ∧ ((a.source k).imports = []) ∧ (bit c.spec 33 = false)) :=
  ⟨cellAt_of (by decide +kernel), by decide +kernel⟩

theorem wit_imageConsumed :
    (let s : State := tile; let p : Nat := 0; let c : Cell := mkCell 4 1 5 0 [1]; (CellAt s p c) ∧ (c.cls = 4) ∧ (c.kind = 1) ∧ (s.node = some c.node) ∧ ((s.cellArrives p).offChain p = false)) :=
  ⟨cellAt_of (by decide +kernel), by decide +kernel⟩

theorem wit_walkPasses :
    (let s : State := tile.set Ob.fwd_up_port 0xFF; let a : State := s.cellArrives 0; let p : Nat := 0; let q : Nat := 4; let n : Nat := 5; let c : Cell := ec 1 0; let e : Enum := en 1; (CellAt s p c) ∧ (c.cls = 2) ∧ (c.kind = 1) ∧ (e = enumParse c.payload) ∧ (e.msg = 1) ∧ (a = s.cellArrives p) ∧ (a.isHead = false) ∧ (s.role p = 0) ∧ (s.net.forget = false) ∧ (s.node = some n) ∧ (bit e.taken n = false) ∧ (e.pos < 255) ∧ ((a.pickDown p) = (some q, 0)) ∧ (p ≠ q)) :=
  ⟨cellAt_of (by decide +kernel), by decide +kernel⟩

theorem wit_walkEnds :
    (let s : State := head; let a : State := s.cellArrives 0; let p : Nat := 0; let c : Cell := ec 1 0; let e : Enum := en 1; (CellAt s p c) ∧ (c.cls = 2) ∧ (c.kind = 1) ∧ (e = enumParse c.payload) ∧ (e.msg = 1) ∧ (a = s.cellArrives p) ∧ (s.isHead = true)) :=
  ⟨cellAt_of (by decide +kernel), by decide +kernel⟩

theorem wit_reportJoins :
    (let s : State := { head with net := { walk := some { port := 4, seq := 6, startAt := 0, ids := [1] } } }; let p : Nat := 4; let c : Cell := ec 2 5; let e : Enum := en 2; let w : WalkSt := { port := 4, seq := 6, startAt := 0, ids := [1] }; (CellAt s p c) ∧ (c.cls = 2) ∧ (c.kind = 1) ∧ (e = enumParse c.payload) ∧ (e.msg = 2) ∧ (s.isHead = true) ∧ (s.node = some c.node) ∧ (s.net.walk = some w) ∧ (w.seq = e.seq) ∧ (w.port = e.port) ∧ (e.argA ≠ 0xFFFF) ∧ (w.ids.contains e.argA = false)) :=
  ⟨cellAt_of (by decide +kernel), by decide +kernel⟩

theorem wit_doneRecords :
    (let s : State := { head with net := { walk := some { port := 4, seq := 6, startAt := 0, ids := [1] } } }; let p : Nat := 4; let c : Cell := ec 3 5; let e : Enum := en 3; let w : WalkSt := { port := 4, seq := 6, startAt := 0, ids := [1] }; (CellAt s p c) ∧ (c.cls = 2) ∧ (c.kind = 1) ∧ (e = enumParse c.payload) ∧ (e.msg = 3) ∧ (s.isHead = true) ∧ (s.node = some c.node) ∧ (s.net.walk = some w) ∧ (w.seq = e.seq) ∧ (w.port = e.port) ∧ (s.net.queue = []) ∧ (s.pw Ob.red_head_state ≠ 3) ∧ (w.port ≠ s.pw Ob.red_ring_port)) :=
  ⟨cellAt_of (by decide +kernel), by decide +kernel⟩

theorem wit_walkFollows :
    (let s : State := fullPort { inService := true, walkDue := some 10 } { head with now := 10 } 4; let p : Nat := 4; let t0 : Nat := 10; (Up s) ∧ ((s.port p).walkDue = some t0) ∧ (s.inService p = true) ∧ (s.feeds p = true) ∧ (s.net.walk = none) ∧ (s.net.queue = []) ∧ (s.pw Ob.enum_id_first ≤ s.pw Ob.enum_id_last) ∧ (t0 ≤ s.now)) ∧
    (let s : State := fullPort { inService := true, walkDue := some 11 } { head with now := 10 } 4; let p : Nat := 4; let t0 : Nat := 11; (Up s) ∧ ((s.port p).walkDue = some t0) ∧ (s.inService p = true) ∧ (s.feeds p = true) ∧ (s.net.walk = none) ∧ (s.net.queue = []) ∧ (s.pw Ob.enum_id_first ≤ s.pw Ob.enum_id_last) ∧ (s.now < t0)) :=
  ⟨⟨up_of (by decide +kernel), by decide +kernel⟩,
   ⟨up_of (by decide +kernel), by decide +kernel⟩⟩

theorem wit_enumStarts :
    (let s : State := head1; let m : Msg := W Ob.enum_start 0 [1]; let d : ObjDef := D Ob.enum_start; let p : Nat := 4; (WritesOne s m d 0) ∧ (m.key = Ob.enum_start) ∧ (d.acc = .wo) ∧ ((s.arrived m).clampVal 0 m.key d (decodeVal d.ty m.payload) = 1) ∧ (s.isHead = true) ∧ ((s.arrived m).walkPorts = [p]) ∧ (s.net.walk = none) ∧ (s.net.queue = []) ∧ (s.pw Ob.enum_id_first ≤ s.pw Ob.enum_id_last)) ∧
    (let s : State := tile; let m : Msg := W Ob.enum_start 0 [1]; let d : ObjDef := D Ob.enum_start; (WritesOne s m d 0) ∧ (m.key = Ob.enum_start) ∧ (d.acc = .wo) ∧ ((s.arrived m).clampVal 0 m.key d (decodeVal d.ty m.payload) = 1) ∧ (s.isHead = false)) :=
  ⟨⟨writesOne_of (by decide +kernel), by decide +kernel⟩,
   ⟨writesOne_of (by decide +kernel), by decide +kernel⟩⟩

theorem wit_enumRepeats :
    (let s : State := { head1 with now := 900000000000 }; let p : Nat := 4; (Up s) ∧ (s.isHead = true) ∧ (s.walkPorts = [p]) ∧ (s.net.walk = none) ∧ (s.net.queue = []) ∧ (s.pw Ob.enum_id_first ≤ s.pw Ob.enum_id_last) ∧ (s.pw Ob.enum_period_s ≠ 0) ∧ (s.net.periodAt + s.pw Ob.enum_period_s * 1000000000 ≤ s.now)) ∧
    (let s : State := { head1.set Ob.enum_period_s 0 with now := 900000000000 }; let p : Nat := 4; (Up s) ∧ (s.isHead = true) ∧ (s.walkPorts = [p]) ∧ (s.net.walk = none) ∧ (s.net.queue = []) ∧ (s.pw Ob.enum_id_first ≤ s.pw Ob.enum_id_last) ∧ (s.pw Ob.enum_period_s = 0)) :=
  ⟨⟨up_of (by decide +kernel), by decide +kernel⟩,
   ⟨up_of (by decide +kernel), by decide +kernel⟩⟩

theorem wit_enumTimesOut :
    (let s : State := { head with now := 50000000, net := { walk := some { port := 4, seq := 6, startAt := 0, ids := [1] } } }; let w : WalkSt := { port := 4, seq := 6, startAt := 0, ids := [1] }; (Up s) ∧ (s.net.walk = some w) ∧ (s.net.queue = []) ∧ (w.startAt + 50000000 ≤ s.now)) ∧
    (let s : State := { head with now := 49999999, net := { walk := some { port := 4, seq := 6, startAt := 0, ids := [1] } } }; let w : WalkSt := { port := 4, seq := 6, startAt := 0, ids := [1] }; (Up s) ∧ (s.net.walk = some w) ∧ (s.net.queue = []) ∧ (s.now < w.startAt + 50000000)) :=
  ⟨⟨up_of (by decide +kernel), by decide +kernel⟩,
   ⟨up_of (by decide +kernel), by decide +kernel⟩⟩

theorem wit_idForgotten :
    (let s : State := tile; let m : Msg := W Ob.enum_id_forget 0 [1]; let d : ObjDef := D Ob.enum_id_forget; (WritesOne s m d 0) ∧ (m.key = Ob.enum_id_forget) ∧ (d.acc = .wo) ∧ ((s.arrived m).clampVal 0 m.key d (decodeVal d.ty m.payload) = 1)) :=
  ⟨writesOne_of (by decide +kernel), by decide +kernel⟩

theorem wit_routeSent :
    (let s : State := { head.set (Ob.port_role + 4) 1 with enums := [(0, [1, 2])] }; (Up s) ∧ (s.isHead = true) ∧ (s.node.isSome = true) ∧ (s.pw Ob.enum_id_first ≤ s.pw Ob.enum_id_last) ∧ (s.net.routeNodes ≠ s.ownNodes ∨ s.due s.net.routeAt 100000000 = true)) :=
  ⟨up_of (by decide +kernel), by decide +kernel⟩

theorem wit_routeKept :
    (let s : State := { head.set (Ob.port_role + 4) 1 with net := { routes := [{ origin := 8, link := 0, hops := 2, seq := 1, nodes := 2 ^ 44, lastAt := 0 }] } }; let p : Nat := 4; let c : Cell := mkCell 2 2 9 0 (routeBytes 9 33 2 512); (CellAt s p c) ∧ (c.cls = 2) ∧ (c.kind = 2) ∧ (s.isHead = true) ∧ (s.role p = 1) ∧ (∀ r, r ∈ s.net.routes → r.origin ≠ leAt c.payload 0 2) ∧ (s.node ≠ some (leAt c.payload 0 2))) ∧
    (let s : State := { head.set (Ob.port_role + 4) 1 with net := { routes := [{ origin := 8, link := 0, hops := 2, seq := 1, nodes := 2 ^ 44, lastAt := 0 }] } }; let p : Nat := 4; let c : Cell := mkCell 2 2 9 0 (routeBytes 5 33 2 512); (CellAt s p c) ∧ (c.cls = 2) ∧ (c.kind = 2) ∧ (s.isHead = true) ∧ (s.role p = 1) ∧ (s.node = some (leAt c.payload 0 2))) :=
  ⟨⟨cellAt_of (by decide +kernel), by decide +kernel⟩,
   ⟨cellAt_of (by decide +kernel), by decide +kernel⟩⟩

theorem wit_routesExpire :
    (let s : State := { head with now := 350000000, net := { routes := [{ origin := 8, link := 0, hops := 2, seq := 1, nodes := 2 ^ 44, lastAt := 0 }, { origin := 9, link := 0, hops := 2, seq := 1, nodes := 2 ^ 44, lastAt := 1 }] } }; Up s) :=
  up_of (by decide +kernel)

theorem wit_conflictFlags :
    (let s : State := { head with now := 3000000000, enums := [(0, [7])], net := { routes := [{ origin := 8, link := 0, hops := 2, seq := 1, nodes := 2 ^ 7, lastAt := 0, held := [(0, 2 ^ 7)] }] } }; (Up s) ∧ (s.isHead = true) ∧ (∃ r, r ∈ s.net.routes ∧ ∃ e, e ∈ r.held ∧ e.1 + 3000000000 ≤ s.now ∧ e.2 &&& s.enumSet ≠ 0)) ∧
    (let s : State := { head with now := 3000000000, enums := [(0, [7])], net := { routes := [{ origin := 8, link := 0, hops := 2, seq := 1, nodes := 2 ^ 7, lastAt := 0, held := [(1, 2 ^ 7)] }] } }; (Up s) ∧ (s.isHead = true) ∧ (∀ r, r ∈ s.net.routes → ∀ e, e ∈ r.held → e.2 &&& s.enumSet ≠ 0 → s.now < e.1 + 3000000000)) :=
  ⟨⟨up_of (by decide +kernel), by decide +kernel⟩,
   ⟨up_of (by decide +kernel), by decide +kernel⟩⟩

theorem wit_knotJoins :
    (let s : State := { tile with knots := [{ Kn with count := 65534, nodes := 64 }] }; let a : State := s.cellArrives 0; let p : Nat := 0; let c : Cell := mkCell 1 0 9 0 (knotBytes Kn); let k : Knot := Kn; (CellAt s p c) ∧ (c.cls = 1) ∧ (c.kind = 0) ∧ (k = knotParse c.payload) ∧ (a = s.cellArrives p) ∧ (a.offChain p = false) ∧ (a.layNow < a.flushTime k.window) ∧ (s.knots.any (fun e => e.sameAs k) = true)) ∧
    (let s : State := { tile with knots := [{ Kn with count := 65534, nodes := 64, window := 1001 }] }; let a : State := s.cellArrives 0; let p : Nat := 0; let c : Cell := mkCell 1 0 9 0 (knotBytes Kn); let k : Knot := Kn; (CellAt s p c) ∧ (c.cls = 1) ∧ (c.kind = 0) ∧ (k = knotParse c.payload) ∧ (a = s.cellArrives p) ∧ (a.offChain p = false) ∧ (a.layNow < a.flushTime k.window) ∧ (s.knots.any (fun e => e.sameAs k) = false) ∧ (s.knots.length < 128)) :=
  ⟨⟨cellAt_of (by decide +kernel), by decide +kernel⟩,
   ⟨cellAt_of (by decide +kernel), by decide +kernel⟩⟩

theorem wit_knotsFlush :
    (let s : State := { tile with knots := [Kn, { Kn with window := 9000000 }], lay := { fine := 281474976710656 * 100000000000000 } }; (Up s) ∧ (s.isSink = false) ∧ (s.knotPort.isSome = true)) :=
  ⟨up_of (by decide +kernel), by decide +kernel⟩

theorem wit_knotDelivered :
    (let s : State := { head.set Ob.event_dest 99 with knots := [Kn], lay := { fine := 281474976710656 * 100000000000000 } }; let k : Knot := Kn; (Up s) ∧ (s.isSink = true) ∧ (s.knots = [k]) ∧ (s.flushTime k.window ≤ s.layNow)) :=
  ⟨up_of (by decide +kernel), by decide +kernel⟩

theorem wit_knotsAcked :
    (let s : State := { head with knotHold := true, spi := { hstat := 5 } }; let m : Msg := W Ob.knot_ack 0 [1]; let d : ObjDef := D Ob.knot_ack; (WritesOne s m d 0) ∧ (m.key = Ob.knot_ack) ∧ (d.acc = .wo) ∧ ((s.arrived m).clampVal 0 m.key d (decodeVal d.ty m.payload) = 1)) :=
  ⟨writesOne_of (by decide +kernel), by decide +kernel⟩

end C05

namespace C06

theorem wit_sendStarts :
    (let s : State := hd 70; let frame : Nat := 5; let view : Nat := 0; let v : Vf := vfs s 5 0; (Up s) ∧ (s.composes = true) ∧ (s.findVf frame view = some v) ∧ (s.reached (s.sendStartOf v) = true) ∧ (v.dark = false) ∧ (∀ a, s.comp.lastAt = some a → a < v.at_) ∧ (s.red.sendFrom ≤ s.sendStartOf v) ∧ (s.aliveList.all s.dieBusy = false) ∧ (s.corrix.capply = none)) ∧
    (let s : State := hd 20; let frame : Nat := 5; let view : Nat := 0; let v : Vf := vfs s 5 0; (Up s) ∧ (s.composes = true) ∧ (s.findVf frame view = some v) ∧ (s.reached (s.sendStartOf v) = false)) :=
  ⟨⟨up_of (by decide +kernel), by decide +kernel⟩,
   ⟨up_of (by decide +kernel), by decide +kernel⟩⟩

theorem wit_applyDue :
    (let s : State := { tile with lay := { fine := ns 80000000 }, corrix := { capply := some (0, [(0x400000, .num 5)]) } }; let frame : Nat := 5; let view : Nat := 0; let v : Vf := vfs s 5 0; let f : Int := 0; let top : SMap Value := [(0x400000, .num 5)]; (Up s) ∧ (s.composes = false) ∧ (s.findVf frame view = some v) ∧ (s.reached (s.sendStartOf v) = true) ∧ (s.corrix.capply = some (f, top)) ∧ (f ≤ v.at_)) ∧
    (let s : State := { tile with lay := { fine := ns 80000000 }, corrix := { capply := some (10 ^ 15, [(0x400000, .num 5)]) } }; let frame : Nat := 5; let view : Nat := 0; let v : Vf := vfs s 5 0; let f : Int := 10 ^ 15; let top : SMap Value := [(0x400000, .num 5)]; (Up s) ∧ (s.composes = false) ∧ (s.findVf frame view = some v) ∧ (s.reached (s.sendStartOf v) = true) ∧ (s.corrix.capply = some (f, top)) ∧ (v.at_ < f)) :=
  ⟨⟨up_of (by decide +kernel), by decide +kernel⟩,
   ⟨up_of (by decide +kernel), by decide +kernel⟩⟩

theorem wit_descriptorPosted :
    (let s : State := { head with comp := { segs := [seg0] } }; let node : Nat := 44; let band : Nat := 2; let g : SegSt := seg0; let r : Nat := 44 * 1024 + 2; let die : Nat := s.packDie node; (Up s) ∧ (r = node * 1024 + band) ∧ (die = s.packDie node) ∧ (s.comp.segs.find? (fun g => decide (g.ring = r) && !g.posted) = some g) ∧ (bit (s.slotDesc r (s.ring r).tail) 0 = false) ∧ ((smGet [] s.launch.cache die).length + (smGet [] s.launch.ready die).length < 8192)) ∧
    (let s : State := { (head.putSlot 45058 0 5) with comp := { segs := [seg0] } }; let node : Nat := 44; let band : Nat := 2; let g : SegSt := seg0; let r : Nat := 44 * 1024 + 2; let die : Nat := s.packDie node; (Up s) ∧ (r = node * 1024 + band) ∧ (die = s.packDie node) ∧ (s.comp.segs.find? (fun g => decide (g.ring = r) && !g.posted) = some g) ∧ (bit (s.slotDesc r (s.ring r).tail) 0 = true)) :=
  ⟨⟨up_of (by decide +kernel), by decide +kernel⟩,
   ⟨up_of (by decide +kernel), by decide +kernel⟩⟩

theorem wit_segmentWritten :
    (let s : State := let h := blob (((head.set (atIndex Ob.dest_enable 44) 1).set (atIndex Ob.dest_bands 44) 3).set (atIndex Ob.dest_port 44) 0) 0 (atIndex Ob.dest_splice 44) spl; { h with comp := { works := [{ at_ := 1000000, frame := 5, view := 0, objs := h.objs, src := [], px := (List.range 8).map fun d => (d, 10 ^ 9) }] } }; let node : Nat := 44; let band : Nat := 0; let frame : Nat := 5; let view : Nat := 0; let w : Work := s.comp.works.head!; let d : Splice := s.destSplice w 44; let done : Nat := 0; let total : Nat := bandBytes d band; let n : Nat := 48; let die : Nat := s.packDie node; let a := (s.poolPlace die n).get!; (Up s) ∧ (s.comp.works.find? (fun w => decide (w.frame = frame) && decide (w.view = view)) = some w) ∧ (s.dueExports w node band = []) ∧ (({ s with objs := w.objs } : State).at_ Ob.dest_enable node = 1) ∧ (d = s.destSplice w node) ∧ (done = smGet 0 (s.packOf node w.at_).done band) ∧ (total = bandBytes d band) ∧ (n = min (({ s with objs := w.objs } : State).pw Ob.compose_seg_cells * 244) (total - done)) ∧ (spliceUsable d = true) ∧ (band < ({ s with objs := w.objs } : State).at_ Ob.dest_bands node) ∧ (band < spliceBands d) ∧ (done < total) ∧ (s.bandReady w d band done n = true) ∧ (die = s.packDie node) ∧ (s.poolPlace die n = some a)) ∧
    (let s : State := let h := blob (((head.set (atIndex Ob.dest_enable 44) 1).set (atIndex Ob.dest_bands 44) 3).set (atIndex Ob.dest_port 44) 0) 0 (atIndex Ob.dest_splice 44) spl; { h with comp := { segs := [{ ring := 45057, desc := mkDesc (head.poolSpan 0).2 1 2 5 40 + (head.poolSpan 0).1 / 32 * 2 ^ 67 }], works := [{ at_ := 1000000, frame := 5, view := 0, objs := h.objs, src := [], px := (List.range 8).map fun d => (d, 10 ^ 9) }] } }; let node : Nat := 44; let band : Nat := 0; let frame : Nat := 5; let view : Nat := 0; let w : Work := s.comp.works.head!; let d : Splice := s.destSplice w 44; let done : Nat := 0; let total : Nat := bandBytes d band; let n : Nat := 48; let die : Nat := s.packDie node; (Up s) ∧ (s.comp.works.find? (fun w => decide (w.frame = frame) && decide (w.view = view)) = some w) ∧ (s.dueExports w node band = []) ∧ (({ s with objs := w.objs } : State).at_ Ob.dest_enable node = 1) ∧ (d = s.destSplice w node) ∧ (done = smGet 0 (s.packOf node w.at_).done band) ∧ (total = bandBytes d band) ∧ (n = min (({ s with objs := w.objs } : State).pw Ob.compose_seg_cells * 244) (total - done)) ∧ (spliceUsable d = true) ∧ (band < ({ s with objs := w.objs } : State).at_ Ob.dest_bands node) ∧ (band < spliceBands d) ∧ (done < total) ∧ (s.bandReady w d band done n = true) ∧ (die = s.packDie node) ∧ (s.poolPlace die n = none)) :=
  ⟨⟨up_of (by decide +kernel), by decide +kernel⟩,
   ⟨up_of (by decide +kernel), by decide +kernel⟩⟩

theorem wit_cacheLoaded :
    (let s : State := { head with launch := { ready := [(0, [45058, 45059])], cache := [(0, [9])] } }; let die : Nat := 0; let r : Nat := 45058; let rest : List Nat := [45059]; (UpDie s die) ∧ (smGet [] s.launch.ready die = r :: rest) ∧ ((smGet [] s.launch.cache die).length < 8192)) ∧
    (let s : State := { head with launch := { ready := [(0, [45058, 45059])], cache := [(0, List.range 8192)] } }; let die : Nat := 0; let r : Nat := 45058; let rest : List Nat := [45059]; (UpDie s die) ∧ (smGet [] s.launch.ready die = r :: rest) ∧ (8192 ≤ (smGet [] s.launch.cache die).length)) :=
  ⟨⟨upDie_of (by decide +kernel), by decide +kernel⟩,
   ⟨upDie_of (by decide +kernel), by decide +kernel⟩⟩

theorem wit_ringPicked :
    (let s : State := { head with launch := { checks := [(4, [(1, mkCell 3 1 44 0 [1]), (1, mkCell 3 1 44 0 [2])])] } }; let p : Nat := 4; let n := (smGet [] s.launch.checks p).head!.1; let c := (smGet [] s.launch.checks p).head!.2; let rest := (smGet [] s.launch.checks p).tail; (Up s) ∧ (s.pathFree p = true) ∧ (smGet [] s.launch.checks p = (n, c) :: rest)) ∧
    (let s : State := { (((head.set (atIndex Ob.dest_enable 44) 1).set (atIndex Ob.dest_port 44) 4).putSlot 45058 0 (mkDesc 488 1 2 5 40 + 1)) with comp := { segs := [{ ring := 45058, desc := mkDesc 488 1 2 5 40, posted := true }] }, launch := { cache := [(0, [45058])], rings := [(45058, { sent := 0 })] } }; let p : Nat := 4; let r := (s.ringReady p).head!.1; let due := (s.ringReady p).head!.2; let d := (s.ringHead r).get!; (Up s) ∧ (s.pathFree p = true) ∧ (smGet [] s.launch.checks p = []) ∧ (s.ringReady p = [(r, due)]) ∧ (s.ringHead r = some d) ∧ (s.badDesc d = false) ∧ ((s.layNow : Int) ≤ due)) ∧
    (let s : State := { (((head.set (atIndex Ob.dest_enable 44) 1).set (atIndex Ob.dest_port 44) 4).putSlot 45058 0 (mkDesc 487 0 2 5 40 + 1)) with comp := { segs := [{ ring := 45058, desc := mkDesc 487 0 2 5 40, posted := true }] }, launch := { cache := [(0, [45058])], rings := [(45058, { sent := 0 })] } }; let p : Nat := 4; let r := (s.ringReady p).head!.1; let due := (s.ringReady p).head!.2; let d := (s.ringHead r).get!; (Up s) ∧ (s.pathFree p = true) ∧ (smGet [] s.launch.checks p = []) ∧ (s.ringReady p = [(r, due)]) ∧ (s.ringHead r = some d) ∧ (s.badDesc d = true)) ∧
    (let s : State := head; let p : Nat := 4; (Up s) ∧ (s.pathFree p = true) ∧ (smGet [] s.launch.checks p = []) ∧ (s.ringReady p = [])) :=
  ⟨⟨up_of (by decide +kernel), by decide +kernel⟩,
   ⟨up_of (by decide +kernel), by decide +kernel⟩,
   ⟨up_of (by decide +kernel), by decide +kernel⟩,
   ⟨up_of (by decide +kernel), by decide +kernel⟩⟩

theorem wit_correctionBegins :
    (let s : State := rxS (fun s => { at_ := (lv s).at_ + 1000, frame := 50, view := 0, cells := rxC }) (lit 1 100); let die : Nat := 1; let frame : Nat := 50; let view : Nat := 0; let r : RxFrame := s.tile.rx.head!; let a : State := s.patchApply 1; (UpDie s die) ∧ (s.tile.rx.find? (fun r => decide (r.frame = frame) && decide (r.view = view) && !(bit r.begun die)) = some r) ∧ (s.isTile = true) ∧ (die < s.dies) ∧ (s.fwOn die = true) ∧ (r.cells ≠ []) ∧ (∀ p, s.vfPrev { at_ := r.at_, frame := r.frame, view := r.view, dark := false } = some p → s.reachedOn die p.at_ = true) ∧ ((s.tdie die).next = none) ∧ (s.storeFree die = true) ∧ (a = s.patchApply die)) :=
  ⟨upDie_of (by decide +kernel), by decide +kernel⟩

theorem wit_verdictGiven :
    (let s : State := rxS (fun s => { at_ := (lv s).at_ + 1000, frame := 50, view := 0, cells := rxC, reading := true, read := 244, check := some (crc32c (List.replicate 48 9), 1) }) (lit 1 100); let frame : Nat := 50; let view : Nat := 0; let r : RxFrame := s.tile.rx.head!; let crc : Nat := crc32c (List.replicate 48 9); let cells : Nat := 1; let why : Nat := regionReason r (s.spliceAt r.at_); (ToJudge s frame view r) ∧ (r.check = some (crc, cells)) ∧ (244 * r.cells.length ≤ r.read) ∧ (why = regionReason r (s.spliceAt r.at_)) ∧ (s.watches = false) ∧ (s.pw Ob.red_arb_state = 0) ∧ (why = 0)) ∧
    (let s : State := rxS (fun s => { at_ := (lv s).at_ + 1000, frame := 50, view := 0, cells := rxC, reading := true, read := 244, check := some (7, 1) }) (lit 1 100); let frame : Nat := 50; let view : Nat := 0; let r : RxFrame := s.tile.rx.head!; let crc : Nat := 7; let cells : Nat := 1; let why : Nat := regionReason r (s.spliceAt r.at_); (ToJudge s frame view r) ∧ (r.check = some (crc, cells)) ∧ (244 * r.cells.length ≤ r.read) ∧ (why = regionReason r (s.spliceAt r.at_)) ∧ (s.watches = false) ∧ (s.pw Ob.red_arb_state = 0) ∧ (why ≠ 0) ∧ (r.started = false)) :=
  ⟨⟨toJudge_of (by decide +kernel), by decide +kernel⟩,
   ⟨toJudge_of (by decide +kernel), by decide +kernel⟩⟩

theorem wit_launchRecorded :
    (let s : State := let l := lit 1 100; { l.setTdie 1 (fun t => { t with lastAt := some (lv l).at_ }) with boot := { l.boot with lit := false, env := { l.boot.env with bootMs := List.replicate 10 1000000 } } }; let die : Nat := 1; (UpDie s die) ∧ (die < s.dies) ∧ (s.dueLaunch die = none)) ∧
    (let s : State := let l := lit 1 100; { l with boot := { l.boot with lit := false, releaseAt := 10 ^ 15 } }; let die : Nat := 1; let v := (s.dueLaunch die).get!; (UpDie s die) ∧ (die < s.dies) ∧ (s.dueLaunch die = some v) ∧ (s.launch.lastAt ≠ some v.at_) ∧ (s.boot.lit = false) ∧ (s.bootReady = false)) :=
  ⟨⟨upDie_of (by decide +kernel), by decide +kernel⟩,
   ⟨upDie_of (by decide +kernel), by decide +kernel⟩⟩

theorem wit_launchStarts :
    (let s : State := let l := (lit 1 100).set Ob.view_dark 1; { setg l { ready := some ((lv l).at_, (lv l).at_) } with launch := { l.launch with lastAt := some (lv l).at_ } }; let die : Nat := 1; let g : Nat := 2; let v : Vf := lv s; (UpDie s die) ∧ (die < s.dies) ∧ (g < 4) ∧ (s.dueLaunch die = some v) ∧ (s.launch.lastAt = some v.at_) ∧ (s.boot.lit = true) ∧ (s.isTile = true) ∧ (s.unaligned = false) ∧ (s.groupsRun die = [g]) ∧ (s.groupStopped die g = false) ∧ (v.dark = true)) ∧
    (let s : State := let l := lit 1 100; { setg l { ready := some ((lv l).at_, (lv l).at_) } with launch := { l.launch with lastAt := some (lv l).at_ } }; let die : Nat := 1; let g : Nat := 2; let v : Vf := lv s; (UpDie s die) ∧ (die < s.dies) ∧ (g < 4) ∧ (s.dueLaunch die = some v) ∧ (s.launch.lastAt = some v.at_) ∧ (s.boot.lit = true) ∧ (s.isTile = true) ∧ (s.unaligned = false) ∧ (s.groupsRun die = [g]) ∧ (s.groupStopped die g = false) ∧ (v.dark = false) ∧ ((s.gst die g).sr = false) ∧ ((s.gst die g).resume = none) ∧ ((s.gst die g).proves = false) ∧ (s.pausedAt die v.at_ = false) ∧ (spliceUsable (s.spliceAt v.at_) = true) ∧ (s.tile.rx.find? (fun r => decide (r.at_ = v.at_)) = none) ∧ (¬ ((s.gst die g).mode = 1 ∧ (0 < (s.gst die g).lag ∨ (s.slotCfg die g).frameMem die g = false ∧ (s.gst die g).line < (s.slotCfg die g).lineCount die g (s.groupSlot die g)))) ∧ (((s.gst die g).due ++ (s.gst die g).wait).filter s.awaitsStill = []) ∧ ((s.gst die g).mode = 4 ∨ (s.gst die g).carry = 0) ∧ (∃ a, s.readyAt die g v.at_ = some a ∧ a ≤ v.at_)) :=
  ⟨⟨upDie_of (by decide +kernel), by decide +kernel⟩,
   ⟨upDie_of (by decide +kernel), by decide +kernel⟩⟩

theorem wit_lateStarts :
    (let s : State := let l := lit 1 101; setg l { mode := 4, at_ := (lv l).at_, frame := 5, ready := some ((lv l).at_, (lv l).at_ + 65536) }; let die : Nat := 1; let g : Nat := 2; let lag : Nat := 65536; let a : Int := (lv s).at_ + 65536; (UpDie s die) ∧ (g < 4) ∧ ((s.gst die g).mode = 4) ∧ ((s.gst die g).sr = false) ∧ (s.readyAt die g (s.gst die g).at_ = some a) ∧ (s.rxFailed (s.gst die g).at_ = false) ∧ (s.fwOn die = true) ∧ ((s.gst die g).proves = false) ∧ (lag = max (s.gst die g).carry (a - (s.gst die g).at_).toNat) ∧ (s.groupStopped die g = false) ∧ (s.reachedOn die ((s.gst die g).at_ + lag) = true) ∧ (0 < lag)) ∧
    (let s : State := let l := lit 1 100; setg l { mode := 4, at_ := (lv l).at_, frame := 5, ready := some ((lv l).at_, (lv l).at_ + 65536000000000) }; let die : Nat := 1; let g : Nat := 2; let lag : Nat := 65536000000000; let a : Int := (lv s).at_ + 65536000000000; (UpDie s die) ∧ (g < 4) ∧ ((s.gst die g).mode = 4) ∧ ((s.gst die g).sr = false) ∧ (s.readyAt die g (s.gst die g).at_ = some a) ∧ (s.rxFailed (s.gst die g).at_ = false) ∧ (s.fwOn die = true) ∧ ((s.gst die g).proves = false) ∧ (lag = max (s.gst die g).carry (a - (s.gst die g).at_).toNat) ∧ (s.groupStopped die g = false) ∧ (s.reachedOn die ((s.gst die g).at_ + lag) = false)) :=
  ⟨⟨upDie_of (by decide +kernel), by decide +kernel⟩,
   ⟨upDie_of (by decide +kernel), by decide +kernel⟩⟩

theorem wit_lineStarts :
    (let s : State := let l := lit 1 101; (setg l { mode := 1, at_ := (lv l).at_, frame := 5, shows := some (lv l).at_, line := 5 }).setTdie 1 fun t => { t with shown := some { at_ := (lv l).at_, frame := 5, view := 0, objs := l.objs, gain := 65536, temps := [], scales := [], faults := [], blank := [] } }; let die : Nat := 1; let g : Nat := 2; let c : State := s.slotCfg die g; let a : State := s.reenable die g; let n : Nat := c.lineCount die g (s.groupSlot die g); let start : Int := gridQuot ((s.gst die g).slotVf.at_ * n + (s.gst die g).line * s.groupSlot die g) n; let scan : Nat := 1; (UpDie s die) ∧ (s.groupRuns die g = true) ∧ (c = s.slotCfg die g) ∧ (c.frameMem die g = true) ∧ ((s.gst die g).mode = 1) ∧ ((s.gst die g).lag = 0) ∧ ((s.gst die g).wait = []) ∧ ((s.groupHalf die g).isSome = true) ∧ (n = c.lineCount die g (s.groupSlot die g)) ∧ (a = s.reenable die g) ∧ (start = gridQuot ((s.gst die g).slotVf.at_ * n + (s.gst die g).line * s.groupSlot die g) n) ∧ (scan = (s.gst die g).line % max 1 (c.grp die g Ob.rg_scan_lines)) ∧ ((s.gst die g).line < n) ∧ (s.reachedOn die start = true)) ∧
    (let s : State := let l := lit 1 101; (setg l { mode := 1, at_ := (lv l).at_, frame := 5, shows := some (lv l).at_, line := 55 }).setTdie 1 fun t => { t with shown := some { at_ := (lv l).at_, frame := 5, view := 0, objs := l.objs, gain := 65536, temps := [], scales := [], faults := [], blank := [] } }; let die : Nat := 1; let g : Nat := 2; let c : State := s.slotCfg die g; let a : State := s.reenable die g; let n : Nat := c.lineCount die g (s.groupSlot die g); let start : Int := gridQuot ((s.gst die g).slotVf.at_ * n + (s.gst die g).line * s.groupSlot die g) n; let scan : Nat := 3; (UpDie s die) ∧ (s.groupRuns die g = true) ∧ (c = s.slotCfg die g) ∧ (c.frameMem die g = true) ∧ ((s.gst die g).mode = 1) ∧ ((s.gst die g).lag = 0) ∧ ((s.gst die g).wait = []) ∧ ((s.groupHalf die g).isSome = true) ∧ (n = c.lineCount die g (s.groupSlot die g)) ∧ (a = s.reenable die g) ∧ (start = gridQuot ((s.gst die g).slotVf.at_ * n + (s.gst die g).line * s.groupSlot die g) n) ∧ (scan = (s.gst die g).line % max 1 (c.grp die g Ob.rg_scan_lines)) ∧ ((s.gst die g).line < n) ∧ (s.reachedOn die start = false)) ∧
    (let s : State := let l := lit 1 101; (setg l { mode := 1, at_ := (lv l).at_, frame := 5, shows := some (lv l).at_, line := 164 }).setTdie 1 fun t => { t with shown := some { at_ := (lv l).at_, frame := 5, view := 0, objs := l.objs, gain := 65536, temps := [], scales := [], faults := [], blank := [] } }; let die : Nat := 1; let g : Nat := 2; let c : State := s.slotCfg die g; let a : State := s.reenable die g; let n : Nat := c.lineCount die g (s.groupSlot die g); let start : Int := gridQuot ((s.gst die g).slotVf.at_ * n + (s.gst die g).line * s.groupSlot die g) n; let scan : Nat := 0; (UpDie s die) ∧ (s.groupRuns die g = true) ∧ (c = s.slotCfg die g) ∧ (c.frameMem die g = true) ∧ ((s.gst die g).mode = 1) ∧ ((s.gst die g).lag = 0) ∧ ((s.gst die g).wait = []) ∧ ((s.groupHalf die g).isSome = true) ∧ (n = c.lineCount die g (s.groupSlot die g)) ∧ (a = s.reenable die g) ∧ (start = gridQuot ((s.gst die g).slotVf.at_ * n + (s.gst die g).line * s.groupSlot die g) n) ∧ (scan = (s.gst die g).line % max 1 (c.grp die g Ob.rg_scan_lines)) ∧ (n ≤ (s.gst die g).line)) :=
  ⟨⟨upDie_of (by decide +kernel), by decide +kernel⟩,
   ⟨upDie_of (by decide +kernel), by decide +kernel⟩,
   ⟨upDie_of (by decide +kernel), by decide +kernel⟩⟩

theorem wit_frameCompletes :
    (let s : State := { ((head.set Ob.src_type 1).set Ob.src_size (1 + 65536 * 2)) with now := 77, comp := { sources := [(0, { work := [{ time := 9000, firstAt := 3, data := [(0, 5), (1, 6), (2, 7), (3, 8)] }, { time := 9001, firstAt := 3 }] })] } }; let src : Nat := 0; let w := ((s.source src).work.find? (s.wholeFrame src)).get!; (Up s) ∧ (src < 32) ∧ ((s.source src).work.find? (s.wholeFrame src) = some w)) ∧
    (let s : State := { ((head.set Ob.src_type 1).set Ob.src_size (1 + 65536 * 2)) with now := 77, comp := { sources := [(0, { work := [{ time := 9000, firstAt := 3, data := [(0, 5), (1, 6), (2, 7)] }, { time := 9001, firstAt := 3 }] })] } }; let src : Nat := 0; (Up s) ∧ (src < 32) ∧ ((s.source src).work.find? (s.wholeFrame src) = none)) :=
  ⟨⟨up_of (by decide +kernel), by decide +kernel⟩,
   ⟨up_of (by decide +kernel), by decide +kernel⟩⟩

theorem wit_packetTaken :
    (let s : State := (sA.set Ob.src_type 1).set Ob.src_size (16 + 65536 * 16); let src : Nat := 0; let p : Pkt := { die := 0, dest := 8, port := 5, sender := 3, pt := 96, seq := 7, time := 9000, marker := true, good := false, samples := [(0, 5)] }; (Up s) ∧ (src < s.sourceCount) ∧ (s.at_ Ob.src_type src = 1) ∧ (s.copyOf src p = none)) ∧
    (let s : State := (sA.set Ob.src_type 1).set Ob.src_size (16 + 65536 * 16); let src : Nat := 0; let p : Pkt := { die := 0, dest := 7, port := 5, sender := 3, pt := 96, seq := 7, time := 9000, marker := true, good := false, samples := [(0, 5)] }; let copy := (s.copyOf src p).get!; (Up s) ∧ (src < s.sourceCount) ∧ (s.at_ Ob.src_type src = 1) ∧ (s.copyOf src p = some copy) ∧ (s.pktListed src copy p = false)) ∧
    (let s : State := { (sA.set Ob.src_type 1).set Ob.src_size (16 + 65536 * 16) with now := 5 }; let src : Nat := 0; let p : Pkt := { die := 0, dest := 7, port := 5, sender := 3, pt := 96, seq := 7, time := 9000, marker := true, good := true, samples := [(0, 5), (2, 6)] }; let copy := (s.copyOf src p).get!; (Up s) ∧ (src < s.sourceCount) ∧ (s.at_ Ob.src_type src = 1) ∧ (s.copyOf src p = some copy) ∧ (s.pktListed src copy p = true) ∧ ((s.source src).seen = []) ∧ ((s.source src).work = []) ∧ ((s.source src).top = none) ∧ (∀ e, e ∈ p.samples → e.1 < s.samplesOf src)) ∧
    (let s : State := { ((sA.set Ob.src_type 1).set Ob.src_size (16 + 65536 * 16)).set Ob.src_group_b (9 + 6 * 4294967296) with now := 5, comp := { sources := [(0, { seen := [{ seq := 7, since := 2, atA := some 2 }], top := some 7, work := [{ time := 9000, firstAt := 2, data := [(0, 6)] }] })] } }; let src : Nat := 0; let p : Pkt := { die := 0, dest := 9, port := 6, sender := 3, pt := 96, seq := 7, time := 9000, marker := true, good := true, samples := [(0, 5), (2, 6)] }; let copy := (s.copyOf src p).get!; let e := ((s.source src).seen).head!; (Up s) ∧ (src < s.sourceCount) ∧ (s.at_ Ob.src_type src = 1) ∧ (s.copyOf src p = some copy) ∧ (s.pktListed src copy p = true) ∧ ((s.source src).seen = [e]) ∧ (e.seq = p.seq) ∧ ((e.came (1 - copy)).isSome = true) ∧ (s.tooLate src p.seq copy = false) ∧ (s.past e.since 1000000000 = false)) :=
  ⟨⟨up_of (by decide +kernel), by decide +kernel⟩,
   ⟨up_of (by decide +kernel), by decide +kernel⟩,
   ⟨up_of (by decide +kernel), by decide +kernel⟩,
   ⟨up_of (by decide +kernel), by decide +kernel⟩⟩

theorem wit_skewExceeded :
    (let s : State := { ((sA.set Ob.src_type 1).set Ob.src_size (16 + 65536 * 16)).set Ob.src_group_b (9 + 6 * 4294967296) |>.set Ob.vl_enable 1 |>.set Ob.vl_dst_rect (1000 * 2 ^ 32 + 1000 * 2 ^ 48) with now := 500000000, comp := { sources := [(0, { seen := [{ seq := 7, since := 2, atA := some 2 }], top := some 7, work := [{ time := 9000, firstAt := 2, data := [(0, 6)] }] })] } }; let src : Nat := 0; let e : SeenPkt := { seq := 7, since := 2, atA := some 2 }; let p : Pkt := { die := 0, dest := 9, port := 6, sender := 3, pt := 96, seq := 7, time := 9000, marker := true, good := true, samples := [(0, 5), (2, 6)] }; let copy : Nat := 1; (Up s) ∧ (src < 32) ∧ (s.copyOf src p = some copy) ∧ ((s.source src).seen.find? (fun e => decide (e.seq = p.seq)) = some e) ∧ (s.tooLate src p.seq copy = true) ∧ (e.came copy = none) ∧ (e.lost copy = false)) ∧
    (let s : State := { ((sA.set Ob.src_type 1).set Ob.src_size (16 + 65536 * 16)).set Ob.src_group_b (9 + 6 * 4294967296) with now := 5, comp := { sources := [(0, { seen := [{ seq := 7, since := 2, atB := some 2 }], top := some 7, work := [{ time := 9000, firstAt := 2, data := [(0, 6)] }] })] } }; let src : Nat := 0; let e : SeenPkt := { seq := 7, since := 2, atB := some 2 }; let p : Pkt := { die := 0, dest := 7, port := 5, sender := 3, pt := 96, seq := 7, time := 9000, marker := true, good := true, samples := [(0, 5), (2, 6)] }; let copy : Nat := 0; (Up s) ∧ (src < 32) ∧ (s.copyOf src p = some copy) ∧ ((s.source src).seen.find? (fun e => decide (e.seq = p.seq)) = some e) ∧ (s.tooLate src p.seq copy = false)) :=
  ⟨⟨up_of (by decide +kernel), by decide +kernel⟩,
   ⟨up_of (by decide +kernel), by decide +kernel⟩⟩

theorem wit_frameDamaged :
    (let s : State := { ((head.set Ob.src_type 1).set Ob.src_size (1 + 65536 * 2)).set Ob.vl_enable 1 |>.set Ob.vl_dst_rect (1000 * 2 ^ 32 + 1000 * 2 ^ 48) with now := 500000000, comp := { sources := [(0, { work := [{ time := 9000, firstAt := 2, markerAt := some 2, data := [(0, 6)] }] })] } }; let src : Nat := 0; (Up s) ∧ (src < 32) ∧ ((s.source src).work.filter (s.damaged src) ≠ [])) ∧
    (let s : State := { ((head.set Ob.src_type 1).set Ob.src_size (1 + 65536 * 2)).set Ob.vl_enable 1 |>.set Ob.vl_dst_rect (1000 * 2 ^ 32 + 1000 * 2 ^ 48) with now := 500, comp := { sources := [(0, { work := [{ time := 9000, firstAt := 2, markerAt := some 2, data := [(0, 6)] }] })] } }; let src : Nat := 0; (Up s) ∧ (src < 32) ∧ ((s.source src).work.filter (s.damaged src) = [])) :=
  ⟨⟨up_of (by decide +kernel), by decide +kernel⟩,
   ⟨up_of (by decide +kernel), by decide +kernel⟩⟩

theorem wit_sourceStales :
    (let s : State := { ((head.set Ob.src_type 1).set Ob.src_size (1 + 65536 * 2)).set Ob.vl_enable 1 |>.set Ob.vl_dst_rect (1000 * 2 ^ 32 + 1000 * 2 ^ 48) with now := 500000000000 }; let src : Nat := 0; (Up s) ∧ (src < s.sourceCount) ∧ (s.at_ Ob.src_type src ≠ 0) ∧ (s.past (s.source src).lastAt (4000000000000 / max 1 (s.at_ Ob.src_rate_mhz src)) = true)) ∧
    (let s : State := { ((head.set Ob.src_type 1).set Ob.src_size (1 + 65536 * 2)).set Ob.vl_enable 1 |>.set Ob.vl_dst_rect (1000 * 2 ^ 32 + 1000 * 2 ^ 48) with now := 500 }; let src : Nat := 0; (Up s) ∧ (src < s.sourceCount) ∧ (s.at_ Ob.src_type src ≠ 0) ∧ (s.past (s.source src).lastAt (4000000000000 / max 1 (s.at_ Ob.src_rate_mhz src)) = false)) :=
  ⟨⟨up_of (by decide +kernel), by decide +kernel⟩,
   ⟨up_of (by decide +kernel), by decide +kernel⟩⟩

theorem wit_applyScheduled :
    (let s : State := { head with staged := [(0x400000, .num 5), (0x500100, .num 3)] }; let m : Msg := W Ob.compose_apply 0 [1]; let a : State := s.arrived m; let d : ObjDef := D Ob.compose_apply; let v := ((a.vfsAround (((a.layNow : Int) + 1000000 * layNs) + a.lead) 1 3).find? (fun v => decide (v.view = 0) && decide ((a.layNow : Int) + 1000000 * layNs ≤ a.sendStartOf v))).get!; (WritesOne s m d 0) ∧ (m.key = Ob.compose_apply) ∧ (d.acc = .wo) ∧ (a = s.arrived m) ∧ (a.clampVal 0 m.key d (decodeVal d.ty m.payload) = 1) ∧ (a.commit ≤ 1) ∧ (∀ n, n ∈ a.aliveList → a.fwOn n = true ∧ a.applyVote n = []) ∧ ((a.vfsAround (((a.layNow : Int) + 1000000 * layNs) + a.lead) 1 3).find? (fun v => decide (v.view = 0) && decide ((a.layNow : Int) + 1000000 * layNs ≤ a.sendStartOf v)) = some v)) ∧
    (let s : State := { head with staged := [(Ob.vl_enable, .num 1), (0x410100, .num 31)], corrix := { blobs := [(Ob.filter_h, { fill := 10, openX := true })] } }; let m : Msg := W Ob.compose_apply 0 [1]; let a : State := s.arrived m; let d : ObjDef := D Ob.compose_apply; (WritesOne s m d 0) ∧ (m.key = Ob.compose_apply) ∧ (d.acc = .wo) ∧ (a = s.arrived m) ∧ (a.clampVal 0 m.key d (decodeVal d.ty m.payload) = 1) ∧ (a.commit ≤ 1) ∧ (∃ n, n ∈ a.aliveList ∧ (a.fwOn n = false ∨ a.applyVote n ≠ []))) ∧
    (let s : State := head.set Ob.commit_state 2; let m : Msg := W Ob.compose_apply 0 [1]; let a : State := s.arrived m; let d : ObjDef := D Ob.compose_apply; (WritesOne s m d 0) ∧ (m.key = Ob.compose_apply) ∧ (d.acc = .wo) ∧ (a = s.arrived m) ∧ (a.clampVal 0 m.key d (decodeVal d.ty m.payload) = 1) ∧ (2 ≤ a.commit) ∧ (a.commit ≤ 4)) :=
  ⟨⟨writesOne_of (by decide +kernel), by decide +kernel⟩,
   ⟨writesOne_of (by decide +kernel), by decide +kernel⟩,
   ⟨writesOne_of (by decide +kernel), by decide +kernel⟩⟩

end C06

namespace C08

/-- a part with stream 5 (port 1, channel 1) enabled, 4 x 2 pixels of RAW12 -/
def cam : State := ((head.set (atIndex Ob.cam_enable 5) 1).set (atIndex Ob.cam_size 5) (4 + 65536 * 2)).set (atIndex Ob.cam_dt 5) 0x2C
def inl (s : State) : State := s.put 1 Ob.cam_inline 5
def capt (s : State) : State := ((s.set (atIndex Ob.cam_output 5) 2).set (atIndex Ob.cap_state 3) 1).set (atIndex Ob.cap_trigger_at 3) 1000
def armd : List Int := [5, 5, 0, 0, 255, 100, 100]
def capa (s : State) : State := { capt s with cam := { (capt s).cam with armed := [(3, armd)], size := [(3, 16)] } }
def fr (s : State) (lines : Nat) (il : Bool) (slot : Option Nat := none) : CamWork := { startAt := 0, fsAt := 0, inline := il, lines := lines, objs := s.objs, slot := slot }
def cur (s : State) (lines : Nat) (il : Bool) : State := s.setStream 5 fun t => { t with cur := some (fr s lines il) }
def que (s : State) (n : Nat) : State := { s with cam := { s.cam with queue := [(1, List.replicate n (5, fr s 2 false))] } }
def pkt : CsiPkt := { dt := 0x2C, wc := 6, ecc := 0, crcOk := true, extVc := false, overflow := false, samples := [100, 200, 300, 400] }
def armW : State := { ((((head.set (atIndex Ob.cam_enable 5) 1).set (atIndex Ob.cam_size 5) (4 + 65536 * 2)).set (atIndex Ob.cam_output 5) 2).set (atIndex Ob.cap_stream 3) 5).set (atIndex Ob.cap_frame 3) 5 with lay := { fine := ns 1000000 } }
def hOk : CsiHead := { vc := 1, extVc := false, ecc := 0 }

theorem wit_frameStarts :
    (let s : State := { cam with now := 9, lay := { fine := ns 3000 } }; let port : Nat := 1; let h : CsiHead := hOk; let n : Nat := 5; let fs : Nat := toGrid (s.layOf 1); let a : State := s.crossEvents port .frameStart 1; (OnPort s port n h) ∧ (s.streamOn n = true) ∧ ((s.stream n).cur = none) ∧ (s.camInline n = true ∨ s.rawUsed n < 2) ∧ (fs = toGrid (s.layOf port)) ∧ (a = s.crossEvents port .frameStart 1) ∧ (s.at_ Ob.cam_output n = 0 ∨ s.slotFor n fs = none)) ∧
    (let s : State := { capa (inl cam) with now := 9, lay := { fine := ns 3000 } }; let port : Nat := 1; let h : CsiHead := hOk; let n : Nat := 5; let fs : Nat := toGrid (s.layOf 1); let a : State := s.crossEvents port .frameStart 1; let k := (s.slotFor n fs).get!; (OnPort s port n h) ∧ (s.streamOn n = true) ∧ ((s.stream n).cur = none) ∧ (s.camInline n = true ∨ s.rawUsed n < 2) ∧ (fs = toGrid (s.layOf port)) ∧ (a = s.crossEvents port .frameStart 1) ∧ (k < 64) ∧ (s.at_ Ob.cam_output n ≠ 0) ∧ (s.slotFor n fs = some k)) :=
  ⟨⟨onPort_of (by decide +kernel), by decide +kernel⟩,
   ⟨onPort_of (by decide +kernel), by decide +kernel⟩⟩

theorem wit_frameSkipped :
    (let s : State := que cam 2; let port : Nat := 1; let h : CsiHead := hOk; let n : Nat := 5; (OnPort s port n h) ∧ (s.streamOn n = true) ∧ ((s.stream n).cur = none) ∧ (s.camInline n = false) ∧ (2 ≤ s.rawUsed n) ∧ (s.at_ Ob.cam_output n = 0)) ∧
    (let s : State := cur (inl cam) 1 true; let port : Nat := 1; let h : CsiHead := { hOk with vc := 5 }; let n : Nat := 5; let k := ((s.stream n).cur).get!; (OnPort s port n h) ∧ (s.streamOn n = true) ∧ ((s.stream n).cur = some k) ∧ (k.slot = none) ∧ (s.camInline n = true) ∧ (s.at_ Ob.cam_output n = 0)) ∧
    (let s : State := head; let port : Nat := 1; let h : CsiHead := hOk; let n : Nat := 5; (OnPort s port n h) ∧ (s.streamOn n = false)) :=
  ⟨⟨onPort_of (by decide +kernel), by decide +kernel⟩,
   ⟨onPort_of (by decide +kernel), by decide +kernel⟩,
   ⟨onPort_of (by decide +kernel), by decide +kernel⟩⟩

theorem wit_headersJudged :
    (let s : State := cur cam 1 false; let port : Nat := 1; let n : Nat := 5; let h : CsiHead := { hOk with ecc := 2 }; let p : CsiPkt := { pkt with ecc := 2 }; let k := ((s.stream n).cur).get!; (UpDie s port) ∧ (port < s.camPorts) ∧ (n = 4 * port + h.vc % 4) ∧ (p.ecc = h.ecc) ∧ (p.extVc = h.extVc) ∧ (h.ecc = 2) ∧ ((s.stream n).cur = some k) ∧ (k.slot = none)) ∧
    (let s : State := cur (inl cam) 1 true; let port : Nat := 1; let n : Nat := 5; let h : CsiHead := { hOk with extVc := true }; let p : CsiPkt := { pkt with extVc := true }; (UpDie s port) ∧ (port < s.camPorts) ∧ (n = 4 * port + h.vc % 4) ∧ (p.ecc = h.ecc) ∧ (p.extVc = h.extVc) ∧ (h.ecc = 0) ∧ (h.extVc = true)) ∧
    (let s : State := cam; let port : Nat := 1; let n : Nat := 5; let h : CsiHead := { hOk with ecc := 1 }; let p : CsiPkt := { pkt with ecc := 1 }; (UpDie s port) ∧ (port < s.camPorts) ∧ (n = 4 * port + h.vc % 4) ∧ (p.ecc = h.ecc) ∧ (p.extVc = h.extVc) ∧ (h.ecc = 1) ∧ (h.extVc = false)) :=
  ⟨⟨upDie_of (by decide +kernel), by decide +kernel⟩,
   ⟨upDie_of (by decide +kernel), by decide +kernel⟩,
   ⟨upDie_of (by decide +kernel), by decide +kernel⟩⟩

theorem wit_lineTaken :
    (let s : State := cur cam 1 false; let port : Nat := 1; let vc : Nat := 1; let n : Nat := 5; let p : CsiPkt := { pkt with dt := 0x2B }; let k : CamWork := (s.stream 5).cur.get!; let f : State := { s with objs := k.objs }; let a : State := s.crossWords port .pixels p.wc; (UpDie s port) ∧ (port < s.camPorts) ∧ (n = 4 * port + vc % 4) ∧ ((s.stream n).cur = some k) ∧ (f = { s with objs := k.objs }) ∧ (a = s.crossWords port .pixels p.wc) ∧ (p.extVc = false) ∧ (p.ecc = 0) ∧ (4 ≤ p.dt) ∧ (p.dt ≠ 0x12) ∧ (p.dt ≠ f.at_ Ob.cam_dt n)) ∧
    (let s : State := cur cam 1 false; let port : Nat := 1; let vc : Nat := 1; let n : Nat := 5; let p : CsiPkt := { pkt with dt := 0 }; let k : CamWork := (s.stream 5).cur.get!; let f : State := { s with objs := k.objs }; let a : State := s.crossWords port .pixels p.wc; (UpDie s port) ∧ (port < s.camPorts) ∧ (n = 4 * port + vc % 4) ∧ ((s.stream n).cur = some k) ∧ (f = { s with objs := k.objs }) ∧ (a = s.crossWords port .pixels p.wc) ∧ (p.extVc = false) ∧ (p.ecc = 0) ∧ (p.dt < 4 ∨ p.dt = 0x12 ∧ p.crcOk = true)) ∧
    (let s : State := cur cam 1 false; let port : Nat := 1; let vc : Nat := 1; let n : Nat := 5; let p : CsiPkt := pkt; let k : CamWork := (s.stream 5).cur.get!; let f : State := { s with objs := k.objs }; let a : State := s.crossWords port .pixels p.wc; (UpDie s port) ∧ (port < s.camPorts) ∧ (n = 4 * port + vc % 4) ∧ ((s.stream n).cur = some k) ∧ (f = { s with objs := k.objs }) ∧ (a = s.crossWords port .pixels p.wc) ∧ (p.extVc = false) ∧ (p.ecc = 0) ∧ (p.dt = f.at_ Ob.cam_dt n) ∧ (0x2B ≤ p.dt) ∧ (p.dt ≤ 0x2D) ∧ (p.crcOk = true) ∧ (k.slot = none) ∧ (p.wc = f.camW n * f.camBits n / 8) ∧ (k.lines < f.camH n) ∧ (k.inline = false ∨ p.overflow = false ∧ f.rxWaiting port n + p.wc ≤ 65536)) ∧
    (let s : State := cur (inl cam) 1 true; let port : Nat := 1; let vc : Nat := 1; let n : Nat := 5; let p : CsiPkt := { pkt with overflow := true }; let k : CamWork := (s.stream 5).cur.get!; let f : State := { s with objs := k.objs }; let a : State := s.crossWords port .pixels p.wc; (UpDie s port) ∧ (port < s.camPorts) ∧ (n = 4 * port + vc % 4) ∧ ((s.stream n).cur = some k) ∧ (f = { s with objs := k.objs }) ∧ (a = s.crossWords port .pixels p.wc) ∧ (p.extVc = false) ∧ (p.ecc = 0) ∧ (p.dt = f.at_ Ob.cam_dt n) ∧ (0x2B ≤ p.dt) ∧ (p.dt ≤ 0x2D) ∧ (p.crcOk = true) ∧ (k.slot = none) ∧ (p.wc = f.camW n * f.camBits n / 8) ∧ (k.lines < f.camH n) ∧ (k.inline = true) ∧ (p.overflow = true ∨ 65536 < f.rxWaiting port n + p.wc)) ∧
    (let s : State := cur cam 1 false; let port : Nat := 1; let vc : Nat := 1; let n : Nat := 5; let p : CsiPkt := { pkt with crcOk := false }; let k : CamWork := (s.stream 5).cur.get!; let f : State := { s with objs := k.objs }; let a : State := s.crossWords port .pixels p.wc; (UpDie s port) ∧ (port < s.camPorts) ∧ (n = 4 * port + vc % 4) ∧ ((s.stream n).cur = some k) ∧ (f = { s with objs := k.objs }) ∧ (a = s.crossWords port .pixels p.wc) ∧ (p.extVc = false) ∧ (p.ecc = 0) ∧ (p.dt = f.at_ Ob.cam_dt n ∧ 0x2B ≤ p.dt ∧ p.dt ≤ 0x2D ∨ p.dt = 0x12) ∧ (p.crcOk = false) ∧ (k.slot = none)) :=
  ⟨⟨upDie_of (by decide +kernel), by decide +kernel⟩,
   ⟨upDie_of (by decide +kernel), by decide +kernel⟩,
   ⟨upDie_of (by decide +kernel), by decide +kernel⟩,
   ⟨upDie_of (by decide +kernel), by decide +kernel⟩,
   ⟨upDie_of (by decide +kernel), by decide +kernel⟩⟩

theorem wit_frameEnds :
    (let s : State := cur cam 1 false; let port : Nat := 1; let h : CsiHead := hOk; let n : Nat := 5; let a : State := s.crossEvents port .frameEnd 1; let k := ((s.stream n).cur).get!; (OnPort s port n h) ∧ (a = s.crossEvents port .frameEnd 1) ∧ ((s.stream n).cur = some k) ∧ (k.slot = none) ∧ (k.lines < ({ s with objs := k.objs } : State).camH n)) ∧
    (let s : State := cur cam 2 false; let port : Nat := 1; let h : CsiHead := hOk; let n : Nat := 5; let a : State := s.crossEvents port .frameEnd 1; let k := ((s.stream n).cur).get!; (OnPort s port n h) ∧ (a = s.crossEvents port .frameEnd 1) ∧ ((s.stream n).cur = some k) ∧ (k.inline = false) ∧ (({ s with objs := k.objs } : State).camH n ≤ k.lines)) ∧
    (let s : State := cur (inl cam) 2 true; let port : Nat := 1; let h : CsiHead := hOk; let n : Nat := 5; let a : State := s.crossEvents port .frameEnd 1; let k := ((s.stream n).cur).get!; (OnPort s port n h) ∧ (a = s.crossEvents port .frameEnd 1) ∧ ((s.stream n).cur = some k) ∧ (k.inline = true) ∧ (k.slot = none) ∧ (({ s with objs := k.objs } : State).camH n ≤ k.lines)) ∧
    (let s : State := cam; let port : Nat := 1; let h : CsiHead := hOk; let n : Nat := 5; let a : State := s.crossEvents port .frameEnd 1; (OnPort s port n h) ∧ (a = s.crossEvents port .frameEnd 1) ∧ ((s.stream n).cur = none)) :=
  ⟨⟨onPort_of (by decide +kernel), by decide +kernel⟩,
   ⟨onPort_of (by decide +kernel), by decide +kernel⟩,
   ⟨onPort_of (by decide +kernel), by decide +kernel⟩,
   ⟨onPort_of (by decide +kernel), by decide +kernel⟩⟩

theorem wit_frameTimesOut :
    (let s : State := { cur cam 2 false with now := 100000000 }; let n : Nat := 5; let k : CamWork := (s.stream 5).cur.get!; (UpDie s (n / 4)) ∧ (n < 16) ∧ ((s.stream n).cur = some k) ∧ (k.slot = none) ∧ (s.past k.startAt (s.at_ Ob.cam_frame_timeout_ms n * 1000000) = true)) ∧
    (let s : State := { cur cam 2 false with now := 99999999 }; let n : Nat := 5; let k : CamWork := (s.stream 5).cur.get!; (UpDie s (n / 4)) ∧ (n < 16) ∧ ((s.stream n).cur = some k) ∧ (k.slot = none) ∧ (s.past k.startAt (s.at_ Ob.cam_frame_timeout_ms n * 1000000) = false)) :=
  ⟨⟨upDie_of (by decide +kernel), by decide +kernel⟩,
   ⟨upDie_of (by decide +kernel), by decide +kernel⟩⟩

theorem wit_memoryFrameDone :
    (let s : State := { que cam 2 with cam := { (que cam 2).cam with px := [(1, 1000000000)] } }; let die : Nat := 1; let n := (smGet [] s.cam.queue die).head!.1; let k := (smGet [] s.cam.queue die).head!.2; let rest := (smGet [] s.cam.queue die).tail; (UpDie s die) ∧ (smGet [] s.cam.queue die = (n, k) :: rest) ∧ (n < 16) ∧ (k.slot = none) ∧ ((s.frameWork n k).1 ≤ smGet 0 s.cam.px die)) ∧
    (let s : State := que cam 2; let die : Nat := 1; let n := (smGet [] s.cam.queue die).head!.1; let k := (smGet [] s.cam.queue die).head!.2; let rest := (smGet [] s.cam.queue die).tail; (UpDie s die) ∧ (smGet [] s.cam.queue die = (n, k) :: rest) ∧ (n < 16) ∧ (k.slot = none) ∧ (smGet 0 s.cam.px die < (s.frameWork n k).1)) ∧
    (let s : State := cam; let die : Nat := 1; (UpDie s die) ∧ (smGet [] s.cam.queue die = [])) :=
  ⟨⟨upDie_of (by decide +kernel), by decide +kernel⟩,
   ⟨upDie_of (by decide +kernel), by decide +kernel⟩,
   ⟨upDie_of (by decide +kernel), by decide +kernel⟩⟩

theorem wit_linkIsLost :
    (let s : State := { cam.set (atIndex Ob.cam_rate_mhz 5) 60000 with now := 66666666 }; let n : Nat := 5; (UpDie s (n / 4)) ∧ (s.streamOn n = true) ∧ (s.past (s.stream n).sinceFs (4000000000000 / max 1 (s.at_ Ob.cam_rate_mhz n)) = true)) ∧
    (let s : State := { cam.set (atIndex Ob.cam_rate_mhz 5) 60000 with now := 66666665 }; let n : Nat := 5; (UpDie s (n / 4)) ∧ (s.streamOn n = true) ∧ (s.past (s.stream n).sinceFs (4000000000000 / max 1 (s.at_ Ob.cam_rate_mhz n)) = false)) :=
  ⟨⟨upDie_of (by decide +kernel), by decide +kernel⟩,
   ⟨upDie_of (by decide +kernel), by decide +kernel⟩⟩

theorem wit_slotArmed :
    (let s : State := armW; let m : Msg := W (atIndex Ob.cap_arm 3) 0 [1]; let a : State := s.arrived m; let b : State := fixedSlot a 3; let d : ObjDef := D (atIndex Ob.cap_arm 3); let k : Nat := 3; let n : Nat := 5; let t := (b.trigger (armedVals a k)).get!; (WritesOne s m d 0) ∧ (k < 64) ∧ (m.key = atIndex Ob.cap_arm k) ∧ (d.acc = .wo) ∧ (a = s.arrived m) ∧ (a.clampVal 0 m.key d (decodeVal d.ty m.payload) = 1) ∧ (b = fixedSlot a k) ∧ (n = b.slotStream k) ∧ (a.at_ Ob.cap_state k = 0 ∨ a.at_ Ob.cap_state k = 4 ∨ a.at_ Ob.cap_state k = 5) ∧ (b.streamOn n = true) ∧ (b.at_ Ob.cam_output n ≠ 0) ∧ (b.trigger (armedVals a k) = some t) ∧ ((b.layNow : Int) + 1000000 * layNs ≤ t) ∧ (b.poolUsed (n / 4) + b.camW n * b.camH n * 2 ≤ b.nat (n / 4) Ob.cam_capture_pool_mb * 1048576)) ∧
    (let s : State := armW.set (atIndex Ob.cap_view 3) 3; let m : Msg := W (atIndex Ob.cap_arm 3) 0 [1]; let a : State := s.arrived m; let b : State := fixedSlot a 3; let d : ObjDef := D (atIndex Ob.cap_arm 3); let k : Nat := 3; let n : Nat := 5; (WritesOne s m d 0) ∧ (k < 64) ∧ (m.key = atIndex Ob.cap_arm k) ∧ (d.acc = .wo) ∧ (a = s.arrived m) ∧ (a.clampVal 0 m.key d (decodeVal d.ty m.payload) = 1) ∧ (b = fixedSlot a k) ∧ (n = b.slotStream k) ∧ (a.at_ Ob.cap_state k = 0 ∨ a.at_ Ob.cap_state k = 4 ∨ a.at_ Ob.cap_state k = 5) ∧ (b.streamOn n = true) ∧ (b.at_ Ob.cam_output n ≠ 0) ∧ (b.trigger (armedVals a k) = none)) ∧
    (let s : State := armW.set (atIndex Ob.cap_state 3) 2; let m : Msg := W (atIndex Ob.cap_arm 3) 0 [1]; let a : State := s.arrived m; let b : State := fixedSlot a 3; let d : ObjDef := D (atIndex Ob.cap_arm 3); let k : Nat := 3; let n : Nat := 5; (WritesOne s m d 0) ∧ (k < 64) ∧ (m.key = atIndex Ob.cap_arm k) ∧ (d.acc = .wo) ∧ (a = s.arrived m) ∧ (a.clampVal 0 m.key d (decodeVal d.ty m.payload) = 1) ∧ (b = fixedSlot a k) ∧ (n = b.slotStream k) ∧ (a.at_ Ob.cap_state k = 1 ∨ a.at_ Ob.cap_state k = 2 ∨ a.at_ Ob.cap_state k = 3)) :=
  ⟨⟨writesOne_of (by decide +kernel), by decide +kernel⟩,
   ⟨writesOne_of (by decide +kernel), by decide +kernel⟩,
   ⟨writesOne_of (by decide +kernel), by decide +kernel⟩⟩

theorem wit_slotReleased :
    (let s : State := { armW.set (atIndex Ob.cap_state 3) 4 with cam := { armW.cam with size := [(3, 16)], data := [(3, [(1, byteOf 5)])] } }; let m : Msg := W (atIndex Ob.cap_release 3) 0 [1]; let a : State := s.arrived m; let d : ObjDef := D (atIndex Ob.cap_release 3); let k : Nat := 3; (WritesOne s m d 0) ∧ (k < 64) ∧ (m.key = atIndex Ob.cap_release k) ∧ (d.acc = .wo) ∧ (a = s.arrived m) ∧ (a.clampVal 0 m.key d (decodeVal d.ty m.payload) = 1) ∧ (a.at_ Ob.cap_state k = 0 ∨ a.at_ Ob.cap_state k = 4 ∨ a.at_ Ob.cap_state k = 5)) ∧
    (let s : State := { armW.set (atIndex Ob.cap_state 3) 2 with cam := { armW.cam with size := [(3, 16)], data := [(3, [(1, byteOf 5)])] } }; let m : Msg := W (atIndex Ob.cap_release 3) 0 [1]; let a : State := s.arrived m; let d : ObjDef := D (atIndex Ob.cap_release 3); let k : Nat := 3; (WritesOne s m d 0) ∧ (k < 64) ∧ (m.key = atIndex Ob.cap_release k) ∧ (d.acc = .wo) ∧ (a = s.arrived m) ∧ (a.clampVal 0 m.key d (decodeVal d.ty m.payload) = 1) ∧ (a.at_ Ob.cap_state k = 1 ∨ a.at_ Ob.cap_state k = 2 ∨ a.at_ Ob.cap_state k = 3)) :=
  ⟨⟨writesOne_of (by decide +kernel), by decide +kernel⟩,
   ⟨writesOne_of (by decide +kernel), by decide +kernel⟩⟩

theorem wit_slotTriggers :
    (let s : State := { capa cam with lay := { fine := ns 3000 } }; let k : Nat := 3; (Up s) ∧ (k < 64) ∧ (s.at_ Ob.cap_state k = 1) ∧ (s.reached (s.int 0 (atIndex Ob.cap_trigger_at k)) = true)) ∧
    (let s : State := capa cam; let k : Nat := 3; (Up s) ∧ (k < 64) ∧ (s.at_ Ob.cap_state k = 1) ∧ (s.reached (s.int 0 (atIndex Ob.cap_trigger_at k)) = false)) :=
  ⟨⟨up_of (by decide +kernel), by decide +kernel⟩,
   ⟨up_of (by decide +kernel), by decide +kernel⟩⟩

theorem wit_windowCloses :
    (let s : State := { capa cam with lay := { fine := ns 300000000 } }; let k : Nat := 3; (Up s) ∧ (k < 64) ∧ (s.at_ Ob.cap_state k = 1 ∨ s.at_ Ob.cap_state k = 2) ∧ (s.reached (s.windowEnd k) = true)) ∧
    (let s : State := capa cam; let k : Nat := 3; (Up s) ∧ (k < 64) ∧ (s.at_ Ob.cap_state k = 1 ∨ s.at_ Ob.cap_state k = 2) ∧ (s.reached (s.windowEnd k) = false)) :=
  ⟨⟨up_of (by decide +kernel), by decide +kernel⟩,
   ⟨up_of (by decide +kernel), by decide +kernel⟩⟩

end C08

namespace C09

/-- the lit tile with chain 12 of die 1 in use: 3 channels, 2 drivers, readback records marked 0xA5 at bit 0 -/
def lamps (fm : Nat) : State :=
  let s := lit fm 100
  blob (blob ((((s.put 1 (atIndex Ob.rg_chains 2) 1).put 1 (Ob.chain_drivers + 12) 2).put 1 Ob.corr_rect (2 ^ 32 + 2 ^ 48))) 0 Ob.chain_profile
    [1, 3, 16, fm, 5, 0, 0x11, 0x11, 0x11, 0x11, 0, 0, 1, 8, 16, 24, 0, 0, 0, 0, 0, 0xA5]) 1 Ob.scan_map [0, 0, 0x30, 0, 0, 0, 0, 0x80, 0, 0, 0, 0x80]
def p12 : Nat := 12 * 262144
def half (s : State) : Half := { at_ := (lv s).at_, frame := 6, view := 0, objs := s.objs, gain := 65536, temps := [], scales := [], faults := [], blank := [] }
def nxt (s : State) : State := s.setTdie 1 fun t => { t with next := some (half s) }
def shn (s : State) : State := s.setTdie 1 fun t => { t with shown := some (half s) }
def patch (n : Nat) : List Byte := leBytes 4 n ++ List.replicate 48 (byteOf 9)
def pq (s : State) (l : List (Int × List Byte)) : State := s.setTdie 1 fun t => { t with patches := l }
def rec (mark : Nat) : List Bool := ((List.range 8).map fun i => bit mark (7 - i)) ++ List.replicate 40 false
def words (s : State) (p : Nat) (bs : List Bool) : List (List Bool) :=
  let w := s.wordBits 1 2
  (List.range ((bs.length + w - 1) / w)).map fun i => List.replicate ((s.groupD 1 2 - 1 - p) * w) true ++ ((bs.drop (i * w)).take w) ++ List.replicate (p * w) true
def shg (s : State) (g : GroupSt) : State := shn (setg s { g with shows := some (lv s).at_ })
def forced : List (Nat × LampSt) := (List.range 4096).map fun i => (p12 + i, { state := 3 })
def full : State := (lamps 1).setTdie 1 fun t => { t with lamps := forced }
def fgs (s : State) : State := ((s.put 1 (atIndex Ob.fg_blanked 7) 1).put 1 (atIndex Ob.fg_mode 7) 1)

theorem forced_count : 4096 ≤ (full.arrived (W Ob.fault_write 1 [0x40, 0, 0x30, 3])).lampCount 1 3 := by
  have same : (full.arrived (W Ob.fault_write 1 [0x40, 0, 0x30, 3])).tile = full.tile := by
    show (State.crossWords ..).tile = _
    unfold State.crossWords
    split <;> rfl
  have e : ((full.arrived (W Ob.fault_write 1 [0x40, 0, 0x30, 3])).tdie 1).lamps = forced := by
    unfold State.tdie
    rw [same, full, State.setTdie, Sys2Proof.Laws.smGet_smPut_same]
  have k : (forced.filter fun x => decide (x.2.state = 3)).length = 4096 := by
    rw [List.filter_eq_self.2 (by simp [forced])]; simp [forced]
  exact Nat.le_of_eq (by unfold State.lampCount; rw [e, k])

theorem wit_patchQueued :
    (let s : State := lit 1 100; let m : Msg := W Ob.corr_patch 1 (patch 5); let a : State := s.arrived m; let d : ObjDef := D Ob.corr_patch; (Served s 0x02 m) ∧ (a = s.arrived m) ∧ (a.found m = some d) ∧ (badWrite m = false) ∧ (m.key = Ob.corr_patch) ∧ (d.acc = .wo) ∧ (d.ty = .blob) ∧ (d.perDie = true) ∧ (m.die ≠ 15) ∧ (a.answers m.die = true) ∧ (a.absent m.die m.key = false) ∧ ((a.xfer (fullKey m.die m.key)).holder = none) ∧ (m.payload.length = 52) ∧ (leAt m.payload 0 4 < 294912) ∧ ((a.tdie m.die).patches.length < 64) ∧ (a.scheduled = true)) ∧
    (let s : State := ({ tile with lay := { fine := ns 100000000 } } : State).set Ob.view_count 7; let m : Msg := W Ob.corr_patch 1 (patch 5); let a : State := s.arrived m; let d : ObjDef := D Ob.corr_patch; (Served s 0x02 m) ∧ (a = s.arrived m) ∧ (a.found m = some d) ∧ (badWrite m = false) ∧ (m.key = Ob.corr_patch) ∧ (d.acc = .wo) ∧ (d.ty = .blob) ∧ (d.perDie = true) ∧ (m.die ≠ 15) ∧ (a.answers m.die = true) ∧ (a.absent m.die m.key = false) ∧ ((a.xfer (fullKey m.die m.key)).holder = none) ∧ (m.payload.length = 52) ∧ (leAt m.payload 0 4 < 294912) ∧ ((a.tdie m.die).patches.length < 64) ∧ (a.scheduled = false)) ∧
    (let s : State := pq (lit 1 100) (List.replicate 64 (0, patch 5)); let m : Msg := W Ob.corr_patch 1 (patch 5); let a : State := s.arrived m; let d : ObjDef := D Ob.corr_patch; (Served s 0x02 m) ∧ (a = s.arrived m) ∧ (a.found m = some d) ∧ (badWrite m = false) ∧ (m.key = Ob.corr_patch) ∧ (d.acc = .wo) ∧ (d.ty = .blob) ∧ (d.perDie = true) ∧ (m.die ≠ 15) ∧ (a.answers m.die = true) ∧ (a.absent m.die m.key = false) ∧ ((a.xfer (fullKey m.die m.key)).holder = none) ∧ (m.payload.length = 52) ∧ (leAt m.payload 0 4 < 294912) ∧ (64 ≤ (a.tdie m.die).patches.length)) :=
  ⟨⟨served_of (by decide +kernel), by decide +kernel⟩,
   ⟨served_of (by decide +kernel), by decide +kernel⟩,
   ⟨served_of (by decide +kernel), by decide +kernel⟩⟩

theorem wit_patchesApply :
    (let s : State := pq (lit 1 100) [(5, patch 5)]; let die : Nat := 1; let b : Int := (s.lastBoundary 1).get!; let at_ := ((s.tdie die).patches.filter (fun p => decide (p.1 ≤ b))).head!.1; let bs := ((s.tdie die).patches.filter (fun p => decide (p.1 ≤ b))).head!.2; (UpDie s die) ∧ (s.lastBoundary die = some b) ∧ ((s.tdie die).patches.filter (fun p => decide (p.1 ≤ b)) = [(at_, bs)]) ∧ (bs.length = 52)) ∧
    (let s : State := pq (lit 1 100) [(10 ^ 15, patch 5)]; let die : Nat := 1; let b : Int := (s.lastBoundary 1).get!; (UpDie s die) ∧ (s.lastBoundary die = some b) ∧ ((s.tdie die).patches.filter (fun p => decide (p.1 ≤ b)) = [])) :=
  ⟨⟨upDie_of (by decide +kernel), by decide +kernel⟩,
   ⟨upDie_of (by decide +kernel), by decide +kernel⟩⟩

theorem wit_shiftBegins :
    (let s : State := nxt (lamps 1) |> fun s => s.setTdie 1 fun t => { t with groups := [(2, { shiftAt := some (lv (lamps 1)).at_, unit := 2 })] }; let die : Nat := 1; let g : Nat := 2; let a : State := s.crossEvents die (.lampWritten g) 1; let h := (s.shiftTarget die g).get!.1; let t := (s.shiftTarget die g).get!.2.1; let held := (s.shiftTarget die g).get!.2.2; let c := ({ s with objs := h.objs } : State); let u := (if (s.gst die g).shiftAt ≠ some t ∨ (s.gst die g).again ≠ held then 0 else (s.gst die g).unit); (UpDie s die) ∧ (die < s.dies) ∧ (s.groupRuns die g = true) ∧ ((s.gst die g).busy = false) ∧ (s.groupStopped die g = false) ∧ (a = s.crossEvents die (.lampWritten g) 1) ∧ (s.shiftTarget die g = some (h, t, held)) ∧ ((s.gst die g).sr = false) ∧ (c = ({ s with objs := h.objs } : State)) ∧ (c.groupUsed die g = true) ∧ (u = (if (s.gst die g).shiftAt ≠ some t ∨ (s.gst die g).again ≠ held then 0 else (s.gst die g).unit)) ∧ (u < (if c.frameMem die g then c.grp die g Ob.rg_scan_lines else c.lineCount die g (s.slotOf { at_ := t, frame := h.frame, view := h.view, dark := false }))) ∧ (c.frameMem die g = true ∨ u = 0 ∨ u ≤ (s.gst die g).line ∧ ((s.gst die g).at_ = t ∧ (s.gst die g).mode ≠ 4 ∨ held = true)) ∧ (s.lineWritten h die g (u % max 1 (c.grp die g Ob.rg_scan_lines)) = true)) ∧
    (let s : State := (shn (lamps 0)).setTdie 1 fun t => { t with groups := [(2, { mode := 1, at_ := (lv (lamps 0)).at_, line := 2, shiftAt := some (lv (lamps 0)).at_, unit := 2 })] }; let die : Nat := 1; let g : Nat := 2; let a : State := s.crossEvents die (.lampWritten g) 1; (UpDie s die) ∧ (die < s.dies) ∧ (s.groupRuns die g = true) ∧ ((s.gst die g).busy = false) ∧ (s.groupStopped die g = false) ∧ (a = s.crossEvents die (.lampWritten g) 1) ∧ (s.shiftTarget die g = none)) :=
  ⟨⟨upDie_of (by decide +kernel), by decide +kernel⟩,
   ⟨upDie_of (by decide +kernel), by decide +kernel⟩⟩

theorem wit_shiftCompletes :
    (let s : State := setg (lamps 1) { shiftAt := some 77, busy := true, unit := 2 }; let die : Nat := 1; let g : Nat := 2; let at_ : Int := 77; let c : State := s.cfgFor die 77; let done : Int := (s.gst die g).from_ + (c.unitNs die g * layNs : Nat); let a : State := s.crossEvents die (.lineReady g) 1; (UpDie s die) ∧ ((s.gst die g).shiftAt = some at_) ∧ (c = s.cfgFor die at_) ∧ (done = (s.gst die g).from_ + (c.unitNs die g * layNs : Nat)) ∧ (a = s.crossEvents die (.lineReady g) 1) ∧ ((s.gst die g).busy = true) ∧ (s.reachedOn die done = true)) ∧
    (let s : State := setg (lamps 1) { shiftAt := some 77, unit := 3 }; let die : Nat := 1; let g : Nat := 2; let at_ : Int := 77; let c : State := s.cfgFor die 77; let done : Int := (s.gst die g).from_ + (c.unitNs die g * layNs : Nat); let a : State := s.crossEvents die (.lineReady g) 1; (UpDie s die) ∧ ((s.gst die g).shiftAt = some at_) ∧ (c = s.cfgFor die at_) ∧ (done = (s.gst die g).from_ + (c.unitNs die g * layNs : Nat)) ∧ (a = s.crossEvents die (.lineReady g) 1) ∧ ((s.gst die g).busy = false ∨ s.reachedOn die done = false)) :=
  ⟨⟨upDie_of (by decide +kernel), by decide +kernel⟩,
   ⟨upDie_of (by decide +kernel), by decide +kernel⟩⟩

theorem wit_rowShorts :
    (let s : State := setg (lamps 1) { rbLine := some 3, rowEn := true, lineAt := 5 }; let die : Nat := 1; let g : Nat := 2; let scan : Nat := 3; let sense : Nat := s.grp die g Ob.rg_sense_ns; (UpDie s die) ∧ (die < s.dies) ∧ (s.groupRuns die g = true) ∧ ((s.gst die g).rbLine = some scan) ∧ (sense = s.grp die g Ob.rg_sense_ns) ∧ (sense ≠ 0) ∧ ((s.gst die g).rowEn = true) ∧ (s.reachedOn die ((s.gst die g).lineAt + (sense * layNs : Nat)) = true)) ∧
    (let s : State := (setg (lamps 1) { rbLine := some 3, rowEn := true, lineAt := 5 }).put 1 (atIndex Ob.rg_sense_ns 2) 0; let die : Nat := 1; let g : Nat := 2; let scan : Nat := 3; let sense : Nat := s.grp die g Ob.rg_sense_ns; (UpDie s die) ∧ (die < s.dies) ∧ (s.groupRuns die g = true) ∧ ((s.gst die g).rbLine = some scan) ∧ (sense = s.grp die g Ob.rg_sense_ns) ∧ (sense = 0 ∨ (s.gst die g).rowEn = false ∨ s.reachedOn die ((s.gst die g).lineAt + (sense * layNs : Nat)) = false)) :=
  ⟨⟨upDie_of (by decide +kernel), by decide +kernel⟩,
   ⟨upDie_of (by decide +kernel), by decide +kernel⟩⟩

theorem wit_rowFaultClears :
    (let s : State := (lamps 1).put 1 (atIndex Ob.rg_row_fault 2) 0xFF; let m : Msg := W (atIndex Ob.rg_row_fault 2) 1 [0x0F, 0, 0, 0, 0, 0, 0, 0]; let a : State := s.arrived m; let d : ObjDef := D (atIndex Ob.rg_row_fault 2); let die : Nat := 1; let g : Nat := 2; let v : Nat := 15; (WritesOne s m d die) ∧ (g < 4) ∧ (m.key = atIndex Ob.rg_row_fault g) ∧ (d.acc = .w1c) ∧ (a = s.arrived m) ∧ (v = (a.clampVal die m.key d (decodeVal d.ty m.payload)).toNat)) :=
  ⟨writesOne_of (by decide +kernel), by decide +kernel⟩

theorem wit_outFaults :
    (let s : State := lamps 1; let die : Nat := 1; let g : Nat := 2; let n : Nat := 9; let disagreeing : Nat := 16; (UpDie s die) ∧ (die < s.dies) ∧ (g < 4) ∧ (n < 16) ∧ (s.outOff die g n = false) ∧ (16 ≤ disagreeing)) ∧
    (let s : State := lamps 1; let die : Nat := 1; let g : Nat := 2; let n : Nat := 3; let disagreeing : Nat := 15; (UpDie s die) ∧ (die < s.dies) ∧ (g < 4) ∧ (n < 16) ∧ (s.outOff die g n = false) ∧ (disagreeing < 16)) :=
  ⟨⟨upDie_of (by decide +kernel), by decide +kernel⟩,
   ⟨upDie_of (by decide +kernel), by decide +kernel⟩⟩

theorem wit_outFaultClears :
    (let s : State := ((setg (lamps 1) { shiftAt := some 5, unit := 3 }).put 1 (atIndex Ob.rg_out_fault 2) 513).put 1 (atIndex Ob.rg_state 2) 4; let m : Msg := W (atIndex Ob.rg_out_fault 2) 1 [1, 2]; let a : State := s.arrived m; let d : ObjDef := D (atIndex Ob.rg_out_fault 2); let die : Nat := 1; let g : Nat := 2; let v : Nat := 513; (WritesOne s m d die) ∧ (g < 4) ∧ (m.key = atIndex Ob.rg_out_fault g) ∧ (d.acc = .w1c) ∧ (a = s.arrived m) ∧ (v = (a.clampVal die m.key d (decodeVal d.ty m.payload)).toNat) ∧ (v &&& a.grp die g Ob.rg_out_fault ≠ 0)) :=
  ⟨writesOne_of (by decide +kernel), by decide +kernel⟩

theorem wit_readbackSent :
    (let s : State := (setg (lamps 1) { rbDue := true, rbLine := some 3, line := 4, mode := 1, rowEn := true, lineAt := (lamps 1).layNow - 500 * layNs }).put 1 (atIndex Ob.rg_rb_line 2) 3; let die : Nat := 1; let g : Nat := 2; let due : Nat := 3; let c : State := s.slotCfg die g; (UpDie s die) ∧ (die < s.dies) ∧ (s.groupRuns die g = true) ∧ (s.groupStopped die g = false) ∧ (due = s.grp die g Ob.rg_rb_line) ∧ (c = s.slotCfg die g) ∧ ((s.gst die g).rbDue = true) ∧ ((s.gst die g).rbLine = some due) ∧ ((s.gst die g).rowEn = true) ∧ ((s.gst die g).line ≠ 0) ∧ ((s.gst die g).mode = 1 ∨ (s.gst die g).sr = true) ∧ (s.reachedOn die (s.rbAt die g ((s.gst die g).lineAt + c.grp die g Ob.rg_rb_settle_ns * layNs)) = true) ∧ (s.rbAt die g ((s.gst die g).lineAt + c.grp die g Ob.rg_rb_settle_ns * layNs) < (s.gst die g).lineAt + c.litNs die g * layNs)) ∧
    (let s : State := (setg (lamps 1) { rbLine := some 3, line := 4, mode := 1, rowEn := true, lineAt := (lamps 1).layNow - 500 * layNs }).put 1 (atIndex Ob.rg_rb_line 2) 3; let die : Nat := 1; let g : Nat := 2; let due : Nat := 3; let c : State := s.slotCfg die g; (UpDie s die) ∧ (die < s.dies) ∧ (s.groupRuns die g = true) ∧ (s.groupStopped die g = false) ∧ (due = s.grp die g Ob.rg_rb_line) ∧ (c = s.slotCfg die g) ∧ ((s.gst die g).rbDue = false)) :=
  ⟨⟨upDie_of (by decide +kernel), by decide +kernel⟩,
   ⟨upDie_of (by decide +kernel), by decide +kernel⟩⟩

theorem wit_recordChecked :
    (let s : State := lamps 1; let die : Nat := 1; let chain : Nat := 12; let driver : Nat := 1; let words : List (List Bool) := words s 1 (rec 0xA4); let bs : List Bool := s.recordBits 1 2 1 words; (RecordOf s die chain driver) ∧ (driver < 64) ∧ (bs = s.recordBits die (chain / 6) driver words) ∧ (recordField bs (s.prof die (chain / 6) 20 1) 8 ≠ s.prof die (chain / 6) 21 1)) ∧
    (let s : State := (lamps 1).setTdie 1 fun t => { t with marks := [(12 * 64 + 1, 3)] }; let die : Nat := 1; let chain : Nat := 12; let driver : Nat := 1; let words : List (List Bool) := words s 1 (rec 0xA5); let bs : List Bool := s.recordBits 1 2 1 words; (RecordOf s die chain driver) ∧ (driver < 64) ∧ (bs = s.recordBits die (chain / 6) driver words) ∧ (recordField bs (s.prof die (chain / 6) 20 1) 8 = s.prof die (chain / 6) 21 1) ∧ (s.crossShut die (.readbackRecord (chain / 6)) = false)) :=
  ⟨⟨recordOf_of (by decide +kernel), by decide +kernel⟩,
   ⟨recordOf_of (by decide +kernel), by decide +kernel⟩⟩

theorem wit_readingMoves :
    (let s : State := (lamps 1).setTdie 1 fun t => { t with lamps := [(p12, { kind := 2, count := 1 })] }; let die : Nat := 1; let pos : Nat := p12; let kind : Nat := 2; (kind = 1 ∨ kind = 2) ∧ ((s.lamp die pos).state = 0) ∧ (s.pw Ob.fault_confirm ≤ (if (s.lamp die pos).kind = kind then (s.lamp die pos).count + 1 else 1)) ∧ (s.isPlaced die pos = true)) ∧
    (let s : State := lamps 1; let die : Nat := 1; let pos : Nat := p12; let kind : Nat := 1; (kind = 1 ∨ kind = 2) ∧ ((s.lamp die pos).state = 0) ∧ ((if (s.lamp die pos).kind = kind then (s.lamp die pos).count + 1 else 1) < s.pw Ob.fault_confirm)) ∧
    (let s : State := (lamps 1).setTdie 1 fun t => { t with lamps := [(p12, { state := 3 })] }; let die : Nat := 1; let pos : Nat := p12; let kind : Nat := 2; (kind = 1 ∨ kind = 2) ∧ ((s.lamp die pos).state = 3)) :=
  ⟨by decide +kernel,
   by decide +kernel,
   by decide +kernel⟩

theorem wit_srEnters :
    (let s : State := (shg (lamps 1) { run := 100 }).put 1 (atIndex Ob.rg_sr_mode 2) 1; let die : Nat := 1; let g : Nat := 2; (UpDie s die) ∧ (die < s.dies) ∧ (s.groupRuns die g = true) ∧ (s.frameMem die g = true) ∧ ((s.gst die g).sr = false) ∧ ((s.gst die g).resume = none) ∧ ((s.groupHalf die g).isSome = true) ∧ ((s.srMode die g = 1 ∧ s.grp die g Ob.rg_sr_after ≤ (s.gst die g).run) ∨ s.srMode die g = 2)) ∧
    (let s : State := (shg (lamps 1) { run := 0 }).put 1 (atIndex Ob.rg_sr_mode 2) 0; let die : Nat := 1; let g : Nat := 2; (UpDie s die) ∧ (die < s.dies) ∧ (s.groupRuns die g = true) ∧ (s.frameMem die g = true) ∧ ((s.gst die g).sr = false) ∧ ((s.gst die g).resume = none) ∧ ((s.groupHalf die g).isSome = true) ∧ (s.srMode die g = 0)) :=
  ⟨⟨upDie_of (by decide +kernel), by decide +kernel⟩,
   ⟨upDie_of (by decide +kernel), by decide +kernel⟩⟩

theorem wit_srModeSet :
    (let s : State := shg (lamps 1) {}; let m : Msg := W (atIndex Ob.rg_sr_mode 2) 1 [2]; let a : State := s.arrived m; let d : ObjDef := D (atIndex Ob.rg_sr_mode 2); let die : Nat := 1; let g : Nat := 2; let v : Nat := 2; (WritesOne s m d die) ∧ (g < 4) ∧ (die < a.dies) ∧ (m.key = atIndex Ob.rg_sr_mode g) ∧ (d.acc = .rw) ∧ (a = s.arrived m) ∧ ((v : Int) = a.clampVal die m.key d (decodeVal d.ty m.payload)) ∧ (v = 2) ∧ (a.groupRuns die g = true) ∧ (a.frameMem die g = true) ∧ ((a.gst die g).sr = false) ∧ ((a.gst die g).resume = none) ∧ ((a.groupHalf die g).isSome = true)) ∧
    (let s : State := (setg (shn (lamps 1)) { sr := true, run := 7 }).put 1 (atIndex Ob.rg_sr_mode 2) 2; let m : Msg := W (atIndex Ob.rg_sr_mode 2) 1 [1]; let a : State := s.arrived m; let d : ObjDef := D (atIndex Ob.rg_sr_mode 2); let die : Nat := 1; let g : Nat := 2; let v : Nat := 1; (WritesOne s m d die) ∧ (g < 4) ∧ (die < a.dies) ∧ (m.key = atIndex Ob.rg_sr_mode g) ∧ (d.acc = .rw) ∧ (a = s.arrived m) ∧ ((v : Int) = a.clampVal die m.key d (decodeVal d.ty m.payload)) ∧ (v ≠ 2) ∧ (a.grp die g Ob.rg_sr_mode = 2 ∨ v = 0) ∧ ((a.gst die g).sr = true)) ∧
    (let s : State := shn (lamps 1); let m : Msg := W (atIndex Ob.rg_sr_mode 2) 1 [0]; let a : State := s.arrived m; let d : ObjDef := D (atIndex Ob.rg_sr_mode 2); let die : Nat := 1; let g : Nat := 2; let v : Nat := 0; (WritesOne s m d die) ∧ (g < 4) ∧ (die < a.dies) ∧ (m.key = atIndex Ob.rg_sr_mode g) ∧ (d.acc = .rw) ∧ (a = s.arrived m) ∧ ((v : Int) = a.clampVal die m.key d (decodeVal d.ty m.payload)) ∧ (v ≠ 2) ∧ ((a.grp die g Ob.rg_sr_mode ≠ 2 ∧ v ≠ 0) ∨ (a.gst die g).sr = false)) :=
  ⟨⟨writesOne_of (by decide +kernel), by decide +kernel⟩,
   ⟨writesOne_of (by decide +kernel), by decide +kernel⟩,
   ⟨writesOne_of (by decide +kernel), by decide +kernel⟩⟩

theorem wit_toleranceStated :
    (let s : State := nxt (lamps 1); let die : Nat := 1; (UpDie s die) ∧ (die < s.dies)) :=
  ⟨upDie_of (by decide +kernel), by decide +kernel⟩

theorem wit_faultWritten :
    (let s : State := lamps 1; let m : Msg := W Ob.fault_write 1 [0x40, 0, 0x30, 1]; let a : State := s.arrived m; let d : ObjDef := D Ob.fault_write; let die : Nat := 1; let v : Nat := 0x1300040; let pos : Nat := p12 + 64; (WritesOne s m d die) ∧ (m.key = Ob.fault_write) ∧ (d.acc = .wo) ∧ (a = s.arrived m) ∧ (v = (a.clampVal die m.key d (decodeVal d.ty m.payload)).toNat) ∧ (pos = posOfWord v) ∧ (a.posValid die pos = true) ∧ (bits v 25 24 ≠ 3)) ∧
    (let s : State := full; let m : Msg := W Ob.fault_write 1 [0x40, 0, 0x30, 3]; let a : State := s.arrived m; let d : ObjDef := D Ob.fault_write; let die : Nat := 1; let v : Nat := 0x3300040; let pos : Nat := p12 + 64; (WritesOne s m d die) ∧ (a = s.arrived m) ∧ (4096 ≤ a.lampCount die 3) ∧ (m.key = Ob.fault_write) ∧ (d.acc = .wo) ∧ (v = (a.clampVal die m.key d (decodeVal d.ty m.payload)).toNat) ∧ (pos = posOfWord v) ∧ (a.posValid die pos = true) ∧ (bits v 25 24 = 3)) ∧
    (let s : State := lamps 1; let m : Msg := W Ob.fault_write 1 [0x80, 0, 0x30, 1]; let a : State := s.arrived m; let d : ObjDef := D Ob.fault_write; let die : Nat := 1; let v : Nat := 0x1300080; let pos : Nat := p12 + 128; (WritesOne s m d die) ∧ (m.key = Ob.fault_write) ∧ (d.acc = .wo) ∧ (a = s.arrived m) ∧ (v = (a.clampVal die m.key d (decodeVal d.ty m.payload)).toNat) ∧ (pos = posOfWord v) ∧ (a.posValid die pos = false)) :=
  ⟨⟨writesOne_of (by decide +kernel), by decide +kernel⟩,
   ⟨writesOne_of (by decide +kernel), rfl, forced_count, by decide +kernel⟩,
   ⟨writesOne_of (by decide +kernel), by decide +kernel⟩⟩

theorem wit_blankLifted :
    (let s : State := fgs (lamps 1); let m : Msg := W (atIndex Ob.fg_blanked 7) 1 [1]; let a : State := s.arrived m; let d : ObjDef := D (atIndex Ob.fg_blanked 7); let die : Nat := 1; let f : Nat := 7; (WritesOne s m d die) ∧ (f < 256) ∧ (m.key = atIndex Ob.fg_blanked f) ∧ (d.acc = .w1c) ∧ (a = s.arrived m) ∧ (bit (a.clampVal die m.key d (decodeVal d.ty m.payload)).toNat 0 = true) ∧ (a.fgRule die f = false)) ∧
    (let s : State := blob ((fgs (lamps 1)).setTdie 1 fun t => { t with lamps := [(p12, { state := 1 })] }) 1 Ob.fg_map [7, 0]; let m : Msg := W (atIndex Ob.fg_blanked 7) 1 [1]; let a : State := s.arrived m; let d : ObjDef := D (atIndex Ob.fg_blanked 7); let die : Nat := 1; let f : Nat := 7; (WritesOne s m d die) ∧ (f < 256) ∧ (m.key = atIndex Ob.fg_blanked f) ∧ (d.acc = .w1c) ∧ (a = s.arrived m) ∧ (bit (a.clampVal die m.key d (decodeVal d.ty m.payload)).toNat 0 = true) ∧ (a.fgRule die f = true)) :=
  ⟨⟨writesOne_of (by decide +kernel), by decide +kernel⟩,
   ⟨writesOne_of (by decide +kernel), by decide +kernel⟩⟩

end C09

namespace C12

def mm (f : MemSt → MemSt) (s : State := lit 1 100) : State := s.setMem 1 f
def b32 (k : Nat) : List Byte := List.replicate 32 (byteOf k)
def dr (st : Nat) (f : DramCh → DramCh := id) : State := ((((lit 1 100).put 1 (Ob.dram_state) st).put 1 (Ob.dram_size_mb) 1024) |> fun s => s.setChan 1 0 f) |> fun s => { s with now := 10 ^ 12 }
def rq (m a : Nat) (d : Option (List (Option Byte)) := none) (since : Nat := 5) : DramReq := { master := m, addr := a, data := d, since := since }
def ent (a : Nat) (d : Option (List (Option Byte)) := none) : DramEnt := { master := 2, addr := a, data := d, seq := 0 }
def tim : SlotTiming := { ready := List.range 128, actsInFaw := 0, trrdOk := List.range 16 }
def wr64 : List (Option Byte) := (List.range 64).map fun k => if k < 3 then some (byteOf 7) else none

theorem wit_sramServed :
    (let s : State := mm fun m => { m with sram := [(63, byteOf 3), (96, byteOf 4)] }; let die : Nat := 1; let r : SramReq := { port := 3, addr := 64, data := some (b32 9) }; let w : Nat := sramWord r; let bs := (r.data).get!; (OneSram s die r) ∧ (w = sramWord r) ∧ (s.nat die (Ob.sram_slice_state + w / 65536) = 0) ∧ ((s.memOf die).bist.lock = none) ∧ (r.data = some bs) ∧ (bs.length = 32)) ∧
    (let s : State := mm fun m => { m with sram := [(64, byteOf 3), (96, byteOf 4)] }; let die : Nat := 1; let r : SramReq := { port := 6, addr := 64, data := none }; let w : Nat := sramWord r; (OneSram s die r) ∧ (w = sramWord r) ∧ (s.nat die (Ob.sram_slice_state + w / 65536) = 0) ∧ ((s.memOf die).bist.lock = none) ∧ (r.data = none)) ∧
    (let s : State := { (lit 1 100).put 1 (Ob.sram_slice_state + 0) 1 with now := 40 }; let die : Nat := 1; let r : SramReq := { port := 6, addr := 64, data := none }; let w : Nat := sramWord r; (OneSram s die r) ∧ (w = sramWord r) ∧ (s.nat die (Ob.sram_slice_state + w / 65536) = 1)) ∧
    (let s : State := mm fun m => { m with bist := { m.bist with lock := some (2, 500) } }; let die : Nat := 1; let r : SramReq := { port := 6, addr := 64, data := none }; let w : Nat := sramWord r; let ends := ((s.memOf die).bist.lock).get!.2; (OneSram s die r) ∧ (w = sramWord r) ∧ (s.nat die (Ob.sram_slice_state + w / 65536) = 0) ∧ ((s.memOf die).bist.lock = some (w, ends)) ∧ (s.now < ends)) :=
  ⟨⟨oneSram_of (by decide +kernel), by decide +kernel⟩,
   ⟨oneSram_of (by decide +kernel), by decide +kernel⟩,
   ⟨oneSram_of (by decide +kernel), by decide +kernel⟩,
   ⟨oneSram_of (by decide +kernel), by decide +kernel⟩⟩

theorem wit_sramMeets :
    (let s : State := mm fun m => { m with sram := [(64, byteOf 3), (96, byteOf 4)] }; let die : Nat := 1; let r : SramReq := { port := 6, addr := 64, data := none }; let q : SramReq := { port := 7, addr := 64, data := none }; let w : Nat := sramWord r; (OneSram s die r) ∧ (q.port < 16) ∧ (s.presents die q = true) ∧ (r.port < q.port) ∧ (w = sramWord r) ∧ (sramWord q = w) ∧ (s.nat die (Ob.sram_slice_state + w / 65536) = 0) ∧ ((s.memOf die).bist.lock = none) ∧ (r.data = none) ∧ (q.data = none)) ∧
    (let s : State := mm fun m => { m with sram := [(64, byteOf 3), (96, byteOf 4)] }; let die : Nat := 1; let r : SramReq := { port := 6, addr := 64, data := some (b32 9) }; let q : SramReq := { port := 7, addr := 64, data := none }; let w : Nat := sramWord r; let bs := (r.data).get!; (OneSram s die r) ∧ (q.port < 16) ∧ (s.presents die q = true) ∧ (r.port < q.port) ∧ (w = sramWord r) ∧ (sramWord q = w) ∧ (s.nat die (Ob.sram_slice_state + w / 65536) = 0) ∧ ((s.memOf die).bist.lock = none) ∧ (r.data = some bs) ∧ (bs.length = 32)) ∧
    (let s : State := mm fun m => { m with sram := [(64, byteOf 3), (96, byteOf 4)] }; let die : Nat := 1; let r : SramReq := { port := 6, addr := 64, data := none }; let q : SramReq := { port := 7, addr := 64, data := some (b32 8) }; let w : Nat := sramWord r; let bs := (q.data).get!; (OneSram s die r) ∧ (q.port < 16) ∧ (s.presents die q = true) ∧ (r.port < q.port) ∧ (w = sramWord r) ∧ (sramWord q = w) ∧ (s.nat die (Ob.sram_slice_state + w / 65536) = 0) ∧ ((s.memOf die).bist.lock = none) ∧ (r.data = none) ∧ (q.data = some bs) ∧ (bs.length = 32)) :=
  ⟨⟨oneSram_of (by decide +kernel), by decide +kernel⟩,
   ⟨oneSram_of (by decide +kernel), by decide +kernel⟩,
   ⟨oneSram_of (by decide +kernel), by decide +kernel⟩⟩

theorem wit_sliceRetains :
    (let s : State := (lit 1 100).put 1 (Ob.sram_slice_mode + 7) 0; let die : Nat := 1; let n : Nat := 7; (UpDie s die) ∧ (die < s.dies) ∧ (n < 8) ∧ (s.nat die (Ob.sram_slice_mode + n) = 0)) ∧
    (let s : State := mm (fun m => { m with sram := [(5, byteOf 3), (7 * 2097152, byteOf 4)] }) ((lit 1 100).put 1 (Ob.sram_slice_mode + 7) 2); let die : Nat := 1; let n : Nat := 7; (UpDie s die) ∧ (die < s.dies) ∧ (n < 8) ∧ (s.nat die (Ob.sram_slice_mode + n) ≠ 0) ∧ (s.lockedIn die n = false) ∧ (n ∉ s.heldSlices die) ∧ (s.nat die (Ob.sram_slice_state + n) ≠ 2)) ∧
    (let s : State := { mm (fun m => { m with sram := [(5, byteOf 3), (7 * 2097152, byteOf 4)] }) (((lit 1 100).put 1 (Ob.sram_slice_mode) 1).put 1 (atIndex Ob.rg_profile 2) 255) with now := 10 ^ 12 }; let die : Nat := 1; let n : Nat := 0; (UpDie s die) ∧ (die < s.dies) ∧ (n < 8) ∧ (s.nat die (Ob.sram_slice_mode + n) ≠ 0) ∧ (s.lockedIn die n = false) ∧ (n ∈ s.heldSlices die) ∧ (s.nat die (Ob.sram_slice_state + n) = 0) ∧ (∀ g, g ∈ s.groupsUsed die → s.grp die g Ob.rg_state = 1 → n ∉ s.storeSlices die g) ∧ (s.past (smGet 0 (s.memOf die).sliceAt n) (s.nat die Ob.sram_ret_idle_us * 1000) = true)) :=
  ⟨⟨upDie_of (by decide +kernel), by decide +kernel⟩,
   ⟨upDie_of (by decide +kernel), by decide +kernel⟩,
   ⟨upDie_of (by decide +kernel), by decide +kernel⟩⟩

theorem wit_sliceWakes :
    (let s : State := mm (fun m => { m with wakeAt := [(3, 50)] }) { (lit 1 100).put 1 (Ob.sram_slice_state + 3) 3 with now := 50 }; let die : Nat := 1; let n : Nat := 3; (UpDie s die) ∧ (die < s.dies) ∧ (n < 8) ∧ (s.nat die (Ob.sram_slice_state + n) = 3) ∧ (smGet 0 (s.memOf die).wakeAt n ≤ s.now)) ∧
    (let s : State := mm (fun m => { m with wakeAt := [(3, 50)] }) { (lit 1 100).put 1 (Ob.sram_slice_state + 3) 3 with now := 49 }; let die : Nat := 1; let n : Nat := 3; (UpDie s die) ∧ (die < s.dies) ∧ (n < 8) ∧ (s.nat die (Ob.sram_slice_state + n) = 3) ∧ (s.now < smGet 0 (s.memOf die).wakeAt n)) :=
  ⟨⟨upDie_of (by decide +kernel), by decide +kernel⟩,
   ⟨upDie_of (by decide +kernel), by decide +kernel⟩⟩

theorem wit_sliceModeSet :
    (let s : State := ((lit 1 100).put 1 (Ob.sram_slice_state + 3) 1).put 1 (Ob.sram_slice_mode + 3) 1; let m : Msg := W (Ob.sram_slice_mode + 3) 1 [0]; let a : State := s.arrived m; let d : ObjDef := D (Ob.sram_slice_mode + 3); let die : Nat := 1; let n : Nat := 3; let v : Nat := 0; (WritesOne s m d die) ∧ (n < 8) ∧ (m.key = Ob.sram_slice_mode + n) ∧ (d.acc = .rw) ∧ (a = s.arrived m) ∧ ((v : Int) = a.clampVal die m.key d (decodeVal d.ty m.payload)) ∧ (v = 0) ∧ (a.nat die (Ob.sram_slice_state + n) = 1 ∨ a.nat die (Ob.sram_slice_state + n) = 2)) ∧
    (let s : State := lit 1 100; let m : Msg := W (Ob.sram_slice_mode + 7) 1 [1]; let a : State := s.arrived m; let d : ObjDef := D (Ob.sram_slice_mode + 7); let die : Nat := 1; let n : Nat := 7; let v : Nat := 1; (WritesOne s m d die) ∧ (n < 8) ∧ (m.key = Ob.sram_slice_mode + n) ∧ (d.acc = .rw) ∧ (a = s.arrived m) ∧ ((v : Int) = a.clampVal die m.key d (decodeVal d.ty m.payload)) ∧ (v ≠ 0) ∧ (n ∉ a.usedSlices die)) ∧
    (let s : State := lit 1 100; let m : Msg := W (Ob.sram_slice_mode + 0) 1 [2]; let a : State := s.arrived m; let d : ObjDef := D (Ob.sram_slice_mode + 0); let die : Nat := 1; let n : Nat := 0; let v : Nat := 2; (WritesOne s m d die) ∧ (n < 8) ∧ (m.key = Ob.sram_slice_mode + n) ∧ (d.acc = .rw) ∧ (a = s.arrived m) ∧ ((v : Int) = a.clampVal die m.key d (decodeVal d.ty m.payload)) ∧ (v ≠ 0) ∧ (n ∈ a.usedSlices die)) :=
  ⟨⟨writesOne_of (by decide +kernel), by decide +kernel⟩,
   ⟨writesOne_of (by decide +kernel), by decide +kernel⟩,
   ⟨writesOne_of (by decide +kernel), by decide +kernel⟩⟩

theorem wit_wordTested :
    (let s : State := mm (fun m => { m with bist := { m.bist with next := 70 } }) { (lit 1 100).put 1 Ob.sram_bist_mode 1 with now := 1000 }; let die : Nat := 1; let w : Nat := 70; (UpDie s die) ∧ (die < s.dies) ∧ (s.nat die Ob.sram_bist_mode ≠ 0) ∧ ((s.memOf die).bist.over_ = false) ∧ ((s.memOf die).bist.nextAt ≤ s.now) ∧ (s.bistNext die (s.memOf die).bist.next = some w) ∧ (s.past (smGet 0 (s.memOf die).bankAt (w % 64)) (s.coreNs die 8) = true)) ∧
    (let s : State := mm (fun m => { m with bist := { m.bist with next := 70 } }) { (lit 1 100).put 1 Ob.sram_bist_mode 0 with now := 1000 }; let die : Nat := 1; (UpDie s die) ∧ (die < s.dies) ∧ (s.nat die Ob.sram_bist_mode = 0)) :=
  ⟨⟨upDie_of (by decide +kernel), by decide +kernel⟩,
   ⟨upDie_of (by decide +kernel), by decide +kernel⟩⟩

theorem wit_bistStops :
    (let s : State := (lit 1 100).put 1 Ob.sram_bist_mode 1; let m : Msg := W Ob.sram_bist_mode 1 [0]; let a : State := s.arrived m; let d : ObjDef := D Ob.sram_bist_mode; let die : Nat := 1; (BistWrite s a m d die 0) ∧ (leAt m.payload 0 1 = 0)) :=
  ⟨bistWrite_of (by decide +kernel), by decide +kernel⟩

theorem wit_bistRuns :
    (let s : State := mm (fun m => { m with bist := { m.bist with next := 70 } }) ((lit 1 100).put 1 Ob.sram_bist_mode 0); let m : Msg := W Ob.sram_bist_mode 1 [1]; let a : State := s.arrived m; let d : ObjDef := D Ob.sram_bist_mode; let die : Nat := 1; (BistWrite s a m d die 1) ∧ (leAt m.payload 0 1 = 1 ∨ 2 < leAt m.payload 0 1)) :=
  ⟨bistWrite_of (by decide +kernel), by decide +kernel⟩

theorem wit_bistOnce :
    (let s : State := mm (fun m => { m with bist := { m.bist with next := 70 } }) ((lit 1 100).put 1 Ob.sram_bist_mode 2); let m : Msg := W Ob.sram_bist_mode 1 [2]; let a : State := s.arrived m; let d : ObjDef := D Ob.sram_bist_mode; let die : Nat := 1; (BistWrite s a m d die 2) ∧ (leAt m.payload 0 1 = 2)) :=
  ⟨bistWrite_of (by decide +kernel), by decide +kernel⟩

theorem wit_roundGrants :
    (let s : State := dr 1; let die : Nat := 1; let c : Nat := 0; let reqs : List DramReq := [rq 3 0 none 9, rq 4 64 none 8]; let b : State := roundAt s 1 0 reqs; let r := (b.pickReq die ((b.chan die c).waiting.filter (b.servedNow die))).get!; (UpDie s die) ∧ (c < 2) ∧ (b = roundAt s die c reqs) ∧ (∀ q, q ∈ reqs → s.reqFitted die c q = true) ∧ (b.grants die c = true) ∧ (b.pickReq die ((b.chan die c).waiting.filter (b.servedNow die)) = some r) ∧ ((b.chan die c).inFlight + (b.accesses die c r).length ≤ 1024)) ∧
    (let s : State := dr 1; let die : Nat := 1; let c : Nat := 0; let reqs : List DramReq := [rq 3 (2 ^ 39) none 9]; let b : State := roundAt s 1 0 reqs; (UpDie s die) ∧ (c < 2) ∧ (b = roundAt s die c reqs) ∧ (∃ q, q ∈ reqs ∧ s.reqFitted die c q = false)) :=
  ⟨⟨upDie_of (by decide +kernel), by decide +kernel⟩,
   ⟨upDie_of (by decide +kernel), by decide +kernel⟩⟩

theorem wit_roundOrder :
    (let s : State := { (dr 1).put 1 (Ob.dram_prio + 5) 3 with now := 6 }; let die : Nat := 1; let l : List DramReq := [rq 3 0 none 1, rq 5 64 none 5, rq 4 64 none 4]; let r : DramReq := rq 5 64 none 5; s.pickReq die l = some r) :=
  by decide +kernel

theorem wit_commandIssued :
    (let s : State := dr 1 fun h => { h with banks := [(0, [ent 0 (some wr64)])], rows := [(0, some 0)] }; let a : State := s.settle 1 0; let die : Nat := 1; let c : Nat := 0; let b : Nat := 0; let t : SlotTiming := tim; let e : DramEnt := ent 0 (some wr64); let bs := (e.data).get!; (UpDie s die) ∧ (a = s.settle die c) ∧ (s.chState die c = 1) ∧ (offered a die c t = [(b, e)]) ∧ (a.isHit die c b e = true) ∧ ((s.memOf die).ecc = false) ∧ (e.data = some bs)) ∧
    (let s : State := dr 1 fun h => { h with banks := [(0, [ent 0 (some wr64)])] }; let a : State := s.settle 1 0; let die : Nat := 1; let c : Nat := 0; let b : Nat := 0; let t : SlotTiming := tim; let e : DramEnt := ent 0 (some wr64); (UpDie s die) ∧ (a = s.settle die c) ∧ (s.chState die c = 1) ∧ (offered a die c t = [(b, e)]) ∧ (a.isHit die c b e = false) ∧ (b < 16) ∧ (a.openRow die c b = none) ∧ (t.actsInFaw < 4) ∧ (b ∈ t.trrdOk)) ∧
    (let s : State := dr 1 fun h => { h with banks := [(0, [ent 0 (some wr64)])], rows := [(0, some 7)] }; let a : State := s.settle 1 0; let die : Nat := 1; let c : Nat := 0; let b : Nat := 0; let t : SlotTiming := tim; let e : DramEnt := ent 0 (some wr64); let r := (a.openRow die c b).get!; (UpDie s die) ∧ (a = s.settle die c) ∧ (s.chState die c = 1) ∧ (offered a die c t = [(b, e)]) ∧ (a.isHit die c b e = false) ∧ (b < 16) ∧ (a.openRow die c b = some r) ∧ (r ≠ s.rowOf die e.addr)) ∧
    (let s : State := dr 2 fun h => { h with banks := [(0, [ent 0 (some wr64)])], rows := [(0, some 7)] }; let a : State := s.settle 1 0; let die : Nat := 1; let c : Nat := 0; (UpDie s die) ∧ (a = s.settle die c) ∧ (s.chState die c ≠ 1)) :=
  ⟨⟨upDie_of (by decide +kernel), by decide +kernel⟩,
   ⟨upDie_of (by decide +kernel), by decide +kernel⟩,
   ⟨upDie_of (by decide +kernel), by decide +kernel⟩,
   ⟨upDie_of (by decide +kernel), by decide +kernel⟩⟩

theorem wit_bankRefreshed :
    (let s : State := dr 1 fun h => { h with rows := [(0, some 7), (3, some 2)] }; let die : Nat := 1; let c : Nat := 0; let b : Nat := 0; (UpDie s die) ∧ (b < 16) ∧ (s.grants die c = true)) ∧
    (let s : State := dr 3 fun h => { h with rows := [(0, some 7), (3, some 2)] }; let die : Nat := 1; let c : Nat := 0; let b : Nat := 0; (UpDie s die) ∧ (b < 16) ∧ (s.chState die c = 3)) :=
  ⟨⟨upDie_of (by decide +kernel), by decide +kernel⟩,
   ⟨upDie_of (by decide +kernel), by decide +kernel⟩⟩

theorem wit_masterIsReset :
    (let s : State := dr 1 fun h => { h with waiting := [rq 3 0 none 9, rq 4 64 none 8], holder := some (rq 3 0 (some wr64)) }; let die : Nat := 1; UpDie s die) :=
  upDie_of (by decide +kernel)

theorem wit_refreshEntered :
    (let s : State := dr 2; let die : Nat := 1; let c : Nat := 0; (UpDie s die) ∧ (c < 2) ∧ (s.grants die c = true) ∧ (s.chIdle die c = true) ∧ (s.past (s.chan die c).idleAt (s.nat die Ob.dram_sr_idle_ns) = true) ∧ (s.tolerates die c = true)) ∧
    (let s : State := (dr 2).put 1 Ob.raster_tolerance_ns 5; let die : Nat := 1; let c : Nat := 0; (UpDie s die) ∧ (c < 2) ∧ (s.grants die c = true) ∧ (s.chIdle die c = true) ∧ (s.past (s.chan die c).idleAt (s.nat die Ob.dram_sr_idle_ns) = true) ∧ (s.tolerates die c = false) ∧ ((s.chan die c).refused = false)) ∧
    (let s : State := dr 2 fun h => { h with waiting := [rq 3 0 none 9] }; let die : Nat := 1; let c : Nat := 0; (UpDie s die) ∧ (c < 2) ∧ (s.grants die c = true) ∧ (s.chIdle die c = false)) :=
  ⟨⟨upDie_of (by decide +kernel), by decide +kernel⟩,
   ⟨upDie_of (by decide +kernel), by decide +kernel⟩,
   ⟨upDie_of (by decide +kernel), by decide +kernel⟩⟩

theorem wit_refreshLeft :
    (let s : State := dr 3 fun h => { h with waiting := [rq 3 0 none 9], pend := [1, 0, -1, 2, 0, 0, 70000, 0] }; let die : Nat := 1; let c : Nat := 0; (UpDie s die) ∧ (c < 2) ∧ (s.chState die c = 3) ∧ ((s.chan die c).waiting ≠ [] ∨ s.memTolerance die ≤ s.nat die (Ob.dram_sr_exit_ns + c) + s.nat die Ob.dram_sr_margin_ns) ∧ ((s.chan die c).pend.length ≤ 12)) ∧
    (let s : State := dr 3; let die : Nat := 1; let c : Nat := 0; (UpDie s die) ∧ (c < 2) ∧ (s.chState die c = 3) ∧ ((s.chan die c).waiting = []) ∧ (s.nat die (Ob.dram_sr_exit_ns + c) + s.nat die Ob.dram_sr_margin_ns < s.memTolerance die) ∧ (s.launchNear die c = false)) :=
  ⟨⟨upDie_of (by decide +kernel), by decide +kernel⟩,
   ⟨upDie_of (by decide +kernel), by decide +kernel⟩⟩

theorem wit_driftChecked :
    (let s : State := dr 1; let die : Nat := 1; let c : Nat := 0; (UpDie s die) ∧ (die < s.dies) ∧ (s.chState die c ≠ 5) ∧ (s.chState die c ≠ 0) ∧ (s.due (s.chan die c).driftAt 10000000 = true)) ∧
    (let s : State := dr 1 fun h => { h with pend := [1], pendAt := 77, driftAt := some (10 ^ 12 - 5) }; let die : Nat := 1; let c : Nat := 0; (UpDie s die) ∧ (die < s.dies) ∧ (s.chState die c ≠ 5) ∧ (s.chState die c ≠ 0) ∧ (s.due (s.chan die c).driftAt 10000000 = false)) :=
  ⟨⟨upDie_of (by decide +kernel), by decide +kernel⟩,
   ⟨upDie_of (by decide +kernel), by decide +kernel⟩⟩

theorem wit_exitForced :
    (let s : State := dr 1 fun h => { h with pend := [1], pendAt := 77, banks := [(0, [ent 0 (some wr64)])], rows := [(0, some 7)] }; let die : Nat := 1; let c : Nat := 0; (UpDie s die) ∧ (c < 2) ∧ (s.pendFor die c 0 = true) ∧ (s.grants die c = true) ∧ (s.tolerates die c = true)) ∧
    (let s : State := dr 1 fun h => { h with pend := [1], pendAt := 10 ^ 12 }; let die : Nat := 1; let c : Nat := 0; (UpDie s die) ∧ (c < 2) ∧ (s.pendFor die c 0 = false)) :=
  ⟨⟨upDie_of (by decide +kernel), by decide +kernel⟩,
   ⟨upDie_of (by decide +kernel), by decide +kernel⟩⟩

theorem wit_delayFlagged :
    (let s : State := dr 1 fun h => { h with pend := [1], pendAt := 77 }; let die : Nat := 1; let c : Nat := 0; (UpDie s die) ∧ (s.pendFor die c 1000 = true)) ∧
    (let s : State := dr 1 fun h => { h with pend := [1], pendAt := 10 ^ 12 }; let die : Nat := 1; let c : Nat := 0; (UpDie s die) ∧ (s.pendFor die c 1000 = false)) :=
  ⟨⟨upDie_of (by decide +kernel), by decide +kernel⟩,
   ⟨upDie_of (by decide +kernel), by decide +kernel⟩⟩

theorem wit_sweepBegins :
    (let s : State := lit 1 100; let m : Msg := W Ob.dram_maint_sweep 1 [1]; let a : State := s.arrived m; let d : ObjDef := D Ob.dram_maint_sweep; let die : Nat := 1; (WritesOne s m d die) ∧ (m.key = Ob.dram_maint_sweep) ∧ (d.acc = .wo) ∧ (a = s.arrived m) ∧ (a.clampVal die m.key d (decodeVal d.ty m.payload) = 1) ∧ (a.nat die Ob.dram_sweep_status ≠ 1) ∧ (a.sweepIdle die = true)) ∧
    (let s : State := (lit 1 100).put 1 (atIndex Ob.rg_state 2) 1; let m : Msg := W Ob.dram_maint_sweep 1 [1]; let a : State := s.arrived m; let d : ObjDef := D Ob.dram_maint_sweep; let die : Nat := 1; (WritesOne s m d die) ∧ (m.key = Ob.dram_maint_sweep) ∧ (d.acc = .wo) ∧ (a = s.arrived m) ∧ (a.clampVal die m.key d (decodeVal d.ty m.payload) = 1) ∧ (a.nat die Ob.dram_sweep_status ≠ 1) ∧ (a.sweepIdle die = false)) ∧
    (let s : State := (lit 1 100).put 1 Ob.dram_sweep_status 1; let m : Msg := W Ob.dram_maint_sweep 1 [1]; let a : State := s.arrived m; let d : ObjDef := D Ob.dram_maint_sweep; let die : Nat := 1; (WritesOne s m d die) ∧ (m.key = Ob.dram_maint_sweep) ∧ (d.acc = .wo) ∧ (a = s.arrived m) ∧ (a.clampVal die m.key d (decodeVal d.ty m.payload) = 1) ∧ (a.nat die Ob.dram_sweep_status = 1)) :=
  ⟨⟨writesOne_of (by decide +kernel), by decide +kernel⟩,
   ⟨writesOne_of (by decide +kernel), by decide +kernel⟩,
   ⟨writesOne_of (by decide +kernel), by decide +kernel⟩⟩

theorem wit_sweepEnds :
    (let s : State := (lit 1 100).put 1 Ob.dram_sweep_status 1; let die : Nat := 1; let found : List SweepLane := [⟨100, 100, 20, 1⟩, ⟨101, 100, 20, 2⟩, ⟨102, 100, 20, -70⟩, ⟨103, 100, 20, 64⟩, ⟨100, 100, 20, 5⟩, ⟨101, 100, 20, 6⟩, ⟨102, 100, 20, 7⟩, ⟨103, 100, 20, 8⟩]; (UpDie s die) ∧ (die < s.dies) ∧ (s.nat die Ob.dram_sweep_status = 1) ∧ (8 ≤ found.length)) ∧
    (let s : State := (lit 1 100).put 1 Ob.dram_sweep_status 1; let die : Nat := 1; let found : List SweepLane := [⟨100, 100, 20, 1⟩, ⟨101, 100, 20, 2⟩]; (UpDie s die) ∧ (die < s.dies) ∧ (s.nat die Ob.dram_sweep_status = 1) ∧ (found.length < 8)) ∧
    (let s : State := lit 1 100; let die : Nat := 1; (UpDie s die) ∧ (die < s.dies) ∧ (s.nat die Ob.dram_sweep_status ≠ 1)) :=
  ⟨⟨upDie_of (by decide +kernel), by decide +kernel⟩,
   ⟨upDie_of (by decide +kernel), by decide +kernel⟩,
   ⟨upDie_of (by decide +kernel), by decide +kernel⟩⟩

end C12

namespace C13

def env0 : BootEnv := { bootsel := 0, role := false, flashMb := (128, 128), flashMode := 1, braidDies := [1, 2, 3], dramFails := [], dramMb := 1024, vddio := [], imageOk := [true, false, true], image := (77, 3), bootMs := [1, 2, 3] }
def bsel (n : Nat) (ok : List Bool := [true]) : BootEnv := { env0 with bootsel := n, imageOk := ok }
def heldS : State := { State.reset with now := 500 }
def at12 (s : State) : State := { s with now := 10 ^ 12 }
def sup0 : State := at12 s0
def two : State := { sup0 with fuses := { variant := 0x81, rev := 0xA0, mac := 0x123456 } }
/-- a ring head, its peer 9 by port 4 -/
def ring (st : Nat) : State := { ((((head.set Ob.red_ring_port 4).set Ob.red_peer_node 9).set Ob.red_head_state st)) with now := 10 ^ 12, enums := [(4, [9])] }
def jc (msg id epoch seq at_ : Nat) (data : List Byte := []) (st : Nat := 1) : Cell := mkCell 4 0 5 0 (leBytes 1 msg ++ leBytes 1 st ++ leBytes 2 9 ++ leBytes 4 id ++ leBytes 4 epoch ++ leBytes 4 seq ++ layBytes at_ ++ leBytes 2 data.length ++ leBytes 2 0 ++ data)
def peerc (s : State) (p : Nat) : State := s.cellArrives p
def jent : JEnt := { key := Ob.node_id, value := .num 5, size := 2 }
def jour (s : State := sup0) (f : JournalSt → JournalSt := id) : State := { s.set Ob.silt_flash_mb 128 with journal := f { s.journal with queue := [jent] } }
def image : State := { (at12 s0).set Ob.upd_state 1 with upd := { bits := 1, passed := true } }
def cold (s : State) : State := { s with fw := 0 }
def acting : State := { at12 s0 with fw := 254, upd := { act := some { at_ := 5, since := 10 ^ 12 - 1000, serves := 254 }, prev := (11, 12, 1) } }
def rec13 : State := { at12 s0 with boot := { held := false, recovery := true, dhcpAt := some 5 }, fuses := { mac := 0x110000 } }
def rx (k : Nat) : State := { at12 s0 with therm := [(1, { overs := [(2, k)] })] }
def hdr (n : Nat) : List Byte := List.replicate 20 (byteOf 1) ++ leBytes 4 n ++ List.replicate 52 (byteOf 1)
def img1 (ok : Bool) : SMap Byte := smPutAll 0 [] 0 (hdr 520 ++ (if ok then sha384 (List.replicate 8 (byteOf 1)) else List.replicate 48 (byteOf 1)) ++ List.replicate 396 (byteOf 1))
def whole (ok : Bool) : State := { (at12 s0).set Ob.upd_state 2 with upd := { bits := 1, passed := true, img := img1 ok }, journal := { (jour).journal with open_ := true } }
def stby : State := { ((two.set Ob.fwd_up_port 16)) with ports := [(0, { inService := true }), (16, { inService := true })] }

theorem wit_clockFaults :
    (let s : State := (at12 s0).put 1 Ob.refclk_valid 3; let die : Nat := 1; let which : Nat := 1; (UpDie s die) ∧ (which < 2) ∧ (s.nat die Ob.refclk_active ≠ which)) ∧
    (let s : State := (at12 s0).put 1 Ob.refclk_valid 3; let die : Nat := 1; let which : Nat := 0; (UpDie s die) ∧ (which < 2) ∧ (s.nat die Ob.refclk_active = which) ∧ (s.on die Ob.refclk_valid (1 - which) = true)) ∧
    (let s : State := (at12 s0).put 1 Ob.refclk_valid 1; let die : Nat := 1; let which : Nat := 0; (UpDie s die) ∧ (which < 2) ∧ (s.nat die Ob.refclk_active = which) ∧ (s.on die Ob.refclk_valid (1 - which) = false)) :=
  ⟨⟨upDie_of (by decide +kernel), by decide +kernel⟩,
   ⟨upDie_of (by decide +kernel), by decide +kernel⟩,
   ⟨upDie_of (by decide +kernel), by decide +kernel⟩⟩

theorem wit_ratesChecked :
    (let s : State := { (at12 s0).put 1 Ob.refclk_valid 3 with clks := [(1, { rateAt := some (10 ^ 12) })] }; let die : Nat := 1; (UpDie s die) ∧ (s.due (s.clk die).rateAt 10000000 = false)) ∧
    (let s : State := { ((at12 s0).put 1 Ob.refclk_valid 3) with clks := [(1, { rateAt := some 10 })] }; let die : Nat := 1; (UpDie s die) ∧ (s.due (s.clk die).rateAt 10000000 = true) ∧ (s.hasWitness = false)) ∧
    (let s : State := ((at12 s0).put 1 Ob.refclk_valid 3).set Ob.lay_state layLocked; let die : Nat := 1; let a : Int := 1000000000; let b : Int := 5; (UpDie s die) ∧ (s.due (s.clk die).rateAt 10000000 = true) ∧ (s.hasWitness = true) ∧ ((s.nat die Ob.refclk_rate_ppm : Int) * 1000 < a.natAbs) ∧ ((b.natAbs : Int) ≤ (s.nat die Ob.refclk_rate_ppm : Int) * 1000)) :=
  ⟨⟨upDie_of (by decide +kernel), by decide +kernel⟩,
   ⟨upDie_of (by decide +kernel), by decide +kernel⟩,
   ⟨upDie_of (by decide +kernel), by decide +kernel⟩⟩

theorem wit_clockValid :
    (let s : State := (at12 s0).put 1 Ob.refclk_valid 1; let die : Nat := 1; let which : Nat := 1; (UpDie s die) ∧ (which < 2) ∧ (s.on die Ob.refclk_valid which = false) ∧ (s.past (smGet 0 (s.clk die).faultAt which) 10000000 = true)) ∧
    (let s : State := { (at12 s0).put 1 Ob.refclk_valid 1 with clks := [(1, { faultAt := [(1, 10 ^ 12 - 5)] })] }; let die : Nat := 1; let which : Nat := 1; (UpDie s die) ∧ (which < 2) ∧ (s.on die Ob.refclk_valid which = false) ∧ (s.past (smGet 0 (s.clk die).faultAt which) 10000000 = false)) ∧
    (let s : State := (((at12 s0).put 1 Ob.refclk_valid 3).put 1 Ob.refclk_active 1).put 1 Ob.refclk_revert 1; let die : Nat := 1; let which : Nat := 0; (UpDie s die) ∧ (which < 2) ∧ (s.on die Ob.refclk_valid which = true) ∧ (s.on die Ob.refclk_revert = true) ∧ (s.nat die Ob.refclk_sel = which) ∧ (s.nat die Ob.refclk_active = 1 - which) ∧ (s.past (smGet 0 (s.clk die).validAt which) 10000000 = true)) :=
  ⟨⟨upDie_of (by decide +kernel), by decide +kernel⟩,
   ⟨upDie_of (by decide +kernel), by decide +kernel⟩,
   ⟨upDie_of (by decide +kernel), by decide +kernel⟩⟩

theorem wit_pllsResume :
    (let s : State := ((at12 s0).put 1 Ob.refclk_valid 2).put 1 Ob.refclk_active 2; let die : Nat := 1; (UpDie s die) ∧ (s.nat die Ob.refclk_active = 2) ∧ (s.nat die Ob.refclk_valid ≠ 0)) ∧
    (let s : State := ((at12 s0).put 1 Ob.refclk_valid 0).put 1 Ob.refclk_active 2; let die : Nat := 1; (UpDie s die) ∧ (s.nat die Ob.refclk_active = 2) ∧ (s.nat die Ob.refclk_valid = 0)) :=
  ⟨⟨upDie_of (by decide +kernel), by decide +kernel⟩,
   ⟨upDie_of (by decide +kernel), by decide +kernel⟩⟩

theorem wit_bootRuns :
    (let s : State := s0; (∀ t0, s.boot.heldAt = some t0 → t0 + 1000 ≤ s.now) ∧ (s.boot.held = false)) ∧
    (let s : State := heldS; let env : BootEnv := bsel 7; (∀ t0, s.boot.heldAt = some t0 → t0 + 1000 ≤ s.now) ∧ (s.boot.held = true) ∧ (env.bootsel % 8 = 7)) ∧
    (let s : State := { heldS with now := 5000, boot := { heldS.boot with heldAt := some 4000 } }; let env : BootEnv := env0; (BlankJournal s) ∧ (∀ t0, s.boot.heldAt = some t0 → t0 + 1000 ≤ s.now) ∧ (s.boot.held = true) ∧ (env.bootsel % 8 = 0) ∧ (env.loads = true) ∧ (s.on 0 Ob.therm_shut_dies 0 = false) ∧ (s.bootSect.slot % 2 = 0) ∧ (env.imageOk.getD 0 false = true)) ∧
    (let s : State := heldS; let env : BootEnv := bsel 0 []; (∀ k, env.imageOk.getD k false = false) ∧ (∀ t0, s.boot.heldAt = some t0 → t0 + 1000 ≤ s.now) ∧ (s.boot.held = true) ∧ (env.bootsel % 8 = 0) ∧ (env.loads = true) ∧ (s.on 0 Ob.therm_shut_dies 0 = false)) :=
  ⟨by decide +kernel,
   by decide +kernel,
   ⟨blankJournal_of (by decide +kernel), by decide +kernel⟩,
   ⟨fun _ => rfl, by decide +kernel⟩⟩

theorem wit_warmResets :
    (let s : State := { sup0 with staged := [(3, .num 4)], boot := { sup0.boot with env := env0 } }; let ns : Nat := 1000; (BlankJournal s) ∧ (s.boot.held = false) ∧ (1000 ≤ ns)) ∧
    (let s : State := { State.reset with boot := { State.reset.boot with cause := 2 } }; let ns : Nat := 1000; (s.boot.held = true) ∧ (1000 ≤ ns)) ∧
    (let ns : Nat := 999; ns < 1000) :=
  ⟨⟨blankJournal_of (by decide +kernel), by decide +kernel⟩,
   by decide +kernel,
   by decide +kernel⟩

theorem wit_partResets :
    (let s : State := { sup0 with staged := [(3, .num 4)], boot := { sup0.boot with env := bsel 4 } }; let m : Msg := W Ob.part_reset 0 [1]; let d : ObjDef := D Ob.part_reset; let a : State := (s.arrived m).answer 0x02 m 0 d.ty.code []; (WritesOne s m d 0) ∧ (BlankJournal s) ∧ (m.key = Ob.part_reset) ∧ (d.acc = .wo) ∧ (m.payload = [1]) ∧ (a = (s.arrived m).answer 0x02 m 0 d.ty.code [])) :=
  ⟨writesOne_of (by decide +kernel), blankJournal_of (by decide +kernel), by decide +kernel⟩

theorem wit_coresRestartAll :
    (let s : State := { sup0 with fw := 7, staged := [(3, .num 4)], boot := { sup0.boot with env := env0 } }; let m : Msg := W Ob.part_reset 0 [2]; let d : ObjDef := D Ob.part_reset; let a : State := (s.arrived m).answer 0x02 m 0 d.ty.code []; (WritesOne s m d 0) ∧ (m.key = Ob.part_reset) ∧ (d.acc = .wo) ∧ (m.payload = [2]) ∧ (a = (s.arrived m).answer 0x02 m 0 d.ty.code [])) :=
  ⟨writesOne_of (by decide +kernel), by decide +kernel⟩

theorem wit_watchdogExpires :
    (let s : State := sup0; let die : Nat := 3; (UpDie s die) ∧ (die < s.dies) ∧ (s.upd.act = none) ∧ (s.past (s.clk die).wdogAt (s.nat die Ob.wdog_ms * 1000000) = true) ∧ (die ≠ s.sup) ∧ (s.fwOn die = true)) ∧
    (let s : State := sup0; let die : Nat := 0; (UpDie s die) ∧ (CanFail s) ∧ (die < s.dies) ∧ (s.upd.act = none) ∧ (s.past (s.clk die).wdogAt (s.nat die Ob.wdog_ms * 1000000) = true) ∧ (die = 0) ∧ (s.sup = 0)) :=
  ⟨⟨upDie_of (by decide +kernel), by decide +kernel⟩,
   ⟨upDie_of (by decide +kernel), canFail_of (by decide +kernel), by decide +kernel⟩⟩

theorem wit_die1Boots :
    (let s : State := { (sup0.set Ob.dies_alive 0) with fw := 0, boot := { sup0.boot with env := env0 } }; (Up s) ∧ (BlankJournal s) ∧ (s.boot.recovery = false) ∧ (s.fw = 0) ∧ (s.pw Ob.dies_alive = 0) ∧ (s.on 0 Ob.therm_shut_dies 1 = false) ∧ (s.past s.boot.releaseAt 500000000 = true) ∧ (s.boot.env.bootsel % 8 = 0) ∧ (s.bootSect.slot % 2 = 0) ∧ (s.boot.env.imageOk.getD 2 false = true)) ∧
    (let s : State := sup0; (Up s) ∧ (s.boot.recovery = false) ∧ (s.fw ≠ 0)) :=
  ⟨⟨up_of (by decide +kernel), blankJournal_of (by decide +kernel), by decide +kernel⟩,
   ⟨up_of (by decide +kernel), by decide +kernel⟩⟩

theorem wit_heartbeatKept :
    (let s : State := sup0; (Up s) ∧ (s.fwOn s.sup = true) ∧ (s.past s.red.supAt 500000 = true)) ∧
    (let s : State := { sup0 with red := { supAt := 10 ^ 12 } }; (Up s) ∧ (s.fwOn s.sup = false ∨ s.past s.red.supAt 500000 = false)) :=
  ⟨⟨up_of (by decide +kernel), by decide +kernel⟩,
   ⟨up_of (by decide +kernel), by decide +kernel⟩⟩

theorem wit_heartbeatLost :
    (let s : State := { sup0 with red := { supAt := 10 ^ 12 } }; (Up s) ∧ (s.past s.red.supAt (s.pw Ob.red_sup_hb_ms * 1000000) = false)) ∧
    (let s : State := sup0.set Ob.red_arb_die 2; (Up s) ∧ (CanFail s) ∧ (s.past s.red.supAt (s.pw Ob.red_sup_hb_ms * 1000000) = true) ∧ (s.big = true) ∧ (s.pw Ob.red_arb_die ≠ 0xFF)) ∧
    (let s : State := stby; let up : Option Nat := some 50; let p := (s.upPort).get!; let v := (up).get!; (Up s) ∧ (CanFail s) ∧ (s.past s.red.supAt (s.pw Ob.red_sup_hb_ms * 1000000) = true) ∧ (s.big = false) ∧ (s.upPort = some p) ∧ (p / 16 ≠ s.sup) ∧ (up = some v) ∧ (s.pw Ob.red_sup_hb_ms ≤ v)) ∧
    (let s : State := stby; let up : Option Nat := some 0; let p := (s.upPort).get!; let v := (up).get!; (Up s) ∧ (s.past s.red.supAt (s.pw Ob.red_sup_hb_ms * 1000000) = true) ∧ (s.big = false) ∧ (s.upPort = some p) ∧ (p / 16 ≠ s.sup) ∧ (up = some v) ∧ (v < s.pw Ob.red_sup_hb_ms)) ∧
    (let s : State := stby; let up : Option Nat := none; let p := (s.upPort).get!; (Up s) ∧ (s.past s.red.supAt (s.pw Ob.red_sup_hb_ms * 1000000) = true) ∧ (s.big = false) ∧ (s.upPort = some p) ∧ (p / 16 ≠ s.sup) ∧ (up = none)) :=
  ⟨⟨up_of (by decide +kernel), by decide +kernel⟩,
   ⟨up_of (by decide +kernel), canFail_of (by decide +kernel), by decide +kernel⟩,
   ⟨up_of (by decide +kernel), canFail_of (by decide +kernel), by decide +kernel⟩,
   ⟨up_of (by decide +kernel), by decide +kernel⟩,
   ⟨up_of (by decide +kernel), by decide +kernel⟩⟩

theorem wit_arbiterPin :
    (let s : State := sup0.set Ob.red_arb_in_en 1; let ns : Nat := 1000; (Up s) ∧ (CanFail s) ∧ (s.on 0 Ob.red_arb_in_en = true) ∧ (1000 ≤ ns) ∧ (s.sup = 0)) ∧
    (let s : State := sup0.set Ob.red_arb_in_en 1; let ns : Nat := 999; (Up s) ∧ (s.on 0 Ob.red_arb_in_en = false ∨ ns < 1000)) :=
  ⟨⟨up_of (by decide +kernel), canFail_of (by decide +kernel), by decide +kernel⟩,
   ⟨up_of (by decide +kernel), by decide +kernel⟩⟩

theorem wit_dieRejoins :
    (let s : State := { (sup0.set Ob.dies_alive 254).set Ob.red_sup_die 1 with fw := 254, boot := { sup0.boot with heldDies := 1, env := env0 } }; let m : Msg := W Ob.red_sup_rejoin 0 [1]; let a : State := s.arrived m; let d : ObjDef := D Ob.red_sup_rejoin; let die : Nat := 0; (WritesOne s m d 0) ∧ (m.key = Ob.red_sup_rejoin) ∧ (d.acc = .wo) ∧ (a = s.arrived m) ∧ (a.clampVal 0 m.key d (decodeVal d.ty m.payload) = 1) ∧ (die = 1 - a.sup) ∧ (a.sup < 2) ∧ (bit a.boot.heldDies die = true) ∧ (a.on 0 Ob.therm_shut_dies die = false) ∧ (bit a.boot.brown die = false)) ∧
    (let s : State := { (sup0.set Ob.dies_alive 254).set Ob.red_sup_die 1 with fw := 254, boot := { sup0.boot with heldDies := 0 } }; let m : Msg := W Ob.red_sup_rejoin 0 [1]; let a : State := s.arrived m; let d : ObjDef := D Ob.red_sup_rejoin; let die : Nat := 0; (WritesOne s m d 0) ∧ (m.key = Ob.red_sup_rejoin) ∧ (d.acc = .wo) ∧ (a = s.arrived m) ∧ (a.clampVal 0 m.key d (decodeVal d.ty m.payload) = 1) ∧ (die = 1 - a.sup) ∧ (a.sup < 2) ∧ (bit a.boot.heldDies die = false)) :=
  ⟨⟨writesOne_of (by decide +kernel), by decide +kernel⟩,
   ⟨writesOne_of (by decide +kernel), by decide +kernel⟩⟩

theorem wit_ringHeartbeat :
    (let s : State := ring 1; let p : Nat := 4; (Up s) ∧ (s.isRing = true) ∧ (s.due s.red.sentAt 5000000 = true) ∧ (s.ownPort (s.pw Ob.red_peer_node) = some p)) ∧
    (let s : State := head; (Up s) ∧ (s.isRing = false ∨ s.due s.red.sentAt 5000000 = false)) :=
  ⟨⟨up_of (by decide +kernel), by decide +kernel⟩,
   ⟨up_of (by decide +kernel), by decide +kernel⟩⟩

theorem wit_heartbeatHeard :
    (let s : State := (ring 1).set Ob.red_active_since 100; let p : Nat := 4; let c : Cell := jc 1 0 7 3 99; let a : State := peerc s p; PeerCell s a p c 1) :=
  peerCell_of (by decide +kernel)

theorem wit_segmentKept :
    (let s : State := { ring 2 with red := { segs := [(0, [byteOf 1]), (1, [byteOf 2])] } }; let p : Nat := 4; let c : Cell := jc 2 0 7 0 99 [1, 2, 3]; let a : State := peerc s p; (PeerCell s a p c 2) ∧ (a.pw Ob.red_head_state = 2)) ∧
    (let s : State := ring 1; let p : Nat := 4; let c : Cell := jc 2 0 7 3 99 [1, 2, 3]; let a : State := peerc s p; (PeerCell s a p c 2) ∧ (a.pw Ob.red_head_state ≠ 2)) :=
  ⟨⟨peerCell_of (by decide +kernel), by decide +kernel⟩,
   ⟨peerCell_of (by decide +kernel), by decide +kernel⟩⟩

theorem wit_checkpointEnds :
    (let s : State := { ring 2 with red := { segs := [(0, [byteOf 1]), (1, [byteOf 2])] } }; let p : Nat := 4; let q : Nat := 4; let n : Nat := 2; let c : Cell := jc 3 0 7 2 99; let a : State := peerc s p; (PeerCell s a p c 3) ∧ (a.pw Ob.red_head_state = 2) ∧ (n = leAt c.payload 12 4) ∧ (∀ i, i < n → smGet [] a.red.segs i ≠ []) ∧ (a.ownPort (a.pw Ob.red_peer_node) = some q)) ∧
    (let s : State := { ring 2 with red := { segs := [(1, [byteOf 2])] } }; let p : Nat := 4; let n : Nat := 2; let c : Cell := jc 3 6 7 2 99; let a : State := peerc s p; (PeerCell s a p c 3) ∧ (a.pw Ob.red_head_state = 2) ∧ (n = leAt c.payload 12 4) ∧ (∃ i, i < n ∧ smGet [] a.red.segs i = [])) :=
  ⟨⟨peerCell_of (by decide +kernel), by decide +kernel⟩,
   ⟨peerCell_of (by decide +kernel), by decide +kernel⟩⟩

theorem wit_checkpointAcked :
    (let s : State := ring 1; let p : Nat := 4; let c : Cell := jc 4 6 7 2 99; let a : State := peerc s p; PeerCell s a p c 4) :=
  peerCell_of (by decide +kernel)

theorem wit_checkpointStale :
    (let s : State := { ring 2 with red := { staleAt := some 5 } }; let t0 := (s.red.staleAt).get!; (Up s) ∧ (s.red.staleAt = some t0) ∧ (s.past t0 2000000001 = true)) ∧
    (let s : State := ring 2; (Up s) ∧ (s.red.staleAt = none)) :=
  ⟨⟨up_of (by decide +kernel), by decide +kernel⟩,
   ⟨up_of (by decide +kernel), by decide +kernel⟩⟩

theorem wit_handedOver :
    (let s : State := ring 2; let p : Nat := 4; let c : Cell := jc 5 6 7 2 99; let a : State := peerc s p; (PeerCell s a p c 5) ∧ (Standby a)) ∧
    (let s : State := ring 1; let p : Nat := 4; let c : Cell := jc 5 6 7 2 99; let a : State := peerc s p; (PeerCell s a p c 5) ∧ (a.pw Ob.red_head_state ≠ 2)) :=
  ⟨⟨peerCell_of (by decide +kernel), standby_of (by decide +kernel)⟩,
   ⟨peerCell_of (by decide +kernel), by decide +kernel⟩⟩

theorem wit_headDeclared :
    (let s : State := { ring 2 with red := { heardAt := some (10 ^ 12 - 1) } }; let m : Msg := W Ob.red_declare 0 [1]; let a : State := s.arrived m; let d : ObjDef := D Ob.red_declare; (WritesOne s m d 0) ∧ (Standby a) ∧ (m.key = Ob.red_declare) ∧ (d.acc = .wo) ∧ (a = s.arrived m) ∧ (a.clampVal 0 m.key d (decodeVal d.ty m.payload) = 1)) ∧
    (let s : State := ring 1; let m : Msg := W Ob.red_declare 0 [1]; let a : State := s.arrived m; let d : ObjDef := D Ob.red_declare; (WritesOne s m d 0) ∧ (m.key = Ob.red_declare) ∧ (d.acc = .wo) ∧ (a = s.arrived m) ∧ (a.clampVal 0 m.key d (decodeVal d.ty m.payload) = 1) ∧ (a.pw Ob.red_head_state ≠ 2)) :=
  ⟨⟨writesOne_of (by decide +kernel), standby_of (by decide +kernel), by decide +kernel⟩,
   ⟨writesOne_of (by decide +kernel), by decide +kernel⟩⟩

theorem wit_declarationRepeats :
    (let s : State := { ((((at12 tile).set Ob.red_arbiter 1).set Ob.enum_pos 3).set Ob.red_arb_state 2).set Ob.red_standby_addr 0x0A000001 with red := { arbSeq := 6 } }; (Up s) ∧ (s.pw Ob.red_arb_state = 2) ∧ (s.red.arbOk = false) ∧ (s.watches = true) ∧ (s.due s.red.arbAt 5000000 = true)) ∧
    (let s : State := sup0; (Up s) ∧ (s.pw Ob.red_arb_state ≠ 2 ∨ s.red.arbOk = true)) :=
  ⟨⟨up_of (by decide +kernel), by decide +kernel⟩,
   ⟨up_of (by decide +kernel), by decide +kernel⟩⟩

theorem wit_selfDeclared :
    (let s : State := { (ring 2).set Ob.red_self_ms 100 with red := { heardAt := some 5 } }; let a := (s.red.heardAt).get!; (Up s) ∧ (Standby s) ∧ (s.pw Ob.red_self_ms ≠ 0) ∧ (s.red.heardAt = some a) ∧ (s.past a (s.pw Ob.red_self_ms * 1000000) = true)) ∧
    (let s : State := ring 2; (Up s) ∧ (s.pw Ob.red_self_ms = 0)) :=
  ⟨⟨up_of (by decide +kernel), standby_of (by decide +kernel), by decide +kernel⟩,
   ⟨up_of (by decide +kernel), by decide +kernel⟩⟩

theorem wit_joiningEnds :
    (let s : State := { ring 4 with now := 100 }; let t0 : Nat := s.joinedAt.get!; (Up s) ∧ (s.joinedAt = some t0) ∧ (s.past t0 1000000000 = false)) ∧
    (let s : State := { ring 4 with red := { heardAt := some 5, peer := 1 } }; let t0 : Nat := s.joinedAt.get!; (Up s) ∧ (s.joinedAt = some t0) ∧ (s.past t0 1000000000 = true) ∧ (s.peerServes = true)) ∧
    (let s : State := (ring 4).set Ob.red_primary 1; let t0 : Nat := s.joinedAt.get!; (Up s) ∧ (s.joinedAt = some t0) ∧ (s.past t0 1000000000 = true) ∧ (s.peerServes = false) ∧ (s.on 0 Ob.red_primary = true)) ∧
    (let s : State := ring 4; let t0 : Nat := s.joinedAt.get!; (Up s) ∧ (s.joinedAt = some t0) ∧ (s.past t0 1000000000 = true) ∧ (s.peerServes = false) ∧ (s.on 0 Ob.red_primary = false)) :=
  ⟨⟨up_of (by decide +kernel), by decide +kernel⟩,
   ⟨up_of (by decide +kernel), by decide +kernel⟩,
   ⟨up_of (by decide +kernel), by decide +kernel⟩,
   ⟨up_of (by decide +kernel), by decide +kernel⟩⟩

theorem wit_joinTimesOut :
    (let s : State := ring 4; let t0 : Nat := s.joinedAt.get!; (Up s) ∧ (s.joinedAt = some t0) ∧ (s.past t0 3000000000 = true) ∧ (s.peerServes = false)) ∧
    (let s : State := { ring 4 with now := 100 }; let t0 : Nat := s.joinedAt.get!; (Up s) ∧ (s.joinedAt = some t0) ∧ (s.past t0 3000000000 = false)) :=
  ⟨⟨up_of (by decide +kernel), by decide +kernel⟩,
   ⟨up_of (by decide +kernel), by decide +kernel⟩⟩

theorem wit_recordWritten :
    (let s : State := jour sup0 fun j => { j with queue := [] }; (Up s) ∧ (s.journal.open_ = true) ∧ (s.fwOn s.sup = true) ∧ (s.journal.queue = [])) ∧
    (let s : State := jour; let blank : Bool := true; let ok : Bool := true; let e := (s.journal.queue).head!; let rest := (s.journal.queue).tail; let a := (s.placeFor e.bytes).get!; (Up s) ∧ (s.journal.open_ = true) ∧ (s.fwOn s.sup = true) ∧ (s.journal.queue = e :: rest) ∧ (s.placeFor e.bytes = some a) ∧ (blank = true) ∧ (ok = true)) ∧
    (let s : State := jour; let ok : Bool := false; let e := (s.journal.queue).head!; let rest := (s.journal.queue).tail; let a := (s.placeFor e.bytes).get!; (Up s) ∧ (s.journal.open_ = true) ∧ (s.fwOn s.sup = true) ∧ (s.journal.queue = e :: rest) ∧ (s.placeFor e.bytes = some a) ∧ (ok = false)) :=
  ⟨⟨up_of (by decide +kernel), by decide +kernel⟩,
   ⟨up_of (by decide +kernel), by decide +kernel⟩,
   ⟨up_of (by decide +kernel), by decide +kernel⟩⟩

theorem wit_sectorTamped :
    (let s : State := jour sup0 fun j => { j with marked := [3], dirty := [3] }; let n := (s.journal.marked.find? (fun n => !(openGroup s.recs n))).get!; (Up s) ∧ (s.journal.open_ = true) ∧ (s.fwOn s.sup = true) ∧ (s.journal.marked.find? (fun n => !(openGroup s.recs n)) = some n) ∧ (∀ r, r ∈ s.recs → n ∉ r.sectors)) ∧
    (let s : State := jour sup0 fun j => { j with marked := [0], recs := [sup0.recordAt 0 4 jent], pos := 64, seq := 4 }; let n := (s.journal.marked.find? (fun n => !(openGroup s.recs n))).get!; let r := (s.recs).head!; let a := (s.placeFor r.ent.bytes).get!; (Up s) ∧ (s.journal.open_ = true) ∧ (s.fwOn s.sup = true) ∧ (s.journal.marked.find? (fun n => !(openGroup s.recs n)) = some n) ∧ (s.recs = [r]) ∧ (r.sectors = [n]) ∧ (r.ent.group = none) ∧ (r.ent.typ ≠ 6) ∧ (r.seq ≤ s.journal.seq) ∧ (s.journal.seq + 1 < 18446744073709551616) ∧ (s.placeFor r.ent.bytes = some a)) ∧
    (let s : State := jour; (Up s) ∧ (s.journal.open_ = true) ∧ (s.fwOn s.sup = true) ∧ (s.tampSector = none)) :=
  ⟨⟨up_of (by decide +kernel), by decide +kernel⟩,
   ⟨up_of (by decide +kernel), by decide +kernel⟩,
   ⟨up_of (by decide +kernel), by decide +kernel⟩⟩

theorem wit_updateAborted :
    (let s : State := image; let m : Msg := W Ob.upd_abort 0 [1]; let a : State := s.arrived m; let d : ObjDef := D Ob.upd_abort; (WritesOne s m d 0) ∧ (m.key = Ob.upd_abort) ∧ (d.acc = .wo) ∧ (a = s.arrived m) ∧ (a.clampVal 0 m.key d (decodeVal d.ty m.payload) = 1)) :=
  ⟨writesOne_of (by decide +kernel), by decide +kernel⟩

theorem wit_imageVerified :
    (let s : State := whole true; (Up s) ∧ (s.boot.recovery = false) ∧ (s.pw Ob.upd_state = 2) ∧ (s.upd.passed = true) ∧ (s.journal.open_ = true) ∧ (s.imgSegs ≤ popCount 2048 s.upd.bits)) ∧
    (let s : State := image; (Up s) ∧ (s.boot.recovery = false) ∧ (s.pw Ob.upd_state ≠ 2 ∨ s.updWhole = false ∨ s.journal.open_ = false)) :=
  ⟨⟨up_of (by decide +kernel), by decide +kernel⟩,
   ⟨up_of (by decide +kernel), by decide +kernel⟩⟩

theorem wit_firmwareServes :
    (let s : State := { at12 s0 with fw := 254 }; let die : Nat := 0; (UpDie s die) ∧ (s.boot.recovery = false) ∧ (s.fwOn die = false) ∧ (s.upd.act = none)) ∧
    (let s : State := acting; let die : Nat := 0; let a := (s.upd.act).get!; (UpDie s die) ∧ (s.boot.recovery = false) ∧ (s.fwOn die = false) ∧ (s.upd.act = some a) ∧ (s.past a.since 250000000 = false) ∧ (bit a.serves die = false) ∧ (∀ n, n < s.dies → s.alive n = true → n ≠ die → bit a.serves n = true)) ∧
    (let s : State := at12 s0; let die : Nat := 0; (UpDie s die) ∧ (s.boot.recovery = false) ∧ (s.fwOn die = true)) :=
  ⟨⟨upDie_of (by decide +kernel), by decide +kernel⟩,
   ⟨upDie_of (by decide +kernel), by decide +kernel⟩,
   ⟨upDie_of (by decide +kernel), by decide +kernel⟩⟩

theorem wit_updateReverts :
    (let s : State := { acting with upd := { acting.upd with act := some { at_ := 5, since := 5 } } }; let a := (s.upd.act).get!; (Up s) ∧ (s.upd.act = some a) ∧ (s.past a.since 250000000 = true) ∧ ((s.aliveList.all fun d => bit a.serves d) = false)) ∧
    (let s : State := acting; let a := (s.upd.act).get!; (Up s) ∧ (s.upd.act = some a) ∧ (s.past a.since 250000000 = false ∨ (s.aliveList.all fun d => bit a.serves d) = true)) ∧
    (let s : State := s0; (Up s) ∧ (s.upd.act = none)) :=
  ⟨⟨up_of (by decide +kernel), by decide +kernel⟩,
   ⟨up_of (by decide +kernel), by decide +kernel⟩,
   ⟨up_of (by decide +kernel), by decide +kernel⟩⟩

theorem wit_linkLocal :
    (let s : State := rec13; let t0 : Nat := 5; (Up s) ∧ (s.boot.recovery = true) ∧ (s.boot.dhcpAt = some t0) ∧ (s.past t0 10000000000 = true)) ∧
    (let s : State := { rec13 with now := 6 }; let t0 : Nat := 5; (Up s) ∧ (s.boot.recovery = true) ∧ (s.boot.dhcpAt = some t0) ∧ (s.past t0 10000000000 = false)) :=
  ⟨⟨up_of (by decide +kernel), by decide +kernel⟩,
   ⟨up_of (by decide +kernel), by decide +kernel⟩⟩

theorem wit_addressTaken :
    (let s : State := { at12 s0 with boot := { (at12 s0).boot with ipDhcp := true } }; (Up s) ∧ (s.boot.ipDhcp = true ∨ s.boot.recovery = true)) ∧
    (let s : State := { (at12 s0).set Ob.mgmt_ip_mode 1 with boot := { (at12 s0).boot with ipDhcp := false } }; (Up s) ∧ (s.boot.ipDhcp = false) ∧ (s.boot.recovery = false)) :=
  ⟨⟨up_of (by decide +kernel), by decide +kernel⟩,
   ⟨up_of (by decide +kernel), by decide +kernel⟩⟩

theorem wit_sensorConverts :
    (let s : State := at12 s0; let die : Nat := 1; let n : Nat := 2; let go : Bool := s.slotOpen die n; (UpDie s die) ∧ (go = s.slotOpen die n) ∧ (n < 6) ∧ (go = true)) ∧
    (let s : State := at12 s0; let die : Nat := 1; let n : Nat := 6; let go : Bool := s.slotOpen die n; (UpDie s die) ∧ (go = s.slotOpen die n) ∧ (6 ≤ n ∨ go = false)) :=
  ⟨⟨upDie_of (by decide +kernel), by decide +kernel⟩,
   ⟨upDie_of (by decide +kernel), by decide +kernel⟩⟩

theorem wit_dieShutsDown :
    (let s : State := rx 2; let die : Nat := 1; (UpDie s die) ∧ (die < s.dies) ∧ (s.on 0 Ob.therm_shut_part = false) ∧ ((s.thermOf die).overs.any (fun e => decide (2 ≤ e.2)) = true)) ∧
    (let s : State := rx 1; let die : Nat := 1; (UpDie s die) ∧ (die < s.dies) ∧ (s.on 0 Ob.therm_shut_part = false) ∧ ((s.thermOf die).overs.any (fun e => decide (2 ≤ e.2)) = false)) :=
  ⟨⟨upDie_of (by decide +kernel), by decide +kernel⟩,
   ⟨upDie_of (by decide +kernel), by decide +kernel⟩⟩

theorem wit_brokenCleared :
    (let s : State := { (at12 s0).put 1 Ob.therm_sensor_broken 6 with therm := [(1, { hist := [(1, [(5, 6)]), (2, [(5, 7)])] })] }; let m : Msg := W Ob.therm_sensor_broken 1 [4]; let a : State := s.arrived m; let d : ObjDef := D Ob.therm_sensor_broken; let die : Nat := 1; let v : Nat := 4; (WritesOne s m d die) ∧ (m.key = Ob.therm_sensor_broken) ∧ (d.acc = .w1c) ∧ (a = s.arrived m) ∧ (v = (a.clampVal die m.key d (decodeVal d.ty m.payload)).toNat)) :=
  ⟨writesOne_of (by decide +kernel), by decide +kernel⟩

theorem wit_trimsEvaluated :
    (let s : State := blob (at12 s0) 1 Ob.trim_set [2, 0, 0, 0, 0, 0, 10, 0, 0, 4, 30, 0]; let die : Nat := 1; (UpDie s die) ∧ (s.due (s.thermOf die).evalAt 10000000 = true)) ∧
    (let s : State := { at12 s0 with therm := [(1, { evalAt := some (10 ^ 12) })] }; let die : Nat := 1; (UpDie s die) ∧ (s.due (s.thermOf die).evalAt 10000000 = false)) :=
  ⟨⟨upDie_of (by decide +kernel), by decide +kernel⟩,
   ⟨upDie_of (by decide +kernel), by decide +kernel⟩⟩

theorem wit_pllTrimSteps :
    (let s : State := { at12 s0 with therm := [(1, { offs := [(17, 40)] })] }; let die : Nat := 1; (UpDie s die) ∧ (s.due (s.thermOf die).pllAt 1000000 = true)) ∧
    (let s : State := { at12 s0 with therm := [(1, { pllAt := some (10 ^ 12) })] }; let die : Nat := 1; (UpDie s die) ∧ (s.due (s.thermOf die).pllAt 1000000 = false)) :=
  ⟨⟨upDie_of (by decide +kernel), by decide +kernel⟩,
   ⟨upDie_of (by decide +kernel), by decide +kernel⟩⟩

theorem wit_offsetsReach :
    (let s : State := { at12 s0 with therm := [(1, { offs := [(21, 40)] })] }; let die : Nat := 1; (UpDie s die) ∧ (∀ n, 20 ≤ n → n < 26 → s.nat die (Ob.trim_code + n) ≤ 1023) ∧ (s.slotOpen die 6 = true ∨ s.slotOpen die 7 = true)) ∧
    (let s : State := { at12 s0 with therm := [(1, { offs := [(21, 40)], slotAt := some (2, 10 ^ 12 - 5) })] }; let die : Nat := 1; (UpDie s die) ∧ (∀ n, 20 ≤ n → n < 26 → s.nat die (Ob.trim_code + n) ≤ 1023) ∧ (s.slotOpen die 6 = false) ∧ (s.slotOpen die 7 = false)) :=
  ⟨⟨upDie_of (by decide +kernel), by decide +kernel⟩,
   ⟨upDie_of (by decide +kernel), by decide +kernel⟩⟩

theorem wit_dieBrownsOut :
    (let s : State := sup0; let die : Nat := 3; let ns : Nat := 1000; (Up s) ∧ (die < s.dies) ∧ (bit s.boot.heldDies die = false) ∧ (1000 ≤ ns)) ∧
    (let s : State := sup0; let die : Nat := 0; let ns : Nat := 999; (Up s) ∧ (die < s.dies) ∧ (bit s.boot.heldDies die = false) ∧ (ns < 1000)) :=
  ⟨⟨up_of (by decide +kernel), by decide +kernel⟩,
   ⟨up_of (by decide +kernel), by decide +kernel⟩⟩

theorem wit_brownoutEnds :
    (let s : State := { sup0.set Ob.dies_alive 0 with boot := { sup0.boot with heldDies := 255, env := env0 }, staged := [(3, .num 4)] }; let ms : Nat := 1; (Up s) ∧ (∀ n, n < s.dies → bit s.boot.heldDies n = true) ∧ (1 ≤ ms)) ∧
    (let s : State := { sup0.set Ob.dies_alive 0 with boot := { sup0.boot with heldDies := 255, env := env0 }, staged := [(3, .num 4)] }; let ms : Nat := 0; (Up s) ∧ (∀ n, n < s.dies → bit s.boot.heldDies n = true) ∧ (ms < 1)) :=
  ⟨⟨up_of (by decide +kernel), by decide +kernel⟩,
   ⟨up_of (by decide +kernel), by decide +kernel⟩⟩

end C13

namespace C14

def rd (op key die : Nat) (pl : List Byte) (ty : Nat := 4) : Msg := M op key die ty pl 0 (.udp 1 2 28741)
def seg (op key die : Nat) (off n : Nat) (ty : Nat := 14) : Msg := rd op key die (leBytes 4 off ++ leBytes 2 n) ty
def armedS (c : Nat) : State := head.set Ob.commit_state c

theorem wit_stepRunsFront :
    (let s : State := { head with pending := [.vauxLoss, .arbIn 3] }; let c : Instr := .vauxLoss; let rest : List Instr := [.arbIn 3]; s.pending = c :: rest) :=
  by decide +kernel

theorem wit_idleTicks :
    (let s : State := head; s.pending = []) :=
  by decide +kernel

/-- A part held in reset, VAUX about to be lost. -/
def dorm : State := { State.reset with pending := [.vauxLoss] }

theorem wit_dormantKept : Dormant dorm ∧ ∃ t : State, step dorm = .next t :=
  ⟨⟨rfl, rfl, fun _ _ => rfl, fun _ h => by rw [show dorm.pending = [Instr.vauxLoss] from rfl, List.mem_singleton] at h; exact h ▸ rfl⟩, _, rfl⟩

theorem wit_heldIgnores :
    (let s : State := { head with boot := { held := true } }; let c : Instr := .arbIn 5000; (s.boot.held = true) ∧ (actsHeld c = false)) :=
  by decide +kernel

theorem wit_scanIgnores :
    (let s : State := { head with boot := { held := false, scan := true } }; let c : Instr := .arbIn 5000; (s.boot.held = false) ∧ (s.boot.scan = true) ∧ (endsScan c = false)) :=
  by decide +kernel

/-- A part with a byte in SRAM, and the request that writes its first word. -/
def kept : State := { head with mem := [(1, { sram := [(5, byteOf 3)] })] }

theorem wit_memoryKept : memoryRow (.sramRequest 1 [{ port := 3, addr := 0, data := some (List.replicate 32 (byteOf 9)) }]) = true ∧ kept.memWf = true ∧
    ∃ t : State, exec (.sramRequest 1 [{ port := 3, addr := 0, data := some (List.replicate 32 (byteOf 9)) }]) kept = .next t :=
  ⟨rfl, by decide +kernel, _, rfl⟩

theorem wit_rowsAreWrites :
    (asWrite (.farEndLoopRequest (W 0x202001 0 [3])) = some (W 0x202001 0 [3]) ∧ ∀ r, Instr.farEndLoopRequest (W 0x202001 0 [3]) = .partResetWarm r → r.env = head.boot.pins) ∧
    asWrite (.partResetWarm { msg := W Ob.part_reset 0 [1], env := head.boot.pins }) = some (W Ob.part_reset 0 [1]) ∧
    ∀ r, Instr.partResetWarm { msg := W Ob.part_reset 0 [1], env := head.boot.pins } = .partResetWarm r → r.env = head.boot.pins :=
  ⟨⟨by decide +kernel, fun _ h => nomatch h⟩, by decide +kernel, fun _ h => by cases h; rfl⟩

theorem wit_identityRead :
    (let s : State := head; let m : Msg := rd 1 Ob.identity 3 []; (Served s 0x01 m) ∧ (m.key = Ob.identity) ∧ (m.die < s.dies ∨ m.die = 15)) :=
  ⟨served_of (by decide +kernel), by decide +kernel⟩

theorem wit_dieUnknown :
    (let s : State := head; let m : Msg := rd 1 Ob.identity 9 []; (Served s 0x01 m) ∧ (s.dies ≤ m.die) ∧ (m.die ≠ 15)) ∧
    (let s : State := head; let m : Msg := rd 2 (atIndex Ob.rg_profile 2) 9 [1] (D (atIndex Ob.rg_profile 2)).ty.code; (Served s 0x02 m) ∧ (s.dies ≤ m.die) ∧ (m.die ≠ 15) ∧ (badWrite m = false)) ∧
    (let s : State := { head with fuses := { head.fuses with variant := 0x81 } }; let m : Msg := seg 3 Ob.scan_map 2 0 4; (Served s 0x03 m) ∧ (s.dies ≤ m.die) ∧ (m.die ≠ 15)) ∧
    (let s : State := { head with fuses := { head.fuses with variant := 0x81 } }; let m : Msg := M 4 Ob.scan_map 14 (D Ob.scan_map).ty.code (leBytes 4 0 ++ leBytes 4 4 ++ [1,2,3,4]); (Served s 0x04 m) ∧ (s.dies ≤ m.die) ∧ (m.die ≠ 15)) :=
  ⟨⟨served_of (by decide +kernel), by decide +kernel⟩,
   ⟨served_of (by decide +kernel), by decide +kernel⟩,
   ⟨served_of (by decide +kernel), by decide +kernel⟩,
   ⟨served_of (by decide +kernel), by decide +kernel⟩⟩

theorem wit_segNeedsBlob :
    (let s : State := head; let m : Msg := seg 3 Ob.scan_map 15 0 4; let d : ObjDef := D Ob.scan_map; (Served s 0x03 m) ∧ ((s.arrived m).found m = some d) ∧ (d.ty ≠ .blob ∨ (d.perDie = true ∧ m.die = 15))) ∧
    (let s : State := head; let m : Msg := M 4 Ob.node_id 0 (D Ob.node_id).ty.code (leBytes 4 0 ++ leBytes 4 4 ++ [1,2,3,4]); let d : ObjDef := D Ob.node_id; (Served s 0x04 m) ∧ ((s.arrived m).found m = some d) ∧ (d.ty ≠ .blob ∨ (d.perDie = true ∧ m.die = 15))) ∧
    (let s : State := blob head 3 Ob.scan_map [1, 2, 3, 4, 5]; let m : Msg := seg 3 Ob.scan_map 3 1 4; let d : ObjDef := D Ob.scan_map; (Served s 0x03 m) ∧ ((s.arrived m).found m = some d) ∧ (d.ty = .blob) ∧ (d.perDie = true) ∧ (m.die ≠ 15) ∧ (d.acc ≠ .wo) ∧ ((s.arrived m).answers m.die = true) ∧ (leAt m.payload 4 2 ≠ 0) ∧ (leAt m.payload 0 4 + leAt m.payload 4 2 ≤ (s.arrived m).blobSize m.key)) ∧
    (let s : State := blob head 3 Ob.scan_map [1, 2, 3, 4, 5]; let m : Msg := M 4 Ob.scan_map 2 (D Ob.scan_map).ty.code ([0,0,0,0,9,8,7]); let d : ObjDef := D Ob.scan_map; (Served s 0x04 m) ∧ ((s.arrived m).found m = some d) ∧ (d.perDie = true) ∧ ((s.arrived m).segTarget m true = (0, some d)) ∧ (m.key ≠ Ob.corr_patch) ∧ (∀ h, ((s.arrived m).xfer (fullKey m.die m.key)).holder = some h → h = m.session) ∧ (leAt m.payload 0 4 ≤ ((s.arrived m).xfer (fullKey m.die m.key)).fill)) :=
  ⟨⟨served_of (by decide +kernel), by decide +kernel⟩,
   ⟨served_of (by decide +kernel), by decide +kernel⟩,
   ⟨served_of (by decide +kernel), by decide +kernel⟩,
   ⟨served_of (by decide +kernel), by decide +kernel⟩⟩

theorem wit_votedSetHeld :
    (let s : State := head.set Ob.commit_state cArmed; let m : Msg := rd 2 (atIndex Ob.rg_profile 2) 3 [1] (D (atIndex Ob.rg_profile 2)).ty.code; let d : ObjDef := D (atIndex Ob.rg_profile 2); (Served s 0x02 m) ∧ ((s.arrived m).found m = some d) ∧ (d.acc = .rws) ∧ ((s.arrived m).commit = cPreparing ∨ (s.arrived m).commit = cReady ∨ (s.arrived m).commit = cArmed) ∧ (¬ (d.ty = .blob ∧ d.perDie = true ∧ m.die = 15)) ∧ (badWrite m = false)) ∧
    (let s : State := head.set Ob.commit_state cReady; let m : Msg := M 4 Ob.scan_map 1 (D Ob.scan_map).ty.code (leBytes 4 0 ++ leBytes 4 4 ++ [1,2,3,4]); let d : ObjDef := D Ob.scan_map; (Served s 0x04 m) ∧ ((s.arrived m).found m = some d) ∧ (d.acc = .rws) ∧ ((s.arrived m).commit = cPreparing ∨ (s.arrived m).commit = cReady ∨ (s.arrived m).commit = cArmed) ∧ (¬ (d.ty = .blob ∧ d.perDie = true ∧ m.die = 15)) ∧ (d.ty = .blob)) :=
  ⟨⟨served_of (by decide +kernel), by decide +kernel⟩,
   ⟨served_of (by decide +kernel), by decide +kernel⟩⟩

theorem wit_writeEveryDie :
    (let s : State := head; let m : Msg := rd 2 (atIndex Ob.rg_profile 2) 15 [1] (D (atIndex Ob.rg_profile 2)).ty.code; let d : ObjDef := D (atIndex Ob.rg_profile 2); (Served s 0x02 m) ∧ ((s.arrived m).found m = some d) ∧ (badWrite m = false) ∧ ((s.arrived m).locked d m = false) ∧ (d.ty ≠ .blob) ∧ (d.ty ≠ .str) ∧ (d.acc = .rws) ∧ (d.perDie = true) ∧ (m.die = 15) ∧ (∀ n, n < s.dies → (s.arrived m).absent n m.key = false) ∧ (∃ n, n < s.dies ∧ (s.arrived m).answers n = true)) :=
  ⟨served_of (by decide +kernel), by decide +kernel⟩

theorem wit_allAnswer : (∀ die ch reqs, Instr.vauxLoss = .dramArbitrationRound die ch reqs → ∀ r, r ∈ reqs → head.reqFitted die ch r = true) ∧
    ([{ master := 7, addr := 64, data := none, since := 0 }] : List DramReq).all (fun r => (head.put 1 Ob.dram_size_mb 1024).reqFitted 1 0 r) = true :=
  ⟨(fun _ _ _ h => nomatch h), by decide +kernel⟩

end C14

end Sys2Proof.Tests
end

section
/-! The identity object (R5): which row of the dictionary it is, what a READ of a part-wide object answers, and the one identity word that every die field finds. -/

namespace Sys2Proof.Proofs

open Sys2Proof.Machine Sys2Proof.Laws

/-! READ of a part-wide object (R39, R40) -/

@[simp] theorem exec_read (s : State) (m : Msg) : exec (.read m) s = .next (s.corrixIn 0x01 m) := rfl

/-- A served READ changes nothing but what its answer changes. -/
theorem exec_read_served {s : State} {m : Msg} (h : Served s 0x01 m) :
    exec (.read m) s = .next ((s.arrived m).answer 0x01 m ((s.arrived m).readOut m).1 (replyTy 0x01 m) ((s.arrived m).readOut m).2) := by
  rw [exec_read, serve_served h (by decide)]
  simp [State.serveOp, State.afterReply]

/-- A READ of a numeric part-wide object is answered for die 0, whatever its die field. -/
theorem readOut_partWide {s : State} {m : Msg} {d : ObjDef} (hf : s.found m = some d) (hwide : d.perDie = false) (hacc : d.acc ≠ .wo) (hblob : d.ty ≠ .blob)
    (hkey : m.key ≠ Ob.therm_level) : s.readOut m = (0, encodeVal d.ty (s.readInt 0 m.key d.acc (bit m.flags 2))) := by
  simp [State.readOut, hf, homeDie, hwide, hacc, hblob, hkey]

/-- A die field that the part has, or 0xF, finds the row of an object that is served in recovery mode too (R38, R445). -/
theorem found_romServed {s : State} {m : Msg} (hrom : romServes m.key = true) (hdie : m.die < s.dies ∨ m.die = 15) : s.found m = objDef m.key := by
  have there : ¬ (s.dies ≤ m.die ∧ m.die ≠ 15) := by omega
  simp [State.found, hrom, there]

/-! The identity word -/

/-- The identity object is a read-only part-wide word (Table 2.11). -/
theorem objDef_identity : ∃ d, objDef Ob.identity = some d ∧ d.ty = .u32 ∧ d.acc = .ro ∧ d.perDie = false := ⟨_, rfl, rfl, rfl, rfl⟩

/-- The identity object belongs to no unit that a variant or a die lacks (R8). -/
@[simp] theorem absent_identity (s : State) (die : Nat) : s.absent die Ob.identity = false := by
  simp [State.absent, laneObject, inKeys, Ob.identity]

@[simp] theorem liveInt_identity (s : State) (die : Nat) : s.liveInt die Ob.identity = s.identity := by simp [State.liveInt]

/-- A counted message leaves the fuses, and with them the identity word. -/
@[simp] theorem arrived_identity (s : State) (m : Msg) : (s.arrived m).identity = s.identity := by simp [State.identity]

@[simp] theorem arrived_dies (s : State) (m : Msg) : (s.arrived m).dies = s.dies := by simp [State.dies]

/-- The identity word fits the object's type (Table 0.2). -/
theorem identity_lt (s : State) : s.identity < 2 ^ 32 := by
  unfold State.identity; omega

/-- A U32 is four bytes, least significant first (R41). -/
theorem encodeVal_u32 {n : Nat} (h : n < 2 ^ 32) : encodeVal .u32 n = leBytes 4 n := by
  simp only [encodeVal, Ty.size, ofSigned]
  congr 1
  omega

/-- A READ of the identity object finds the one identity word, under every die field the part has and under 0xF. -/
theorem readOut_identity {s : State} {m : Msg} (hkey : m.key = Ob.identity) (hdie : m.die < s.dies ∨ m.die = 15) : s.readOut m = (0, leBytes 4 s.identity) := by
  obtain ⟨d, hrow, hty, hacc, hwide⟩ := objDef_identity
  have hf : s.found m = some d := by rw [found_romServed (by rw [hkey]; decide) hdie, hkey, hrow]
  rw [readOut_partWide hf hwide (by simp [hacc]) (by simp [hty]) (by rw [hkey]; decide), hkey, hty, hacc, ← encodeVal_u32 (identity_lt s)]
  simp [State.readInt]

/-- A READ of the identity object is answered as a U32. -/
theorem replyTy_read_identity {m : Msg} (hkey : m.key = Ob.identity) : replyTy 0x01 m = 4 := by
  unfold replyTy; rw [hkey]; rfl

/-- Settles O56: identity is part-wide, so die 0 answers for every die field, and its value is found from the fuses alone. -/
theorem identityIsReadOnce : Obligations.IdentityIsReadOnce := by
  unfold Obligations.IdentityIsReadOnce Claims.identityRead
  intro s m h hkey hdie
  have out : (s.arrived m).readOut m = (0, leBytes 4 s.identity) := by
    simpa using readOut_identity (s := s.arrived m) hkey (by simpa using hdie)
  rw [exec_read_served h, out, replyTy_read_identity hkey]

end Sys2Proof.Proofs
end

section
/-! Requests that address an object (R38, R47, R58, R496): which row they find, what refuses them, and what is answered. -/

namespace Sys2Proof.Proofs

open Sys2Proof.Machine Sys2Proof.Laws

/-! Which row a request finds (R38, R73) -/

/-- A die field that names no die of the part finds no object. -/
theorem found_absentDie {s : State} {m : Msg} (hdie : s.dies ≤ m.die) (hone : m.die ≠ 15) : s.found m = none := by
  simp [State.found, hdie, hone]

/-- The row found is the dictionary's row of the key. -/
theorem objDef_of_found {s : State} {m : Msg} {d : ObjDef} (hf : s.found m = some d) : objDef m.key = some d := by
  unfold State.found at hf
  split at hf
  · cases hf
  · exact hf

/-- The TYPE of the answer to a READ or a WRITE is the object's (R48). -/
theorem replyTy_of_found {s : State} {m : Msg} {d : ObjDef} (hf : s.found m = some d) {op : Nat} (hop : op < 0x10) : replyTy op m = d.ty.code := by
  simp [replyTy, Nat.not_le.mpr hop, objDef_of_found hf]

/-! What each opcode that addresses an object leaves to its answer -/

@[simp] theorem exec_write (s : State) (m : Msg) : exec (.write m) s = .next (s.corrixIn 0x02 m) := rfl
@[simp] theorem exec_readSeg (s : State) (m : Msg) : exec (.readSeg m) s = .next (s.corrixIn 0x03 m) := rfl
@[simp] theorem exec_writeSeg (s : State) (m : Msg) : exec (.writeSeg m) s = .next (s.corrixIn 0x04 m) := rfl

/-- A served WRITE whose status is not OK resets nothing after its response. -/
theorem exec_write_refused {s x : State} {m : Msg} {st : Nat} {pay : List Byte} (h : Served s 0x02 m) (hout : (s.arrived m).writeIn m = (x, st, pay)) (hst : st ≠ 0) :
    exec (.write m) s = .next (x.answer 0x02 m st (replyTy 0x02 m) pay) := by
  rw [exec_write, serve_served h (by decide)]
  simp [State.serveOp, State.afterReply, hout, hst]

theorem exec_readSeg_served {s x : State} {m : Msg} {st : Nat} {pay : List Byte} (h : Served s 0x03 m) (hout : (s.arrived m).readSegOut m = (x, st, pay)) :
    exec (.readSeg m) s = .next (x.answer 0x03 m st (replyTy 0x03 m) pay) := by
  rw [exec_readSeg, serve_served h (by decide)]
  simp [State.serveOp, State.afterReply, hout]

theorem exec_writeSeg_served {s x : State} {m : Msg} {st : Nat} {pay : List Byte} (h : Served s 0x04 m) (hout : (s.arrived m).writeSegIn m = (x, st, pay)) :
    exec (.writeSeg m) s = .next (x.answer 0x04 m st (replyTy 0x04 m) pay) := by
  rw [exec_writeSeg, serve_served h (by decide)]
  simp [State.serveOp, State.afterReply, hout]

/-! READ_SEG and WRITE_SEG: what refuses them (R58, R496) -/

theorem segTarget_notFound {s : State} {m : Msg} (hf : s.found m = none) (write : Bool) : s.segTarget m write = (0x01, none) := by
  simp [State.segTarget, hf]

theorem segTarget_notSegmented {s : State} {m : Msg} {d : ObjDef} (hf : s.found m = some d) (h : d.ty ≠ .blob ∨ (d.perDie = true ∧ m.die = 15)) (write : Bool) :
    s.segTarget m write = (0x02, none) := by
  rcases h with h | ⟨h, h15⟩ <;> simp [State.segTarget, *]

/-- A READ_SEG that its target refuses does nothing. -/
theorem readSegOut_refused {s : State} {m : Msg} {st : Nat} (h : s.segTarget m false = (st, none)) : s.readSegOut m = (s, st, []) := by
  simp [State.readSegOut, h]

/-- A WRITE_SEG that its target refuses does nothing. -/
theorem writeSegIn_refused {s : State} {m : Msg} {st : Nat} (h : s.segTarget m true = (st, none)) : s.writeSegIn m = (s, st, []) := by
  simp [State.writeSegIn, h]

/-- A WRITE that finds no object does nothing. -/
theorem writeIn_notFound {s : State} {m : Msg} (hgood : badWrite m = false) (hf : s.found m = none) : s.writeIn m = (s, 0x01, []) := by
  simp [State.writeIn, hgood, hf]

theorem readOut_notFound {s : State} {m : Msg} (hf : s.found m = none) : s.readOut m = (0x01, []) := by
  simp [State.readOut, hf]

/-! Masks of dies -/

/-- The bits set one after another are those that were set before and those of the list. -/
theorem bit_foldl_setBit (l : List Nat) (a n : Nat) : bit (l.foldl setBit a) n = (bit a n || l.contains n) := by
  induction l generalizing a with
  | nil => simp
  | cons x l ih =>
    rw [List.foldl_cons, ih]
    simp only [bit, setBit, Nat.testBit_or, Nat.testBit_two_pow, List.contains_cons, Bool.or_assoc]
    rw [beq_eq_decide, decide_eq_decide.mpr (eq_comm (a := x))]

end Sys2Proof.Proofs
end

section
/-! READ (R38-R40, R45): what one die answers, what every die answers, and a die field that names no die. -/

namespace Sys2Proof.Proofs

open Sys2Proof.Machine Sys2Proof.Laws

/-! READ of one die and of every die (R39, R40) -/

/-- The thermal level is a value of each die (Table 2.11). -/
theorem perDie_therm_level {d : ObjDef} (h : objDef Ob.therm_level = some d) : d.perDie = true := by
  obtain ⟨e, he, hp⟩ : ∃ e, objDef Ob.therm_level = some e ∧ e.perDie = true := ⟨_, rfl, rfl⟩
  cases he.symm.trans h
  exact hp

/-- A READ of a numeric object is answered by the die that holds it, where that die answers. -/
theorem readOut_oneDie {s : State} {m : Msg} {d : ObjDef} (hf : s.found m = some d) (hblob : d.ty ≠ .blob) (hacc : d.acc ≠ .wo) (hone : ¬ (d.perDie = true ∧ m.die = 15))
    (hlive : d.perDie = true → s.answers m.die = true) : s.readOut m = (0, encodeVal d.ty (s.readInt (homeDie d m) m.key d.acc (bit m.flags 2))) := by
  have hmax : ¬ (m.key = Ob.therm_level ∧ m.die = 15) := fun ⟨hkey, h15⟩ => hone ⟨perDie_therm_level (hkey ▸ objDef_of_found hf), h15⟩
  have hans : ¬ (d.perDie = true ∧ s.answers (homeDie d m) = false) := fun ⟨hp, hno⟩ => by simp [homeDie, hp, hlive hp] at hno
  simp [State.readOut, hf, hacc, hblob, hmax, hone, hans]

/-- The FAIL byte of a READ of every die: the dies that do not answer. -/
def silentBits (s : State) : Nat := (s.dieList.filter fun n => !(s.answers n)).foldl setBit 0

theorem bit_silentBits (s : State) (n : Nat) : bit (silentBits s) n = (decide (n < s.dies) && !(s.answers n)) := by
  rw [silentBits, bit_foldl_setBit]
  simp [bit, State.dieList]

/-- A READ of a numeric per-die object with die field 0xF is answered by every die that answers. -/
theorem readOut_everyDie {s : State} {m : Msg} {d : ObjDef} (hf : s.found m = some d) (hblob : d.ty ≠ .blob) (hstr : d.ty ≠ .str) (hacc : d.acc ≠ .wo) (hper : d.perDie = true)
    (h15 : m.die = 15) (hkey : m.key ≠ Ob.therm_level) :
    s.readOut m = (if silentBits s = 0 then 0 else 0x04,
      byteOf (silentBits s) :: s.dieList.flatMap fun n => encodeVal d.ty (if s.answers n then s.readInt n m.key d.acc (bit m.flags 2) else d.dflt)) := by
  simp [State.readOut, hf, hacc, hblob, hstr, hper, h15, hkey, silentBits] <;> rfl

/-! The obligation -/

/-- A READ of a numeric object by one die. -/
theorem readOne : Claims.readOne := by
  intro s m d h hf hblob hacc hone hlive
  rw [exec_read_served h, readOut_oneDie hf hblob hacc hone hlive, replyTy_of_found hf (by decide)]

/-- A READ of a numeric object by every die. -/
theorem readAll : Claims.readAll := by
  intro s m d h hf hblob hstr hacc hper h15 hkey
  refine ⟨silentBits (s.arrived m), fun n => ?_, ?_⟩
  · simpa using bit_silentBits (s.arrived m) n
  · rw [exec_read_served h, readOut_everyDie hf hblob hstr hacc hper h15 hkey, replyTy_of_found hf (by decide)]
    simp [State.dieList]

/-- No opcode finds an object under a die field that names no die. -/
theorem dieUnknown : Claims.dieUnknown := by
  intro s m hdie h15
  have hf : (s.arrived m).found m = none := found_absentDie (by simpa using hdie) h15
  refine ⟨fun h => ?_, fun h hgood => ?_, fun h => ?_, fun h => ?_⟩
  · rw [exec_read_served h, readOut_notFound hf]
  · exact exec_write_refused h (writeIn_notFound hgood hf) (by decide)
  · exact exec_readSeg_served h (readSegOut_refused (segTarget_notFound hf false))
  · exact exec_writeSeg_served h (writeSegIn_refused (segTarget_notFound hf true))

/-- Settles O57: the row is looked up before anything is done, and a READ of one die or of all is answered from the values the dies hold. -/
theorem absentDiesAreUnknown : Obligations.AbsentDiesAreUnknown := ⟨readOne, readAll, dieUnknown⟩

end Sys2Proof.Proofs
end

section
/-! Segments of BLOBs (R61-R63, R496): which BLOBs of a die a host writes, and what a segment that is taken changes. -/

namespace Sys2Proof.Proofs

open Sys2Proof.Machine Sys2Proof.Laws

/-! The BLOB rows of the dictionary -/

/-- A per-die BLOB that a host writes is staged, but for the correction patch, which is written alone (Table 2.11). -/
def stagedOrPatch (d : ObjDef) : Bool :=
  !(decide (d.ty = .blob) && d.perDie) || decide (d.acc = .ro) || decide (d.acc = .rws) || decide (d.lo * 256 + d.slo = Ob.corr_patch ∧ d.hi = d.lo ∧ d.shi = d.slo)

theorem dictRows_stagedOrPatch (index : Nat) : (dictRows index).all stagedOrPatch = true := by
  unfold dictRows
  split_ifs <;> decide +kernel

/-- A row covers the index and the subindex of the key it is found by. -/
theorem covers_of_objDef {key : Nat} {d : ObjDef} (h : objDef key = some d) : (d.lo ≤ key / 256 ∧ key / 256 ≤ d.hi) ∧ d.slo ≤ key % 256 ∧ key % 256 ≤ d.shi := by
  have hcov := List.find?_some h
  simp only [ObjDef.covers, Bool.and_eq_true, Nat.ble_eq] at hcov
  obtain ⟨⟨⟨hlo, hhi⟩, hslo⟩, hshi⟩ := hcov
  exact ⟨⟨hlo, hhi⟩, hslo, hshi⟩

/-- A per-die BLOB that a host may write, other than the correction patch, is an rws object. -/
theorem perDie_blob_rws {key : Nat} {d : ObjDef} (h : objDef key = some d) (hblob : d.ty = .blob) (hper : d.perDie = true) (hacc : d.acc ≠ .ro) (hkey : key ≠ Ob.corr_patch) : d.acc = .rws := by
  have hrow : stagedOrPatch d = true := List.all_eq_true.mp (dictRows_stagedOrPatch _) d (List.mem_of_find?_eq_some h)
  obtain ⟨hindex, hsub⟩ := covers_of_objDef h
  simp only [stagedOrPatch, hblob, hper, hacc, decide_true, decide_false, Bool.and_self, Bool.not_true, Bool.false_or, Bool.or_eq_true, decide_eq_true_eq] at hrow
  rcases hrow with hrws | ⟨hlo, hhi, hshi⟩
  · exact hrws
  · exact absurd (by omega) hkey

/-- The update image is a BLOB of the part (Table 2.11). -/
theorem not_perDie_upd_image {d : ObjDef} (h : objDef Ob.upd_image = some d) : d.perDie = false := by
  have hrow : (objDef Ob.upd_image).map (·.perDie) = some false := by decide +kernel
  simpa [h] using hrow

/-- The commit state is a number, not a BLOB (Table 2.11). -/
theorem not_blob_commit_state {d : ObjDef} (h : objDef Ob.commit_state = some d) : d.ty ≠ .blob := by
  have hrow : (objDef Ob.commit_state).map (·.ty) = some .u8 := by decide +kernel
  simp [h] at hrow
  simp [hrow]

/-! What a segment of a staged BLOB does (R61-R63) -/

/-- A run of values stored leaves what is before it. -/
theorem smGet_smPutAll_before {α : Type} [DecidableEq α] (d : α) (vs : List α) (m : SMap α) {a b : Nat} (h : b < a) : smGet d (smPutAll d m a vs) b = smGet d m b := by
  induction vs generalizing m a with
  | nil => rfl
  | cons v vs ih => rw [smPutAll, ih _ (by omega), smGet_smPut_other _ _ _ (by omega)]

/-- A run of values reads back where it was stored. -/
theorem smGet_smPutAll_run {α : Type} [DecidableEq α] (d : α) (vs : List α) (m : SMap α) (a : Nat) {i : Nat} (h : i < vs.length) : smGet d (smPutAll d m a vs) (a + i) = vs.getD i d := by
  induction vs generalizing m a i with
  | nil => simp at h
  | cons v vs ih =>
    cases i with
    | zero => rw [smPutAll, smGet_smPutAll_before _ _ _ (by omega)]; simp
    | succ i =>
      rw [smPutAll, show a + (i + 1) = a + 1 + i by omega, ih _ _ (by simpa using h)]
      simp

@[simp] theorem xfer_setXfer_same (s : State) (k : Nat) (x : Xfer) : (s.setXfer k x).xfer k = x := smGet_smPut_same _ _ _ _

theorem xfer_setXfer_other (s : State) (x : Xfer) {j k : Nat} (h : j ≠ k) : (s.setXfer k x).xfer j = s.xfer j := smGet_smPut_other _ _ _ h

/-- The transfer of a blob after a segment that is taken (R61, R62). -/
def takenXfer (s : State) (session die key off : Nat) (data : List Byte) (last : Bool) : Xfer :=
  let x := s.xfer (fullKey die key)
  { fill := min (s.blobSize key) (max (if off = 0 then 0 else x.fill) (off + data.length)), buf := smPutAll 0 (if off = 0 then [] else x.buf) off (data.take (s.blobSize key - off)),
    holder := if last then none else some session, lastAt := s.now, openX := !last }

/-- Everything that staging a value of one object may change: that object's staged value, and the commit state. -/
structure StagedOnly (s t : State) (k : Nat) : Prop where
  corrix : t.corrix = s.corrix
  objs   : ObjsBut s t fun j => j = Ob.commit_state
  staged : ∀ j, j ≠ k → smGet .dflt t.staged j = smGet .dflt s.staged j

theorem stagedOnly_refl (s : State) (k : Nat) : StagedOnly s s k := ⟨rfl, objsBut_refl s _, fun _ _ => rfl⟩

theorem stagedOnly_trans {s t u : State} {k : Nat} (h : StagedOnly s t k) (h' : StagedOnly t u k) : StagedOnly s u k :=
  ⟨h'.corrix.trans h.corrix, objsBut_trans h.objs h'.objs, fun j hj => (h'.staged j hj).trans (h.staged j hj)⟩

theorem stagedOnly_xfer {s t : State} {k : Nat} (h : StagedOnly s t k) (j : Nat) : t.xfer j = s.xfer j := by
  simp only [State.xfer, h.corrix]

theorem noteStaged_stagedOnly (s : State) (k : Nat) : StagedOnly s s.noteStaged k := by
  unfold State.noteStaged
  split
  · exact ⟨rfl, fun j hj => get_put_other s 0 Ob.commit_state j _ (by simpa [fullKey] using hj), fun _ _ => rfl⟩
  · exact stagedOnly_refl s k

theorem stage_stagedOnly (s : State) (die key : Nat) (v : Value) : StagedOnly s (s.stage die key v) (fullKey die key) :=
  have hput : StagedOnly s { s with staged := smPut .dflt s.staged (fullKey die key) v } (fullKey die key) := ⟨rfl, fun _ _ => rfl, fun _ hj => smGet_smPut_other _ _ _ hj⟩
  stagedOnly_trans hput (noteStaged_stagedOnly _ _)

/-- A transfer of an rws BLOB that is complete stages its value (R63). -/
theorem blobDone_stagedOnly (s : State) (die key : Nat) {d : ObjDef} (hrws : d.acc = .rws) (raw : SMap Byte) : StagedOnly s (s.blobDone die key d raw) (fullKey die key) := by
  simp only [State.blobDone, hrws]
  split
  · exact stagedOnly_refl s _
  · exact stage_stagedOnly s die key _

/-- A segment at an OFFSET not past FILL of a staged BLOB that no other session holds is taken: its transfer goes on, and beside it at most its staged value and the commit state change. -/
theorem segment_taken {s : State} {session die key off : Nat} {d : ObjDef} (hrws : d.acc = .rws) (hheld : ∀ h, (s.xfer (fullKey die key)).holder = some h → h = session)
    (himage : key ≠ Ob.upd_image) (hpatch : key ≠ Ob.corr_patch) (hoff : off ≤ (s.xfer (fullKey die key)).fill) (data : List Byte) (last : Bool) :
    ∃ t, s.segment session die key d off data last = (t, 0, (takenXfer s session die key off data last).fill) ∧
      StagedOnly (s.setXfer (fullKey die key) (takenXfer s session die key off data last)) t (fullKey die key) := by
  have hfree : ((s.xfer (fullKey die key)).holder.any fun h => decide (h ≠ session)) = false := by
    simpa [Option.any_eq_false] using hheld
  have hnote (t : State) : StagedOnly t (if !(s.absent die key) then t.noteStaged else t) (fullKey die key) := by
    split
    · exact noteStaged_stagedOnly t _
    · exact stagedOnly_refl t _
  simp only [State.segment, hfree, himage, hpatch, Nat.not_lt.mpr hoff, hrws, decide_true, decide_false, Bool.true_and, Bool.false_and, Bool.false_eq_true, if_false]
  refine ⟨_, rfl, ?_⟩
  cases last
  · exact hnote _
  · exact stagedOnly_trans (hnote _) (blobDone_stagedOnly _ die key hrws _)

/-- What a WRITE_SEG that nothing refuses addresses: a BLOB that is not read-only. -/
theorem found_of_segTarget_write {s : State} {m : Msg} {d : ObjDef} (h : s.segTarget m true = (0, some d)) :
    s.found m = some d ∧ d.ty = .blob ∧ d.acc ≠ .ro := by
  simp only [State.segTarget, if_true] at h
  split at h
  · simp at h
  · next e hf =>
    split_ifs at h with hbad hbusy <;> simp at h
    subst h
    simp only [Bool.or_eq_true, decide_eq_true_eq, not_or] at hbad
    obtain ⟨⟨hblob, -⟩, hro, -⟩ := hbad
    exact ⟨hf, not_not.mp hblob, hro⟩

/-- A READ_SEG of bytes within a BLOB of one die that answers is answered with that die's bytes. -/
theorem readSegOut_oneDie {s : State} {m : Msg} {d : ObjDef} (hf : s.found m = some d) (hblob : d.ty = .blob) (hper : d.perDie = true) (h15 : m.die ≠ 15) (hacc : d.acc ≠ .wo)
    (hlive : s.answers m.die = true) (hcount : leAt m.payload 4 2 ≠ 0) (hsize : leAt m.payload 0 4 + leAt m.payload 4 2 ≤ s.blobSize m.key) :
    s.readSegOut m = (s, 0, leBytes 4 (leAt m.payload 0 4) ++ s.readBytes m.die m.key (leAt m.payload 0 4) (leAt m.payload 4 2) d.acc false) := by
  have htarget : s.segTarget m false = (0, some d) := by simp [State.segTarget, hf, hblob, h15, hacc, hlive]
  simp [State.readSegOut, htarget, hcount, homeDie, hper, Nat.min_eq_left (Nat.le_sub_of_add_le' hsize)]

/-- The bytes of a segment that are within SIZE stand in the transfer's buffer at their OFFSET. -/
theorem takenXfer_buf (s : State) (session die key off : Nat) (data : List Byte) (last : Bool) {i : Nat} (hi : i < data.length) (hsize : off + i < s.blobSize key) :
    smGet 0 (takenXfer s session die key off data last).buf (off + i) = data.getD i 0 := by
  rw [takenXfer, smGet_smPutAll_run _ _ _ _ (by rw [List.length_take]; omega)]
  simp [List.getD_eq_getElem?_getD, List.getElem?_take_of_lt (show i < s.blobSize key - off by omega)]

/-- Two dies hold an object under two keys. -/
theorem fullKey_other_die {n die : Nat} (h : n ≠ die) (key : Nat) : fullKey n key ≠ fullKey die key := by
  unfold fullKey; omega

/-- No BLOB of any die is held under the key of the commit state. -/
theorem fullKey_blob_ne_commit_state {key : Nat} {d : ObjDef} (h : objDef key = some d) (hblob : d.ty = .blob) (n : Nat) : fullKey n key ≠ Ob.commit_state := by
  intro hkey
  have hn : key = Ob.commit_state := by unfold fullKey Ob.commit_state at *; omega
  exact not_blob_commit_state (hn ▸ h) hblob

/-- A WRITE_SEG that is taken by one die of a per-die BLOB. -/
theorem writeSegIn_oneDie {s : State} {m : Msg} {d : ObjDef} (htarget : s.segTarget m true = (0, some d)) (hper : d.perDie = true) (hpatch : m.key ≠ Ob.corr_patch)
    (hheld : ∀ h, (s.xfer (fullKey m.die m.key)).holder = some h → h = m.session) (hoff : leAt m.payload 0 4 ≤ (s.xfer (fullKey m.die m.key)).fill) :
    ∃ t, s.writeSegIn m = (t, 0, leBytes 4 (takenXfer s m.session m.die m.key (leAt m.payload 0 4) (m.payload.drop 4) (bit m.flags 3)).fill) ∧
      StagedOnly (s.setXfer (fullKey m.die m.key) (takenXfer s m.session m.die m.key (leAt m.payload 0 4) (m.payload.drop 4) (bit m.flags 3))) t (fullKey m.die m.key) := by
  obtain ⟨hf, hblob, hro⟩ := found_of_segTarget_write htarget
  have hrow := objDef_of_found hf
  have hrws := perDie_blob_rws hrow hblob hper hro hpatch
  have himage : m.key ≠ Ob.upd_image := fun h => by simp [not_perDie_upd_image (h ▸ hrow)] at hper
  obtain ⟨t, hseg, honly⟩ := segment_taken hrws hheld himage hpatch hoff (m.payload.drop 4) (bit m.flags 3)
  refine ⟨t, ?_, honly⟩
  simp [State.writeSegIn, htarget, homeDie, hper, hseg]

/-! The obligation -/

/-- Settles O58: the target of a segment is refused before anything is done, and a segment that is taken changes the transfer and the staged value of one die alone. -/
theorem segmentsTransferBlobs : Obligations.SegmentsTransferBlobs := by
  unfold Obligations.SegmentsTransferBlobs Claims.segNeedsBlob
  intro s m d hf
  refine ⟨fun hno => ⟨fun h => ?_, fun h => ?_⟩, fun h hblob hper h15 hacc hlive hcount hsize => ?_, fun h hper htarget hpatch hheld hoff => ?_⟩
  · exact exec_readSeg_served h (readSegOut_refused (segTarget_notSegmented hf hno false))
  · exact exec_writeSeg_served h (writeSegIn_refused (segTarget_notSegmented hf hno true))
  · exact exec_readSeg_served h (readSegOut_oneDie hf hblob hper h15 hacc hlive hcount hsize)
  · obtain ⟨t, hout, honly⟩ := writeSegIn_oneDie htarget hper hpatch hheld hoff
    obtain ⟨-, hblob, -⟩ := found_of_segTarget_write htarget
    have hxfer := stagedOnly_xfer honly
    refine ⟨t, ?_, fun i hi hsize => ?_, fun n _ hn => ⟨?_, ?_, ?_⟩⟩
    · rw [exec_writeSeg_served h hout, hxfer, xfer_setXfer_same]
    · rw [hxfer, xfer_setXfer_same, takenXfer_buf _ _ _ _ _ _ _ (by simpa using hi) hsize]
    · rw [hxfer, xfer_setXfer_other _ _ (fullKey_other_die hn _)]
    · exact honly.objs _ (fullKey_blob_ne_commit_state (objDef_of_found hf) hblob n)
    · exact honly.staged _ (fullKey_other_die hn _)

end Sys2Proof.Proofs
end

section
/-! Writes of the staged set while a vote holds it (R64, R68): with die field 0xF the answer is PARTIAL. -/

namespace Sys2Proof.Proofs

open Sys2Proof.Machine Sys2Proof.Laws

/-! A direct part-wide WRITE while a vote holds the staged set (R64, R68) -/

/-- The part has a die 0. -/
theorem dies_pos (s : State) : 0 < s.dies := by
  unfold State.dies
  split <;> [skip; split] <;> decide

/-- While a vote is prepared, ready or armed, the staged objects of every die are locked (R68). -/
theorem lockedOn_voted {s : State} {d : ObjDef} (hrws : d.acc = .rws) (hvote : s.commit = cPreparing ∨ s.commit = cReady ∨ s.commit = cArmed) (key die : Nat) :
    s.lockedOn d key die = true := by
  rcases hvote with h | h | h <;> simp [State.lockedOn, hrws, h]

/-- Whether it does not answer or is locked, a die leaves a direct part-wide WRITE of a voted object undone and has its bit in FAIL. -/
theorem writeShare_voted {s : State} {m : Msg} {d : ObjDef} (hrws : d.acc = .rws) (hvote : s.commit = cPreparing ∨ s.commit = cReady ∨ s.commit = cArmed) (fail die : Nat) :
    State.writeShare m d (s, fail) die = (s, setBit fail die) := by
  cases hans : s.answers die <;> simp [State.writeShare, hans, lockedOn_voted hrws hvote, State.noteLocked, hrws]

/-- Every die in turn leaves it undone. -/
theorem foldl_writeShare_voted {s : State} {m : Msg} {d : ObjDef} (hrws : d.acc = .rws) (hvote : s.commit = cPreparing ∨ s.commit = cReady ∨ s.commit = cArmed) (l : List Nat) (fail : Nat) :
    l.foldl (State.writeShare m d) (s, fail) = (s, l.foldl setBit fail) := by
  induction l generalizing fail with
  | nil => rfl
  | cons n l ih => rw [List.foldl_cons, writeShare_voted hrws hvote, ih, List.foldl_cons]

/-- FAIL of a direct part-wide WRITE that no die applies is not 0: it has the bit of die 0. -/
theorem everyDie_ne_zero (s : State) : s.dieList.foldl setBit 0 ≠ 0 := by
  intro h
  have hbit : bit (s.dieList.foldl setBit 0) 0 = true := by
    rw [bit_foldl_setBit]
    simp [State.dieList, dies_pos]
  simp [h, bit] at hbit

/-- A direct part-wide WRITE of a voted object is answered PARTIAL, not BUSY, with every die in FAIL. -/
theorem writeIn_everyDie_voted {s : State} {m : Msg} {d : ObjDef} (hf : s.found m = some d) (hgood : badWrite m = false) (hblob : d.ty ≠ .blob) (hper : d.perDie = true) (h15 : m.die = 15)
    (hrws : d.acc = .rws) (hvote : s.commit = cPreparing ∨ s.commit = cReady ∨ s.commit = cArmed) : s.writeIn m = (s, 0x04, [byteOf (s.dieList.foldl setBit 0)]) := by
  simp [State.writeIn, State.writeAll, hgood, hf, hrws, hblob, hper, h15, foldl_writeShare_voted hrws hvote, everyDie_ne_zero]

/-- A session's entry is no output. -/
@[simp] theorem putSession_sent (s : State) (m : Msg) (op : Nat) (r : Option Msg) : (s.putSession m op r).sent = s.sent := by
  unfold State.putSession State.showSessions
  split <;> rfl

/-- A response by UDP goes out (R54). -/
theorem reply_udp_sent (s : State) (addr port dport op : Nat) (r : Msg) : (s.reply (.udp addr port dport) op r).sent = .reply (.udp addr port dport) op r :: s.sent := by
  rw [State.reply, congrArg State.sent (crossWords_rest _ _ _ _)]
  rfl

/-- An answer by UDP goes out with its status (R48). -/
theorem answer_udp_sent {m : Msg} {addr port dport : Nat} (hvia : m.via = .udp addr port dport) (s : State) (op st ty : Nat) (pay : List Byte) :
    (s.answer op m st ty pay).sent = .reply (.udp addr port dport) op (respond m op st ty pay) :: s.sent := by
  unfold State.answer
  rw [hvia, reply_udp_sent]
  split_ifs <;> simp

/-! The counterexample -/

/-- An eight-die part whose dies all answer, with an ARMED commit. -/
def armedPart : State := (({ boot := { held := false }, fw := 255 } : State).set Ob.dies_alive 255).set Ob.commit_state cArmed

/-- A WRITE of rg_profile of row group 0 with die field 0xF, by UDP to the part itself, less its CRC. -/
def writeBody : Msg :=
  { via := .udp 1 2 28741, seq := 3, session := 7, target := 15 * 4096 + 1024, index := 0x7010, sub := 1, ty := 2, len := 1, payload := [1], crc := 0 }

/-- The WRITE with its CRC. -/
def wholePartWrite : Msg := { writeBody with crc := msgCrc 0x02 writeBody }

/-- The part executes it. -/
theorem armedPart_serves : Served armedPart 0x02 wholePartWrite where
  up := ⟨rfl, rfl⟩
  booted := by decide +kernel
  carried := by show _ = _; decide +kernel
  crc := by decide +kernel
  fresh := rfl
  unicast := rfl
  made := by decide +kernel
  sup := by decide +kernel
  own := by decide +kernel
  serving := by decide +kernel
  room := by decide
  once := by decide +kernel

/-- rg_profile is a staged number of each die (Table 2.11). -/
theorem objDef_wholePartWrite : ∃ d, objDef wholePartWrite.key = some d ∧ d.ty = .u8 ∧ d.acc = .rws ∧ d.perDie = true := by
  have hrow : (objDef wholePartWrite.key).map (fun d => (d.ty, d.acc, d.perDie)) = some (.u8, .rws, true) := by decide +kernel
  simpa using hrow

/-- Refutes O59: with a commit ARMED, a WRITE of the staged object rg_profile with die field 0xF is answered PARTIAL with FAIL 0xFF, as R64 has it, not BUSY. -/
theorem not_votedSetIsHeld : ¬ Obligations.VotedSetIsHeld := by
  unfold Obligations.VotedSetIsHeld Claims.votedSetHeld
  intro hall
  obtain ⟨d, hrow, hty, hacc, hper⟩ := objDef_wholePartWrite
  have hf : (armedPart.arrived wholePartWrite).found wholePartWrite = some d := by
    rw [← hrow]; decide +kernel
  have harmed : (armedPart.arrived wholePartWrite).commit = cArmed := by decide +kernel
  have hgood : badWrite wholePartWrite = false := by decide +kernel
  obtain ⟨hbusy, -⟩ := hall armedPart wholePartWrite d hf hacc (.inr (.inr harmed)) (by simp [hty])
  specialize hbusy armedPart_serves hgood
  have hpartial := exec_write_refused armedPart_serves (writeIn_everyDie_voted hf hgood (by simp [hty]) hper (by decide) hacc (.inr (.inr harmed))) (by decide)
  injection hpartial.symm.trans hbusy with hstate
  have hsent := congrArg State.sent hstate
  rw [answer_udp_sent rfl, answer_udp_sent rfl] at hsent
  simp [respond] at hsent

end Sys2Proof.Proofs
end

section
/-! Loss of lock (R124, R143): LOCK_LOST acts on a lane in Hawser mode alone, and a lane of an Ethernet pair keeps its receive step. -/

namespace Sys2Proof.Proofs

open Sys2Proof.Machine Sys2Proof.Laws

/-! LOCK_LOST of a lane that is not in Hawser mode -/

@[simp] theorem exec_lockLost (s : State) (die lane missed : Nat) : exec (.lockLost die lane missed) s = .next (s.onDie die fun s => s.lockLost die lane missed) := rfl

/-- An event of a die that answers, on a part that is up, takes effect (R37, R392, R395). -/
theorem onDie_upDie {s : State} {die : Nat} (h : UpDie s die) (f : State → State) : s.onDie die f = f s := by
  obtain ⟨⟨hheld, hscan⟩, halive⟩ := h
  simp [State.onDie, hheld, hscan, halive]

/-- Lanes 6 and 7 of a die whose pair is in Ethernet mode are not in Hawser mode (R142). -/
theorem hawserLane_ethMode {s : State} {die lane : Nat} (heth : s.ethMode die = true) (hlane : 6 ≤ lane) : s.hawserLane die lane = false := by
  simp [State.hawserLane, heth, hlane]

/-- No marker is expected of a lane that is not in Hawser mode, so none is missed. -/
theorem lockLost_notHawser {s : State} {die lane : Nat} (h : s.hawserLane die lane = false) (missed : Nat) : s.lockLost die lane missed = s := by
  simp [State.lockLost, h]

/-- LOCK_LOST of a lane of an Ethernet pair does nothing (R143). -/
theorem exec_lockLost_ethMode {s : State} {die lane : Nat} (hup : UpDie s die) (heth : s.ethMode die = true) (hlane : 6 ≤ lane) (missed : Nat) :
    exec (.lockLost die lane missed) s = .next s := by
  rw [exec_lockLost, onDie_upDie hup, lockLost_notHawser (hawserLane_ethMode heth hlane)]

/-! The counterexample -/

/-- An eight-die part whose dies all answer, with the Ethernet pair of die 1 training: lane_state of lanes 6 and 7 has the Ethernet bit, transmit state 1 and receive step 1. -/
def trainingPart : State :=
  ((((({ boot := { held := false }, fw := 255 } : State).set Ob.dies_alive 255).put 1 Ob.lane_pair_mode 1).put 1 Ob.eth_link_state 2).put 1 (Ob.lane_state + 6) 81).put 1 (Ob.lane_state + 7) 81

/-- The part once the pair has come up (R142). -/
def linkedPart : State := trainingPart.ethUp 1

/-- The state is one that a command reaches: ETH_LINK_UP brings it about. -/
theorem exec_ethLinkUp_trainingPart : exec (.ethLinkUp 1) trainingPart = .next linkedPart := by
  have hup : UpDie trainingPart 1 := ⟨⟨rfl, rfl⟩, by decide +kernel⟩
  exact congrArg _ (onDie_upDie hup _)

theorem linkedPart_upDie : UpDie linkedPart 1 := ⟨⟨by decide +kernel, by decide +kernel⟩, by decide +kernel⟩

theorem linkedPart_ethMode : linkedPart.ethMode 1 = true := by decide +kernel

/-- A lane of the pair receives. -/
theorem linkedPart_rx : linkedPart.rx 1 6 = 6 := by decide +kernel

/-- Refutes O60: the clause on LOCK_LOST does not ask that the lane be in Hawser mode, and lane 6 of an Ethernet pair that is up, at receive step 6, stays there whatever the count of missed
markers: the marker rules do not apply to it (R143). -/
theorem not_lockedLaneLosesLock : ¬ Obligations.LockedLaneLosesLock := by
  unfold Obligations.LockedLaneLosesLock Claims.lockLoses
  rintro ⟨-, -, hall⟩
  obtain ⟨hloses, -⟩ := hall linkedPart 1 6 4 linkedPart_upDie (by decide) (.inr linkedPart_rx)
  obtain ⟨t, hexec, hsearch, -⟩ := hloses le_rfl
  injection (exec_lockLost_ethMode linkedPart_upDie linkedPart_ethMode (by decide) 4).symm.trans hexec with hsame
  rw [← hsame, linkedPart_rx] at hsearch
  contradiction

end Sys2Proof.Proofs
end

section
/-! The part as a whole: steps, ticks, the state after reset, and what a part held in reset or in boundary scan does (R392, R395, Table 13.3). -/

namespace Sys2Proof.Proofs

open Sys2Proof.Machine Sys2Proof.Laws

/-! Parts that commands do not reach -/

/-- Nothing reaches a part that is held in reset or in boundary scan. -/
theorem run_shut {s : State} (h : s.boot.held || s.boot.scan) (f : State → State) : s.run f = s := by simp [State.run, h]

theorem onDie_shut {s : State} (h : s.boot.held || s.boot.scan) (die : Nat) (f : State → State) : s.onDie die f = s := by simp [State.onDie, h]

theorem cellRow_shut {s : State} (h : s.boot.held || s.boot.scan) (p : Nat) (c : Cell) (named : Bool) : s.cellRow p c named = s := by
  simp [State.cellRow, run_shut h]

theorem corrixIn_shut {s : State} (h : s.boot.held || s.boot.scan) (op : Nat) (m : Msg) : s.corrixIn op m = s := by simp [State.corrixIn, h]

theorem corrixFor_shut {s : State} (h : s.boot.held || s.boot.scan) (m : Msg) (p : Nat → List Byte → Bool) : s.corrixFor m p = s := by
  simp [State.corrixFor, corrixIn_shut h]

theorem relayRow_shut {s : State} (h : s.boot.held || s.boot.scan) (op : Nat) (m : Msg) : s.relayRow op m = s := by
  unfold State.relayRow
  split
  · rfl
  · split
    · exact run_shut h _
    · exact corrixIn_shut h _ _
    · exact corrixIn_shut h _ _

theorem responseRow_shut {s : State} (h : s.boot.held || s.boot.scan) (p entry op : Nat) (m : Msg) : s.responseRow p entry op m = s := run_shut h _

/-- The host SPI target of such a part does not answer (R56). -/
theorem spiOn_shut {s : State} (h : s.boot.held || s.boot.scan) : s.spiOn = false := by
  simp only [Bool.or_eq_true] at h
  obtain h | h := h <;> simp [State.spiOn, h]

theorem hostSpiRead_shut {s : State} (h : s.boot.held || s.boot.scan) (a n : Nat) : s.hostSpiRead a n = s := by simp [State.hostSpiRead, spiOn_shut h]

theorem hostSpiWrite_shut {s : State} (h : s.boot.held || s.boot.scan) (a : Nat) (bs : List Byte) : s.hostSpiWrite a bs = s := by simp [State.hostSpiWrite, spiOn_shut h]

theorem hctlSend_shut {s : State} (h : s.boot.held || s.boot.scan) : s.hctlSend = s := by simp [State.hctlSend, spiOn_shut h]

theorem hctlFree_shut {s : State} (h : s.boot.held || s.boot.scan) : s.hctlFree = s := by simp [State.hctlFree, spiOn_shut h]

theorem arpIcmp_shut {s : State} (h : s.boot.held || s.boot.scan) (icmp : Bool) (src dst : Nat) (data : List Byte) : s.arpIcmp icmp src dst data = s := by
  simp only [Bool.or_eq_true] at h
  obtain h | h := h <;> simp [State.arpIcmp, h]

theorem dramRound_shut {s : State} (h : s.boot.held || s.boot.scan) (die ch : Nat) (reqs : List DramReq) : execDramArbitrationRound die ch reqs s = .next s := by
  simp [execDramArbitrationRound, h]

theorem unlisted_shut {s : State} (h : s.boot.held || s.boot.scan) (op : Nat) (m : Msg) : execUnlistedOpcode op m s = .next s := by simp [execUnlistedOpcode, corrixIn_shut h]

theorem broadcast_shut {s : State} (h : s.boot.held || s.boot.scan) (op : Nat) (m : Msg) : execBroadcast op m s = .next s := by simp [execBroadcast, corrixIn_shut h]

/-- A command other than those that concern the resets themselves does nothing to a part held in reset or in boundary scan. -/
theorem exec_shut {s : State} (h : s.boot.held || s.boot.scan) (c : Instr) (hp : Instr.releases c = false) (ha : Claims.endsScan c = false) : exec c s = .next s := by
  cases c with
  | porstRelease => exact Bool.noConfusion (hp : true = false)
  | porstNAssert | vauxLoss | warmrstN | brownoutRestart => exact Bool.noConfusion (ha : true = false)
  | hostSpiRead => exact congrArg Host.Outcome.next (hostSpiRead_shut h ..)
  | hostSpiWrite => exact congrArg Host.Outcome.next (hostSpiWrite_shut h ..)
  | hctlSend => exact congrArg Host.Outcome.next (hctlSend_shut h ..)
  | hctlFreeResponse => exact congrArg Host.Outcome.next (hctlFree_shut h ..)
  | hostSpiIgnoredCommand => rfl
  | arpIcmpRequest => exact congrArg _ (arpIcmp_shut h ..)
  | unlistedOpcode => exact unlisted_shut h ..
  | broadcast => exact broadcast_shut h ..
  | corrixRelay => exact congrArg _ (relayRow_shut h ..)
  | corrixResponseRelay => exact congrArg _ (responseRow_shut h ..)
  | dramArbitrationRound => exact dramRound_shut h ..
  | read | write | readSeg | writeSeg | prepare | launch | abort | discard | ping => exact congrArg _ (corrixIn_shut h ..)
  | syncReceive | delayReqReceive | delayRespReceive | cellForward | pixelCellReceive | checkCellReceive | canvasCellReceive | imageCellReceive | walk | report | done | walkEndAtHead | route
  | knotCellReceive | heartbeat | ckptSeg | ckptEnd | ckptAck | handover => exact congrArg _ (cellRow_shut h ..)
  | layRootHandback | layStepAccept | layTimeSet | txSleepSet | txSleepClear | rxSleepSet | rxSleepClear | loopOff | nearEndSerialLoop | nearEndParallelLoop | farEndLoopRequest | prbsGen | prbsChk
  | lanePairMode | enumStart | enumIdForget | knotAck | composeApply | capArm | capRelease | corrPatch | rgRowFaultClear | rgOutFaultClear | rgSrMode | faultWrite | fgBlankedClear | sramSliceMode
  | bistStop | bistContinuous | bistOnePass | dramMaintSweep | controlCoreRestart | redSupRejoin | redDeclare | updAbort | sensorBrokenClear => exact congrArg _ (corrixFor_shut h ..)
  | braidHoldover | laneTxStart | squelchOpen | cdrLock | equaliserConverged | markerCandidate | markerLock | laneInService | alignmentMarkerReceive | alignmentMarkerSend | lockLost | signalLost
  | fecUncorrectable | dropped | droppedLaneReturn | laneSerUpdate | degradedReport | feLoopRefused | prbsSync | prbsResync | ethLinkUp | ethFrameReceive | ptpEventTx | ringCacheLoad | correctionBegin
  | viewFrameLaunch | lateStart | lineStart | frameStart | longPacket | frameEnd | frameTimeout | memoryFrameProcessed | linkLost | patchApply | shiftLineBegin | shiftComplete | rowShort | outFault
  | readback | readbackRecord | srEntered | rasterToleranceUpdate | sramRequest | sliceRetention | sliceWakeComplete | bistWordTest | commandPick | dramRefresh | masterReset | dramSelfRefreshEntry
  | dramSelfRefreshExit | dramDriftCheck | dramForcedExit | dlyPending | sweepDone | refclkFault | refclkRateCheck | refclkValid | pllResume | watchdogExpiry | firmwareServe | sensorConversion
  | thermalShutdown | trimEvaluate | trimPllStep | idleConversionSlot => exact congrArg _ (onDie_shut h ..)
  | relayEntryExpiry | bcastRecordExpiry | blobHoldRelease | voteTimeout | voteComplete | commitApply | rootListenExpiry | syncSend | delayReqSend | delayReqMissing | upstreamLoss | rootTakeover
  | handbackEnd | refQualify | refLost | refMonitorMeasure | refDrift | stepApplied | ptpMessageReceive | ptpTxtsAged | layEvtEdge | ppsInCapture | fsyncInCapture | cellReceive | ownCellSend
  | walkAfterService | enumPeriodExpiry | enumTimeout | routeSend | routeExpiry | idConflict | knotFlush | sendStart | descriptorPost | segmentWrite | ringPick | regionVerdict | sourceFrameComplete
  | st2110PacketReceive | mergeSkew | sourceDamaged | sourceStale | capTrigger | capWindowTimeout | partResetWarm | die1BootTimeout | supHeartbeat | supHbLoss | arbIn | headHeartbeatSend | ckptStale
  | arbiterDeclareRepeat | selfDeclare | joiningEnd | journalRecordWrite | tamping | updVerify | updReverted | recoveryDhcpTimeout | brownout | joinNoPeerTimeout | dhcpAddress =>
    exact congrArg _ (run_shut h _)

/-- A release of PORST_N does nothing to a part that is not held (R392). -/
theorem porstRelease_released {s : State} (h : s.boot.held = false) (env : BootEnv) : s.porstRelease env = s := by simp [State.porstRelease, h]

/-- A part held in reset has its brown-outs behind it (R479). -/
theorem brownoutRestart_held {s : State} (h : s.boot.held = true) (ms : Nat) (env : BootEnv) : s.brownoutRestart ms env = s := by simp [State.brownoutRestart, h]

/-- Only PORST_RELEASE releases the part. -/
theorem releases_iff (c : Instr) : Instr.releases c = true ↔ ∃ env, c = .porstRelease env := by
  refine ⟨fun h => ?_, fun ⟨_, hc⟩ => hc ▸ rfl⟩
  cases c with
  | porstRelease env => exact ⟨env, rfl⟩
  | _ => exact Bool.noConfusion (h : false = true)

/-- What ends boundary scan puts the part into reset, or ends a brown-out. -/
theorem endsScan_iff (c : Instr) : Claims.endsScan c = true ↔ c = .porstNAssert ∨ c = .vauxLoss ∨ (∃ ns env, c = .warmrstN ns env) ∨ ∃ r, c = .brownoutRestart r := by
  refine ⟨fun h => ?_, ?_⟩
  · cases c with
    | porstNAssert => exact .inl rfl
    | vauxLoss => exact .inr (.inl rfl)
    | warmrstN ns env => exact .inr (.inr (.inl ⟨ns, env, rfl⟩))
    | brownoutRestart r => exact .inr (.inr (.inr ⟨r, rfl⟩))
    | _ => exact Bool.noConfusion (h : false = true)
  · rintro (rfl | rfl | ⟨_, _, rfl⟩ | ⟨_, rfl⟩) <;> rfl

/-- Settles O52: a command that ends neither the reset nor the scan reaches no unit of the part. -/
theorem heldAndScannedPartsIgnoreCommands : Obligations.HeldAndScannedPartsIgnoreCommands := by
  unfold Obligations.HeldAndScannedPartsIgnoreCommands Claims.heldIgnores Claims.scanIgnores
  constructor
  · intro s c hheld hacts
    have hrel : Instr.releases c = false := by
      by_contra hc
      obtain ⟨env, rfl⟩ := (releases_iff c).1 (by simpa using hc)
      exact Bool.noConfusion (hacts : true = false)
    cases hends : Claims.endsScan c with
    | false => exact exec_shut (by simp [hheld]) c hrel hends
    | true =>
      obtain rfl | rfl | ⟨ns, env, rfl⟩ | ⟨r, rfl⟩ := (endsScan_iff c).1 hends
      · exact Bool.noConfusion (hacts : true = false)
      · exact Bool.noConfusion (hacts : true = false)
      · exact Bool.noConfusion (hacts : true = false)
      · exact congrArg _ (brownoutRestart_held hheld _ _)
  · intro s c hheld hscan hends
    cases hrel : Instr.releases c with
    | false => exact exec_shut (by simp [hscan]) c hrel hends
    | true =>
      obtain ⟨env, rfl⟩ := (releases_iff c).1 hrel
      exact congrArg _ (porstRelease_released hheld _)

/-! Steps -/

/-- Settles O46: with a command in front, that arm of the step is the whole step. -/
theorem stepRunsTheFrontCommand : Obligations.StepRunsTheFrontCommand := by
  unfold Obligations.StepRunsTheFrontCommand Claims.stepRunsFront
  intro s c rest hfront
  simp [step, hfront]

/-- A round of DRAM arbitration answers a next state where the device has every row asked for (R363). -/
theorem dramRound_answers {s : State} {die ch : Nat} {reqs : List DramReq} (h : ∀ r, r ∈ reqs → s.reqFitted die ch r = true) :
    ∃ t : State, exec (.dramArbitrationRound die ch reqs) s = .next t := by
  have hall : (reqs.all fun r => s.reqFitted die ch r) = true := List.all_eq_true.2 h
  show ∃ t : State, execDramArbitrationRound die ch reqs s = .next t
  simp only [execDramArbitrationRound, hall, if_true]
  split <;> exact ⟨_, rfl⟩

/-- Settles O47: the arm of every other command is a next state. -/
theorem everyCommandAnswersANextState : Obligations.EveryCommandAnswersANextState := by
  unfold Obligations.EveryCommandAnswersANextState Claims.allAnswer
  intro s c hfit
  cases c with
  | dramArbitrationRound die ch reqs => exact dramRound_answers (hfit die ch reqs rfl)
  | _ => exact ⟨_, rfl⟩

/-! Rows that are writes of one object -/

/-- A row whose message addresses its object, with its value, takes the message as any WRITE. -/
theorem corrixFor_of {s : State} {m : Msg} {p : Nat → List Byte → Bool} (h : p m.key m.payload = true) : s.corrixFor m p = s.corrixIn 0x02 m := by simp [State.corrixFor, h]

/-- PART_RESET_WARM with the straps and devices as they were last told is the WRITE of part_reset (R392, log entry 168). -/
theorem partResetWarm_isWrite {s : State} {r : WarmReset} (hkey : r.msg.key = Ob.part_reset) (hval : leAt r.msg.payload 0 1 = 1) (hpins : r.env = s.boot.pins) :
    exec (.partResetWarm r) s = exec (.write r.msg) s := by
  show execPartResetWarm r s = execWrite r.msg s
  have hsame : ({ s with boot := { s.boot with pins := r.env } } : State) = s := by rw [hpins]
  simp only [execPartResetWarm, execWrite, State.run, hsame]
  rw [corrixFor_of (by simp [hkey, hval])]
  split
  · next hshut => rw [corrixIn_shut hshut]
  · rfl

/-- Settles O54: each row takes its message as a WRITE where the message addresses the row's object. -/
theorem objectRowsAreWrites : Obligations.ObjectRowsAreWrites := by
  unfold Obligations.ObjectRowsAreWrites Claims.rowsAreWrites
  intro s c m h hpins
  cases c with
  | partResetWarm r =>
    obtain ⟨hobj, hm⟩ := Option.ite_none_right_eq_some.1 h
    obtain rfl := Option.some.inj hm
    simp only [Bool.and_eq_true, decide_eq_true_eq] at hobj
    obtain ⟨hkey, hval⟩ := hobj
    exact partResetWarm_isWrite hkey hval (hpins r rfl)
  | layRootHandback | layStepAccept | layTimeSet | txSleepSet | txSleepClear | rxSleepSet | rxSleepClear | loopOff | nearEndSerialLoop | nearEndParallelLoop | farEndLoopRequest | prbsGen | prbsChk
  | lanePairMode | enumStart | enumIdForget | knotAck | composeApply | capArm | capRelease | corrPatch | rgRowFaultClear | rgOutFaultClear | rgSrMode | faultWrite | fgBlankedClear | sramSliceMode
  | bistStop | bistContinuous | bistOnePass | dramMaintSweep | controlCoreRestart | redSupRejoin | redDeclare | updAbort | sensorBrokenClear =>
    obtain ⟨hobj, hm⟩ := Option.ite_none_right_eq_some.1 h
    obtain rfl := Option.some.inj hm
    exact congrArg _ (corrixFor_of (by simp_all))
  | _ => exact absurd (h : none = some m).symm (Option.some_ne_none m)

/-! The state after reset -/

/-- No object of State.reset is listed, so each reads its default. -/
theorem reset_int (die key : Nat) : State.reset.int die key = objDflt key := rfl

/-- State.reset is a part held in reset, with nothing in its queue. -/
theorem reset_dormant : Dormant State.reset := ⟨rfl, rfl, objsBut_refl _ _, by simp [State.reset]⟩

/-- Settles O50. -/
theorem resetStateIsDormant : Obligations.ResetStateIsDormant := reset_dormant

/-- dies_alive starts as 0x01 (Table 1.2). -/
theorem reset_diesAlive : State.reset.pw Ob.dies_alive = 1 := by rfl

/-- Refutes O49: the claim has no die answer after reset, but dies_alive reads its default 0x01 then, so die 0 counts as answering. -/
theorem not_resetStateHoldsDefaults : ¬ Obligations.ResetStateHoldsDefaults := by
  unfold Obligations.ResetStateHoldsDefaults Claims.resetHolds
  rintro ⟨⟨-, -, -, -, -, -, -, hnone, -⟩, -⟩
  have hdie0 : State.reset.alive 0 = true := by simp [State.alive, reset_diesAlive, bit]
  simp [hnone 0] at hdie0

/-! A part that stays in reset (Table 13.3) -/

/-- The objects of the always-on domain that a reset by PORST_N keeps lie in it; a loss of VAUX keeps none. -/
theorem smGet_smKeep {α : Type} (d : α) (p : Nat → Bool) (m : SMap α) (k : Nat) : smGet d (smKeep p m) k = if p k then smGet d m k else d := by
  induction m with
  | nil => simp [smKeep, smGet]
  | cons e t ih =>
    obtain ⟨a, v⟩ := e
    simp only [smKeep, List.filter_cons] at ih ⊢
    by_cases ha : p a
    · by_cases hk : a = k
      · subst hk; simp [ha, smGet]
      · simp [ha, smGet, hk, ih]
    · by_cases hk : a = k
      · subst hk; simp [ha, ih]
      · simp [ha, smGet, hk, ih]

/-- A change of each of a list of items keeps what each change keeps. -/
theorem each_of {α : Type} {P : State → Prop} (l : List α) (f : α → State → State) (hf : ∀ a t, P t → P (f a t)) : ∀ {s : State}, P s → P (s.each l f) := by
  induction l with
  | nil => exact id
  | cons a l ih => exact fun h => ih (hf a _ h)

/-- The objects that a reset by PORST_N or a loss of VAUX keeps are always on (Table 13.3). -/
theorem keptObjs_dflt (s : State) {kind : Nat} (hkind : kind ≠ rWarm) {k : Nat} (hk : ¬ alwaysOn k) : smGet .dflt (s.keptObjs kind) k = .dflt := by
  unfold State.keptObjs
  split
  · rfl
  · rw [smGet_smKeep]
    split
    · next hkeep => simp [hkind] at hkeep; exact absurd (.inr hkeep) hk
    · rfl

/-- Such a reset clears every other object to its default. -/
theorem cleared_objs (s : State) {kind : Nat} (hkind : kind ≠ rWarm) : ObjsBut State.reset (s.cleared kind) alwaysOn := by
  intro k hk
  have hshut : k ≠ fullKey 0 Ob.therm_shut_dies := fun e => hk (.inl e)
  exact (get_put_other _ 0 Ob.therm_shut_dies k _ hshut).trans (keptObjs_dflt s hkind hk)

theorem cleared_pending (s : State) (kind : Nat) : (s.cleared kind).pending = s.pending := rfl

theorem cleared_fw (s : State) (kind : Nat) : (s.cleared kind).fw = 0 := rfl

/-- Pins and chains put at rest are outputs: a reset is what is cleared, with the part held. -/
theorem intoReset_rest (s : State) (kind cause : Nat) :
    s.intoReset kind cause = { s.cleared kind with sent := (s.intoReset kind cause).sent, boot := (s.intoReset kind cause).boot } := by
  have hpins : (s.cleared kind).restPins = { s.cleared kind with sent := (s.cleared kind).restPins.sent } := rfl
  have hchains : ∀ (x : State) (l : List (Nat × Nat)), x.each l (fun e y => y.rest s e.1 e.2) = { x with sent := (x.each l (fun e y => y.rest s e.1 e.2)).sent } :=
    fun x l => each_of (P := fun y => y = { x with sent := y.sent }) l _ (fun e y hy => by rw [hy]; rfl) rfl
  unfold State.intoReset
  generalize hx : s.cleared kind = x at hpins ⊢
  rw [hchains, hpins]

theorem intoReset_held (s : State) (kind cause : Nat) : (s.intoReset kind cause).boot.held = true := rfl

/-- A reset other than a warm one leaves the queue, stops the firmware and clears the objects outside the always-on domain. -/
theorem intoReset_dormant {s : State} (h : Dormant s) {kind : Nat} (hkind : kind ≠ rWarm) (cause : Nat) : Dormant (s.intoReset kind cause) := by
  have hrest := intoReset_rest s kind cause
  have hobjs : (s.intoReset kind cause).objs = (s.cleared kind).objs := by rw [hrest]
  have hfw : (s.intoReset kind cause).fw = 0 := by rw [hrest]; exact cleared_fw s kind
  have hqueue : (s.intoReset kind cause).pending = s.pending := by rw [hrest]; exact cleared_pending s kind
  exact ⟨intoReset_held s kind cause, hfw, fun k hk => by rw [hobjs]; exact cleared_objs s hkind k hk, by rw [hqueue]; exact h.queue⟩

/-- A part held in reset takes WARMRST_N as one more cause of that reset (R394). -/
theorem warmReset_dormant {s : State} (h : Dormant s) (ns : Nat) (env : BootEnv) : Dormant (s.warmReset ns env) := by
  unfold State.warmReset
  simp only [h.held, if_true]
  split
  · exact h
  · exact ⟨rfl, h.fw, h.objs, h.queue⟩

/-- Every command but the release of PORST_N keeps a part held in reset dormant. -/
theorem exec_dormant {s t : State} {c : Instr} (h : Dormant s) (hc : Instr.releases c = false) (hexec : exec c s = .next t) : Dormant t := by
  cases hends : Claims.endsScan c with
  | false =>
    injection (exec_shut (by simp [h.held]) c hc hends).symm.trans hexec with hsame
    exact hsame ▸ h
  | true =>
    obtain rfl | rfl | ⟨ns, env, rfl⟩ | ⟨r, rfl⟩ := (endsScan_iff c).1 hends <;> injection hexec with hnext <;> subst hnext
    · exact intoReset_dormant h (by decide) 2
    · exact intoReset_dormant h (by decide) 1
    · exact warmReset_dormant h ns env
    · rwa [brownoutRestart_held h.held]

/-- Held in reset, a nanosecond is REFCLK time alone (R76). -/
theorem tick_held {s : State} (h : s.boot.held = true) : s.tick = { s with now := s.now + 1 } := by simp [State.tick, h]

/-- Settles O51, by the command at the front of the queue: none that waits releases the part, and each of the others keeps it dormant. -/
theorem dormantPartStaysDormant : Obligations.DormantPartStaysDormant := by
  unfold Obligations.DormantPartStaysDormant Claims.dormantKept
  intro s t h hstep
  cases hq : s.pending with
  | nil =>
    simp only [step, hq, tick_held h.held] at hstep
    injection hstep with hnext
    subst hnext
    exact ⟨h.held, h.fw, h.objs, by simp⟩
  | cons c rest =>
    simp only [step, hq] at hstep
    have hc : Instr.releases c = false := h.queue c (by simp [hq])
    exact exec_dormant (s := { s with pending := rest }) ⟨h.held, h.fw, h.objs, fun x hx => h.queue x (by simp [hq, hx])⟩ hc hstep

end Sys2Proof.Proofs
end

section
/-! What flags raised, responses and lists of changes leave alone: the shared frame facts of the proofs that follow. -/

namespace Sys2Proof.Proofs

open Sys2Proof.Machine Sys2Proof.Laws

/-! A flag raised (R173) -/

@[simp] theorem raise_fuses (s : State) (die key i x : Nat) : (s.raise die key i x).fuses = s.fuses := (congrArg State.fuses (raise_reportOnly (p := fun k => k = fullKey die key) s die key i x rfl).rest :)
@[simp] theorem raise_now (s : State) (die key i x : Nat) : (s.raise die key i x).now = s.now := (congrArg State.now (raise_reportOnly (p := fun k => k = fullKey die key) s die key i x rfl).rest :)
@[simp] theorem raise_staged (s : State) (die key i x : Nat) : (s.raise die key i x).staged = s.staged := (congrArg State.staged (raise_reportOnly (p := fun k => k = fullKey die key) s die key i x rfl).rest :)
@[simp] theorem raise_corrix (s : State) (die key i x : Nat) : (s.raise die key i x).corrix = s.corrix := (congrArg State.corrix (raise_reportOnly (p := fun k => k = fullKey die key) s die key i x rfl).rest :)
@[simp] theorem raise_lay (s : State) (die key i x : Nat) : (s.raise die key i x).lay = s.lay := (congrArg State.lay (raise_reportOnly (p := fun k => k = fullKey die key) s die key i x rfl).rest :)
@[simp] theorem raise_dieRelease (s : State) (die key i x : Nat) : (s.raise die key i x).dieRelease = s.dieRelease := (congrArg State.dieRelease (raise_reportOnly (p := fun k => k = fullKey die key) s die key i x rfl).rest :)
@[simp] theorem raise_enums (s : State) (die key i x : Nat) : (s.raise die key i x).enums = s.enums := (congrArg State.enums (raise_reportOnly (p := fun k => k = fullKey die key) s die key i x rfl).rest :)
@[simp] theorem raise_net (s : State) (die key i x : Nat) : (s.raise die key i x).net = s.net := (congrArg State.net (raise_reportOnly (p := fun k => k = fullKey die key) s die key i x rfl).rest :)
@[simp] theorem raise_faultSrc (s : State) (die key i x : Nat) : (s.raise die key i x).faultSrc = s.faultSrc := (congrArg State.faultSrc (raise_reportOnly (p := fun k => k = fullKey die key) s die key i x rfl).rest :)
@[simp] theorem raise_fw (s : State) (die key i x : Nat) : (s.raise die key i x).fw = s.fw := (congrArg State.fw (raise_reportOnly (p := fun k => k = fullKey die key) s die key i x rfl).rest :)
@[simp] theorem raise_launch (s : State) (die key i x : Nat) : (s.raise die key i x).launch = s.launch := (congrArg State.launch (raise_reportOnly (p := fun k => k = fullKey die key) s die key i x rfl).rest :)
@[simp] theorem raise_comp (s : State) (die key i x : Nat) : (s.raise die key i x).comp = s.comp := (congrArg State.comp (raise_reportOnly (p := fun k => k = fullKey die key) s die key i x rfl).rest :)
@[simp] theorem raise_cam (s : State) (die key i x : Nat) : (s.raise die key i x).cam = s.cam := (congrArg State.cam (raise_reportOnly (p := fun k => k = fullKey die key) s die key i x rfl).rest :)
@[simp] theorem raise_tile (s : State) (die key i x : Nat) : (s.raise die key i x).tile = s.tile := (congrArg State.tile (raise_reportOnly (p := fun k => k = fullKey die key) s die key i x rfl).rest :)
@[simp] theorem raise_mem (s : State) (die key i x : Nat) : (s.raise die key i x).mem = s.mem := (congrArg State.mem (raise_reportOnly (p := fun k => k = fullKey die key) s die key i x rfl).rest :)
@[simp] theorem raise_journal (s : State) (die key i x : Nat) : (s.raise die key i x).journal = s.journal := (congrArg State.journal (raise_reportOnly (p := fun k => k = fullKey die key) s die key i x rfl).rest :)
@[simp] theorem raise_upd (s : State) (die key i x : Nat) : (s.raise die key i x).upd = s.upd := (congrArg State.upd (raise_reportOnly (p := fun k => k = fullKey die key) s die key i x rfl).rest :)
@[simp] theorem raise_clks (s : State) (die key i x : Nat) : (s.raise die key i x).clks = s.clks := (congrArg State.clks (raise_reportOnly (p := fun k => k = fullKey die key) s die key i x rfl).rest :)
@[simp] theorem raise_boot (s : State) (die key i x : Nat) : (s.raise die key i x).boot = s.boot := (congrArg State.boot (raise_reportOnly (p := fun k => k = fullKey die key) s die key i x rfl).rest :)
@[simp] theorem raise_red (s : State) (die key i x : Nat) : (s.raise die key i x).red = s.red := (congrArg State.red (raise_reportOnly (p := fun k => k = fullKey die key) s die key i x rfl).rest :)
@[simp] theorem raise_therm (s : State) (die key i x : Nat) : (s.raise die key i x).therm = s.therm := (congrArg State.therm (raise_reportOnly (p := fun k => k = fullKey die key) s die key i x rfl).rest :)
@[simp] theorem raise_pending (s : State) (die key i x : Nat) : (s.raise die key i x).pending = s.pending := (congrArg State.pending (raise_reportOnly (p := fun k => k = fullKey die key) s die key i x rfl).rest :)

/-- A flag raised changes its object and those of a fault report. -/
theorem raise_objs (s : State) (die key i x : Nat) : ObjsBut s (s.raise die key i x) fun k => k = fullKey die key ∨ reportKey k :=
  (raise_reportOnly (p := fun k => k = fullKey die key) s die key i x rfl).objs

/-- The objects of a fault report lie among those of lanes, cells and knots. -/
theorem not_reportKey {k : Nat} (h : k < 0x200000) : ¬ reportKey k := by
  rintro (hk | hk | hk | hk | ⟨die, p, hk⟩ | ⟨die, p, hk⟩ | ⟨die, p, hk⟩)
  · exact absurd (hk ▸ h) (by decide)
  · exact absurd (hk ▸ h) (by decide)
  · exact absurd (hk ▸ h) (by decide)
  · exact absurd (hk ▸ h) (by decide)
  all_goals
    simp only [fullKey, Ob.fwd_drops, Ob.lane_sleep, Ob.lane_state] at hk
    omega

/-! A response (R28, R54, R56, R172) -/

/-- A lane that wakes changes its objects, its announcements and its crossing. -/
theorem wakeTx_rest (s : State) (die lane : Nat) : s.wakeTx die lane = { s with objs := (s.wakeTx die lane).objs, lanes := (s.wakeTx die lane).lanes, xings := (s.wakeTx die lane).xings } := by
  unfold State.wakeTx State.setTx
  dsimp only
  split <;> rfl

/-- A cell queued for a port may wake it (R138). -/
theorem autoWake_rest (s : State) (p : Nat) :
    s.autoWake p = { s with objs := (s.autoWake p).objs, ports := (s.autoWake p).ports, lanes := (s.autoWake p).lanes, xings := (s.autoWake p).xings } := by
  have hclock : s.wakeClock p = { s with xings := (s.wakeClock p).xings } := by
    unfold State.wakeClock
    dsimp only
    split <;> rfl
  unfold State.autoWake
  dsimp only
  split
  · rw [wakeTx_rest, hclock]; rfl
  · rw [hclock]

theorem queueOwn_rest (s : State) (p : Nat) (c : Cell) :
    s.queueOwn p c = { s with objs := (s.queueOwn p c).objs, ports := (s.queueOwn p c).ports, lanes := (s.queueOwn p c).lanes, xings := (s.queueOwn p c).xings } := by
  unfold State.queueOwn
  rw [autoWake_rest]
  rfl

/-- A response changes objects, ports, lanes, crossings, the host port and what the part puts out. -/
theorem reply_rest (s : State) (via : Path) (op : Nat) (m : Msg) :
    s.reply via op m = { s with objs := (s.reply via op m).objs, ports := (s.reply via op m).ports, lanes := (s.reply via op m).lanes, xings := (s.reply via op m).xings,
                                spi := (s.reply via op m).spi, sent := (s.reply via op m).sent } := by
  cases via with
  | udp addr port dport =>
    simp only [State.reply]
    rw [crossWords_rest]
    rfl
  | spi => rfl
  | hawser p e h =>
    simp only [State.reply]
    rw [queueOwn_rest]

/-- Of the objects, a response changes the sleep and the state of a lane that its cell wakes, at most. -/
theorem reply_objs (s : State) (via : Path) (op : Nat) (m : Msg) : ObjsBut s (s.reply via op m) reportKey := by
  cases via with
  | udp addr port dport => exact objsBut_of_eq (by simp [State.reply, State.emit])
  | spi => exact objsBut_of_eq rfl
  | hawser p e h =>
    have hwake := (autoWake_reportOnly (p := fun _ => False) (s.setPort p fun t => { t with own := t.own ++ [corrixCell e e true false op m] }) p).objs
    exact objsBut_trans (t := s.setPort p fun t => { t with own := t.own ++ [corrixCell e e true false op m] }) (objsBut_of_eq rfl) (objsBut_mono hwake fun k hk => hk.resolve_left id)

end Sys2Proof.Proofs
end

section
/-! Requests of chapter 2 (R46-R72): segments read, values staged and written, segments taken, and the commit commands. -/

namespace Sys2Proof.Proofs

open Sys2Proof.Machine Sys2Proof.Laws

/-! What each opcode leaves to its answer -/

@[simp] theorem exec_launch (s : State) (m : Msg) : exec (.launch m) s = .next (s.corrixIn 0x11 m) := rfl
@[simp] theorem exec_abort (s : State) (m : Msg) : exec (.abort m) s = .next (s.corrixIn 0x12 m) := rfl
@[simp] theorem exec_discard (s : State) (m : Msg) : exec (.discard m) s = .next (s.corrixIn 0x13 m) := rfl
@[simp] theorem exec_prepare (s : State) (m : Msg) : exec (.prepare m) s = .next (s.corrixIn 0x10 m) := rfl

/-- A served request that is neither a WRITE nor a PREPARE is answered with what it gives, and nothing follows the response. -/
theorem corrixIn_answered {s x : State} {op : Nat} {m : Msg} {st : Nat} {pay : List Byte} (h : Served s op m) (hop : op ≠ 0x10) (hwrite : op ≠ 0x02)
    (hout : (s.arrived m).serveOp op m = (x, st, pay)) : s.corrixIn op m = x.answer op m st (replyTy op m) pay := by
  rw [serve_served h hop, hout]
  simp [State.afterReply, hwrite]

/-- part_reset is a write-only object (Table 13.4). -/
theorem acc_part_reset {d : ObjDef} (h : objDef Ob.part_reset = some d) : d.acc = .wo := by
  have hrow : (objDef Ob.part_reset).map (·.acc) = some .wo := by rfl
  simpa [h] using hrow

/-- After a WRITE of another object nothing follows the response (R392). -/
theorem afterReply_other (s : State) {m : Msg} (hkey : m.key ≠ Ob.part_reset) (op st : Nat) : s.afterReply op m st = s := by
  simp [State.afterReply, hkey]

/-- The commands of one object that a WRITE executes on one die, of any object but part_reset. -/
theorem exec_write_one {s : State} {m : Msg} {d : ObjDef} {die : Nat} (h : WritesOne s m d die) (hkey : m.key ≠ Ob.part_reset) :
    exec (.write m) s = .next (((s.arrived m).writeOne die m.key d (decodeVal d.ty m.payload)).1.answer 0x02 m ((s.arrived m).writeOne die m.key d (decodeVal d.ty m.payload)).2
      d.ty.code []) := by
  rw [exec_write, write_one h, afterReply_other _ hkey, replyTy_of_found h.found (by decide)]

/-! WRITE (R17, R58, R59) -/

/-- A value staged is the staged value, and a commit that was IDLE is STAGED (Table 2.9). -/
theorem stage_stagedInt (s : State) (die key : Nat) (v : Int) : (s.stage die key (.num v)).stagedInt die key = v := by
  have hstaged : (s.stage die key (.num v)).staged = smPut .dflt s.staged (fullKey die key) (.num v) := by
    unfold State.stage State.noteStaged
    split <;> rfl
  simp [State.stagedInt, hstaged]

theorem noteStaged_commit (s : State) : s.noteStaged.commit = if s.commit = cIdle then cStaged else s.commit := by
  unfold State.noteStaged
  split
  · simp [State.commit, State.pw, State.set]
  · rfl

theorem stage_commit (s : State) (die key : Nat) (v : Value) : (s.stage die key v).commit = if s.commit = cIdle then cStaged else s.commit := noteStaged_commit _

/-- Staging changes objects and staged values alone. -/
theorem stage_rest (s : State) (die key : Nat) (v : Value) : s.stage die key v = { s with objs := (s.stage die key v).objs, staged := (s.stage die key v).staged } := by
  unfold State.stage State.noteStaged
  split <;> rfl

/-- The staged values are as they were before the message. -/
@[simp] theorem arrived_staged (s : State) (m : Msg) : (s.arrived m).staged = s.staged := (congrArg State.staged (arrived_rest s m) :)

theorem writeStaged : Claims.writeStaged := by
  intro s m d die h hrws
  have hkey : m.key ≠ Ob.part_reset := fun e => by
    have hwo := acc_part_reset (e ▸ objDef_of_found h.found)
    simp [hwo] at hrws
  have hout : (s.arrived m).writeOne die m.key d (decodeVal d.ty m.payload) = ((s.arrived m).stage die m.key (.num ((s.arrived m).clampVal die m.key d (decodeVal d.ty m.payload))), 0) := by
    simp [State.writeOne, h.unit, hrws]
  have honly := stage_stagedOnly (s.arrived m) die m.key (.num ((s.arrived m).clampVal die m.key d (decodeVal d.ty m.payload)))
  refine ⟨_, ?_, stage_stagedInt _ _ _ _, stage_commit _ _ _ _, fun k hk => ?_, honly.objs, stage_rest _ _ _ _⟩
  · rw [exec_write_one h hkey, hout]
  · rw [honly.staged k hk, arrived_staged]

theorem writePlain : Claims.writePlain := by
  intro s m d die h hrw hquiet hkey
  have hout : (s.arrived m).writeOne die m.key d (decodeVal d.ty m.payload) = ((s.arrived m).put die m.key ((s.arrived m).clampVal die m.key d (decodeVal d.ty m.payload)), 0) := by
    have htouch := fun x => (hquiet x 0).1
    have hwrote := fun x old => (hquiet x old).2
    simp [State.writeOne, h.unit, hrw, htouch, hwrote]
  exact ⟨_, by rw [exec_write_one h hkey, hout], int_put_same _ _ _ _, objsBut_put _ _ _ _, rfl⟩

/-- A misfit WRITE outside recovery mode is MALFORMED (R47). -/
theorem writeIn_bad {s : State} {m : Msg} (hrec : s.boot.recovery = false) (hbad : badWrite m = true) : s.writeIn m = (s, 0x0E, []) := by
  simp [State.writeIn, hbad, hrec]

theorem writeIn_readOnly {s : State} {m : Msg} {d : ObjDef} (hgood : badWrite m = false) (hf : s.found m = some d) (hro : d.acc = .ro) : s.writeIn m = (s, 0x02, []) := by
  simp [State.writeIn, hgood, hf, hro]

theorem writeRefused : Claims.writeRefused := by
  intro s m h hrec
  refine ⟨fun hbad => ?_, fun d hgood hf hro _ => ?_⟩
  · exact exec_write_refused h (writeIn_bad (by simpa using hrec) hbad) (by decide)
  · exact exec_write_refused h (writeIn_readOnly hgood hf hro) (by decide)

/-! WRITE_SEG (R61, R62) -/

/-- The only BLOB that a host writes without reading it is the correction patch (Table 2.11). -/
def patchOrReadable (d : ObjDef) : Bool :=
  !(decide (d.ty = .blob)) || !(decide (d.acc = .wo)) || decide (d.lo * 256 + d.slo = Ob.corr_patch ∧ d.hi = d.lo ∧ d.shi = d.slo)

theorem dictRows_patchOrReadable (index : Nat) : (dictRows index).all patchOrReadable = true := by
  unfold dictRows
  split_ifs <;> decide +kernel

theorem blob_not_wo {key : Nat} {d : ObjDef} (h : objDef key = some d) (hblob : d.ty = .blob) (hkey : key ≠ Ob.corr_patch) : d.acc ≠ .wo := by
  intro hwo
  have hrow : patchOrReadable d = true := List.all_eq_true.mp (dictRows_patchOrReadable _) d (List.mem_of_find?_eq_some h)
  obtain ⟨hindex, hsub⟩ := covers_of_objDef h
  simp only [patchOrReadable, hblob, hwo, decide_true, Bool.not_true, Bool.false_or, decide_eq_true_eq] at hrow
  obtain ⟨hlo, hhi, hshi⟩ := hrow
  exact hkey (by omega)

/-- What a segment that is taken leaves alone: the transfers, the memories, the fuses, the time and the queue. -/
structure SegmentKeeps (s t : State) : Prop where
  corrix  : t.corrix = s.corrix
  mem     : t.mem = s.mem
  fuses   : t.fuses = s.fuses
  now     : t.now = s.now
  pending : t.pending = s.pending

theorem segmentKeeps_refl (s : State) : SegmentKeeps s s := ⟨rfl, rfl, rfl, rfl, rfl⟩

theorem segmentKeeps_trans {s t u : State} (h : SegmentKeeps s t) (h' : SegmentKeeps t u) : SegmentKeeps s u :=
  ⟨h'.corrix.trans h.corrix, h'.mem.trans h.mem, h'.fuses.trans h.fuses, h'.now.trans h.now, h'.pending.trans h.pending⟩

theorem noteStaged_keeps (s : State) : SegmentKeeps s s.noteStaged := by
  unfold State.noteStaged
  split
  · exact ⟨rfl, rfl, rfl, rfl, rfl⟩
  · exact segmentKeeps_refl s

theorem noteDeferred_keeps (s : State) : SegmentKeeps s s.noteDeferred := by
  unfold State.noteDeferred
  split
  · exact ⟨raise_corrix .., raise_mem .., raise_fuses .., raise_now .., raise_pending ..⟩
  · exact segmentKeeps_refl s

theorem stage_keeps (s : State) (die key : Nat) (v : Value) : SegmentKeeps s (s.stage die key v) :=
  have hput : SegmentKeeps s { s with staged := smPut .dflt s.staged (fullKey die key) v } := ⟨rfl, rfl, rfl, rfl, rfl⟩
  segmentKeeps_trans hput (noteStaged_keeps _)

/-- A BLOB that is complete, of any object but the correction patch (R63). -/
theorem blobDone_keeps (s : State) (die key : Nat) {d : ObjDef} (hacc : d.acc ≠ .wo) (raw : SMap Byte) : SegmentKeeps s (s.blobDone die key d raw) := by
  simp only [State.blobDone]
  split
  · exact segmentKeeps_refl s
  · split
    · exact stage_keeps s die key _
    · exact segmentKeeps_trans (t := (s.putBlob die key _).persist die key) ⟨rfl, rfl, rfl, rfl, rfl⟩ (noteDeferred_keeps _)
    · contradiction
    · exact ⟨rfl, rfl, rfl, rfl, rfl⟩

/-- A segment at an OFFSET not past FILL of a BLOB that no other session holds is taken (R61, R62). -/
theorem segment_takes {s : State} {session die key off : Nat} {d : ObjDef} (hacc : d.acc ≠ .wo) (hheld : ∀ h, (s.xfer (fullKey die key)).holder = some h → h = session)
    (himage : key ≠ Ob.upd_image) (hpatch : key ≠ Ob.corr_patch) (hoff : off ≤ (s.xfer (fullKey die key)).fill) (data : List Byte) (last : Bool) :
    ∃ t, s.segment session die key d off data last = (t, 0, (takenXfer s session die key off data last).fill) ∧
      SegmentKeeps (s.setXfer (fullKey die key) (takenXfer s session die key off data last)) t := by
  have hfree : ((s.xfer (fullKey die key)).holder.any fun h => decide (h ≠ session)) = false := by
    simpa [Option.any_eq_false] using hheld
  have hnote (t : State) (b : Bool) : SegmentKeeps t (if b then t.noteStaged else t) := by
    cases b
    · exact segmentKeeps_refl t
    · exact noteStaged_keeps t
  simp only [State.segment, hfree, himage, hpatch, Nat.not_lt.mpr hoff, decide_false, Bool.false_and, Bool.false_eq_true, if_false]
  refine ⟨_, rfl, ?_⟩
  cases last
  · exact hnote _ _
  · exact segmentKeeps_trans (hnote _ _) (blobDone_keeps _ die key hacc _)

theorem segmentKeeps_xfer {s t : State} (h : SegmentKeeps s t) (k : Nat) : t.xfer k = s.xfer k := by
  simp only [State.xfer, h.corrix]

theorem writeSegTakes : Claims.writeSegTakes := by
  intro s m d k h htarget hk hheld himage hpatch hoff
  subst hk
  obtain ⟨hf, hblob, -⟩ := found_of_segTarget_write htarget
  have hacc := blob_not_wo (objDef_of_found hf) hblob hpatch
  obtain ⟨t, hseg, hkeeps⟩ := segment_takes hacc hheld himage hpatch hoff (m.payload.drop 4) (bit m.flags 3)
  have hxfer : t.xfer (fullKey (homeDie d m) m.key) = takenXfer (s.arrived m) m.session (homeDie d m) m.key (leAt m.payload 0 4) (m.payload.drop 4) (bit m.flags 3) := by
    rw [segmentKeeps_xfer hkeeps, xfer_setXfer_same]
  have hout : (s.arrived m).writeSegIn m = (t, 0, leBytes 4 (t.xfer (fullKey (homeDie d m) m.key)).fill) := by
    simp [State.writeSegIn, htarget, hseg, hxfer]
  refine ⟨t, exec_writeSeg_served h hout, ?_, ?_, fun i hi hsize => ?_, ?_, ?_, ?_, ?_⟩
  · rw [hxfer]; simp [takenXfer]
  · rw [hxfer]; rfl
  · rw [hxfer, takenXfer_buf _ _ _ _ _ _ _ (by simpa using hi) hsize]
  · rw [hkeeps.mem]; exact (congrArg State.mem (arrived_rest s m) :)
  · rw [hkeeps.fuses]; exact arrived_fuses s m
  · rw [hkeeps.now]; exact (congrArg State.now (arrived_rest s m) :)
  · rw [hkeeps.pending]; exact (congrArg State.pending (arrived_rest s m) :)

theorem writeSegRefused : Claims.writeSegRefused := by
  intro s m d k h htarget hk himage hpatch
  subst hk
  refine ⟨fun ⟨other, hother, hne⟩ => ?_, fun hfree hgap => ?_⟩
  · refine exec_writeSeg_served h ?_
    simp [State.writeSegIn, htarget, State.segment, hother, hne]
  · refine exec_writeSeg_served h ?_
    simp [State.writeSegIn, htarget, State.segment, hfree, himage, hpatch, hgap]

/-- Settles O2: what a WRITE and a WRITE_SEG that the part executes leave, by the access of their object. -/
theorem writesStageOrTakeEffect : Obligations.WritesStageOrTakeEffect := ⟨writeStaged, writePlain, writeRefused, writeSegTakes, writeSegRefused⟩

end Sys2Proof.Proofs
end

section
/-! FILL of captured data (R61, R261): READ_SEG with COUNT 0 of cap_data answers what its slot has written, not what a transfer has. -/

namespace Sys2Proof.Proofs

open Sys2Proof.Machine Sys2Proof.Laws

/-- A READ_SEG with COUNT 0 of cap_data of slot 0, by UDP to the part itself, less its CRC. -/
def readFillBody : Msg :=
  { via := .udp 1 2 28741, seq := 3, session := 7, target := 1024, index := 0x5300, sub := 13, ty := 0, len := 6, payload := [0, 0, 0, 0, 0, 0], crc := 0 }

/-- The READ_SEG with its CRC. -/
def readCaptureFill : Msg := { readFillBody with crc := msgCrc 0x03 readFillBody }

/-- An eight-die part whose dies all answer, with 5 bytes captured in slot 0. -/
def capturedState : State := ({ boot := { held := false }, fw := 255, cam := { fill := [(0, 5)] } } : State).set Ob.dies_alive 255

/-- The part executes the READ_SEG: cap_data is a BLOB that a host reads by segments (Table 8.5), no transfer of it has ever begun, and the answer is that 5 bytes are there (R261), of a SIZE of 0. -/
@[irreducible] def capturedPart : { s : State // Served s 0x03 readCaptureFill ∧ ((s.arrived readCaptureFill).segTarget readCaptureFill false).2.isSome = true ∧
    ((s.arrived readCaptureFill).segTarget readCaptureFill false).1 = 0 ∧ (s.arrived readCaptureFill).readSegOut readCaptureFill = (s.arrived readCaptureFill, 0, leBytes 4 5 ++ leBytes 4 0) ∧
    s.corrix.blobs = [] } :=
  ⟨capturedState,
    { up := ⟨rfl, rfl⟩
      booted := by decide +kernel
      carried := by show _ = _; decide +kernel
      crc := by decide +kernel
      fresh := rfl
      unicast := rfl
      made := by decide +kernel
      sup := by decide +kernel
      own := by decide +kernel
      serving := by decide +kernel
      room := by decide
      once := by decide +kernel },
    by decide +kernel, by decide +kernel, by decide +kernel, rfl⟩

/-- Refutes O1: of cap_data, READ_SEG with COUNT 0 answers as FILL the bytes that the slot has written (R261), 5 here, not the fill of a transfer, which is 0. -/
theorem not_segmentsAreReadAndPingAnswers : ¬ Obligations.SegmentsAreReadAndPingAnswers := by
  unfold Obligations.SegmentsAreReadAndPingAnswers Claims.readSegFill
  rintro ⟨-, hfill, -⟩
  obtain ⟨s, hserved, hsome, hok, hout, hblobs⟩ := capturedPart
  obtain ⟨d, hd⟩ := Option.isSome_iff_exists.1 hsome
  have hclaim := hfill s readCaptureFill d hserved (Prod.ext hok hd) (by decide) (by decide)
  have hnone : ∀ die, ((s.arrived readCaptureFill).xfer (fullKey die readCaptureFill.key)).fill = 0 := fun die => by simp [State.xfer, hblobs, smGet]
  rw [hnone] at hclaim
  injection (exec_readSeg_served hserved hout).symm.trans hclaim with hstate
  have hsent := congrArg State.sent hstate
  rw [answer_udp_sent rfl, answer_udp_sent rfl] at hsent
  have hpay := congrArg (fun l => l.head?) hsent
  simp [respond, leBytes, byteOf] at hpay

end Sys2Proof.Proofs
end

section
/-! The commit commands (R66-R72): PREPARE, LAUNCH, ABORT and DISCARD, and the objects that each may change. -/

namespace Sys2Proof.Proofs

open Sys2Proof.Machine Sys2Proof.Laws

/-! What counting a message leaves (R388, R389) -/

@[simp] theorem arrived_now (s : State) (m : Msg) : (s.arrived m).now = s.now := (congrArg State.now (arrived_rest s m) :)
@[simp] theorem arrived_mem (s : State) (m : Msg) : (s.arrived m).mem = s.mem := (congrArg State.mem (arrived_rest s m) :)
@[simp] theorem arrived_pending (s : State) (m : Msg) : (s.arrived m).pending = s.pending := (congrArg State.pending (arrived_rest s m) :)
@[simp] theorem arrived_sent (s : State) (m : Msg) : (s.arrived m).sent = s.sent := (congrArg State.sent (arrived_rest s m) :)

/-- The objects of the commit, and the counts of requests, differ from one another. -/
theorem pw_set_other (s : State) (key k : Nat) (v : Int) (h : k ≠ key) : (s.set key v).pw k = s.pw k :=
  nat_put_other s 0 key 0 k v (by simpa [fullKey] using h)

@[simp] theorem pw_set_same (s : State) (key : Nat) (v : Int) : (s.set key v).pw key = v.toNat := nat_put_same s 0 key v

/-! PREPARE (R66) -/

/-- A session's entry changes corrix_sessions and the session table. -/
theorem putSession_rest (s : State) (m : Msg) (op : Nat) (r : Option Msg) :
    s.putSession m op r = { s with objs := (s.putSession m op r).objs, corrix := { s.corrix with sessions := (s.putSession m op r).corrix.sessions } } := by
  unfold State.putSession State.showSessions
  split <;> rfl

theorem putSession_objs (s : State) (m : Msg) (op : Nat) (r : Option Msg) : ObjsBut s (s.putSession m op r) fun k => k = Ob.corrix_sessions := by
  unfold State.putSession State.showSessions
  split
  · exact objsBut_refl _ _
  · exact fun k hk => get_put_other _ 0 Ob.corrix_sessions k _ (by simpa [fullKey] using hk)

/-- A write of a part-wide object changes at most it. -/
theorem objsBut_set (s : State) (key : Nat) (v : Int) : ObjsBut s (s.set key v) fun k => k = key :=
  objsBut_mono (objsBut_put s 0 key v) fun k hk => by simpa [fullKey] using hk

theorem objsBut_bumpPart (s : State) (key n : Nat) : ObjsBut s (s.bump 0 key n) fun k => k = key :=
  objsBut_mono (bump_objs s 0 key n) fun k hk => by simpa [fullKey] using hk

/-- A part-wide object that has not changed reads as before. -/
theorem objsBut_pw {s t : State} {p : Nat → Prop} (h : ObjsBut s t p) {key : Nat} (hk : ¬ p key) : t.pw key = s.pw key :=
  objsBut_nat h (by simpa [fullKey] using hk)

/-- A vote that begins: its PREPARE waits, the commit ID and the state are shown, and the request is counted. -/
theorem prepare_begins {s : State} {m : Msg} (hvote : s.corrix.vote = none) (hstate : s.commit = cIdle ∨ s.commit = cStaged) :
    (s.prepare m).commit = cPreparing ∧ (s.prepare m).pw Ob.commit_id = leAt m.payload 0 4 ∧
    (s.prepare m).corrix.vote = some { id := leAt m.payload 0 4, waiting := [m], startAt := s.now, late := [] } ∧
    ObjsBut s (s.prepare m) (fun k => k = Ob.commit_id ∨ k = Ob.commit_state ∨ k = Ob.corrix_requests ∨ k = Ob.corrix_sessions) ∧
    s.prepare m = { s with objs := (s.prepare m).objs, corrix := (s.prepare m).corrix, free := (s.prepare m).free } := by
  have hopen : (decide (s.commit = cIdle) || decide (s.commit = cStaged)) = true := by simpa using hstate
  unfold State.prepare
  simp only [hvote, hopen, if_true]
  generalize hv : (some { id := leAt m.payload 0 4, waiting := [m], startAt := s.now, late := [] } : Option VoteSt) = v
  generalize hs1 : (s.set Ob.commit_id (leAt m.payload 0 4)).set Ob.commit_state cPreparing = s1
  generalize hs2 : ({ s1 with corrix := { s1.corrix with vote := v } } : State) = s2
  have hobjs1 : ObjsBut s s2 fun k => k = Ob.commit_id ∨ k = Ob.commit_state := by
    subst hs2 hs1
    exact objsBut_trans (objsBut_mono (objsBut_set s Ob.commit_id _) fun _ => .inl) (objsBut_mono (objsBut_set _ Ob.commit_state cPreparing) fun _ => .inr)
  have hafter : ObjsBut s2 ((s2.bump 0 Ob.corrix_requests).putSession m 0x10 none) fun k => k = Ob.corrix_requests ∨ k = Ob.corrix_sessions :=
    objsBut_trans (objsBut_mono (objsBut_bumpPart s2 Ob.corrix_requests 1) fun _ => .inl) (objsBut_mono (putSession_objs _ m 0x10 none) fun _ => .inr)
  refine ⟨?_, ?_, ?_, ?_, ?_⟩
  · have hkeep : ¬ (Ob.commit_state = Ob.corrix_requests ∨ Ob.commit_state = Ob.corrix_sessions) := by decide
    have hset : s1.pw Ob.commit_state = cPreparing := by subst hs1; exact pw_set_same _ _ _
    rw [State.commit, objsBut_pw hafter hkeep, ← hset]
    subst hs2
    rfl
  · have hkeep : ¬ (Ob.commit_id = Ob.corrix_requests ∨ Ob.commit_id = Ob.corrix_sessions) := by decide
    have hset : s1.pw Ob.commit_id = leAt m.payload 0 4 := by
      subst hs1
      exact (pw_set_other (s.set Ob.commit_id _) Ob.commit_state Ob.commit_id _ (by decide)).trans (pw_set_same _ _ _)
    rw [objsBut_pw hafter hkeep, ← hset]
    subst hs2
    rfl
  · rw [putSession_rest, bump_corrix]
    subst hs2
    rfl
  · exact objsBut_trans (objsBut_mono hobjs1 fun _ h => h.imp_right .inl) (objsBut_mono hafter fun _ h => .inr (.inr h))
  · rw [putSession_rest, bump_rest]
    subst hs2 hs1
    rfl

theorem prepareBegins : Claims.prepareBegins := by
  intro s m h hrec hvote hstate
  have hbegins := prepare_begins (s := s.arrived m) (m := m) (by simpa using hvote) hstate
  obtain ⟨hcommit, hid, hv, hobjs, hrest⟩ := hbegins
  refine ⟨(s.arrived m).prepare m, by rw [exec_prepare, prepare_served h hrec], hcommit, hid, by simpa using hv, ?_, ?_, hobjs, hrest⟩
  · rw [hrest]; exact arrived_sent s m
  · rw [hrest]; exact arrived_staged s m

/-! LAUNCH (R69) -/

theorem serveOp_launch {s : State} {m : Msg} (hrec : s.boot.recovery = false) : s.serveOp 0x11 m = s.launchCommit (leAt m.payload 0 4) (layAt m.payload 4) := by
  simp [State.serveOp, hrec]

/-- A READY commit armed with T (R69, R71). -/
theorem arm_ready {s : State} (hready : s.commit = cReady) (t : Nat) :
    (s.arm t).commit = cArmed ∧ (s.arm t).int 0 Ob.commit_launch = (t : Int) ∧ ObjsBut s (s.arm t) (fun k => k = Ob.commit_state ∨ k = Ob.commit_launch) ∧
    s.arm t = { s with objs := (s.arm t).objs, corrix := (s.arm t).corrix, launch := (s.arm t).launch } := by
  have hnot : ¬ (s.commit = cArmed ∧ s.int 0 Ob.commit_launch = t) := fun hc => by rw [hready] at hc; exact absurd hc.1 (by decide)
  unfold State.arm
  simp only [Bool.and_eq_true, decide_eq_true_eq, hnot, if_false]
  refine ⟨?_, ?_, ?_, rfl⟩
  · exact (pw_set_other (s.set Ob.commit_state cArmed) Ob.commit_launch Ob.commit_state t (by decide)).trans (pw_set_same _ _ _)
  · exact int_put_same (s.set Ob.commit_state cArmed) 0 Ob.commit_launch t
  · exact objsBut_trans (objsBut_mono (objsBut_set s Ob.commit_state cArmed) fun _ => .inl) (objsBut_mono (objsBut_set _ Ob.commit_launch t) fun _ => .inr)

theorem launchArms : Claims.launchArms := by
  intro s m h hrec hready hid
  obtain ⟨hcommit, hlaunch, hobjs, hrest⟩ := arm_ready hready (layAt m.payload 4)
  have hout : (s.arrived m).serveOp 0x11 m = ((s.arrived m).arm (layAt m.payload 4), 0, leBytes 4 ((s.arrived m).pw Ob.commit_epoch + 1)) := by
    rw [serveOp_launch (by simpa using hrec)]
    simp [State.launchCommit, hready, hid]
  refine ⟨_, by rw [exec_launch, corrixIn_answered h (by decide) (by decide) hout]; rfl, hcommit, hlaunch, ?_, hobjs, hrest⟩
  rw [hrest]
  exact arrived_staged s m

theorem launchRefused : Claims.launchRefused := by
  intro s m h hrec hid hnone
  have hout : (s.arrived m).serveOp 0x11 m = (s.arrived m, if (s.arrived m).commit = cReady ∨ (s.arrived m).commit = cArmed then 0x07 else 0x08, []) := by
    rw [serveOp_launch (by simpa using hrec)]
    simp [State.launchCommit, hid, hnone]
  rw [exec_launch, corrixIn_answered h (by decide) (by decide) hout]
  rfl

/-! ABORT and DISCARD (R72) -/

/-- What the answers to the PREPAREs of a vote that is aborted may change (R72). -/
structure AnswersOnly (s t : State) : Prop where
  objs : ObjsBut s t fun k => k = Ob.corrix_busy ∨ reportKey k
  rest : t = { s with objs := t.objs, ports := t.ports, lanes := t.lanes, xings := t.xings, spi := t.spi, sent := t.sent, free := t.free }

theorem answersOnly_refl (s : State) : AnswersOnly s s := ⟨objsBut_refl _ _, rfl⟩

theorem answersOnly_trans {s t u : State} (h : AnswersOnly s t) (h' : AnswersOnly t u) : AnswersOnly s u :=
  ⟨objsBut_trans h.objs h'.objs, by rw [h'.rest, h.rest]⟩

/-- A request answered BUSY by a part that counts it. -/
theorem answersOnly_busy (s : State) (via : Path) (op : Nat) (r : Msg) : AnswersOnly s ((s.bump 0 Ob.corrix_busy).reply via op r) where
  objs := objsBut_trans (objsBut_mono (objsBut_bumpPart s Ob.corrix_busy 1) fun _ => .inl) (objsBut_mono (reply_objs _ via op r) fun _ => .inr)
  rest := by rw [reply_rest, bump_rest]

/-- A checkpoint whose commit is aborted is dropped (R411). -/
theorem ckptSettle_aborted (s : State) (id : Nat) : s.ckptSettle id false = { s with red := (s.ckptSettle id false).red } := by
  unfold State.ckptSettle
  split
  · split <;> rfl
  · rfl

theorem abortReturns : Claims.abortReturns := by
  intro s m h hrec hstate hid
  generalize ha : s.arrived m = a at hstate hid
  have hvoted : (decide (a.commit = cPreparing) || decide (a.commit = cReady) || decide (a.commit = cArmed)) = true := by simpa [or_assoc] using hstate
  have hsame : a.corrix = s.corrix ∧ a.staged = s.staged ∧ a.mem = s.mem ∧ a.fuses = s.fuses ∧ a.now = s.now ∧ a.pending = s.pending := by subst ha; simp
  obtain ⟨hcorrix, hstaged, hmem, hfuses, hnow, hpending⟩ := hsame
  generalize hb : ((({ a with corrix := { a.corrix with vote := none, mirror := none } } : State).set Ob.commit_state cStaged).set Ob.commit_launch a.corrix.lastT).ckptSettle (leAt m.payload 0 4) false = b
  generalize hws : (match a.corrix.vote with | some v => v.waiting | none => []) = ws
  generalize ht : (b.each ws fun m s => (s.bump 0 Ob.corrix_busy).reply m.via 0x10 (respond m 0x10 0x03 0 [])) = t
  have hout : a.serveOp 0x12 m = (t, 0, []) := by
    have hrec' : a.boot.recovery = false := by subst ha; simpa using hrec
    have habort : a.abortCommit (leAt m.payload 0 4) = (t, 0) := by
      unfold State.abortCommit
      simp only [hvoted, if_true, hid]
      subst ht hb hws
      rfl
    simp [State.serveOp, hrec', habort]
  have honly : AnswersOnly b t := by
    subst ht
    exact each_of (P := AnswersOnly b) ws _ (fun w x hx => answersOnly_trans hx (answersOnly_busy _ _ _ _)) (answersOnly_refl b)
  have hb0 : b = { (({ a with corrix := { a.corrix with vote := none, mirror := none } } : State).set Ob.commit_state cStaged).set Ob.commit_launch a.corrix.lastT with red := b.red } := by
    rw [← hb]; exact ckptSettle_aborted _ _
  have hlaunch : b.int 0 Ob.commit_launch = (a.corrix.lastT : Int) := by rw [hb0]; exact int_put_same _ 0 Ob.commit_launch _
  have hcommit : b.commit = cStaged := by
    rw [hb0]
    exact (pw_set_other (State.set _ Ob.commit_state cStaged) Ob.commit_launch Ob.commit_state _ (by decide)).trans (pw_set_same _ _ _)
  have hkeep (key : Nat) (h1 : key ≠ Ob.corrix_busy) (h2 : key < 0x200000) : ¬ (fullKey 0 key = Ob.corrix_busy ∨ reportKey (fullKey 0 key)) := by
    have hkey : fullKey 0 key = key := by simp [fullKey]
    rw [hkey]
    exact fun hk => hk.elim h1 (not_reportKey h2)
  refine ⟨t, by rw [exec_abort, corrixIn_answered h (by decide) (by decide) (ha ▸ hout)]; rfl, ?_, ?_, ?_, ?_, ?_, ?_, ?_, ?_, ?_⟩
  · rw [← hcommit]; exact objsBut_nat honly.objs (hkeep _ (by decide) (by decide))
  · rw [honly.rest, hb0]; rfl
  · rw [honly.rest, hb0]; rfl
  · rw [honly.rest, hb0]; exact hstaged
  · rw [← hcorrix, ← hlaunch]; exact objsBut_int honly.objs (hkeep _ (by decide) (by decide))
  · rw [honly.rest, hb0]; exact hmem
  · rw [honly.rest, hb0]; exact hfuses
  · rw [honly.rest, hb0]; exact hnow
  · rw [honly.rest, hb0]; exact hpending

theorem discardDrops : Claims.discardDrops := by
  intro s m h hrec
  have hserve : (s.arrived m).serveOp 0x13 m = ((s.arrived m).discardStaged.1, (s.arrived m).discardStaged.2, []) := by
    simp [State.serveOp, hrec]
  refine ⟨fun hstaged => ?_, fun hnot => ?_⟩
  · have hout : (s.arrived m).discardStaged = (({ s.arrived m with staged := [] } : State).set Ob.commit_state cIdle, 0) := by simp [State.discardStaged, hstaged]
    rw [hout] at hserve
    refine ⟨({ s.arrived m with staged := [] } : State).set Ob.commit_state cIdle, by rw [exec_discard, corrixIn_answered h (by decide) (by decide) hserve]; rfl, pw_set_same _ _ _, fun die key => rfl,
      ?_, rfl⟩
    exact objsBut_trans (t := ({ s.arrived m with staged := [] } : State)) (objsBut_of_eq rfl) (objsBut_set _ _ _)
  · have hout : (s.arrived m).discardStaged = (s.arrived m, 0x08) := by simp [State.discardStaged, hnot]
    rw [hout] at hserve
    rw [exec_discard, corrixIn_answered h (by decide) (by decide) hserve]
    rfl

/-- Settles O3: what each of the commit commands leaves in the state in which the part executes it. -/
theorem commitCommandsMoveTheVote : Obligations.CommitCommandsMoveTheVote := ⟨prepareBegins, launchArms, launchRefused, abortReturns, discardDrops⟩

end Sys2Proof.Proofs
end

section
/-! A direct part-wide WRITE of a staged object (R64): each die stages the value as it would alone. -/

namespace Sys2Proof.Proofs

open Sys2Proof.Machine Sys2Proof.Laws

/-- A part in which values of some dies were staged: staged values have changed, and of the objects the commit state. -/
structure StagedFrom (a x : State) : Prop where
  objs : ObjsBut a x fun k => k = Ob.commit_state
  rest : x = { a with objs := x.objs, staged := x.staged }

theorem stagedFrom_refl (a : State) : StagedFrom a a := ⟨objsBut_refl _ _, rfl⟩

/-- The staged value of the object staged. -/
theorem stage_value (s : State) (die key : Nat) (v : Value) : smGet .dflt (s.stage die key v).staged (fullKey die key) = v := by
  have hstaged : (s.stage die key v).staged = smPut .dflt s.staged (fullKey die key) v := by
    unfold State.stage State.noteStaged
    split <;> rfl
  simp [hstaged]

theorem stagedFrom_stage {a x : State} (h : StagedFrom a x) (die key : Nat) (v : Value) : StagedFrom a (x.stage die key v) :=
  ⟨objsBut_trans h.objs (stage_stagedOnly x die key v).objs, by rw [stage_rest, h.rest]⟩

/-- Every numeric object but the commit state reads as before. -/
theorem stagedFrom_nat {a x : State} (h : StagedFrom a x) {die key : Nat} (hk : fullKey die key ≠ Ob.commit_state) : x.nat die key = a.nat die key := objsBut_nat h.objs hk

theorem stagedFrom_int {a x : State} (h : StagedFrom a x) {die key : Nat} (hk : fullKey die key ≠ Ob.commit_state) : x.int die key = a.int die key := objsBut_int h.objs hk

theorem stagedFrom_pw {a x : State} (h : StagedFrom a x) {key : Nat} (hk : key ≠ Ob.commit_state) : x.pw key = a.pw key := objsBut_pw h.objs hk

/-- Which dies answer does not depend on what is staged. -/
theorem stagedFrom_answers {a x : State} (h : StagedFrom a x) (die : Nat) : x.answers die = a.answers die := by
  have halive : x.pw Ob.dies_alive = a.pw Ob.dies_alive := stagedFrom_pw h (by decide)
  have hfw : x.fw = a.fw := by rw [h.rest]
  have hrec : x.boot = a.boot := by rw [h.rest]
  simp only [State.answers, State.alive, State.fwOn, halive, hfw, hrec]

theorem stagedFrom_absent {a x : State} (h : StagedFrom a x) (die key : Nat) : x.absent die key = a.absent die key := by
  rw [h.rest]; rfl

/-- A byte of a BLOB in force is as before, whatever its default comes from (R60). -/
theorem stagedFrom_byteIn {a x : State} (h : StagedFrom a x) (die : Nat) (v : Value) (key off : Nat) : x.byteIn die v key off = a.byteIn die v key off := by
  have hfuses : x.fuses = a.fuses := by rw [h.rest]
  have hpeak : x.pw Ob.corr_peak_cdm2 = a.pw Ob.corr_peak_cdm2 := stagedFrom_pw h (by decide)
  simp only [State.byteIn, State.blobDflt, hfuses, hpeak]

/-- Whether a group drives frame-memory drivers is a matter of objects that are in force. -/
theorem stagedFrom_frameMem {a x : State} (h : StagedFrom a x) (die g : Nat) : x.frameMem die g = a.frameMem die g := by
  have hgrp : x.grp die g Ob.rg_profile = a.grp die g Ob.rg_profile := by
    refine stagedFrom_nat h ?_
    simp only [fullKey, atIndex, Ob.rg_profile, Ob.commit_state]
    omega
  have hval (n : Nat) : x.val 0 (atIndex Ob.chain_profile n) = a.val 0 (atIndex Ob.chain_profile n) := by
    refine h.objs _ ?_
    simp only [fullKey, atIndex, Ob.chain_profile, Ob.commit_state]
    omega
  simp only [State.frameMem, State.prof, State.blobNum, State.blobBytes, State.blobByte, hgrp, hval, stagedFrom_byteIn h]

/-- A value is clamped alike (R59). -/
theorem stagedFrom_clampVal {a x : State} (h : StagedFrom a x) (die key : Nat) (d : ObjDef) (v : Int) : x.clampVal die key d v = a.clampVal die key d v := by
  have hlane : x.laneCount = a.laneCount := by rw [h.rest]; rfl
  have hbig : x.big = a.big := by rw [h.rest]; rfl
  have hviews : x.maxViews = a.maxViews := by rw [h.rest]; rfl
  have hstraps : x.pw Ob.boot_straps = a.pw Ob.boot_straps := stagedFrom_pw h (by decide)
  have htamp : x.pw Ob.silt_tamp_low_pct = a.pw Ob.silt_tamp_low_pct := stagedFrom_pw h (by decide)
  have hwarn : x.int 0 Ob.therm_warn_c = a.int 0 Ob.therm_warn_c := stagedFrom_int h (by decide)
  have hthrottle : x.int 0 Ob.therm_throttle_c = a.int 0 Ob.therm_throttle_c := stagedFrom_int h (by decide)
  have hshutdown : x.int 0 Ob.therm_shutdown_c = a.int 0 Ob.therm_shutdown_c := stagedFrom_int h (by decide)
  unfold State.clampVal
  simp only [hlane, hbig, hviews, hstraps, htamp, hwarn, hthrottle, hshutdown, stagedFrom_frameMem h]

/-- A vote does not begin while values are staged (Table 2.9). -/
theorem stage_unvoted {s : State} (h : s.commit ≠ cPreparing ∧ s.commit ≠ cReady ∧ s.commit ≠ cArmed) (die key : Nat) (v : Value) :
    (s.stage die key v).commit ≠ cPreparing ∧ (s.stage die key v).commit ≠ cReady ∧ (s.stage die key v).commit ≠ cArmed := by
  rw [stage_commit]
  split
  · decide
  · exact h

/-- A staged object is locked by a vote alone (R68); lay_time_set, the object that a step locks (R92), is not staged. -/
theorem lockedOn_staged {s : State} {d : ObjDef} (hrws : d.acc = .rws) {key : Nat} (hkey : key ≠ Ob.lay_time_set) (die : Nat) :
    s.lockedOn d key die = (decide (s.commit = cPreparing) || decide (s.commit = cReady) || decide (s.commit = cArmed)) := by
  simp [State.lockedOn, hrws, hkey]

theorem acc_lay_time_set {d : ObjDef} (h : objDef Ob.lay_time_set = some d) : d.acc = .wo := by
  have hrow : (objDef Ob.lay_time_set).map (·.acc) = some .wo := by rfl
  simpa [h] using hrow

/-- The commit state is read-only (Table 2.11). -/
theorem acc_commit_state {d : ObjDef} (h : objDef Ob.commit_state = some d) : d.acc = .ro := by
  have hrow : (objDef Ob.commit_state).map (·.acc) = some .ro := by rfl
  simpa [h] using hrow

/-- The value that each die stages. -/
def stagedShare (a : State) (m : Msg) (d : ObjDef) (n : Nat) : Value := .num (a.clampVal n m.key d (decodeVal d.ty m.payload))

/-- What holds after some dies have had their share: those that answer have staged the value, the others have what they had and their bit in FAIL. -/
structure Shared (a x : State) (m : Msg) (d : ObjDef) (l : List Nat) (fail : Nat) : Prop where
  from_ : StagedFrom a x
  unvoted : x.commit ≠ cPreparing ∧ x.commit ≠ cReady ∧ x.commit ≠ cArmed
  fails : ∀ n, bit fail n = (l.contains n && !(a.answers n))
  staged : ∀ n, smGet .dflt x.staged (fullKey n m.key) = if l.contains n && a.answers n then stagedShare a m d n else smGet .dflt a.staged (fullKey n m.key)

/-- One die's share of the WRITE. -/
theorem shared_next {a x : State} {m : Msg} {d : ObjDef} {l : List Nat} {fail n : Nat} (h : Shared a x m d l fail) (hrws : d.acc = .rws) (hkey : m.key ≠ Ob.lay_time_set)
    (hthere : a.absent n m.key = false) :
    Shared a (State.writeShare m d (x, fail) n).1 m d (l ++ [n]) (State.writeShare m d (x, fail) n).2 := by
  obtain ⟨hfrom, hunvoted, hfails, hstaged⟩ := h
  have hopen : x.lockedOn d m.key n = false := by
    obtain ⟨h1, h2, h3⟩ := hunvoted
    simp [lockedOn_staged hrws hkey, h1, h2, h3]
  cases hans : a.answers n with
  | false =>
    have hout : State.writeShare m d (x, fail) n = (x, setBit fail n) := by simp [State.writeShare, stagedFrom_answers hfrom, hans]
    rw [hout]
    refine ⟨hfrom, hunvoted, fun j => ?_, fun j => ?_⟩
    · have hbit := bit_foldl_setBit [n] fail j
      simp only [List.foldl_cons, List.foldl_nil] at hbit
      rw [hbit, hfails]
      by_cases hj : j = n
      · subst hj; simp [hans]
      · simp [hj]
    · rw [hstaged]
      by_cases hj : j = n
      · subst hj; simp [hans]
      · simp [hj]
  | true =>
    have hout : State.writeShare m d (x, fail) n = (x.stage n m.key (stagedShare a m d n), fail) := by
      have habs : x.absent n m.key = false := by rw [stagedFrom_absent hfrom, hthere]
      simp [State.writeShare, stagedFrom_answers hfrom, hans, hopen, State.writeOne, habs, hrws, stagedFrom_clampVal hfrom, stagedShare]
    rw [hout]
    refine ⟨stagedFrom_stage hfrom _ _ _, stage_unvoted hunvoted _ _ _, fun j => ?_, fun j => ?_⟩
    · rw [hfails]
      by_cases hj : j = n
      · subst hj; simp [hans]
      · simp [hj]
    · by_cases hj : j = n
      · subst hj
        have hval := stage_value x j m.key (stagedShare a m d j)
        simp [hval, hans]
      · rw [(stage_stagedOnly x n m.key _).staged _ (fullKey_other_die hj _), hstaged]
        simp [hj]

/-- Every die of a list in turn. -/
theorem shared_foldl {a : State} {m : Msg} {d : ObjDef} (hrws : d.acc = .rws) (hkey : m.key ≠ Ob.lay_time_set) (r : List Nat) (hthere : ∀ n, n ∈ r → a.absent n m.key = false) :
    ∀ {x : State} {l : List Nat} {fail : Nat}, Shared a x m d l fail →
      Shared a (r.foldl (State.writeShare m d) (x, fail)).1 m d (l ++ r) (r.foldl (State.writeShare m d) (x, fail)).2 := by
  induction r with
  | nil => intro x l fail h; simpa using h
  | cons n r ih =>
    intro x l fail h
    have hnext := ih (fun j hj => hthere j (List.mem_cons_of_mem _ hj)) (shared_next h hrws hkey (hthere n List.mem_cons_self))
    simpa using hnext

/-- A direct part-wide WRITE of a staged object that no vote holds is the fold over the dies. -/
theorem writeIn_everyDie {s : State} {m : Msg} {d : ObjDef} (hf : s.found m = some d) (hgood : badWrite m = false) (hblob : d.ty ≠ .blob) (hrws : d.acc = .rws) (hper : d.perDie = true)
    (h15 : m.die = 15) : s.writeIn m = s.writeAll m d := by
  simp [State.writeIn, hgood, hf, hrws, hblob, hper, h15]

/-- Settles O55, by the fold over the dies: each that answers stages the value, and no share touches what the next one's clamp and locks read. -/
theorem writeToEveryDieStages : Obligations.WriteToEveryDieStages := by
  unfold Obligations.WriteToEveryDieStages Claims.writeEveryDie
  intro s m d h hf hgood hopen hblob hstr hrws hper h15 hthere _
  have hkey : m.key ≠ Ob.lay_time_set := fun e => by
    have hwo := acc_lay_time_set (e ▸ objDef_of_found hf)
    simp [hwo] at hrws
  have hreset : m.key ≠ Ob.part_reset := fun e => by
    have hwo := acc_part_reset (e ▸ objDef_of_found hf)
    simp [hwo] at hrws
  have hunvoted : (s.arrived m).commit ≠ cPreparing ∧ (s.arrived m).commit ≠ cReady ∧ (s.arrived m).commit ≠ cArmed := by
    rw [State.locked, lockedOn_staged hrws hkey] at hopen
    simpa [and_assoc] using hopen
  have hstart : Shared (s.arrived m) (s.arrived m) m d [] 0 := ⟨stagedFrom_refl _, hunvoted, by simp [bit], by simp⟩
  have hall := shared_foldl hrws hkey (s.arrived m).dieList (by simpa [State.dieList] using hthere) hstart
  rw [List.nil_append] at hall
  generalize hr : (s.arrived m).dieList.foldl (State.writeShare m d) (s.arrived m, 0) = r at hall
  obtain ⟨hfrom, -, hfails, hstaged⟩ := hall
  have hout : (s.arrived m).writeIn m = (r.1, if r.2 = 0 then 0 else 0x04, [byteOf r.2]) := by
    rw [writeIn_everyDie hf hgood hblob hrws hper h15, State.writeAll, hr]
  refine ⟨r.1, r.2, ?_, fun n => ?_, fun n hn => ?_, hfrom.objs, hfrom.rest⟩
  · rw [exec_write, serve_served h (by decide)]
    simp only [State.serveOp, hout, replyTy_of_found hf (show (2 : Nat) < 0x10 by decide)]
    exact congrArg _ (afterReply_other _ hreset _ _)
  · rw [hfails]
    simp [State.dieList]
  · have hmem : (s.arrived m).dieList.contains n = true := by simpa [State.dieList] using hn
    have hval := hstaged n
    rw [hmem] at hval
    cases hans : (s.arrived m).answers n with
    | true => simp [State.stagedInt, hval, hans, stagedShare]
    | false =>
      have hint : r.1.int n m.key = (s.arrived m).int n m.key := by
        refine objsBut_int hfrom.objs fun e => ?_
        have hstate : m.key = Ob.commit_state := by simp only [fullKey, Ob.commit_state] at e ⊢; omega
        have hro := acc_commit_state (hstate ▸ objDef_of_found hf)
        simp [hro] at hrws
      simp [State.stagedInt, hval, hans, hint]

end Sys2Proof.Proofs
end

section
/-! CORRIX_RESPONSE_RELAY (R97, R172): a response that comes by a cell uses up the RX stamp of its port, as every cell does. -/

namespace Sys2Proof.Proofs

open Sys2Proof.Machine Sys2Proof.Laws

/-- A response to a request that the part has no record of. -/
def orphanResponse : Msg := { via := .hawser 0 5 0, flags := 1, seq := 3, session := 7, target := 5, index := 0x1000, sub := 0, ty := 4, len := 0, payload := [], crc := 0 }

/-- Node 5, whose port 0 of die 0 is in service and has taken the RX stamp of a class-0 cell. With the cell counted and the orphan too, as the claim has it, it still shows the stamp; but the cell that brings
the response uses the stamp up (R97). -/
@[irreducible] def stampedPart : { s : State // Up s ∧ s.inService 0 = true ∧ s.role 0 ≠ 2 ∧ s.node = some 5 ∧ s.net.relay = [] ∧ s.net.entries = [] ∧
    (((s.cellArrives 0).bump 0 Ob.corrix_orphan_resp).port 0).stamp = some 0 ∧ ((s.responseRow 0 5 0x01 orphanResponse).port 0).stamp = none } :=
  ⟨({ boot := { held := false }, fw := 1, ports := [(0, { inService := true, stamp := some 0 })] } : State).set Ob.node_id 5, by unfold Up; decide +kernel⟩

/-- Refutes O4: the claim on an orphan response has nothing but the counts change, but the cell that brings it clears the RX stamp of its port. -/
theorem not_requestsAreRelayedAndAnswered : ¬ Obligations.RequestsAreRelayedAndAnswered := by
  unfold Obligations.RequestsAreRelayedAndAnswered Claims.responseReturns
  rintro ⟨-, -, -, -, -, hreturns⟩
  obtain ⟨s, hup, hport, hrole, hnode, hrelay, hnone, hclaimed, hspent⟩ := stampedPart
  obtain ⟨-, horphan⟩ := hreturns s 0 5 0x01 orphanResponse hup hport hrole hnode (by decide) hrelay
  have hrow : exec (.corrixResponseRelay 0 5 0x01 orphanResponse) s = .next (s.responseRow 0 5 0x01 orphanResponse) := rfl
  injection hrow.symm.trans (horphan hnone) with hstate
  have hstamp := congrArg (fun t : State => (t.port 0).stamp) hstate
  exact absurd (hspent.symm.trans (hstamp.trans hclaimed)) (by decide)

end Sys2Proof.Proofs
end


section
/-! Broadcasts (R52), records that expire (R62, R172), and the host ports (R54, R56). -/

namespace Sys2Proof.Proofs

open Sys2Proof.Machine Sys2Proof.Laws

/-- A command of the part, on a part that is up, takes effect. -/
theorem run_up {s : State} (h : Up s) (f : State → State) : s.run f = f s := by
  obtain ⟨hheld, hscan⟩ := h
  simp [State.run, hheld, hscan]

/-! Records that expire -/

theorem relayExpires : Claims.relayExpires := by
  intro s hup
  refine ⟨s.relayExpiry, congrArg _ (run_up hup _), fun r => ?_, fun e => ?_, int_put_same _ _ _ _, ?_, rfl⟩
  · simp [State.relayExpiry, State.showRelay, State.set, State.past]
  · simp [State.relayExpiry, State.showRelay, State.set, State.past]
  · exact objsBut_trans (t := { s with net := { s.net with relay := s.net.relay.filter fun r => !(s.past r.since 10000000), entries := s.net.entries.filter fun e => !(s.past e.since 10000000) } })
      (objsBut_of_eq rfl) (objsBut_set _ Ob.relay_entries _)

theorem bcastExpires : Claims.bcastExpires := by
  intro s hup
  refine ⟨s.bcastExpiry, congrArg _ (run_up hup _), fun b => ?_, rfl⟩
  simp [State.bcastExpiry, State.past]


/-! Broadcasts (R52) -/

/-- The lanes of a die have ports of their own. -/
theorem nodup_portList (s : State) : s.portList.Nodup := by
  refine List.Nodup.filter _ (List.nodup_flatMap.2 ⟨fun d _ => List.nodup_range.map fun a b h => ?_, ?_⟩)
  · simp only [laneKey] at h; omega
  · refine List.nodup_range.imp fun {d e} hne k hd he => ?_
    have hlanes : s.laneCount ≤ 8 := by unfold State.laneCount; split <;> omega
    simp only [List.mem_map, List.mem_range, laneKey] at hd he
    obtain ⟨a, ha, rfl⟩ := hd
    obtain ⟨b, hb, h⟩ := he
    omega

theorem wakeClock_ports (s : State) (p : Nat) : (s.wakeClock p).ports = s.ports := by
  unfold State.wakeClock
  dsimp only
  split <;> rfl

/-- A port that a cell wakes keeps its queue of own cells. -/
theorem autoWake_own (s : State) (p q : Nat) : ((s.autoWake p).port q).own = (s.port q).own := by
  unfold State.autoWake
  dsimp only
  split
  · rw [State.port, wakeTx_rest]
    by_cases hq : q = p
    · subst hq
      simp [State.setPort, State.port, wakeClock_ports, smGet_smPut_same]
    · simp [State.setPort, State.port, wakeClock_ports, smGet_smPut_other _ _ _ hq]
  · simp [State.port, wakeClock_ports]

theorem queueOwn_own_same (s : State) (p : Nat) (c : Cell) : ((s.queueOwn p c).port p).own = (s.port p).own ++ [c] := by
  unfold State.queueOwn
  rw [autoWake_own]
  simp [State.setPort, State.port, smGet_smPut_same]

theorem queueOwn_own_other (s : State) {p q : Nat} (c : Cell) (h : q ≠ p) : ((s.queueOwn p c).port q).own = (s.port q).own := by
  unfold State.queueOwn
  rw [autoWake_own]
  simp [State.setPort, State.port, smGet_smPut_other _ _ _ h]

theorem queueOwn_objs (s : State) (p : Nat) (c : Cell) : ObjsBut s (s.queueOwn p c) reportKey :=
  objsBut_trans (t := s.setPort p fun t => { t with own := t.own ++ [c] }) (objsBut_of_eq rfl)
    (objsBut_mono (autoWake_reportOnly (p := fun _ => False) (s.setPort p fun t => { t with own := t.own ++ [c] }) p).objs fun _ hk => hk.resolve_left id)

theorem queueOwn_node (s : State) (p : Nat) (c : Cell) : (s.queueOwn p c).node = s.node := by
  have hid : (s.queueOwn p c).pw Ob.node_id = s.pw Ob.node_id := objsBut_nat (queueOwn_objs s p c) (not_reportKey (show fullKey 0 Ob.node_id < 0x200000 by decide))
  unfold State.node
  rw [hid]

/-- What a cell put into the own queues of ports leaves as it is. -/
structure QueuesOnly (s t : State) : Prop where
  node : t.node = s.node
  rest : t = { s with objs := t.objs, ports := t.ports, lanes := t.lanes, xings := t.xings }

theorem queuesOnly_queueOwn {s t : State} (h : QueuesOnly s t) (p : Nat) (c : Cell) : QueuesOnly s (t.queueOwn p c) where
  node := (queueOwn_node t p c).trans h.node
  rest := by rw [queueOwn_rest, h.rest]

/-- A cell that does not depend on the ports, put once into the own queue of each of a list of them. -/
theorem own_each_queueOwn {s : State} {c : State → Cell} {d : Cell} (hc : ∀ t : State, t.node = s.node → c t = d) (p : Nat) :
    ∀ {l : List Nat} {t : State}, l.Nodup → QueuesOnly s t → ((t.each l fun q t => t.queueOwn q (c t)).port p).own = (t.port p).own ++ if p ∈ l then [d] else []
  | [], t, _, _ => by simp [State.each]
  | q :: l, t, hl, ht => by
    obtain ⟨hq, hl⟩ := List.nodup_cons.1 hl
    have ih := own_each_queueOwn (c := c) hc p hl (queuesOnly_queueOwn ht q (c t))
    rw [State.each, List.foldl_cons, ← State.each, ih, hc t ht.node]
    by_cases hp : p = q
    · subst hp
      simp [queueOwn_own_same, hq]
    · simp [queueOwn_own_other t d hp, hp]

theorem queuesOnly_each {s : State} (c : State → Cell) (l : List Nat) : QueuesOnly s (s.each l fun q t => t.queueOwn q (c t)) :=
  each_of (P := QueuesOnly s) l _ (fun q t h => queuesOnly_queueOwn h q (c t)) ⟨rfl, rfl⟩

/-- A datagram's bytes cross; nothing else is counted (R388). -/
theorem arrived_udp (s : State) {m : Msg} {addr port dport : Nat} (h : m.via = .udp addr port dport) : s.arrived m = { s with xings := (s.arrived m).xings } := by
  unfold State.arrived
  rw [h]
  exact crossWords_rest _ _ _ _

/-- A well-made broadcast by UDP is taken as a broadcast in the state in which its bytes were counted. -/
theorem exec_broadcast_udp {s : State} {op : Nat} {m : Msg} {addr port dport : Nat} (hup : Up s) (hboot : s.booted = true) (hvia : m.via = .udp addr port dport) (hc : Carried s m)
    (hcrc : m.crc = msgCrc op m) (hfresh : bit m.flags 0 = false) (hcast : m.bcast = true) (hmade : wellMade op m = true) :
    exec (.broadcast op m) s = .next ((s.arrived m).broadcastIn op m) := by
  obtain ⟨hheld, hscan⟩ := hup
  have hlen : m.payload.length = m.len := by
    simp only [wellMade, Bool.and_eq_true, decide_eq_true_eq] at hmade
    exact hmade.1.2
  have hrequest : (s.arrived m).request op m = (s.arrived m).broadcastIn op m := by
    simp [State.request, State.relayed, fromHost, hvia, hlen, hcrc, hfresh, hcast]
  rw [exec, execBroadcast, if_pos hcast, State.corrixIn, ← hrequest]
  simp only [Carried, hvia] at hc
  simp [hheld, hscan, hboot, hvia, hc, State.arrived]

/-- A message with the entry part's node ID in NODE and its CRC with it. -/
def asFromNode (m : Msg) (op n : Nat) : Msg :=
  { m with target := m.target / 1024 * 1024 + n, crc := msgCrc op { m with target := m.target / 1024 * 1024 + n } }

theorem fromNode_node (m : Msg) (op : Nat) {n : Nat} (h : n < 1024) : (asFromNode m op n).node = n := by
  show (m.target / 1024 * 1024 + n) % 1024 = n
  omega

theorem fromNode_session (m : Msg) (op n : Nat) : (asFromNode m op n).session = m.session := rfl
theorem fromNode_seq (m : Msg) (op n : Nat) : (asFromNode m op n).seq = m.seq := rfl
theorem fromNode_waiting (m : Msg) (op n : Nat) : (asFromNode m op n).waiting = m.waiting := rfl

/-- The entry part of a broadcast with a node ID writes it into NODE and draws nothing. -/
theorem entryCopy_node {s : State} {n : Nat} (h : s.node = some n) (op : Nat) (m : Msg) : s.entryCopy op m = (s, asFromNode m op n) := by
  simp [State.entryCopy, h, asFromNode]

/-- A broadcast remembered, with the part as it hands it on. -/
def remembering (s : State) (n : Nat) (m : Msg) : State := { s with net := { s.net with bcasts := s.net.bcasts ++ [{ node := n, session := m.session, seq := m.seq, since := s.now }] } }

/-- The broadcast queued for every port in service but those of port_role 2. -/
def spreading (s : State) (op : Nat) (m : Msg) : State :=
  s.each (s.portsUp.filter fun p => s.role p ≠ 2) fun p t => t.queueOwn p (corrixCell m.node t.nodeOr0 false true op m)

/-- The broadcast of an entry part that serves it: remembered, handed on and executed. -/
theorem broadcastIn_host {s : State} {op n : Nat} {m : Msg} (hhost : fromHost m = true) (hop : [0x02, 0x04, 0x11, 0x12, 0x13].contains op = true) (hmade : wellMade op m = true)
    (hbad : op = 0x02 → badWrite m = false) (hserv : s.serving = true) (hroom : m.waiting < 32) (hnode : s.node = some n) (hn : n < 1024) (hnone : s.net.bcasts = []) :
    s.broadcastIn op m = (spreading (remembering s n m) op (asFromNode m op n)).obey op (asFromNode m op n) := by
  have hb : (decide (op = 0x02) && badWrite m) = false := by by_cases h : op = 0x02 <;> simp [h, hbad]
  have hhost' : fromHost (asFromNode m op n) = true := hhost
  have hvia : ∀ p e h, (asFromNode m op n).via ≠ .hawser p e h := by
    intro p e h hv
    simp [fromHost, hv] at hhost'
  have hrelay : ∀ t : State, t.relayBroadcast op (asFromNode m op n) = spreading t op (asFromNode m op n) := by
    intro t
    unfold State.relayBroadcast
    split
    · next p e h hv => exact absurd hv (hvia p e h)
    · rfl
  unfold State.broadcastIn
  simp only [hop, hmade, hb, hhost, entryCopy_node hnode, Bool.not_true, Bool.or_self, if_true, Bool.false_eq_true, if_false, hnone, List.any_nil, hserv, decide_false,
    Bool.false_and, hrelay, fromNode_node m op hn, fromNode_session, fromNode_seq, fromNode_waiting, hroom.not_ge, Bool.or_self, Bool.not_true, remembering, List.nil_append]

theorem broadcastSpreads : Claims.broadcastSpreads := by
  intro s op n m addr port dport hup hboot hvia hcar hcrc hfresh hcast hop hmade hbad hsup hserv hroom hnode hn hnone
  have harr := arrived_udp s hvia
  have hx : QueuesOnly (remembering (s.arrived m) n m) (spreading (remembering (s.arrived m) n m) op (asFromNode m op n)) := queuesOnly_each _ _
  refine ⟨spreading (remembering (s.arrived m) n m) op (asFromNode m op n), asFromNode m op n, ?_, fromNode_node m op hn, rfl, rfl, rfl, ?_, ?_, ?_, ?_, fun p hp hrole => ?_⟩
  · rw [exec_broadcast_udp hup hboot hvia hcar hcrc hfresh hcast hmade]
    exact congrArg _ (broadcastIn_host (by simp [fromHost, hvia]) hop hmade hbad (by simpa using hserv) hroom (by simpa using hnode) hn (by rw [harr]; exact hnone))
  · rw [hx.rest, remembering, harr]
    simp [hnone]
  · rw [hx.rest, remembering, harr]
  · rw [hx.rest, remembering, harr]
  · rw [hx.rest, remembering, harr]
  · have hup' : p ∈ ((remembering (s.arrived m) n m).portsUp.filter fun p => (remembering (s.arrived m) n m).role p ≠ 2) := by
      rw [harr]
      exact List.mem_filter.2 ⟨hp, decide_eq_true hrole⟩
    have hcell : ∀ t : State, t.node = (remembering (s.arrived m) n m).node →
        corrixCell (asFromNode m op n).node t.nodeOr0 false true op (asFromNode m op n) = corrixCell n n false true op (asFromNode m op n) := by
      intro t ht
      have hid : t.node = some n := ht.trans (by rw [harr]; exact hnode)
      rw [fromNode_node m op hn, State.nodeOr0, hid, Option.getD_some]
    have hnodup : ((remembering (s.arrived m) n m).portsUp.filter fun p => (remembering (s.arrived m) n m).role p ≠ 2).Nodup := ((nodup_portList _).filter _).filter _
    rw [spreading, own_each_queueOwn hcell p hnodup ⟨rfl, rfl⟩, if_pos hup', remembering, harr]
    rfl

theorem broadcastRepeat : Claims.broadcastRepeat := by
  intro s op n m addr port dport b hup hboot hvia hcar hcrc hfresh hcast hop hmade hbad hsup hnode hn hmem hbn hbs hbq hsince
  have harr := arrived_udp s hvia
  have hb : (decide (op = 0x02) && badWrite m) = false := by by_cases h : op = 0x02 <;> simp [h, hbad]
  have hheard : ((s.arrived m).net.bcasts.any fun b => b.node = (asFromNode m op n).node && b.session = (asFromNode m op n).session && b.seq = (asFromNode m op n).seq &&
      !((s.arrived m).past b.since 1000000000)) = true := by
    rw [harr]
    refine List.any_eq_true.2 ⟨b, hmem, ?_⟩
    simp only [fromNode_node m op hn, fromNode_session, fromNode_seq, hbn, hbs, hbq, State.past, decide_true, Bool.true_and, Bool.not_eq_true', decide_eq_false_iff_not]
    omega
  rw [exec_broadcast_udp hup hboot hvia hcar hcrc hfresh hcast hmade]
  unfold State.broadcastIn
  have hhost : fromHost m = true := by simp [fromHost, hvia]
  simp only [hop, hmade, hb, hhost, entryCopy_node (show (s.arrived m).node = some n by simpa using hnode), Bool.not_true, Bool.or_self, if_true, Bool.false_eq_true, if_false, hheard]

/-! The hold of a session (R62) -/

/-- A map in canonical form lists each key once, with what it reads. -/
theorem smGet_of_mem {α : Type} [DecidableEq α] {d : α} : ∀ {l : SMap α} {lo : Nat}, smWf d lo l = true → ∀ {e : Nat × α}, e ∈ l → lo ≤ e.1 ∧ smGet d l e.1 = e.2
  | (k, v) :: l, lo, h, e, he => by
    simp only [smWf, Bool.and_eq_true, decide_eq_true_eq] at h
    obtain ⟨⟨hlo, -⟩, hl⟩ := h
    rcases List.mem_cons.1 he with rfl | he
    · exact ⟨hlo, by simp [smGet]⟩
    · obtain ⟨hk, hget⟩ := smGet_of_mem hl he
      have hne : k ≠ e.1 := by omega
      exact ⟨by omega, by simp [smGet, hne, hget]⟩

/-- A key that a map does not list reads the default. -/
theorem smGet_unlisted {α : Type} {d : α} : ∀ {l : SMap α} {k : Nat}, (∀ e ∈ l, e.1 ≠ k) → smGet d l k = d
  | [], _, _ => rfl
  | (j, v) :: l, k, h => by
    have hj : j ≠ k := h (j, v) (by simp)
    rw [smGet, if_neg hj, smGet_unlisted fun e he => h e (List.mem_cons_of_mem _ he)]

/-- The entries of a map in canonical form have a key each. -/
theorem nodup_keys {α : Type} [DecidableEq α] {d : α} : ∀ {l : SMap α} {lo : Nat}, smWf d lo l = true → (l.map Prod.fst).Nodup
  | [], _, _ => List.nodup_nil
  | (k, v) :: l, lo, h => by
    simp only [smWf, Bool.and_eq_true, decide_eq_true_eq] at h
    refine List.nodup_cons.2 ⟨fun hk => ?_, nodup_keys h.2⟩
    obtain ⟨e, he, rfl⟩ := List.mem_map.1 hk
    have := (smGet_of_mem h.2 he).1
    omega

/-- Transfers whose holds end, one after the other. -/
theorem xfer_each_released (k : Nat) : ∀ {l : List (Nat × Xfer)} {s : State}, (l.map Prod.fst).Nodup →
    (s.each l fun e s => s.setXfer e.1 { e.2 with holder := none }).xfer k = ((l.find? fun e => e.1 = k).map fun e => { e.2 with holder := none }).getD (s.xfer k)
  | [], s, _ => rfl
  | e :: l, s, h => by
    obtain ⟨he, hl⟩ := List.nodup_cons.1 h
    rw [State.each, List.foldl_cons, ← State.each, xfer_each_released k hl]
    by_cases hk : e.1 = k
    · subst hk
      have hfree : (l.find? fun e' => e'.1 = e.1) = none := List.find?_eq_none.2 fun e' he' => by
        simp only [decide_eq_true_eq]
        exact fun h' => he (List.mem_map.2 ⟨e', he', h'⟩)
      simp [hfree]
    · simp [hk, xfer_setXfer_other _ _ (Ne.symm hk)]

theorem holdEnds : Claims.holdEnds := by
  intro s hup hwf
  refine ⟨s.holdRelease, congrArg _ (run_up hup _), fun k => ?_, ?_⟩
  · rw [State.holdRelease, xfer_each_released k ((nodup_keys (smWf_filter {} _ s.corrix.blobs 0 hwf)))]
    cases hfind : (s.corrix.blobs.filter fun e => e.2.holder.isSome && s.past e.2.lastAt (s.pw Ob.blob_idle_s * 1000000000)).find? fun e => e.1 = k with
    | some e =>
      obtain ⟨hmem, hheld⟩ := List.mem_filter.1 (List.mem_of_find?_eq_some hfind)
      have hk : e.1 = k := by simpa using List.find?_some hfind
      have hx : s.xfer k = e.2 := hk ▸ (smGet_of_mem hwf hmem).2
      simp only [Bool.and_eq_true] at hheld
      simp [hx, hheld.2]
    | none =>
      have hnot : ∀ e ∈ s.corrix.blobs, e.1 = k → (e.2.holder.isSome && s.past e.2.lastAt (s.pw Ob.blob_idle_s * 1000000000)) = false := by
        intro e hmem hk
        by_contra hheld
        exact (List.find?_eq_none.1 hfind) e (List.mem_filter.2 ⟨hmem, by simpa using hheld⟩) (by simpa using hk)
      have hx : (s.xfer k).holder.isSome = true → s.past (s.xfer k).lastAt (s.pw Ob.blob_idle_s * 1000000000) = false := by
        intro hsome
        by_cases hl : ∀ e ∈ s.corrix.blobs, e.1 ≠ k
        · simp [State.xfer, smGet_unlisted hl] at hsome
        · push Not at hl
          obtain ⟨e, hmem, hk⟩ := hl
          have he : s.xfer k = e.2 := hk ▸ (smGet_of_mem hwf hmem).2
          have := hnot e hmem hk
          rw [he] at hsome ⊢
          simpa [hsome] using this
      cases hh : (s.xfer k).holder with
      | none => simp [← hh]
      | some j => simp [hx (by simp [hh]), ← hh]
  · exact each_of (P := fun t : State => t = { s with corrix := { s.corrix with blobs := t.corrix.blobs } }) _ _ (fun e t ht => by rw [State.setXfer, ht]) rfl

/-- Settles O5: a broadcast is remembered, handed on and executed once, and records, relays and holds end with their time. -/
theorem broadcastsSpreadAndRelaysExpire : Obligations.BroadcastsSpreadAndRelaysExpire := by
  unfold Obligations.BroadcastsSpreadAndRelaysExpire
  exact ⟨broadcastSpreads, broadcastRepeat, relayExpires, bcastExpires, holdEnds⟩

end Sys2Proof.Proofs
end

section
/-! The host ports (R54, R56). -/

namespace Sys2Proof.Proofs

open Sys2Proof.Machine Sys2Proof.Laws

theorem spiReads : Claims.spiReads := by
  intro s addr count hon hrel
  have hpast : s.past s.boot.releaseAt 1000000 = true := by simpa [State.past] using hrel
  show Host.Outcome.next (s.hostSpiRead addr count) = _
  simp [State.hostSpiRead, hon, hpast]

/-- The request mailbox with a byte put into it. -/
def poked (s : State) (i : Nat) (b : Byte) : State := { s with spi := { s.spi with request := smPut 0 s.spi.request i b } }

theorem hostPoke_request {s : State} (hfree : s.reqFree = true) {i : Nat} (hi : i < 256) (b : Byte) : s.hostPoke (0x100 + i) b = poked s i b := by
  have h5 : 0x100 + i ≠ 5 := by omega
  have hlo : 0x100 ≤ 0x100 + i := by omega
  have hhi : 0x100 + i < 0x200 := by omega
  simp [State.hostPoke, h5, hlo, hhi, hfree, poked]

/-- Bytes put into the mailbox one by one, while REQ_FREE. -/
theorem poke_each : ∀ {bytes : List Byte} {s : State} {o k : Nat}, s.reqFree = true → o + k + bytes.length ≤ 256 →
    ∃ t : State, (bytes.zipIdx k).foldl (fun s e => State.hostPoke s ((0x100 + o + e.2) % 65536) e.1) s = t ∧
      (∀ i, i < bytes.length → smGet 0 t.spi.request (o + k + i) = bytes.getD i 0) ∧
      (∀ i, i < o + k ∨ o + k + bytes.length ≤ i → smGet 0 t.spi.request i = smGet 0 s.spi.request i) ∧ t = { s with spi := { s.spi with request := t.spi.request } }
  | [], s, o, k, _, _ => ⟨s, rfl, by simp, fun _ _ => rfl, rfl⟩
  | b :: bytes, s, o, k, hfree, hlen => by
    simp only [List.length_cons] at hlen
    obtain ⟨t, ht, hin, hout, hrest⟩ := poke_each (bytes := bytes) (s := poked s (o + k) b) (o := o) (k := k + 1) hfree (by omega)
    have hput : ∀ i, smGet 0 (poked s (o + k) b).spi.request i = if i = o + k then b else smGet 0 s.spi.request i := by
      intro i
      split
      · next h => rw [h]; exact smGet_smPut_same _ _ _ _
      · next h => exact smGet_smPut_other _ _ _ h
    refine ⟨t, ?_, fun i hi => ?_, fun i hi => ?_, ?_⟩
    · have haddr : (0x100 + o + k) % 65536 = 0x100 + (o + k) := by omega
      rw [List.zipIdx_cons, List.foldl_cons, haddr, hostPoke_request hfree (by omega)]
      exact ht
    · cases i with
      | zero => rw [hout (o + k + 0) (by omega), hput]; simp
      | succ i =>
        have := hin i (by simpa using hi)
        rw [show o + k + (i + 1) = o + (k + 1) + i by omega, this]
        simp
    · simp only [List.length_cons] at hi
      rw [hout i (by omega), hput, if_neg (by omega)]
    · rw [hrest]
      rfl

theorem spiWrites : Claims.spiWrites := by
  intro s o bytes hon hfree hlen
  obtain ⟨t, ht, hin, hout, hrest⟩ := poke_each (bytes := bytes) (o := o) (k := 0) hfree (by omega)
  refine ⟨t, ?_, fun i hi => by simpa using hin i hi, fun i hi => hout i (by omega), hrest⟩
  rw [← ht]
  show Host.Outcome.next (s.hostSpiWrite (0x100 + o) bytes) = _
  rw [State.hostSpiWrite, if_pos hon]

theorem spiIgnores : Claims.spiIgnores := fun _ _ _ => rfl

theorem hctlSends : Claims.hctlSends := by
  refine fun s hon hboot => ⟨fun hbusy => ?_, fun hbusy => ?_⟩
  · show Host.Outcome.next s.hctlSend = _
    simp [State.hctlSend, hon, hboot, hbusy]
  · show Host.Outcome.next s.hctlSend = _
    simp [State.hctlSend, hbusy]

/-- A bit cleared leaves the others. -/
theorem bit_clearBit (n i j : Nat) : bit (clearBit n i) j = (bit n j && decide (j ≠ i)) := by
  unfold clearBit bit
  by_cases hbit : n.testBit i = true
  · obtain ⟨h, hh⟩ : ∃ h, n / 2 ^ i = 2 * h + 1 := by
      rw [Nat.testBit_eq_decide_div_mod_eq, decide_eq_true_eq] at hbit
      exact ⟨n / 2 ^ i / 2, by omega⟩
    have hr : n % 2 ^ i < 2 ^ i := Nat.mod_lt _ (Nat.two_pow_pos i)
    have hn : n = 2 ^ i * (2 * h + 1) + n % 2 ^ i := by rw [← hh, Nat.div_add_mod]
    have hsub : n - 2 ^ i = 2 ^ i * (2 * h) + n % 2 ^ i := by
      rw [Nat.mul_add, Nat.mul_one] at hn
      omega
    rw [if_pos hbit, hsub, Nat.testBit_two_pow_mul_add _ hr]
    conv_rhs => rw [hn, Nat.testBit_two_pow_mul_add _ hr]
    rcases Nat.lt_trichotomy j i with hj | rfl | hj
    · simp [hj, Nat.ne_of_lt hj]
    · simp
    · obtain ⟨k, hk⟩ : ∃ k, j - i = k + 1 := ⟨j - i - 1, by omega⟩
      simp [Nat.not_lt.2 hj.le, Nat.ne_of_gt hj, hk, Nat.testBit_add_one, Nat.mul_add_div]
  · rw [if_neg hbit]
    by_cases hj : j = i
    · subst hj; simpa using hbit
    · simp [hj]

theorem hctlFrees : Claims.hctlFrees := by
  refine fun s hon => ⟨fun hnone => ⟨{ s with spi := { s.spi with hstat := clearBit s.spi.hstat 1 } }, ?_, by simp [bit_clearBit], fun i hi => by simp [bit_clearBit, hi], rfl⟩, fun b hb => ?_⟩
  · show Host.Outcome.next s.hctlFree = _
    simp [State.hctlFree, hon, hnone]
  · show Host.Outcome.next s.hctlFree = _
    simp [State.hctlFree, hon, hb]

theorem arpIcmpAnswered : Claims.arpIcmpAnswered := by
  intro s icmp src dst data hup hip
  obtain ⟨hheld, hscan⟩ := hup
  refine ⟨fun hdst => ?_, fun hdst => ?_⟩
  · show Host.Outcome.next (s.arpIcmp icmp src dst data) = _
    simp [State.arpIcmp, hheld, hscan, hip, hdst]
  · show Host.Outcome.next (s.arpIcmp icmp src dst data) = _
    simp [State.arpIcmp, hdst]

/-- Settles O6: the host SPI target and the management port do what their transactions say. -/
theorem hostPortsTakeTheirTransactions : Obligations.HostPortsTakeTheirTransactions := by
  unfold Obligations.HostPortsTakeTheirTransactions
  exact ⟨spiReads, spiWrites, spiIgnores, hctlSends, hctlFrees, arpIcmpAnswered⟩

end Sys2Proof.Proofs
end

section
/-! Lanes that do not run: what the claims on bring-up, on a dropped lane, on sleep and on patterns leave out is that the lane is enabled in Hawser mode and its PLL locked (R118, R386). -/

namespace Sys2Proof.Proofs

open Sys2Proof.Machine Sys2Proof.Laws

/-- Lane 0 of die 0 at receive step 2, disabled: it stays there. -/
@[irreducible] def disabledLane : { s : State // UpDie s 0 ∧ s.rx 0 0 = 2 ∧ (s.lane 0 0).retained = false ∧ (s.cdrLock 0 0).rx 0 0 = 2 } :=
  ⟨(({ boot := { held := false }, fw := 1 } : State).put 0 Ob.lane_enable 0).put 0 Ob.lane_state 2, by unfold UpDie Up; decide +kernel⟩

/-- Refutes O14: a disabled lane at receive step 2 stays there when clock recovery locks; the claim has it go on to adaptation. -/
theorem not_lanesComeUp : ¬ Obligations.LanesComeUp := by
  unfold Obligations.LanesComeUp Claims.cdrLocks
  rintro ⟨-, -, -, hcdr, -⟩
  obtain ⟨s, hup, hstep, hretained, hstays⟩ := disabledLane
  obtain ⟨t, hexec, hrx, -⟩ := hcdr s 0 0 hup hstep
  have hrow : exec (.cdrLock 0 0) s = .next (s.cdrLock 0 0) := congrArg _ (onDie_upDie hup _)
  injection hrow.symm.trans hexec with ht
  rw [← ht, hstays, hretained] at hrx
  contradiction

/-- A two-die part, of four lanes on each die, whose lane number 5 is marked as dropped with 1,024 clean markers: it stays dropped. -/
@[irreducible] def missingLane : { s : State // UpDie s 0 ∧ (s.lane 0 5).dropped = true ∧ 1024 ≤ (s.lane 0 5).clean ∧ ((s.laneReturn 0 5).lane 0 5).dropped = true } :=
  ⟨{ boot := { held := false }, fw := 1, fuses := { variant := 0x81 }, lanes := [(5, { dropped := true, clean := 1024 })] }, by unfold UpDie Up; decide +kernel⟩

/-- Refutes O16: a lane that is not there, or not in Hawser mode, does not return; the claim asks only for its record. -/
theorem not_lanesDegradeDropAndReturn : ¬ Obligations.LanesDegradeDropAndReturn := by
  unfold Obligations.LanesDegradeDropAndReturn Claims.laneReturns
  rintro ⟨-, -, hreturn, -⟩
  obtain ⟨s, hup, hmarked, hclean, hstays⟩ := missingLane
  obtain ⟨t, hexec, hdropped, -⟩ := hreturn s 0 5 hup (by decide) hmarked hclean
  have hrow : exec (.droppedLaneReturn 0 5) s = .next (s.laneReturn 0 5) := congrArg _ (onDie_upDie hup _)
  injection hrow.symm.trans hexec with ht
  rw [← ht, hstays] at hdropped
  contradiction

/-! A WRITE answered by UDP -/

theorem putSession_lanes (s : State) (m : Msg) (op : Nat) (r : Option Msg) : (s.putSession m op r).lanes = s.lanes := by
  unfold State.putSession State.showSessions
  split <;> rfl

/-- An answer by UDP touches no lane. -/
theorem answer_udp_lanes {m : Msg} {addr port dport : Nat} (hvia : m.via = .udp addr port dport) (s : State) (op st ty : Nat) (pay : List Byte) :
    (s.answer op m st ty pay).lanes = s.lanes := by
  unfold State.answer
  rw [hvia]
  simp only [State.reply]
  rw [crossWords_rest]
  split_ifs <;> simp [State.emit, putSession_lanes]

/-- The counters and the count of sessions that an answer by UDP changes. -/
def answerKey (k : Nat) : Prop := k = Ob.corrix_busy ∨ k = Ob.corrix_malformed ∨ k = Ob.corrix_requests ∨ k = Ob.corrix_sessions

theorem answer_udp_objs {m : Msg} {addr port dport : Nat} (hvia : m.via = .udp addr port dport) (s : State) (op st ty : Nat) (pay : List Byte) :
    ObjsBut s (s.answer op m st ty pay) answerKey := by
  have hreply : ∀ t : State, (t.reply m.via op (respond m op st ty pay)).objs = t.objs := by
    intro t
    rw [hvia, State.reply, congrArg State.objs (crossWords_rest _ _ _ _)]
    rfl
  have hout : ∀ {t : State}, ObjsBut s t answerKey → ObjsBut s (t.reply m.via op (respond m op st ty pay)) answerKey := fun {t} h => objsBut_trans h (objsBut_of_eq (hreply t))
  unfold State.answer
  split_ifs
  · exact hout (objsBut_mono (objsBut_bumpPart s Ob.corrix_busy 1) fun _ => .inl)
  · exact hout (objsBut_trans (objsBut_mono (objsBut_bumpPart s Ob.corrix_malformed 1) fun _ h => .inr (.inl h)) (objsBut_mono (putSession_objs _ m op _) fun _ h => .inr (.inr (.inr h))))
  · exact hout (objsBut_trans (objsBut_mono (objsBut_bumpPart s Ob.corrix_requests 1) fun _ h => .inr (.inr (.inl h))) (objsBut_mono (putSession_objs _ m op _) fun _ h => .inr (.inr (.inr h))))

end Sys2Proof.Proofs
end

section
/-! Lanes whose PLL has no REFCLK: what the claims on sleep and on patterns leave out (R118, R386). -/

namespace Sys2Proof.Proofs

open Sys2Proof.Machine Sys2Proof.Laws

/-! The counterexamples of a lane whose PLL has no REFCLK -/

/-- A WRITE of one byte to an object of lane 0 of die 0, by UDP to the part itself, less its CRC. -/
def laneWriteBody (index value : Nat) : Msg :=
  { via := .udp 1 2 28741, seq := 3, session := 7, target := 1024, index := index, sub := 1, ty := 2, len := 1, payload := [byteOf value], crc := 0 }

/-- The WRITE with its CRC. -/
@[irreducible] def laneByte (index value : Nat) : Msg := { laneWriteBody index value with crc := msgCrc 0x02 (laneWriteBody index value) }

theorem laneByte_via {index value : Nat} : (laneByte index value).via = .udp 1 2 28741 := by
  unfold laneByte
  rfl

/-- TX_SLEEP of lane_sleep set, and pattern 3 of prbs_gen. -/
def laneBytes : List (Nat × Nat × Nat) := [(0x2008, Ob.lane_sleep, 1), (0x2022, Ob.prbs_gen, 3)]

/-- Lane 0 of die 0, enabled and sending, on a die that has lost both REFCLKs (R386). -/
@[irreducible] def holdingState : State := ((({ boot := { held := false }, fw := 1 } : State).put 0 Ob.lane_enable 1).put 0 Ob.lane_state 22).put 0 Ob.refclk_active 2

/-- The row of the object that a message addresses. -/
@[irreducible] def rowOf (m : Msg) : ObjDef := (objDef m.key).get!

/-- Both WRITEs are such as the claims on lane objects speak of. Lane 0, which drives, announces nothing after the one, and its receiver stays in service after the other. -/
@[irreducible] def holdingPart : { s : State // (∀ e ∈ laneBytes, Claims.LaneWrite s (laneByte e.1 e.2.2) (rowOf (laneByte e.1 e.2.2)) 0 0 e.2.1 e.2.2 ∧ inKeys (laneByte e.1 e.2.2).key e.1 e.1 1 8 = true ∧
      bit (leAt (laneByte e.1 e.2.2).payload 0 1) 0 = true) ∧
    ((s.arrived (laneByte 0x2008 1)).underTest 0 0 = false ∧ (s.arrived (laneByte 0x2008 1)).tx 0 0 = 1 ∧ (s.arrived (laneByte 0x2008 1)).nat 0 (Ob.lane_sleep + 0) = 0) ∧
    ((s.corrixIn 0x02 (laneByte 0x2008 1)).lane 0 0).annLeft = 0 ∧ (s.corrixIn 0x02 (laneByte 0x2022 3)).rx 0 0 = 6 } :=
  ⟨holdingState, fun e he =>
    ⟨⟨{ served :=
       { up := by unfold holdingState; exact ⟨rfl, rfl⟩
         booted := by decide +kernel
         carried := by unfold laneByte laneWriteBody; show _ = _; decide +kernel
         crc := by unfold laneByte; rfl
         fresh := by revert e; decide +kernel
         unicast := by revert e; decide +kernel
         made := by revert e; decide +kernel
         sup := by decide +kernel
         own := by revert e; decide +kernel
         serving := by decide +kernel
         room := by revert e; decide +kernel
         once := by revert e; decide +kernel }
        found := by revert e; decide +kernel
        good := by revert e; decide +kernel
        open_ := by revert e; decide +kernel
        fixed := by revert e; decide +kernel
        one := fun h => absurd h.2 (by revert e; decide +kernel)
        die_ := by revert e; decide +kernel
        there := fun _ => by revert e; decide +kernel
        unit := by revert e; decide +kernel },
     by revert e; decide +kernel, by revert e; decide +kernel, by decide, by revert e; decide +kernel, ⟨by revert e; unfold Up; decide +kernel, by revert e; decide +kernel⟩, by revert e; decide +kernel, by revert e; decide +kernel⟩,
     by revert e; decide +kernel⟩, by decide +kernel, by decide +kernel, by decide +kernel⟩

/-- Refutes O17: a WRITE of TX_SLEEP to a lane whose PLL has no REFCLK has no effect beside the object (R118, R386); the claim has the lane announce sleep. -/
theorem not_lanesSleepAndLoop : ¬ Obligations.LanesSleepAndLoop := by
  unfold Obligations.LanesSleepAndLoop Claims.txSleepSets
  rintro ⟨hset, -⟩
  obtain ⟨s, hwrites, ⟨htest, htx, hsleep⟩, hsilent, -⟩ := holdingPart
  obtain ⟨hwrite, hkey, hbit⟩ := hwrites (0x2008, Ob.lane_sleep, 1) (by decide)
  obtain ⟨x, hexec, -, hann, -⟩ := hset s _ _ 0 0 1 hwrite hbit (by decide) (by decide) htest htx hsleep
  have hrow : exec (.txSleepSet (laneByte 0x2008 1)) s = .next (s.corrixIn 0x02 (laneByte 0x2008 1)) := by
    simp only [exec, execTxSleepSet]
    rw [corrixFor_of (by rw [hkey, hbit]; rfl)]
  injection hrow.symm.trans hexec with hstate
  have hlanes : (s.corrixIn 0x02 (laneByte 0x2008 1)).lanes = x.lanes := (congrArg State.lanes hstate).trans (answer_udp_lanes laneByte_via _ _ _ _ _)
  have hann' : ((s.corrixIn 0x02 (laneByte 0x2008 1)).lane 0 0).annLeft = (x.lane 0 0).annLeft := congrArg (fun l => (smGet {} l (laneKey 0 0)).annLeft) hlanes
  rw [hsilent, hann] at hann'
  exact absurd hann' (by decide)

/-- Refutes O18: a WRITE of prbs_gen to a lane whose PLL has no REFCLK leaves it where it is (R118, R386); the claim has its receiver in test. -/
theorem not_lanesSendAndCheckPatterns : ¬ Obligations.LanesSendAndCheckPatterns := by
  unfold Obligations.LanesSendAndCheckPatterns Claims.patternSent
  rintro ⟨hsent, -⟩
  obtain ⟨s, hwrites, -, -, hreceives⟩ := holdingPart
  obtain ⟨hwrite, hkey, -⟩ := hwrites (0x2022, Ob.prbs_gen, 3) (by decide)
  obtain ⟨x, hexec, -, hrx, -⟩ := hsent s _ _ 0 0 3 hwrite (by decide)
  have hrow : exec (.prbsGen (laneByte 0x2022 3)) s = .next (s.corrixIn 0x02 (laneByte 0x2022 3)) := by
    simp only [exec, execPrbsGen]
    rw [corrixFor_of (by rw [hkey])]
  injection hrow.symm.trans hexec with hstate
  have hnat := objsBut_nat (answer_udp_objs (laneByte_via (index := 0x2022) (value := 3)) x 0x02 0 (rowOf (laneByte 0x2022 3)).ty.code []) (die := 0) (key := Ob.lane_state + 0) (by unfold answerKey; decide)
  have hrx' : (s.corrixIn 0x02 (laneByte 0x2022 3)).rx 0 0 = x.rx 0 0 := by
    rw [hstate]
    exact congrArg (fun n => bits n 3 0) hnat
  rw [hreceives, hrx] at hrx'
  exact absurd hrx' (by decide)

end Sys2Proof.Proofs
end

section
/-! Cells, descriptors and packets: states at which the claims on a lone lane's blocks, on a descriptor posted and on a packet received say other than the model. -/

namespace Sys2Proof.Proofs

open Sys2Proof.Machine Sys2Proof.Laws

/-- Port 0 of a tile with lane 0 alone in service, which has taken 65,536 blocks since its last marker. -/
def longState : State :=
  { ((({ boot := { held := false }, fw := 1 } : State).put 0 Ob.lane_enable 1).put 0 Ob.lane_state 22) with
    ports := [(0, { inService := true, mapsIn := [(0, 0)] })], lanes := [(0, { slot := 65536 })] }

theorem longState_empty (l : Nat) : (longState.lane 0 l).buf = [] := by
  show (smGet {} [(0, ({ slot := 65536 } : LaneSt))] (laneKey 0 l)).buf = []
  rw [smGet, smGet]
  split <;> rfl

/-- After the next marker no position of that lane carries blocks, so that the stream hunts; what the claim gives is framed. -/
@[irreducible] def longLane : { s : State // Claims.LoneLane s 0 0 ∧ ((s.port 0).framed = false ∧ (s.port 0).lay = none) ∧
    ((s.blocksIn 0 [{ lane := 0, data := false, bytes := Ctl.idle.bytes }]).port 0).framed = false ∧ (((Claims.blockThrough s 0 0).setPort 0 fun t => { t with framed := true }).port 0).framed = true } :=
  ⟨longState,
    { up := ⟨rfl, rfl⟩
      port := by decide +kernel
      lane_ := by decide +kernel
      rx := by decide +kernel
      loop := by decide +kernel
      at_ := by decide +kernel
      map := by decide +kernel
      deal := by decide +kernel
      four := by decide +kernel
      open_ := by decide +kernel
      empty := longState_empty },
    by decide +kernel, by decide +kernel, by decide +kernel⟩

/-- Refutes O20: an IDLE block that a lane takes as the 65,537th after its marker is collected by the map of the next marker (R133, R134); where that is empty the stream still hunts. -/
theorem not_cellsAreFramedAndForwarded : ¬ Obligations.CellsAreFramedAndForwarded := by
  unfold Obligations.CellsAreFramedAndForwarded Claims.idleFrames
  rintro ⟨hidle, -⟩
  obtain ⟨s, hlone, ⟨hhunting, hlay⟩, hhunts, hclaimed⟩ := longLane
  obtain ⟨hexec, -⟩ := hidle s _ 0 0 hlone hhunting hlay rfl
  have hrow : exec (.cellReceive 0 [{ lane := 0, data := false, bytes := Ctl.idle.bytes }]) s = .next (s.blocksIn 0 [{ lane := 0, data := false, bytes := Ctl.idle.bytes }]) := congrArg Host.Outcome.next (run_up hlone.up fun s => s.blocksIn 0 [{ lane := 0, data := false, bytes := Ctl.idle.bytes }])
  injection hrow.symm.trans hexec with ht
  have hframed := congrArg (fun s => (s.port 0).framed) ht
  exact absurd (hhunts.symm.trans (hframed.trans hclaimed)) (by decide)

/-! A descriptor whose band is not the next -/

/-- A head whose pool holds two segments for node 44 of one view-frame, neither posted: that of band 1, written first, and that of band 2, which is complete but is not posted. -/
@[irreducible] def bandsWaiting : { s : State // Up s ∧ (44 * 1024 + 2 = 45058) ∧ s.comp.segs.find? (fun g => decide (g.ring = 45058) && !g.posted) = some { ring := 45058, desc := 2 ^ 43 * 488 + 2 } ∧
    bit (s.slotDesc 45058 (s.ring 45058).tail) 0 = false ∧ (smGet [] s.launch.cache (s.packDie 44)).length + (smGet [] s.launch.ready (s.packDie 44)).length < 8192 ∧
    ((s.descriptorPost 44 2).ring 45058).tail = 0 ∧ ((s.ring 45058).tail + 1) % s.ringDepth = 1 } :=
  ⟨{ boot := { held := false }, fw := 1, comp := { segs := [{ ring := 45057, desc := 2 ^ 43 * 488 + 2 + 2 ^ 67 }, { ring := 45058, desc := 2 ^ 43 * 488 + 2 }] } },
    ⟨rfl, rfl⟩, by decide, by rfl, by decide +kernel, by decide +kernel, by decide +kernel, by decide +kernel⟩

/-- Refutes O25: a complete segment is not posted before the bands above it (R30); the claim asks only for room in its ring. -/
theorem not_headsPackAndSend : ¬ Obligations.HeadsPackAndSend := by
  unfold Obligations.HeadsPackAndSend Claims.descriptorPosted
  rintro ⟨-, -, hposted, -⟩
  obtain ⟨s, hup, hring, hfound, hfree, hroom, hstays, hone⟩ := bandsWaiting
  obtain ⟨hwritten, -⟩ := hposted s 44 2 45058 _ { ring := 45058, desc := 2 ^ 43 * 488 + 2 } hup hring.symm rfl hfound
  obtain ⟨t, hexec, -, htail, -⟩ := hwritten hfree hroom
  have hrow : exec (.descriptorPost 44 2) s = .next (s.descriptorPost 44 2) := congrArg _ (run_up hup _)
  injection hrow.symm.trans hexec with ht
  rw [← ht, hstays, hone] at htail
  exact absurd htail (by decide)

/-! A packet for which no frame buffer is free -/

/-- The first packet of a frame. -/
def firstPacket : Pkt := { die := 0, dest := 7, port := 5, sender := 3, pt := 96, seq := 7, time := 9000, marker := false, good := true, samples := [] }

/-- An ST 2110 source each of whose three buffers is latched for a view-frame that has not ended: the first packet of a frame opens a damaged one. -/
@[irreducible] def buffersInUse : { s : State // Up s ∧ 0 < s.sourceCount ∧ s.at_ Ob.src_type 0 = 1 ∧ (s.copyOf 0 firstPacket = some 0 ∧ s.pktListed 0 0 firstPacket = true ∧ (s.source 0).seen = [] ∧ (s.source 0).work = [] ∧
    (s.source 0).top = none) ∧ ((s.packetIn 0 firstPacket).source 0).work.map (·.bad) = [true] } :=
  ⟨let s : State := { boot := { held := false }, fw := 1 }
   { ((((s.set Ob.src_type 1).set Ob.src_size (16 + 65536 * 16)).set Ob.src_group_a (7 + 5 * 4294967296)).set Ob.src_pt 96).set Ob.src_port 0 with
     comp := { works := (List.range 3).map fun k => { at_ := 0, frame := k, view := 0, objs := s.objs, src := [(0, { id := k + 1 })] } } }, by unfold Up; decide +kernel⟩

/-- Refutes O27: the first packet of a frame that finds none of the three buffers free opens a damaged frame (R224, log entry 132); the claim has the frame good. -/
theorem not_sourcesComplete : ¬ Obligations.SourcesComplete := by
  unfold Obligations.SourcesComplete Claims.packetTaken
  rintro ⟨-, htaken, -⟩
  obtain ⟨s, hup, hsource, htype, ⟨hcopy, hlisted, hseen, hwork, htop⟩, hbad⟩ := buffersInUse
  obtain ⟨-, -, hfirst, -⟩ := htaken s 0 firstPacket hup hsource htype
  obtain ⟨t, w, hexec, htwork, -, -, hgood, -⟩ := hfirst 0 hcopy hlisted hseen hwork htop (fun e he => absurd he List.not_mem_nil)
  have hrow : exec (.st2110PacketReceive 0 firstPacket) s = .next (s.packetIn 0 firstPacket) := congrArg _ (run_up hup _)
  injection hrow.symm.trans hexec with ht
  rw [ht, htwork] at hbad
  simp [hgood] at hbad

end Sys2Proof.Proofs
end

section
/-! Readback records, SRAM slices, boots from written slots and worn sectors: what the claims on them leave out. -/

namespace Sys2Proof.Proofs

open Sys2Proof.Machine Sys2Proof.Laws

/-! A crossing whose sides are apart -/

/-- Chain 0 of die 0 with one driver whose records are one group of words long; the count of its record crossing stands one ahead of what the core clock has taken, so that a record adds 2. -/
@[irreducible] def countAhead : { s : State // Claims.RecordOf s 0 0 0 ∧ recordField (s.recordBits 0 (0 / 6) 0 []) (s.prof 0 (0 / 6) 20 1) 8 = s.prof 0 (0 / 6) 21 1 ∧
    s.crossShut 0 (.readbackRecord (0 / 6)) = false ∧ (s.record 0 0 0 []).int 0 Ob.rb_records = 2 ∧ s.int 0 Ob.rb_records = 0 } :=
  ⟨let profile : Value := .blob true [(0, 1), (12, 1)]
   { ((((({ boot := { held := false }, fw := 1, objs := [(Ob.chain_profile, profile)] } : State).set (atIndex Ob.rg_vddio 0) 1).set (atIndex Ob.rg_profile 0) 0).set (atIndex Ob.rg_chains 0) 1).set
       Ob.chain_drivers 1) with xings := [((Crossing.readbackRecord 0).key 0, { src := 1 })] },
    ⟨⟨by unfold Up; decide +kernel, by decide +kernel⟩, by decide +kernel, by decide +kernel, by decide +kernel, by decide +kernel⟩, by decide +kernel, by decide +kernel, by decide +kernel, by decide +kernel⟩

/-- Refutes O31: a good record adds to rb_records what its crossing brings (R389), which is more than 1 where its source stands ahead; the claim has 1. -/
theorem not_chainFaultsStopOutputs : ¬ Obligations.ChainFaultsStopOutputs := by
  unfold Obligations.ChainFaultsStopOutputs Claims.recordChecked
  rintro ⟨-, -, -, -, -, hrecord⟩
  obtain ⟨s, hof, hmark, hopen, htwo, hzero⟩ := countAhead
  obtain ⟨-, hgood⟩ := hrecord s 0 0 0 [] _ hof (by decide) rfl
  obtain ⟨t, hexec, hcount, -⟩ := hgood hmark hopen
  have hrow : exec (.readbackRecord 0 0 0 []) s = .next (s.record 0 0 0 []) := by
    simp only [exec, execReadbackRecord]
    rw [onDie_upDie hof.1]
  injection hrow.symm.trans hexec with ht
  have hone := hcount (by rw [hzero]; decide)
  rw [← ht, htwo, hzero] at hone
  exact absurd hone (by decide)

/-! A slice that a commit will use -/

/-- A tile with a READY commit that lengthens the splice receive buffer over all slices of die 0. -/
@[irreducible] def growingState : State :=
  { ({ boot := { held := false }, fw := 1 } : State).set Ob.commit_state cReady with staged := [(Ob.splice_rx_kb, .num 14000)] }

/-- The WRITE of 1 to the mode of slice 7, by UDP, less its CRC. -/
def sliceBody : Msg := { via := .udp 1 2 28741, seq := 3, session := 7, target := 1024, index := 0x8002, sub := 8, ty := 2, len := 1, payload := [1], crc := 0 }

/-- The WRITE with its CRC. -/
@[irreducible] def sliceWrite : Msg := { sliceBody with crc := msgCrc 0x02 sliceBody }

theorem sliceWrite_via : sliceWrite.via = .udp 1 2 28741 := by
  unfold sliceWrite
  rfl

/-- The slice is on after the WRITE. -/
@[irreducible] def growingPart : { s : State // WritesOne s sliceWrite (rowOf sliceWrite) 0 ∧ (sliceWrite.key = Ob.sram_slice_mode + 7 ∧ (rowOf sliceWrite).acc = .rw ∧
    ((1 : Nat) : Int) = (s.arrived sliceWrite).clampVal 0 sliceWrite.key (rowOf sliceWrite) (decodeVal (rowOf sliceWrite).ty sliceWrite.payload) ∧ 7 ∉ (s.arrived sliceWrite).usedSlices 0) ∧
    (s.corrixIn 0x02 sliceWrite).nat 0 (Ob.sram_slice_state + 7) = 0 } :=
  ⟨growingState,
    { served :=
        { up := by unfold Up; decide +kernel
          booted := by decide +kernel
          carried := by unfold sliceWrite sliceBody; show _ = _; decide +kernel
          crc := by decide +kernel
          fresh := by decide +kernel
          unicast := by decide +kernel
          made := by decide +kernel
          sup := by decide +kernel
          own := by decide +kernel
          serving := by decide +kernel
          room := by decide +kernel
          once := by decide +kernel }
      found := by decide +kernel
      good := by decide +kernel
      open_ := by decide +kernel
      fixed := by decide +kernel
      one := fun h => absurd h.2 (by decide +kernel)
      die_ := by decide +kernel
      there := fun _ => by decide +kernel
      unit := by decide +kernel },
    by decide +kernel, by decide +kernel⟩

/-- Refutes O33: a mode other than 0 leaves on a slice that a READY commit will use (R357); the claim looks at the values in force alone. -/
theorem not_sramServesItsPorts : ¬ Obligations.SramServesItsPorts := by
  unfold Obligations.SramServesItsPorts Claims.sliceModeSet
  rintro ⟨-, -, -, -, hset⟩
  obtain ⟨s, hwrite, ⟨hkey, hacc, hval, hunused⟩, hkeeps⟩ := growingPart
  obtain ⟨-, hoff, -⟩ := hset s _ sliceWrite (rowOf sliceWrite) 0 7 1 hwrite (by decide) hkey hacc rfl hval
  obtain ⟨x, hexec, -, hstate⟩ := hoff (by decide) hunused
  have hrow : exec (.sramSliceMode sliceWrite) s = .next (s.corrixIn 0x02 sliceWrite) := by
    simp only [exec, execSramSliceMode]
    rw [corrixFor_of (by rw [hkey]; rfl)]
  injection hrow.symm.trans hexec with ht
  have hnat := objsBut_nat (answer_udp_objs sliceWrite_via x 0x02 0 (rowOf sliceWrite).ty.code []) (die := 0) (key := Ob.sram_slice_state + 7) (by unfold answerKey; decide)
  rw [← ht, hkeeps, hstate] at hnat
  exact absurd hnat (by decide)

/-! Slots that this part has written -/

/-- What the boot finds: slot 0 sound by what stands outside. -/
def slotZero : BootEnv := { noEnv with imageOk := [true] }

/-- A part held in reset whose flash slot 0 holds bytes that are no image: its boot ends in recovery mode. -/
@[irreducible] def spoiltSlot : { s : State // s.boot.heldAt = none ∧ s.boot.held = true ∧ s.on 0 Ob.therm_shut_dies 0 = false ∧ s.bootSect.slot % 2 = 0 ∧ Claims.BlankJournal s ∧
    (s.porstRelease slotZero).boot.recovery = true } :=
  ⟨{ upd := { slots := [(0, [(12, 5)])] } }, by unfold Claims.BlankJournal; decide +kernel⟩

/-- Refutes O38: an active slot that this part has written with bytes that are no image does not boot (R432), and the part ends in recovery mode; the claim asks only what stands outside. -/
theorem not_resetsAndBoots : ¬ Obligations.ResetsAndBoots := by
  unfold Obligations.ResetsAndBoots Claims.bootRuns
  rintro ⟨hboot, -⟩
  obtain ⟨s, hsince, hheld, hlive, hslot, hblank, hrecovers⟩ := spoiltSlot
  obtain ⟨-, -, hruns, -⟩ := hboot s slotZero (by simp [hsince])
  obtain ⟨t, hexec, -, -, hrecovery, -⟩ := hruns hheld (by decide) rfl hlive hslot (by decide) hblank
  injection hexec with ht
  exact absurd (hrecovers.symm.trans ((congrArg (·.boot.recovery) ht).trans hrecovery)) (by decide)

/-- A part that nothing has loaded for 500 ms, whose slot 0 of die 1 holds bytes that are no image: the boot of die 1 ends in recovery mode. -/
@[irreducible] def spoiltSlot1 : { s : State // Up s ∧ s.boot.recovery = false ∧ (s.fw = 0 ∧ s.pw Ob.dies_alive = 0 ∧ s.on 0 Ob.therm_shut_dies 1 = false ∧ s.past s.boot.releaseAt 500000000 = true ∧
    s.boot.env.bootsel % 8 = 0 ∧ s.bootSect.slot % 2 = 0 ∧ s.boot.env.imageOk.getD 2 false = true) ∧ Claims.BlankJournal s ∧ s.die1Boot.pw Ob.boot_source = 4 } :=
  ⟨{ ({ boot := { held := false, env := { noEnv with imageOk := [false, false, true] } } } : State).set Ob.dies_alive 0 with now := 500000000, upd := { slots := [(2, [(12, 5)])] } },
    by unfold Up Claims.BlankJournal; decide +kernel⟩

/-- Refutes O39: die 1 does not boot from a slot that this part has written with bytes that are no image (R432); the claim asks only what stands outside. -/
theorem not_supervisorsFailOver : ¬ Obligations.SupervisorsFailOver := by
  unfold Obligations.SupervisorsFailOver Claims.die1Boots
  rintro ⟨hboot, -⟩
  obtain ⟨s, hup, hnormal, ⟨hfw, hnone, hlive, hlate, hsel, hslot, himage⟩, hblank, hrecovers⟩ := spoiltSlot1
  obtain ⟨hruns, -⟩ := hboot s hup hnormal
  obtain ⟨t, hexec, -, -, -, -, -, hsource⟩ := hruns hfw hnone hlive hlate hsel hslot himage hblank
  have hrow : exec .die1BootTimeout s = .next s.die1Boot := congrArg _ (run_up hup _)
  injection hrow.symm.trans hexec with ht
  rw [← ht, hrecovers] at hsource
  exact absurd hsource (by decide)

/-! A worn sector -/

/-- A part that has marked sector 3, which holds no record and whose erase will fail: tamping counts nothing. -/
@[irreducible] def wornSector : { s : State // Up s ∧ s.journal.open_ = true ∧ s.fwOn s.sup = true ∧ s.recs = [] ∧ s.journal.marked.find? (fun n => !(openGroup s.recs n)) = some 3 ∧
    s.tamp.int 0 Ob.silt_tamps = 0 ∧ s.int 0 Ob.silt_tamps = 0 } :=
  ⟨{ boot := { held := false, env := { noEnv with worn := [3] } }, fw := 1, journal := { marked := [3] } }, by unfold Up; decide +kernel⟩

/-- Refutes O42: the erase of a worn sector fails, and it is retired without being counted in silt_tamps (R427, R428); the claim counts it. -/
theorem not_journalAndUpdatesProceed : ¬ Obligations.JournalAndUpdatesProceed := by
  unfold Obligations.JournalAndUpdatesProceed Claims.sectorTamped
  rintro ⟨-, htamp, -⟩
  obtain ⟨s, hup, hopen, hrun, hnone, hmarked, huncounted, hzero⟩ := wornSector
  obtain ⟨hempty, -⟩ := htamp s hup hopen hrun
  obtain ⟨t, hexec, -, -, -, hcount⟩ := hempty 3 hmarked (by simp [hnone])
  have hrow : exec .tamping s = .next s.tamp := congrArg _ (run_up hup _)
  injection hrow.symm.trans hexec with ht
  have hone := hcount (by rw [hzero]; decide)
  rw [← ht, huncounted, hzero] at hone
  exact absurd hone (by decide)

end Sys2Proof.Proofs
end

section
/-! The memories of a die (chapter 12): what the channel, the slices and the self-test leave as it is, and the canonical form of what they hold. -/

namespace Sys2Proof.Proofs

open Sys2Proof.Machine Sys2Proof.Laws

/-! One memory changed -/

@[simp] theorem memOf_setMem_same (s : State) (die : Nat) (f : MemSt → MemSt) : (s.setMem die f).memOf die = f (s.memOf die) := smGet_smPut_same ..

theorem memOf_setMem_other (s : State) {die d : Nat} (f : MemSt → MemSt) (h : d ≠ die) : (s.setMem die f).memOf d = s.memOf d := smGet_smPut_other _ _ _ h

theorem memOf_of_mem {s t : State} (h : t.mem = s.mem) (die : Nat) : t.memOf die = s.memOf die := by simp only [State.memOf, h]

theorem setMem_rest (s : State) (die : Nat) (f : MemSt → MemSt) : s.setMem die f = { s with mem := (s.setMem die f).mem } := rfl

@[simp] theorem chan_setChan_same (s : State) (die c : Nat) (f : DramCh → DramCh) : (s.setChan die c f).chan die c = f (s.chan die c) := by simp [State.setChan, State.chan]

theorem setChan_rest (s : State) (die c : Nat) (f : DramCh → DramCh) : s.setChan die c f = { s with mem := (s.setChan die c f).mem } := rfl

theorem setChan_objs (s : State) (die c : Nat) (f : DramCh → DramCh) : (s.setChan die c f).objs = s.objs := rfl

theorem chan_setChan_other (s : State) (die : Nat) {c k : Nat} (f : DramCh → DramCh) (h : k ≠ c) : (s.setChan die c f).chan die k = s.chan die k := by
  simp [State.setChan, State.chan, smGet_smPut_other _ _ _ h]

theorem chan_of_mem {s t : State} (h : t.mem = s.mem) (die c : Nat) : t.chan die c = s.chan die c := by simp only [State.chan, memOf_of_mem h]

/-! What a channel's queues leave alone (R364, R369) -/

/-- A channel's queues have moved on: the bytes of the memories and what the channel holds beside its queues are as they were, and of the objects two counters at most have changed; only a channel in power-down changes its state. -/
structure QueuesMoved (s t : State) (die c : Nat) : Prop where
  rest : t = { s with objs := t.objs, mem := t.mem, xings := t.xings, free := t.free }
  objs : ObjsBut s t fun k => k = fullKey die (Ob.dram_wq_forwards + c) ∨ k = fullKey die (Ob.dram_state + c)
  wf : s.memWf = true → t.memWf = true
  sram : (t.memOf die).sram = (s.memOf die).sram
  dram : (t.memOf die).dram = (s.memOf die).dram
  ecc : (t.memOf die).ecc = (s.memOf die).ecc
  waiting : (t.chan die c).waiting = (s.chan die c).waiting
  holder : (t.chan die c).holder = (s.chan die c).holder
  rows : (t.chan die c).rows = (s.chan die c).rows
  rot : (t.chan die c).rot = (s.chan die c).rot
  pend : (t.chan die c).pend = (s.chan die c).pend
  states : s.chState die c ≠ 2 → ∀ n, n < 2 ∨ n = c → t.chState die n = s.chState die n

theorem QueuesMoved.refl (s : State) (die c : Nat) : QueuesMoved s s die c := ⟨rfl, objsBut_refl _ _, id, rfl, rfl, rfl, rfl, rfl, rfl, rfl, rfl, fun _ _ _ => rfl⟩

theorem QueuesMoved.trans {s t u : State} {die c : Nat} (h : QueuesMoved s t die c) (k : QueuesMoved t u die c) : QueuesMoved s u die c where
  rest := by rw [k.rest, h.rest]
  objs := objsBut_trans h.objs k.objs
  wf := k.wf ∘ h.wf
  sram := k.sram.trans h.sram
  dram := k.dram.trans h.dram
  ecc := k.ecc.trans h.ecc
  waiting := k.waiting.trans h.waiting
  holder := k.holder.trans h.holder
  rows := k.rows.trans h.rows
  rot := k.rot.trans h.rot
  pend := k.pend.trans h.pend
  states := fun hs n hn => (k.states (by rwa [h.states hs c (.inr rfl)]) n hn).trans (h.states hs n hn)

/-- A change of the channel's queues, its order numbers or its time of rest. -/
theorem queuesMoved_setChan (s : State) (die c : Nat) (f : DramCh → DramCh)
    (h : ∀ x : DramCh, (f x).waiting = x.waiting ∧ (f x).holder = x.holder ∧ (f x).rows = x.rows ∧ (f x).rot = x.rot ∧ (f x).pend = x.pend := by exact fun _ => ⟨rfl, rfl, rfl, rfl, rfl⟩) : QueuesMoved s (s.setChan die c f) die c := by
  obtain ⟨hw, hh, hr, ho, hp⟩ := h (s.chan die c)
  exact ⟨rfl, objsBut_of_eq rfl, fun w => memWf_setChan w .., by simp [State.setChan], by simp [State.setChan], by simp [State.setChan], by simpa, by simpa, by simpa, by simpa, by simpa, fun _ _ _ => rfl⟩

/-- A change beside the memories. -/
theorem queuesMoved_of_rest {s t : State} {die c : Nat} (hrest : t = { s with objs := t.objs, xings := t.xings, free := t.free })
    (hobjs : ObjsBut s t fun k => k = fullKey die (Ob.dram_wq_forwards + c) ∨ k = fullKey die (Ob.dram_state + c))
    (hstates : s.chState die c ≠ 2 → ∀ n, n < 2 ∨ n = c → t.chState die n = s.chState die n) : QueuesMoved s t die c := by
  have hmem : t.mem = s.mem := by rw [hrest]
  have hchan := chan_of_mem hmem die c
  have hof := memOf_of_mem hmem die
  exact ⟨by rw [hrest], hobjs, memWf_of_mem hmem, by rw [hof], by rw [hof], by rw [hof], by rw [hchan], by rw [hchan], by rw [hchan], by rw [hchan], by rw [hchan], hstates⟩

theorem queuesMoved_crossWords (s : State) (die c d : Nat) (x : Crossing) (n : Nat) : QueuesMoved s (s.crossWords d x n) die c :=
  queuesMoved_of_rest (by rw [crossWords_rest]) (objsBut_of_eq (by simp)) fun _ _ _ => by rw [crossWords_rest]; rfl

theorem queuesMoved_dramGive (s : State) (die c : Nat) (e : DramEnt) (bs : List Byte) (poison : Bool) : QueuesMoved s (s.dramGive die e bs poison) die c := by
  unfold State.dramGive
  split
  · exact .refl ..
  · refine .trans (.trans ?_ (queuesMoved_crossWords ..)) (queuesMoved_crossWords ..)
    exact ⟨rfl, objsBut_of_eq rfl, fun w => memWf_setMem_data w die _ rfl rfl, by simp, by simp, by simp, by simp [State.chan], by simp [State.chan], by simp [State.chan], by simp [State.chan], by simp [State.chan], fun _ _ _ => rfl⟩

theorem queuesMoved_bump (s : State) (die c : Nat) : QueuesMoved s (s.bump die (Ob.dram_wq_forwards + c)) die c :=
  queuesMoved_of_rest (by rw [bump_rest]) (objsBut_mono (bump_objs _ _ _ _) fun _ => .inl) fun _ n hn => objsBut_nat (bump_objs _ _ _ _) (by
    simp only [fullKey, Ob.dram_state, Ob.dram_wq_forwards]
    omega)

theorem queuesMoved_moveEntry (s : State) (die c : Nat) (e : DramEnt) (stuck : List Nat) : QueuesMoved s (s.moveEntry die c e stuck).1 die c := by
  have hput : ∀ f : DramCh → DramCh, (∀ x : DramCh, (f x).waiting = x.waiting ∧ (f x).holder = x.holder ∧ (f x).rows = x.rows ∧ (f x).rot = x.rot ∧ (f x).pend = x.pend) → QueuesMoved s (s.setChan die c f, false).1 die c := fun f h => queuesMoved_setChan s die c f h
  unfold State.moveEntry
  dsimp only
  split
  · exact .refl ..
  · split
    · split
      · split
        · exact .trans (queuesMoved_dramGive ..) (queuesMoved_bump ..)
        · split
          · exact .refl ..
          · split
            · exact hput _ fun _ => ⟨rfl, rfl, rfl, rfl, rfl⟩
            · exact .refl ..
      · split
        · exact hput _ fun _ => ⟨rfl, rfl, rfl, rfl, rfl⟩
        · exact .refl ..
    · split
      · exact hput _ fun _ => ⟨rfl, rfl, rfl, rfl, rfl⟩
      · split
        · exact hput _ fun _ => ⟨rfl, rfl, rfl, rfl, rfl⟩
        · exact .refl ..

/-- The entries of a table move on one by one. -/
theorem queuesMoved_entries (die c : Nat) (l : List DramEnt) (a : State × List DramEnt) :
    QueuesMoved a.1 (l.foldl (fun (a : State × List DramEnt) e => let m := a.1.moveEntry die c e (a.2.map (·.addr)); (m.1, if m.2 then a.2 ++ [e] else a.2)) a).1 die c := by
  induction l generalizing a with
  | nil => exact .refl ..
  | cons e l ih => exact .trans (queuesMoved_moveEntry a.1 die c e (a.2.map (·.addr))) (ih (_, _))

theorem queuesMoved_moveTable (s : State) (die c : Nat) : QueuesMoved s (s.moveTable die c) die c := by
  have hempty : QueuesMoved s (s.setChan die c fun h => { h with table := [] }) die c := queuesMoved_setChan ..
  have hmoved := hempty.trans (queuesMoved_entries die c (s.chan die c).table (s.setChan die c fun h => { h with table := [] }, []))
  refine hmoved.trans ?_
  unfold State.moveTable
  exact queuesMoved_setChan ..

theorem queuesMoved_each {α : Type} {die c : Nat} (l : List α) (f : α → State → State) (h : ∀ a s, QueuesMoved s (f a s) die c) (s : State) : QueuesMoved s (s.each l f) die c := by
  induction l generalizing s with
  | nil => exact .refl ..
  | cons a l ih => exact .trans (h a s) (ih _)

theorem queuesMoved_drainWq (s : State) (die c : Nat) : QueuesMoved s (s.drainWq die c) die c := by
  refine queuesMoved_each _ _ (fun w s => ?_) s
  dsimp only
  split
  · exact queuesMoved_setChan ..
  · exact .refl ..

theorem queuesMoved_powerUp {s : State} {die c : Nat} (h : s.chState die c = 2) (v : Nat) : QueuesMoved s (s.setChState die c v) die c :=
  queuesMoved_of_rest rfl (objsBut_mono (objsBut_put s die (Ob.dram_state + c) v) fun _ => .inr) fun hs => absurd h hs

theorem queuesMoved_settle (s : State) (die c : Nat) : QueuesMoved s (s.settle die c) die c := by
  have hmoved : QueuesMoved s ((s.moveTable die c).drainWq die c) die c := .trans (queuesMoved_moveTable s die c) (queuesMoved_drainWq _ die c)
  unfold State.settle
  dsimp only
  split
  · exact hmoved
  · split
    · next hdown => exact .trans (.trans hmoved (queuesMoved_setChan ..)) (queuesMoved_powerUp hdown 1)
    · exact .trans hmoved (queuesMoved_setChan ..)

end Sys2Proof.Proofs
end

section
/-! Every command on the memories keeps their canonical form (R348-R376). -/

namespace Sys2Proof.Proofs

open Sys2Proof.Machine Sys2Proof.Laws

/-! SRAM -/

theorem memWf_sramUndef {s : State} (h : s.memWf = true) (die : Nat) (r : SramReq) : (s.sramUndef die r).memWf = true :=
  memWf_raise (memWf_bump (memWf_setMem_data (s := s.draw.2) (memWf_of_mem rfl h) die _ rfl rfl) ..) ..

theorem memWf_sramMeet {s : State} (h : s.memWf = true) (die : Nat) (rs : List SramReq) : (s.sramMeet die rs).memWf = true := by
  unfold State.sramMeet
  split
  · exact h
  · next r rest =>
    split
    · exact memWf_sramServe h die r
    · split
      · exact memWf_each _ _ (fun q s hs => memWf_sramServe hs die q) h
      · next w _ =>
        dsimp only
        refine memWf_each _ _ (fun q s hs => memWf_sramBusy hs die q) ?_
        split
        · exact memWf_sramServe h die r
        · exact memWf_sramServe (memWf_sramUndef h die r) die w

theorem memWf_sramBank {s : State} (h : s.memWf = true) (die : Nat) (rs : List SramReq) : (s.sramBank die rs).memWf = true := by
  have hmeet : ∀ l l' : List SramReq, ((s.sramMeet die l).each l' fun q s => s.sramWait die q).memWf = true := fun l l' =>
    memWf_each _ _ (fun q s hs => memWf_sramWait hs die q) (memWf_sramMeet h die l)
  unfold State.sramBank
  split
  · exact h
  · split
    · split
      · refine memWf_each _ _ (fun q s hs => ?_) h
        split
        · exact memWf_sramBusy hs die q
        · exact memWf_sramWait hs die q
      · exact hmeet ..
    · exact hmeet ..

theorem memWf_sramRequest {s : State} (h : s.memWf = true) (die : Nat) (reqs : List SramReq) : (s.sramRequest die reqs).memWf = true := by
  unfold State.sramRequest
  split
  · exact h
  · refine memWf_each _ _ (fun rs s hs => memWf_sramBank hs die rs) (memWf_each _ _ (fun r s hs => memWf_sramWait (memWf_wakeSlice hs ..) die r) ?_)
    exact memWf_setMem_data h die _ rfl rfl

theorem memWf_sliceRetention {s : State} (h : s.memWf = true) (die n : Nat) : (s.sliceRetention die n).memWf = true := by
  unfold State.sliceRetention
  split_ifs
  · exact h
  · exact memWf_sliceOff h die n
  · exact h
  · exact h
  · exact h
  · exact memWf_setSlice h die n 1
  · exact h

theorem memWf_sliceWake {s : State} (h : s.memWf = true) (die n : Nat) : (s.sliceWake die n).memWf = true := by
  unfold State.sliceWake
  split
  · exact memWf_setMem_data (memWf_setSlice h die n 0) die _ rfl rfl
  · exact h

/-! Field BIST -/

theorem memWf_bistEnd {s : State} (h : s.memWf = true) (die : Nat) : (s.bistEnd die).memWf = true := memWf_setMem_data (memWf_bump h ..) die _ rfl rfl

theorem memWf_bistFail {s : State} (h : s.memWf = true) (die : Nat) (a : Int) : (((s.bump die Ob.sram_bist_fails).put die Ob.sram_bist_last_addr a).raise die Ob.sram_flags 0).memWf = true :=
  memWf_raise (memWf_put (memWf_bump h die Ob.sram_bist_fails) die Ob.sram_bist_last_addr a) die Ob.sram_flags 0

theorem memWf_bistTest {s : State} (h : s.memWf = true) (die w : Nat) (ok : Bool) : (s.bistTest die w ok).memWf = true := by
  unfold State.bistTest
  extract_lets step due locked tested
  have hlocked : locked.memWf = true := memWf_setMem_data h die _ rfl rfl
  have htested : tested.memWf = true := by
    by_cases hok : ok = true
    · simpa [tested, hok] using hlocked
    · simpa only [tested, if_neg hok] using memWf_bistFail hlocked die _
  split
  · exact memWf_bistEnd htested die
  · exact htested

theorem memWf_bistWord {s : State} (h : s.memWf = true) (die : Nat) (ok : Bool) : (s.bistWord die ok).memWf = true := by
  unfold State.bistWord
  dsimp only
  split
  · exact h
  · split
    · split
      · exact h
      · exact memWf_bistEnd h die
    · split
      · exact memWf_bistTest h ..
      · exact h

/-! DRAM -/

theorem memWf_settle {s : State} (h : s.memWf = true) (die c : Nat) : (s.settle die c).memWf = true := (queuesMoved_settle s die c).wf h

theorem memWf_crossPush {s : State} (h : s.memWf = true) (die : Nat) (x : Crossing) (n : Nat) : (s.crossPush die x n).memWf = true := by
  unfold State.crossPush
  split
  · exact h
  · exact memWf_of_mem rfl h

theorem memWf_endBurst {s : State} (h : s.memWf = true) (die c : Nat) : (s.endBurst die c).memWf = true := by
  unfold State.endBurst
  split
  · exact h
  · exact memWf_setChan h ..

theorem memWf_crossPop {s : State} (h : s.memWf = true) (die : Nat) (x : Crossing) : (s.crossPop die x).memWf = true := memWf_of_mem rfl h

theorem memWf_dramRound {s : State} (h : s.memWf = true) (die c : Nat) (reqs : List DramReq) : (s.dramRound die c reqs).memWf = true := by
  unfold State.dramRound
  extract_lets came chan
  have hcame : came.memWf = true := memWf_crossWords (memWf_crossPush (memWf_setChan (memWf_endBurst h die c) die c _) die (.dramOut c) reqs.length) die .braidIn _
  split
  · exact hcame
  · split
    · exact memWf_settle hcame die c
    · split
      · exact hcame
      · extract_lets granted
        have hgranted : granted.memWf = true := memWf_crossPop (memWf_setChan hcame die c _) die (.dramOut c)
        exact memWf_settle (memWf_setChan hgranted die c _) die c

theorem memWf_setRow {s : State} (h : s.memWf = true) (die c b : Nat) (r : Option Nat) : (s.setRow die c b r).memWf = true := memWf_setChan h ..

theorem memWf_rotate {s : State} (h : s.memWf = true) (die c : Nat) (t : SlotTiming) (cands : List (Nat × DramEnt)) : (s.rotate die c t cands).memWf = true := by
  unfold State.rotate
  dsimp only
  split
  · exact memWf_setChan (memWf_setRow h ..) ..
  · exact h

theorem memWf_issueHit {s : State} (h : s.memWf = true) (die c b ecc : Nat) (e : DramEnt) : (s.issueHit die c b ecc e).memWf = true := by
  unfold State.issueHit
  exact memWf_settle (memWf_dramAccess (memWf_setChan h die c _) die c ecc e) die c

theorem memWf_commandPick {s : State} (h : s.memWf = true) (die c : Nat) (t : SlotTiming) : (s.commandPick die c t).memWf = true := by
  unfold State.commandPick
  split
  · exact h
  · extract_lets settled cands
    have hsettled : settled.memWf = true := memWf_settle h die c
    split
    · exact memWf_issueHit hsettled ..
    · exact memWf_rotate hsettled ..

theorem memWf_dramRefresh {s : State} (h : s.memWf = true) (die c b : Nat) : (s.dramRefresh die c b).memWf = true := by
  unfold State.dramRefresh
  split
  · exact memWf_setRow h ..
  · exact h

theorem memWf_masterReset {s : State} (h : s.memWf = true) (die c master beats : Nat) : (s.masterReset die c master beats).memWf = true := by
  unfold State.masterReset
  exact memWf_settle (memWf_setChan h die c _) die c

theorem memWf_srChan {s : State} (h : s.memWf = true) (die c : Nat) : (s.srChan die c).memWf = true := memWf_setChan (memWf_bump (memWf_put h ..) ..) ..

theorem memWf_srEntry {s : State} (h : s.memWf = true) (die c : Nat) : (s.srEntry die c).memWf = true := by
  unfold State.srEntry
  split_ifs
  · exact h
  · exact memWf_srChan h die c
  · exact h
  · exact memWf_setChan (memWf_bump (memWf_put h ..) ..) ..

theorem memWf_leaveSr {s : State} (h : s.memWf = true) (die c : Nat) : (s.leaveSr die c).memWf = true :=
  memWf_setChan (memWf_put (memWf_setChan (memWf_each _ _ (fun _ _ hs => memWf_put hs ..) h) ..) ..) ..

theorem memWf_srExit {s : State} (h : s.memWf = true) (die c : Nat) : (s.srExit die c).memWf = true := by
  unfold State.srExit
  split
  · exact memWf_leaveSr h die c
  · exact h

theorem memWf_driftCheck {s : State} (h : s.memWf = true) (die c : Nat) (drift : List Int) : (s.driftCheck die c drift).memWf = true := by
  unfold State.driftCheck
  split
  · exact h
  · exact memWf_setChan h ..

theorem memWf_flushBanks {s : State} (h : s.memWf = true) (die c : Nat) : (s.flushBanks die c).memWf = true := memWf_each _ _ (fun _ _ hs => memWf_dramAccess hs ..) (memWf_setChan h ..)

theorem memWf_flushChan (n : Nat) : ∀ {s : State}, s.memWf = true → ∀ die c : Nat, (s.flushChan die c n).memWf = true := by
  induction n with
  | zero => exact fun h _ _ => h
  | succ n ih =>
    intro s h die c
    have hone := memWf_settle (memWf_flushBanks h die c) die c
    unfold State.flushChan
    dsimp only
    split
    · exact hone
    · exact ih hone die c

theorem memWf_forcedExit {s : State} (h : s.memWf = true) (die c : Nat) : (s.forcedExit die c).memWf = true := by
  unfold State.forcedExit
  generalize 2200 = fuel
  split
  · have hflushed := memWf_flushChan fuel (memWf_endBurst h die c) die c
    exact memWf_leaveSr (memWf_srChan hflushed die c) die c
  · exact h

theorem memWf_dlyPending {s : State} (h : s.memWf = true) (die c : Nat) : (s.dlyPending die c).memWf = true := by
  unfold State.dlyPending
  split
  · exact memWf_raise h die Ob.dram_flags 1 c
  · exact h

theorem memWf_sweepDone {s : State} (h : s.memWf = true) (die : Nat) (found : List SweepLane) : (s.sweepDone die found).memWf = true := by
  unfold State.sweepDone
  split
  · exact h
  · split
    · exact memWf_put h ..
    · refine memWf_raise (memWf_put (memWf_each _ _ (fun c s hs => ?_) h) die Ob.dram_sweep_status 2) die Ob.dram_flags 3
      exact memWf_setChan (memWf_each _ _ (fun e s hs => memWf_of_mem (keep_mem ..) hs) hs) die c _

theorem memWf_onDie {s : State} (h : s.memWf = true) (die : Nat) {f : State → State} (hf : (f s).memWf = true) : (s.onDie die f).memWf = true := by
  unfold State.onDie
  split
  · exact h
  · exact hf

/-- A round of arbitration that ends in a next state. -/
theorem memWf_execRound {s t : State} (h : s.memWf = true) (die c : Nat) (reqs : List DramReq) (hexec : execDramArbitrationRound die c reqs s = .next t) : t.memWf = true := by
  unfold execDramArbitrationRound at hexec
  split at hexec
  · injection hexec with ht
    exact ht ▸ h
  · split at hexec
    · injection hexec with ht
      exact ht ▸ memWf_dramRound h die c reqs
    · cases hexec

/-- Settles O53: every command of chapter 12 that acts on the memories keeps their canonical form, by what it is made of. -/
theorem memoryStaysCanonical : Obligations.MemoryStaysCanonical := by
  unfold Obligations.MemoryStaysCanonical Claims.memoryKept
  intro s t c hrow hwf hexec
  cases c with
  | sramRequest die reqs => exact Host.Outcome.next.inj hexec ▸ memWf_onDie hwf die (memWf_sramRequest hwf die reqs)
  | sliceRetention die n => exact Host.Outcome.next.inj hexec ▸ memWf_onDie hwf die (memWf_sliceRetention hwf die n)
  | sliceWakeComplete die n => exact Host.Outcome.next.inj hexec ▸ memWf_onDie hwf die (memWf_sliceWake hwf die n)
  | bistWordTest die ok => exact Host.Outcome.next.inj hexec ▸ memWf_onDie hwf die (memWf_bistWord hwf die ok)
  | dramArbitrationRound die c reqs => exact memWf_execRound hwf die c reqs hexec
  | commandPick die c t => exact Host.Outcome.next.inj hexec ▸ memWf_onDie hwf die (memWf_commandPick hwf die c t)
  | dramRefresh die c b => exact Host.Outcome.next.inj hexec ▸ memWf_onDie hwf die (memWf_dramRefresh hwf die c b)
  | masterReset die c master beats => exact Host.Outcome.next.inj hexec ▸ memWf_onDie hwf die (memWf_masterReset hwf die c master beats)
  | dramSelfRefreshEntry die c => exact Host.Outcome.next.inj hexec ▸ memWf_onDie hwf die (memWf_srEntry hwf die c)
  | dramSelfRefreshExit die c => exact Host.Outcome.next.inj hexec ▸ memWf_onDie hwf die (memWf_srExit hwf die c)
  | dramDriftCheck die c drift => exact Host.Outcome.next.inj hexec ▸ memWf_onDie hwf die (memWf_driftCheck hwf die c drift)
  | dramForcedExit die c => exact Host.Outcome.next.inj hexec ▸ memWf_onDie hwf die (memWf_forcedExit hwf die c)
  | dlyPending die c => exact Host.Outcome.next.inj hexec ▸ memWf_onDie hwf die (memWf_dlyPending hwf die c)
  | sweepDone die found => exact Host.Outcome.next.inj hexec ▸ memWf_onDie hwf die (memWf_sweepDone hwf die found)
  | _ => cases hrow

end Sys2Proof.Proofs
end

section
/-! Facts about objects and flags: keys of different objects, counters, and what a flag raised leaves in its object and in the others (R18, R173). -/

namespace Sys2Proof.Proofs

open Sys2Proof.Machine Sys2Proof.Laws

/-- Objects at different places of the dictionary have different keys, on whatever dies. -/
theorem fullKey_ne {d e k j : Nat} (h : k ≠ j) (hk : k < 16777216 := by decide) (hj : j < 16777216 := by decide) : fullKey d k ≠ fullKey e j :=
  fun hkj => h (fullKey_inj hk hj hkj).2

theorem fullKey_part (k : Nat) : fullKey 0 k = k := by simp [fullKey]

/-- The object that a part-wide key names is none of a die's other objects. -/
theorem fullKey_ne_part {d k j : Nat} (h : k ≠ j) (hk : k < 16777216 := by decide) (hj : j < 16777216 := by decide) : fullKey d k ≠ j :=
  fun hkj => fullKey_ne (d := d) (e := 0) h hk hj (hkj.trans (fullKey_part j).symm)

/-- The places in the dictionary of the objects that a fault report may change. -/
def reportPlaces (k : Nat) : Prop :=
  k = Ob.event_seq ∨ k = Ob.knot_late ∨ k = Ob.knot_evictions ∨ k = Ob.knot_undelivered ∨ (Ob.fwd_drops ≤ k ∧ k < Ob.fwd_drops + 16) ∨
  (Ob.lane_sleep ≤ k ∧ k < Ob.lane_sleep + 16) ∨ (Ob.lane_state ≤ k ∧ k < Ob.lane_state + 16)


theorem reportPlaces_of {d k : Nat} (hk : k < 16777216) (h : reportKey (fullKey d k)) : reportPlaces k := by
  have hplace : ∀ {e j : Nat}, j < 16777216 → fullKey d k = fullKey e j → k = j := fun hj h => (fullKey_inj hk hj h).2
  have hlane : ∀ p : Nat, p % 16 < 16 := fun p => Nat.mod_lt _ (by decide)
  rcases h with h | h | h | h | ⟨e, p, h⟩ | ⟨e, p, h⟩ | ⟨e, p, h⟩
  · exact .inl (hplace (by decide) (h.trans (fullKey_part _).symm))
  · exact .inr (.inl (hplace (by decide) (h.trans (fullKey_part _).symm)))
  · exact .inr (.inr (.inl (hplace (by decide) (h.trans (fullKey_part _).symm))))
  · exact .inr (.inr (.inr (.inl (hplace (by decide) (h.trans (fullKey_part _).symm)))))
  · have := hlane p
    have := hplace (by simp only [Ob.fwd_drops]; omega) h
    exact .inr (.inr (.inr (.inr (.inl (by omega)))))
  · have := hlane p
    have := hplace (by simp only [Ob.lane_sleep]; omega) h
    exact .inr (.inr (.inr (.inr (.inr (.inl (by omega))))))
  · have := hlane p
    have := hplace (by simp only [Ob.lane_state]; omega) h
    exact .inr (.inr (.inr (.inr (.inr (.inr (by omega))))))

/-- An object elsewhere in the dictionary is none of those. -/
theorem not_reportKey_full {d k : Nat} (h : ¬ reportPlaces k := by unfold reportPlaces; decide) (hk : k < 16777216 := by decide) : ¬ reportKey (fullKey d k) := fun hr => h (reportPlaces_of hk hr)

/-! Flags -/

/-- A flag raised: its bit is marked, and what follows is at most a report. -/
theorem raise_after_mark (s : State) (die key i x : Nat) : s.on die key i = true ∧ s.raise die key i x = s ∨ ReportOnly (s.markFlag die key i) (s.raise die key i x) fun _ => False := by
  unfold State.raise
  split
  · next h => exact .inl ⟨h, rfl⟩
  · split
    · exact .inr (enterKnot_reportOnly _ _)
    · exact .inr (reportOnly_refl _)

theorem markFlag_on (s : State) (die key i : Nat) : (s.markFlag die key i).on die key i = true := by
  simp [State.on, State.markFlag, State.orBits, bit]

/-- A flag raised is set. -/
theorem raise_on (s : State) (die key i x : Nat) (h : ¬ reportKey (fullKey die key)) : (s.raise die key i x).on die key i = true := by
  obtain ⟨hon, heq⟩ | hrep := raise_after_mark s die key i x
  · rw [heq, hon]
  · rw [← markFlag_on s die key i, State.on, objsBut_nat hrep.objs (by simpa using h)]
    rfl

theorem raise_nat_other (s : State) {die key d k : Nat} (i x : Nat) (hne : fullKey d k ≠ fullKey die key) (h : ¬ reportKey (fullKey d k)) : (s.raise die key i x).nat d k = s.nat d k :=
  objsBut_nat (raise_objs s die key i x) fun hk => hk.elim hne h

theorem raise_int_other (s : State) {die key d k : Nat} (i x : Nat) (hne : fullKey d k ≠ fullKey die key) (h : ¬ reportKey (fullKey d k)) : (s.raise die key i x).int d k = s.int d k :=
  objsBut_int (raise_objs s die key i x) fun hk => hk.elim hne h

/-! Objects read alike -/

theorem int_of_objs {s t : State} (h : t.objs = s.objs) (die key : Nat) : t.int die key = s.int die key := by simp only [State.int, State.val, h]

theorem nat_of_objs {s t : State} (h : t.objs = s.objs) (die key : Nat) : t.nat die key = s.nat die key := by simp only [State.nat, int_of_objs h]

/-! Counters -/

theorem counts_bump (s : State) (die key n : Nat) (h : (objTy key).bounds.2 = 4294967295) : Claims.Counts s (s.bump die key n) die key n := fun hs => bump_int s die key n (h ▸ hs)

theorem bump_int_other (s : State) {die key d k : Nat} (n : Nat) (hne : fullKey d k ≠ fullKey die key) : (s.bump die key n).int d k = s.int d k := objsBut_int (bump_objs s die key n) hne

theorem bump_nat_other (s : State) {die key d k : Nat} (n : Nat) (hne : fullKey d k ≠ fullKey die key) : (s.bump die key n).nat d k = s.nat d k := objsBut_nat (bump_objs s die key n) hne

theorem counts_of_int {s t s' t' : State} {die key n : Nat} (h : Claims.Counts s t die key n) (hs : s'.int die key = s.int die key) (ht : t'.int die key = t.int die key) :
    Claims.Counts s' t' die key n := by rwa [Claims.Counts, hs, ht]

end Sys2Proof.Proofs
end

section
/-! The management address: link-local after 10 s of recovery mode without DHCP, and the one that DHCP gives (R54, R445). -/

namespace Sys2Proof.Proofs

open Sys2Proof.Machine Sys2Proof.Laws

theorem pw_set_address (s : State) (n : Nat) : (s.set Ob.mgmt_ip_current (n : Int)).pw Ob.mgmt_ip_current = n := nat_put_same ..

theorem set_address_objs (s : State) (v : Int) : ObjsBut s (s.set Ob.mgmt_ip_current v) fun k => k = Ob.mgmt_ip_current := objsBut_put s 0 Ob.mgmt_ip_current v

theorem linkLocal : Claims.linkLocal := by
  intro s at_ hup hrec hat
  refine ⟨fun hpast => ?_, fun hpast => ?_⟩
  · refine ⟨s.recoveryDhcp, _, _, congrArg Host.Outcome.next (run_up hup _), ?_, rfl, rfl, ?_⟩
    · simp only [State.recoveryDhcp, hat, hrec, hpast, Bool.and_self, if_true]
      exact pw_set_address ..
    · simp only [State.recoveryDhcp, hat, hrec, hpast, Bool.and_self, if_true]
      exact set_address_objs _ _
  · refine congrArg _ ((run_up hup _).trans ?_)
    simp [State.recoveryDhcp, hat, hpast]

theorem addressTaken : Claims.addressTaken := by
  intro s addr hup
  have ⟨hheld, hscan⟩ := hup
  refine ⟨fun hmode => ?_, fun hdhcp hrec => ?_⟩
  · have htaken : s.dhcpAddress addr = ({ s with boot := { s.boot with dhcpAt := none } } : State).set Ob.mgmt_ip_current (addr % 4294967296 : Nat) := by
      unfold State.dhcpAddress
      rcases hmode with h | h <;> simp [hheld, hscan, h]
    refine ⟨s.dhcpAddress addr, congrArg Host.Outcome.next (run_up hup _), ?_, ?_, ?_⟩
    · rw [htaken]
      exact pw_set_address ..
    · rw [htaken]
      rfl
    · rw [htaken]
      exact set_address_objs _ _
  · refine congrArg _ ((run_up hup _).trans ?_)
    simp [State.dhcpAddress, hdhcp, hrec]

/-- Settles O43: by what each of the two rows sets. -/
theorem managementAddressIsTaken : Obligations.ManagementAddressIsTaken := ⟨linkLocal, addressTaken⟩

end Sys2Proof.Proofs
end

section
/-! Field BIST (R359-R361): the word under test, and each value of sram_bist_mode. -/

namespace Sys2Proof.Proofs

open Sys2Proof.Machine Sys2Proof.Laws Sys2Proof.Claims

/-! A row that names a WRITE -/

/-- A row that names a WRITE of one object that one die executes: what it writes, answered. -/
theorem corrixFor_write_one {s : State} {m : Msg} {d : ObjDef} {die : Nat} {p : Nat → List Byte → Bool} {x : State} {st : Nat} (h : WritesOne s m d die) (hp : p m.key m.payload = true)
    (hkey : m.key ≠ Ob.part_reset) (hx : (s.arrived m).writeOne die m.key d (decodeVal d.ty m.payload) = (x, st)) :
    s.corrixFor m p = x.answer 0x02 m st d.ty.code [] := by
  have hwrite : Host.Outcome.next (s.corrixIn 0x02 m) = _ := exec_write_one h hkey
  rw [corrixFor_of hp, Host.Outcome.next.inj hwrite, hx]

/-- A write of an rw object that the die has. -/
theorem writeOne_rw {s : State} {die key : Nat} {d : ObjDef} {v0 : Int} (hthere : s.absent die key = false) (hrw : d.acc = .rw) :
    s.writeOne die key d v0 = (((s.touch key).put die key (s.clampVal die key d v0)).wrote die key (s.nat die key), 0) := by
  simp [State.writeOne, hthere, hrw]

/-! The mode (R359) -/

theorem wrote_bistMode (s : State) (die old : Nat) : s.wrote die Ob.sram_bist_mode old = s.bistModeEffect die old := rfl

/-- The part after a write of sram_bist_mode. -/
def bistWritten (a : State) (die : Nat) (v : Nat) : State := (a.put die Ob.sram_bist_mode (v : Int)).bistModeEffect die (a.nat die Ob.sram_bist_mode)

theorem bistWritten_exec {s a : State} {m : Msg} {d : ObjDef} {die v : Nat} {p : Nat → List Byte → Bool} (h : BistWrite s a m d die v) (hp : p m.key m.payload = true) :
    s.corrixFor m p = (bistWritten a die v).answer 0x02 m 0 d.ty.code [] := by
  obtain ⟨hone, hkey, hrw, rfl, hv⟩ := h
  have hunit := hone.unit
  refine corrixFor_write_one hone hp (by rw [hkey]; decide) ?_
  rw [writeOne_rw hunit hrw, ← hv, hkey, wrote_bistMode]
  rfl

theorem bistWritten_mode (a : State) (die v : Nat) : (bistWritten a die v).nat die Ob.sram_bist_mode = v :=
  (nat_put_same a die Ob.sram_bist_mode v : (a.put die Ob.sram_bist_mode v).nat die Ob.sram_bist_mode = v)

theorem bistWritten_objs (a : State) (die v : Nat) : ObjsBut a (bistWritten a die v) fun k => k = fullKey die Ob.sram_bist_mode := objsBut_put a die Ob.sram_bist_mode v

theorem bistWritten_rest (a : State) (die v : Nat) : bistWritten a die v = { a with objs := (bistWritten a die v).objs, mem := (bistWritten a die v).mem } := rfl

/-- What a write of the mode does to the pass. -/
theorem bistWritten_memOf (a : State) (die v : Nat) : (bistWritten a die v).memOf die =
    if v = 0 then a.memOf die
    else if v = 2 || a.nat die Ob.sram_bist_mode = 0 || (a.memOf die).bist.over_ then { a.memOf die with bist := { (a.memOf die).bist with next := 0, skip := [], over_ := false } }
    else a.memOf die := by
  have hmode : (a.put die Ob.sram_bist_mode (v : Int)).nat die Ob.sram_bist_mode = v := nat_put_same a die Ob.sram_bist_mode v
  simp only [bistWritten, State.bistModeEffect, memOf_setMem_same, hmode]
  rfl

theorem bistStops : Claims.bistStops := fun _ a _ _ die h hzero =>
  ⟨bistWritten a die 0, congrArg Host.Outcome.next (bistWritten_exec h (by simp [h.2.1, hzero])), bistWritten_mode a die 0, by simp [bistWritten_memOf], bistWritten_objs a die 0, bistWritten_rest a die 0⟩

theorem bistRuns : Claims.bistRuns := by
  intro s a m d die h hone
  refine ⟨bistWritten a die 1, congrArg Host.Outcome.next (bistWritten_exec h (by simpa [h.2.1] using hone)), bistWritten_mode a die 1, fun hstopped => ?_, fun hran hover => ?_,
    bistWritten_objs a die 1, bistWritten_rest a die 1⟩
  · simp [bistWritten_memOf, hstopped]
  · simp [bistWritten_memOf, hran, hover]

theorem bistOnce : Claims.bistOnce := fun _ a _ _ die h htwo =>
  ⟨bistWritten a die 2, congrArg Host.Outcome.next (bistWritten_exec h (by simp [h.2.1, htwo])), bistWritten_mode a die 2, by simp [bistWritten_memOf], by simp [bistWritten_memOf], by simp [bistWritten_memOf],
    by simp [bistWritten_memOf], bistWritten_objs a die 2, bistWritten_rest a die 2⟩

/-! A word tested (R359-R361) -/

/-- The next word of a pass is found from the states of the slices and those skipped. -/
theorem bistNext_of {s t : State} {die : Nat} (hslices : ∀ n, n < 8 → t.nat die (Ob.sram_slice_state + n) = s.nat die (Ob.sram_slice_state + n)) (hskip : (t.memOf die).bist.skip = (s.memOf die).bist.skip) (w : Nat) :
    t.bistNext die w = s.bistNext die w := by
  have hfirst : ∀ n, n < 8 → (decide (t.nat die (Ob.sram_slice_state + n) = 0) && !((t.memOf die).bist.skip.contains n)) =
      (decide (s.nat die (Ob.sram_slice_state + n) = 0) && !((s.memOf die).bist.skip.contains n)) := fun n hn => by rw [hslices n hn, hskip]
  have hfind : (List.range 8).find? (fun n => decide (w < 65536 * n) && (decide (t.nat die (Ob.sram_slice_state + n) = 0) && !((t.memOf die).bist.skip.contains n))) =
      (List.range 8).find? (fun n => decide (w < 65536 * n) && (decide (s.nat die (Ob.sram_slice_state + n) = 0) && !((s.memOf die).bist.skip.contains n))) :=
    List.find?_congr fun n hn => by rw [hfirst n (List.mem_range.1 hn)]
  unfold State.bistNext
  dsimp only
  rw [hfind]
  by_cases hw : w < 524288
  · simp only [hfirst (w / 65536) (by omega)]
  · simp [hw]

/-- A word under test: locked, and the place of the pass moved past it, its next moment given. -/
def bistLocked (s : State) (die w : Nat) (due : BistSt → Nat) : State :=
  s.setMem die fun m => { m with bist := { m.bist with next := w + 1, nextAt := due m.bist, lock := some (w, s.now + s.coreNs die 4) } }

/-- A word that failed its test. -/
def bistFailed (s : State) (die w : Nat) : State := ((s.bump die Ob.sram_bist_fails).put die Ob.sram_bist_last_addr (32 * w : Nat)).raise die Ob.sram_flags 0

/-- What the test of a word has done before the pass may end. -/
structure WordTested (s t : State) (die w : Nat) (ok : Bool) : Prop where
  next : (t.memOf die).bist.next = w + 1
  lock : (t.memOf die).bist.lock = some (w, s.now + s.coreNs die 4)
  skip : (t.memOf die).bist.skip = (s.memOf die).bist.skip
  sram : (t.memOf die).sram = (s.memOf die).sram
  slices : ∀ n, n < 8 → t.nat die (Ob.sram_slice_state + n) = s.nat die (Ob.sram_slice_state + n)
  passes : t.int die Ob.sram_bist_passes = s.int die Ob.sram_bist_passes
  fails : ok = false → Counts s t die Ob.sram_bist_fails 1
  last : ok = false → t.nat die Ob.sram_bist_last_addr = 32 * w
  flag : ok = false → t.on die Ob.sram_flags 0 = true

theorem wordTested_locked (s : State) (die w : Nat) (due : BistSt → Nat) : WordTested s (bistLocked s die w due) die w true where
  next := by simp [bistLocked]
  lock := by simp [bistLocked]
  skip := by simp [bistLocked]
  sram := by simp [bistLocked]
  slices := fun _ _ => rfl
  passes := rfl
  fails := nofun
  last := nofun
  flag := nofun

theorem wordTested_failed {s t : State} {die w : Nat} (h : WordTested s t die w true) (hfails : t.int die Ob.sram_bist_fails = s.int die Ob.sram_bist_fails) : WordTested s (bistFailed t die w) die w false := by
  have hmem : (bistFailed t die w).memOf die = t.memOf die := memOf_of_mem (by simp [bistFailed]) die
  have hother : ∀ k, k ≠ Ob.sram_bist_fails → k ≠ Ob.sram_bist_last_addr → k ≠ Ob.sram_flags → ¬ reportPlaces k → k < 16777216 → (bistFailed t die w).int die k = t.int die k := fun k hf hl hg hr hk => by
    rw [bistFailed, raise_int_other _ _ _ (fullKey_ne hg hk) (not_reportKey_full hr hk), int_put_other _ _ _ _ _ _ (fullKey_ne hl hk), bump_int_other _ _ (fullKey_ne hf hk)]
  refine ⟨by rw [hmem, h.next], by rw [hmem, h.lock], by rw [hmem, h.skip], by rw [hmem, h.sram], fun n hn => ?_, ?_, fun _ => ?_, fun _ => ?_, fun _ => raise_on _ _ _ _ _ not_reportKey_full⟩
  · rw [← h.slices n hn]
    simp only [State.nat]
    rw [hother]
    all_goals simp only [reportPlaces, Ob.sram_slice_state, Ob.sram_bist_fails, Ob.sram_bist_last_addr, Ob.sram_flags, Ob.event_seq, Ob.knot_late, Ob.knot_evictions, Ob.knot_undelivered, Ob.fwd_drops,
      Ob.lane_sleep, Ob.lane_state]; omega
  · rw [← h.passes]
    exact hother _ (by decide) (by decide) (by decide) (by unfold reportPlaces; decide) (by decide)
  · refine counts_of_int (counts_bump t die Ob.sram_bist_fails 1 rfl) hfails.symm ?_
    rw [bistFailed, raise_int_other _ _ _ (fullKey_ne (by decide)) not_reportKey_full, int_put_other _ _ _ _ _ _ (fullKey_ne (by decide))]
  · rw [bistFailed, raise_nat_other _ _ _ (fullKey_ne (by decide)) not_reportKey_full, nat_put_same]
    rfl

/-- The test of a word, and the end of the pass after its last one. -/
theorem bistTest_eq (s : State) (die w : Nat) (ok : Bool) : ∃ t, WordTested s t die w ok ∧ s.bistTest die w ok = if (s.bistNext die (w + 1)).isNone then t.bistEnd die else t := by
  have hnext : ∀ {t : State}, WordTested s t die w ok → t.bistNext die (w + 1) = s.bistNext die (w + 1) := fun h => bistNext_of h.slices h.skip _
  unfold State.bistTest
  extract_lets step due locked tested
  have hlocked : WordTested s locked die w true := wordTested_locked s die w due
  have htested : WordTested s tested die w ok := by
    cases ok with
    | true => exact hlocked
    | false =>
      have hobjs : locked.objs = s.objs := rfl
      have hfails : locked.int die Ob.sram_bist_fails = s.int die Ob.sram_bist_fails := by simp only [State.int, State.val, hobjs]
      have heq : tested = bistFailed locked die w := if_neg Bool.false_ne_true
      exact heq ▸ wordTested_failed hlocked hfails
  exact ⟨tested, htested, by rw [hnext htested]⟩

/-- The end of a pass is counted, and leaves the lock and what the pass found (R359). -/
theorem bistEnd_keeps (s : State) (die : Nat) : ((s.bistEnd die).memOf die).bist.lock = (s.memOf die).bist.lock ∧ ((s.bistEnd die).memOf die).sram = (s.memOf die).sram ∧
    ((s.bistEnd die).memOf die).bist.next = 0 ∧ Counts s (s.bistEnd die) die Ob.sram_bist_passes 1 ∧ ObjsBut s (s.bistEnd die) (fun k => k = fullKey die Ob.sram_bist_passes) := by
  have hmem := memOf_of_mem (bump_mem s die Ob.sram_bist_passes 1) die
  have hobjs : (s.bistEnd die).objs = (s.bump die Ob.sram_bist_passes).objs := rfl
  have hcount : Counts s (s.bump die Ob.sram_bist_passes) die Ob.sram_bist_passes 1 := counts_bump _ _ _ _ (by decide)
  refine ⟨?_, ?_, ?_, counts_of_int hcount rfl ?_, objsBut_trans (bump_objs s die Ob.sram_bist_passes 1) (objsBut_of_eq hobjs)⟩
  · simp [State.bistEnd, hmem]
  · simp [State.bistEnd, hmem]
  · simp [State.bistEnd]
  · simp only [State.int, State.val, hobjs]

theorem wordTested : Claims.wordTested := by
  intro s die w ok hup hdie
  refine ⟨fun hmode hover hdue hnext hidle => ?_, fun hmode => ?_⟩
  · have hword : s.bistWord die ok = s.bistTest die w ok := by
      have hnow : ¬ s.now * 720720 < (s.memOf die).bist.nextAt * 1000 := by omega
      simp [State.bistWord, Nat.not_le.2 hdie, hmode, hover, hnow, hnext, hidle]
    obtain ⟨t, ht, heq⟩ := bistTest_eq s die w ok
    refine ⟨s.bistTest die w ok, congrArg Host.Outcome.next ((onDie_upDie hup _).trans hword), ?_⟩
    rw [heq]
    cases hlast : s.bistNext die (w + 1) with
    | some v => exact ⟨ht.lock, ht.sram, fun _ => ht.next, nofun, fun hbad => ⟨ht.fails hbad, ht.last hbad, ht.flag hbad⟩⟩
    | none =>
      obtain ⟨hlock, hsram, hzero, hcount, hobjs⟩ := bistEnd_keeps t die
      refine ⟨hlock.trans ht.lock, hsram.trans ht.sram, nofun, fun _ => ⟨counts_of_int hcount ht.passes.symm rfl, hzero⟩, fun hbad => ⟨?_, ?_, ?_⟩⟩
      · exact counts_of_int (ht.fails hbad) rfl (objsBut_int hobjs (fullKey_ne (by decide)))
      · exact (objsBut_nat hobjs (fullKey_ne (by decide))).trans (ht.last hbad)
      · exact (congrArg (bit · 0) (objsBut_nat hobjs (fullKey_ne (by decide)))).trans (ht.flag hbad)
  · refine congrArg _ ((onDie_upDie hup _).trans ?_)
    simp [State.bistWord, hmode]

/-- Settles O34: the word under test by what its test leaves, the modes by what a write of sram_bist_mode does. -/
theorem sramIsTestedInTheField : Obligations.SramIsTestedInTheField := ⟨wordTested, bistStops, bistRuns, bistOnce⟩

end Sys2Proof.Proofs
end

section
/-! DRAM: a round of arbitration and its order, the pick of a command, refresh, master reset (R362-R368). -/

namespace Sys2Proof.Proofs

open Sys2Proof.Machine Sys2Proof.Laws Sys2Proof.Claims

/-! A round and its order (R363, R364, R367) -/

theorem reqBefore_iff (s : State) (die : Nat) (a b : DramReq) : s.reqBefore die a b = true ↔
    s.reqPrio die b < s.reqPrio die a ∨ s.reqPrio die a = s.reqPrio die b ∧ (a.since < b.since ∨ a.since = b.since ∧ a.master < b.master) := by
  simp [State.reqBefore]

/-- One request is no later than another in the order of a round. -/
def NoLater (s : State) (die : Nat) (r q : DramReq) : Prop := s.reqPrio die q ≤ s.reqPrio die r ∧ (s.reqPrio die q = s.reqPrio die r → r.since ≤ q.since)

theorem noLater_refl (s : State) (die : Nat) (r : DramReq) : NoLater s die r r := ⟨Nat.le_refl _, fun _ => Nat.le_refl _⟩

theorem noLater_trans {s : State} {die : Nat} {p q r : DramReq} (h : NoLater s die p q) (h' : NoLater s die q r) : NoLater s die p r := by
  obtain ⟨hprio, hsince⟩ := h
  obtain ⟨hprio', hsince'⟩ := h'
  refine ⟨by omega, fun heq => ?_⟩
  have := hsince (by omega)
  have := hsince' (by omega)
  omega

theorem noLater_of_before {s : State} {die : Nat} {a b : DramReq} (h : s.reqBefore die a b = true) : NoLater s die a b := by
  obtain hprio | ⟨hprio, hsince⟩ := (reqBefore_iff s die a b).1 h
  · exact ⟨by omega, fun _ => by omega⟩
  · exact ⟨by omega, fun _ => by omega⟩

theorem noLater_of_not_before {s : State} {die : Nat} {a b : DramReq} (h : s.reqBefore die a b = false) : NoLater s die b a := by
  have hnot := mt (reqBefore_iff s die a b).2 (by simp [h])
  refine ⟨by omega, fun _ => by omega⟩

theorem roundOrder : Claims.roundOrder := by
  intro s die l
  suffices h : ∀ r, s.pickReq die l = some r → r ∈ l ∧ ∀ q, q ∈ l → NoLater s die r q from fun r => h r
  induction l with
  | nil => simp [State.pickReq]
  | cons x t ih =>
    intro r hr
    unfold State.pickReq at hr
    cases ht : s.pickReq die t with
    | none =>
      have hnil : t = [] := by
        cases t with
        | nil => rfl
        | cons y u =>
          unfold State.pickReq at ht
          split at ht
          · cases ht
          · split at ht <;> cases ht
      rw [ht] at hr
      obtain rfl := Option.some.inj hr
      subst hnil
      simp [noLater_refl]
    | some q =>
      obtain ⟨hmem, hfirst⟩ := ih q ht
      simp only [ht] at hr
      split at hr
      · next hbefore =>
        obtain rfl := Option.some.inj hr
        refine ⟨List.mem_cons_of_mem _ hmem, fun p hp => ?_⟩
        rcases List.mem_cons.1 hp with rfl | hp
        · exact noLater_of_before hbefore
        · exact hfirst p hp
      · next hbefore =>
        obtain rfl := Option.some.inj hr
        have hq := noLater_of_not_before (Bool.eq_false_iff.2 hbefore)
        refine ⟨List.mem_cons_self, fun p hp => ?_⟩
        rcases List.mem_cons.1 hp with rfl | hp
        · exact noLater_refl ..
        · exact noLater_trans hq (hfirst p hp)

theorem endBurst_dram (s : State) (die c : Nat) : ((s.endBurst die c).memOf die).dram = (s.memOf die).dram ∧ (s.endBurst die c).sent = s.sent := by
  unfold State.endBurst
  split
  · exact ⟨rfl, rfl⟩
  · exact ⟨by simp [State.setChan], rfl⟩

theorem crossPush_rest (s : State) (die : Nat) (x : Crossing) (n : Nat) : s.crossPush die x n = { s with xings := (s.crossPush die x n).xings } := by
  unfold State.crossPush
  split <;> rfl

theorem roundAt_dram (s : State) (die c : Nat) (reqs : List DramReq) : ((roundAt s die c reqs).memOf die).dram = (s.memOf die).dram ∧ (roundAt s die c reqs).sent = s.sent := by
  obtain ⟨hdram, hsent⟩ := endBurst_dram s die c
  have hcame : ((s.endBurst die c).setChan die c fun h => { h with waiting := h.waiting ++ reqs }).mem = (roundAt s die c reqs).mem := by
    rw [roundAt, crossWords_rest, crossPush_rest]
  refine ⟨?_, ?_⟩
  · rw [memOf_of_mem hcame.symm, ← hdram]
    simp [State.setChan]
  · rw [roundAt, crossWords_rest, crossPush_rest]
    exact hsent

/-- A channel's bytes are not its queues. -/
@[simp] theorem dram_setChan (s : State) (die c : Nat) (f : DramCh → DramCh) : ((s.setChan die c f).memOf die).dram = (s.memOf die).dram := by simp [State.setChan]

/-- A request granted, before its accesses enter the table. -/
def granted (b : State) (die c : Nat) (r : DramReq) : State := (b.setChan die c fun h => { h with waiting := h.waiting.erase r, holder := some r }).crossPop die (.dramOut c)

theorem granted_keeps (b : State) (die c : Nat) (r : DramReq) :
    (granted b die c r).chan die c = { b.chan die c with waiting := (b.chan die c).waiting.erase r, holder := some r } ∧ ((granted b die c r).memOf die).dram = (b.memOf die).dram ∧
      (granted b die c r).sent = b.sent := by
  have hmem : (granted b die c r).mem = (b.setChan die c fun h => { h with waiting := h.waiting.erase r, holder := some r }).mem := rfl
  exact ⟨by rw [chan_of_mem hmem, chan_setChan_same], by rw [memOf_of_mem hmem, dram_setChan], rfl⟩

/-- The accesses that enter the table leave the requests alone. -/
theorem enter_keeps (h : DramCh) (es : List DramEnt) : (h.enter es).holder = h.holder ∧ (h.enter es).waiting = h.waiting := by
  suffices hfold : ∀ k : DramCh, (es.foldl (fun h e => { h with table := h.table ++ [{ e with seq := h.seq, burst := h.burst }], seq := h.seq + 1 }) k).holder = k.holder ∧
      (es.foldl (fun h e => { h with table := h.table ++ [{ e with seq := h.seq, burst := h.burst }], seq := h.seq + 1 }) k).waiting = k.waiting from hfold _
  induction es with
  | nil => exact fun _ => ⟨rfl, rfl⟩
  | cons e es ih => exact fun k => ih _

theorem roundGrants : Claims.roundGrants := by
  intro s b die c reqs hup hc hb
  have hgo : (s.boot.held || s.boot.scan || !(s.alive die) || decide (2 ≤ c)) = false := by
    obtain ⟨⟨hheld, hscan⟩, halive⟩ := hup
    simp [hheld, hscan, halive, hc]
  refine ⟨fun r hfit hgrants hpick hroom => ?_, fun ⟨q, hq, hbad⟩ => ?_⟩
  · have hall : (reqs.all fun r => s.reqFitted die c r) = true := List.all_eq_true.2 hfit
    refine ⟨s.dramRound die c reqs, by simp [exec, execDramArbitrationRound, hgo, hall], ?_⟩
    have hround : s.dramRound die c reqs = ((granted b die c r).setChan die c fun h => h.enter ((granted b die c r).accesses die c r)).settle die c := by
      subst hb
      simp only [State.dramRound, roundAt] at hgrants hpick hroom ⊢
      simp only [hgrants, Bool.not_true, Bool.false_eq_true, if_false, hpick, Nat.not_lt.2 hroom]
      rfl
    obtain ⟨hdram, hsent⟩ := roundAt_dram s die c reqs
    obtain ⟨hchan, hbytes, hout⟩ := granted_keeps b die c r
    have hmoved := queuesMoved_settle ((granted b die c r).setChan die c fun h => h.enter ((granted b die c r).accesses die c r)) die c
    obtain ⟨hholder, hwaiting⟩ := enter_keeps ((granted b die c r).chan die c) ((granted b die c r).accesses die c r)
    rw [hround]
    refine ⟨?_, ?_, ?_, ?_⟩
    · rw [hmoved.holder, chan_setChan_same, hholder, hchan]
    · rw [hmoved.waiting, chan_setChan_same, hwaiting, hchan]
    · rw [hmoved.dram, dram_setChan, hbytes, hb, hdram]
    · rw [hmoved.rest]
      exact hout.trans (hb ▸ hsent)
  · have hall : (reqs.all fun r => s.reqFitted die c r) = false := List.all_eq_false.2 ⟨q, hq, by simp [hbad]⟩
    simp [exec, execDramArbitrationRound, hgo, hall]

/-! Refresh and master reset (R362, R368) -/

theorem openRow_setRow_same (s : State) (die c b : Nat) (r : Option Nat) : (s.setRow die c b r).openRow die c b = r := by simp [State.openRow, State.setRow]

theorem openRow_setRow_other (s : State) (die c : Nat) {b n : Nat} (r : Option Nat) (h : n ≠ b) : (s.setRow die c b r).openRow die c n = s.openRow die c n := by
  simp [State.openRow, State.setRow, smGet_smPut_other _ _ _ h]

theorem bankRefreshed : Claims.bankRefreshed := by
  intro s die c b hup hb
  refine ⟨fun hgrants => ?_, fun hself => ?_⟩
  · have hrow : s.dramRefresh die c b = s.setRow die c b none := by simp [State.dramRefresh, hgrants, hb]
    refine ⟨s.setRow die c b none, congrArg Host.Outcome.next ((onDie_upDie hup _).trans hrow), openRow_setRow_same .., fun n hn => openRow_setRow_other s die c none hn, dram_setChan .., ?_, rfl⟩
    simp [State.setRow]
  · refine congrArg _ ((onDie_upDie hup _).trans ?_)
    simp [State.dramRefresh, State.grants, hself]

theorem masterIsReset : Claims.masterIsReset := by
  intro s die c master beats hup
  refine ⟨s.masterReset die c master beats, congrArg Host.Outcome.next (onDie_upDie hup _), ?_⟩
  unfold State.masterReset
  extract_lets h mine from_ part fix
  have hmoved := queuesMoved_settle (s.setChan die c fun h => { h with
    holder := if mine then none else h.holder, waiting := h.waiting.filter fun r => r.master ≠ master, table := (h.table.filter fun e => e.master ≠ master || part e).map fix, wq := h.wq.map fix,
    banks := h.banks.map fun (b : Nat × List DramEnt) => (b.1, b.2.map fun e => if e.master = master && e.data.isNone then { e with drop_ := true } else fix e) }) die c
  refine ⟨?_, fun hmine => ?_, fun r hr hother => ?_, ?_, ?_⟩
  · rw [hmoved.waiting, chan_setChan_same]
  · rw [hmoved.holder, chan_setChan_same]
    cases hr : (s.chan die c).holder with
    | none => simp
    | some r => simp [mine, h, hr, hmine r hr]
  · rw [hmoved.holder, chan_setChan_same]
    simp [mine, h, hr, hother]
  · rw [hmoved.dram, dram_setChan]
  · rw [hmoved.rest]
    rfl

/-! The pick of a command (R365) -/

/-- Where an address is stored goes by inline ECC and by the channels that run. -/
theorem dramCell_of {s t : State} {die : Nat} (hecc : (t.memOf die).ecc = (s.memOf die).ecc) (hstates : ∀ n, n < 2 → t.chState die n = s.chState die n) (a : Nat) :
    t.dramCell die a = s.dramCell die a := by
  simp only [State.dramCell, State.dramMap, State.onlyChan, hecc, hstates 0 (by decide), hstates 1 (by decide)]

theorem rowOf_of {s t : State} {die : Nat} (hecc : (t.memOf die).ecc = (s.memOf die).ecc) (a : Nat) : t.rowOf die a = s.rowOf die a := by simp only [State.rowOf, State.dramMap, hecc]

theorem ecc_setChan (s : State) (die c : Nat) (f : DramCh → DramCh) : ((s.setChan die c f).memOf die).ecc = (s.memOf die).ecc := by simp [State.setChan]

theorem sram_setChan (s : State) (die c : Nat) (f : DramCh → DramCh) : ((s.setChan die c f).memOf die).sram = (s.memOf die).sram := by simp [State.setChan]

/-- A write stored without inline ECC: its enabled bytes are the memory's. -/
theorem dramAccess_write {s : State} {die c ecc : Nat} {e : DramEnt} {bs : List (Option Byte)} (hecc : (s.memOf die).ecc = false) (hdata : e.data = some bs) :
    s.dramAccess die c ecc e = s.setMem die fun m => { m with dram := dramPoke m.dram (s.dramCell die e.addr) bs } := by simp [State.dramAccess, State.dramStore, hecc, hdata]

theorem issueHit_write {s : State} {die c b ecc : Nat} {e : DramEnt} {bs : List (Option Byte)} (hecc : (s.memOf die).ecc = false) (hdata : e.data = some bs) :
    ((s.issueHit die c b ecc e).memOf die).dram = dramPoke (s.memOf die).dram (s.dramCell die e.addr) bs ∧ ((s.issueHit die c b ecc e).memOf die).sram = (s.memOf die).sram := by
  unfold State.issueHit
  extract_lets n taken
  have hcell : taken.dramCell die e.addr = s.dramCell die e.addr := dramCell_of (ecc_setChan ..) (fun _ _ => rfl) _
  have hmoved := queuesMoved_settle (taken.dramAccess die c ecc e) die c
  rw [hmoved.dram, hmoved.sram, dramAccess_write ((ecc_setChan ..).trans hecc) hdata, memOf_setMem_same, hcell]
  exact ⟨by rw [dram_setChan], sram_setChan ..⟩

/-- A bank that comes up in the rotating search. -/
theorem mem_order (rot : Nat) {b : Nat} (hb : b < 16) : b ∈ (List.range 16).map fun i => (rot + i + 1) % 16 :=
  List.mem_map.2 ⟨(b + 15 * (rot + 1)) % 16, List.mem_range.2 (Nat.mod_lt _ (by decide)), by omega⟩

/-- A search that only one element ends. -/
theorem findSome_only {α β : Type} {l : List α} {f : α → Option β} {x : α} {y : β} (hx : x ∈ l) (hy : f x = some y) (hother : ∀ a, a ≠ x → f a = none) : l.findSome? f = some y := by
  cases hfound : l.findSome? f with
  | none => exact absurd (List.findSome?_eq_none_iff.1 hfound x hx) (by simp [hy])
  | some z =>
    obtain ⟨a, _, ha⟩ := List.exists_of_findSome?_eq_some hfound
    by_cases hax : a = x
    · rw [← ha, hax, hy]
    · rw [hother a hax] at ha
      cases ha

/-- What the rotating search finds at a bank that offers an entry: a row to open or the open one to close. -/
def rowAction (s : State) (die c b : Nat) (t : SlotTiming) (e : DramEnt) : Option (Nat × Option Nat) := match s.openRow die c b with
  | some r => if r ≠ s.rowOf die e.addr then some (b, none) else none
  | none => if t.actsInFaw < 4 && t.trrdOk.contains b then some (b, some (s.rowOf die e.addr)) else none

/-- With one candidate the search ends at its bank, where its row may be opened or the open one closed. -/
theorem rotate_one {s : State} {die c b : Nat} {t : SlotTiming} {e : DramEnt} {r : Option Nat} (hb : b < 16) (hact : rowAction s die c b t e = some (b, r)) :
    s.rotate die c t [(b, e)] = (s.setRow die c b r).setChan die c fun h => { h with rot := b } := by
  unfold State.rotate
  extract_lets order act
  have hfound : act = some (b, r) := by
    refine findSome_only (mem_order _ hb) ?_ fun a ha => ?_
    · rw [← hact]
      simp only [List.find?_cons, decide_true]
      rfl
    · simp [Ne.symm ha]
  rw [hfound]

theorem commandIssued : Claims.commandIssued := by
  intro s a die c b t e hup ha
  have hmoved : QueuesMoved s a die c := ha ▸ queuesMoved_settle s die c
  have hnext : ∀ x : State, s.commandPick die c t = x → exec (.commandPick die c t) s = .next x := fun x hx => congrArg Host.Outcome.next ((onDie_upDie hup _).trans hx)
  have hrow : a.rowOf die e.addr = s.rowOf die e.addr := rowOf_of hmoved.ecc _
  have hpick : s.chState die c = 1 → offered a die c t = [(b, e)] → s.commandPick die c t = if a.isHit die c b e then a.issueHit die c b t.ecc e else a.rotate die c t [(b, e)] := fun hactive hoffer => by
    unfold State.commandPick
    rw [if_neg (not_not_intro hactive)]
    extract_lets settled cands
    have hs : settled = a := ha.symm
    have hc : cands = [(b, e)] := (congrArg (offered · die c t) hs).trans hoffer
    rw [hc, hs]
    cases hhit : a.isHit die c b e <;> simp [hhit]
  have hopened : ∀ r, ((a.setRow die c b r).setChan die c fun h => { h with rot := b }).openRow die c b = r ∧ (((a.setRow die c b r).setChan die c fun h => { h with rot := b }).chan die c).rot = b ∧
      ((((a.setRow die c b r).setChan die c fun h => { h with rot := b })).memOf die).dram = (s.memOf die).dram := fun r =>
    ⟨by simp [State.openRow, State.setRow], by simp, by rw [dram_setChan, State.setRow, dram_setChan, hmoved.dram]⟩
  refine ⟨fun hactive hoffer hhit hecc bs hdata => ?_, fun hactive hoffer hmiss hb hclosed hacts hok => ?_, fun r hactive hoffer hmiss hb hopen hrows => ?_, fun hidle => ?_⟩
  · obtain ⟨hdram, hsram⟩ := issueHit_write (s := a) (c := c) (b := b) (ecc := t.ecc) (hmoved.ecc.trans hecc) hdata
    have hcell : a.dramCell die e.addr = s.dramCell die e.addr := dramCell_of hmoved.ecc (fun n hn => hmoved.states (by simp [hactive]) n (.inl hn)) _
    refine ⟨_, hnext _ ((hpick hactive hoffer).trans (if_pos hhit)), ?_, ?_⟩
    · rw [hdram, hmoved.dram, hcell]
    · rw [hsram, hmoved.sram]
  · have hrot : a.rotate die c t [(b, e)] = _ := rotate_one (r := some (s.rowOf die e.addr)) hb (by simp [rowAction, hclosed, hacts, hok, hrow])
    exact ⟨_, hnext _ ((hpick hactive hoffer).trans ((if_neg (by simp [hmiss])).trans hrot)), hopened _⟩
  · have hrot : a.rotate die c t [(b, e)] = _ := rotate_one (r := none) hb (by simp [rowAction, hopen, hrows, hrow])
    obtain ⟨hrownone, _, hdram⟩ := hopened none
    exact ⟨_, hnext _ ((hpick hactive hoffer).trans ((if_neg (by simp [hmiss])).trans hrot)), hrownone, hdram⟩
  · exact hnext _ (by simp [State.commandPick, hidle])

/-- Settles O35: by what the queues of a channel leave alone as they move on. -/
theorem dramGrantsAndIssues : Obligations.DramGrantsAndIssues := ⟨roundGrants, roundOrder, commandIssued, bankRefreshed, masterIsReset⟩

end Sys2Proof.Proofs
end

section
/-! DRAM self-refresh, the drift of the delays and the maintenance sweep (R372-R376). -/

namespace Sys2Proof.Proofs

open Sys2Proof.Machine Sys2Proof.Laws Sys2Proof.Claims

/-! A run of objects written one by one -/

section
variable {α : Type} {die base : Nat} {g : α → Nat → Int → Int} {f : α × Nat → State → State}

/-- Objects written from place `k` of a run on leave those before it. -/
theorem int_each_puts_before (hf : ∀ e s, (f e s).objs = (s.put die (base + e.2) (g e.1 e.2 (s.int die (base + e.2)))).objs) (l : List α) :
    ∀ {k : Nat} {s : State} {i : Nat}, i < k → (s.each (l.zipIdx k) f).int die (base + i) = s.int die (base + i) := by
  induction l with
  | nil => exact fun _ => rfl
  | cons a l ih =>
    intro k s i hi
    have hrest := ih (k := k + 1) (s := f (a, k) s) (i := i) (by omega)
    refine hrest.trans ((int_of_objs (hf (a, k) s) die (base + i)).trans ?_)
    exact int_put_other s die _ die _ _ (by simp only [fullKey]; omega)

/-- Each object of the run takes the value made of what it had and of its item. -/
theorem int_each_puts (hf : ∀ e s, (f e s).objs = (s.put die (base + e.2) (g e.1 e.2 (s.int die (base + e.2)))).objs) (l : List α) :
    ∀ {k : Nat} {s : State} {i : Nat} {a : α}, l[i]? = some a → (s.each (l.zipIdx k) f).int die (base + (k + i)) = g a (k + i) (s.int die (base + (k + i))) := by
  induction l with
  | nil => simp
  | cons b l ih =>
    intro k s i a ha
    have hone : ∀ j, (f (b, k) s).int die (base + j) = (s.put die (base + k) (g b k (s.int die (base + k)))).int die (base + j) := fun j => int_of_objs (hf (b, k) s) die _
    cases i with
    | zero =>
      obtain rfl : b = a := by simpa using ha
      refine (int_each_puts_before hf l (by omega : k + 0 < k + 1)).trans ((hone _).trans ?_)
      exact int_put_same ..
    | succ i =>
      have hrest := ih (k := k + 1) (s := f (b, k) s) (i := i) (by simpa using ha)
      rw [show k + 1 + i = k + (i + 1) by omega] at hrest
      refine hrest.trans (congrArg _ ((hone _).trans ?_))
      exact int_put_other s die _ die _ _ (by simp only [fullKey]; omega)

/-- No object outside the run changes. -/
theorem objsBut_each_puts (hf : ∀ e s, (f e s).objs = (s.put die (base + e.2) (g e.1 e.2 (s.int die (base + e.2)))).objs) (l : List α) :
    ∀ {k : Nat} {s : State}, ObjsBut s (s.each (l.zipIdx k) f) fun j => ∃ i, i < k + l.length ∧ j = fullKey die (base + i) := by
  induction l with
  | nil => exact objsBut_refl _ _
  | cons a l ih =>
    intro k s
    have hone : ObjsBut s (f (a, k) s) fun j => ∃ i, i < k + (l.length + 1) ∧ j = fullKey die (base + i) :=
      objsBut_mono (objsBut_trans (objsBut_put s die (base + k) _) (objsBut_of_eq (hf (a, k) s))) fun j hj => ⟨k, by omega, hj⟩
    exact objsBut_trans hone (objsBut_mono (ih (k := k + 1)) fun j ⟨i, hi, hj⟩ => ⟨i, by simp only [List.length_cons]; omega, hj⟩)

end

/-! Entry (R372) -/

theorem chState_bump (s : State) {die c k : Nat} (h : k = Ob.dram_sr_entries ∨ k = Ob.dram_sr_refused) : (s.bump die (k + c)).chState die c = s.chState die c := by
  refine bump_nat_other _ _ ?_
  rcases h with rfl | rfl <;> simp only [fullKey, Ob.dram_state, Ob.dram_sr_entries, Ob.dram_sr_refused] <;> omega

theorem counts_sr {k c : Nat} (hc : c < 2) (h : k = Ob.dram_sr_entries ∨ k = Ob.dram_sr_refused) (s : State) (die v : Nat) : Counts s ((s.setChState die c v).bump die (k + c)) die (k + c) 1 := by
  have htop : ∀ k, (k = Ob.dram_sr_entries ∨ k = Ob.dram_sr_refused) → ∀ c, c < 2 → (objTy (k + c)).bounds.2 = 4294967295 := by
    rintro k (rfl | rfl) <;> decide
  refine counts_of_int (counts_bump _ die (k + c) 1 (htop k h c hc)) (int_put_other _ _ _ _ _ _ ?_).symm rfl
  rcases h with rfl | rfl <;> simp only [fullKey, Ob.dram_state, Ob.dram_sr_entries, Ob.dram_sr_refused] <;> omega

theorem chState_setChState (s : State) (die c v : Nat) : (s.setChState die c v).chState die c = v := nat_put_same s die (Ob.dram_state + c) v

/-- A channel that enters self-refresh: its state, its rows closed, and the entry counted. -/
theorem srChan_enters (s : State) {die c : Nat} (hc : c < 2) :
    (s.srChan die c).chState die c = 3 ∧ Counts s (s.srChan die c) die (Ob.dram_sr_entries + c) 1 ∧ (∀ b, (s.srChan die c).openRow die c b = none) ∧
      ((s.srChan die c).memOf die).dram = (s.memOf die).dram := by
  refine ⟨(chState_bump _ (.inl rfl)).trans (chState_setChState s die c 3), counts_sr hc (.inl rfl) s die 3, fun b => ?_, ?_⟩
  · simp [State.openRow, State.srChan, smGet]
  · exact (dram_setChan ..).trans (congrArg MemSt.dram (memOf_of_mem (by simp [State.setChState]) die))

theorem refreshEntered : Claims.refreshEntered := by
  intro s die c hup hc hgrants
  have hnext : ∀ x : State, s.srEntry die c = x → exec (.dramSelfRefreshEntry die c) s = .next x := fun x hx => congrArg Host.Outcome.next ((onDie_upDie hup _).trans hx)
  refine ⟨fun hidle hpast htol => ?_, fun hidle hpast htol hnew => ?_, fun hidle => ?_⟩
  · exact ⟨_, hnext _ (by simp [State.srEntry, hgrants, hidle, hpast, htol]), srChan_enters s hc⟩
  · refine ⟨_, hnext _ (by simp only [State.srEntry, hgrants, hidle, hpast, htol, hnew, Bool.not_true, Bool.or_self, Bool.false_eq_true, if_false]; rfl), ?_, ?_, ?_⟩
    · exact (chState_bump _ (.inr rfl)).trans (chState_setChState s die c 2)
    · exact counts_sr hc (.inr rfl) s die 2
    · rw [chan_setChan_same]
  · exact hnext _ (by simp [State.srEntry, hidle])

/-! Exit (R373, R374) -/

/-- The pending delays of a channel written to its registers. -/
theorem writeDelays_writes (s : State) (die c : Nat) : (∀ i p, (s.chan die c).pend[i]? = some p → (s.writeDelays die c).int die (atIndex Ob.dram_dly_rd c + i) =
      clampInt 0 (if i < 8 then 65535 else 255) (s.int die (atIndex Ob.dram_dly_rd c + i) + p)) ∧
    ObjsBut s (s.writeDelays die c) (fun j => ∃ i, i < (s.chan die c).pend.length ∧ j = fullKey die (atIndex Ob.dram_dly_rd c + i)) ∧
    (s.writeDelays die c).chan die c = { s.chan die c with pend := [], pendAt := 0 } ∧ ((s.writeDelays die c).memOf die).dram = (s.memOf die).dram := by
  have hmem : ∀ (l : List (Int × Nat)) (t : State), (t.each l fun e s => s.put die (atIndex Ob.dram_dly_rd c + e.2) (clampInt 0 (if e.2 < 8 then 65535 else 255) (s.int die (atIndex Ob.dram_dly_rd c + e.2) + e.1))).mem = t.mem := fun l => by
    induction l with
    | nil => exact fun _ => rfl
    | cons e l ih => exact fun t => ih _
  unfold State.writeDelays
  dsimp only
  refine ⟨fun i p hp => ?_, ?_, ?_, ?_⟩
  · refine (int_of_objs (setChan_objs ..) die _).trans ?_
    simpa using int_each_puts (die := die) (base := atIndex Ob.dram_dly_rd c) (g := fun p i v => clampInt 0 (if i < 8 then 65535 else 255) (v + p)) (fun _ _ => rfl) (s.chan die c).pend (k := 0) (s := s) hp
  · refine objsBut_trans ?_ (objsBut_of_eq (setChan_objs ..))
    simpa using objsBut_each_puts (die := die) (base := atIndex Ob.dram_dly_rd c) (g := fun p i v => clampInt 0 (if i < 8 then 65535 else 255) (v + p)) (fun _ _ => rfl) (s.chan die c).pend (k := 0) (s := s)
  · rw [chan_setChan_same, chan_of_mem (hmem _ s)]
  · rw [dram_setChan, memOf_of_mem (hmem _ s)]

/-- A channel that leaves self-refresh is active, with its pending delays written. -/
theorem leaveSr_leaves (s : State) (die c : Nat) : (s.leaveSr die c).chState die c = 1 ∧ (s.leaveSr die c).chan die c = { s.chan die c with pend := [], pendAt := 0, idleAt := s.now, refused := false } ∧
    ((s.leaveSr die c).memOf die).dram = (s.memOf die).dram ∧
    ObjsBut s (s.leaveSr die c) (fun j => (∃ i, i < (s.chan die c).pend.length ∧ j = fullKey die (atIndex Ob.dram_dly_rd c + i)) ∨ j = fullKey die (Ob.dram_state + c)) := by
  obtain ⟨-, hobjs, hchan, hdram⟩ := writeDelays_writes s die c
  refine ⟨chState_setChState .., ?_, ?_, ?_⟩
  · rw [State.leaveSr, chan_setChan_same, chan_of_mem (s := s.writeDelays die c) (t := (s.writeDelays die c).setChState die c 1) rfl, hchan]
  · rw [State.leaveSr, dram_setChan, memOf_of_mem (s := s.writeDelays die c) (t := (s.writeDelays die c).setChState die c 1) rfl, hdram]
  · exact objsBut_trans (objsBut_mono hobjs fun _ => .inl) (objsBut_mono (objsBut_put _ die (Ob.dram_state + c) _) fun _ => .inr)

theorem refreshLeft : Claims.refreshLeft := by
  intro s die c hup hc hself
  have hnext : ∀ x : State, s.srExit die c = x → exec (.dramSelfRefreshExit die c) s = .next x := fun x hx => congrArg Host.Outcome.next ((onDie_upDie hup _).trans hx)
  refine ⟨fun hwhy hlen => ?_, fun hwait hlow hlaunch => ?_⟩
  · obtain ⟨hstate, hchan, hdram, -⟩ := leaveSr_leaves s die c
    obtain ⟨hwrites, -⟩ := writeDelays_writes s die c
    have hgo : s.srExit die c = s.leaveSr die c := by
      rcases hwhy with h | h <;> simp [State.srExit, hself, h]
    refine ⟨_, hnext _ hgo, hstate, by rw [hchan], by rw [hchan], by rw [hchan], fun i p hp => ?_, hdram⟩
    have hi : i < (s.chan die c).pend.length := (List.getElem?_eq_some_iff.1 hp).1
    refine (int_put_other _ die (Ob.dram_state + c) die _ 1 ?_).trans (hwrites i p hp)
    simp only [fullKey, atIndex, Ob.dram_dly_rd, Ob.dram_state]
    omega
  · exact hnext _ (by simp [State.srExit, hwait, hlaunch, Nat.not_le.2 hlow])

/-! Drift (R374) -/

theorem driftChecked : Claims.driftChecked := by
  intro s die c drift hup hdie hfailed huntrained
  refine ⟨fun hdue => ?_, fun hdue => ?_⟩
  · have hgo : s.driftCheck die c drift = s.setChan die c fun h =>
        let d := (List.range 12).map fun i => h.pend.getD i 0 + (if i < 8 then drift.getD i 0 else 0)
        if d.all (· = 0) then { h with driftAt := some s.now, pend := [] } else { h with driftAt := some s.now, pend := d, pendAt := if h.pend.isEmpty then s.now else h.pendAt } := by
      simp [State.driftCheck, Nat.not_le.2 hdie, hfailed, huntrained, hdue]
    refine ⟨s.driftCheck die c drift, congrArg Host.Outcome.next (onDie_upDie hup _), ?_⟩
    rw [hgo]
    refine ⟨?_, ?_, fun ⟨i, hi, hmoved⟩ => ?_, dram_setChan .., rfl⟩
    · rw [chan_setChan_same]
      dsimp only
      split <;> rfl
    · rw [chan_setChan_same]
      dsimp only
      split
      · exact .inl rfl
      · exact .inr rfl
    · have hnot : ((List.range 12).map fun i => (s.chan die c).pend.getD i 0 + (if i < 8 then drift.getD i 0 else 0)).all (· = 0) = false :=
        List.all_eq_false.2 ⟨_, List.mem_map.2 ⟨i, List.mem_range.2 (by omega), rfl⟩, by simpa [hi] using hmoved⟩
      rw [chan_setChan_same]
      dsimp only
      rw [if_neg (by rw [hnot]; decide)]
      exact ⟨by simp, by simp [List.isEmpty_iff]⟩
  · refine congrArg _ ((onDie_upDie hup _).trans ?_)
    simp [State.driftCheck, hdue]

/-! A forced exit (R374) -/

/-- The objects that the accesses of a channel may change as its queues drain: its counters, its state and the flags with their report (R364, R372, R378). -/
def drainKey (die c k : Nat) : Prop :=
  (k = fullKey die (Ob.dram_wq_forwards + c) ∨ k = fullKey die (Ob.dram_state + c) ∨ k = fullKey die (Ob.dram_ecc_corrected + c) ∨ k = fullKey die (Ob.dram_ecc_uncorrected + c) ∨
    k = fullKey die Ob.dram_flags) ∨ reportKey k

theorem dramGive_objs (s : State) (die : Nat) (e : DramEnt) (bs : List Byte) (poison : Bool) : (s.dramGive die e bs poison).objs = s.objs := by
  unfold State.dramGive
  split
  · rfl
  · rw [crossWords_rest, crossWords_rest]
    rfl

theorem dramStore_objs (s : State) (die a : Nat) (d : List (Option Byte)) (old : List Byte) : (s.dramStore die a d old).objs = s.objs := by
  unfold State.dramStore
  split <;> rfl

theorem eccCount_objs (s : State) (die c ecc : Nat) : ObjsBut s (s.eccCount die c ecc) (drainKey die c) := by
  unfold State.eccCount
  split_ifs
  · exact objsBut_refl _ _
  · exact objsBut_mono (bump_objs s die (Ob.dram_ecc_corrected + c) 1) fun _ h => .inl (.inr (.inr (.inl h)))
  · refine objsBut_trans (objsBut_mono (bump_objs s die (Ob.dram_ecc_uncorrected + c) 1) fun _ h => .inl (.inr (.inr (.inr (.inl h))))) (objsBut_mono (raise_objs _ die Ob.dram_flags 0 c) fun _ h => ?_)
    exact h.imp (fun h => .inr (.inr (.inr (.inr h)))) id

theorem eccBytes_objs (s : State) (die a n ecc : Nat) : (s.eccBytes die a n ecc).1.objs = s.objs := by
  unfold State.eccBytes
  split <;> rfl

theorem dramAccess_objs (s : State) (die c ecc : Nat) (e : DramEnt) : ObjsBut s (s.dramAccess die c ecc e) (drainKey die c) := by
  unfold State.dramAccess
  split
  · split
    · exact objsBut_of_eq (dramStore_objs ..)
    · exact objsBut_of_eq (dramGive_objs ..)
  · extract_lets checked
    have hchecked : checked.objs = s.objs := rfl
    split
    · split
      · exact objsBut_of_eq ((dramStore_objs ..).trans hchecked)
      · exact objsBut_trans (objsBut_of_eq ((dramStore_objs ..).trans ((eccBytes_objs ..).trans hchecked))) (eccCount_objs _ die c ecc)
    · exact objsBut_trans (objsBut_of_eq ((dramGive_objs ..).trans ((eccBytes_objs ..).trans hchecked))) (eccCount_objs _ die c ecc)

theorem settle_objs (s : State) (die c : Nat) : ObjsBut s (s.settle die c) (drainKey die c) :=
  objsBut_mono (queuesMoved_settle s die c).objs fun _ h => .inl (h.imp id .inl)

theorem flushBanks_objs (s : State) (die c : Nat) : ObjsBut s (s.flushBanks die c) (drainKey die c) := by
  have hempty : ObjsBut s (s.setChan die c fun h => { h with banks := [] }) (drainKey die c) := objsBut_of_eq rfl
  exact each_of (P := fun t => ObjsBut s t (drainKey die c)) _ _ (fun e t ht => objsBut_trans ht (dramAccess_objs t die c 0 e)) hempty

theorem flushChan_objs (die c n : Nat) : ∀ s : State, ObjsBut s (s.flushChan die c n) (drainKey die c) := by
  induction n with
  | zero => exact fun s => objsBut_refl _ _
  | succ n ih =>
    intro s
    have hone : ObjsBut s ((s.flushBanks die c).settle die c) (drainKey die c) := objsBut_trans (flushBanks_objs s die c) (settle_objs _ die c)
    unfold State.flushChan
    dsimp only
    split
    · exact hone
    · exact objsBut_trans hone (ih _)

theorem endBurst_objs (s : State) (die c : Nat) : (s.endBurst die c).objs = s.objs := by
  unfold State.endBurst
  split <;> rfl

theorem not_drainKey_entries {die c : Nat} (hc : c < 2) : ¬ drainKey die c (fullKey die (Ob.dram_sr_entries + c)) := by
  have hplace : ∀ c, c < 2 → ¬ reportPlaces (Ob.dram_sr_entries + c) := by unfold reportPlaces; decide
  have hkey : Ob.dram_sr_entries + c < 16777216 := by simp only [Ob.dram_sr_entries]; omega
  rintro (h | h)
  · simp only [fullKey, Ob.dram_sr_entries, Ob.dram_wq_forwards, Ob.dram_state, Ob.dram_ecc_corrected, Ob.dram_ecc_uncorrected, Ob.dram_flags] at h
    omega
  · exact not_reportKey_full (hplace c hc) hkey h

theorem exitForced : Claims.exitForced := by
  intro s die c hup hc
  have hnext : ∀ x : State, s.forcedExit die c = x → exec (.dramForcedExit die c) s = .next x := fun x hx => congrArg Host.Outcome.next ((onDie_upDie hup _).trans hx)
  refine ⟨fun hpend hgrants htol => ?_, fun hpend => hnext _ (by simp [State.forcedExit, hpend])⟩
  have hgo : s.forcedExit die c = (((s.endBurst die c).flushChan die c 2200).srChan die c).leaveSr die c := by simp only [State.forcedExit, hpend, hgrants, htol, Bool.and_self, if_true]
  have hflushed := objsBut_trans (objsBut_of_eq (p := drainKey die c) (endBurst_objs s die c)) (flushChan_objs die c 2200 _)
  generalize (s.endBurst die c).flushChan die c 2200 = u at hgo hflushed
  obtain ⟨-, hcount, -⟩ := srChan_enters u hc
  obtain ⟨hstate, hchan, -, hleft⟩ := leaveSr_leaves (u.srChan die c) die c
  refine ⟨_, hnext _ hgo, hstate, by rw [hchan], counts_of_int hcount (objsBut_int hflushed (not_drainKey_entries hc)).symm (objsBut_int hleft ?_)⟩
  rintro (⟨i, -, h⟩ | h) <;> simp only [fullKey, atIndex, Ob.dram_sr_entries, Ob.dram_dly_rd, Ob.dram_state] at h <;> omega

theorem delayFlagged : Claims.delayFlagged := by
  intro s die c hup
  have hnext : ∀ x : State, s.dlyPending die c = x → exec (.dlyPending die c) s = .next x := fun x hx => congrArg Host.Outcome.next ((onDie_upDie hup _).trans hx)
  refine ⟨fun hpend => ⟨_, hnext _ (by simp [State.dlyPending, hpend]; rfl), raise_on _ _ _ _ _ not_reportKey_full, raise_mem ..⟩, fun hpend => hnext _ (by simp [State.dlyPending, hpend])⟩

/-! The maintenance sweep (R376) -/

/-- A write of 1 to dram_maint_sweep. -/
theorem sweep_exec {s a : State} {m : Msg} {d : ObjDef} {die : Nat} (h : WritesOne s m d die) (hkey : m.key = Ob.dram_maint_sweep) (hwo : d.acc = .wo) (ha : a = s.arrived m)
    (hone : a.clampVal die m.key d (decodeVal d.ty m.payload) = 1) : exec (.dramMaintSweep m) s = .next ((a.sweepStart die).answer 0x02 m 0 d.ty.code []) := by
  subst ha
  refine congrArg Host.Outcome.next (corrixFor_write_one h (by simp [hkey]) (by rw [hkey]; decide) ?_)
  have hunit := h.unit
  simp only [State.writeOne, hunit, Bool.false_eq_true, if_false, hwo, hone]
  rw [hkey]
  rfl

theorem sweepBegins : Claims.sweepBegins := by
  intro s a m d die h hkey hwo ha hone
  have hexec := sweep_exec h hkey hwo ha hone
  refine ⟨fun hstopped hidle => ?_, fun hstopped hbusy => ?_, fun hrunning => ?_⟩
  · have hstart : a.sweepStart die = (a.put die Ob.dram_sweep_status 1).setMem die fun m => { m with sweepAt := a.now } := by simp [State.sweepStart, hstopped, hidle]
    refine ⟨a.sweepStart die, hexec, ?_⟩
    rw [hstart]
    exact ⟨(nat_of_objs rfl ..).trans (nat_put_same a die Ob.dram_sweep_status 1), by rw [memOf_setMem_same], objsBut_put a die Ob.dram_sweep_status 1, rfl⟩
  · rw [hexec]
    simp [State.sweepStart, hstopped, hbusy]
  · rw [hexec]
    simp [State.sweepStart, hrunning]

/-- One channel of a sweep that ends: the offsets of its lanes kept, its centres pending. -/
def sweepChan (die : Nat) (found : List SweepLane) (c : Nat) (s : State) : State :=
  (s.each ((found.drop (4 * c)).take 4).zipIdx fun e s => s.keep die (atIndex Ob.dram_load_offset c + e.2) (clampInt (-64) 64 e.1.offset)).setChan die c fun h =>
    if ((sweepDelays ((found.drop (4 * c)).take 4)).zipIdx.map fun e => e.1 - s.int die (atIndex Ob.dram_dly_rd c + e.2)).all (· = 0) then { h with pend := [] }
    else { h with pend := (sweepDelays ((found.drop (4 * c)).take 4)).zipIdx.map fun e => e.1 - s.int die (atIndex Ob.dram_dly_rd c + e.2), pendAt := if h.pend.isEmpty then s.now else h.pendAt }

/-- An item of a list of which all are 0 or of the empty list is 0. -/
theorem getD_unless_zeros {p : List Int} {i : Nat} {v : Int} (h : p[i]? = some v) : (if p.all (· = 0) then [] else p).getD i 0 = v := by
  split
  · next hall =>
    have := List.all_eq_true.1 hall v (List.mem_of_getElem? h)
    simp_all
  · simp [h]

theorem sweepDelays_rd {l : List SweepLane} {i : Nat} {e : SweepLane} (h : l[i]? = some e) : (sweepDelays l)[i]? = some ((e.rd : Int) + clampInt (-64) 64 e.offset) := by
  have hi : i < l.length := (List.getElem?_eq_some_iff.1 h).1
  unfold sweepDelays
  rw [List.getElem?_append_left (by simp; omega), List.getElem?_append_left (by simpa using hi)]
  simp [h]

theorem each_keep_rest (die : Nat) (base : Nat) (l : List (SweepLane × Nat)) : ∀ s : State,
    (s.each l fun e s => s.keep die (base + e.2) (clampInt (-64) 64 e.1.offset)).mem = s.mem ∧ (s.each l fun e s => s.keep die (base + e.2) (clampInt (-64) 64 e.1.offset)).sent = s.sent := by
  induction l with
  | nil => exact fun _ => ⟨rfl, rfl⟩
  | cons e l ih => exact fun s => ih _

/-- What the end of a sweep leaves of one channel. -/
structure SweptChan (s t : State) (die c : Nat) (found : List SweepLane) : Prop where
  offsets : ∀ l e, l < 4 → found[4 * c + l]? = some e → t.int die (atIndex Ob.dram_load_offset c + l) = clampInt (-64) 64 e.offset
  pend : ∀ l e, l < 4 → found[4 * c + l]? = some e → s.int die (atIndex Ob.dram_dly_rd c + l) + (t.chan die c).pend.getD l 0 = e.rd + clampInt (-64) 64 e.offset
  objs : ObjsBut s t fun k => ∃ i, i < 4 ∧ k = fullKey die (atIndex Ob.dram_load_offset c + i)
  others : ∀ k, k ≠ c → t.chan die k = s.chan die k
  dram : (t.memOf die).dram = (s.memOf die).dram
  sent : t.sent = s.sent

theorem sweepChan_swept (s : State) (die c : Nat) (found : List SweepLane) : SweptChan s (sweepChan die found c s) die c found := by
  have hlane : ∀ l e, l < 4 → found[4 * c + l]? = some e → ((found.drop (4 * c)).take 4)[l]? = some e := fun l e hl he => by
    rw [List.getElem?_take_of_lt hl, List.getElem?_drop, he]
  obtain ⟨hmem, hsent⟩ := each_keep_rest die (atIndex Ob.dram_load_offset c) ((found.drop (4 * c)).take 4).zipIdx s
  refine ⟨fun l e hl he => ?_, fun l e hl he => ?_, ?_, fun k hk => ?_, ?_, hsent⟩
  · have hput := int_each_puts (die := die) (base := atIndex Ob.dram_load_offset c) (g := fun (e : SweepLane) _ _ => clampInt (-64) 64 e.offset)
      (f := fun e s => s.keep die (atIndex Ob.dram_load_offset c + e.2) (clampInt (-64) 64 e.1.offset)) (fun _ _ => rfl) _ (k := 0) (s := s) (hlane l e hl he)
    refine (int_of_objs (setChan_objs ..) die _).trans ?_
    simpa using hput
  · have hitem : ((sweepDelays ((found.drop (4 * c)).take 4)).zipIdx.map fun e => e.1 - s.int die (atIndex Ob.dram_dly_rd c + e.2))[l]? =
        some ((e.rd : Int) + clampInt (-64) 64 e.offset - s.int die (atIndex Ob.dram_dly_rd c + l)) := by
      simp [List.getElem?_map, List.getElem?_zipIdx, sweepDelays_rd (hlane l e hl he)]
    have hpend := getD_unless_zeros hitem
    have hchan : ((sweepChan die found c s).chan die c).pend = if ((sweepDelays ((found.drop (4 * c)).take 4)).zipIdx.map fun e => e.1 - s.int die (atIndex Ob.dram_dly_rd c + e.2)).all (· = 0) then []
        else (sweepDelays ((found.drop (4 * c)).take 4)).zipIdx.map fun e => e.1 - s.int die (atIndex Ob.dram_dly_rd c + e.2) := by
      rw [sweepChan, chan_setChan_same]
      split <;> rfl
    rw [hchan, hpend]
    omega
  · have hobjs := objsBut_each_puts (die := die) (base := atIndex Ob.dram_load_offset c) (g := fun (e : SweepLane) _ _ => clampInt (-64) 64 e.offset)
      (f := fun e s => s.keep die (atIndex Ob.dram_load_offset c + e.2) (clampInt (-64) 64 e.1.offset)) (fun _ _ => rfl) ((found.drop (4 * c)).take 4) (k := 0) (s := s)
    refine objsBut_trans (objsBut_mono hobjs fun k ⟨i, hi, hk⟩ => ⟨i, ?_, hk⟩) (objsBut_of_eq (setChan_objs ..))
    have := List.length_take_le 4 (found.drop (4 * c))
    omega
  · rw [sweepChan, chan_setChan_other _ _ _ hk, chan_of_mem hmem]
  · rw [sweepChan, dram_setChan, memOf_of_mem hmem]

theorem sweepEnds : Claims.sweepEnds := by
  intro s die found hup hdie
  have hnext : ∀ x : State, s.sweepDone die found = x → exec (.sweepDone die found) s = .next x := fun x hx => congrArg Host.Outcome.next ((onDie_upDie hup _).trans hx)
  refine ⟨fun hon hlen => ?_, fun hon hlen => hnext _ (by simp [State.sweepDone, Nat.not_le.2 hdie, hon, hlen]), fun hoff => hnext _ (by simp [State.sweepDone, hoff])⟩
  have hgo : s.sweepDone die found = ((sweepChan die found 1 (sweepChan die found 0 s)).put die Ob.dram_sweep_status 2).raise die Ob.dram_flags 3 := by
    simp only [State.sweepDone, Nat.not_le.2 hdie, hon, Nat.not_lt.2 hlen]
    rfl
  have hplain := (raise_plain ((sweepChan die found 1 (sweepChan die found 0 s)).put die Ob.dram_sweep_status 2) die Ob.dram_flags 3 0 (by decide)).1
  obtain hfirst := sweepChan_swept s die 0 found
  obtain hsecond := sweepChan_swept (sweepChan die found 0 s) die 1 found
  generalize sweepChan die found 0 s = a at hgo hplain hfirst hsecond
  generalize sweepChan die found 1 a = b at hgo hplain hsecond
  refine ⟨_, hnext _ hgo, ?_, raise_on _ _ _ _ _ not_reportKey_full, fun c l e hc hl he => ?_, ?_, ?_⟩
  · rw [raise_nat_other _ _ _ (fullKey_ne (by decide)) not_reportKey_full]
    exact nat_put_same b die Ob.dram_sweep_status 2
  · have hmem := raise_mem (b.put die Ob.dram_sweep_status 2) die Ob.dram_flags 3 0
    have hkey : ∀ k, k < 2 → (((b.put die Ob.dram_sweep_status 2).raise die Ob.dram_flags 3).int die (atIndex Ob.dram_load_offset k + l) = b.int die (atIndex Ob.dram_load_offset k + l)) := fun k hk => by
      rw [raise_int_other, int_put_other]
      · simp only [fullKey, atIndex, Ob.dram_load_offset, Ob.dram_sweep_status]
        omega
      · simp only [fullKey, atIndex, Ob.dram_load_offset, Ob.dram_flags]
        omega
      · refine not_reportKey_full ?_ ?_ <;>
          simp only [reportPlaces, atIndex, Ob.dram_load_offset, Ob.event_seq, Ob.knot_late, Ob.knot_evictions, Ob.knot_undelivered, Ob.fwd_drops, Ob.lane_sleep, Ob.lane_state] <;> omega
    rw [hkey c hc, chan_of_mem (t := (b.put die Ob.dram_sweep_status 2).raise die Ob.dram_flags 3) (s := b) hmem]
    obtain rfl | rfl : c = 0 ∨ c = 1 := by omega
    · refine ⟨(objsBut_int hsecond.objs ?_).trans (hfirst.offsets l e hl he), ?_⟩
      · rintro ⟨i, hi, hk⟩
        simp only [fullKey, atIndex, Ob.dram_load_offset] at hk
        omega
      · rw [hsecond.others 0 (by decide)]
        exact hfirst.pend l e hl he
    · refine ⟨hsecond.offsets l e hl he, ?_⟩
      rw [← hsecond.pend l e hl he, objsBut_int hfirst.objs]
      rintro ⟨i, hi, hk⟩
      simp only [fullKey, atIndex, Ob.dram_load_offset, Ob.dram_dly_rd] at hk
      omega
  · rw [memOf_of_mem (t := (b.put die Ob.dram_sweep_status 2).raise die Ob.dram_flags 3) (s := b) (raise_mem ..), hsecond.dram, hfirst.dram]
  · rw [hplain]
    exact hsecond.sent.trans hfirst.sent

/-- Settles O36: by what each change of a channel's state leaves alone, and a run of objects written one by one. -/
theorem dramSleepsAndTracksDelays : Obligations.DramSleepsAndTracksDelays := ⟨refreshEntered, refreshLeft, driftChecked, exitForced, delayFlagged, sweepBegins, sweepEnds⟩

end Sys2Proof.Proofs
end

section
/-! Cells that a part consumes (R148, R159), the cells of its peer head (Table 14.4), and the walks that a head queues (R166): what each leaves as it is. -/

namespace Sys2Proof.Proofs

open Sys2Proof.Machine Sys2Proof.Laws Sys2Proof.Claims

/-! What a flag raised leaves beside the objects -/

theorem reportOnly_state {s t : State} {p : Nat → Prop} (h : ReportOnly s t p) :
    t = { s with objs := t.objs, ports := t.ports, lanes := t.lanes, knots := t.knots, knotLog := t.knotLog, knotHold := t.knotHold, spi := t.spi, sent := t.sent, xings := t.xings, free := t.free } :=
  congrArg (fun u : State => { u with objs := t.objs, ports := t.ports, lanes := t.lanes, knots := t.knots, knotLog := t.knotLog, knotHold := t.knotHold, spi := t.spi, sent := t.sent, xings := t.xings, free := t.free }) h.rest

/-! Walks queued (R166, R169) -/

/-- The objects that a walk queued may change: the head's ID and its flags, with their report, and those of a lane that the WALK wakes. -/
def walkKey (k : Nat) : Prop := k = Ob.node_id ∨ k = Ob.enum_flags ∨ reportKey k

/-- A walk queued changes those objects, the enumeration, ports and lanes, the knots and the journal's queue. -/
structure WalkQueued (s t : State) : Prop where
  objs : ObjsBut s t walkKey
  rest : t = { s with objs := t.objs, ports := t.ports, lanes := t.lanes, knots := t.knots, knotLog := t.knotLog, knotHold := t.knotHold, spi := t.spi, sent := t.sent, xings := t.xings,
                      free := t.free, net := t.net, journal := t.journal }

theorem walkQueued_refl (s : State) : WalkQueued s s := ⟨objsBut_refl _ _, rfl⟩

theorem walkQueued_trans {s t u : State} (h : WalkQueued s t) (k : WalkQueued t u) : WalkQueued s u := ⟨objsBut_trans h.objs k.objs, by rw [k.rest, h.rest]⟩

/-- A change of the enumeration alone. -/
theorem walkQueued_net (s : State) (n : NetSt) : WalkQueued s { s with net := n } := ⟨objsBut_of_eq rfl, rfl⟩

theorem walkQueued_headId (s : State) : WalkQueued s s.headId := by
  have hflag : WalkQueued s (s.raise 0 Ob.enum_flags 1) := by
    refine ⟨objsBut_mono (raise_objs s 0 Ob.enum_flags 1 0) fun k hk => .inr (hk.imp (fun h => h.trans (fullKey_part _)) id), ?_⟩
    rw [reportOnly_state (raise_reportOnly (p := fun k => k = fullKey 0 Ob.enum_flags) s 0 Ob.enum_flags 1 0 rfl)]
  have hwhen : ∀ b, WalkQueued s (s.when b fun s => s.raise 0 Ob.enum_flags 1) := fun b => when_of s b _ (walkQueued_refl s) hflag
  unfold State.headId
  dsimp only
  split
  · split
    · next n _ =>
      refine walkQueued_trans (hwhen _) ⟨objsBut_mono (objsBut_put _ 0 Ob.node_id n) fun k hk => .inl (hk.trans (fullKey_part _)), rfl⟩
    · exact hwhen _
  · exact hwhen _

theorem walkQueued_queueOwn (s : State) (p : Nat) (c : Cell) : WalkQueued s (s.queueOwn p c) :=
  ⟨objsBut_mono (queueOwn_objs s p c) fun _ h => .inr (.inr h), by rw [queueOwn_rest]⟩

theorem walkQueued_startWalk (s : State) (p : Nat) : WalkQueued s (s.startWalk p) := by
  unfold State.startWalk
  extract_lets named seq e net walking
  have hwalking : WalkQueued named walking := walkQueued_net named _
  exact walkQueued_trans (walkQueued_headId s) (walkQueued_trans hwalking (walkQueued_queueOwn walking p _))

theorem walkQueued_nextWalk (s : State) : WalkQueued s s.nextWalk := by
  unfold State.nextWalk
  split
  · exact walkQueued_refl s
  · split
    · next p rest _ =>
      have htaken : WalkQueued s { s with net := { s.net with queue := rest } } := walkQueued_net s _
      exact walkQueued_trans htaken (walkQueued_startWalk _ p)
    · exact walkQueued_net s _

theorem walkQueued_queueWalks (s : State) (ps : List Nat) : WalkQueued s (s.queueWalks ps) := by
  unfold State.queueWalks
  exact walkQueued_trans (walkQueued_net s _) (walkQueued_nextWalk _)

/-! Cells consumed (R148, R159) -/

/-- A whole cell for the part itself: counted, consumed by its class and kind, and its RX stamp is used up. -/
theorem cellRow_consumed {s : State} {p : Nat} {c : Cell} {named : Bool} (h : CellAt s p c) (hcls : c.cls < 5) (hmine : s.passes c = false) (hnamed : named = true) :
    s.cellRow p c named = ((s.cellArrives p).consume p c).spent p := by
  have haccept : s.accept p c = (s.cellArrives p, true) := by simp [State.accept, h.port, h.role, h.good, Nat.not_le.2 hcls]
  simp only [State.cellRow, hnamed, if_true, run_up h.up, State.cellIn, haccept, hmine, Bool.false_eq_true, if_false]
  rfl

/-- A JOURNAL cell of the peer head at this ring head. -/
theorem peerCell_row {s a : State} {p msg : Nat} {c : Cell} {named : Bool} (h : PeerCell s a p c msg) (hnamed : named = true) : s.cellRow p c named = (a.journalCellIn c).spent p := by
  have hmine : s.passes c = false := by simp [State.passes, h.cls, h.kind, h.mine]
  have hchain : (s.cellArrives p).offChain p = false := h.here ▸ h.chain
  rw [cellRow_consumed h.at_ (by rw [h.cls]; decide) hmine hnamed, h.here]
  simp only [State.consume, h.cls, h.kind, hchain, Bool.false_eq_true, if_false]

/-- A cell that has been used up leaves everything but its port's stamp. -/
theorem spent_rest (s : State) (p : Nat) : s.spent p = { s with ports := (s.spent p).ports } := rfl

theorem spent_objs (s : State) (p : Nat) : (s.spent p).objs = s.objs := rfl

end Sys2Proof.Proofs
end

section
/-! Ring heads: handover, declarations and joining (R408, R412, R414). -/

namespace Sys2Proof.Proofs

open Sys2Proof.Machine Sys2Proof.Laws Sys2Proof.Claims

/-! A declaration (R412) -/

/-- The values of a checkpoint in force: of the objects, those of the indices given change. -/
theorem ckptForce_forces (s : State) (bs : List Byte) (lo hi : Nat) : ObjsBut s (s.ckptForce bs lo hi) (fun k => lo ≤ k / 256 ∧ k / 256 ≤ hi) ∧ s.ckptForce bs lo hi = { s with objs := (s.ckptForce bs lo hi).objs } := by
  unfold State.ckptForce
  extract_lets m keys
  have hrange : ∀ k, k ∈ keys → lo ≤ k / 256 ∧ k / 256 ≤ hi := fun k hk => by simpa using (List.mem_filter.1 hk).2
  generalize keys = l at hrange
  induction l generalizing s with
  | nil => exact ⟨objsBut_refl _ _, rfl⟩
  | cons k l ih =>
    have hone : ObjsBut s ({ s with objs := smPut .dflt s.objs k (smGet .dflt m k) } : State) (fun j => lo ≤ j / 256 ∧ j / 256 ≤ hi) := fun j hj =>
      smGet_smPut_other _ _ _ fun hjk => hj (hjk ▸ hrange k List.mem_cons_self)
    obtain ⟨hobjs, hrest⟩ := ih { s with objs := smPut .dflt s.objs k (smGet .dflt m k) } fun j hj => hrange j (List.mem_cons_of_mem _ hj)
    exact ⟨objsBut_trans hone hobjs, hrest⟩

/-- The objects that a declaration loads beside its own: those of a checkpoint and the ports of destinations. -/
def loadedKey (k : Nat) : Prop := 0x3400 ≤ k / 256 ∧ k / 256 ≤ 0x4FFF

/-- A change of those objects alone. -/
structure Loaded (s t : State) : Prop where
  objs : ObjsBut s t loadedKey
  rest : t = { s with objs := t.objs }

theorem loaded_refl (s : State) : Loaded s s := ⟨objsBut_refl _ _, rfl⟩

theorem loaded_trans {s t u : State} (h : Loaded s t) (k : Loaded t u) : Loaded s u := ⟨objsBut_trans h.objs k.objs, by rw [k.rest, h.rest]⟩

theorem loaded_ckptForce (s : State) (bs : List Byte) {lo hi : Nat} (hlo : 0x3400 ≤ lo) (hhi : hi ≤ 0x4FFF) : Loaded s (s.ckptForce bs lo hi) := by
  obtain ⟨hobjs, hrest⟩ := ckptForce_forces s bs lo hi
  exact ⟨objsBut_mono hobjs fun k ⟨h, h'⟩ => ⟨by omega, by omega⟩, hrest⟩

theorem loaded_ports (s : State) (l : List Nat) (h : ∀ n, n ∈ l → n < 1024) : Loaded s (s.each l fun n s => s.set (atIndex Ob.dest_port n) (s.pw Ob.red_ring_port)) := by
  induction l generalizing s with
  | nil => exact loaded_refl s
  | cons n l ih =>
    have hn := h n List.mem_cons_self
    have hone : Loaded s (s.set (atIndex Ob.dest_port n) (s.pw Ob.red_ring_port)) := by
      refine ⟨objsBut_mono (objsBut_put s 0 (atIndex Ob.dest_port n) _) fun k hk => ?_, rfl⟩
      simp only [fullKey, atIndex, Ob.dest_port] at hk
      exact ⟨by omega, by omega⟩
    exact loaded_trans hone (ih _ fun m hm => h m (List.mem_cons_of_mem _ hm))

/-- Has the peer been silent for red_hb_loss_ms? -/
def peerSilent (s : State) : Bool := match s.red.heardAt with
  | some t => s.past t (s.pw Ob.red_hb_loss_ms * 1000000)
  | none => true

/-- A standby that declares, before the checkpoint is loaded: its state, the flag, the count and the time. -/
def declaring (s : State) : State :=
  (((s.set Ob.red_head_state (if peerSilent s then 1 else 3)).raise 0 Ob.red_flags (if peerSilent s then 5 else 6)).bump 0 Ob.red_takeovers).when (peerSilent s) fun s => s.set Ob.red_active_since s.layNow

/-- What comes after it changes none of the objects of redundancy. -/
theorem declare_loads {s : State} (h : Standby s) : ∃ u, Loaded (declaring s) u ∧
    s.declare = ({ u with red := { u.red with waits := true } } : State).queueWalks [s.pw Ob.red_ring_port] := by
  have ⟨hring, hstate⟩ := h
  have hgo : (!s.isRing || decide (s.pw Ob.red_head_state ≠ 2)) = false := by simp [hring, hstate]
  unfold State.declare
  rw [if_neg (by rw [hgo]; exact Bool.false_ne_true)]
  extract_lets silent flagged counted loaded routed
  have hloaded : Loaded (declaring s) loaded := by
    show Loaded counted loaded
    dsimp only [loaded]
    split
    · exact loaded_trans (loaded_ckptForce _ _ (by decide) (by decide)) (loaded_ckptForce _ _ (by decide) (by decide))
    · exact loaded_refl _
  have hrouted : Loaded loaded routed := by
    refine loaded_ports loaded _ fun n hn => ?_
    exact List.mem_range.1 (List.mem_of_mem_filter hn)
  exact ⟨routed, loaded_trans hloaded hrouted, rfl⟩

theorem declaring_sets (s : State) : (declaring s).pw Ob.red_head_state = (if peerSilent s = true then 1 else 3) ∧ ((declaring s).pw Ob.red_head_state = 1 → (declaring s).pw Ob.red_active_since = s.layNow) ∧
    Counts s (declaring s) 0 Ob.red_takeovers 1 ∧ (declaring s).staged = s.staged := by
  have hflagged : ((s.set Ob.red_head_state (if peerSilent s then 1 else 3)).raise 0 Ob.red_flags (if peerSilent s then 5 else 6)).pw Ob.red_head_state = if peerSilent s = true then 1 else 3 := by
    rw [State.pw, raise_nat_other _ _ _ (fullKey_ne (by decide)) not_reportKey_full]
    refine (nat_put_same ..).trans ?_
    split <;> rfl
  have htaken : ((s.set Ob.red_head_state (if peerSilent s then 1 else 3)).raise 0 Ob.red_flags (if peerSilent s then 5 else 6)).int 0 Ob.red_takeovers = s.int 0 Ob.red_takeovers := by
    rw [raise_int_other _ _ _ (fullKey_ne (by decide)) not_reportKey_full]
    exact int_put_other _ _ _ _ _ _ (fullKey_ne (by decide))
  have hlay : ((s.set Ob.red_head_state (if peerSilent s then 1 else 3)).raise 0 Ob.red_flags (if peerSilent s then 5 else 6)).lay = s.lay := raise_lay ..
  have hstaged : ((s.set Ob.red_head_state (if peerSilent s then 1 else 3)).raise 0 Ob.red_flags (if peerSilent s then 5 else 6)).staged = s.staged := raise_staged ..
  unfold declaring
  generalize (s.set Ob.red_head_state (if peerSilent s then 1 else 3)).raise 0 Ob.red_flags (if peerSilent s then 5 else 6) = t at hflagged htaken hlay hstaged
  have hcount : Counts s (t.bump 0 Ob.red_takeovers) 0 Ob.red_takeovers 1 := counts_of_int (counts_bump t 0 Ob.red_takeovers 1 (by decide)) htaken.symm rfl
  have hbumped : (t.bump 0 Ob.red_takeovers).pw Ob.red_head_state = t.pw Ob.red_head_state := bump_nat_other _ _ (fullKey_ne (by decide))
  cases hsilent : peerSilent s with
  | false =>
    rw [hsilent] at hflagged
    refine ⟨hbumped.trans hflagged, fun hone => ?_, hcount, (bump_staged ..).trans hstaged⟩
    exact absurd (hflagged.symm.trans (hbumped.symm.trans hone)) (by decide)
  | true =>
    rw [hsilent] at hflagged
    refine ⟨(nat_put_other _ _ _ _ _ _ (fullKey_ne (by decide))).trans (hbumped.trans hflagged), fun _ => ?_, counts_of_int hcount rfl (int_put_other _ _ _ _ _ _ (fullKey_ne (by decide))), (bump_staged ..).trans hstaged⟩
    refine (nat_put_same _ 0 Ob.red_active_since _).trans ?_
    have hnow : (t.bump 0 Ob.red_takeovers).layNow = s.layNow := by simp only [State.layNow, bump_lay, hlay]
    rw [hnow, Int.toNat_natCast]

theorem declare_declares {s : State} (h : Standby s) : Declared s s.declare := by
  obtain ⟨u, hload, heq⟩ := declare_loads h
  have hwalk := walkQueued_queueWalks { u with red := { u.red with waits := true } } [s.pw Ob.red_ring_port]
  rw [heq]
  generalize State.queueWalks _ _ = t at hwalk
  have hkept : ∀ k, k < 0x200000 → k ≠ Ob.node_id → t.int 0 k = (declaring s).int 0 k := fun k hk hid => by
    refine (objsBut_int hwalk.objs ?_).trans ((int_of_objs rfl 0 k).trans (objsBut_int hload.objs ?_))
    · rw [fullKey_part]
      rintro (hid' | hflags | hrep)
      · exact hid hid'
      · exact absurd (hflags ▸ hk) (by decide)
      · exact not_reportKey hk hrep
    · rw [fullKey_part]
      rintro ⟨hlo, -⟩
      omega
  have hrest : t.staged = (declaring s).staged ∧ t.red.waits = true := by
    rw [hwalk.rest, hload.rest]
    exact ⟨rfl, rfl⟩
  obtain ⟨hstate, hsince, hcount, hstaged⟩ := declaring_sets s
  refine ⟨?_, fun hone => ?_, ?_, hrest.2, hrest.1.trans hstaged⟩
  · exact (congrArg Int.toNat (hkept Ob.red_head_state (by decide) (by decide))).trans hstate
  · exact (congrArg Int.toNat (hkept Ob.red_active_since (by decide) (by decide))).trans (hsince ((congrArg Int.toNat (hkept Ob.red_head_state (by decide) (by decide))).symm.trans hone))
  · exact counts_of_int hcount rfl (hkept Ob.red_takeovers (by decide) (by decide))

theorem declare_other {s : State} (h : s.pw Ob.red_head_state ≠ 2) : s.declare = s := by simp [State.declare, h]

/-- A state after a cell was used up is declared as it was. -/
theorem declared_spent {s t : State} (h : Declared s t) (p : Nat) : Declared s (t.spent p) := ⟨h.state, h.since, h.count, h.waits, h.staged⟩

theorem handedOver : Claims.handedOver := by
  intro s a p c h
  have hrow : exec (.handover p c) s = .next ((a.journalCellIn c).spent p) := congrArg Host.Outcome.next (peerCell_row h (by simp [h.cls, h.kind, h.msg_]))
  have hin : a.journalCellIn c = a.declare := by simp [State.journalCellIn, h.msg_, State.handoverIn, h.peer]
  rw [hin] at hrow
  exact ⟨fun hstandby => ⟨_, hrow, declared_spent (declare_declares hstandby) p⟩, fun hother => by rw [hrow, declare_other hother]⟩

/-- A write of 1 to red_declare. -/
theorem headDeclared : Claims.headDeclared := by
  intro s a m d h hkey hwo ha hone
  subst ha
  have hrow : exec (.redDeclare m) s = .next ((s.arrived m).declare.answer 0x02 m 0 d.ty.code []) := by
    refine congrArg Host.Outcome.next (corrixFor_write_one h (by simp [hkey]) (by rw [hkey]; decide) ?_)
    have hunit := h.unit
    simp only [State.writeOne, hunit, Bool.false_eq_true, if_false, hwo, hone]
    rw [hkey]
    rfl
  exact ⟨fun hstandby => ⟨_, hrow, declare_declares hstandby⟩, fun hother => by rw [hrow, declare_other hother]⟩

theorem selfDeclared : Claims.selfDeclared := by
  intro s hup
  refine ⟨fun a hstandby hms hheard hpast => ?_, fun hms => ?_⟩
  · have hgo : s.selfDeclare = s.declare := by simp [State.selfDeclare, hms, hheard, hpast]
    exact ⟨_, congrArg Host.Outcome.next ((run_up hup _).trans hgo), declare_declares hstandby⟩
  · refine congrArg _ ((run_up hup _).trans ?_)
    simp [State.selfDeclare, hms]

/-! The arbiter's declaration (R412) -/

/-- The WRITE of 1 to red_declare that an arbiter sends. -/
def declaration (s : State) : Msg :=
  let m : Msg := { via := .udp 0 0 0, seq := s.red.arbSeq, session := Config.arbiterSession % 65535 + 1, target := 0xF400, index := 0x1324, sub := 0, ty := 1, len := 1, payload := [1], crc := 0 }
  { m with crc := msgCrc 2 m }

theorem declaration_key (s : State) : (declaration s).key = Ob.red_declare := by
  have hindex : (declaration s).index = 0x1324 := by simp only [declaration]
  have hsub : (declaration s).sub = 0 := by simp only [declaration]
  rw [Msg.key, hindex, hsub]

theorem declarationRepeats : Claims.declarationRepeats := by
  intro s hup
  refine ⟨fun hdeclared hopen hwatch hdue => ?_, fun hdone => ?_⟩
  · have hgo : s.declareRepeat = s.sendDeclare := by simp [State.declareRepeat, hdeclared, hopen, hwatch, hdue]
    exact ⟨s.sendDeclare, declaration s, congrArg Host.Outcome.next ((run_up hup _).trans hgo), by simp only [State.sendDeclare, declaration, State.emit], declaration_key s, by simp only [declaration], by simp only [declaration], by simp only [State.sendDeclare, State.emit], by simp only [State.sendDeclare, State.emit]⟩
  · refine congrArg _ ((run_up hup _).trans ?_)
    rcases hdone with h | h <;> simp [State.declareRepeat, h]

/-! Joining (R408) -/

/-- A head that enters ACTIVE is so since now. -/
theorem enterActive_enters (s : State) : s.enterActive.pw Ob.red_head_state = 1 ∧ s.enterActive.pw Ob.red_active_since = s.layNow := by
  unfold State.enterActive
  have hwalk := walkQueued_queueWalks ((s.set Ob.red_head_state 1).set Ob.red_active_since s.layNow) [s.pw Ob.red_ring_port]
  have hkept : ∀ k, k < 0x200000 → k ≠ Ob.node_id → ¬ walkKey k := fun k hk hid => by
    rintro (hid' | hflags | hrep)
    · exact hid hid'
    · exact absurd (hflags ▸ hk) (by decide)
    · exact not_reportKey hk hrep
  constructor
  · rw [objsBut_pw hwalk.objs (hkept _ (by decide) (by decide))]
    exact (nat_put_other _ _ _ _ _ _ (fullKey_ne (by decide))).trans (nat_put_same s 0 Ob.red_head_state 1)
  · rw [objsBut_pw hwalk.objs (hkept _ (by decide) (by decide))]
    exact nat_put_same ..

theorem joiningEnds : Claims.joiningEnds := by
  intro s t0 hup hjoined
  have hnext : ∀ x : State, s.joiningEnd = x → exec .joiningEnd s = .next x := fun x hx => congrArg Host.Outcome.next ((run_up hup _).trans hx)
  refine ⟨fun hpast => hnext _ ?_, fun hpast hserves => hnext _ ?_, fun hpast halone hprimary => ⟨_, hnext s.enterActive ?_, enterActive_enters s⟩, fun hpast halone hsecond => hnext _ ?_⟩
  · simp [State.joiningEnd, hjoined, hpast]
  · simp [State.joiningEnd, hjoined, hpast, hserves]
  · simp [State.joiningEnd, hjoined, hpast, halone, hprimary]
  · simp [State.joiningEnd, hjoined, hpast, halone, hsecond]

theorem joinTimesOut : Claims.joinTimesOut := by
  intro s t0 hup hjoined
  have hnext : ∀ x : State, s.joinTimeout = x → exec .joinNoPeerTimeout s = .next x := fun x hx => congrArg Host.Outcome.next ((run_up hup _).trans hx)
  refine ⟨fun hpast halone => ⟨_, hnext s.enterActive ?_, enterActive_enters s⟩, fun hpast => hnext _ ?_⟩
  · simp [State.joinTimeout, hjoined, hpast, halone]
  · simp [State.joinTimeout, hjoined, hpast]

/-- Settles O41: by what a declaration sets, and what the checkpoint and the walk that follow it leave alone. -/
theorem ringHeadsTakeOver : Obligations.RingHeadsTakeOver := ⟨handedOver, headDeclared, declarationRepeats, selfDeclared, joiningEnds, joinTimesOut⟩

end Sys2Proof.Proofs
end

section
/-! Ring heads: heartbeats and checkpoints (R409-R411). -/

namespace Sys2Proof.Proofs

open Sys2Proof.Machine Sys2Proof.Laws Sys2Proof.Claims

/-! The port that an own cell leaves by (R165) -/

/-- The objects that tell by which port an own cell leaves. -/
def routeKey (k : Nat) : Prop := k = Ob.role_active ∨ k = Ob.fwd_up_port ∨ ∃ die p, k = fullKey die (Ob.port_role + p % 16)

theorem role_of {s t : State} {P : Nat → Prop} (h : ObjsBut s t P) (hP : ∀ k, routeKey k → ¬ P k) (p : Nat) : t.role p = s.role p :=
  objsBut_nat h (hP _ (.inr (.inr ⟨p / 16, p, rfl⟩)))

theorem isHead_of {s t : State} {P : Nat → Prop} (h : ObjsBut s t P) (hP : ∀ k, routeKey k → ¬ P k) : t.isHead = s.isHead := by
  simp only [State.isHead, objsBut_pw h (hP _ (.inl rfl))]

/-- It is the same where those objects, the enumerations and the routes are. -/
theorem ownPort_of {s t : State} {P : Nat → Prop} (h : ObjsBut s t P) (hP : ∀ k, routeKey k → ¬ P k) (henums : t.enums = s.enums) (hnet : t.net = s.net) (n : Nat) :
    t.ownPort n = s.ownPort n := by
  simp only [State.ownPort, State.routeOf, State.upPort, isHead_of h hP, role_of h hP, objsBut_pw h (hP _ (.inr (.inl rfl))), henums, hnet]

theorem routeKey_not_report {k : Nat} (h : routeKey k) : ¬ reportKey k := by
  obtain rfl | rfl | ⟨die, p, rfl⟩ := h
  · exact not_reportKey (by decide)
  · exact fullKey_part Ob.fwd_up_port ▸ not_reportKey_full
  · have hp : p % 16 < 16 := Nat.mod_lt _ (by decide)
    refine not_reportKey_full ?_ ?_ <;> simp only [reportPlaces, Ob.port_role, Ob.event_seq, Ob.knot_late, Ob.knot_evictions, Ob.knot_undelivered, Ob.fwd_drops, Ob.lane_sleep, Ob.lane_state] <;> omega

/-- An object of redundancy is none of those. -/
theorem routeKey_ne_red {k j : Nat} (h : routeKey k) (hlo : 0x131000 ≤ j) (hhi : j < 0x140000) : k ≠ j := by
  obtain rfl | rfl | ⟨die, p, rfl⟩ := h
  · simp only [Ob.role_active]; omega
  · simp only [Ob.fwd_up_port]; omega
  · have hp : p % 16 < 16 := Nat.mod_lt _ (by decide)
    simp only [fullKey, Ob.port_role]; omega

/-! Cells toward the peer head -/

/-- A cell toward the peer head waits in the queue of the port that leads to it. -/
theorem sendPeer_queues {s : State} {q : Nat} (h : s.ownPort (s.pw Ob.red_peer_node) = some q) (msg id epoch seq at_ : Nat) (data : List Byte) :
    s.sendPeer msg id epoch seq at_ data = s.queueOwn q (mkCell 4 0 (s.pw Ob.red_peer_node) 0 (s.ringBytes msg id epoch seq at_ data)) := by
  have hport : s.ownPort (mkCell 4 0 (s.pw Ob.red_peer_node) 0 (s.ringBytes msg id epoch seq at_ data)).node = some q := h
  simp only [State.sendPeer, State.sendOwn, hport]

/-- What a cell toward the peer head, or several, may change. -/
structure PeerSent (s t : State) : Prop where
  objs : ObjsBut s t fun k => reportKey k ∨ k = fullKey 0 Ob.fwd_stray
  rest : t = { s with objs := t.objs, ports := t.ports, lanes := t.lanes, xings := t.xings, free := t.free }

theorem peerSent_refl (s : State) : PeerSent s s := ⟨objsBut_refl _ _, rfl⟩

theorem peerSent_trans {s t u : State} (h : PeerSent s t) (k : PeerSent t u) : PeerSent s u := ⟨objsBut_trans h.objs k.objs, by rw [k.rest, h.rest]⟩

theorem peerSent_sendPeer (s : State) (msg id epoch seq at_ : Nat) (data : List Byte) : PeerSent s (s.sendPeer msg id epoch seq at_ data) := by
  unfold State.sendPeer State.sendOwn
  split
  · next q _ => exact ⟨objsBut_mono (queueOwn_objs s q _) fun _ h => .inl h, by rw [queueOwn_rest]⟩
  · split
    · exact ⟨objsBut_mono (bump_objs s 0 Ob.fwd_stray 1) fun _ h => .inr h, by rw [State.bumpPort, bump_cross]⟩
    · exact peerSent_refl s

theorem routeKey_not_sent {k : Nat} (h : routeKey k) : ¬ (reportKey k ∨ k = fullKey 0 Ob.fwd_stray) := by
  rintro (hr | rfl)
  · exact routeKey_not_report h hr
  · obtain hk | hk | ⟨die, p, hk⟩ := h
    · exact absurd hk (by decide)
    · exact absurd hk (by decide)
    · have hp : p % 16 < 16 := Nat.mod_lt _ (by decide)
      simp only [fullKey, Ob.port_role, Ob.fwd_stray] at hk; omega

theorem peerSent_ownPort {s t : State} (h : PeerSent s t) (n : Nat) : t.ownPort n = s.ownPort n :=
  ownPort_of h.objs (fun _ => routeKey_not_sent) (by rw [h.rest]) (by rw [h.rest]) n

theorem peerSent_peer {s t : State} (h : PeerSent s t) : t.pw Ob.red_peer_node = s.pw Ob.red_peer_node :=
  objsBut_pw h.objs fun hk => hk.elim (not_reportKey (by decide)) (by decide)

/-- Where a port leads to the peer, its queue grows by each cell. -/
theorem sendPeer_own {s t : State} {q : Nat} (h : PeerSent s t) (hq : s.ownPort (s.pw Ob.red_peer_node) = some q) (msg id epoch seq at_ : Nat) (data : List Byte) :
    ((t.sendPeer msg id epoch seq at_ data).port q).own = (t.port q).own ++ [mkCell 4 0 (s.pw Ob.red_peer_node) 0 (t.ringBytes msg id epoch seq at_ data)] := by
  rw [sendPeer_queues (q := q) ((peerSent_ownPort h _).trans (peerSent_peer h ▸ hq)), queueOwn_own_same, peerSent_peer h]

theorem peerSent_segments (s : State) (id epoch : Nat) (l : List (List Byte × Nat)) : PeerSent s (s.each l fun e t => t.sendPeer 2 id epoch e.2 t.layNow e.1) :=
  each_of l _ (fun _ _ h => peerSent_trans h (peerSent_sendPeer ..)) (peerSent_refl s)

theorem own_segments {s t : State} {q : Nat} (h : PeerSent s t) (hq : s.ownPort (s.pw Ob.red_peer_node) = some q) (id epoch : Nat) (l : List (List Byte × Nat)) :
    (t.port q).own.length ≤ ((t.each l fun e t => t.sendPeer 2 id epoch e.2 t.layNow e.1).port q).own.length := by
  induction l generalizing t with
  | nil => exact Nat.le_refl _
  | cons e l ih =>
    have hone := sendPeer_own h hq 2 id epoch e.2 t.layNow e.1
    refine Nat.le_trans ?_ (ih (peerSent_trans h (peerSent_sendPeer t 2 id epoch e.2 t.layNow e.1)))
    rw [hone, List.length_append]
    exact Nat.le_add_right _ _

/-- A checkpoint sent is cells toward the peer. -/
theorem peerSent_sendCkpt (s vals : State) (id epoch : Nat) : PeerSent s (s.sendCkpt vals id epoch) := by
  unfold State.sendCkpt
  split
  · exact peerSent_refl s
  · extract_lets segs
    generalize segs.zipIdx = l
    exact peerSent_trans (peerSent_segments s id epoch l) (peerSent_sendPeer ..)

/-- Its CKPT_END at least joins the queue. -/
theorem own_sendCkpt {s : State} {q : Nat} (vals : State) (id epoch : Nat) (hring : s.isRing = true) (hactive : s.pw Ob.red_head_state = 1)
    (hq : s.ownPort (s.pw Ob.red_peer_node) = some q) : (s.port q).own.length < ((s.sendCkpt vals id epoch).port q).own.length := by
  have hgo : (!s.isRing || !(s.pw Ob.red_head_state = 1 || s.pw Ob.red_head_state = 3)) = false := by simp [hring, hactive]
  unfold State.sendCkpt
  rw [if_neg (by rw [hgo]; exact Bool.false_ne_true)]
  extract_lets segs
  generalize segs.zipIdx = l
  rw [sendPeer_own (peerSent_segments s id epoch l) hq, List.length_append]
  exact Nat.lt_succ_of_le (own_segments (peerSent_refl s) hq id epoch l)

/-! Heartbeats -/

theorem autoWake_port_other (s : State) {p q : Nat} (h : q ≠ p) : (s.autoWake p).port q = s.port q := by
  unfold State.autoWake
  dsimp only
  split
  · rw [State.port, wakeTx_rest]
    simp [State.setPort, State.port, wakeClock_ports, smGet_smPut_other _ _ _ h]
  · simp [State.port, wakeClock_ports]

theorem queueOwn_port_other (s : State) {p q : Nat} (c : Cell) (h : q ≠ p) : (s.queueOwn p c).port q = s.port q := by
  unfold State.queueOwn
  rw [autoWake_port_other _ h]
  simp [State.setPort, State.port, smGet_smPut_other _ _ _ h]

/-- A ring head that is due puts out a HEARTBEAT. -/
theorem heartbeatSend_sends {s : State} {p : Nat} (hring : s.isRing = true) (hdue : s.due s.red.sentAt 5000000 = true) (hp : s.ownPort (s.pw Ob.red_peer_node) = some p) :
    ∃ u : State, u.red.sent = (s.red.sent + 1) % 4294967296 ∧ u.red.sentAt = some s.now ∧ u.ports = s.ports ∧
      s.heartbeatSend = u.queueOwn p (mkCell 4 0 (s.pw Ob.red_peer_node) 0 (s.ringBytes 1 0 (s.pw Ob.commit_epoch) ((s.red.sent + 1) % 4294967296)
        (if s.pw Ob.red_head_state = 1 then s.pw Ob.red_active_since else s.layNow) [])) := by
  have hgo : (!s.isRing || !(s.due s.red.sentAt 5000000)) = false := by simp [hring, hdue]
  unfold State.heartbeatSend
  rw [if_neg (by rw [hgo]; exact Bool.false_ne_true)]
  extract_lets quiet flagged kept counted
  have hflag : flagged = { s with objs := flagged.objs } ∧ ObjsBut s flagged fun k => k = fullKey 0 Ob.red_flags := by
    refine when_of (P := fun t => t = { s with objs := t.objs } ∧ ObjsBut s t fun k => k = fullKey 0 Ob.red_flags) s _ _ ⟨rfl, objsBut_refl _ _⟩ (raise_plain s 0 Ob.red_flags 9 0 (by decide))
  obtain ⟨hrest, hobjs⟩ := hflag
  have hcounted : counted = { s with objs := flagged.objs, red := counted.red } := by
    show ({ flagged with red := counted.red } : State) = _
    rw [hrest]
  have hsent : counted.red.sent = (s.red.sent + 1) % 4294967296 := by show (flagged.red.sent + 1) % 4294967296 = _; rw [hrest]
  have hobjs' : ObjsBut s counted fun k => k = fullKey 0 Ob.red_flags := hobjs
  have hpw : ∀ {k : Nat}, k ≠ Ob.red_flags → counted.pw k = s.pw k := fun hk => objsBut_pw hobjs' (by rw [fullKey_part]; exact hk)
  have hport : counted.ownPort (counted.pw Ob.red_peer_node) = some p := by
    rw [hpw (by decide), ← hp]
    refine ownPort_of hobjs' (fun k hk => ?_) (by rw [hcounted]) (by rw [hcounted]) _
    rw [fullKey_part]
    exact routeKey_ne_red hk (by decide) (by decide)
  refine ⟨counted, hsent, rfl, by rw [hcounted], ?_⟩
  rw [sendPeer_queues hport, hpw (by decide)]
  simp only [State.ringBytes, hpw (k := Ob.red_head_state) (by decide), hpw (k := Ob.node_id) (by decide), hsent]

theorem ringHeartbeat : Claims.ringHeartbeat := by
  intro s p hup
  have hnext : ∀ x, s.heartbeatSend = x → exec .headHeartbeatSend s = .next x := fun x hx => congrArg Host.Outcome.next ((run_up hup _).trans hx)
  refine ⟨fun hring hdue hp => ?_, fun hidle => hnext _ ?_⟩
  · obtain ⟨u, hsent, hat, hports, hsend⟩ := heartbeatSend_sends hring hdue hp
    refine ⟨_, hnext _ hsend, ?_, ?_, ?_, fun q hq => ?_⟩
    · rw [queueOwn_rest, ← hsent]
    · rw [queueOwn_rest, ← hat]
    · rw [queueOwn_own_same, State.port, hports]; rfl
    · rw [queueOwn_port_other u _ hq, State.port, hports]; rfl
  · have hstop : (!s.isRing || !(s.due s.red.sentAt 5000000)) = true := by rcases hidle with h | h <;> simp [h]
    unfold State.heartbeatSend
    rw [if_pos hstop]

/-- A cell that comes takes no time. -/
theorem peerCell_now {s a : State} {p msg : Nat} {c : Cell} (h : PeerCell s a p c msg) : a.now = s.now := by rw [h.here, cellArrives_rest]

/-- A heartbeat of the peer, heard: before what it makes the head do. -/
def heardFrom (a : State) (c : Cell) : State :=
  ({ a with red := { a.red with heardAt := some a.now, peer := leAt c.payload 1 1, peerSince := layAt c.payload 16, peerEpoch := leAt c.payload 8 4 } } : State).judgeStale

/-- A head judges nothing but since when its checkpoint is behind. -/
theorem judgeStale_red (s : State) : ∃ x, s.judgeStale.red = { s.red with staleAt := x } := ⟨_, rfl⟩

theorem heardFrom_red (a : State) (c : Cell) : ∃ x, (heardFrom a c).red =
    { a.red with heardAt := some a.now, peer := leAt c.payload 1 1, peerSince := layAt c.payload 16, peerEpoch := leAt c.payload 8 4, staleAt := x } := ⟨_, rfl⟩

theorem spent_red (s : State) (p : Nat) : (s.spent p).red = s.red := rfl

theorem spent_own (a : State) (p q : Nat) : ((a.spent p).port q).own = (a.port q).own := by
  by_cases hqp : q = p
  · subst hqp
    simp [State.spent, State.setPort, State.port, smGet_smPut_same]
  · simp [State.spent, State.setPort, State.port, smGet_smPut_other _ _ _ hqp]

theorem heardFrom_rest (a : State) (c : Cell) : heardFrom a c = { a with red := (heardFrom a c).red } := rfl

/-- Has a head been joining for 1 s? -/
def joinedLong (a : State) : Bool := match a.joinedAt with
  | some t => a.past t 1000000000
  | none => false

/-- Does an active head yield to its active peer (R409)? -/
def yields (a : State) (c : Cell) : Bool :=
  a.pw Ob.red_head_state = 1 && leAt c.payload 1 1 = 1 && (layAt c.payload 16 < a.pw Ob.red_active_since || (a.pw Ob.red_active_since = layAt c.payload 16 && a.pw Ob.red_peer_node < a.pw Ob.node_id))

/-- Has the peer become STANDBY with this cell? -/
def becomesStandby (a : State) (c : Cell) : Bool := leAt c.payload 1 1 = 2 && (a.red.peer ≠ 2 || a.red.heardAt.isNone)

/-- What a heartbeat of the peer does. -/
theorem heartbeatIn_heard {a : State} {c : Cell} (h : a.fromPeer c = true) : a.heartbeatIn c =
    if (joinedLong a && (leAt c.payload 1 1 = 1 || leAt c.payload 1 1 = 3)) = true then (heardFrom a c).set Ob.red_head_state 2
    else if yields a c = true then (heardFrom a c).set Ob.red_head_state 2
    else if becomesStandby a c = true then (heardFrom a c).sendCkpt (heardFrom a c) 0 ((heardFrom a c).pw Ob.commit_epoch)
    else heardFrom a c := by
  unfold State.heartbeatIn
  rw [if_neg (by rw [h]; exact Bool.false_ne_true)]
  rfl

theorem heartbeatIn_red {a : State} {c : Cell} (h : a.fromPeer c = true) : (a.heartbeatIn c).red = (heardFrom a c).red := by
  rw [heartbeatIn_heard h]
  split
  · rfl
  · split
    · rfl
    · split
      · rw [(peerSent_sendCkpt (heardFrom a c) (heardFrom a c) 0 ((heardFrom a c).pw Ob.commit_epoch)).rest]
      · rfl

theorem heartbeatHeard : Claims.heartbeatHeard := by
  intro s a p c h
  have hrow : exec (.heartbeat p c) s = .next ((a.heartbeatIn c).spent p) := by
    refine congrArg Host.Outcome.next ((peerCell_row h (by simp [h.cls, h.kind, h.msg_])).trans ?_)
    simp only [State.journalCellIn, h.msg_]
  obtain ⟨x, hheard⟩ := heardFrom_red a c
  have hred := (spent_red (a.heartbeatIn c) p).trans ((heartbeatIn_red h.peer).trans hheard)
  have hpw : ∀ k, ((a.heartbeatIn c).spent p).pw k = (a.heartbeatIn c).pw k := fun k => nat_of_objs (spent_objs (a.heartbeatIn c) p) 0 k
  have hstandby : ((heardFrom a c).set Ob.red_head_state 2).pw Ob.red_head_state = 2 := nat_put_same (heardFrom a c) 0 Ob.red_head_state 2
  have hjoined : a.joinedAt = none → joinedLong a = false := fun hj => by simp [joinedLong, hj]
  refine ⟨_, hrow, ?_, ?_, ?_, ?_, fun hactive hst hlater => ?_, fun q hactive hst hpeer hq => ?_, fun t0 hj hpast hst => ?_, fun hst hj => ?_⟩
  · rw [hred, ← peerCell_now h]
  · rw [hred]
  · rw [hred]
  · rw [hred]
  · have hyield : yields a c = true := by
      simp only [yields, hactive, hst, decide_true, Bool.true_and, Bool.or_eq_true, Bool.and_eq_true, decide_eq_true_eq]
      exact hlater.imp id (fun ⟨he, hn⟩ => ⟨he.symm, hn⟩)
    rw [hpw, heartbeatIn_heard h.peer, hyield, if_pos rfl, ite_self]
    exact hstandby
  · have hring : a.isRing = true := by
      have := h.peer
      simp only [State.fromPeer, Bool.and_eq_true] at this
      exact this.1.1
    have hserving : (joinedLong a && (leAt c.payload 1 1 = 1 || leAt c.payload 1 1 = 3)) = false := by simp [hst]
    have hkeeps : yields a c = false := by simp [yields, hst]
    have hbecomes : becomesStandby a c = true := by simp [becomesStandby, hst, hpeer]
    have hsend : a.heartbeatIn c = (heardFrom a c).sendCkpt (heardFrom a c) 0 ((heardFrom a c).pw Ob.commit_epoch) := by
      rw [heartbeatIn_heard h.peer, hserving, hkeeps, hbecomes, if_neg Bool.false_ne_true, if_neg Bool.false_ne_true, if_pos rfl]
    obtain ⟨r, hr⟩ : ∃ r, heardFrom a c = { a with red := r } := ⟨_, heardFrom_rest a c⟩
    rw [spent_own, hsend, hr]
    exact own_sendCkpt (s := { a with red := r }) { a with red := r } 0 _ hring hactive hq
  · have hlong : joinedLong a = true := by simp [joinedLong, hj, hpast]
    rw [hpw, heartbeatIn_heard h.peer, if_pos (by simpa [hlong] using hst)]
    exact hstandby
  · have hlong := hjoined hj
    have hstays : becomesStandby a c = false := by
      simp only [becomesStandby, Bool.and_eq_false_iff, Bool.or_eq_false_iff, decide_eq_false_iff_not, ne_eq, not_not]
      rcases hst with hst | ⟨hpeer, hheard⟩
      · exact .inl hst
      · exact .inr ⟨hpeer, by cases hat : a.red.heardAt with
        | none => exact absurd hat hheard
        | some _ => rfl⟩
    have heq : a.heartbeatIn c = if yields a c = true then (heardFrom a c).set Ob.red_head_state 2 else heardFrom a c := by
      rw [heartbeatIn_heard h.peer, hlong, hstays]
      rfl
    refine ⟨fun hkeep => ?_, ?_⟩
    · have hno : yields a c = false := by
        by_contra hy
        simp only [yields, Bool.not_eq_false, Bool.and_eq_true, Bool.or_eq_true, decide_eq_true_eq] at hy
        obtain ⟨⟨hactive, hserves⟩, hlater⟩ := hy
        omega
      rw [spent_objs, heq, hno]
      rfl
    · have hrest : a.heartbeatIn c = { a with objs := (a.heartbeatIn c).objs, red := (a.heartbeatIn c).red } := by
        rw [heq, heardFrom_rest]
        split <;> rfl
      generalize a.heartbeatIn c = v at hrest ⊢
      rw [hrest]
      rfl

/-! Checkpoints -/

theorem segmentKept : Claims.segmentKept := by
  intro s a p c h
  have hrow : exec (.ckptSeg p c) s = .next ((a.ckptSeg c).spent p) := by
    refine congrArg Host.Outcome.next ((peerCell_row h (by simp [h.cls, h.kind, h.msg_])).trans ?_)
    simp only [State.journalCellIn, h.msg_]
  rw [hrow]
  refine ⟨fun hstate => ?_, fun hstate => ?_⟩
  · have hgo : (!a.fromPeer c || decide (a.pw Ob.red_head_state ≠ 2)) = false := by simp [h.peer, hstate]
    unfold State.ckptSeg
    rw [if_neg (by rw [hgo]; exact Bool.false_ne_true)]
    rfl
  · have hstop : (!a.fromPeer c || decide (a.pw Ob.red_head_state ≠ 2)) = true := by simp [hstate]
    unfold State.ckptSeg
    rw [if_pos hstop]

theorem checkpointAcked : Claims.checkpointAcked := by
  intro s a p c h
  refine congrArg Host.Outcome.next ((peerCell_row h (by simp [h.cls, h.kind, h.msg_])).trans ?_)
  simp only [State.journalCellIn, h.msg_, State.ckptAck, h.peer, if_true]
  rfl

theorem checkpointStale : Claims.checkpointStale := by
  intro s hup
  have hnext : ∀ x, s.ckptStale = x → exec .ckptStale s = .next x := fun x hx => congrArg Host.Outcome.next ((run_up hup _).trans hx)
  refine ⟨fun t0 hstale hpast => ⟨_, hnext (s.raise 0 Ob.red_flags 8) ?_, raise_on s 0 Ob.red_flags 8 0 not_reportKey_full, raise_red ..⟩, fun hnone => hnext _ ?_⟩
  · simp only [State.ckptStale, hstale, hpast, if_true]
  · simp only [State.ckptStale, hnone]

theorem epoch_shown_rest (u : State) (n : Nat) : (u.set Ob.red_ckpt_epoch n).judgeStale =
    { u with objs := ((u.set Ob.red_ckpt_epoch n).judgeStale).objs, red := ((u.set Ob.red_ckpt_epoch n).judgeStale).red } := rfl

theorem epoch_shown (u : State) (n : Nat) : (u.set Ob.red_ckpt_epoch n).judgeStale.pw Ob.red_ckpt_epoch = n :=
  (nat_put_same u 0 Ob.red_ckpt_epoch (n : Int)).trans (Int.toNat_natCast n)

theorem epoch_shown_objs (u : State) (n : Nat) : ObjsBut u (u.set Ob.red_ckpt_epoch n).judgeStale fun j => j = Ob.red_ckpt_epoch :=
  objsBut_mono (objsBut_put u 0 Ob.red_ckpt_epoch n) fun _ h => h.trans (fullKey_part _)

/-- A checkpoint taken (R411): its sources are in force, its epoch is shown, and it is the one held. -/
theorem ckptTake_takes (a : State) (k : Nat × Nat × List Byte) : (a.ckptTake k).pw Ob.red_ckpt_epoch = k.2.1 ∧ (a.ckptTake k).red.ckpt = some k ∧ (a.ckptTake k).red.segs = a.red.segs ∧
    ObjsBut a (a.ckptTake k) (fun j => (0x4400 ≤ j / 256 ∧ j / 256 ≤ 0x443F) ∨ j = Ob.red_ckpt_epoch) ∧ a.ckptTake k = { a with objs := (a.ckptTake k).objs, red := (a.ckptTake k).red } := by
  have hforced := ckptForce_forces ({ a with red := { a.red with ckpt := some k } } : State) k.2.2 0x4400 0x443F
  unfold State.ckptTake
  generalize ({ a with red := { a.red with ckpt := some k } } : State).ckptForce k.2.2 0x4400 0x443F = u at hforced
  obtain ⟨hobjs, hrest⟩ := hforced
  obtain ⟨x, hjudged⟩ := judgeStale_red (u.set Ob.red_ckpt_epoch k.2.1)
  have hred : (u.set Ob.red_ckpt_epoch k.2.1).judgeStale.red = { a.red with ckpt := some k, staleAt := x } := by
    rw [hjudged, hrest]
    rfl
  refine ⟨epoch_shown u k.2.1, by rw [hred], by rw [hred], ?_, ?_⟩
  · refine objsBut_trans (t := u) (objsBut_mono hobjs fun _ h => .inl h) ?_
    exact objsBut_mono (epoch_shown_objs u k.2.1) fun _ h => .inr h
  · exact (epoch_shown_rest u k.2.1).trans (congrArg (fun v : State => { v with objs := (u.set Ob.red_ckpt_epoch k.2.1).judgeStale.objs, red := (u.set Ob.red_ckpt_epoch k.2.1).judgeStale.red }) hrest)

theorem routeKey_not_taken {k : Nat} (h : routeKey k) : ¬ ((0x4400 ≤ k / 256 ∧ k / 256 ≤ 0x443F) ∨ k = Ob.red_ckpt_epoch) := by
  rintro (hr | hr)
  · obtain rfl | rfl | ⟨die, p, rfl⟩ := h
    · exact absurd hr (by decide)
    · exact absurd hr (by decide)
    · have hp : p % 16 < 16 := Nat.mod_lt _ (by decide)
      simp only [fullKey, Ob.port_role] at hr; omega
  · exact routeKey_ne_red h (by decide) (by decide) hr

/-- The checkpoint that a CKPT_END of the peer closes. -/
def endedCkpt (a : State) (c : Cell) : Nat × Nat × List Byte := (leAt c.payload 4 4, leAt c.payload 8 4, (List.range (leAt c.payload 12 4)).flatMap fun i => smGet [] a.red.segs i)

/-- A standby that keeps a whole checkpoint, before it acknowledges it. -/
def keepsCkpt (a : State) (c : Cell) : State :=
  let s1 := { a with red := { a.red with segs := [] } }
  if leAt c.payload 4 4 = 0 then s1.ckptTake (endedCkpt a c) else { s1 with red := { s1.red with tagged := some (endedCkpt a c) } }

theorem ckptEnd_whole {a : State} {c : Cell} (hpeer : a.fromPeer c = true) (hstate : a.pw Ob.red_head_state = 2) (hall : ∀ i, i < leAt c.payload 12 4 → smGet [] a.red.segs i ≠ []) :
    a.ckptEnd c = (keepsCkpt a c).sendPeer 4 (leAt c.payload 4 4) (leAt c.payload 8 4) (leAt c.payload 12 4) a.layNow [] := by
  have hgo : (!a.fromPeer c || decide (a.pw Ob.red_head_state ≠ 2)) = false := by simp [hpeer, hstate]
  have hwhole : ((List.range (leAt c.payload 12 4)).any fun i => (smGet [] a.red.segs i).isEmpty) = false := by
    simp only [List.any_eq_false, List.mem_range, List.isEmpty_iff]
    exact hall
  unfold State.ckptEnd
  rw [if_neg (by rw [hgo]; exact Bool.false_ne_true)]
  extract_lets n id k
  rw [if_neg (by rw [hwhole]; exact Bool.false_ne_true)]
  rfl

theorem keepsCkpt_keeps (a : State) (c : Cell) : (keepsCkpt a c).red.segs = [] ∧ (leAt c.payload 4 4 = 0 → (keepsCkpt a c).pw Ob.red_ckpt_epoch = leAt c.payload 8 4 ∧ (keepsCkpt a c).red.ckpt = some (endedCkpt a c)) ∧
    (leAt c.payload 4 4 ≠ 0 → (keepsCkpt a c).red.tagged = some (endedCkpt a c) ∧ (keepsCkpt a c).red.ckpt = a.red.ckpt) := by
  obtain ⟨hepoch, hheld, hsegs, -, -⟩ := ckptTake_takes { a with red := { a.red with segs := [] } } (endedCkpt a c)
  unfold keepsCkpt
  dsimp only
  generalize ({ a with red := { a.red with segs := [] } } : State).ckptTake (endedCkpt a c) = u at hepoch hheld hsegs
  split
  · next hid => exact ⟨hsegs, fun _ => ⟨hepoch, hheld⟩, fun hne => absurd hid hne⟩
  · next hid => exact ⟨rfl, fun h0 => absurd h0 hid, fun _ => ⟨rfl, rfl⟩⟩

theorem keepsCkpt_frame (a : State) (c : Cell) : ObjsBut a (keepsCkpt a c) (fun j => (0x4400 ≤ j / 256 ∧ j / 256 ≤ 0x443F) ∨ j = Ob.red_ckpt_epoch) ∧
    keepsCkpt a c = { a with objs := (keepsCkpt a c).objs, red := (keepsCkpt a c).red } := by
  unfold keepsCkpt
  dsimp only
  split
  · obtain ⟨-, -, -, hobjs, hrest⟩ := ckptTake_takes { a with red := { a.red with segs := [] } } (endedCkpt a c)
    generalize ({ a with red := { a.red with segs := [] } } : State).ckptTake (endedCkpt a c) = u at hobjs hrest ⊢
    exact ⟨hobjs, hrest⟩
  · exact ⟨objsBut_of_eq rfl, rfl⟩

theorem checkpointEnds : Claims.checkpointEnds := by
  intro s a p q n c h hstate hn
  subst hn
  have hrow : exec (.ckptEnd p c) s = .next ((a.ckptEnd c).spent p) := by
    refine congrArg Host.Outcome.next ((peerCell_row h (by simp [h.cls, h.kind, h.msg_])).trans ?_)
    simp only [State.journalCellIn, h.msg_]
  refine ⟨fun hall hq => ?_, fun hgap => ?_⟩
  · obtain ⟨hobjs, hrest⟩ := keepsCkpt_frame a c
    have hpeer : (keepsCkpt a c).pw Ob.red_peer_node = a.pw Ob.red_peer_node := objsBut_pw hobjs (by decide)
    have hport : (keepsCkpt a c).ownPort ((keepsCkpt a c).pw Ob.red_peer_node) = some q := by
      rw [hpeer, ← hq]
      exact ownPort_of hobjs (fun k => routeKey_not_taken) (by rw [hrest]) (by rw [hrest]) _
    have hkept := keepsCkpt_keeps a c
    have hports : (keepsCkpt a c).ports = a.ports := by rw [hrest]
    rw [hrow, ckptEnd_whole h.peer hstate hall]
    generalize keepsCkpt a c = u at hport hkept hpeer hports
    obtain ⟨hsegs, htake, htag⟩ := hkept
    have hsent := peerSent_sendPeer u 4 (leAt c.payload 4 4) (leAt c.payload 8 4) (leAt c.payload 12 4) a.layNow []
    have hown := sendPeer_own (peerSent_refl u) hport 4 (leAt c.payload 4 4) (leAt c.payload 8 4) (leAt c.payload 12 4) a.layNow []
    generalize u.sendPeer 4 (leAt c.payload 4 4) (leAt c.payload 8 4) (leAt c.payload 12 4) a.layNow [] = t at hsent hown
    have hred : t.red = u.red := by rw [hsent.rest]
    have hepoch : t.pw Ob.red_ckpt_epoch = u.pw Ob.red_ckpt_epoch := objsBut_pw hsent.objs fun hk => hk.elim (not_reportKey (by decide)) (by decide)
    refine ⟨_, rfl, (congrArg RedSt.segs hred).trans hsegs, fun h0 => ?_, fun hne => ?_, u.ringBytes 4 (leAt c.payload 4 4) (leAt c.payload 8 4) (leAt c.payload 12 4) a.layNow [], ?_, ?_⟩
    · obtain ⟨hshown, hheld⟩ := htake h0
      refine ⟨hepoch.trans hshown, (congrArg RedSt.ckpt hred).trans (hheld.trans ?_)⟩
      simp only [endedCkpt, h0]
    · obtain ⟨htagged, hheld⟩ := htag hne
      exact ⟨(congrArg RedSt.tagged hred).trans htagged, (congrArg RedSt.ckpt hred).trans hheld⟩
    · rw [spent_own, hown, hpeer, State.port, hports]
      rfl
    · exact (by decide : ofLe [byteOf 4] = 4)
  · have hgo : (!a.fromPeer c || decide (a.pw Ob.red_head_state ≠ 2)) = false := by simp [h.peer, hstate]
    have hmissing : ((List.range (leAt c.payload 12 4)).any fun i => (smGet [] a.red.segs i).isEmpty) = true := by
      obtain ⟨i, hi, hempty⟩ := hgap
      exact List.any_eq_true.2 ⟨i, List.mem_range.2 hi, by rw [hempty]; rfl⟩
    rw [hrow]
    unfold State.ckptEnd
    rw [if_neg (by rw [hgo]; exact Bool.false_ne_true)]
    extract_lets n id k
    rw [if_pos hmissing]

/-- Settles O40: the rows of the ring, each by what it sends and what it keeps. -/
theorem ringHeadsExchangeCheckpoints : Obligations.RingHeadsExchangeCheckpoints :=
  ⟨ringHeartbeat, heartbeatHeard, segmentKept, checkpointEnds, checkpointAcked, checkpointStale⟩

end Sys2Proof.Proofs
end

section
/-! Trims and sensors: the converters that move, the sensors judged afresh, a conversion (R449-R464). -/

namespace Sys2Proof.Proofs

open Sys2Proof.Machine Sys2Proof.Laws Sys2Proof.Claims

/-! Changes of objects alone -/

/-- Of the objects those of a kind at most change, and nothing else. -/
structure ObjsOnly (p : Nat → Prop) (s t : State) : Prop where
  objs : ObjsBut s t p
  rest : t = { s with objs := t.objs }

theorem objsOnly_refl (p : Nat → Prop) (s : State) : ObjsOnly p s s := ⟨objsBut_refl _ _, rfl⟩

theorem objsOnly_trans {p : Nat → Prop} {s t u : State} (h : ObjsOnly p s t) (k : ObjsOnly p t u) : ObjsOnly p s u := ⟨objsBut_trans h.objs k.objs, by rw [k.rest, h.rest]⟩

theorem objsOnly_mono {p q : Nat → Prop} {s t : State} (h : ObjsOnly p s t) (hpq : ∀ k, p k → q k) : ObjsOnly q s t := ⟨objsBut_mono h.objs hpq, h.rest⟩

theorem objsOnly_put {p : Nat → Prop} (s : State) (die key : Nat) (v : Int) (h : p (fullKey die key)) : ObjsOnly p s (s.put die key v) :=
  ⟨objsBut_mono (objsBut_put s die key v) fun _ hk => hk ▸ h, rfl⟩

theorem objsOnly_each {α : Type} {p : Nat → Prop} (l : List α) (f : α → State → State) (hf : ∀ a ∈ l, ∀ s, ObjsOnly p s (f a s)) (s : State) : ObjsOnly p s (s.each l f) := by
  induction l generalizing s with
  | nil => exact objsOnly_refl p s
  | cons a l ih => exact objsOnly_trans (hf a List.mem_cons_self s) (ih (fun b hb => hf b (List.mem_cons_of_mem _ hb)) _)

/-! The sensors and trims of a die -/

theorem thermOf_setTherm_same (s : State) (die : Nat) (f : ThermSt → ThermSt) : (s.setTherm die f).thermOf die = f (s.thermOf die) := smGet_smPut_same ..

theorem setTherm_rest (s : State) (die : Nat) (f : ThermSt → ThermSt) : s.setTherm die f = { s with therm := (s.setTherm die f).therm } := rfl

theorem thermOf_of_therm {s t : State} (h : t.therm = s.therm) (die : Nat) : t.thermOf die = s.thermOf die := by simp only [State.thermOf, h]

/-- A run of entries put under their own keys. -/
theorem smGet_foldl_smPut {α : Type} [DecidableEq α] (d : α) (f : Nat → α) (l : List Nat) (n : Nat) : ∀ m : SMap α, n ∈ l ∨ smGet d m n = f n → smGet d (l.foldl (fun m i => smPut d m i (f i)) m) n = f n := by
  induction l with
  | nil => exact fun m h => h.resolve_left List.not_mem_nil
  | cons i l ih =>
    refine fun m h => ih _ ?_
    by_cases hi : n = i
    · exact .inr (hi ▸ smGet_smPut_same ..)
    · exact h.imp (fun hmem => (List.mem_cons.1 hmem).resolve_left hi) fun hm => (smGet_smPut_other _ _ _ hi).trans hm

/-! Converters (R460-R464) -/

/-- A converter that is neither a lane's swing nor a group's current. -/
def fixedBase (n : Nat) : Prop := 8 ≤ n ∧ n < 26

/-- Its target does not depend on the objects. -/
theorem trimTarget_fixed (s : State) (die : Nat) {n : Nat} (h : fixedBase n) : s.trimTarget die n = (clampInt 0 1023 (Config.trimBase die n + smGet 0 (s.thermOf die).offs n)).toNat := by
  obtain ⟨hlo, hhi⟩ := h
  have hrest : s.irefRests die n = false := by simp [State.irefRests, Nat.not_le.2 hhi]
  simp only [State.trimTarget, hrest, Bool.false_eq_true, if_false, State.trimBase, Nat.not_lt.2 hlo, Nat.not_le.2 hhi, Bool.and_eq_true, decide_eq_true_eq, false_and]

theorem trimTarget_of_therm {s t : State} {die : Nat} (h : (t.thermOf die).offs = (s.thermOf die).offs) {n : Nat} (hn : fixedBase n) : t.trimTarget die n = s.trimTarget die n := by
  rw [trimTarget_fixed t die hn, trimTarget_fixed s die hn, h]

theorem trimTarget_le (s : State) (die n : Nat) : s.trimTarget die n ≤ 1023 := by
  unfold State.trimTarget
  split
  · exact Nat.zero_le _
  · have : ∀ x : Int, (clampInt 0 1023 x).toNat ≤ 1023 := fun x => by unfold clampInt; omega
    exact this _

theorem trimStep_same (s : State) (die n step : Nat) : (s.trimStep die n step).nat die (Ob.trim_code + n) = toward (s.nat die (Ob.trim_code + n)) (s.trimTarget die n) step :=
  (nat_put_same s die (Ob.trim_code + n) _).trans (Int.toNat_natCast _)

theorem trimStep_other (s : State) (die step : Nat) {n m : Nat} (h : n ≠ m) : (s.trimStep die m step).nat die (Ob.trim_code + n) = s.nat die (Ob.trim_code + n) :=
  nat_put_other _ _ _ _ _ _ (by simp only [fullKey]; omega)

/-- A run of such converters: each moves by a step toward its target. -/
theorem trims_each (die step : Nat) {l : List Nat} (hl : l.Nodup) (hfixed : ∀ n ∈ l, fixedBase n) : ∀ (s : State) (n : Nat), n ∈ l →
    (s.each l fun n s => s.trimStep die n step).nat die (Ob.trim_code + n) = toward (s.nat die (Ob.trim_code + n)) (s.trimTarget die n) step := by
  have hkept : ∀ (l : List Nat) (s : State) (n : Nat), n ∉ l → (s.each l fun n s => s.trimStep die n step).nat die (Ob.trim_code + n) = s.nat die (Ob.trim_code + n) := by
    intro l
    induction l with
    | nil => exact fun s n _ => rfl
    | cons m l ih =>
      intro s n hn
      exact (ih _ n fun hl => hn (List.mem_cons_of_mem _ hl)).trans (trimStep_other s die step fun hm => hn (hm ▸ List.mem_cons_self))
  induction l with
  | nil => exact fun s n h => absurd h List.not_mem_nil
  | cons m l ih =>
    obtain ⟨hm, hnodup⟩ := List.nodup_cons.1 hl
    intro s n hn
    show ((s.trimStep die m step).each l fun n s => s.trimStep die n step).nat die (Ob.trim_code + n) = _
    by_cases hnm : n = m
    · subst hnm
      rw [hkept l _ n hm, trimStep_same]
    · have htarget : (s.trimStep die m step).trimTarget die n = s.trimTarget die n := trimTarget_of_therm (s := s) (t := s.trimStep die m step) (die := die) rfl (hfixed n hn)
      rw [ih hnodup (fun n hn => hfixed n (List.mem_cons_of_mem _ hn)) _ n ((List.mem_cons.1 hn).resolve_left hnm), trimStep_other s die step hnm, htarget]

/-- What a run of converters may change. -/
theorem trims_frame (die step : Nat) (p : State → Nat → Bool) (l : List Nat) (s : State) :
    ObjsOnly (fun k => ∃ n ∈ l, k = fullKey die (Ob.trim_code + n)) s (s.each l fun n s => if p s n then s.trimStep die n step else s) := by
  refine objsOnly_each l _ (fun n hn s => ?_) s
  split
  · exact objsOnly_put s die _ _ ⟨n, hn, rfl⟩
  · exact objsOnly_refl _ s

/-- A converter that may move freely reaches its target. -/
theorem toward_freely {v goal : Nat} (hv : v ≤ 1023) (hgoal : goal ≤ 1023) : toward v goal 1023 = goal := by
  unfold toward
  split <;> omega

theorem trimsEvaluated : Claims.trimsEvaluated := by
  intro s die h
  have halive := h.2
  have hnext : ∀ x, s.trimEvaluate die = x → exec (.trimEvaluate die) s = .next x := fun x hx => congrArg Host.Outcome.next ((onDie_upDie h _).trans hx)
  refine ⟨fun hdue => ?_, fun hdue => hnext s (by simp [State.trimEvaluate, hdue])⟩
  have hgo : (!(s.alive die) || !(s.due (s.thermOf die).evalAt 10000000)) = false := by simp [halive, hdue]
  refine ⟨_, hnext _ rfl, ?_⟩
  unfold State.trimEvaluate
  rw [if_neg (by rw [hgo]; exact Bool.false_ne_true)]
  extract_lets found
  obtain ⟨hobjs, hrest⟩ := trims_frame die 1023 (fun s n => s.trimAtOnce die n) (List.range 30) found
  have htherm : (found.each (List.range 30) fun n s => if s.trimAtOnce die n then s.trimStep die n 1023 else s).thermOf die = found.thermOf die := thermOf_of_therm (by rw [hrest]) die
  have hfound : found.thermOf die = _ := thermOf_setTherm_same s die _
  refine ⟨?_, fun n hn => ?_, objsBut_mono (objsBut_trans (t := found) (objsBut_of_eq rfl) hobjs) fun k ⟨n, hn, hk⟩ => ⟨n, List.mem_range.1 hn, .inl hk⟩, ?_⟩
  · rw [htherm, hfound]
  · rw [htherm, hfound]
    exact smGet_foldl_smPut 0 _ _ n _ (.inl (List.mem_range.2 hn))
  · have hset : found = { s with therm := found.therm } := setTherm_rest s die _
    generalize found.each (List.range 30) (fun n s => if s.trimAtOnce die n then s.trimStep die n 1023 else s) = t at hrest
    have htherms : t.therm = found.therm := by rw [hrest]
    rw [htherms]
    exact hrest.trans (congrArg (fun u : State => { u with objs := t.objs }) hset)

theorem pllTrimSteps : Claims.pllTrimSteps := by
  intro s die h
  have halive := h.2
  have hnext : ∀ x, s.trimPll die = x → exec (.trimPllStep die) s = .next x := fun x hx => congrArg Host.Outcome.next ((onDie_upDie h _).trans hx)
  refine ⟨fun hdue => ?_, fun hdue => hnext s (by simp [State.trimPll, hdue])⟩
  have hgo : s.trimPll die = (s.setTherm die fun t => { t with pllAt := some s.now }).each [16, 17, 18, 19] fun n s => s.trimStep die n 1 := by
    simp only [State.trimPll, halive, hdue, Bool.not_true, Bool.or_self, Bool.false_eq_true, if_false]
  refine ⟨_, hnext _ hgo, fun n hlo hhi => ?_, ?_⟩
  · have hmem : n ∈ [16, 17, 18, 19] := by simp only [List.mem_cons, List.not_mem_nil]; omega
    have htarget : (s.setTherm die fun t => { t with pllAt := some s.now }).trimTarget die n = s.trimTarget die n :=
      trimTarget_of_therm (s := s) (die := die) (by rw [thermOf_setTherm_same]) ⟨by omega, by omega⟩
    refine (trims_each die 1 (by decide) (by simp only [fixedBase]; decide) _ n hmem).trans ?_
    rw [htarget]
    rfl
  · obtain ⟨hobjs, hrest⟩ := trims_frame die 1 (fun _ _ => true) [16, 17, 18, 19] (s.setTherm die fun t => { t with pllAt := some s.now })
    simp only [if_true] at hobjs hrest
    refine ⟨objsBut_mono (objsBut_trans (t := s.setTherm die fun t => { t with pllAt := some s.now }) (objsBut_of_eq rfl) hobjs) fun k ⟨n, hn, hk⟩ => ?_, by rw [hrest]; rfl⟩
    simp only [List.mem_cons, List.not_mem_nil, or_false] at hn
    exact ⟨n, by omega, by omega, .inl hk⟩

theorem offsetsReach : Claims.offsetsReach := by
  intro s die h hcodes
  have halive := h.2
  have hnext : ∀ x, s.trimIdle die = x → exec (.idleConversionSlot die) s = .next x := fun x hx => congrArg Host.Outcome.next ((onDie_upDie h _).trans hx)
  refine ⟨fun hopen => ?_, fun h6 h7 => hnext s (by simp [State.trimIdle, h6, h7])⟩
  have hgo : ∃ k, s.trimIdle die = (s.slotRun die k).each [20, 21, 22, 23, 24, 25] fun n s => s.trimStep die n 1023 := by
    have : (s.alive die && (s.slotOpen die 6 || s.slotOpen die 7)) = true := by simp [halive, hopen]
    exact ⟨_, by unfold State.trimIdle; rw [if_pos this]⟩
  obtain ⟨k, hgo⟩ := hgo
  refine ⟨_, hnext _ hgo, fun n hlo hhi => ?_, ?_⟩
  · have hmem : n ∈ [20, 21, 22, 23, 24, 25] := by simp only [List.mem_cons, List.not_mem_nil]; omega
    have htarget : (s.slotRun die k).trimTarget die n = s.trimTarget die n := trimTarget_of_therm (s := s) (die := die) (by rw [State.slotRun, thermOf_setTherm_same]) ⟨by omega, by omega⟩
    refine (trims_each die 1023 (by decide) (by simp only [fixedBase]; decide) _ n hmem).trans ?_
    rw [htarget]
    exact toward_freely (hcodes n hlo hhi) (trimTarget_le s die n)
  · obtain ⟨hobjs, hrest⟩ := trims_frame die 1023 (fun _ _ => true) [20, 21, 22, 23, 24, 25] (s.slotRun die k)
    simp only [if_true] at hobjs hrest
    refine ⟨objsBut_mono (objsBut_trans (t := s.slotRun die k) (objsBut_of_eq rfl) hobjs) fun k ⟨n, hn, hk⟩ => ?_, by rw [hrest]; rfl⟩
    simp only [List.mem_cons, List.not_mem_nil, or_false] at hn
    exact ⟨n, by omega, by omega, .inl hk⟩

/-! Sensors judged afresh (R450) -/

theorem bit_clearMask (n m i : Nat) : bit (clearMask n m) i = (bit n i && !(bit m i)) := by
  simp only [bit, clearMask, Nat.testBit_xor, Nat.testBit_and]
  cases n.testBit i <;> cases m.testBit i <;> rfl

theorem brokenCleared : Claims.brokenCleared := by
  intro s a m d die v h hkey hw1c ha hv
  subst ha
  have hwritten : (s.arrived m).clearFlags die Ob.therm_sensor_broken v =
      ((s.arrived m).put die Ob.therm_sensor_broken (clearMask ((s.arrived m).nat die Ob.therm_sensor_broken) v)).sensorsCleared die (v &&& (s.arrived m).nat die Ob.therm_sensor_broken) := by
    have hplain : inKeys Ob.therm_sensor_broken 0x7D00 0x7DFF 6 6 = false := by decide
    have hmask : (decide (Ob.therm_sensor_broken = Ob.compose_flags) && decide (die = 0) && !(s.arrived m).surfacesWhole) = false := by
      rw [show decide (Ob.therm_sensor_broken = Ob.compose_flags) = false by decide]
      rfl
    unfold State.clearFlags
    simp only [hplain, hmask, Bool.false_eq_true, if_false, if_true]
  have hrow : exec (.sensorBrokenClear m) s = .next (((s.arrived m).clearFlags die Ob.therm_sensor_broken v).answer 0x02 m 0 d.ty.code []) := by
    refine congrArg Host.Outcome.next (corrixFor_write_one h (by simp [hkey]) (by rw [hkey]; decide) ?_)
    have hunit := h.unit
    simp only [State.writeOne, hunit, Bool.false_eq_true, if_false, hw1c]
    rw [hv, hkey]
  refine ⟨_, hrow, ?_⟩
  rw [hwritten]
  refine ⟨fun i => ?_, fun i hi hold => ?_, objsBut_put (s.arrived m) die Ob.therm_sensor_broken _, rfl⟩
  · have hnat : ((s.arrived m).put die Ob.therm_sensor_broken (clearMask ((s.arrived m).nat die Ob.therm_sensor_broken) v)).nat die Ob.therm_sensor_broken = clearMask ((s.arrived m).nat die Ob.therm_sensor_broken) v :=
      (nat_put_same ..).trans (Int.toNat_natCast _)
    exact (congrArg (fun n => bit n i) hnat).trans (bit_clearMask ..)
  · rw [State.sensorsCleared, thermOf_setTherm_same]
    refine smGet_unlisted fun e he hei => ?_
    have hclear : bit (v &&& (s.arrived m).nat die Ob.therm_sensor_broken) e.1 = false := by simpa using (List.mem_filter.1 he).2
    rw [hei] at hclear
    simp only [bit, Nat.testBit_and] at hclear
    rw [show v.testBit i = true from hi, show ((s.arrived m).nat die Ob.therm_sensor_broken).testBit i = true from hold] at hclear
    exact absurd hclear (by decide)

end Sys2Proof.Proofs
end

section
/-! A sensor's conversion (R449-R451, R457). -/

namespace Sys2Proof.Proofs

open Sys2Proof.Machine Sys2Proof.Laws Sys2Proof.Claims

/-- A flag that is set stays set where another of its object is raised. -/
theorem raise_on_stays (s : State) {die key j : Nat} (i x : Nat) (h : s.on die key j = true) (hkey : ¬ reportKey (fullKey die key)) : (s.raise die key i x).on die key j = true := by
  rcases raise_after_mark s die key i x with ⟨-, heq⟩ | hreport
  · rw [heq]; exact h
  · have hnat : (s.raise die key i x).nat die key = (s.markFlag die key i).nat die key := objsBut_nat hreport.objs fun hk => hk.elim id hkey
    have hmarked : (s.markFlag die key i).nat die key = s.nat die key ||| 2 ^ i := (nat_put_same ..).trans (Int.toNat_natCast _)
    rw [State.on, hnat, hmarked, bit, Nat.testBit_or, show (s.nat die key).testBit j = true from h, Bool.true_or]

/-! What a conversion leaves of the readings once it has taken them -/

/-- The objects that show readings. -/
def readingPlace (k : Nat) : Prop := (Ob.therm_sensor_c ≤ k ∧ k < Ob.therm_sensor_c + 6) ∨ k = Ob.therm_die_c ∨ k = Ob.therm_sensor_broken

/-- The readings, the flag of a broken sensor and the counts toward shutdown stay. -/
structure ReadingsStay (die : Nat) (s t : State) : Prop where
  shown : ∀ k, readingPlace k → t.int die k = s.int die k
  flag  : s.on die Ob.therm_flags 2 = true → t.on die Ob.therm_flags 2 = true
  overs : (t.thermOf die).overs = (s.thermOf die).overs

theorem readingsStay_refl (die : Nat) (s : State) : ReadingsStay die s s := ⟨fun _ _ => rfl, id, rfl⟩

theorem readingsStay_trans {die : Nat} {s t u : State} (h : ReadingsStay die s t) (k : ReadingsStay die t u) : ReadingsStay die s u :=
  ⟨fun j hj => (k.shown j hj).trans (h.shown j hj), fun hs => k.flag (h.flag hs), k.overs.trans h.overs⟩

theorem readingPlace_lt {k : Nat} (h : readingPlace k) : k < 16777216 ∧ ¬ reportPlaces k ∧ k ≠ Ob.therm_flags := by
  simp only [readingPlace, reportPlaces, Ob.therm_sensor_c, Ob.therm_die_c, Ob.therm_sensor_broken, Ob.therm_flags, Ob.event_seq, Ob.knot_late, Ob.knot_evictions, Ob.knot_undelivered, Ob.fwd_drops,
    Ob.lane_sleep, Ob.lane_state] at h ⊢
  omega

theorem readingsStay_objs {die : Nat} {s t : State} {p : Nat → Prop} (h : ObjsBut s t p) (hp : ∀ k, readingPlace k ∨ k = Ob.therm_flags → ¬ p (fullKey die k)) (hovers : (t.thermOf die).overs = (s.thermOf die).overs) :
    ReadingsStay die s t :=
  ⟨fun k hk => objsBut_int h (hp k (.inl hk)), fun hs => by rw [State.on, objsBut_nat h (hp _ (.inr rfl))]; exact hs, hovers⟩

theorem readingsStay_put {die : Nat} (s : State) (d key : Nat) (v : Int) (hkey : ¬ readingPlace key) (hflags : key ≠ Ob.therm_flags) (hlt : key < 16777216) : ReadingsStay die s (s.put d key v) := by
  refine readingsStay_objs (objsBut_put s d key v) (fun k hk heq => ?_) rfl
  have hklt : k < 16777216 := hk.elim (fun h => (readingPlace_lt h).1) fun h => h ▸ by decide
  obtain ⟨-, rfl⟩ := fullKey_inj hklt hlt heq
  exact hk.elim hkey hflags

theorem readingsStay_raise {die : Nat} (s : State) (d key i x : Nat) (hkey : ¬ readingPlace key) (hlt : key < 16777216) : ReadingsStay die s (s.raise d key i x) := by
  have hother : ∀ k, readingPlace k → fullKey die k ≠ fullKey d key := fun k hk heq => hkey ((fullKey_inj (readingPlace_lt hk).1 hlt heq).2 ▸ hk)
  refine ⟨fun k hk => raise_int_other s i x (hother k hk) (not_reportKey_full (readingPlace_lt hk).2.1 (readingPlace_lt hk).1), fun hs => ?_, ?_⟩
  · by_cases hsame : fullKey die Ob.therm_flags = fullKey d key
    · obtain ⟨rfl, rfl⟩ := fullKey_inj (by decide) hlt hsame
      exact raise_on_stays s i x hs not_reportKey_full
    · rw [State.on, raise_nat_other s i x hsame not_reportKey_full]
      exact hs
  · rw [thermOf_of_therm (raise_therm ..)]

theorem readingsStay_each {α : Type} {die : Nat} (l : List α) (f : α → State → State) (hf : ∀ a ∈ l, ∀ s, ReadingsStay die s (f a s)) (s : State) : ReadingsStay die s (s.each l f) := by
  induction l generalizing s with
  | nil => exact readingsStay_refl die s
  | cons a l ih => exact readingsStay_trans (hf a List.mem_cons_self s) (ih (fun b hb => hf b (List.mem_cons_of_mem _ hb)) _)

theorem readingsStay_when {die : Nat} (s : State) (b : Bool) (f : State → State) (h : ReadingsStay die s (f s)) : ReadingsStay die s (s.when b f) := when_of s b f (readingsStay_refl die s) h

/-- What changes neither objects nor sensors. -/
theorem readingsStay_of {die : Nat} {s t : State} (hobjs : t.objs = s.objs) (htherm : t.therm = s.therm) : ReadingsStay die s t :=
  readingsStay_objs (p := fun _ => False) (objsBut_of_eq hobjs) (fun _ _ => id) (by rw [thermOf_of_therm htherm])

/-! The zones (R281) -/

theorem readingsStay_putZone {die : Nat} (s : State) (d : Nat) {z : Nat} (t : ZoneSt) (hz : z < 64) : ReadingsStay die s (s.putZone d z t) := by
  have hplace : ¬ readingPlace (atIndex Ob.zone_temp z) := by simp only [readingPlace, atIndex, Ob.zone_temp, Ob.therm_sensor_c, Ob.therm_die_c, Ob.therm_sensor_broken]; omega
  have hstore : ReadingsStay die s (s.setTdie d fun e => { e with zones := smPut {} e.zones z t }) := readingsStay_of rfl rfl
  exact readingsStay_trans hstore (readingsStay_put _ d _ _ hplace (by simp only [atIndex, Ob.zone_temp, Ob.therm_flags]; omega) (by simp only [atIndex, Ob.zone_temp]; omega))

theorem readingsStay_zoneUpdate {die : Nat} (s : State) (d : Nat) {z : Nat} (hz : z < 64) : ReadingsStay die s (s.zoneUpdate d z) := by
  unfold State.zoneUpdate
  extract_lets codes vs off back
  have hback : ReadingsStay die s back := readingsStay_when s _ _ (readingsStay_raise s d Ob.corr_flags 0 0 (by unfold readingPlace; decide) (by decide))
  split
  · split
    · exact readingsStay_trans hback (readingsStay_putZone back d _ hz)
    · exact readingsStay_trans hback (readingsStay_putZone back d _ hz)
  · exact readingsStay_putZone s d _ hz

theorem readingsStay_zonesOfSensor {die : Nat} (s : State) (d sensor : Nat) : ReadingsStay die s (s.zonesOfSensor d sensor) := by
  unfold State.zonesOfSensor
  extract_lets hot
  generalize hot = h
  refine readingsStay_each _ _ (fun z hz s => ?_) s
  dsimp only
  split
  · exact readingsStay_zoneUpdate s d (List.mem_range.1 hz)
  · exact readingsStay_refl die s

/-! The journal's window (R429) -/

/-- An object elsewhere in the dictionary is not of a reading. -/
theorem readingsStay_set {die : Nat} (s : State) (key : Nat) (v : Int) (h : key < Ob.therm_sensor_c) : ReadingsStay die s (s.set key v) := by
  simp only [Ob.therm_sensor_c] at h
  exact readingsStay_put s 0 key v (by simp only [readingPlace, Ob.therm_sensor_c, Ob.therm_die_c, Ob.therm_sensor_broken]; omega) (by simp only [Ob.therm_flags]; omega) (by omega)

theorem readingsStay_raisePart {die : Nat} (s : State) (key i x : Nat) (h : key < Ob.therm_sensor_c) : ReadingsStay die s (s.raise 0 key i x) := by
  simp only [Ob.therm_sensor_c] at h
  exact readingsStay_raise s 0 key i x (by simp only [readingPlace, Ob.therm_sensor_c, Ob.therm_die_c, Ob.therm_sensor_broken]; omega) (by omega)

theorem readingsStay_blob {die : Nat} (s : State) (v : Value) : ReadingsStay die s (s.putBlob 0 Ob.upd_bitmap v) := by
  refine readingsStay_objs (p := fun k => k = Ob.upd_bitmap) (fun k hk => smGet_smPut_other _ _ _ ?_) (fun k hk heq => ?_) rfl
  · rw [fullKey_part]
    exact hk
  · simp only [fullKey, Ob.upd_bitmap] at heq
    rcases hk with hk | hk
    · simp only [readingPlace, Ob.therm_sensor_c, Ob.therm_die_c, Ob.therm_sensor_broken] at hk; omega
    · simp only [Ob.therm_flags] at hk; omega

theorem readingsStay_actDone {die : Nat} (s : State) : ReadingsStay die s s.actDone := by
  unfold State.actDone
  extract_lets p upd done blob
  have hdone : ReadingsStay die s done := readingsStay_of rfl rfl
  have hblob : ReadingsStay die done blob := readingsStay_blob done _
  exact readingsStay_trans hdone (readingsStay_trans hblob (readingsStay_trans (readingsStay_set blob Ob.upd_segments 0 (by decide)) (readingsStay_trans (readingsStay_set _ Ob.upd_state 0 (by decide))
    (readingsStay_trans (readingsStay_set _ Ob.upd_image_id 0 (by decide)) (readingsStay_raisePart _ Ob.upd_flags 2 0 (by decide))))))

theorem readingsStay_settleBoot {die : Nat} (s : State) : ReadingsStay die s s.settleBoot := by
  unfold State.settleBoot
  split
  · exact readingsStay_refl die s
  · split
    · exact readingsStay_refl die s
    · extract_lets w toA journal written
      have hwritten : ReadingsStay die s written := readingsStay_of rfl rfl
      exact readingsStay_trans hwritten (readingsStay_when written _ _ (readingsStay_actDone written))

theorem readingsStay_judgeWindow {die : Nat} (s : State) : ReadingsStay die s s.judgeWindow := by
  unfold State.judgeWindow
  extract_lets t ok kept
  have hjudged : ReadingsStay die s ({ s with journal := { s.journal with open_ := ok } } : State) := readingsStay_of rfl rfl
  refine readingsStay_trans hjudged (readingsStay_trans ?_ (readingsStay_settleBoot _))
  unfold State.noteDeferred
  split
  · exact readingsStay_raisePart _ Ob.silt_flags 0 0 (by decide)
  · exact readingsStay_refl die _

/-! The level (R452-R455) -/

theorem readingsStay_setTherm {die : Nat} (s : State) (d : Nat) (f : ThermSt → ThermSt) (hf : ∀ t, (f t).overs = t.overs) : ReadingsStay die s (s.setTherm d f) := by
  refine ⟨fun _ _ => rfl, id, ?_⟩
  by_cases hd : die = d
  · subst hd
    rw [thermOf_setTherm_same, hf]
  · have : (s.setTherm d f).thermOf die = s.thermOf die := smGet_smPut_other _ _ _ hd
    rw [this]

theorem readingsStay_bump {die : Nat} (s : State) (d key n : Nat) (hkey : ¬ readingPlace key) (hflags : key ≠ Ob.therm_flags) (hlt : key < 16777216) : ReadingsStay die s (s.bump d key n) := by
  refine readingsStay_objs (bump_objs s d key n) (fun k hk heq => ?_) (by rw [thermOf_of_therm (bump_therm ..)])
  have hklt : k < 16777216 := hk.elim (fun h => (readingPlace_lt h).1) fun h => h ▸ by decide
  obtain ⟨-, rfl⟩ := fullKey_inj hklt hlt heq
  exact hk.elim hkey hflags

theorem readingsStay_takeLevel {die : Nat} (s : State) (d n : Nat) : ReadingsStay die s (s.takeLevel d n) := by
  unfold State.takeLevel
  extract_lets cur shown flagged
  have hshown : ReadingsStay die s shown := readingsStay_trans (readingsStay_put s d Ob.therm_level n (by unfold readingPlace; decide) (by decide) (by decide)) (readingsStay_of rfl rfl)
  have hflagged : ReadingsStay die s flagged := by
    dsimp only [flagged]
    split
    · exact readingsStay_trans hshown (readingsStay_raise shown d Ob.therm_flags (n - 1) 0 (by unfold readingPlace; decide) (by decide))
    · exact hshown
  split
  · exact readingsStay_trans hflagged (readingsStay_setTherm flagged d _ fun _ => rfl)
  · split
    · split
      · exact readingsStay_trans hflagged (readingsStay_trans (readingsStay_bump flagged d Ob.therm_throttle_ms _ (by unfold readingPlace; decide) (by decide) (by decide)) (readingsStay_setTherm _ d _ fun _ => rfl))
      · exact hflagged
    · exact hflagged

theorem readingsStay_driveTherm {die : Nat} (s : State) (b : Bool) : ReadingsStay die s (s.driveTherm b) := by
  unfold State.driveTherm
  split
  · exact readingsStay_refl die s
  · exact readingsStay_of rfl rfl

/-! The conversion -/

/-- A die with a conversion under way: the reading shown, kept and judged against the limit. -/
def taken (s : State) (die n : Nat) (v : Int) : State :=
  ((s.slotRun die n).put die (Ob.therm_sensor_c + n) v).setTherm die fun t =>
    { t with hist := smPut [] t.hist n (recentReadings s.now (smGet [] t.hist n ++ [(s.now, v)])),
             overs := smPut 0 t.overs n (if s.int 0 Ob.therm_shutdown_c ≤ v then smGet 0 t.overs n + 1 else 0) }

/-- The sensor judged. -/
def judged (s : State) (die n : Nat) (v : Int) : State :=
  s.when (s.sensorOk die n && s.judgedBroken die n v) fun s => (s.orBits die Ob.therm_sensor_broken (2 ^ n)).raise die Ob.therm_flags 2 n

/-- T_die shown. -/
def dieShown (s : State) (die : Nat) : State := (s.when (s.allBroken die) fun s => s.raise die Ob.therm_flags 3).put die Ob.therm_die_c (s.dieTemp die)

/-- What follows: the level, the zones, the journal's window. -/
theorem conversion_runs {s : State} {die n : Nat} {v : Int} (halive : s.alive die = true) (hn : n < 6) (hopen : s.slotOpen die n = true) :
    ReadingsStay die (dieShown (judged (taken s die n v) die n v) die) (s.conversion die n v) := by
  have hgo : (!(s.alive die) || decide (6 ≤ n) || !(s.slotOpen die n)) = false := by simp [halive, hopen, hn]
  unfold State.conversion
  rw [if_neg (by rw [hgo]; exact Bool.false_ne_true)]
  extract_lets on s1 bad s2 s3 s4
  have hstart : dieShown (judged (taken s die n v) die n v) die = s3 := rfl
  rw [hstart]
  have hlevel : ReadingsStay die s3 s4 := readingsStay_takeLevel s3 die _
  refine readingsStay_trans hlevel (readingsStay_trans (readingsStay_zonesOfSensor s4 die n) (readingsStay_trans (readingsStay_driveTherm _ on) ?_))
  exact readingsStay_when _ _ _ (readingsStay_judgeWindow _)

/-- T_die shown leaves the other readings. -/
theorem dieShown_keeps (s : State) (die : Nat) : (∀ k, readingPlace k → k ≠ Ob.therm_die_c → (dieShown s die).int die k = s.int die k) ∧ (dieShown s die).int die Ob.therm_die_c = s.dieTemp die ∧
    (s.on die Ob.therm_flags 2 = true → (dieShown s die).on die Ob.therm_flags 2 = true) ∧ ((dieShown s die).thermOf die).overs = (s.thermOf die).overs := by
  have hraised : ReadingsStay die s (s.when (s.allBroken die) fun s => s.raise die Ob.therm_flags 3) :=
    readingsStay_when s _ _ (readingsStay_raise s die Ob.therm_flags 3 0 (by unfold readingPlace; decide) (by decide))
  refine ⟨fun k hk hne => ?_, int_put_same .., fun hs => ?_, hraised.overs⟩
  · exact (int_put_other _ _ _ _ _ _ fun heq => hne (fullKey_inj (readingPlace_lt hk).1 (by decide) heq).2).trans (hraised.shown k hk)
  · have hkept := hraised.flag hs
    rw [State.on] at hkept ⊢
    rw [dieShown, nat_put_other _ _ _ _ _ _ (fullKey_ne (by decide))]
    exact hkept

theorem taken_reads (s : State) (die n : Nat) (v : Int) (hn : n < 6) : (taken s die n v).int die (Ob.therm_sensor_c + n) = v ∧
    smGet 0 ((taken s die n v).thermOf die).overs n = (if s.int 0 Ob.therm_shutdown_c ≤ v then smGet 0 (s.thermOf die).overs n + 1 else 0) ∧
    (taken s die n v).on die Ob.therm_sensor_broken n = s.on die Ob.therm_sensor_broken n ∧
    smGet [] ((taken s die n v).thermOf die).hist n = recentReadings s.now (smGet [] (s.thermOf die).hist n ++ [(s.now, v)]) := by
  have hslot : ((s.slotRun die n).put die (Ob.therm_sensor_c + n) v).thermOf die = (s.slotRun die n).thermOf die := rfl
  have hovers : ((s.slotRun die n).thermOf die).overs = (s.thermOf die).overs := by rw [State.slotRun, thermOf_setTherm_same]
  have hhist : ((s.slotRun die n).thermOf die).hist = (s.thermOf die).hist := by rw [State.slotRun, thermOf_setTherm_same]
  refine ⟨int_put_same (s.slotRun die n) die _ v, ?_, ?_, ?_⟩
  · rw [taken, thermOf_setTherm_same, hslot, hovers]
    exact smGet_smPut_same ..
  · refine congrArg (fun k => bit k n) ((nat_put_other (s.slotRun die n) die _ die _ v ?_).trans rfl)
    simp only [fullKey, Ob.therm_sensor_c, Ob.therm_sensor_broken]; omega
  · rw [taken, thermOf_setTherm_same, hslot, hhist]
    exact smGet_smPut_same ..

/-- The judgement leaves the temperatures, the counts and the readings kept. -/
theorem judged_keeps (s : State) (die n m : Nat) (v : Int) (hm : m < 6) : (judged s die n v).int die (Ob.therm_sensor_c + m) = s.int die (Ob.therm_sensor_c + m) ∧ (judged s die n v).thermOf die = s.thermOf die := by
  unfold judged
  refine when_of (P := fun t => t.int die (Ob.therm_sensor_c + m) = s.int die (Ob.therm_sensor_c + m) ∧ t.thermOf die = s.thermOf die) s _ _ ⟨rfl, rfl⟩ ⟨?_, ?_⟩
  · have hplace : readingPlace (Ob.therm_sensor_c + m) := .inl ⟨by omega, by omega⟩
    refine (raise_int_other _ 2 n ?_ (not_reportKey_full (readingPlace_lt hplace).2.1 (readingPlace_lt hplace).1)).trans (int_put_other _ _ _ _ _ _ ?_) <;>
      simp only [fullKey, Ob.therm_sensor_c, Ob.therm_flags, Ob.therm_sensor_broken] <;> omega
  · rw [thermOf_of_therm (raise_therm ..)]
    rfl

/-- A sensor out of its range is marked broken and flagged. -/
theorem judged_broken {s : State} {die n : Nat} {v : Int} (hn : n < 6) (hgood : s.on die Ob.therm_sensor_broken n = false) (hv : v < -880 ∨ 2800 < v) :
    (judged s die n v).on die Ob.therm_sensor_broken n = true ∧ (judged s die n v).on die Ob.therm_flags 2 = true := by
  have hout : (decide (v < -880) || decide (2800 < v)) = true := by simpa using hv
  have hjudged : s.judgedBroken die n v = true := by rw [State.judgedBroken, hout, Bool.true_or]
  have hok : s.sensorOk die n = true := by simp [State.sensorOk, hgood, hn]
  unfold judged
  rw [hok, hjudged, Bool.and_self, State.when, if_pos rfl]
  refine ⟨?_, raise_on _ die Ob.therm_flags 2 n not_reportKey_full⟩
  have hnat : ((s.orBits die Ob.therm_sensor_broken (2 ^ n)).raise die Ob.therm_flags 2 n).nat die Ob.therm_sensor_broken = s.nat die Ob.therm_sensor_broken ||| 2 ^ n :=
    (raise_nat_other _ 2 n (fullKey_ne (by decide)) not_reportKey_full).trans ((nat_put_same ..).trans (Int.toNat_natCast _))
  show bit (((s.orBits die Ob.therm_sensor_broken (2 ^ n)).raise die Ob.therm_flags 2 n).nat die Ob.therm_sensor_broken) n = true
  rw [hnat]
  simp [bit]

/-- One whose first reading lies in its range is not. -/
theorem judged_good {s : State} {die n : Nat} {v : Int} {t0 : Nat} (hlo : -880 ≤ v) (hhi : v ≤ 2800) (hfirst : smGet [] (s.thermOf die).hist n = [(t0, v)]) (hnow : t0 = s.now) : judged s die n v = s := by
  have hspan : s.spanOf die n = none := by
    have hyoung : ¬ s.now + 10000000000 ≤ s.now := by omega
    simp only [State.spanOf, hfirst, hnow, List.filter_cons, List.filter_nil]
    simp [hyoung]
  have hgood : s.judgedBroken die n v = false := by
    simp only [State.judgedBroken, hspan, Bool.or_false, Bool.or_eq_false_iff, decide_eq_false_iff_not]
    omega
  unfold judged
  rw [hgood, Bool.and_false]
  rfl

theorem le_foldl_max (l : List Int) : ∀ a : Int, a ≤ l.foldl max a ∧ ∀ b ∈ l, b ≤ l.foldl max a := by
  induction l with
  | nil => exact fun a => ⟨Int.le_refl _, fun b hb => absurd hb List.not_mem_nil⟩
  | cons c l ih =>
    intro a
    obtain ⟨hfirst, hrest⟩ := ih (max a c)
    refine ⟨Int.le_trans (Int.le_max_left a c) hfirst, fun b hb => ?_⟩
    rcases List.mem_cons.1 hb with rfl | hb
    · exact Int.le_trans (Int.le_max_right a b) hfirst
    · exact hrest b hb

/-- T_die is at least what a valid sensor that has converted reads. -/
theorem le_dieTemp {s : State} {die n : Nat} (hok : s.sensorOk die n = true) (hconverted : (smGet [] (s.thermOf die).hist n).isEmpty = false) : s.int die (Ob.therm_sensor_c + n) ≤ s.dieTemp die := by
  have hn : n < 6 := by
    simp only [State.sensorOk, Bool.and_eq_true, decide_eq_true_eq] at hok
    exact hok.1
  have hmem : s.int die (Ob.therm_sensor_c + n) ∈ ((List.range 6).filter fun n => s.sensorOk die n && !((smGet [] (s.thermOf die).hist n).isEmpty)).map fun n => s.int die (Ob.therm_sensor_c + n) :=
    List.mem_map.2 ⟨n, List.mem_filter.2 ⟨List.mem_range.2 hn, by rw [hok, hconverted]; rfl⟩, rfl⟩
  unfold State.dieTemp
  dsimp only
  split
  · next a l heq =>
    rw [heq] at hmem
    obtain ⟨hfirst, hrest⟩ := le_foldl_max l a
    rcases List.mem_cons.1 hmem with h | h
    · rw [h]; exact hfirst
    · exact hrest _ h
  · next heq =>
    rw [heq] at hmem
    exact absurd hmem List.not_mem_nil

theorem sensorConverts : Claims.sensorConverts := by
  intro s die n v go h hgo
  have halive := h.2
  have hnext : ∀ x, s.conversion die n v = x → exec (.sensorConversion die n v) s = .next x := fun x hx => congrArg Host.Outcome.next ((onDie_upDie h _).trans hx)
  subst hgo
  refine ⟨fun hn hopen => ?_, fun hno => hnext s ?_⟩
  · have hstay := conversion_runs (v := v) halive hn hopen
    obtain ⟨htemp, hovers, hbroken, hhist⟩ := taken_reads s die n v hn
    have hplace : readingPlace (Ob.therm_sensor_c + n) := .inl ⟨by omega, by omega⟩
    have hnotDie : Ob.therm_sensor_c + n ≠ Ob.therm_die_c := by simp only [Ob.therm_sensor_c, Ob.therm_die_c]; omega
    obtain ⟨hjudgedTemp, hjudgedTherm⟩ := judged_keeps (taken s die n v) die n n v hn
    obtain ⟨hshown, hdie, hflag, hcounts⟩ := dieShown_keeps (judged (taken s die n v) die n v) die
    refine ⟨_, hnext _ rfl, ?_, ?_, fun hgood hlo hhi hfirst => ?_, fun hgood hout => ?_⟩
    · exact (hstay.shown _ hplace).trans ((hshown _ hplace hnotDie).trans (hjudgedTemp.trans htemp))
    · rw [hstay.overs, hcounts, hjudgedTherm, hovers]
    · have hone : smGet [] ((taken s die n v).thermOf die).hist n = [(s.now, v)] := by rw [hhist, hfirst]; rfl
      have hsame : judged (taken s die n v) die n v = taken s die n v := judged_good hlo hhi hone rfl
      have hok : (taken s die n v).sensorOk die n = true := by rw [State.sensorOk, hbroken, hgood]; simpa using hn
      rw [hstay.shown Ob.therm_die_c (.inr (.inl rfl)), hdie, hsame]
      exact Int.le_trans (Int.le_of_eq htemp.symm) (le_dieTemp hok (by rw [hone]; rfl))
    · obtain ⟨hmarked, hflagged⟩ := judged_broken (s := taken s die n v) hn (hbroken.trans hgood) hout
      have hnat : (s.conversion die n v).nat die Ob.therm_sensor_broken = (judged (taken s die n v) die n v).nat die Ob.therm_sensor_broken := by
        rw [State.nat, hstay.shown Ob.therm_sensor_broken (.inr (.inr rfl)), hshown Ob.therm_sensor_broken (.inr (.inr rfl)) (by decide)]
        rfl
      exact ⟨(congrArg (fun k => bit k n) hnat).trans hmarked, hstay.flag (hflag hflagged)⟩
  · have hstop : (!(s.alive die) || decide (6 ≤ n) || !(s.slotOpen die n)) = true := by
      rcases hno with h | h <;> simp [h]
    unfold State.conversion
    rw [if_pos hstop]

end Sys2Proof.Proofs
end

section
/-! A die that goes: shutdown and brown-out (R457, R459, R479). -/

namespace Sys2Proof.Proofs

open Sys2Proof.Machine Sys2Proof.Laws Sys2Proof.Claims

/-! What the loss of a die leaves -/

/-- Every object but the dies that are alive, those shut down, and the count of brown-outs. -/
def beside (k : Nat) : Prop := k ≠ Ob.dies_alive ∧ k ≠ Ob.therm_shut_dies ∧ k ≠ Ob.pwr_brownouts

/-- Those three objects stay, and which dies' firmware runs. -/
structure CountsStay (s t : State) : Prop where
  objs : ObjsBut s t beside
  fw   : t.fw = s.fw

theorem countsStay_refl (s : State) : CountsStay s s := ⟨objsBut_refl _ _, rfl⟩

theorem countsStay_trans {s t u : State} (h : CountsStay s t) (k : CountsStay t u) : CountsStay s u := ⟨objsBut_trans h.objs k.objs, k.fw.trans h.fw⟩

theorem countsStay_of {s t : State} (hobjs : t.objs = s.objs) (hfw : t.fw = s.fw) : CountsStay s t := ⟨objsBut_of_eq hobjs, hfw⟩

theorem beside_full {die key : Nat} (h : beside key) (hlt : key < 16777216) : beside (fullKey die key) := by
  simp only [beside, fullKey, Ob.dies_alive, Ob.therm_shut_dies, Ob.pwr_brownouts] at h ⊢
  omega

theorem beside_report {k : Nat} (h : reportKey k) : beside k := by
  refine ⟨?_, ?_, ?_⟩ <;> rintro rfl
  · exact not_reportKey (by decide) h
  · exact not_reportKey (by decide) h
  · exact absurd (fullKey_part Ob.pwr_brownouts ▸ h) not_reportKey_full

theorem countsStay_put (s : State) (die key : Nat) (v : Int) (h : beside key := by unfold beside; decide) (hlt : key < 16777216 := by decide) : CountsStay s (s.put die key v) :=
  ⟨objsBut_mono (objsBut_put s die key v) fun _ hk => hk ▸ beside_full h hlt, rfl⟩

theorem countsStay_bump (s : State) (die key n : Nat) (h : beside key := by unfold beside; decide) (hlt : key < 16777216 := by decide) : CountsStay s (s.bump die key n) :=
  ⟨objsBut_mono (bump_objs s die key n) fun _ hk => hk ▸ beside_full h hlt, bump_fw ..⟩

theorem countsStay_raise (s : State) (die key i x : Nat) (h : beside key := by unfold beside; decide) (hlt : key < 16777216 := by decide) : CountsStay s (s.raise die key i x) :=
  ⟨objsBut_mono (raise_objs s die key i x) fun _ hk => hk.elim (fun hk => hk ▸ beside_full h hlt) beside_report, raise_fw ..⟩

theorem countsStay_each {α : Type} (l : List α) (f : α → State → State) (hf : ∀ a ∈ l, ∀ s, CountsStay s (f a s)) (s : State) : CountsStay s (s.each l f) := by
  induction l generalizing s with
  | nil => exact countsStay_refl s
  | cons a l ih => exact countsStay_trans (hf a List.mem_cons_self s) (ih (fun b hb => hf b (List.mem_cons_of_mem _ hb)) _)

theorem countsStay_when (s : State) (b : Bool) (f : State → State) (h : CountsStay s (f s)) : CountsStay s (s.when b f) := when_of s b f (countsStay_refl s) h

/-! Ports and lanes -/

theorem countsStay_chooseDown (s : State) : CountsStay s s.chooseDown := by
  unfold State.chooseDown
  split
  · exact countsStay_refl s
  · split
    · exact countsStay_put s 0 Ob.fwd_flags _
    · exact countsStay_refl s

theorem countsStay_portDown (s : State) (p : Nat) : CountsStay s (s.portDown p) := by
  have hp : p % 16 < 16 := Nat.mod_lt _ (by decide)
  unfold State.portDown
  extract_lets t fwd sent lays
  refine countsStay_trans (countsStay_trans (t := s.setPort p fun t => { t with inService := false, framed := false, cur := [], lay := none, fwd := fwd, lays := lays, stack := [], layTx := none, walkDue := none, slept := s.asleep p })
    (countsStay_of rfl rfl) (countsStay_bump _ (p / 16) (atPort Ob.fwd_drops p) _ ?_ ?_)) (countsStay_chooseDown _) <;>
    simp only [beside, atPort, Ob.fwd_drops, Ob.dies_alive, Ob.therm_shut_dies, Ob.pwr_brownouts] <;> omega

theorem countsStay_bootStep (s : State) {i : Nat} (hi : i < 16) : CountsStay s (s.bootStep i) := by
  unfold State.bootStep
  split
  · exact countsStay_refl s
  · refine countsStay_trans (t := ({ s with boot := { s.boot with steps := i :: s.boot.steps } } : State)) (countsStay_of rfl rfl) (countsStay_put _ 0 (Ob.boot_ms + i) _ ?_ ?_) <;>
      simp only [beside, Ob.boot_ms, Ob.dies_alive, Ob.therm_shut_dies, Ob.pwr_brownouts] <;> omega

theorem countsStay_portUp (s : State) (p : Nat) : CountsStay s (s.portUp p) := by
  unfold State.portUp
  extract_lets s1 s2
  have hone : CountsStay s s1 := countsStay_trans (countsStay_bootStep s (by decide)) (countsStay_of rfl rfl)
  have htwo : CountsStay s1 s2 := by
    refine countsStay_each _ _ (fun l _ s => ?_) s1
    exact countsStay_of rfl rfl
  refine countsStay_trans (countsStay_trans hone htwo) (countsStay_trans ?_ (countsStay_chooseDown _))
  split
  · split
    · exact countsStay_of rfl rfl
    · exact countsStay_refl _
  · exact countsStay_refl _

theorem countsStay_refreshPort (s : State) (p : Nat) : CountsStay s (s.refreshPort p) := by
  have hp : p % 16 < 16 := Nat.mod_lt _ (by decide)
  unfold State.refreshPort
  split
  · exact countsStay_refl s
  · extract_lets t reported ok
    have hmap : CountsStay s t := by
      show CountsStay s (s.sleepMap p)
      unfold State.sleepMap
      split
      · exact countsStay_of rfl rfl
      · exact countsStay_refl s
    have hserve : CountsStay t (if (t.port p).inService then (if ok then t else t.portDown p) else (if ok then t.portUp p else t)) := by
      split
      · split
        · exact countsStay_refl t
        · exact countsStay_portDown t p
      · split
        · exact countsStay_portUp t p
        · exact countsStay_refl t
    refine countsStay_trans (countsStay_trans hmap hserve) (countsStay_put _ (p / 16) (atPort Ob.lane_maps p) _ ?_ ?_) <;>
      simp only [beside, atPort, Ob.lane_maps, Ob.dies_alive, Ob.therm_shut_dies, Ob.pwr_brownouts] <;> omega

theorem countsStay_laneObject (s : State) (die : Nat) {lane base : Nat} (v : Int) (hlane : lane < 8) (hbase : 0x200001 ≤ base ∧ base < 0x300000) : CountsStay s (s.put die (base + lane) v) := by
  refine countsStay_put s die _ v ?_ (by omega)
  simp only [beside, Ob.dies_alive, Ob.therm_shut_dies, Ob.pwr_brownouts]
  omega

theorem countsStay_setTx (s : State) (die v : Nat) {lane : Nat} (h : lane < 8) : CountsStay s (s.setTx die lane v) := by
  unfold State.setTx
  extract_lets k n
  have hput : CountsStay s (s.put die k (n / 64 * 64 + v % 4 * 16 + n % 16)) := countsStay_laneObject s die _ h (by decide)
  exact countsStay_trans hput (countsStay_when _ _ _ (countsStay_of rfl rfl))

theorem countsStay_setRx (s : State) (die v : Nat) {lane : Nat} (h : lane < 8) : CountsStay s (s.setRx die lane v) := by
  unfold State.setRx
  extract_lets k s1 s2
  have hone : CountsStay s s1 := countsStay_laneObject s die _ h (by decide)
  have htwo : CountsStay s1 s2 := countsStay_trans (countsStay_laneObject s1 die _ h (by decide : 0x200001 ≤ Ob.lane_peer ∧ Ob.lane_peer < 0x300000)) (countsStay_of rfl rfl)
  split
  · exact hone
  · split
    · exact countsStay_trans hone htwo
    · exact countsStay_trans (countsStay_trans hone htwo) (countsStay_of rfl rfl)

theorem countsStay_stopLane (s : State) (die : Nat) {lane : Nat} (h : lane < 8) : CountsStay s (s.stopLane die lane) := by
  unfold State.stopLane
  split
  · exact countsStay_refl s
  · extract_lets k s1
    have hone : CountsStay s s1 := countsStay_trans (countsStay_laneObject s die _ h (by decide : 0x200001 ≤ Ob.lane_peer ∧ Ob.lane_peer < 0x300000)) (countsStay_of rfl rfl)
    exact countsStay_trans hone (countsStay_trans (countsStay_setTx s1 die 0 h) (countsStay_trans (countsStay_setRx _ die 0 h) (countsStay_refreshPort _ _)))

/-! The die -/

theorem countsStay_restDie (s : State) (die : Nat) : CountsStay s (s.restDie die) := by
  unfold State.restDie
  extract_lets shut s1 cam
  have hgroups : CountsStay s s1 := by
    refine countsStay_each _ _ (fun g hg s => ?_) s
    have hg4 : g < 4 := List.mem_range.1 hg
    have hstate : CountsStay s (s.putG die g Ob.rg_state 0) := by
      refine countsStay_put s die (atIndex Ob.rg_state g) 0 ?_ ?_ <;> simp only [beside, atIndex, Ob.rg_state, Ob.dies_alive, Ob.therm_shut_dies, Ob.pwr_brownouts] <;> omega
    exact countsStay_trans hstate (countsStay_trans (countsStay_when _ _ _ (countsStay_of rfl rfl)) (countsStay_when _ _ _ (countsStay_of rfl rfl)))
  exact countsStay_trans hgroups (countsStay_of rfl rfl)

theorem countsStay_headLoses (s : State) (die : Nat) : CountsStay s (s.headLoses die) := by
  unfold State.headLoses
  split
  · have hsent := peerSent_sendPeer s 5 0 (s.pw Ob.commit_epoch) 0 s.layNow []
    have hstays : CountsStay s (s.sendPeer 5 0 (s.pw Ob.commit_epoch) 0 s.layNow []) :=
      ⟨objsBut_mono hsent.objs fun k hk => hk.elim beside_report fun hk => hk ▸ beside_full (by unfold beside; decide) (by decide), by rw [hsent.rest]⟩
    exact countsStay_trans hstays (countsStay_put _ 0 Ob.red_head_state 2)
  · exact countsStay_refl s

theorem countsStay_driveTherm (s : State) (b : Bool) : CountsStay s (s.driveTherm b) := by
  unfold State.driveTherm
  split
  · exact countsStay_refl s
  · exact countsStay_of rfl rfl

/-- A die that goes is no longer alive and its firmware has stopped; what else is lost leaves the other dies and the counts. -/
theorem dieDown_counts {s : State} {die : Nat} (hdie : die < s.dies) (halive : s.alive die = true) :
    CountsStay { s.set Ob.dies_alive (clearBit (s.pw Ob.dies_alive) die) with fw := clearBit s.fw die } (s.dieDown die) := by
  have hgo : (decide (s.dies ≤ die) || !(s.alive die)) = false := by simp [halive, hdie]
  unfold State.dieDown
  rw [if_neg (by rw [hgo]; exact Bool.false_ne_true)]
  extract_lets src s1 s2 s3
  have hlanes : CountsStay s1 (s1.stopLanes die) :=
    countsStay_trans (countsStay_each _ _ (fun l hl s => countsStay_stopLane s die (List.mem_range.1 hl)) s1) (countsStay_put _ die Ob.eth_link_state 0)
  have htwo : CountsStay s1 s2 := by
    refine countsStay_trans hlanes (countsStay_trans (countsStay_restDie _ die) ?_)
    show CountsStay _ (State.nextArbiter _ die)
    unfold State.nextArbiter
    split
    · exact countsStay_refl _
    · exact countsStay_trans (countsStay_put _ 0 Ob.red_arb_die _) (countsStay_raise _ 0 Ob.red_flags 4 0)
  have hthree : CountsStay s2 s3 := by
    refine countsStay_when s2 _ _ ?_
    exact countsStay_put s2 0 Ob.red_sup_state _
  exact countsStay_trans htwo (countsStay_trans hthree (countsStay_trans (countsStay_headLoses s3 die) (countsStay_driveTherm _ _)))

theorem countsStay_alive {s t : State} (h : CountsStay s t) (n : Nat) : t.alive n = s.alive n := by
  rw [State.alive, objsBut_pw h.objs (fun hk => hk.1 rfl)]
  rfl

theorem dieDown_alive {s : State} {die : Nat} (hdie : die < s.dies) (n : Nat) : (s.dieDown die).alive n = (s.alive n && decide (n ≠ die)) := by
  by_cases halive : s.alive die = true
  · rw [countsStay_alive (dieDown_counts hdie halive)]
    have hset : (s.set Ob.dies_alive (clearBit (s.pw Ob.dies_alive) die)).pw Ob.dies_alive = clearBit (s.pw Ob.dies_alive) die := (nat_put_same ..).trans (Int.toNat_natCast _)
    exact (congrArg (fun k => bit k n) hset).trans (bit_clearBit ..)
  · have hsame : s.dieDown die = s := by simp [State.dieDown, halive]
    rw [hsame]
    by_cases hn : n = die
    · subst hn
      simp [halive]
    · simp [hn]

/-! Shutdown (R457, R459) -/

theorem countsStay_driveFault (s : State) (b : Bool) : CountsStay s (s.driveFault b) := by
  unfold State.driveFault
  split
  · exact countsStay_refl s
  · exact countsStay_of rfl rfl

theorem driveFault_faultSrc (s : State) (b : Bool) : (s.driveFault b).faultSrc = s.faultSrc := by
  unfold State.driveFault
  split <;> rfl

theorem driveTherm_faultSrc (s : State) (b : Bool) : (s.driveTherm b).faultSrc = s.faultSrc := by
  unfold State.driveTherm
  split <;> rfl

/-- A die that switches off: its latch is set, and it is gone. -/
theorem shutDie_shuts {s : State} {die : Nat} (hdie : die < s.dies) (halive : s.alive die = true) : (s.shutDie die).on 0 Ob.therm_shut_dies die = true ∧
    (∀ n, (s.shutDie die).alive n = (s.alive n && decide (n ≠ die))) ∧ (s.shutDie die).fwOn die = false ∧ bit (s.shutDie die).faultSrc 1 = true := by
  have hlatched : (s.orBits 0 Ob.therm_shut_dies (2 ^ die)).alive = s.alive := by
    funext n
    exact congrArg (fun k => bit k n) (nat_put_other s 0 Ob.therm_shut_dies 0 Ob.dies_alive _ (fullKey_ne (by decide)))
  have hdown := dieDown_counts (s := s.orBits 0 Ob.therm_shut_dies (2 ^ die)) hdie (by rw [hlatched]; exact halive)
  have hrest := dieDown_alive (s := s.orBits 0 Ob.therm_shut_dies (2 ^ die)) hdie
  unfold State.shutDie
  extract_lets on s1
  have hafter : CountsStay s1 ((({ s1 with faultSrc := setBit s1.faultSrc 1 } : State).driveFault s1.faultOn).driveTherm on) :=
    countsStay_trans (t := ({ s1 with faultSrc := setBit s1.faultSrc 1 } : State)) (countsStay_of rfl rfl) (countsStay_trans (countsStay_driveFault _ _) (countsStay_driveTherm _ _))
  have hsrc : ((({ s1 with faultSrc := setBit s1.faultSrc 1 } : State).driveFault s1.faultOn).driveTherm on).faultSrc = setBit s1.faultSrc 1 := by rw [driveTherm_faultSrc, driveFault_faultSrc]
  have hfw : s1.fw = clearBit s.fw die := hdown.fw
  have hlatch : s1.pw Ob.therm_shut_dies = s.pw Ob.therm_shut_dies ||| 2 ^ die := by
    refine (objsBut_pw hdown.objs fun hk => hk.2.1 rfl).trans ?_
    refine (nat_put_other (s.orBits 0 Ob.therm_shut_dies (2 ^ die)) 0 Ob.dies_alive 0 Ob.therm_shut_dies _ (fullKey_ne (by decide))).trans ?_
    exact (nat_put_same ..).trans (Int.toNat_natCast _)
  generalize (({ s1 with faultSrc := setBit s1.faultSrc 1 } : State).driveFault s1.faultOn).driveTherm on = t at hafter hsrc
  refine ⟨?_, fun n => ?_, ?_, ?_⟩
  · have : t.pw Ob.therm_shut_dies = s.pw Ob.therm_shut_dies ||| 2 ^ die := (objsBut_pw hafter.objs fun hk => hk.2.1 rfl).trans hlatch
    show bit (t.pw Ob.therm_shut_dies) die = true
    rw [this]
    simp [bit]
  · rw [countsStay_alive hafter, ← hlatched]
    exact hrest n
  · rw [State.fwOn, hafter.fw, hfw, bit_clearBit]
    simp
  · rw [hsrc]
    exact (by simp only [setBit, bit, Nat.testBit_or]; exact Bool.or_eq_true_iff.2 (.inr (by decide)))

theorem dieShutsDown : Claims.dieShutsDown := by
  intro s die h hdie hone
  have halive := h.2
  have hnext : ∀ x, s.thermalShutdown die = x → exec (.thermalShutdown die) s = .next x := fun x hx => congrArg Host.Outcome.next ((onDie_upDie h _).trans hx)
  refine ⟨fun hover => ?_, fun hover => hnext s (by rw [State.thermalShutdown, hover, Bool.and_false, if_neg Bool.false_ne_true])⟩
  have hgo : s.thermalShutdown die = (s.shutDie die).seeShut die := by
    unfold State.thermalShutdown
    rw [halive, hover, Bool.and_self, if_pos rfl, hone]
    rfl
  obtain ⟨hlatch, hdies, hfw, hsrc⟩ := shutDie_shuts hdie halive
  have hseen : CountsStay (s.shutDie die) ((s.shutDie die).seeShut die) ∧ ((s.shutDie die).seeShut die).faultSrc = (s.shutDie die).faultSrc := by
    unfold State.seeShut
    split
    · exact ⟨countsStay_raise _ _ Ob.therm_flags 4 die, raise_faultSrc ..⟩
    · exact ⟨countsStay_refl _, rfl⟩
  obtain ⟨hstays, hsame⟩ := hseen
  refine ⟨_, hnext _ hgo, ?_, ?_, ?_, by rw [hsame]; exact hsrc, fun n hn => ?_⟩
  · have : ((s.shutDie die).seeShut die).nat 0 Ob.therm_shut_dies = (s.shutDie die).nat 0 Ob.therm_shut_dies := objsBut_pw hstays.objs fun hk => hk.2.1 rfl
    rw [State.on, this]
    exact hlatch
  · rw [countsStay_alive hstays, hdies]
    simp
  · rw [State.fwOn, hstays.fw]
    exact hfw
  · rw [countsStay_alive hstays, hdies]
    simp [hn]

/-- Settles O44: the conversion, the shutdown, and the trims each at its time. -/
theorem sensorsAndTrimsFollow : Obligations.SensorsAndTrimsFollow :=
  ⟨sensorConverts, dieShutsDown, brokenCleared, trimsEvaluated, pllTrimSteps, offsetsReach⟩

/-! Brown-out (R479) -/

/-- An object kept in the journal reads as one put. -/
theorem nat_keep (s : State) (d k die key : Nat) (v : Int) : (s.keep d k v).nat die key = (s.put d k v).nat die key := nat_of_objs rfl die key

theorem dieBrownsOut : Claims.dieBrownsOut := by
  intro s die ns hup hdie hheld
  have hnext : ∀ x, s.brownout die ns = x → exec (.brownout die ns) s = .next x := fun x hx => congrArg Host.Outcome.next ((run_up hup _).trans hx)
  refine ⟨fun hns => ?_, fun hns => hnext s (by simp [State.brownout, hns])⟩
  have hgo : (decide (ns < 1000) || decide (s.dies ≤ die) || s.boot.held || bit s.boot.heldDies die) = false := by simp [Nat.not_lt.2 hns, Nat.not_le.2 hdie, hup.1, hheld]
  refine ⟨_, hnext _ rfl, ?_⟩
  unfold State.brownout
  rw [if_neg (by rw [hgo]; exact Bool.false_ne_true)]
  extract_lets down boot s1
  have hdown : s1.alive die = false ∧ s1.pw Ob.pwr_brownouts = s.pw Ob.pwr_brownouts := by
    refine ⟨(dieDown_alive hdie die).trans (by simp), ?_⟩
    show (s.dieDown die).pw Ob.pwr_brownouts = s.pw Ob.pwr_brownouts
    by_cases halive : s.alive die = true
    · exact (objsBut_pw (dieDown_counts hdie halive).objs fun hk => hk.2.2 rfl).trans (nat_put_other s 0 Ob.dies_alive 0 Ob.pwr_brownouts _ (fullKey_ne (by decide)))
    · have hsame : s.dieDown die = s := by simp [State.dieDown, halive]
      rw [hsame]
  have hbit : bit s1.boot.heldDies die = true := by simp [s1, setBit, bit]
  obtain ⟨hgone, hcount⟩ := hdown
  clear_value s1
  rw [hcount]
  have hkept : ∀ k, k ≠ Ob.pwr_brownout_dies → k ≠ Ob.pwr_brownouts → k ≠ Ob.pwr_flags → k < 0x200000 →
      (((s1.orBits 0 Ob.pwr_brownout_dies (2 ^ die)).keep 0 Ob.pwr_brownouts ((s.pw Ob.pwr_brownouts + 1 : Nat) : Int)).raise 0 Ob.pwr_flags 0 die).pw k = s1.pw k := fun k h1 h2 h3 hk =>
    (raise_nat_other _ 0 die (fullKey_ne h3 (by omega)) (by rw [fullKey_part]; exact not_reportKey hk)).trans
      (((nat_keep ..).trans (nat_put_other _ 0 Ob.pwr_brownouts 0 k _ (fullKey_ne h2 (by omega)))).trans (nat_put_other _ 0 Ob.pwr_brownout_dies 0 k _ (fullKey_ne h1 (by omega))))
  refine ⟨by rw [raise_boot]; exact hbit, ?_, ?_, ?_, raise_on _ 0 Ob.pwr_flags 0 die not_reportKey_full⟩
  · rw [State.alive, hkept Ob.dies_alive (by decide) (by decide) (by decide) (by decide)]
    exact hgone
  · rw [State.on, raise_nat_other _ 0 die (fullKey_ne (by decide)) not_reportKey_full]
    have hset : ((s1.orBits 0 Ob.pwr_brownout_dies (2 ^ die)).keep 0 Ob.pwr_brownouts ((s.pw Ob.pwr_brownouts + 1 : Nat) : Int)).nat 0 Ob.pwr_brownout_dies = s1.nat 0 Ob.pwr_brownout_dies ||| 2 ^ die :=
      (nat_keep ..).trans <| (nat_put_other _ 0 Ob.pwr_brownouts 0 Ob.pwr_brownout_dies _ (fullKey_ne (by decide))).trans ((nat_put_same ..).trans (Int.toNat_natCast _))
    rw [hset]
    simp [bit]
  · rw [State.pw, raise_nat_other _ 0 die (fullKey_ne (by decide)) not_reportKey_full]
    exact (nat_keep ..).trans <| (nat_put_same (s1.orBits 0 Ob.pwr_brownout_dies (2 ^ die)) 0 Ob.pwr_brownouts _).trans (Int.toNat_natCast _)

end Sys2Proof.Proofs
end

section
/-! The restart after a brown-out (R479): what the boot leaves of the part's release and queues. -/

namespace Sys2Proof.Proofs

open Sys2Proof.Machine Sys2Proof.Laws Sys2Proof.Claims

/-- What a part that boots keeps from its release on: what holds it, when and how it was released, what was staged, its fuses and its queue. -/
def released (s : State) : Bool × Nat × Nat × BootEnv × SMap Value × Fuses × List Instr :=
  (s.boot.held, s.boot.heldDies, s.boot.releaseAt, s.boot.env, s.staged, s.fuses, s.pending)

@[simp] theorem released_put (s : State) (die key : Nat) (v : Int) : released (s.put die key v) = released s := rfl
@[simp] theorem released_set (s : State) (key : Nat) (v : Int) : released (s.set key v) = released s := rfl
@[simp] theorem released_putG (s : State) (die g key : Nat) (v : Int) : released (s.putG die g key v) = released s := rfl
@[simp] theorem released_emit (s : State) (o : Output) : released (s.emit o) = released s := rfl
@[simp] theorem released_setLane (s : State) (die lane : Nat) (f : LaneSt → LaneSt) : released (s.setLane die lane f) = released s := rfl
@[simp] theorem released_setPort (s : State) (p : Nat) (f : PortSt → PortSt) : released (s.setPort p f) = released s := rfl
@[simp] theorem released_setXing (s : State) (die : Nat) (x : Crossing) (f : Xing → Xing) : released (s.setXing die x f) = released s := rfl
@[simp] theorem released_crossReset (s : State) (die : Nat) (test : Bool) (x : Crossing) : released (s.crossReset die test x) = released s := released_setXing ..
@[simp] theorem released_setClk (s : State) (die : Nat) (f : ClkSt → ClkSt) : released (s.setClk die f) = released s := rfl
@[simp] theorem released_setMem (s : State) (die : Nat) (f : MemSt → MemSt) : released (s.setMem die f) = released s := rfl
@[simp] theorem released_setChan (s : State) (die c : Nat) (f : DramCh → DramCh) : released (s.setChan die c f) = released s := rfl
@[simp] theorem released_setChState (s : State) (die c v : Nat) : released (s.setChState die c v) = released s := rfl
@[simp] theorem released_setTherm (s : State) (die : Nat) (f : ThermSt → ThermSt) : released (s.setTherm die f) = released s := rfl
@[simp] theorem released_setTdie (s : State) (die : Nat) (f : TileDie → TileDie) : released (s.setTdie die f) = released s := rfl
@[simp] theorem released_draw (s : State) : released s.draw.2 = released s := rfl

theorem released_each {α : Type} (l : List α) (f : α → State → State) (hf : ∀ a s, released (f a s) = released s) (s : State) : released (s.each l f) = released s :=
  each_of (P := fun t => released t = released s) l f (fun a _ h => (hf a _).trans h) rfl

theorem released_when (s : State) (b : Bool) (f : State → State) (hf : released (f s) = released s) : released (s.when b f) = released s :=
  when_of (P := fun t => released t = released s) s b f rfl hf

theorem released_bump (s : State) (die key n : Nat) : released (s.bump die key n) = released s := by rw [bump_rest]; rfl

theorem released_raise (s : State) (die key i x : Nat) : released (s.raise die key i x) = released s := by
  simp only [released, raise_boot, raise_staged, raise_fuses, raise_pending]

/-! Ports and lanes -/

theorem released_chooseDown (s : State) : released s.chooseDown = released s := by
  unfold State.chooseDown
  split
  · rfl
  · split <;> rfl

theorem released_portDown (s : State) (p : Nat) : released (s.portDown p) = released s := by
  unfold State.portDown
  extract_lets t fwd sent lays
  rw [released_chooseDown, released_bump]
  rfl

theorem released_bootStep (s : State) (i : Nat) : released (s.bootStep i) = released s := by
  unfold State.bootStep
  split <;> rfl

theorem released_portUp (s : State) (p : Nat) : released (s.portUp p) = released s := by
  unfold State.portUp
  extract_lets s1 s2
  have htwo : released s2 = released s := by
    refine (released_each _ _ (fun l t => ?_) s1).trans (released_bootStep s 6)
    simp
  clear_value s2
  rw [released_chooseDown]
  split
  · split
    · exact htwo
    · exact htwo
  · exact htwo

theorem released_showMaps (s : State) (p : Nat) : released (s.showMaps p) = released s := rfl

theorem released_refreshPort (s : State) (p : Nat) : released (s.refreshPort p) = released s := by
  unfold State.refreshPort
  split
  · rfl
  · extract_lets t reported ok
    have hmap : released t = released s := by
      show released (s.sleepMap p) = _
      unfold State.sleepMap
      split <;> rfl
    have hserve : released (if (t.port p).inService then (if ok then t else t.portDown p) else (if ok then t.portUp p else t)) = released t := by
      split
      · split
        · rfl
        · exact released_portDown t p
      · split
        · exact released_portUp t p
        · rfl
    exact (released_showMaps _ p).trans (hserve.trans hmap)

theorem released_setTx (s : State) (die lane v : Nat) : released (s.setTx die lane v) = released s := by
  unfold State.setTx
  exact released_when _ _ _ rfl

theorem released_setRx (s : State) (die lane v : Nat) : released (s.setRx die lane v) = released s := by
  unfold State.setRx
  dsimp only
  split
  · simp
  · split <;> simp

theorem released_stopLanes (s : State) (die : Nat) : released (s.stopLanes die) = released s := by
  unfold State.stopLanes
  refine (released_put ..).trans (released_each _ _ (fun l t => ?_) s)
  unfold State.stopLane
  split
  · rfl
  · simp only [State.refreshLane, released_refreshPort, released_setRx, released_setTx, released_setLane, released_put]

theorem released_ethRestart (s : State) (die : Nat) : released (s.ethRestart die) = released s := by
  unfold State.ethRestart
  extract_lets s1
  have hone : released s1 = released s := by
    refine released_each _ _ (fun l t => ?_) s
    exact released_put ..
  exact (released_put ..).trans hone

theorem released_pairEffect (s : State) (die old : Nat) : released (s.pairEffect die old) = released s := by
  unfold State.pairEffect
  extract_lets new s1 s2 gone cleared
  split
  · rfl
  · have hone : released s1 = released s := by
      refine released_each _ _ (fun l t => ?_) s
      simp
    have htwo : released s2 = released s1 := by
      dsimp only [s2]
      split
      · exact released_put ..
      · exact released_ethRestart s1 die
    have hgone : released gone = released s2 := by
      refine released_each _ _ (fun p t => ?_) s2
      split
      · exact released_portDown t p
      · rfl
    have hcleared : released cleared = released gone := by
      refine released_each _ _ (fun l t => ?_) gone
      exact released_put ..
    rw [released_refreshPort, released_refreshPort, released_refreshPort, hcleared, hgone, htwo, hone]

/-! A die that starts -/

theorem released_crossWord (s : State) (f : Int) : released (s.crossWord f) = released s := by
  unfold State.crossWord
  split <;> rfl

theorem released_enterHoldover (s : State) : released s.enterHoldover = released s := by
  unfold State.enterHoldover
  split
  · rw [released_raise]
    exact released_crossWord ((s.set Ob.lay_state layHoldover).set Ob.lay_upstream 0xFF) s.meanFreq
  · rfl

theorem released_driveFault (s : State) (b : Bool) : released (s.driveFault b) = released s := by
  unfold State.driveFault
  split <;> rfl

theorem released_clocksLost (s : State) (die : Nat) : released (s.clocksLost die) = released s := by
  unfold State.clocksLost
  extract_lets s1 s2 s3
  have hone : released s1 = released s := by
    simp only [s1, released_setClk, released_stopLanes, released_put]
  have htwo : released s2 = released s1 := released_when s1 _ _ (released_enterHoldover s1)
  have hthree : released s3 = released s2 := released_raise ..
  exact (released_driveFault _ _).trans (hthree.trans (htwo.trans hone))

theorem released_bootDram (s : State) (env : BootEnv) (die : Nat) : released (s.bootDram env die) = released s := by
  unfold State.bootDram
  extract_lets ecc s1
  have hone : released s1 = released s := rfl
  refine (released_each _ _ (fun c t => ?_) s1).trans hone
  split
  · rw [released_raise]
    simp
  · dsimp only
    refine (released_each _ _ (fun i u => ?_) _).trans (by simp)
    split <;> simp

theorem released_trimStart (s : State) (die : Nat) : released (s.trimStart die) = released s := by
  unfold State.trimStart
  extract_lets s1
  have hone : released s1 = released s := rfl
  refine (released_each _ _ (fun n t => ?_) s1).trans hone
  exact released_put ..

theorem released_restoreLamps (s : State) (die : Nat) : released (s.restoreLamps die) = released s := by
  unfold State.restoreLamps
  extract_lets forced blanks s1 s2
  have hone : released s1 = released s := by
    refine released_each _ _ (fun p t => ?_) s
    exact released_setTdie ..
  have htwo : released s2 = released s1 := released_when s1 _ _ rfl
  exact (released_when s2 _ _ rfl).trans (htwo.trans hone)

theorem released_shiftReport (s : State) (die : Nat) : released (s.shiftReport die) = released s := by
  refine released_each _ _ (fun g t => ?_) s
  simp

theorem released_startDie (s : State) (env : BootEnv) (warm : Bool) (die : Nat) : released (s.startDie env warm die) = released s := by
  unfold State.startDie
  extract_lets s1 s2 s3
  have htwo : released s2 = released s := rfl
  have hthree : released s3 = released s2 := by
    refine released_each _ _ (fun g t => ?_) s2
    simp
  have hunits : released ((((((s3.bootDram env die).trimStart die).pairEffect die 0).coreClock die (s3.nat die Ob.therm_level)).restoreLamps die).shiftReport die) = released s := by
    rw [released_shiftReport, released_restoreLamps]
    refine (released_pairEffect _ die 0).trans ?_
    rw [released_trimStart, released_bootDram, hthree, htwo]
  have hpins : ∀ t : State, released (t.each (List.range 4) fun g s => s.rest s die g) = released t := fun t => by
    refine released_each _ _ (fun g u => ?_) t
    exact released_emit ..
  refine (released_when _ _ _ ?_).trans ((hpins _).trans hunits)
  exact released_clocksLost _ die

/-! The boot -/

theorem released_replay (s : State) : released s.replay = released s := by
  have hchosen : released s.chooseJournal = released s := by
    unfold State.chooseJournal
    extract_lets j a b onB use torn s1 s2
    have htwo : released s2 = released s := released_each torn (fun k s => s.markSector k) (fun _ _ => rfl) s1
    split
    · rw [released_raise, released_bump, htwo]
    · exact htwo
  unfold State.replay
  extract_lets s1 l s2 lost
  have htwo : released s2 = released s := hchosen
  refine (released_when s2 lost _ ?_).trans htwo
  exact released_raise ..

theorem released_bootRoles (s : State) (env : BootEnv) (first : Nat) : released (s.bootRoles env first) = released s := by
  unfold State.bootRoles
  extract_lets held role s1 arb s2
  have htwo : released s2 = released s := rfl
  exact (released_when s2 _ _ (released_set ..)).trans htwo

theorem released_upd (s : State) (u : UpdSt) : released { s with upd := u } = released s := rfl

theorem released_showBits (s : State) : released s.showBits = released s := by
  unfold State.showBits
  exact released_set ..

theorem released_bootImage (s : State) : released s.bootImage = released s := by
  unfold State.bootImage
  extract_lets bits u ok img s1 id sect ready upd s2
  have hone : released s1 = released s := (released_showBits _).trans (released_upd s _)
  have htwo : released s2 = released s1 := released_upd s1 _
  clear_value s2 ready
  exact (released_set ..).trans ((released_set ..).trans (htwo.trans hone))

theorem released_keep (s : State) (die key : Nat) (v : Int) : released (s.keep die key v) = released s := rfl

theorem released_startImage (s : State) (image : Nat × Nat) : released (s.startImage image) = released s := by
  unfold State.startImage
  extract_lets s1 s2
  have htwo : released s2 = released s := by
    simp only [s2, s1, released_bootImage, released_keep, released_set]
  split
  · exact htwo
  · exact (released_set ..).trans htwo

/-- Once released, a part that starts its firmware keeps what it was released with. -/
theorem released_bootRun (s : State) (env : BootEnv) (warm : Bool) (first : Nat) (dies : List Nat) (image : Nat × Nat) : released (s.bootRun env warm first dies image) = released s := by
  unfold State.bootRun
  extract_lets mask src s1 s2 s3
  have htwo : released s2 = released s := (released_each _ _ (fun d t => released_startDie t env warm d) _).trans ((released_replay s1).trans rfl)
  clear_value s2
  have hthree : released s3 = released s2 := (released_startImage ..).trans (released_bootRoles ..)
  have hjoins : ∀ t : State, released (t.joinFlows []) = released t := fun t => by
    refine released_each _ _ (fun f u => ?_) t
    exact released_emit ..
  have hfade : ∀ t : State, released t.bootFade = released t := fun t => by
    unfold State.bootFade
    split <;> rfl
  have hlose : ∀ t : State, released t.loseSurfaces = released t := fun t => by
    unfold State.loseSurfaces
    split
    · exact released_raise ..
    · rfl
  have haddress : ∀ t : State, released t.startAddress = released t := fun t => by
    unfold State.startAddress
    split <;> rfl
  have hunits : ∀ t : State, released (t.startUnits first) = released t := fun _ => rfl
  rw [hjoins, hfade, hlose, haddress, hunits]
  exact hthree.trans htwo

/-- A part that leaves reset by PORST_N: released now, with the environment given. -/
theorem bootFrom_released (s : State) (env : BootEnv) : released (s.bootFrom env false 0) = (false, s.boot.heldDies, s.now, env, s.staged, s.fuses, s.pending) := by
  unfold State.bootFrom
  extract_lets boot s1 s2 s3 s4 dies sel missing s5 slot
  have hthree : released s3 = (false, s.boot.heldDies, s.now, env, s.staged, s.fuses, s.pending) := by
    simp only [s3, s2, released_set]
    rfl
  have hfour : released s4 = (false, s.boot.heldDies, s.now, env, s.staged, s.fuses, s.pending) := by
    refine (released_each _ _ (fun i t => ?_) _).trans ((released_set s3 _ _).trans hthree)
    split
    · rfl
    · exact released_set ..
  have hfive : released s5 = released s4 := released_when s4 _ _ (released_raise ..)
  have hstart := hfive.trans hfour
  clear_value s5 slot
  split
  · exact hstart
  · split
    · exact hstart
    · split
      · extract_lets s6 s7 s8
        have hsix : released s6 = released s5 := by simp only [s6, released_set]
        have hseven : released s7 = released s6 := released_bootRun ..
        have height : released s8 = released s7 := released_when s7 _ _ (released_raise ..)
        exact (released_when s8 _ _ (released_raise ..)).trans (height.trans (hseven.trans (hsix.trans hstart)))
      · split
        · exact (released_bootRun ..).trans hstart
        · exact hstart

/-- A part that a reset by PORST_N takes holds no die back and has nothing staged. -/
theorem intoReset_porst (s : State) : (s.intoReset rPorst 2).boot.heldDies = 0 ∧ (s.intoReset rPorst 2).now = s.now ∧ (s.intoReset rPorst 2).staged = [] ∧ (s.intoReset rPorst 2).fuses = s.fuses ∧
    (s.intoReset rPorst 2).pending = s.pending := by
  have hrest := intoReset_rest s rPorst 2
  have hpins : ∀ (l : List (Nat × Nat)) (t : State), (t.each l fun e x => x.rest s e.1 e.2).boot = t.boot := fun l t =>
    each_of (P := fun u => u.boot = t.boot) l (fun e x => x.rest s e.1 e.2) (fun _ _ h => h) rfl
  refine ⟨?_, by rw [hrest]; rfl, by rw [hrest]; rfl, by rw [hrest]; rfl, by rw [hrest]; rfl⟩
  unfold State.intoReset
  extract_lets s1
  have hboot : s1.boot = ((s.cleared rPorst).restPins).boot := hpins _ _
  show s1.boot.heldDies = 0
  rw [hboot]
  rfl

theorem brownoutEnds : Claims.brownoutEnds := by
  intro s ms env hup hheld
  have hall : (s.dieList.all fun d => bit s.boot.heldDies d) = true := List.all_eq_true.2 fun d hd => hheld d (List.mem_range.1 hd)
  refine ⟨fun hms => ?_, fun hms => ?_⟩
  · have hgo : s.brownoutRestart ms env = (s.intoReset rPorst 2).bootFrom env false 0 := by
      unfold State.brownoutRestart
      rw [if_neg (by rw [hup.1, hall]; simp [Nat.not_lt.2 hms])]
    obtain ⟨hdies, hnow, hstaged, hfuses, hqueue⟩ := intoReset_porst s
    have hboot := bootFrom_released (s.intoReset rPorst 2) env
    rw [hdies, hnow, hstaged, hfuses, hqueue] at hboot
    simp only [released, Prod.mk.injEq] at hboot
    obtain ⟨hfree, hnone, hat, henv, hempty, hfuse, hpend⟩ := hboot
    exact ⟨_, congrArg Host.Outcome.next hgo, hfree, hnone, hat, henv, hempty, hfuse, hpend⟩
  · refine congrArg Host.Outcome.next ?_
    show s.brownoutRestart ms env = s
    unfold State.brownoutRestart
    rw [if_pos (by simp [hms])]

/-- Settles O45: a brown-out takes the die down and holds it; the restart is a boot from reset. -/
theorem brownoutsHoldDies : Obligations.BrownoutsHoldDies := ⟨dieBrownsOut, brownoutEnds⟩

end Sys2Proof.Proofs
end

section
/-! Lanes and ports that move: what the service of a port and the state of a lane leave as they are (R134, R158, R162). -/

namespace Sys2Proof.Proofs

open Sys2Proof.Machine Sys2Proof.Laws Sys2Proof.Claims

/-- Of the objects those of a kind change, and with them ports, lanes, crossings, the second of listening, the steps of the boot and the free values. -/
structure LanesMoved (p : Nat → Prop) (s t : State) : Prop where
  objs : ObjsBut s t p
  rest : t = { s with objs := t.objs, ports := t.ports, lanes := t.lanes, xings := t.xings, lay := t.lay, boot := t.boot, free := t.free }

theorem lanesMoved_refl (p : Nat → Prop) (s : State) : LanesMoved p s s := ⟨objsBut_refl _ _, rfl⟩

theorem lanesMoved_trans {p : Nat → Prop} {s t u : State} (h : LanesMoved p s t) (k : LanesMoved p t u) : LanesMoved p s u := ⟨objsBut_trans h.objs k.objs, by rw [k.rest, h.rest]⟩

theorem lanesMoved_mono {p q : Nat → Prop} {s t : State} (h : LanesMoved p s t) (hpq : ∀ k, p k → q k) : LanesMoved q s t := ⟨objsBut_mono h.objs hpq, h.rest⟩

theorem lanesMoved_put {p : Nat → Prop} (s : State) (die key : Nat) (v : Int) (h : p (fullKey die key)) : LanesMoved p s (s.put die key v) :=
  ⟨objsBut_mono (objsBut_put s die key v) fun _ hk => hk ▸ h, rfl⟩

theorem lanesMoved_bump {p : Nat → Prop} (s : State) (die key n : Nat) (h : p (fullKey die key)) : LanesMoved p s (s.bump die key n) :=
  ⟨objsBut_mono (bump_objs s die key n) fun _ hk => hk ▸ h, by rw [bump_cross]⟩

theorem lanesMoved_setPort (p : Nat → Prop) (s : State) (q : Nat) (f : PortSt → PortSt) : LanesMoved p s (s.setPort q f) := ⟨objsBut_of_eq rfl, rfl⟩

theorem lanesMoved_setLane (p : Nat → Prop) (s : State) (die lane : Nat) (f : LaneSt → LaneSt) : LanesMoved p s (s.setLane die lane f) := ⟨objsBut_of_eq rfl, rfl⟩

theorem lanesMoved_crossReset (p : Nat → Prop) (s : State) (die : Nat) (test : Bool) (x : Crossing) : LanesMoved p s (s.crossReset die test x) := ⟨objsBut_of_eq rfl, rfl⟩

theorem lanesMoved_each {α : Type} {p : Nat → Prop} (l : List α) (f : α → State → State) (hf : ∀ a ∈ l, ∀ s, LanesMoved p s (f a s)) (s : State) : LanesMoved p s (s.each l f) := by
  induction l generalizing s with
  | nil => exact lanesMoved_refl p s
  | cons a l ih => exact lanesMoved_trans (hf a List.mem_cons_self s) (ih (fun b hb => hf b (List.mem_cons_of_mem _ hb)) _)

theorem lanesMoved_when {p : Nat → Prop} (s : State) (b : Bool) (f : State → State) (h : LanesMoved p s (f s)) : LanesMoved p s (s.when b f) := when_of s b f (lanesMoved_refl p s) h

/-! The service of a port (R134) -/

/-- The places of the objects that the service of ports shows: lane_maps, fwd_drops, fwd_flags, and the step of the boot that ends with the first port in service. -/
def servicePlace (j : Nat) : Prop := j = Ob.boot_ms + 6 ∨ j = Ob.fwd_flags ∨ (Ob.lane_maps ≤ j ∧ j < Ob.lane_maps + 16) ∨ (Ob.fwd_drops ≤ j ∧ j < Ob.fwd_drops + 16)

def serviceKey (k : Nat) : Prop := ∃ die j, servicePlace j ∧ k = fullKey die j

theorem servicePlace_lt {j : Nat} (h : servicePlace j) : j < 16777216 := by
  simp only [servicePlace, Ob.boot_ms, Ob.fwd_flags, Ob.lane_maps, Ob.fwd_drops] at h
  omega

/-- An object elsewhere in the dictionary shows none of it. -/
theorem not_serviceKey {die key : Nat} (h : ¬ servicePlace key := by unfold servicePlace; decide) (hlt : key < 16777216 := by decide) : ¬ serviceKey (fullKey die key) := by
  rintro ⟨d, j, hj, heq⟩
  obtain ⟨-, rfl⟩ := fullKey_inj hlt (servicePlace_lt hj) heq
  exact h hj

theorem lanesMoved_chooseDown (s : State) : LanesMoved serviceKey s s.chooseDown := by
  unfold State.chooseDown
  split
  · exact lanesMoved_refl _ s
  · split
    · exact lanesMoved_put s 0 Ob.fwd_flags _ ⟨0, Ob.fwd_flags, .inr (.inl rfl), rfl⟩
    · exact lanesMoved_refl _ s

theorem mapsKey (p : Nat) : serviceKey (fullKey (p / 16) (atPort Ob.lane_maps p)) :=
  ⟨p / 16, atPort Ob.lane_maps p, .inr (.inr (.inl ⟨Nat.le_add_right _ _, Nat.add_lt_add_left (Nat.mod_lt _ (by decide)) _⟩)), rfl⟩

theorem dropsKey (p : Nat) : serviceKey (fullKey (p / 16) (atPort Ob.fwd_drops p)) :=
  ⟨p / 16, atPort Ob.fwd_drops p, .inr (.inr (.inr ⟨Nat.le_add_right _ _, Nat.add_lt_add_left (Nat.mod_lt _ (by decide)) _⟩)), rfl⟩

theorem lanesMoved_portDown (s : State) (p : Nat) : LanesMoved serviceKey s (s.portDown p) := by
  unfold State.portDown
  extract_lets t fwd sent lays
  exact lanesMoved_trans (lanesMoved_setPort _ s p _) (lanesMoved_trans (lanesMoved_bump _ _ _ _ (dropsKey p)) (lanesMoved_chooseDown _))

theorem lanesMoved_portUp (s : State) (p : Nat) : LanesMoved serviceKey s (s.portUp p) := by
  unfold State.portUp
  extract_lets s1 s2
  have hstep : LanesMoved serviceKey s (s.bootStep 6) := by
    unfold State.bootStep
    split
    · exact lanesMoved_refl _ s
    · exact lanesMoved_trans (t := ({ s with boot := { s.boot with steps := 6 :: s.boot.steps } } : State)) ⟨objsBut_of_eq rfl, rfl⟩ (lanesMoved_put _ 0 (Ob.boot_ms + 6) _ ⟨0, Ob.boot_ms + 6, .inl rfl, rfl⟩)
  have hone : LanesMoved serviceKey s s1 := lanesMoved_trans hstep (lanesMoved_setPort _ _ p _)
  have htwo : LanesMoved serviceKey s1 s2 := by
    refine lanesMoved_each _ _ (fun l _ t => ?_) s1
    exact lanesMoved_trans (lanesMoved_setLane _ t (p / 16) l _) (lanesMoved_crossReset _ _ _ _ _)
  refine lanesMoved_trans (lanesMoved_trans hone htwo) (lanesMoved_trans ?_ (lanesMoved_chooseDown _))
  split
  · split
    · exact ⟨objsBut_of_eq rfl, rfl⟩
    · exact lanesMoved_refl _ _
  · exact lanesMoved_refl _ _

theorem lanesMoved_refreshPort (s : State) (p : Nat) : LanesMoved serviceKey s (s.refreshPort p) := by
  unfold State.refreshPort
  split
  · exact lanesMoved_refl _ s
  · extract_lets t reported ok
    have hmap : LanesMoved serviceKey s t := by
      show LanesMoved _ s (s.sleepMap p)
      unfold State.sleepMap
      split
      · exact lanesMoved_setPort _ s p _
      · exact lanesMoved_refl _ s
    have hserve : LanesMoved serviceKey t (if (t.port p).inService then (if ok then t else t.portDown p) else (if ok then t.portUp p else t)) := by
      split
      · split
        · exact lanesMoved_refl _ t
        · exact lanesMoved_portDown t p
      · split
        · exact lanesMoved_portUp t p
        · exact lanesMoved_refl _ t
    exact lanesMoved_trans hmap (lanesMoved_trans hserve (lanesMoved_put _ (p / 16) (atPort Ob.lane_maps p) _ (mapsKey p)))

/-! The state of a lane -/

/-- The objects that show a lane's state beside its service. -/
def laneShown (die lane k : Nat) : Prop := k = fullKey die (Ob.lane_state + lane) ∨ k = fullKey die (Ob.lane_peer + lane) ∨ serviceKey k

theorem lanesMoved_setTx (s : State) (die lane v : Nat) : LanesMoved (laneShown die lane) s (s.setTx die lane v) := by
  unfold State.setTx
  extract_lets k n
  have hput : LanesMoved (laneShown die lane) s (s.put die k (n / 64 * 64 + v % 4 * 16 + n % 16)) := lanesMoved_put s die k _ (.inl rfl)
  exact lanesMoved_trans hput (lanesMoved_when _ _ _ (lanesMoved_crossReset _ _ _ _ _))

theorem lanesMoved_setRx (s : State) (die lane v : Nat) : LanesMoved (laneShown die lane) s (s.setRx die lane v) := by
  unfold State.setRx
  extract_lets k s1 s2
  have hone : LanesMoved (laneShown die lane) s s1 := lanesMoved_put s die k _ (.inl rfl)
  have htwo : LanesMoved (laneShown die lane) s1 s2 := lanesMoved_trans (lanesMoved_put s1 die (Ob.lane_peer + lane) _ (.inr (.inl rfl))) (lanesMoved_setLane _ _ _ _ _)
  split
  · exact hone
  · split
    · exact lanesMoved_trans hone htwo
    · exact lanesMoved_trans hone (lanesMoved_trans htwo (lanesMoved_trans (lanesMoved_crossReset _ s2 _ _ _) (lanesMoved_crossReset _ _ _ _ _)))

theorem lanesMoved_refreshLane (s : State) (die lane l : Nat) : LanesMoved (laneShown die l) s (s.refreshLane die lane) := lanesMoved_mono (lanesMoved_refreshPort s _) fun _ h => .inr (.inr h)

end Sys2Proof.Proofs
end

section
/-! The reference clocks (R384-R386). -/

namespace Sys2Proof.Proofs

open Sys2Proof.Machine Sys2Proof.Laws Sys2Proof.Claims

/-! What changes beside the clocks' own objects -/

/-- The places of the objects that show the reference clocks. -/
def clockPlace (j : Nat) : Prop := j = Ob.refclk_valid ∨ j = Ob.refclk_active ∨ j = Ob.refclk_diff_ppb

/-- An object that shows none of a reference clock. -/
def besideClock (k : Nat) : Prop := ∀ die j, clockPlace j → k ≠ fullKey die j

theorem clockPlace_lt {j : Nat} (h : clockPlace j) : j < 16777216 := by
  simp only [clockPlace, Ob.refclk_valid, Ob.refclk_active, Ob.refclk_diff_ppb] at h
  omega

theorem besideClock_full {die key : Nat} (h : ¬ clockPlace key := by unfold clockPlace; decide) (hlt : key < 16777216 := by decide) : besideClock (fullKey die key) := fun _ _ hj heq =>
  h ((fullKey_inj hlt (clockPlace_lt hj) heq).2 ▸ hj)

theorem besideClock_report {k : Nat} (h : reportKey k) : besideClock k := by
  rintro die j hj rfl
  refine not_reportKey_full (d := die) (k := j) ?_ (clockPlace_lt hj) h
  simp only [clockPlace, Ob.refclk_valid, Ob.refclk_active, Ob.refclk_diff_ppb] at hj
  simp only [reportPlaces, Ob.event_seq, Ob.knot_late, Ob.knot_evictions, Ob.knot_undelivered, Ob.fwd_drops, Ob.lane_sleep, Ob.lane_state]
  omega

theorem besideClock_lane {die lane k : Nat} (hlane : lane < 8) (h : laneShown die lane k) : besideClock k := by
  rcases h with rfl | rfl | ⟨d, j, hj, rfl⟩
  · refine besideClock_full ?_ ?_ <;> simp only [clockPlace, Ob.lane_state, Ob.refclk_valid, Ob.refclk_active, Ob.refclk_diff_ppb] <;> omega
  · refine besideClock_full ?_ ?_ <;> simp only [clockPlace, Ob.lane_peer, Ob.refclk_valid, Ob.refclk_active, Ob.refclk_diff_ppb] <;> omega
  · refine besideClock_full ?_ (servicePlace_lt hj)
    simp only [servicePlace, Ob.boot_ms, Ob.fwd_flags, Ob.lane_maps, Ob.fwd_drops] at hj
    simp only [clockPlace, Ob.refclk_valid, Ob.refclk_active, Ob.refclk_diff_ppb]
    omega

theorem besideClock_put (s : State) (die key : Nat) (v : Int) (h : ¬ clockPlace key := by unfold clockPlace; decide) (hlt : key < 16777216 := by decide) : ObjsBut s (s.put die key v) besideClock :=
  objsBut_mono (objsBut_put s die key v) fun _ hk => hk ▸ besideClock_full h hlt

theorem besideClock_raise (s : State) (die key i x : Nat) (h : ¬ clockPlace key := by unfold clockPlace; decide) (hlt : key < 16777216 := by decide) : ObjsBut s (s.raise die key i x) besideClock :=
  objsBut_mono (raise_objs s die key i x) fun _ hk => hk.elim (fun hk => hk ▸ besideClock_full h hlt) besideClock_report

theorem clock_int {s t : State} (h : ObjsBut s t besideClock) (die : Nat) {j : Nat} (hj : clockPlace j) : t.int die j = s.int die j := objsBut_int h fun hk => hk die j hj rfl

theorem clock_nat {s t : State} (h : ObjsBut s t besideClock) (die : Nat) {j : Nat} (hj : clockPlace j) : t.nat die j = s.nat die j := objsBut_nat h fun hk => hk die j hj rfl

/-! Clocks lost (R386) -/

theorem besideClock_stopLanes (s : State) (die : Nat) : ObjsBut s (s.stopLanes die) besideClock := by
  have hlanes : LanesMoved besideClock s (s.each (List.range 8) fun l s => s.stopLane die l) := by
    refine lanesMoved_each _ _ (fun l hl t => ?_) s
    have hlane : l < 8 := List.mem_range.1 hl
    unfold State.stopLane
    split
    · exact lanesMoved_refl _ t
    · extract_lets k s1
      have hone : LanesMoved besideClock t s1 := lanesMoved_trans (lanesMoved_put t die k _ (besideClock_lane hlane (.inr (.inl rfl)))) (lanesMoved_setLane _ _ _ _ _)
      have hmoved : LanesMoved (laneShown die l) s1 (((s1.setTx die l 0).setRx die l 0).refreshLane die l) :=
        lanesMoved_trans (lanesMoved_setTx s1 die l 0) (lanesMoved_trans (lanesMoved_setRx _ die l 0) (lanesMoved_refreshLane _ die l l))
      exact lanesMoved_trans hone (lanesMoved_mono hmoved fun _ hk => besideClock_lane hlane hk)
  exact objsBut_trans hlanes.objs (besideClock_put _ die Ob.eth_link_state 0)

theorem crossWord_objs (s : State) (f : Int) : (s.crossWord f).objs = s.objs := by
  unfold State.crossWord
  split <;> rfl

theorem besideClock_enterHoldover (s : State) : ObjsBut s s.enterHoldover besideClock := by
  unfold State.enterHoldover
  split
  · extract_lets s1 word lay
    have hone : ObjsBut s s1 besideClock := objsBut_trans (besideClock_put s 0 Ob.lay_state layHoldover) (besideClock_put _ 0 Ob.lay_upstream 0xFF)
    have hword : ObjsBut s1 word besideClock := objsBut_of_eq (crossWord_objs s1 _)
    have hshown : ∀ t : State, ObjsBut t t.showFreq besideClock := fun t => besideClock_put t 0 Ob.lay_freq_adj _
    clear_value s1 word lay
    have hheld : ObjsBut word ({ word with lay := { lay with trim := 0, trimNs := 0, preHold := s.layState } } : State) besideClock := objsBut_of_eq rfl
    exact objsBut_trans hone (objsBut_trans hword (objsBut_trans hheld (objsBut_trans (hshown _) (besideClock_raise _ 0 Ob.lay_flags 7 0))))
  · exact besideClock_put s 0 Ob.lay_upstream 0xFF

/-- A die that has lost both clocks holds: refclk_active shows it, the loss is flagged, and FAULT_N has a source. -/
theorem clocksLost_holds (s : State) (die : Nat) : ObjsBut (s.put die Ob.refclk_active 2) (s.clocksLost die) besideClock ∧ (s.clocksLost die).on die Ob.clock_flags 1 = true ∧ bit (s.clocksLost die).faultSrc 0 = true := by
  unfold State.clocksLost
  extract_lets s1 s2 s3
  have hone : ObjsBut (s.put die Ob.refclk_active 2) s1 besideClock :=
    objsBut_trans (besideClock_stopLanes (s.put die Ob.refclk_active 2) die) (objsBut_of_eq (setClk_objs ..))
  have htwo : ObjsBut s1 s2 besideClock := by
    refine when_of (P := fun t => ObjsBut s1 t besideClock) s1 _ _ (objsBut_refl _ _) ?_
    exact besideClock_enterHoldover s1
  have hthree : ObjsBut s2 s3 besideClock := besideClock_raise s2 die Ob.clock_flags 1 0
  have hflag : s3.on die Ob.clock_flags 1 = true := raise_on s2 die Ob.clock_flags 1 0 not_reportKey_full
  clear_value s3
  have hdriven : (({ s3 with faultSrc := setBit s3.faultSrc 0 } : State).driveFault s3.faultOn).objs = s3.objs := by
    unfold State.driveFault
    split <;> rfl
  refine ⟨objsBut_trans hone (objsBut_trans htwo (objsBut_trans hthree (objsBut_of_eq hdriven))), ?_, ?_⟩
  · rw [State.on, nat_of_objs hdriven]
    exact hflag
  · rw [driveFault_faultSrc]
    simp [setBit, bit]

/-! A clock found faulty (R385) -/

theorem refBad_faulty (s : State) (die which : Nat) : (s.refBad die which).on die Ob.refclk_valid which = false ∧ (∀ i, i ≠ which → (s.refBad die which).on die Ob.refclk_valid i = s.on die Ob.refclk_valid i) ∧
    ObjsBut s (s.refBad die which) (fun k => k = fullKey die Ob.refclk_valid) ∧ smGet 0 ((s.refBad die which).clk die).faultAt which = s.now ∧
    s.refBad die which = { s with objs := (s.refBad die which).objs, clks := (s.refBad die which).clks } := by
  have hvalid : (s.refBad die which).nat die Ob.refclk_valid = clearBit (s.nat die Ob.refclk_valid) which := (nat_put_same s die Ob.refclk_valid _).trans (Int.toNat_natCast _)
  have hclk : (s.refBad die which).clk die = { s.clk die with faultAt := smPut 0 (s.clk die).faultAt which s.now } := smGet_smPut_same ..
  refine ⟨?_, fun i hi => ?_, objsBut_put s die Ob.refclk_valid _, ?_, rfl⟩
  · rw [State.on, hvalid, bit_clearBit]
    simp
  · rw [State.on, hvalid, bit_clearBit, State.on]
    simp [hi]
  · rw [hclk]
    exact smGet_smPut_same ..

theorem clockFaults : Claims.clockFaults := by
  intro s die which why h hwhich
  have halive := h.2
  have hnext : ∀ x, s.refFaulty die which = x → exec (.refclkFault die which why) s = .next x := fun x hx => congrArg Host.Outcome.next ((onDie_upDie h _).trans hx)
  have hgo : (!(s.alive die) || decide (2 ≤ which)) = false := by simp [halive, hwhich]
  obtain ⟨hoff, hothers, hobjs, hat, hrest⟩ := refBad_faulty s die which
  have hother : (s.refBad die which).on die Ob.refclk_valid (1 - which) = s.on die Ob.refclk_valid (1 - which) := hothers _ (by omega)
  refine ⟨fun hactive => ⟨s.refBad die which, hnext _ ?_, hoff, hobjs, hat, hrest⟩, fun hactive hspare => ?_, fun hactive hspare => ?_⟩
  · unfold State.refFaulty
    rw [if_neg (by rw [hgo]; exact Bool.false_ne_true), if_pos hactive]
  · have hswitch : s.refFaulty die which = (((s.refBad die which).put die Ob.refclk_active (1 - which : Nat)).bump die Ob.refclk_switches).raise die Ob.clock_flags 0 := by
      unfold State.refFaulty
      rw [if_neg (by rw [hgo]; exact Bool.false_ne_true), if_neg (not_not.2 hactive)]
      simp only [hother, hspare, if_true]
    have hraised := besideClock_raise (((s.refBad die which).put die Ob.refclk_active (1 - which : Nat)).bump die Ob.refclk_switches) die Ob.clock_flags 0 0
    refine ⟨_, hnext _ hswitch, ?_, ?_, ?_, raise_on _ die Ob.clock_flags 0 0 not_reportKey_full⟩
    · rw [State.on, clock_nat hraised die (.inl rfl), bump_nat_other _ _ (fullKey_ne (by decide)), nat_put_other _ _ _ _ _ _ (fullKey_ne (by decide))]
      exact hoff
    · rw [clock_nat hraised die (.inr (.inl rfl)), bump_nat_other _ _ (fullKey_ne (by decide))]
      exact (nat_put_same ..).trans (Int.toNat_natCast _)
    · have hcount := counts_bump ((s.refBad die which).put die Ob.refclk_active (1 - which : Nat)) die Ob.refclk_switches 1 (by decide)
      refine counts_of_int hcount ?_ (raise_int_other _ 0 0 (fullKey_ne (by decide)) not_reportKey_full)
      exact ((int_put_other _ _ _ _ _ _ (fullKey_ne (by decide))).trans (objsBut_int hobjs (fullKey_ne (by decide)))).symm
  · have hlost : s.refFaulty die which = (s.refBad die which).clocksLost die := by
      unfold State.refFaulty
      rw [if_neg (by rw [hgo]; exact Bool.false_ne_true), if_neg (not_not.2 hactive)]
      simp only [hother, hspare, Bool.false_eq_true, if_false]
    obtain ⟨hbeside, hflag, hsrc⟩ := clocksLost_holds (s.refBad die which) die
    refine ⟨_, hnext _ hlost, ?_, ?_, hflag, hsrc⟩
    · rw [State.on, clock_nat hbeside die (.inl rfl), nat_put_other _ _ _ _ _ _ (fullKey_ne (by decide))]
      exact hoff
    · rw [clock_nat hbeside die (.inr (.inl rfl))]
      exact nat_put_same ..

/-! The rates (R384) and the return to a clock that is valid -/

/-- A clock found faulty shows nothing else of the clocks but which one runs, and the other as it was. -/
theorem refFaulty_shows {s : State} {die : Nat} (halive : s.alive die = true) (which : Nat) (h : which < 2) : (s.refFaulty die which).int die Ob.refclk_diff_ppb = s.int die Ob.refclk_diff_ppb ∧
    (s.refFaulty die which).on die Ob.refclk_valid which = false ∧ ∀ i, i ≠ which → (s.refFaulty die which).on die Ob.refclk_valid i = s.on die Ob.refclk_valid i := by
  have hgo : (!(s.alive die) || decide (2 ≤ which)) = false := by simp [halive, h]
  obtain ⟨hoff, hothers, hobjs, -, -⟩ := refBad_faulty s die which
  have hdiff : (s.refBad die which).int die Ob.refclk_diff_ppb = s.int die Ob.refclk_diff_ppb := objsBut_int hobjs (fullKey_ne (by decide))
  have hafter : ∀ t : State, t.int die Ob.refclk_diff_ppb = (s.refBad die which).int die Ob.refclk_diff_ppb → t.nat die Ob.refclk_valid = (s.refBad die which).nat die Ob.refclk_valid →
      t.int die Ob.refclk_diff_ppb = s.int die Ob.refclk_diff_ppb ∧ t.on die Ob.refclk_valid which = false ∧ ∀ i, i ≠ which → t.on die Ob.refclk_valid i = s.on die Ob.refclk_valid i := fun t hd hv =>
    ⟨hd.trans hdiff, (congrArg (fun k => bit k which) hv).trans hoff, fun i hi => (congrArg (fun k => bit k i) hv).trans (hothers i hi)⟩
  unfold State.refFaulty
  rw [if_neg (by rw [hgo]; exact Bool.false_ne_true)]
  dsimp only
  split
  · exact hafter _ rfl rfl
  · split
    · have hraised := besideClock_raise (((s.refBad die which).put die Ob.refclk_active (1 - which : Nat)).bump die Ob.refclk_switches) die Ob.clock_flags 0 0
      refine hafter _ ?_ ?_
      · rw [clock_int hraised die (.inr (.inr rfl)), bump_int_other _ _ (fullKey_ne (by decide)), int_put_other _ _ _ _ _ _ (fullKey_ne (by decide))]
      · rw [clock_nat hraised die (.inl rfl), bump_nat_other _ _ (fullKey_ne (by decide)), nat_put_other _ _ _ _ _ _ (fullKey_ne (by decide))]
    · obtain ⟨hbeside, -, -⟩ := clocksLost_holds (s.refBad die which) die
      refine hafter _ ?_ ?_
      · rw [clock_int hbeside die (.inr (.inr rfl)), int_put_other _ _ _ _ _ _ (fullKey_ne (by decide))]
      · rw [clock_nat hbeside die (.inl rfl), nat_put_other _ _ _ _ _ _ (fullKey_ne (by decide))]

/-- A window of the rate monitor that closes. -/
def rateShown (s : State) (die : Nat) (diff : Int) : State := (s.put die Ob.refclk_diff_ppb diff).setClk die fun c => { c with rateAt := some s.now }

theorem ratesChecked : Claims.ratesChecked := by
  intro s die a b diff h
  have halive := h.2
  have hnext : ∀ x, s.rateCheck die a b diff = x → exec (.refclkRateCheck die a b diff) s = .next x := fun x hx => congrArg Host.Outcome.next ((onDie_upDie h _).trans hx)
  have hdiff : (rateShown s die diff).int die Ob.refclk_diff_ppb = diff := int_put_same ..
  have hclk : ((rateShown s die diff).clk die).rateAt = some s.now := congrArg ClkSt.rateAt (smGet_smPut_same ..)
  have hvalid : (rateShown s die diff).nat die Ob.refclk_valid = s.nat die Ob.refclk_valid := nat_put_other _ _ _ _ _ _ (fullKey_ne (by decide))
  have hshown : (rateShown s die diff).alive die = true := (congrArg (fun k => bit k die) (nat_put_other s die Ob.refclk_diff_ppb 0 Ob.dies_alive diff (fullKey_ne (by decide)))).trans halive
  have hrun : s.due (s.clk die).rateAt 10000000 = true → s.rateCheck die a b diff =
      if s.hasWitness then
        ((if (s.nat die Ob.refclk_rate_ppm : Int) * 1000 < a.natAbs then [0] else []) ++ if (s.nat die Ob.refclk_rate_ppm : Int) * 1000 < b.natAbs then [1] else [] : List Nat) |> fun bad =>
          (rateShown s die diff).each bad fun w s => (s.each (bad.filter (· ≠ w)) fun v s => s.refBad die v).refFaulty die w
      else if (s.nat die Ob.refclk_rate_ppm : Int) * 1000 < diff.natAbs then (rateShown s die diff).raise die Ob.clock_flags 2
      else rateShown s die diff := fun hdue => by
    have hgo : (!(s.alive die) || !(s.due (s.clk die).rateAt 10000000)) = false := by simp [halive, hdue]
    unfold State.rateCheck
    rw [if_neg (by rw [hgo]; exact Bool.false_ne_true)]
    rfl
  refine ⟨fun hsoon => hnext s (by simp [State.rateCheck, hsoon]), fun hdue hnone => ?_, fun hdue hwitness ha hb => ?_⟩
  · rw [hnone, if_neg Bool.false_ne_true] at hrun
    refine ⟨_, hnext _ (hrun hdue), ?_⟩
    split
    · have hraised := besideClock_raise (rateShown s die diff) die Ob.clock_flags 2 0
      refine ⟨(clock_int hraised die (.inr (.inr rfl))).trans hdiff, ?_, (clock_nat hraised die (.inl rfl)).trans hvalid, fun _ => raise_on _ die Ob.clock_flags 2 0 not_reportKey_full⟩
      rw [State.clk, raise_clks]
      exact hclk
    · next hwithin => exact ⟨hdiff, hclk, hvalid, fun hbeyond => absurd hbeyond hwithin⟩
  · rw [hwitness, if_pos rfl, if_pos ha, if_neg (Int.not_lt.2 hb)] at hrun
    obtain ⟨hkept, hoff, hother⟩ := refFaulty_shows hshown 0 (by decide)
    refine ⟨_, hnext ((rateShown s die diff).refFaulty die 0) (hrun hdue), hkept.trans hdiff, hoff, (hother 1 (by decide)).trans ?_⟩
    rw [State.on, hvalid]
    rfl

theorem clockValid : Claims.clockValid := by
  intro s die which h hwhich
  have halive := h.2
  have hnext : ∀ x, s.refValid die which = x → exec (.refclkValid die which) s = .next x := fun x hx => congrArg Host.Outcome.next ((onDie_upDie h _).trans hx)
  have hgo : (!(s.alive die) || decide (2 ≤ which)) = false := by simp [halive, hwhich]
  have hrun : s.refValid die which = if !(s.on die Ob.refclk_valid which) then
      if s.past (smGet 0 (s.clk die).faultAt which) 10000000 then
        (s.put die Ob.refclk_valid (setBit (s.nat die Ob.refclk_valid) which)).setClk die fun c => { c with validAt := smPut 0 c.validAt which s.now }
      else s
    else if s.on die Ob.refclk_revert && s.nat die Ob.refclk_sel = which && s.nat die Ob.refclk_active = 1 - which && s.past (smGet 0 (s.clk die).validAt which) 10000000 then
      (s.put die Ob.refclk_active which).bump die Ob.refclk_switches
    else s := by
    unfold State.refValid
    rw [if_neg (by rw [hgo]; exact Bool.false_ne_true)]
  refine ⟨fun hoff hpast => ?_, fun hoff hsoon => hnext s ?_, fun hon hrevert hsel hactive hpast => ?_⟩
  · rw [hoff, Bool.not_false, if_pos rfl, if_pos hpast] at hrun
    refine ⟨_, hnext _ hrun, ?_, ?_, objsBut_put s die Ob.refclk_valid _, rfl⟩
    · have hvalid : (s.put die Ob.refclk_valid (setBit (s.nat die Ob.refclk_valid) which)).nat die Ob.refclk_valid = setBit (s.nat die Ob.refclk_valid) which := (nat_put_same ..).trans (Int.toNat_natCast _)
      refine (congrArg (fun k => bit k which) hvalid).trans ?_
      simp [setBit, bit]
    · have hclk : ∀ t : State, (t.setClk die fun c => { c with validAt := smPut 0 c.validAt which s.now }).clk die = { t.clk die with validAt := smPut 0 (t.clk die).validAt which s.now } := fun t => smGet_smPut_same ..
      rw [hclk]
      exact smGet_smPut_same ..
  · rw [hrun, hoff, Bool.not_false, if_pos rfl, if_neg (by rw [hsoon]; exact Bool.false_ne_true)]
  · have hback : (s.on die Ob.refclk_revert && decide (s.nat die Ob.refclk_sel = which) && decide (s.nat die Ob.refclk_active = 1 - which) && s.past (smGet 0 (s.clk die).validAt which) 10000000) = true := by
      simp [hrevert, hsel, hactive, hpast]
    rw [hon, Bool.not_true, if_neg Bool.false_ne_true, if_pos hback] at hrun
    refine ⟨_, hnext _ hrun, ?_, ?_⟩
    · rw [bump_nat_other _ _ (fullKey_ne (by decide))]
      exact (nat_put_same ..).trans (Int.toNat_natCast _)
    · exact counts_of_int (counts_bump (s.put die Ob.refclk_active which) die Ob.refclk_switches 1 (by decide)) (int_put_other _ _ _ _ _ _ (fullKey_ne (by decide))).symm rfl

/-! The PLLs track again (R386) -/

theorem besideClock_laneTxStart (s : State) (die : Nat) {lane : Nat} (h : lane < 8) : LanesMoved besideClock s (s.laneTxStart die lane) := by
  unfold State.laneTxStart
  split
  · extract_lets s2
    have htwo : LanesMoved (laneShown die lane) s s2 := lanesMoved_trans (t := s.applyPreset die lane) ⟨objsBut_of_eq rfl, rfl⟩ (lanesMoved_setTx _ die lane _)
    have hbegin : LanesMoved (laneShown die lane) s2 (if s2.rx die lane = 0 then s2.setRx die lane (s.rxBegin die lane) else s2) := by
      split
      · exact lanesMoved_setRx s2 die lane _
      · exact lanesMoved_refl _ s2
    exact lanesMoved_mono (lanesMoved_trans htwo (lanesMoved_trans hbegin (lanesMoved_refreshLane _ die lane lane))) fun _ hk => besideClock_lane h hk
  · exact lanesMoved_refl _ s

theorem besideClock_ethResume (s : State) (die : Nat) : LanesMoved besideClock s (s.ethResume die) := by
  unfold State.ethResume
  split
  · unfold State.ethRestart
    extract_lets s1
    have hone : LanesMoved besideClock s s1 := by
      refine lanesMoved_each _ _ (fun l hl t => ?_) s
      have hlane : l < 8 := by simp only [List.mem_cons, List.not_mem_nil, or_false] at hl; omega
      exact lanesMoved_put t die (Ob.lane_state + l) _ (besideClock_lane hlane (.inl rfl))
    exact lanesMoved_trans hone (lanesMoved_put s1 die Ob.eth_link_state _ besideClock_full)
  · exact lanesMoved_refl _ s

theorem pllsResume : Claims.pllsResume := by
  intro s die h hhold
  have halive := h.2
  have hnext : ∀ x, s.pllResume die = x → exec (.pllResume die) s = .next x := fun x hx => congrArg Host.Outcome.next ((onDie_upDie h _).trans hx)
  refine ⟨fun hvalid => ?_, fun hnone => hnext s ?_⟩
  · have hgo : (!(s.alive die) || decide (s.nat die Ob.refclk_active ≠ 2) || decide (s.nat die Ob.refclk_valid = 0)) = false := by simp [halive, hhold, hvalid]
    refine ⟨_, hnext _ rfl, ?_⟩
    unfold State.pllResume
    rw [if_neg (by rw [hgo]; exact Bool.false_ne_true)]
    extract_lets sel use
    have hmoved := lanesMoved_trans (lanesMoved_each (List.range 8) (fun l s => s.laneTxStart die l) (fun l hl t => besideClock_laneTxStart t die (List.mem_range.1 hl))
      ((s.put die Ob.refclk_active use).setClk die fun c => { c with lostAt := none })) (besideClock_ethResume _ die)
    obtain ⟨hobjs, hrest⟩ := hmoved
    refine ⟨?_, ?_, by rw [hrest]; rfl⟩
    · rw [clock_nat hobjs die (.inr (.inl rfl))]
      exact (nat_put_same s die Ob.refclk_active _).trans (Int.toNat_natCast _)
    · rw [hrest]
      exact congrArg ClkSt.lostAt (smGet_smPut_same ..)
  · have hstop : (!(s.alive die) || decide (s.nat die Ob.refclk_active ≠ 2) || decide (s.nat die Ob.refclk_valid = 0)) = true := by simp [hnone]
    unfold State.pllResume
    rw [if_pos hstop]

/-- Settles O37: a clock found faulty, the rates, the return to a valid clock, and the PLLs that track again. -/
theorem referenceClocksSwitch : Obligations.ReferenceClocksSwitch := ⟨clockFaults, ratesChecked, clockValid, pllsResume⟩

end Sys2Proof.Proofs
end

section
/-! Capture slots: armed, released, triggered, timed out (R259-R265). -/

namespace Sys2Proof.Proofs

open Sys2Proof.Machine Sys2Proof.Laws Sys2Proof.Claims

/-! The writes that start something at a slot -/

/-- A 1 written to an object of the capture slots arms or releases one, or does nothing. -/
theorem pull_slot (s : State) (die : Nat) {key : Nat} (h : 0x530000 ≤ key ∧ key < 0x534000) : s.pull die key 1 =
    if inKeys key 0x5300 0x533F 8 8 then (s.capArm (key / 256 - 0x5300), 0) else if inKeys key 0x5300 0x533F 14 14 then (s.capRelease (key / 256 - 0x5300), 0) else (s, 0) := by
  have hne : ∀ j, (j < 0x530000 ∨ 0x534000 ≤ j) → key ≠ j := fun j hj heq => by omega
  simp only [State.pull, hne Ob.lay_time_set (by decide), hne Ob.fault_write (by decide), hne Ob.compose_apply (by decide), hne Ob.lay_root_handback (by decide), hne Ob.lay_step_accept (by decide),
    hne Ob.enum_start (by decide), hne Ob.enum_id_forget (by decide), hne Ob.knot_ack (by decide), hne Ob.red_sup_rejoin (by decide), hne Ob.red_declare (by decide), hne Ob.upd_abort (by decide),
    hne Ob.dram_maint_sweep (by decide), ne_eq, not_true_eq_false, if_false]

theorem slotKey_index {k j : Nat} (hk : k < 64) (hj : j < 256) : inKeys (atIndex (0x530000 + j) k) 0x5300 0x533F j j = true ∧ atIndex (0x530000 + j) k / 256 - 0x5300 = k ∧
    (0x530000 ≤ atIndex (0x530000 + j) k ∧ atIndex (0x530000 + j) k < 0x534000) ∧ atIndex (0x530000 + j) k % 256 = j := by
  have hkey : atIndex (0x530000 + j) k / 256 = 0x5300 + k := by simp only [atIndex]; omega
  have hsub : atIndex (0x530000 + j) k % 256 = j := by simp only [atIndex]; omega
  refine ⟨?_, by omega, by simp only [atIndex]; omega, hsub⟩
  simp only [inKeys, hkey, hsub, Bool.and_eq_true, Nat.ble_eq]
  omega

/-- A 1 written to cap_arm arms the slot. -/
theorem capArm_exec {s : State} {m : Msg} {d : ObjDef} {k : Nat} (h : WritesOne s m d 0) (hk : k < 64) (hkey : m.key = atIndex Ob.cap_arm k) (hwo : d.acc = .wo)
    (hone : (s.arrived m).clampVal 0 m.key d (decodeVal d.ty m.payload) = 1) : exec (.capArm m) s = .next (((s.arrived m).capArm k).answer 0x02 m 0 d.ty.code []) := by
  obtain ⟨hin, hslot, hspan, -⟩ := slotKey_index (j := 8) hk (by decide)
  refine congrArg Host.Outcome.next (corrixFor_write_one h (by rw [hkey]; exact hin) (by rw [hkey]; simp only [atIndex, Ob.cap_arm, Ob.part_reset]; omega) ?_)
  have hunit := h.unit
  simp only [State.writeOne, hunit, Bool.false_eq_true, if_false, hwo, hone]
  rw [hkey, pull_slot _ _ hspan, if_pos hin, hslot]

/-- A 1 written to cap_release releases it. -/
theorem capRelease_exec {s : State} {m : Msg} {d : ObjDef} {k : Nat} (h : WritesOne s m d 0) (hk : k < 64) (hkey : m.key = atIndex Ob.cap_release k) (hwo : d.acc = .wo)
    (hone : (s.arrived m).clampVal 0 m.key d (decodeVal d.ty m.payload) = 1) : exec (.capRelease m) s = .next (((s.arrived m).capRelease k).answer 0x02 m 0 d.ty.code []) := by
  obtain ⟨hin, hslot, hspan, hsub⟩ := slotKey_index (j := 14) hk (by decide)
  have hnot : inKeys (atIndex (0x530000 + 14) k) 0x5300 0x533F 8 8 = false := by
    simp only [inKeys, hsub]
    exact Bool.and_false _
  refine congrArg Host.Outcome.next (corrixFor_write_one h (by rw [hkey]; exact hin) (by rw [hkey]; simp only [atIndex, Ob.cap_release, Ob.part_reset]; omega) ?_)
  have hunit := h.unit
  simp only [State.writeOne, hunit, Bool.false_eq_true, if_false, hwo, hone]
  rw [hkey, pull_slot _ _ hspan, if_neg (by rw [hnot]; exact Bool.false_ne_true), if_pos hin, hslot]

/-! What a slot shows -/

/-- The objects of one slot are apart. -/
theorem slotKey_ne {i j k : Nat} (h : i ≠ j) : fullKey 0 (atIndex i k) ≠ fullKey 0 (atIndex j k) := by simp only [fullKey, atIndex]; omega

theorem at_set_same (s : State) (key k v : Nat) : (s.set (atIndex key k) v).at_ key k = v := (nat_put_same s 0 (atIndex key k) v).trans (Int.toNat_natCast v)

theorem at_set_other (s : State) {key key' : Nat} (k : Nat) (v : Int) (h : key ≠ key') : (s.set (atIndex key' k) v).at_ key k = s.at_ key k := nat_put_other s 0 _ 0 _ v (slotKey_ne h)

theorem not_report_slot {j k : Nat} (hk : k < 64) (hj : j < 256) : ¬ reportKey (fullKey 0 (atIndex (0x530000 + j) k)) := by
  refine not_reportKey_full ?_ ?_ <;> simp only [reportPlaces, atIndex, Ob.event_seq, Ob.knot_late, Ob.knot_evictions, Ob.knot_undelivered, Ob.fwd_drops, Ob.lane_sleep, Ob.lane_state] <;> omega

/-- A slot that fails: its state, its reason, its reservation, and the flag on the die of its stream. -/
theorem failSlot_fails (s : State) {k : Nat} (why : Nat) (hk : k < 64) : (s.failSlot k why).at_ Ob.cap_state k = 5 ∧ (s.failSlot k why).at_ Ob.cap_reason k = why ∧ smGet 0 (s.failSlot k why).cam.size k = 0 ∧
    (s.slotStream k / 4 < s.camPorts → (s.failSlot k why).on (s.slotStream k / 4) Ob.cam_flags 2 = true) := by
  have hstate : (((s.freeSlot k).set (atIndex Ob.cap_state k) 5).set (atIndex Ob.cap_reason k) why).at_ Ob.cap_state k = 5 := (at_set_other _ k _ (by decide)).trans (at_set_same _ _ k 5)
  have hreason : (((s.freeSlot k).set (atIndex Ob.cap_state k) 5).set (atIndex Ob.cap_reason k) why).at_ Ob.cap_reason k = why := at_set_same _ _ k why
  have hsize : smGet 0 (((s.freeSlot k).set (atIndex Ob.cap_state k) 5).set (atIndex Ob.cap_reason k) why).cam.size k = 0 := smGet_smPut_same 0 s.cam.size k 0
  unfold State.failSlot
  extract_lets s1 die
  split
  · have hdiffers : ∀ j, j < 256 → fullKey 0 (atIndex (0x530000 + j) k) ≠ fullKey die Ob.cam_flags := fun j hj => by simp only [fullKey, atIndex, Ob.cam_flags]; omega
    refine ⟨?_, ?_, by rw [raise_cam]; exact hsize, fun _ => raise_on s1 die Ob.cam_flags 2 die not_reportKey_full⟩
    · exact (raise_nat_other s1 2 die (hdiffers 9 (by decide)) (not_report_slot (j := 9) hk (by decide))).trans hstate
    · exact (raise_nat_other s1 2 die (hdiffers 10 (by decide)) (not_report_slot (j := 10) hk (by decide))).trans hreason
  · next hnone => exact ⟨hstate, hreason, hsize, fun hdie => absurd hdie hnone⟩

/-! Armed -/

/-- A slot armed: its trigger time shown, its bytes reserved. -/
def armedSlot (b : State) (k size : Nat) (t : Int) : State :=
  let s2 := ((b.set (atIndex Ob.cap_state k) 1).set (atIndex Ob.cap_reason k) 0).set (atIndex Ob.cap_trigger_at k) t
  { s2 with cam := { s2.cam with size := smPut 0 s2.cam.size k size } }

theorem armedSlot_shows (b : State) (k size : Nat) (t : Int) : (armedSlot b k size t).at_ Ob.cap_state k = 1 ∧ (armedSlot b k size t).at_ Ob.cap_reason k = 0 ∧
    (armedSlot b k size t).int 0 (atIndex Ob.cap_trigger_at k) = t ∧ smGet 0 (armedSlot b k size t).cam.size k = size ∧ (armedSlot b k size t).cam.armed = b.cam.armed ∧ (armedSlot b k size t).sent = b.sent :=
  ⟨(at_set_other _ k t (by decide)).trans ((at_set_other _ k 0 (by decide)).trans (at_set_same b _ k 1)), (at_set_other _ k t (by decide)).trans (at_set_same _ _ k 0), int_put_same .., smGet_smPut_same .., rfl, rfl⟩

/-- The slot of cap_arm with its values fixed. -/
theorem capArm_idle {a : State} {k : Nat} (h : a.at_ Ob.cap_state k = 0 ∨ a.at_ Ob.cap_state k = 4 ∨ a.at_ Ob.cap_state k = 5) (hon : (fixedSlot a k).streamOn ((fixedSlot a k).slotStream k) = true)
    (hout : (fixedSlot a k).at_ Ob.cam_output ((fixedSlot a k).slotStream k) ≠ 0) : a.capArm k = match (fixedSlot a k).trigger (armedVals a k) with
      | none => (fixedSlot a k).failSlot k 6
      | some t =>
        if t < (fixedSlot a k).layNow + 1000000 * layNs then (fixedSlot a k).failSlot k 1
        else if (fixedSlot a k).nat ((fixedSlot a k).slotStream k / 4) Ob.cam_capture_pool_mb * 1048576 <
          (fixedSlot a k).poolUsed ((fixedSlot a k).slotStream k / 4) + (fixedSlot a k).camW ((fixedSlot a k).slotStream k) * (fixedSlot a k).camH ((fixedSlot a k).slotStream k) * 2 then (fixedSlot a k).failSlot k 2
        else (armedSlot (fixedSlot a k) k ((fixedSlot a k).camW ((fixedSlot a k).slotStream k) * (fixedSlot a k).camH ((fixedSlot a k).slotStream k) * 2) t).addPulse k t := by
  have hidle : (a.at_ Ob.cap_state k ≠ 0 && a.at_ Ob.cap_state k ≠ 4 && a.at_ Ob.cap_state k ≠ 5) = false := by rcases h with h | h | h <;> simp [h]
  have hready : (!((fixedSlot a k).streamOn ((fixedSlot a k).slotStream k)) || decide ((fixedSlot a k).at_ Ob.cam_output ((fixedSlot a k).slotStream k) = 0)) = false := by simp [hon, hout]
  unfold State.capArm
  rw [if_neg (by rw [hidle]; exact Bool.false_ne_true)]
  exact if_neg fun hbusy => Bool.false_ne_true (hready.symm.trans hbusy)

theorem addPulse_rest (s : State) (k : Nat) (t : Int) : s.addPulse k t = { s with lay := (s.addPulse k t).lay } := by
  unfold State.addPulse
  dsimp only
  split <;> rfl

theorem slotArmed : Claims.slotArmed := by
  intro s a b m d k n h hk hkey hwo ha hone hb hn
  subst ha hb hn
  have hexec := capArm_exec h hk hkey hwo hone
  refine ⟨fun t hidle hon hout htrigger hlate hroom => ?_, fun hidle hon hout hnone => ?_, fun hbusy => ?_⟩
  · have harm := capArm_idle hidle hon hout
    simp only [htrigger, if_neg (Int.not_lt.2 hlate), if_neg (Nat.not_lt.2 hroom)] at harm
    rw [harm] at hexec
    obtain ⟨hstate, hreason, htime, hsize, harmed, hsent⟩ := armedSlot_shows (fixedSlot (s.arrived m) k) k
      ((fixedSlot (s.arrived m) k).camW ((fixedSlot (s.arrived m) k).slotStream k) * (fixedSlot (s.arrived m) k).camH ((fixedSlot (s.arrived m) k).slotStream k) * 2) t
    have hvals : smGet [] (fixedSlot (s.arrived m) k).cam.armed k = armedVals (s.arrived m) k := smGet_smPut_same [] ((s.arrived m).freeSlot k).cam.armed k (armedVals (s.arrived m) k)
    generalize armedSlot (fixedSlot (s.arrived m) k) k _ t = u at hexec hstate hreason htime hsize harmed hsent
    have hpulse := addPulse_rest u k t
    have hobjs : (u.addPulse k t).objs = u.objs := by rw [hpulse]
    have hcam : (u.addPulse k t).cam = u.cam := by rw [hpulse]
    refine ⟨_, hexec, (nat_of_objs hobjs ..).trans hstate, (nat_of_objs hobjs ..).trans hreason, (int_of_objs hobjs ..).trans htime, by rw [hcam]; exact hsize, by rw [hcam, harmed]; exact hvals, ?_⟩
    rw [hpulse]
    exact hsent
  · have harm := capArm_idle hidle hon hout
    simp only [hnone] at harm
    rw [harm] at hexec
    obtain ⟨hstate, hreason, hsize, -⟩ := failSlot_fails (fixedSlot (s.arrived m) k) 6 hk
    exact ⟨_, hexec, hstate, hreason, hsize⟩
  · have hkept : (s.arrived m).capArm k = s.arrived m := by
      have hgo : ((s.arrived m).at_ Ob.cap_state k ≠ 0 && (s.arrived m).at_ Ob.cap_state k ≠ 4 && (s.arrived m).at_ Ob.cap_state k ≠ 5) = true := by rcases hbusy with h | h | h <;> simp [h]
      unfold State.capArm
      rw [if_pos hgo]
    rw [hexec, hkept]

/-! Released, triggered, timed out -/

theorem slotReleased : Claims.slotReleased := by
  intro s a m d k h hk hkey hwo ha hone
  subst ha
  have hexec := capRelease_exec h hk hkey hwo hone
  refine ⟨fun hidle => ?_, fun hbusy => ?_⟩
  · have hfree : (s.arrived m).capRelease k = (((s.arrived m).freeSlot k).set (atIndex Ob.cap_state k) 0).set (atIndex Ob.cap_reason k) 0 := by
      have hgo : ((s.arrived m).at_ Ob.cap_state k = 1 || (s.arrived m).at_ Ob.cap_state k = 2 || (s.arrived m).at_ Ob.cap_state k = 3) = false := by rcases hidle with h | h | h <;> simp [h]
      unfold State.capRelease
      rw [if_neg (by rw [hgo]; exact Bool.false_ne_true)]
    rw [hfree] at hexec
    refine ⟨_, hexec, (at_set_other _ k _ (by decide)).trans (at_set_same _ _ k 0), at_set_same _ _ k 0, smGet_smPut_same 0 (s.arrived m).cam.size k 0, smGet_smPut_same [] (s.arrived m).cam.data k [], rfl⟩
  · have hcancel : (s.arrived m).capRelease k = (((((s.arrived m).dropPulse k).detachSlot k).freeSlot k).set (atIndex Ob.cap_state k) 5).set (atIndex Ob.cap_reason k) 7 := by
      have hgo : ((s.arrived m).at_ Ob.cap_state k = 1 || (s.arrived m).at_ Ob.cap_state k = 2 || (s.arrived m).at_ Ob.cap_state k = 3) = true := by rcases hbusy with h | h | h <;> simp [h]
      unfold State.capRelease
      rw [if_pos hgo]
    have hdrop : (s.arrived m).dropPulse k = { s.arrived m with lay := ((s.arrived m).dropPulse k).lay } := by
      unfold State.dropPulse
      dsimp only
      split <;> rfl
    rw [hcancel] at hexec
    generalize (s.arrived m).dropPulse k = u at hexec hdrop
    refine ⟨_, hexec, (at_set_other _ k _ (by decide)).trans (at_set_same _ _ k 5), at_set_same _ _ k 7, smGet_smPut_same 0 u.cam.size k 0, ?_⟩
    rw [hdrop]
    rfl

theorem slotTriggers : Claims.slotTriggers := by
  intro s k hup hk harmed
  have hnext : ∀ x, s.capTrigger k = x → exec (.capTrigger k) s = .next x := fun x hx => congrArg Host.Outcome.next ((run_up hup _).trans hx)
  refine ⟨fun hreached => ⟨s.set (atIndex Ob.cap_state k) 2, hnext _ (by simp [State.capTrigger, harmed, hreached]), at_set_same s _ k 2, ?_, rfl⟩, fun hsoon => hnext s (by simp [State.capTrigger, hsoon])⟩
  exact objsBut_mono (objsBut_put s 0 (atIndex Ob.cap_state k) 2) fun x hx => hx.trans (fullKey_part _)

theorem windowCloses : Claims.windowCloses := by
  intro s k hup hk hwaits
  have hnext : ∀ x, s.capTimeout k = x → exec (.capWindowTimeout k) s = .next x := fun x hx => congrArg Host.Outcome.next ((run_up hup _).trans hx)
  refine ⟨fun hreached => ⟨s.failSlot k 4, hnext _ ?_, failSlot_fails s 4 hk⟩, fun hsoon => hnext s (by simp [State.capTimeout, hsoon])⟩
  have hgo : ((s.at_ Ob.cap_state k = 1 || s.at_ Ob.cap_state k = 2) && s.reached (s.windowEnd k)) = true := by rcases hwaits with h | h <;> simp [h, hreached]
  unfold State.capTimeout
  rw [if_pos hgo]

/-- Settles O29: a slot armed, released, triggered, timed out. -/
theorem capturesAreArmedAndTaken : Obligations.CapturesAreArmedAndTaken := ⟨slotArmed, slotReleased, slotTriggers, windowCloses⟩

end Sys2Proof.Proofs
end

section
/-! Readings of a lamp, fault_write, function groups, self-refresh and the raster tolerance (R317, R326, R336-R344). -/

namespace Sys2Proof.Proofs

open Sys2Proof.Machine Sys2Proof.Laws Sys2Proof.Claims

/-! A tile die -/

theorem tdie_setTdie_same (s : State) (die : Nat) (f : TileDie → TileDie) : (s.setTdie die f).tdie die = f (s.tdie die) := smGet_smPut_same ..

theorem tdie_setTdie_other (s : State) {die d : Nat} (f : TileDie → TileDie) (h : d ≠ die) : (s.setTdie die f).tdie d = s.tdie d := by
  unfold State.tdie State.setTdie
  exact smGet_smPut_other {} s.tile.dies (f (s.tdie die)) h

theorem tdie_of_tile {s t : State} (h : t.tile = s.tile) (die : Nat) : t.tdie die = s.tdie die := by simp only [State.tdie, h]

theorem gst_setG_same (s : State) (die g : Nat) (f : GroupSt → GroupSt) : (s.setG die g f).gst die g = f (s.gst die g) := by
  rw [State.gst, State.setG, tdie_setTdie_same]
  exact smGet_smPut_same ..

theorem gst_of_tile {s t : State} (h : t.tile = s.tile) (die g : Nat) : t.gst die g = s.gst die g := by rw [State.gst, tdie_of_tile h]; rfl

theorem lamp_setLamp_same (s : State) (die pos : Nat) (l : LampSt) : (s.setLamp die pos l).lamp die pos = l := by
  rw [State.lamp, State.setLamp, tdie_setTdie_same]
  exact smGet_smPut_same ..

theorem lamp_setLamp_other (s : State) (die : Nat) {pos q : Nat} (l : LampSt) (h : q ≠ pos) : (s.setLamp die pos l).lamp die q = s.lamp die q := by
  rw [State.lamp, State.setLamp, tdie_setTdie_same]
  exact smGet_smPut_other {} (s.tdie die).lamps l h

theorem lamp_of_lamps {s t : State} {die : Nat} (h : (t.tdie die).lamps = (s.tdie die).lamps) (pos : Nat) : t.lamp die pos = s.lamp die pos := by simp only [State.lamp, h]

theorem lampCount_of_lamps {s t : State} {die : Nat} (h : (t.tdie die).lamps = (s.tdie die).lamps) (k : Nat) : t.lampCount die k = s.lampCount die k := by simp only [State.lampCount, h]

/-! Readings (R336) -/

theorem noted_tile (s : State) (die : Nat) (x y : Int) (i : Nat) : ((((s.bump die Ob.fault_new).put die Ob.fault_last x).put die Ob.fault_last_at y).raise die Ob.fault_flags 0 i).tile = s.tile := by
  simp only [raise_tile, put_tile, bump_tile]

theorem noteFault_tile (s : State) (die pos state : Nat) : (s.noteFault die pos state).tile = s.tile := by
  unfold State.noteFault
  by_cases h : s.isPlaced die pos = true
  · rw [if_pos h]
    exact noted_tile s die _ _ _
  · rw [if_neg h]
    exact bump_tile s die Ob.fault_unplaced 1

theorem showLamps_tile (s : State) (die : Nat) : (s.showLamps die).tile = s.tile := by simp only [State.showLamps, put_tile]

/-- The counts shown are those of the entries. -/
theorem showLamps_shows (s : State) (die : Nat) : (s.showLamps die).nat die Ob.fault_open_count = s.lampCount die 1 ∧ (s.showLamps die).nat die Ob.fault_short_count = s.lampCount die 2 ∧
    (s.showLamps die).nat die Ob.fault_forced_count = s.lampCount die 3 := by
  unfold State.showLamps
  generalize s.lampCount die 1 = a, s.lampCount die 2 = b, s.lampCount die 3 = c
  refine ⟨?_, ?_, ?_⟩
  · rw [nat_put_other _ die Ob.fault_forced_count die Ob.fault_open_count _ (fullKey_ne (by decide)), nat_put_other _ die Ob.fault_short_count die Ob.fault_open_count _ (fullKey_ne (by decide)), nat_put_same,
      Int.toNat_natCast]
  · rw [nat_put_other _ die Ob.fault_forced_count die Ob.fault_short_count _ (fullKey_ne (by decide)), nat_put_same, Int.toNat_natCast]
  · rw [nat_put_same, Int.toNat_natCast]

theorem showLamps_flags (s : State) (die i : Nat) : (s.showLamps die).on die Ob.fault_flags i = s.on die Ob.fault_flags i :=
  congrArg (fun n => bit n i) <| (nat_put_other _ die Ob.fault_forced_count die Ob.fault_flags _ (fullKey_ne (by decide))).trans
    ((nat_put_other _ die Ob.fault_short_count die Ob.fault_flags _ (fullKey_ne (by decide))).trans (nat_put_other s die Ob.fault_open_count die Ob.fault_flags _ (fullKey_ne (by decide))))

theorem noteFault_flag (s : State) {die pos : Nat} (state : Nat) (h : s.isPlaced die pos = true) : (s.noteFault die pos state).on die Ob.fault_flags 0 = true := by
  unfold State.noteFault
  rw [if_pos h]
  exact raise_on _ die Ob.fault_flags 0 _ not_reportKey_full

theorem readingMoves : Claims.readingMoves := by
  intro s die pos kind hkind
  have hbad : kind ≠ 0 := by omega
  refine ⟨fun hgood hconfirm => ?_, fun hgood hfew => ?_, fun hgood => ?_, fun hforced => ?_⟩
  · have hmove : s.reading die pos kind = ((s.setLamp die pos { state := kind, kind := 0, count := 0 }).noteFault die pos kind).showLamps die := by
      unfold State.reading
      simp only [hgood, hbad, if_pos hconfirm, if_true, if_false, show (0 : Nat) ≠ 3 by decide]
    rw [hmove]
    refine ⟨?_, fun hplaced => (showLamps_flags ..).trans (noteFault_flag _ kind hplaced)⟩
    rw [lamp_of_lamps (congrArg TileDie.lamps (tdie_of_tile ((showLamps_tile ..).trans (noteFault_tile ..)) die)), lamp_setLamp_same]
  · have hmove : s.reading die pos kind = s.setLamp die pos { state := 0, kind := kind, count := if (s.lamp die pos).kind = kind then (s.lamp die pos).count + 1 else 1 } := by
      unfold State.reading
      simp only [hgood, hbad, if_neg (Nat.not_le.2 hfew), if_true, if_false, show (0 : Nat) ≠ 3 by decide]
    rw [hmove, lamp_setLamp_same]
  · have hmove : s.reading die pos 0 = s.setLamp die pos {} := by
      unfold State.reading
      simp only [hgood, if_true, if_false, show (0 : Nat) ≠ 3 by decide]
    rw [hmove, lamp_setLamp_same]
  · unfold State.reading
    exact if_pos hforced

/-! Self-refresh (R317) -/

/-- A group in self-refresh: its state, and the flag. -/
theorem srEnter_enters {s : State} {die g : Nat} (hdie : die < s.dies) (hruns : s.groupRuns die g = true) (hmem : s.frameMem die g = true) (hout : (s.gst die g).sr = false)
    (hfree : (s.gst die g).resume = none) (hshows : (s.groupHalf die g).isSome = true) (hdue : (s.srMode die g = 1 ∧ s.grp die g Ob.rg_sr_after ≤ (s.gst die g).run) ∨ s.srMode die g = 2) :
    s.srEnter die g = ((s.setG die g fun t => { t with sr := true }).putG die g Ob.rg_state 3).raise die Ob.raster_flags 5 g := by
  have hhalf : (s.groupHalf die g).isNone = false := by simpa using hshows
  have hdueB : (decide (s.srMode die g = 1) && decide (s.grp die g Ob.rg_sr_after ≤ (s.gst die g).run) || decide (s.srMode die g = 2)) = true := by simpa using hdue
  have hgo : (decide (s.dies ≤ die) || !(s.groupRuns die g) || !(s.frameMem die g) || (s.gst die g).sr ||
      !(decide (s.srMode die g = 1) && decide (s.grp die g Ob.rg_sr_after ≤ (s.gst die g).run) || decide (s.srMode die g = 2)) || (s.gst die g).resume.isSome || (s.groupHalf die g).isNone) = false := by
    rw [hdueB]
    simp [Nat.not_le.2 hdie, hruns, hmem, hout, hfree, hhalf]
  unfold State.srEnter
  exact if_neg (by rw [hgo]; exact Bool.false_ne_true)

/-- What a group in self-refresh shows. -/
theorem srEntered_shows (s : State) (die g : Nat) :
    let t := ((s.setG die g fun t => { t with sr := true }).putG die g Ob.rg_state 3).raise die Ob.raster_flags 5 g
    (t.gst die g).sr = true ∧ t.grp die g Ob.rg_state = 3 ∧ t.on die Ob.raster_flags 5 = true ∧
      ObjsBut s t (fun k => k = fullKey die (atIndex Ob.rg_state g) ∨ k = fullKey die Ob.raster_flags) ∧ t = { s with objs := t.objs, tile := t.tile } := by
  intro t
  obtain ⟨hrest, hobjs⟩ := raise_plain ((s.setG die g fun t => { t with sr := true }).putG die g Ob.rg_state 3) die Ob.raster_flags 5 g rfl
  have hstate : fullKey die (atIndex Ob.rg_state g) ≠ fullKey die Ob.raster_flags := by simp only [fullKey, atIndex, Ob.rg_state, Ob.raster_flags]; omega
  refine ⟨?_, ?_, raise_on _ die Ob.raster_flags 5 g not_reportKey_full, ?_, ?_⟩
  · rw [gst_of_tile (raise_tile ..)]
    show ((s.setG die g fun t => { t with sr := true }).gst die g).sr = true
    rw [gst_setG_same]
  · exact (objsBut_nat hobjs hstate).trans (nat_put_same ..)
  · exact objsBut_trans (objsBut_mono (objsBut_put (s.setG die g fun t => { t with sr := true }) die (atIndex Ob.rg_state g) 3) fun _ hk => .inl hk) (objsBut_mono hobjs fun _ hk => .inr hk)
  · rw [show t = _ from hrest]
    rfl

theorem srEnters : Claims.srEnters := by
  intro s die g hup hdie hruns hmem hout hfree hshows
  have hnext : ∀ x, s.srEnter die g = x → exec (.srEntered die g) s = .next x := fun x hx => congrArg Host.Outcome.next ((onDie_upDie hup _).trans hx)
  refine ⟨fun hdue => ⟨_, hnext _ (srEnter_enters hdie hruns hmem hout hfree hshows hdue), srEntered_shows s die g⟩, fun hnever => hnext _ ?_⟩
  unfold State.srEnter
  simp [hnever]

theorem srLeave_out {s : State} {die g : Nat} (h : (s.gst die g).sr = false) : s.srLeave die g = s := by
  unfold State.srLeave
  rw [h]
  rfl

theorem srLeave_in {s : State} {die g : Nat} (h : (s.gst die g).sr = true) : s.srLeave die g = (s.setG die g fun t => { t with sr := false, run := 0 }).putG die g Ob.rg_state 2 := by
  unfold State.srLeave
  rw [if_pos h]

theorem wrote_srMode (s : State) (die old : Nat) {g : Nat} (hg : g < 4) : s.wrote die (atIndex Ob.rg_sr_mode g) old = s.srModeEffect die g old := by
  interval_cases g <;> rfl

theorem touch_srMode (s : State) {g : Nat} (hg : g < 4) : s.touch (atIndex Ob.rg_sr_mode g) = s := by
  interval_cases g <;> rfl

theorem srMode_key {g : Nat} (hg : g < 4) : inKeys (atIndex Ob.rg_sr_mode g) 0x7010 0x7013 14 14 = true := by
  interval_cases g <;> rfl

theorem srModeSet : Claims.srModeSet := by
  intro s a m d die g v h hg hdie hkey hrw ha hv
  subst ha
  have hunit := h.unit
  have hrow : exec (.rgSrMode m) s = .next (((((s.arrived m).put die m.key v).srModeEffect die g ((s.arrived m).grp die g Ob.rg_sr_mode))).answer 0x02 m 0 d.ty.code []) := by
    refine congrArg Host.Outcome.next (corrixFor_write_one h (by rw [hkey]; exact srMode_key hg) (by rw [hkey]; simp only [atIndex, Ob.rg_sr_mode, Ob.part_reset]; omega) ?_)
    rw [writeOne_rw hunit hrw, ← hv, hkey, touch_srMode _ hg, wrote_srMode _ _ _ hg]
    rfl
  rw [hrow, hkey]
  have hmode : ((s.arrived m).put die (atIndex Ob.rg_sr_mode g) v).grp die g Ob.rg_sr_mode = v := (nat_put_same ..).trans (Int.toNat_natCast v)
  have hother : ∀ key, key ≠ Ob.rg_sr_mode → ((s.arrived m).put die (atIndex Ob.rg_sr_mode g) v).grp die g key = (s.arrived m).grp die g key := fun key hne =>
    nat_put_other _ die _ die _ _ (by simp only [fullKey, atIndex]; omega)
  have hframe : ((s.arrived m).put die (atIndex Ob.rg_sr_mode g) v).frameMem die g = (s.arrived m).frameMem die g := by
    have hblob : fullKey 0 (atIndex Ob.chain_profile ((s.arrived m).grp die g Ob.rg_profile)) ≠ fullKey die (atIndex Ob.rg_sr_mode g) := by
      simp only [fullKey, atIndex, Ob.rg_sr_mode, Ob.chain_profile]; omega
    have hval : ((s.arrived m).put die (atIndex Ob.rg_sr_mode g) v).val 0 (atIndex Ob.chain_profile ((s.arrived m).grp die g Ob.rg_profile)) =
        (s.arrived m).val 0 (atIndex Ob.chain_profile ((s.arrived m).grp die g Ob.rg_profile)) :=
      objsBut_put (s.arrived m) die (atIndex Ob.rg_sr_mode g) v _ hblob
    have hpeak : ((s.arrived m).put die (atIndex Ob.rg_sr_mode g) v).pw Ob.corr_peak_cdm2 = (s.arrived m).pw Ob.corr_peak_cdm2 :=
      nat_put_other _ die _ 0 _ _ (by simp only [fullKey, atIndex, Ob.rg_sr_mode, Ob.corr_peak_cdm2]; omega)
    simp only [State.frameMem, State.prof, State.blobNum, State.blobBytes, State.blobByte, hother Ob.rg_profile (by decide), hval, State.byteIn, State.blobDflt, put_fuses, hpeak]
  have hruns : ((s.arrived m).put die (atIndex Ob.rg_sr_mode g) v).groupRuns die g = (s.arrived m).groupRuns die g := by
    rw [State.groupRuns, State.groupUsed, hother _ (by decide), hother _ (by decide)]
    rfl
  have hsr : (((s.arrived m).put die (atIndex Ob.rg_sr_mode g) v).gst die g) = (s.arrived m).gst die g := rfl
  have hdies : ((s.arrived m).put die (atIndex Ob.rg_sr_mode g) v).dies = (s.arrived m).dies := rfl
  have hhalf : ((s.arrived m).put die (atIndex Ob.rg_sr_mode g) v).groupHalf die g = (s.arrived m).groupHalf die g := rfl
  generalize hp : (s.arrived m).put die (atIndex Ob.rg_sr_mode g) (v : Int) = p at hmode hframe hruns hsr hdies hhalf
  have hnot : v ≠ 2 → p.srMode die g ≠ 2 := fun hne => by
    unfold State.srMode
    rw [hmode]
    dsimp only
    split
    · decide
    · exact hne
  have hother : fullKey die (atIndex Ob.rg_sr_mode g) ≠ fullKey die (atIndex Ob.rg_state g) := by simp only [fullKey, atIndex, Ob.rg_sr_mode, Ob.rg_state]; omega
  refine ⟨fun htwo hr hm hout hfree hshows => ?_, fun hne hend hin => ?_, fun hne hstay => ?_⟩
  · have hsm : p.srMode die g = 2 := by simp [State.srMode, hmode, htwo, hframe, hm]
    have heffect : p.srModeEffect die g ((s.arrived m).grp die g Ob.rg_sr_mode) = _ := (if_pos hsm).trans
      (srEnter_enters (hdies ▸ hdie) (hruns.trans hr) (hframe.trans hm) (by rw [hsr]; exact hout) (by rw [hsr]; exact hfree) (by rw [hhalf]; exact hshows) (.inr hsm))
    obtain ⟨hsr', hst, -, hobjs, -⟩ := srEntered_shows p die g
    refine ⟨_, rfl, ?_⟩
    rw [heffect]
    refine ⟨?_, hsr', hst⟩
    refine ((objsBut_nat hobjs fun hk => ?_).trans hmode).trans htwo
    exact hk.elim hother (by simp only [fullKey, atIndex, Ob.rg_sr_mode, Ob.raster_flags]; omega)
  · have hold : (decide ((s.arrived m).grp die g Ob.rg_sr_mode = 2) || decide (p.srMode die g = 0)) = true := by
      rcases hend with hend | hend
      · simp [hend]
      · simp [State.srMode, hmode, hend]
    have heffect : p.srModeEffect die g ((s.arrived m).grp die g Ob.rg_sr_mode) = _ := (if_neg (hnot hne)).trans ((if_pos hold).trans (srLeave_in (by rw [hsr]; exact hin)))
    refine ⟨_, rfl, ?_⟩
    rw [heffect]
    have hgroup : ((p.setG die g fun t => { t with sr := false, run := 0 }).putG die g Ob.rg_state 2).gst die g = { p.gst die g with sr := false, run := 0 } :=
      gst_setG_same p die g fun t => { t with sr := false, run := 0 }
    exact ⟨(nat_put_other _ die _ die _ _ hother).trans hmode, by rw [hgroup], by rw [hgroup], nat_put_same ..⟩
  · have heffect : p.srModeEffect die g ((s.arrived m).grp die g Ob.rg_sr_mode) = p := by
      refine (if_neg (hnot hne)).trans ?_
      rcases hstay with ⟨hold, hnz⟩ | hout
      · have hgo : (decide ((s.arrived m).grp die g Ob.rg_sr_mode = 2) || decide (p.srMode die g = 0)) = false := by simp [State.srMode, hmode, hold, hnz, hne]
        exact if_neg (by rw [hgo]; exact Bool.false_ne_true)
      · rw [srLeave_out (by rw [hsr]; exact hout), ite_self]
    rw [heffect]

/-! The raster tolerance (R326) -/

theorem foldl_min_le_start (l : List Nat) : ∀ b : Nat, l.foldl min b ≤ b := by
  induction l with
  | nil => exact fun _ => Nat.le_refl _
  | cons x xs ih => exact fun b => (ih _).trans (Nat.min_le_left ..)

theorem foldl_min_le_mem {l : List Nat} {x : Nat} (h : x ∈ l) : ∀ b : Nat, l.foldl min b ≤ x := by
  induction l with
  | nil => exact absurd h List.not_mem_nil
  | cons y ys ih =>
    intro b
    rcases List.mem_cons.1 h with rfl | h
    · exact (foldl_min_le_start ys _).trans (Nat.min_le_right ..)
    · exact ih h _

theorem toleranceStated : Claims.toleranceStated := by
  intro s die hup hdie
  have hset : s.toleranceUpdate die = s.put die Ob.raster_tolerance_ns (min 4294967295 (minOr 4294967295 (((s.groupsRun die).filter fun g => !((s.gst die g).sr)).map (s.groupTolerance die))) : Nat) := by
    unfold State.toleranceUpdate
    rw [if_neg (Nat.not_le.2 hdie)]
  have hshown : (s.toleranceUpdate die).nat die Ob.raster_tolerance_ns = min 4294967295 (minOr 4294967295 (((s.groupsRun die).filter fun g => !((s.gst die g).sr)).map (s.groupTolerance die))) := by
    rw [hset]
    exact (nat_put_same ..).trans (Int.toNat_natCast _)
  refine ⟨_, congrArg Host.Outcome.next (onDie_upDie hup _), fun g hg hout => ?_, fun hall => ?_, ?_, ?_⟩
  · rw [hshown]
    exact (Nat.min_le_right ..).trans (foldl_min_le_mem (List.mem_map_of_mem (List.mem_filter.2 ⟨hg, by simp [hout]⟩)) _)
  · have hnone : ((s.groupsRun die).filter fun g => !((s.gst die g).sr)) = [] := List.filter_eq_nil_iff.2 fun g hg => by simp [hall g hg]
    rw [hshown, hnone]
    rfl
  · rw [hset]
    exact objsBut_put s die Ob.raster_tolerance_ns _
  · rw [hset]
    rfl

end Sys2Proof.Proofs
end

section
/-! fault_write and the blank of a function group (R337, R338, R342-R344). -/

namespace Sys2Proof.Proofs

open Sys2Proof.Machine Sys2Proof.Laws Sys2Proof.Claims

/-! What judging the function groups leaves of the fault map -/

/-- The places of the counts of entries. -/
def lampCountPlace (k : Nat) : Prop := k = Ob.fault_open_count ∨ k = Ob.fault_short_count ∨ k = Ob.fault_forced_count

/-- The fault maps and the counts of their entries are as they were. -/
structure LampsStay (s t : State) : Prop where
  lamps  : ∀ d, (t.tdie d).lamps = (s.tdie d).lamps
  counts : ∀ d k, lampCountPlace k → t.nat d k = s.nat d k

theorem lampsStay_refl (s : State) : LampsStay s s := ⟨fun _ => rfl, fun _ _ _ => rfl⟩

theorem lampsStay_trans {s t u : State} (h : LampsStay s t) (k : LampsStay t u) : LampsStay s u :=
  ⟨fun d => (k.lamps d).trans (h.lamps d), fun d j hj => (k.counts d j hj).trans (h.counts d j hj)⟩

theorem lampsStay_each {α : Type} (l : List α) (f : α → State → State) (hf : ∀ a ∈ l, ∀ s, LampsStay s (f a s)) (s : State) : LampsStay s (s.each l f) := by
  induction l generalizing s with
  | nil => exact lampsStay_refl s
  | cons a l ih => exact lampsStay_trans (hf a (.head _) s) (ih (fun b hb => hf b (.tail _ hb)) _)

theorem lampsStay_put (s : State) (die key : Nat) (v : Int) (h : ∀ d k, lampCountPlace k → fullKey d k ≠ fullKey die key) : LampsStay s (s.put die key v) :=
  ⟨fun _ => rfl, fun d k hk => nat_put_other s die key d k v (h d k hk)⟩

theorem lampsStay_keep (s : State) (die key : Nat) (v : Int) (h : ∀ d k, lampCountPlace k → fullKey d k ≠ fullKey die key) : LampsStay s (s.keep die key v) :=
  ⟨fun _ => rfl, fun d k hk => (nat_keep ..).trans (nat_put_other s die key d k v (h d k hk))⟩

theorem lampsStay_setTdie (s : State) (die : Nat) (f : TileDie → TileDie) (h : ∀ t : TileDie, (f t).lamps = t.lamps) : LampsStay s (s.setTdie die f) := by
  refine ⟨fun d => ?_, fun _ _ _ => rfl⟩
  by_cases hd : d = die
  · rw [hd, tdie_setTdie_same, h]
  · rw [tdie_setTdie_other s f hd]

theorem lampsStay_setG (s : State) (die g : Nat) (f : GroupSt → GroupSt) : LampsStay s (s.setG die g f) := lampsStay_setTdie s die _ fun _ => rfl

theorem lampsStay_reportOnly {s t : State} (h : ReportOnly s t fun _ => False) : LampsStay s t := by
  have htile : t.tile = s.tile := (congrArg State.tile h.rest :)
  refine ⟨fun d => congrArg TileDie.lamps (tdie_of_tile htile d), fun d k hk => objsBut_nat h.objs ?_⟩
  rw [false_or]
  rcases hk with rfl | rfl | rfl
  · exact not_reportKey_full
  · exact not_reportKey_full
  · exact not_reportKey_full

theorem lampsStay_srLeave (s : State) (die g : Nat) : LampsStay s (s.srLeave die g) := by
  unfold State.srLeave
  split
  · refine lampsStay_trans (lampsStay_setG s die g fun t => { t with sr := false, run := 0 }) (lampsStay_put _ die (atIndex Ob.rg_state g) 2 fun d k hk => ?_)
    rcases hk with rfl | rfl | rfl <;> simp only [fullKey, atIndex, Ob.rg_state, Ob.fault_open_count, Ob.fault_short_count, Ob.fault_forced_count] <;> omega
  · exact lampsStay_refl s

theorem lampsStay_blankOne (s : State) (die f : Nat) (b : Int) : LampsStay s (s.blankOne die f b) := by
  unfold State.blankOne
  split
  · exact lampsStay_refl s
  extract_lets s1 s2
  have hblank : LampsStay s s1 := by
    refine lampsStay_trans (lampsStay_setTdie s die (fun t => { t with blanks := smPut none t.blanks f (some b) }) fun _ => rfl) (lampsStay_keep _ die (atIndex Ob.fg_blanked f) 1 fun d k hk => ?_)
    rcases hk with rfl | rfl | rfl <;> simp only [fullKey, atIndex, Ob.fg_blanked, Ob.fault_open_count, Ob.fault_short_count, Ob.fault_forced_count] <;> omega
  have hreport : LampsStay s1 s2 := by
    show LampsStay s1 (if s1.on die Ob.fault_flags 2 then s1 else _)
    split
    · exact lampsStay_refl s1
    · refine lampsStay_trans (lampsStay_put s1 die Ob.fault_flags _ fun d k hk => ?_) (lampsStay_reportOnly (enterKnot_reportOnly ..))
      rcases hk with rfl | rfl | rfl <;> exact fullKey_ne (by decide)
  refine lampsStay_trans (lampsStay_trans hblank hreport) (lampsStay_each _ _ (fun g _ t => ?_) s2)
  split
  · exact lampsStay_trans (lampsStay_srLeave t die g) (lampsStay_setG ..)
  · exact lampsStay_refl t

theorem lampsStay_judgeGroups (s : State) (die : Nat) : LampsStay s (s.judgeGroups die) := by
  refine lampsStay_each _ _ (fun f _ t => ?_) s
  unfold State.judgeGroup
  split
  · exact lampsStay_each _ _ (fun e _ t => lampsStay_blankOne ..) t
  · exact lampsStay_refl t

/-! fault_write (R337, R338) -/

/-- The row of fault_write. -/
theorem faultWrite_exec {s : State} {m : Msg} {d : ObjDef} {die : Nat} (h : WritesOne s m d die) (hkey : m.key = Ob.fault_write) (hwo : d.acc = .wo) :
    exec (.faultWrite m) s = .next (((s.arrived m).faultWrite die ((s.arrived m).clampVal die m.key d (decodeVal d.ty m.payload)).toNat).answer 0x02 m 0 d.ty.code []) := by
  refine congrArg Host.Outcome.next (corrixFor_write_one h (by simp [hkey]) (by rw [hkey]; decide) ?_)
  have hunit := h.unit
  simp only [State.writeOne, hunit, Bool.false_eq_true, if_false, hwo]
  rw [hkey]
  rfl

theorem faultWrite_takes {s : State} {die w : Nat} (hvalid : s.posValid die (posOfWord w) = true) (hroom : bits w 25 24 = 3 → s.lampCount die 3 < 4096) :
    LampsStay ((s.setLamp die (posOfWord w) { state := bits w 25 24 }).showLamps die) (s.faultWrite die w) := by
  have hfull : (decide (bits w 25 24 = 3) && decide (4096 ≤ s.lampCount die 3)) = false := by simpa using hroom
  unfold State.faultWrite
  dsimp only
  rw [hvalid, if_neg (by decide), if_neg (by rw [hfull]; exact Bool.false_ne_true)]
  refine lampsStay_trans ?_ (lampsStay_judgeGroups ..)
  unfold State.when
  split
  · exact ⟨fun _ => rfl, fun _ _ _ => rfl⟩
  · exact lampsStay_refl _

theorem faultWritten : Claims.faultWritten := by
  intro s a m d die v pos h hkey hwo ha hv hpos
  subst ha
  have hrow := faultWrite_exec h hkey hwo
  rw [← hv] at hrow
  refine ⟨fun hvalid hstate => ?_, fun hvalid hstate hfull => ?_, fun hvalid => ?_⟩
  · obtain ⟨hlamps, hcounts⟩ := faultWrite_takes (w := v) (hpos ▸ hvalid) fun h3 => absurd h3 hstate
    obtain ⟨hopen, hshort, hforced⟩ := showLamps_shows ((s.arrived m).setLamp die (posOfWord v) { state := bits v 25 24 }) die
    have hcount : ∀ k, ((s.arrived m).faultWrite die v).lampCount die k = ((s.arrived m).setLamp die (posOfWord v) { state := bits v 25 24 }).lampCount die k := fun k => lampCount_of_lamps (hlamps die) k
    have hlamp : ∀ q, ((s.arrived m).faultWrite die v).lamp die q = ((s.arrived m).setLamp die (posOfWord v) { state := bits v 25 24 }).lamp die q := fun q => lamp_of_lamps (hlamps die) q
    rw [← hpos] at *
    exact ⟨_, hrow, (hlamp pos).trans (lamp_setLamp_same ..), fun q hq => (hlamp q).trans (lamp_setLamp_other _ die _ hq), (hcounts die _ (.inl rfl)).trans (hopen.trans (hcount 1).symm),
      (hcounts die _ (.inr (.inl rfl))).trans (hshort.trans (hcount 2).symm), (hcounts die _ (.inr (.inr rfl))).trans (hforced.trans (hcount 3).symm)⟩
  · have hraise : (s.arrived m).faultWrite die v = (s.arrived m).raise die Ob.fault_flags 3 := by
      have hfull' : (decide (bits v 25 24 = 3) && decide (4096 ≤ (s.arrived m).lampCount die 3)) = true := by simp [hstate, hfull]
      unfold State.faultWrite
      dsimp only
      rw [← hpos, hvalid, if_neg (by decide), if_pos hfull']
    rw [hraise] at hrow
    exact ⟨_, hrow, raise_tile .., raise_on _ die Ob.fault_flags 3 0 not_reportKey_full⟩
  · have hnone : (s.arrived m).faultWrite die v = s.arrived m := by
      unfold State.faultWrite
      dsimp only
      rw [← hpos, hvalid, if_pos (by decide)]
    rw [hrow, hnone]

/-! A blank lifted (R344) -/

/-- The blank of one group, lifted. -/
def liftBlank (e : Nat × Nat) (s : State) : State :=
  if s.on e.1 (atIndex Ob.fg_blanked e.2) then (s.setTdie e.1 fun t => { t with blanks := smPut none t.blanks e.2 none }).keep e.1 (atIndex Ob.fg_blanked e.2) 0 else s

theorem liftBlank_off (e : Nat × Nat) (s : State) : (liftBlank e s).on e.1 (atIndex Ob.fg_blanked e.2) = false := by
  unfold liftBlank
  split
  · rw [State.on, nat_keep, nat_put_same]
    simp [bit]
  · next h => exact Bool.not_eq_true _ ▸ h

/-- The groups linked with one are groups of a die. -/
theorem linked_lt {s : State} {die f : Nat} (hf : f < 256) {e : Nat × Nat} (h : e ∈ s.linked die f) : e.2 < 256 := by
  unfold State.linked at h
  dsimp only at h
  split at h
  · rw [List.mem_singleton.1 h]
    exact hf
  · obtain ⟨d, -, h⟩ := List.mem_flatMap.1 h
    obtain ⟨g, hg, rfl⟩ := List.mem_map.1 h
    exact List.mem_range.1 (List.mem_filter.1 hg).1

theorem liftBlank_objs (e : Nat × Nat) (s : State) : ObjsBut s (liftBlank e s) fun k => k = fullKey e.1 (atIndex Ob.fg_blanked e.2) := by
  unfold liftBlank
  split
  · exact objsBut_put (s.setTdie e.1 fun t => { t with blanks := smPut none t.blanks e.2 none }) e.1 (atIndex Ob.fg_blanked e.2) 0
  · exact objsBut_refl _ _

theorem liftBlank_sent (e : Nat × Nat) (s : State) : (liftBlank e s).sent = s.sent := by
  unfold liftBlank
  split <;> rfl

/-- The blanks of a list of groups, lifted. -/
theorem lift_each {l : List (Nat × Nat)} (hl : ∀ e ∈ l, e.2 < 256) : ∀ s : State, (∀ e ∈ l, (s.each l liftBlank).on e.1 (atIndex Ob.fg_blanked e.2) = false) ∧
    ObjsBut s (s.each l liftBlank) (fun k => ∃ e, e ∈ l ∧ k = fullKey e.1 (atIndex Ob.fg_blanked e.2)) ∧ (s.each l liftBlank).sent = s.sent := by
  induction l with
  | nil => exact fun s => ⟨fun _ he => absurd he List.not_mem_nil, objsBut_refl _ _, rfl⟩
  | cons a l ih =>
    intro s
    obtain ⟨hoff, hobjs, hsent⟩ := ih (fun e he => hl e (.tail _ he)) (liftBlank a s)
    refine ⟨fun e he => ?_, objsBut_trans (objsBut_mono (liftBlank_objs a s) fun k hk => ⟨a, .head _, hk⟩) (objsBut_mono hobjs fun k ⟨e, he, hk⟩ => ⟨e, .tail _ he, hk⟩), hsent.trans (liftBlank_sent a s)⟩
    rcases List.mem_cons.1 he with rfl | he
    · by_cases hagain : e ∈ l
      · exact hoff e hagain
      · refine (congrArg (fun n => bit n 0) (objsBut_nat hobjs fun ⟨b, hb, hkey⟩ => hagain ?_)).trans (liftBlank_off e s)
        have hb' := hl b (.tail _ hb)
        have he' := hl e (.head _)
        simp only [fullKey, atIndex, Ob.fg_blanked] at hkey
        exact (Prod.ext (by omega) (by omega) : b = e) ▸ hb
    · exact hoff e he

theorem blankLifted : Claims.blankLifted := by
  intro s a m d die f h hf hkey hw1c ha hbit
  subst ha
  have hin : inKeys (atIndex Ob.fg_blanked f) 0x7D00 0x7DFF 6 6 = true ∧ atIndex Ob.fg_blanked f / 256 - 0x7D00 = f := by
    have hidx : atIndex Ob.fg_blanked f / 256 = 0x7D00 + f := by simp only [atIndex, Ob.fg_blanked]; omega
    have hsub : atIndex Ob.fg_blanked f % 256 = 6 := by simp only [atIndex, Ob.fg_blanked]; omega
    refine ⟨?_, by omega⟩
    simp only [inKeys, hidx, hsub, Bool.and_eq_true, Nat.ble_eq]
    omega
  have hrow : exec (.fgBlankedClear m) s = .next (((s.arrived m).clearBlank die f).answer 0x02 m 0 d.ty.code []) := by
    refine congrArg Host.Outcome.next (corrixFor_write_one h (by rw [hkey]; exact hin.1) (by rw [hkey]; simp only [atIndex, Ob.fg_blanked, Ob.part_reset]; omega) ?_)
    have hunit := h.unit
    simp only [State.writeOne, hunit, Bool.false_eq_true, if_false, hw1c]
    unfold State.clearFlags
    dsimp only
    rw [hbit, if_pos rfl, hkey, if_pos hin.1, hin.2]
  refine ⟨fun hmet => ?_, fun hmet => ?_⟩
  · have hlift : (s.arrived m).clearBlank die f = (s.arrived m).each ((s.arrived m).linked die f) liftBlank := by
      unfold State.clearBlank
      rw [hmet]
      rfl
    rw [hlift] at hrow
    exact ⟨_, hrow, lift_each (fun e he => linked_lt hf he) _⟩
  · have hstay : (s.arrived m).clearBlank die f = s.arrived m := by
      unfold State.clearBlank
      exact if_pos hmet
    rw [hrow, hstay]

/-- Settles O32. -/
theorem lampFaultsAndSelfRefresh : Obligations.LampFaultsAndSelfRefresh := ⟨readingMoves, srEnters, srModeSet, toleranceStated, faultWritten, blankLifted⟩

end Sys2Proof.Proofs
end

section
/-! A step on an empty queue: one nanosecond (R75, R76, R103, R133). -/

namespace Sys2Proof.Proofs

open Sys2Proof.Machine Sys2Proof.Laws Sys2Proof.Claims

/-! What the units' work of a nanosecond leaves alone -/

/-- The clocks, the staged values, the fuses and the queue of a part: what no unit's work of a nanosecond changes. -/
def besideUnits (s : State) : Nat × SMap Value × Fuses × List Instr × LaySt := (s.now, s.staged, s.fuses, s.pending, s.lay)

theorem besideUnits_bump (s : State) (die key n : Nat) : besideUnits (s.bump die key n) = besideUnits s := by rw [bump_rest]; rfl

theorem besideUnits_emit (s : State) (o : Output) : besideUnits (s.emit o) = besideUnits s := rfl

theorem besideUnits_setTdie (s : State) (die : Nat) (f : TileDie → TileDie) : besideUnits (s.setTdie die f) = besideUnits s := rfl

theorem besideUnits_raise (s : State) (die key i x : Nat) : besideUnits (s.raise die key i x) = besideUnits s := by simp only [besideUnits, raise_now, raise_staged, raise_fuses, raise_pending, raise_lay]

theorem besideUnits_each {α : Type} (l : List α) (f : α → State → State) (hf : ∀ a t, besideUnits (f a t) = besideUnits t) (s : State) : besideUnits (s.each l f) = besideUnits s :=
  each_of (P := fun t => besideUnits t = besideUnits s) l f (fun a t h => (hf a t).trans h) rfl

theorem besideUnits_driveFault (s : State) (on : Bool) : besideUnits (s.driveFault on) = besideUnits s := by
  unfold State.driveFault
  split <;> rfl

theorem besideUnits_lossSent (s : State) : besideUnits s.lossSent = besideUnits s := by
  unfold State.lossSent
  split
  · rfl
  · exact besideUnits_driveFault ..

/-! The transmitters (R133) -/

theorem besideUnits_beginCell (s : State) (p : Nat) (e : Bool × Cell) (done : Nat) : besideUnits (s.beginCell p e done) = besideUnits s := besideUnits_bump (s.emit (.cell p e.2)) _ _ 1

theorem besideUnits_groupBlock (s : State) (p : Nat) : besideUnits (s.groupBlock p).1 = besideUnits s := by
  unfold State.groupBlock
  dsimp only
  split
  · split
    · exact besideUnits_beginCell ..
    · unfold State.when
      split
      · exact besideUnits_lossSent _
      · rfl
  · split
    · exact besideUnits_beginCell ..
    · rfl

theorem besideUnits_layBlock {s : State} {p l : Nat} {r : State × Bool × List Byte} (h : s.layBlock p l = some r) : besideUnits r.1 = besideUnits s := by
  unfold State.layBlock at h
  dsimp only at h
  split at h
  · rw [← Option.some.inj h]
    rfl
  · split at h
    · rw [← Option.some.inj h]
      exact besideUnits_bump (s.emit _) _ _ 1
    · exact absurd h (by simp)
  · exact absurd h (by simp)

theorem besideUnits_laneOut (s : State) (p l : Nat) : besideUnits (s.laneOut p l).1 = besideUnits s := by
  unfold State.laneOut
  extract_lets t lay r
  split
  · show besideUnits (if lay then (s.layBlock p l).getD (s.groupBlock p) else s.groupBlock p).1 = besideUnits s
    split
    · cases hblock : s.layBlock p l with
      | none => exact besideUnits_groupBlock s p
      | some r => exact besideUnits_layBlock hblock
    · exact besideUnits_groupBlock s p
  · rfl

/-- The lanes of a port, one after the other. -/
theorem besideUnits_lanesOut (p : Nat) (l : List Nat) : ∀ a : State × List Block, besideUnits (l.foldl (fun (a : State × List Block) l =>
    let b := a.1.laneOut p l
    (b.1.scrambled (p / 16) b.2, a.2 ++ [b.2])) a).1 = besideUnits a.1 := by
  induction l with
  | nil => exact fun _ => rfl
  | cons x l ih =>
    intro a
    rw [List.foldl_cons]
    exact (ih _).trans (besideUnits_laneOut a.1 p x)

theorem besideUnits_txRound (s : State) (p : Nat) : besideUnits (s.txRound p) = besideUnits s := by
  have hcut : besideUnits (s.cutLay p) = besideUnits s := by
    unfold State.cutLay
    split <;> rfl
  have hout := besideUnits_lanesOut p ((s.cutLay p).sendingLanes p) (s.cutLay p, [])
  unfold State.txRound
  rw [besideUnits_emit, hout]
  exact hcut

theorem besideUnits_tickTx (s : State) : besideUnits s.tickTx = besideUnits s := by
  refine besideUnits_each _ _ (fun p t => ?_) s
  exact besideUnits_txRound (t.setPort p fun q => { q with slotPs := max q.slotPs (t.now * 1000 - 999) + slotLen }) p

/-! The units of a head and of a tile (R234, R243, R266, R270, R444) -/

theorem besideUnits_tickCompose (s : State) : besideUnits s.tickCompose = besideUnits s := by
  unfold State.tickCompose
  split
  · rfl
  refine besideUnits_each _ _ (fun d t => ?_) s
  unfold State.composeDie
  split
  · rfl
  · split <;> rfl

theorem besideUnits_tickCamera (s : State) : besideUnits s.tickCamera = besideUnits s := by
  unfold State.tickCamera
  split
  · rfl
  refine besideUnits_each _ _ (fun d t => ?_) s
  unfold State.pipelineDie
  dsimp only
  split
  · rfl
  · split <;> rfl

theorem besideUnits_countClips (s : State) (die n : Nat) : besideUnits (s.countClips die n) = besideUnits s := by
  unfold State.countClips
  split
  · rfl
  · exact (besideUnits_raise ..).trans (besideUnits_bump ..)

theorem besideUnits_correctDie (s : State) (die : Nat) : besideUnits (s.correctDie die) = besideUnits s := by
  unfold State.correctDie
  extract_lets w t t1 old go
  have hw : besideUnits t = besideUnits s := by
    show besideUnits (if s.competes die then s.draw else (0, s)).2 = besideUnits s
    split <;> rfl
  have hgo : ∀ h f, besideUnits (go h f) = besideUnits s := fun h f => by
    simp only [go]
    rw [besideUnits_countClips, besideUnits_setTdie]
    exact hw
  clear_value go
  split
  · exact hw
  split
  · exact hgo ..
  · split <;> exact hgo ..
  · split
    · exact hgo ..
    · exact hw
  · exact hw

theorem besideUnits_tickCorrect (s : State) : besideUnits s.tickCorrect = besideUnits s := by
  unfold State.tickCorrect
  split
  · rfl
  refine (besideUnits_each _ _ (fun d t => besideUnits_correctDie t d) s.readBand).trans ?_
  unfold State.readBand
  split <;> rfl

theorem besideUnits_settleBoot (s : State) : besideUnits s.settleBoot = besideUnits s := by
  unfold State.settleBoot
  split
  · rfl
  split
  · rfl
  extract_lets w toA s1
  unfold State.when
  split
  · exact besideUnits_raise ..
  · rfl

/-! A nanosecond -/

theorem tick_up {s : State} (h : s.boot.held = false) : s.tick = ({ s with now := s.now + 1 } : State).tickLay.tickTx.tickCompose.tickCamera.tickCorrect.settleBoot := by
  unfold State.tick
  exact if_neg (by rw [h]; exact Bool.false_ne_true)

/-- A nanosecond out of reset: time, and the clocks' own advance. -/
theorem tick_besideUnits {s : State} (h : s.boot.held = false) : besideUnits s.tick = besideUnits ({ s with now := s.now + 1 } : State).tickLay := by
  rw [tick_up h]
  exact (besideUnits_settleBoot _).trans <| (besideUnits_tickCorrect _).trans <| (besideUnits_tickCamera _).trans <| (besideUnits_tickCompose _).trans (besideUnits_tickTx _)

/-- Lay time without trim and slew goes on by 1 ns and the frequency word. -/
theorem tickLay_steady {s : State} (hslew : s.lay.slew = 0) (htrim : s.lay.trim = 0) (hword : s.lay.word = s.lay.freq) : s.tickLay.lay.fine = ((s.lay.fine : Int) + 281474976710656 + s.lay.word).toNat := by
  have hshare : (if s.lay.trimNs = 0 then 0 else s.lay.trim / s.lay.trimNs) = 0 := by simp [htrim]
  have hcap : ∀ c : Nat, clampInt (-((c : Int) * 281474976710656 / 1000000000)) ((c : Int) * 281474976710656 / 1000000000) 0 = 0 := fun c => by
    unfold clampInt
    omega
  have hkept : (if s.lay.word ≠ s.lay.freq && s.lay.wordAt ≤ s.now then s.lay.freq else s.lay.word) = s.lay.word := by simp [hword]
  simp only [State.tickLay, hshare, hslew, hcap, hkept]
  congr 1
  omega

/-- A part whose units have nothing to do. -/
theorem units_idle {s : State} (htx : ∀ p, p ∈ s.portList → s.sendingLanes p = []) (hcomp : s.comp.works = []) (hlines : s.cam.lines = []) (hqueue : s.cam.queue = []) (hrx : s.tile.rx = [])
    (hboot : s.journal.bootDue = none) : s.tickTx.tickCompose.tickCamera.tickCorrect.settleBoot = s := by
  have hdue : s.txDue = [] := List.filter_eq_nil_iff.2 fun p hp => by simp [htx p hp]
  have h1 : s.tickTx = s := by
    unfold State.tickTx
    rw [hdue]
    rfl
  have h2 : s.tickCompose = s := by simp [State.tickCompose, hcomp]
  have h3 : s.tickCamera = s := by simp [State.tickCamera, hlines, hqueue]
  have h4 : s.tickCorrect = s := by simp [State.tickCorrect, hrx]
  have h5 : s.settleBoot = s := by simp [State.settleBoot, hboot]
  rw [h1, h2, h3, h4, h5]

theorem idleTicks : Claims.idleTicks := by
  intro s hidle
  have hstep : step s = .next s.tick := by simp [step, hidle]
  cases hheld : s.boot.held with
  | true =>
    rw [tick_held hheld] at hstep
    exact ⟨_, hstep, rfl, rfl, rfl, hidle, fun _ => rfl, fun h => absurd h (by decide), fun h => absurd h (by decide)⟩
  | false =>
    have hside := tick_besideUnits hheld
    simp only [besideUnits, Prod.mk.injEq] at hside
    obtain ⟨hnow, hstaged, hfuses, hpending, hlay⟩ := hside
    refine ⟨_, hstep, hnow, hstaged, hfuses, hpending.trans hidle, fun h => absurd h (by decide), fun _ hslew htrim hword => ?_, fun _ htx hcomp hlines hqueue hrx hboot => ?_⟩
    · rw [hlay]
      exact tickLay_steady (s := { s with now := s.now + 1 }) hslew htrim hword
    · rw [tick_up hheld, units_idle (s := ({ s with now := s.now + 1 } : State).tickLay) htx hcomp hlines hqueue hrx hboot]
      rfl

/-- Settles O48. -/
theorem emptyQueueStepIsOneNanosecond : Obligations.EmptyQueueStepIsOneNanosecond := idleTicks

end Sys2Proof.Proofs
end

section
/-! Camera streams: Frame Start, lines, Frame End, timeouts, the memory path, the link (R240-R257). -/

namespace Sys2Proof.Proofs

open Sys2Proof.Machine Sys2Proof.Laws Sys2Proof.Claims

/-! Keys of table items -/

theorem fullKey_mod (d k : Nat) : fullKey d k % 256 = k % 256 := by simp only [fullKey]; omega

theorem atIndex_mod (k n : Nat) : atIndex k n % 256 = k % 256 := by simp only [atIndex]; omega

/-- Items of tables whose subindices differ are different objects. -/
theorem fullKey_ne_sub {d e k j : Nat} (h : k % 256 ≠ j % 256) : fullKey d k ≠ fullKey e j := fun heq => h (by rw [← fullKey_mod d k, heq, fullKey_mod])

theorem fullKey_ne_item {d e i j n m : Nat} (h : i % 256 ≠ j % 256) : fullKey d (atIndex i n) ≠ fullKey e (atIndex j m) := fullKey_ne_sub (by rwa [atIndex_mod, atIndex_mod])

theorem fullKey_ne_item_plain {d e i j n : Nat} (h : i % 256 ≠ j % 256) : fullKey d (atIndex i n) ≠ fullKey e j := fullKey_ne_sub (by rwa [atIndex_mod])

/-! A stream -/

theorem stream_setStream_same (s : State) (n : Nat) (f : StreamSt → StreamSt) : (s.setStream n f).stream n = f (s.stream n) := smGet_smPut_same ..

theorem stream_of_cam {s t : State} (h : t.cam = s.cam) (n : Nat) : t.stream n = s.stream n := by simp only [State.stream, h]

/-- Streams exist on the dies with a camera port, 4 on each. -/
theorem camPorts_le (s : State) : s.camPorts ≤ 4 := by
  unfold State.camPorts
  split
  · exact Nat.le_refl 4
  · split <;> decide

/-! A frame dropped (R256) -/

/-- The objects that a dropped frame of a stream changes. -/
def dropKey (n : Nat) (k : Nat) : Prop := k = fullKey 0 (atIndex Ob.cam_drops n) ∨ k = fullKey 0 (atIndex Ob.cam_drop_reason n) ∨ k = fullKey (n / 4) Ob.cam_flags

/-- A frame that no slot takes, dropped: counted, its code kept, the flag set; the stream has none. -/
structure Drops (s t : State) (n code : Nat) : Prop where
  cam    : t.cam = (s.setStream n fun x => { x with cur := none }).cam
  counts : Counts s t 0 (atIndex Ob.cam_drops n) 1
  reason : t.pw (atIndex Ob.cam_drop_reason n) = code
  flag   : t.on (n / 4) Ob.cam_flags 0 = true
  objs   : ObjsBut s t (dropKey n)
  rest   : t = { s with objs := t.objs, cam := t.cam, free := t.free }

theorem camDrops_bound {n : Nat} (h : n < 16) : (objTy (atIndex Ob.cam_drops n)).bounds.2 = 4294967295 := by interval_cases n <;> rfl

theorem dropFrame_none {s : State} {n code : Nat} (h : (s.stream n).cur = none) : s.dropFrame n code = s := by
  unfold State.dropFrame
  rw [h]

theorem dropFrame_drops {s : State} {n : Nat} {k : CamWork} (code : Nat) (hn : n < 16) (hcur : (s.stream n).cur = some k) (hslot : k.slot = none) : Drops s (s.dropFrame n code) n code := by
  unfold State.dropFrame
  simp only [hcur, hslot]
  generalize hu : s.setStream n (fun x => { x with cur := none }) = u
  have hobjs : u.objs = s.objs := by rw [← hu]; rfl
  have hurest : u = { s with cam := u.cam } := by rw [← hu]; rfl
  have hdrops : fullKey 0 (atIndex Ob.cam_drops n) ≠ fullKey 0 (atIndex Ob.cam_drop_reason n) := fullKey_ne_item (by decide)
  obtain ⟨hrest, hraised⟩ := raise_plain ((u.bump 0 (atIndex Ob.cam_drops n)).set (atIndex Ob.cam_drop_reason n) code) (n / 4) Ob.cam_flags 0 (n / 4) rfl
  have hbump := bump_rest u 0 (atIndex Ob.cam_drops n) 1
  have hset : ((u.bump 0 (atIndex Ob.cam_drops n)).set (atIndex Ob.cam_drop_reason n) code).int 0 (atIndex Ob.cam_drops n) = (u.bump 0 (atIndex Ob.cam_drops n)).int 0 (atIndex Ob.cam_drops n) :=
    int_put_other _ 0 _ 0 _ _ hdrops
  have hcode : ((u.bump 0 (atIndex Ob.cam_drops n)).set (atIndex Ob.cam_drop_reason n) code).pw (atIndex Ob.cam_drop_reason n) = code := (nat_put_same ..).trans (Int.toNat_natCast code)
  refine ⟨?_, fun hroom => ?_, (objsBut_nat (die := 0) hraised (fullKey_ne_item_plain (i := Ob.cam_drop_reason) (by decide))).trans hcode, raise_on _ _ _ _ _ not_reportKey_full, ?_, ?_⟩
  · rw [raise_cam, hu]
    exact bump_cam ..
  · rw [objsBut_int hraised (fullKey_ne_item_plain (by decide)), hset, bump_int u 0 _ 1 (by rw [camDrops_bound hn, int_of_objs hobjs]; exact hroom), int_of_objs hobjs]
  · refine objsBut_trans (objsBut_of_eq hobjs) (objsBut_trans (objsBut_mono (bump_objs u 0 (atIndex Ob.cam_drops n) 1) fun _ h => .inl h) ?_)
    exact objsBut_trans (objsBut_mono (objsBut_put _ 0 (atIndex Ob.cam_drop_reason n) code) fun _ h => .inr (.inl h)) (objsBut_mono hraised fun _ h => .inr (.inr h))
  · have hshown : (u.bump 0 (atIndex Ob.cam_drops n)).set (atIndex Ob.cam_drop_reason n) code =
        { s with objs := ((u.bump 0 (atIndex Ob.cam_drops n)).set (atIndex Ob.cam_drop_reason n) code).objs, cam := u.cam, free := (u.bump 0 (atIndex Ob.cam_drops n)).free } := by
      rw [hbump, hurest]
      rfl
    generalize (u.bump 0 (atIndex Ob.cam_drops n)).set (atIndex Ob.cam_drop_reason n) code = v at hrest hshown
    rw [hrest, hshown]

theorem Drops.cur {s t : State} {n code : Nat} (h : Drops s t n code) : (t.stream n).cur = none := by
  rw [stream_of_cam h.cam, stream_setStream_same]

/-! Headers (R240) -/

theorem csiHeader_plain {s : State} {port : Nat} (vc : Nat) (f : Nat → State → State) (h : port < s.camPorts) : s.csiHeader port vc 0 false f = f (4 * port + vc % 4) s := by
  unfold State.csiHeader
  dsimp only
  rw [if_neg (Nat.not_le.2 h)]
  rfl


end Sys2Proof.Proofs
end

section
/-! Frame Start (R243, R244, R256, R261). -/

namespace Sys2Proof.Proofs

open Sys2Proof.Machine Sys2Proof.Laws Sys2Proof.Claims

/-! What a Frame Start leaves of what it reads -/

/-- The objects that a Frame Start sets before it is judged: its Lay time, and what a crossing counts. -/
def startKey (k : Nat) : Prop := k % 256 = 0x16 ∨ ∃ d, k = fullKey d Ob.xing_overruns ∨ k = fullKey d Ob.clock_flags

theorem not_startKey_item {d k n : Nat} (h0 : k % 256 ≠ 0) (h1 : k % 256 ≠ 0x16) : ¬ startKey (fullKey d (atIndex k n)) := by
  rintro (h | ⟨e, h | h⟩)
  · rw [fullKey_mod, atIndex_mod] at h
    exact h1 h
  · exact fullKey_ne_item_plain (j := Ob.xing_overruns) h0 h
  · exact fullKey_ne_item_plain (j := Ob.clock_flags) h0 h

/-- A part whose streams and slots are as before, and every object but those. -/
structure StreamsStay (s t : State) : Prop where
  cam  : t.cam = s.cam
  fuses : t.fuses = s.fuses
  objs : ObjsBut s t startKey

theorem StreamsStay.at_ {s t : State} (h : StreamsStay s t) {k : Nat} (n : Nat) (h0 : k % 256 ≠ 0) (h1 : k % 256 ≠ 0x16) : t.at_ k n = s.at_ k n := objsBut_nat (die := 0) h.objs (not_startKey_item h0 h1)

theorem StreamsStay.item {s t : State} (h : StreamsStay s t) {k : Nat} (n : Nat) (h0 : k % 256 ≠ 0) (h1 : k % 256 ≠ 0x16) : t.int 0 (atIndex k n) = s.int 0 (atIndex k n) :=
  objsBut_int h.objs (not_startKey_item h0 h1)

theorem StreamsStay.ports {s t : State} (h : StreamsStay s t) : t.camPorts = s.camPorts := by simp only [State.camPorts, h.fuses]

theorem StreamsStay.on {s t : State} (h : StreamsStay s t) (n : Nat) : t.streamOn n = s.streamOn n := by
  simp only [State.streamOn, State.streamExists, h.ports, h.at_ (k := Ob.cam_enable) n (by decide) (by decide)]

theorem StreamsStay.inline {s t : State} (h : StreamsStay s t) (n : Nat) : t.camInline n = s.camInline n := by
  have hkey : ¬ startKey (fullKey (n / 4) Ob.cam_inline) := by
    rintro (hk | ⟨e, hk | hk⟩)
    · rw [fullKey_mod] at hk
      exact absurd hk (by decide)
    · exact fullKey_ne (k := Ob.cam_inline) (j := Ob.xing_overruns) (by decide) (by decide) (by decide) hk
    · exact fullKey_ne (k := Ob.cam_inline) (j := Ob.clock_flags) (by decide) (by decide) (by decide) hk
  simp only [State.camInline, objsBut_nat h.objs hkey]

theorem StreamsStay.stream {s t : State} (h : StreamsStay s t) (n : Nat) : t.stream n = s.stream n := stream_of_cam h.cam n

theorem StreamsStay.rawUsed {s t : State} (h : StreamsStay s t) (n : Nat) : t.rawUsed n = s.rawUsed n := by simp only [State.rawUsed, h.cam]

theorem StreamsStay.slotFor {s t : State} (h : StreamsStay s t) (n : Nat) (fs : Int) : t.slotFor n fs = s.slotFor n fs := by
  have harmed : ∀ k i, t.armedVal k i = s.armedVal k i := fun k i => by simp only [State.armedVal, h.cam]
  simp only [State.slotFor, State.slotStream, State.windowEnd, harmed, h.at_ (k := Ob.cap_state) _ (by decide) (by decide), h.item (k := Ob.cap_trigger_at) _ (by decide) (by decide)]
  rfl

/-- A Frame Start noted: crossed into the core clock, its Lay time kept. -/
def noted (s : State) (port n : Nat) : State := (s.crossEvents port .frameStart 1).set (atIndex Ob.cam_last_fs n) (toGrid (s.layOf port))

theorem noted_rest (s : State) (port n : Nat) : noted s port n = { s.crossEvents port .frameStart 1 with objs := (noted s port n).objs } := rfl

theorem crossEvents_stay (s : State) (port : Nat) (x : Crossing) (k : Nat) : StreamsStay s (s.crossEvents port x k) :=
  ⟨by rw [crossEvents_rest], by rw [crossEvents_rest], objsBut_mono (crossEvents_objs s port x k) fun _ h => .inr ⟨port, h⟩⟩

theorem noted_stay (s : State) (port n : Nat) : StreamsStay s (noted s port n) := by
  obtain ⟨hcam, hfuses, hobjs⟩ := crossEvents_stay s port .frameStart 1
  refine ⟨hcam, hfuses, objsBut_trans hobjs (objsBut_mono (objsBut_put _ 0 (atIndex Ob.cam_last_fs n) _) fun k hk => .inl ?_)⟩
  rw [hk, fullKey_mod, atIndex_mod]
  decide

theorem noted_now (s : State) (port n : Nat) : (noted s port n).now = s.now := by
  rw [noted_rest]
  exact (congrArg State.now (crossEvents_rest s port .frameStart 1) :)

/-! The row -/

theorem onPort_stream_lt {s : State} {port n : Nat} {h : CsiHead} (hp : OnPort s port n h) : n < 16 := by
  have := hp.there
  have := camPorts_le s
  have := hp.n_
  omega

theorem onPort_die {s : State} {port n : Nat} {h : CsiHead} (hp : OnPort s port n h) : n / 4 = port := by
  have := hp.n_
  omega

theorem frameStart_exec {s x : State} {port n : Nat} {h : CsiHead} (hp : OnPort s port n h) (hx : s.beginFrame port n = x) : exec (.frameStart port h) s = .next x := by
  have hplain : s.frameStart port h = s.beginFrame port n := by
    rw [State.frameStart, hp.ecc, hp.plain, csiHeader_plain _ _ hp.there, ← hp.n_]
  exact congrArg Host.Outcome.next ((onDie_upDie hp.up _).trans (hplain.trans hx))

/-! A frame that begins -/

/-- A part that has noted a Frame Start of an enabled stream: the frame in progress is dropped, and the link is heard. -/
def opened (s : State) (port n : Nat) : State := ((noted s port n).dropFrame n 6).setStream n fun t => { t with sinceFs := (noted s port n).now }

/-- The slot that takes a frame of a stream. -/
def startSlot (b : State) (n : Nat) (fs : Int) : Option Nat := if b.at_ Ob.cam_output n = 0 then none else b.slotFor n fs

/-- The work of a frame that begins in a part. -/
def startedWork (b : State) (n fs : Nat) (slot : Option Nat) : CamWork := { startAt := b.now, fsAt := fs, inline := b.camInline n, objs := b.objs, slot := slot, gen := (b.stream n).gen }

/-- The frame of a stream that begins. -/
def started (b : State) (n fs : Nat) (slot : Option Nat) : State := b.setStream n fun t => { t with cur := some (startedWork b n fs slot) }

theorem started_stream (b : State) (n fs : Nat) (slot : Option Nat) : (started b n fs slot).stream n = { b.stream n with cur := some (startedWork b n fs slot) } := stream_setStream_same ..

theorem started_rest (b : State) (n fs : Nat) (slot : Option Nat) : started b n fs slot = { b with cam := (started b n fs slot).cam } := rfl

theorem captured_rest (b : State) (n fs k : Nat) : ((started b n fs (some k)).set (atIndex Ob.cap_state k) 3).set (atIndex Ob.cap_fs_at k) fs =
    { b with objs := (((started b n fs (some k)).set (atIndex Ob.cap_state k) 3).set (atIndex Ob.cap_fs_at k) fs).objs, cam := (started b n fs (some k)).cam } := rfl

theorem beginFrame_on {s : State} (port : Nat) {n : Nat} (hon : s.streamOn n = true) : s.beginFrame port n =
    if !((opened s port n).camInline n) && 2 ≤ (opened s port n).rawUsed n then
      match startSlot (opened s port n) n (toGrid (s.layOf port)) with
      | some k => (((opened s port n).bump 0 (atIndex Ob.cam_skips n)).raise port Ob.cam_flags 3 port).failSlot k 5
      | none => ((opened s port n).bump 0 (atIndex Ob.cam_skips n)).raise port Ob.cam_flags 3 port
    else match startSlot (opened s port n) n (toGrid (s.layOf port)) with
      | some k => ((started (opened s port n) n (toGrid (s.layOf port)) (startSlot (opened s port n) n (toGrid (s.layOf port)))).set (atIndex Ob.cap_state k) 3).set (atIndex Ob.cap_fs_at k) (toGrid (s.layOf port))
      | none => started (opened s port n) n (toGrid (s.layOf port)) (startSlot (opened s port n) n (toGrid (s.layOf port))) := by
  have hstill : (!(noted s port n).streamOn n) = false := by rw [(noted_stay s port n).on, hon]; rfl
  unfold State.beginFrame
  exact if_neg fun hoff => Bool.false_ne_true (hstill.symm.trans hoff)

/-- With no frame in progress a Frame Start leaves all that it reads. -/
theorem opened_idle {s : State} (port : Nat) {n : Nat} (h : (s.stream n).cur = none) : opened s port n = (noted s port n).setStream n fun t => { t with sinceFs := (noted s port n).now } := by
  rw [opened, dropFrame_none (by rw [(noted_stay s port n).stream]; exact h)]

theorem opened_reads {s : State} (port : Nat) {n : Nat} (h : (s.stream n).cur = none) : (opened s port n).camInline n = s.camInline n ∧ (opened s port n).rawUsed n = s.rawUsed n ∧
    (∀ fs, startSlot (opened s port n) n fs = startSlot s n fs) ∧ (opened s port n).now = s.now := by
  have hstay := noted_stay s port n
  rw [opened_idle port h]
  refine ⟨hstay.inline n, hstay.rawUsed n, fun fs => ?_, noted_now s port n⟩
  have hout : (noted s port n).at_ Ob.cam_output n = s.at_ Ob.cam_output n := hstay.at_ n (by decide) (by decide)
  show (if (noted s port n).at_ Ob.cam_output n = 0 then none else (noted s port n).slotFor n fs) = _
  rw [hout, hstay.slotFor]
  rfl

theorem noted_shows (s : State) (port n : Nat) : (noted s port n).int 0 (atIndex Ob.cam_last_fs n) = toGrid (s.layOf port) := int_put_same ..

theorem frameStarts : Claims.frameStarts := by
  intro s a port n fs h hp hon hcur hroom hfs ha
  subst hfs ha
  obtain ⟨hinline, hraw, hslot, hnow⟩ := opened_reads port hcur
  have hgo : (!((opened s port n).camInline n) && decide (2 ≤ (opened s port n).rawUsed n)) = false := by
    rw [hinline, hraw]
    rcases hroom with hin | hfew
    · rw [hin]
      rfl
    · simp [Nat.not_le.2 hfew]
  have hbegins := beginFrame_on port hon
  rw [if_neg (by rw [hgo]; exact Bool.false_ne_true), hslot] at hbegins
  have hheard : (opened s port n).stream n = { s.stream n with sinceFs := s.now } := by
    rw [opened_idle port hcur, stream_setStream_same, (noted_stay s port n).stream, noted_now]
  have hobjs : (opened s port n).objs = (noted s port n).objs := by rw [opened_idle port hcur]; rfl
  have hrest : opened s port n = { s.crossEvents port .frameStart 1 with objs := (opened s port n).objs, cam := (opened s port n).cam } := by rw [opened_idle port hcur]; rfl
  have hshows := noted_shows s port n
  have hput : ObjsBut (s.crossEvents port .frameStart 1) (noted s port n) fun k => k = fullKey 0 (atIndex Ob.cam_last_fs n) := objsBut_put _ 0 (atIndex Ob.cam_last_fs n) _
  generalize opened s port n = b at hinline hnow hbegins hheard hobjs hrest
  refine ⟨fun hnone => ?_, fun k hk hout hsome => ?_⟩
  · have hno : startSlot s n (toGrid (s.layOf port)) = none := by
      unfold startSlot
      rcases hnone with h0 | hnone
      · rw [if_pos h0]
      · rw [hnone, ite_self]
    simp only [hno] at hbegins
    refine ⟨_, startedWork b n (toGrid (s.layOf port)) none, frameStart_exec hp hbegins, by rw [started_stream], hnow, rfl, hinline, rfl, rfl, rfl, rfl, ?_, ?_, ?_, ?_⟩
    · exact (int_of_objs hobjs ..).trans hshows
    · exact objsBut_mono (objsBut_trans hput (objsBut_of_eq hobjs)) fun k hk => hk.trans (fullKey_part _)
    · rw [started_stream, hheard]
    · exact (started_rest b n _ none).trans (congrArg (fun v : State => { v with cam := (started b n (toGrid (s.layOf port)) none).cam }) hrest)
  · have hyes : startSlot s n (toGrid (s.layOf port)) = some k := by rw [startSlot, if_neg hout, hsome]
    simp only [hyes] at hbegins
    refine ⟨_, startedWork b n (toGrid (s.layOf port)) (some k), frameStart_exec hp hbegins, ?_, rfl, rfl, ?_, int_put_same .., ?_⟩
    · exact congrArg StreamSt.cur (started_stream b n _ _)
    · exact (nat_put_other _ 0 (atIndex Ob.cap_fs_at k) 0 (atIndex Ob.cap_state k) _ (fullKey_ne_item (by decide))).trans (nat_put_same ..)
    · exact (captured_rest b n _ k).trans (congrArg (fun v : State => { v with
        objs := (((started b n (toGrid (s.layOf port)) (some k)).set (atIndex Ob.cap_state k) 3).set (atIndex Ob.cap_fs_at k) (toGrid (s.layOf port))).objs,
        cam := (started b n (toGrid (s.layOf port)) (some k)).cam }) hrest)

/-! Frame Starts that begin no frame, or end another -/

theorem counts_of_objs {s t : State} {die key : Nat} (top : (objTy key).bounds.2 = 4294967295) (h : t.int die key = s.int die key) : Counts s (t.bump die key 1) die key 1 := fun hroom => by
  rw [bump_int t die key 1 (by rw [top, h]; exact hroom), h]

theorem camSkips_bound {n : Nat} (h : n < 16) : (objTy (atIndex Ob.cam_skips n)).bounds.2 = 4294967295 := by interval_cases n <;> rfl

theorem frameSkipped : Claims.frameSkipped := by
  intro s port n h hp
  have hn := onPort_stream_lt hp
  refine ⟨fun hon hcur hmem hfull hout => ?_, fun k hon hcur hslot hin hout => ?_, fun hoff => ?_⟩
  · obtain ⟨hinline, hraw, hslot, -⟩ := opened_reads port hcur
    have hgo : (!((opened s port n).camInline n) && decide (2 ≤ (opened s port n).rawUsed n)) = true := by
      rw [hinline, hraw, hmem]
      simpa using hfull
    have hno : startSlot s n (toGrid (s.layOf port)) = none := by rw [startSlot, if_pos hout]
    have hbegins := beginFrame_on port hon
    rw [if_pos hgo, hslot] at hbegins
    simp only [hno] at hbegins
    have hsame : (opened s port n).int 0 (atIndex Ob.cam_skips n) = s.int 0 (atIndex Ob.cam_skips n) := by
      rw [opened_idle port hcur]
      exact (noted_stay s port n).item n (by decide) (by decide)
    have hnone : ((opened s port n).stream n).cur = none := by
      rw [opened_idle port hcur, stream_setStream_same, (noted_stay s port n).stream]
      exact hcur
    have hsent : (opened s port n).sent = s.sent := by
      rw [opened_idle port hcur]
      exact (congrArg State.sent (crossEvents_rest s port .frameStart 1) :)
    generalize opened s port n = b at hbegins hsame hnone hsent
    obtain ⟨hplain, hraised⟩ := raise_plain (b.bump 0 (atIndex Ob.cam_skips n)) port Ob.cam_flags 3 port rfl
    refine ⟨_, frameStart_exec hp hbegins, ?_, ?_, raise_on _ _ _ _ _ not_reportKey_full, ?_⟩
    · rw [stream_of_cam ((raise_cam ..).trans (bump_cam ..))]
      exact hnone
    · exact counts_of_int (counts_of_objs (camSkips_bound hn) hsame) rfl (objsBut_int hraised (fullKey_ne_item_plain (by decide)))
    · rw [hplain]
      exact (bump_sent b 0 (atIndex Ob.cam_skips n) 1).trans hsent
  · have hstay := noted_stay s port n
    have hdrop := dropFrame_drops 6 hn (by rw [hstay.stream]; exact hcur) hslot
    have hinline : (opened s port n).camInline n = true := by
      refine (?_ : (opened s port n).camInline n = (noted s port n).camInline n).trans ((hstay.inline n).trans hin)
      refine congrArg (fun v => decide (v = n)) (objsBut_nat hdrop.objs ?_)
      rintro (hk | hk | hk)
      · exact fullKey_ne_item_plain (by decide) hk.symm
      · exact fullKey_ne_item_plain (by decide) hk.symm
      · exact fullKey_ne (k := Ob.cam_inline) (j := Ob.cam_flags) (by decide) (by decide) (by decide) hk
    have hgo : (!((opened s port n).camInline n) && decide (2 ≤ (opened s port n).rawUsed n)) = false := by rw [hinline]; rfl
    have hitem : ∀ {key : Nat}, key % 256 ≠ Ob.cam_drops % 256 → key % 256 ≠ Ob.cam_drop_reason % 256 → key % 256 ≠ 0 → ¬ dropKey n (fullKey 0 (atIndex key n)) := fun h1 h2 h3 hk =>
      hk.elim (fullKey_ne_item h1) fun hk => hk.elim (fullKey_ne_item h2) (fullKey_ne_item_plain h3)
    have hno : startSlot (opened s port n) n (toGrid (s.layOf port)) = none := by
      have hzero : (opened s port n).at_ Ob.cam_output n = 0 := (objsBut_nat hdrop.objs (hitem (by decide) (by decide) (by decide))).trans ((hstay.at_ n (by decide) (by decide)).trans hout)
      rw [startSlot, if_pos hzero]
    have hbegins := beginFrame_on port hon
    rw [if_neg (by rw [hgo]; exact Bool.false_ne_true), hno] at hbegins
    refine ⟨_, startedWork (opened s port n) n (toGrid (s.layOf port)) none, frameStart_exec hp hbegins, by rw [started_stream], rfl, ?_, hdrop.reason⟩
    exact counts_of_int hdrop.counts (hstay.item n (by decide) (by decide)).symm rfl
  · refine frameStart_exec hp ?_
    have hstill : (!(noted s port n).streamOn n) = true := by rw [(noted_stay s port n).on, hoff]; rfl
    unfold State.beginFrame
    exact if_pos hstill

end Sys2Proof.Proofs
end

section
/-! Packets, lines and Frame End (R240-R243, R256, R257). -/

namespace Sys2Proof.Proofs

open Sys2Proof.Machine Sys2Proof.Laws Sys2Proof.Claims

/-! Headers (R240) -/

theorem csiHeader_lost {s : State} {port : Nat} (vc : Nat) (extVc : Bool) (f : Nat → State → State) (h : port < s.camPorts) : s.csiHeader port vc 2 extVc f = s.dropFrame (4 * port + vc % 4) 1 := by
  unfold State.csiHeader
  dsimp only
  rw [if_neg (Nat.not_le.2 h), if_pos rfl]

theorem csiHeader_extended {s : State} {port : Nat} (vc : Nat) (f : Nat → State → State) (h : port < s.camPorts) : s.csiHeader port vc 0 true f = s.bump 0 (Ob.cam_bad_packets + port) := by
  unfold State.csiHeader
  dsimp only
  rw [if_neg (Nat.not_le.2 h)]
  rfl

theorem csiHeader_corrected {s : State} {port : Nat} (vc : Nat) (f : Nat → State → State) (h : port < s.camPorts) :
    s.csiHeader port vc 1 false f = f (4 * port + vc % 4) (s.bump 0 (Ob.cam_ecc_corrected + port)) := by
  unfold State.csiHeader
  dsimp only
  rw [if_neg (Nat.not_le.2 h)]
  rfl

theorem crossWords_upDie {s : State} {die port : Nat} (h : UpDie s die) (x : Crossing) (n : Nat) : UpDie (s.crossWords port x n) die := by
  have hrest := crossWords_rest s port x n
  generalize s.crossWords port x n = t at hrest
  rw [hrest]
  exact h

theorem crossWords_camPorts (s : State) (port : Nat) (x : Crossing) (n : Nat) : (s.crossWords port x n).camPorts = s.camPorts := by
  have hrest := crossWords_rest s port x n
  generalize s.crossWords port x n = t at hrest
  rw [hrest]
  rfl

theorem longPacket_exec {s : State} {port vc : Nat} {p : CsiPkt} (hup : UpDie s port) : exec (.longPacket port vc p) s = .next ((s.crossWords port .pixels p.wc).csiHeader port vc p.ecc p.extVc (State.streamPacket port p)) :=
  congrArg Host.Outcome.next (onDie_upDie hup _)

theorem headersJudged : Claims.headersJudged := by
  intro s port n h p hup hport hn hecc hext
  have hstart : exec (.frameStart port h) s = .next (s.csiHeader port h.vc h.ecc h.extVc (State.beginFrame port)) := congrArg Host.Outcome.next (onDie_upDie hup _)
  have hend : ∀ {t : State}, UpDie t port → exec (.frameEnd port h) t = .next (t.csiHeader port h.vc h.ecc h.extVc (State.endFrame port)) := fun ht => congrArg Host.Outcome.next (onDie_upDie ht _)
  have hcross := crossWords_upDie (port := port) hup .pixels p.wc
  have hcrossPorts : port < (s.crossWords port .pixels p.wc).camPorts := by rwa [crossWords_camPorts]
  refine ⟨fun k hlost hcur hslot => ?_, fun hclean hextended => ?_, fun hfixed hplain => ?_⟩
  · have hdie : n / 4 = port := by omega
    have hdrop := dropFrame_drops 1 (by have := camPorts_le s; omega) hcur hslot
    rw [hstart, hend hup, hend hcross, longPacket_exec hup, hecc, hlost, csiHeader_lost _ _ _ hport, csiHeader_lost _ _ _ hport, csiHeader_lost _ _ _ hcrossPorts, csiHeader_lost _ _ _ hcrossPorts, ← hn]
    exact ⟨_, rfl, rfl, rfl, hdrop.cur, hdrop.counts, hdrop.reason, hdie ▸ hdrop.flag⟩
  · rw [hstart, hend hup, longPacket_exec hup, hecc, hext, hclean, hextended, csiHeader_extended _ _ hport, csiHeader_extended _ _ hport, csiHeader_extended _ _ hcrossPorts]
    exact ⟨rfl, rfl, rfl⟩
  · have hcounted : UpDie (s.bump 0 (Ob.cam_ecc_corrected + port)) port ∧ port < (s.bump 0 (Ob.cam_ecc_corrected + port)).camPorts := by
      have hkey : fullKey 0 Ob.dies_alive ≠ fullKey 0 (Ob.cam_ecc_corrected + port) := by simp only [fullKey, Ob.dies_alive, Ob.cam_ecc_corrected]; omega
      refine ⟨⟨⟨by rw [bump_boot]; exact hup.1.1, by rw [bump_boot]; exact hup.1.2⟩, ?_⟩, ?_⟩
      · rw [State.alive, State.pw, bump_nat_other _ _ hkey]
        exact hup.2
      · rw [State.camPorts, bump_fuses]
        exact hport
    have hagain : ∀ f : Nat → State → State, (s.bump 0 (Ob.cam_ecc_corrected + port)).onDie port (fun t => t.csiHeader port h.vc 0 h.extVc f) = f (4 * port + h.vc % 4) (s.bump 0 (Ob.cam_ecc_corrected + port)) :=
      fun f => (onDie_upDie hcounted.1 _).trans (by rw [hplain]; exact csiHeader_plain _ _ hcounted.2)
    rw [hstart, hend hup, hfixed, hplain, csiHeader_corrected _ _ hport, csiHeader_corrected _ _ hport]
    exact ⟨congrArg Host.Outcome.next (hplain ▸ hagain (State.beginFrame port)).symm, congrArg Host.Outcome.next (hplain ▸ hagain (State.endFrame port)).symm⟩

/-! Lines (R241, R243) -/

/-- A line that joins the frame in progress. -/
def lineJoined (s t : State) (port n : Nat) (k : CamWork) (p : CsiPkt) : State :=
  let s1 := s.setStream n fun a => { a with cur := some (takeLine k (t.camW n) (2 ^ (14 - t.camBits n)) p.samples) }
  if k.inline then { s1 with cam := { s1.cam with lines := smPut 0 s1.cam.lines port (smGet 0 s1.cam.lines port + 4 * t.camW n) } } else s1

theorem takePixels_joins {s : State} {port n : Nat} {k : CamWork} {p : CsiPkt} (hcrc : p.crcOk = true) (hslot : k.slot = none)
    (hwc : p.wc = ({ s with objs := k.objs } : State).camW n * ({ s with objs := k.objs } : State).camBits n / 8) (hleft : k.lines < ({ s with objs := k.objs } : State).camH n)
    (hroom : k.inline = false ∨ p.overflow = false ∧ ({ s with objs := k.objs } : State).rxWaiting port n + p.wc ≤ 65536) : s.takePixels port n k p = lineJoined s { s with objs := k.objs } port n k p := by
  have hfits : (k.inline && (p.overflow || decide (65536 < ({ s with objs := k.objs } : State).rxWaiting port n + p.wc))) = false := by
    rcases hroom with hin | ⟨hover, hwait⟩
    · simp [hin]
    · simp [hover, Nat.not_lt.2 hwait]
  unfold State.takePixels
  dsimp only
  rw [hcrc, if_neg (by decide), if_neg (not_not.2 hwc), if_neg (Nat.not_le.2 hleft), hfits, if_neg Bool.false_ne_true, hslot]
  rfl

theorem takePixels_overflows {s : State} {port n : Nat} {k : CamWork} {p : CsiPkt} (hcrc : p.crcOk = true)
    (hwc : p.wc = ({ s with objs := k.objs } : State).camW n * ({ s with objs := k.objs } : State).camBits n / 8) (hleft : k.lines < ({ s with objs := k.objs } : State).camH n)
    (hin : k.inline = true) (hfull : p.overflow = true ∨ 65536 < ({ s with objs := k.objs } : State).rxWaiting port n + p.wc) : s.takePixels port n k p = s.dropFrame n 7 := by
  have hover : (k.inline && (p.overflow || decide (65536 < ({ s with objs := k.objs } : State).rxWaiting port n + p.wc))) = true := by simpa [hin] using hfull
  unfold State.takePixels
  dsimp only
  rw [hcrc, if_neg (by decide), if_neg (not_not.2 hwc), if_neg (Nat.not_le.2 hleft), hover, if_pos rfl]


/-- A long packet of no data type that the frame in progress takes. -/
theorem streamPacket_other {s : State} {port n : Nat} {p : CsiPkt} {k : CamWork} (hcur : (s.stream n).cur = some k) (h4 : 4 ≤ p.dt) (hemb : p.dt ≠ 0x12)
    (hdt : p.dt ≠ ({ s with objs := k.objs } : State).at_ Ob.cam_dt n) : s.streamPacket port p n = s.bump 0 (Ob.cam_bad_packets + port) := by
  have hsome : (s.stream n).cur.isNone = false := by rw [hcur]; rfl
  unfold State.streamPacket
  rw [if_neg (Nat.not_lt.2 h4), if_neg hemb, hsome, if_neg Bool.false_ne_true]
  split
  · rfl
  · rw [hcur]
    exact if_pos hdt

theorem streamPacket_ignored {s : State} {port n : Nat} {p : CsiPkt} (h : p.dt < 4 ∨ p.dt = 0x12 ∧ p.crcOk = true) : s.streamPacket port p n = s := by
  unfold State.streamPacket
  rcases h with h | ⟨h, hcrc⟩
  · exact if_pos h
  · rw [h, if_neg (by decide), if_pos rfl, hcrc]
    rfl

theorem streamPacket_line {s : State} {port n : Nat} {p : CsiPkt} {k : CamWork} (hcur : (s.stream n).cur = some k) (hlo : 0x2B ≤ p.dt) (hhi : p.dt ≤ 0x2D)
    (hdt : p.dt = ({ s with objs := k.objs } : State).at_ Ob.cam_dt n) : s.streamPacket port p n = s.takePixels port n k p := by
  have hsome : (s.stream n).cur.isNone = false := by rw [hcur]; rfl
  have hraw : (decide (p.dt ≠ 0x2B) && decide (p.dt ≠ 0x2C) && decide (p.dt ≠ 0x2D)) = false := by
    rw [Bool.eq_false_iff]
    simp only [ne_eq, Bool.and_eq_true, decide_eq_true_eq]
    omega
  unfold State.streamPacket
  rw [if_neg (by omega), if_neg (by omega), hsome, if_neg Bool.false_ne_true, hraw, if_neg Bool.false_ne_true, hcur]
  exact if_neg (not_not.2 hdt)

theorem streamPacket_badEmbedded {s : State} {port n : Nat} {p : CsiPkt} (hdt : p.dt = 0x12) (hcrc : p.crcOk = false) : s.streamPacket port p n = s.dropFrame n 2 := by
  unfold State.streamPacket
  rw [hdt, if_neg (by decide), if_pos rfl, hcrc]
  rfl

theorem takePixels_bad {s : State} {port n : Nat} {k : CamWork} {p : CsiPkt} (hcrc : p.crcOk = false) : s.takePixels port n k p = s.dropFrame n 2 := by
  unfold State.takePixels
  rw [hcrc]
  rfl

theorem lineJoined_cur (s t : State) (port n : Nat) (k : CamWork) (p : CsiPkt) : ((lineJoined s t port n k p).stream n).cur = some (takeLine k (t.camW n) (2 ^ (14 - t.camBits n)) p.samples) := by
  have hjoined : ((s.setStream n fun a => { a with cur := some (takeLine k (t.camW n) (2 ^ (14 - t.camBits n)) p.samples) }).stream n).cur = some (takeLine k (t.camW n) (2 ^ (14 - t.camBits n)) p.samples) := by
    rw [stream_setStream_same]
  unfold lineJoined
  dsimp only
  split <;> exact hjoined

theorem lineJoined_lines (s t : State) (port n : Nat) (k : CamWork) (p : CsiPkt) : smGet 0 (lineJoined s t port n k p).cam.lines port = smGet 0 s.cam.lines port + if k.inline then 4 * t.camW n else 0 := by
  unfold lineJoined
  dsimp only
  split
  · exact smGet_smPut_same ..
  · rfl

theorem lineJoined_rest (s t : State) (port n : Nat) (k : CamWork) (p : CsiPkt) : lineJoined s t port n k p = { s with cam := (lineJoined s t port n k p).cam } := by
  unfold lineJoined
  dsimp only
  split <;> rfl

theorem lineTaken : Claims.lineTaken := by
  intro s a f port vc n p k hup hport hn hcur hf ha hext hecc
  have hrow : exec (.longPacket port vc p) s = .next (a.streamPacket port p n) := by
    rw [longPacket_exec hup, hext, hecc, csiHeader_plain _ _ (by rwa [crossWords_camPorts]), ← hn, ha]
  have hn16 : n < 16 := by have := camPorts_le s; omega
  obtain ⟨x, rfl⟩ : ∃ x, a = { s with xings := x } := ⟨_, ha.trans (crossWords_rest s port .pixels p.wc)⟩
  clear ha
  subst hf
  refine ⟨fun h4 hemb hdt => ?_, fun hshort => ?_, fun hdt hlo hhi hcrc hslot hwc hleft => ⟨fun hroom => ?_, fun hin hfull => ?_⟩, fun hkind hcrc hslot => ?_⟩
  · rw [hrow, streamPacket_other (s := { s with xings := x }) hcur h4 hemb hdt]
  · rw [hrow, streamPacket_ignored (s := { s with xings := x }) hshort]
  · rw [streamPacket_line (s := { s with xings := x }) hcur hlo hhi hdt, takePixels_joins (s := { s with xings := x }) hcrc hslot hwc hleft hroom] at hrow
    exact ⟨_, hrow, lineJoined_cur .., lineJoined_lines .., lineJoined_rest ..⟩
  · rw [streamPacket_line (s := { s with xings := x }) hcur hlo hhi hdt, takePixels_overflows (s := { s with xings := x }) hcrc hwc hleft hin hfull] at hrow
    have hdrop := dropFrame_drops (s := { s with xings := x }) 7 hn16 hcur hslot
    exact ⟨_, hrow, hdrop.cur, hdrop.counts, hdrop.reason⟩
  · have hbad : ({ s with xings := x } : State).streamPacket port p n = ({ s with xings := x } : State).dropFrame n 2 := by
      rcases hkind with ⟨hdt, hlo, hhi⟩ | hemb
      · rw [streamPacket_line (s := { s with xings := x }) hcur hlo hhi hdt, takePixels_bad (s := { s with xings := x }) hcrc]
      · exact streamPacket_badEmbedded (s := { s with xings := x }) hemb hcrc
    rw [hbad] at hrow
    have hdrop := dropFrame_drops (s := { s with xings := x }) 2 hn16 hcur hslot
    have hsent : (({ s with xings := x } : State).dropFrame n 2).sent = s.sent := by rw [hdrop.rest]
    have hdie : n / 4 = port := by omega
    exact ⟨_, hrow, hdrop.cur, hdrop.counts, hdrop.reason, hdie ▸ hdrop.flag, hsent⟩

/-! Frames that leave (R224, R243, R247) -/

/-- What the sources do with a frame of a camera: streams, the queue of its die and the counters of cameras stay. -/
structure CamerasStay (s t : State) : Prop where
  cam  : t.cam = s.cam
  sent : t.sent = s.sent
  objs : ObjsBut s t fun k => k % 256 = Ob.src_frames % 256 ∨ k % 256 = Ob.src_skips % 256

theorem camerasStay_refl (s : State) : CamerasStay s s := ⟨rfl, rfl, objsBut_refl _ _⟩

theorem camerasStay_trans {s t u : State} (h : CamerasStay s t) (k : CamerasStay t u) : CamerasStay s u := ⟨k.cam.trans h.cam, k.sent.trans h.sent, objsBut_trans h.objs k.objs⟩

theorem camerasStay_bump (s : State) {key : Nat} (src : Nat) (h : key % 256 = Ob.src_frames % 256 ∨ key % 256 = Ob.src_skips % 256) : CamerasStay s (s.bump 0 (atIndex key src)) :=
  ⟨bump_cam .., bump_sent .., objsBut_mono (bump_objs s 0 (atIndex key src) 1) fun k hk => by rwa [hk, fullKey_mod, atIndex_mod]⟩

theorem camerasStay_frameDone (s : State) (src : Nat) (b : FrameBuf) : CamerasStay s (s.frameDone src b) := by
  have hcounted := camerasStay_bump s (key := Ob.src_frames) src (.inl rfl)
  unfold State.frameDone
  extract_lets o s1
  refine camerasStay_trans (t := s1) ?_ ⟨rfl, rfl, objsBut_of_eq rfl⟩
  exact when_of (P := CamerasStay s) _ _ _ hcounted (camerasStay_trans hcounted (camerasStay_bump _ (key := Ob.src_skips) src (.inr rfl)))

theorem camerasStay_cameraDone (s : State) (stream prim peak : Nat) (data : SMap Nat) : CamerasStay s (s.cameraDone stream prim peak data) := by
  unfold State.cameraDone
  exact each_of (P := CamerasStay s) _ _ (fun k t ht => camerasStay_trans ht (camerasStay_frameDone ..)) (camerasStay_refl s)

end Sys2Proof.Proofs
end

section
/-! Frame End, timeouts, the memory path and the link of a camera stream (R243, R256, R257). -/

namespace Sys2Proof.Proofs

open Sys2Proof.Machine Sys2Proof.Laws Sys2Proof.Claims

theorem camFrames_bound {n : Nat} (h : n < 16) : (objTy (atIndex Ob.cam_frames n)).bounds.2 = 4294967295 := by interval_cases n <;> rfl

/-- A frame that no slot takes, at the end of the pipeline: counted, and the reference. -/
structure Leaves (s t : State) (n : Nat) : Prop where
  cur    : (t.stream n).cur = (s.stream n).cur
  ref    : (t.stream n).ref.isSome = true
  counts : Counts s t 0 (atIndex Ob.cam_frames n) 1
  queue  : t.cam.queue = s.cam.queue
  px     : t.cam.px = s.cam.px
  sent   : t.sent = s.sent

/-- The reference of a stream after a frame: that of a later setting stays. -/
def nextRef (s : State) (n : Nat) (k : CamWork) (a : StreamSt) : StreamSt :=
  { a with ref := if (match (s.stream n).ref with
    | some (g, _) => decide (k.gen < g)
    | none => false) then a.ref else some (k.gen, (s.camProcess n k).2.1) }

theorem nextRef_isSome (s : State) (n : Nat) (k : CamWork) : (nextRef s n k (s.stream n)).ref.isSome = true := by
  unfold nextRef
  cases href : (s.stream n).ref with
  | none => rfl
  | some r =>
    dsimp only
    split <;> rfl

theorem frameOut_leaves {s : State} {n : Nat} {k : CamWork} (hn : n < 16) (hslot : k.slot = none) : Leaves s (s.frameOut n k) n := by
  have hout : ∃ t, s.frameOut n k = t ∧ CamerasStay ((s.bump 0 (atIndex Ob.cam_frames n)).setStream n (nextRef s n k)) t := by
    refine ⟨_, rfl, ?_⟩
    unfold State.frameOut
    simp only [hslot]
    exact when_of (P := CamerasStay ((s.bump 0 (atIndex Ob.cam_frames n)).setStream n (nextRef s n k))) _ _ _ (camerasStay_refl _) (camerasStay_cameraDone ..)
  obtain ⟨t, ht, hstay⟩ := hout
  rw [ht]
  have hbump : (s.bump 0 (atIndex Ob.cam_frames n)).cam = s.cam := bump_cam ..
  have hstream : t.stream n = nextRef s n k (s.stream n) := by rw [stream_of_cam hstay.cam, stream_setStream_same, stream_of_cam hbump]
  refine ⟨by rw [hstream]; rfl, by rw [hstream]; exact nextRef_isSome s n k, fun hroom => ?_, ?_, ?_, ?_⟩
  · rw [objsBut_int hstay.objs (by rw [fullKey_mod, atIndex_mod]; decide)]
    exact bump_int s 0 _ 1 (by rw [camFrames_bound hn]; exact hroom)
  · rw [hstay.cam]
    exact (congrArg CamSt.queue hbump :)
  · rw [hstay.cam]
    exact (congrArg CamSt.px hbump :)
  · rw [hstay.sent]
    exact bump_sent ..

theorem frameEnd_exec {s x : State} {port n : Nat} {h : CsiHead} (hp : OnPort s port n h) (hx : s.endFrame port n = x) : exec (.frameEnd port h) s = .next x := by
  have hplain : s.frameEnd port h = s.endFrame port n := by rw [State.frameEnd, hp.ecc, hp.plain, csiHeader_plain _ _ hp.there, ← hp.n_]
  exact congrArg Host.Outcome.next ((onDie_upDie hp.up _).trans (hplain.trans hx))

theorem frameEnds : Claims.frameEnds := by
  intro s a port n h hp ha
  have hn := onPort_stream_lt hp
  have hstay : StreamsStay s a := ha ▸ crossEvents_stay s port .frameEnd 1
  have hitem : ∀ {key : Nat}, key % 256 ≠ 0 → key % 256 ≠ 0x16 → s.int 0 (atIndex key n) = a.int 0 (atIndex key n) := fun h0 h1 => (hstay.item n h0 h1).symm
  have hend : ∀ k, (s.stream n).cur = some k → s.endFrame port n = if k.lines < ({ s with objs := k.objs } : State).camH n then a.dropFrame n 5
      else if k.inline then (a.setStream n fun t => { t with cur := none }).frameOut n k
      else { a.setStream n fun t => { t with cur := none } with cam := { (a.setStream n fun t => { t with cur := none }).cam with
        queue := smPut [] (a.setStream n fun t => { t with cur := none }).cam.queue port (smGet [] (a.setStream n fun t => { t with cur := none }).cam.queue port ++ [(n, k)]) } } := by
    intro k hcur
    have hcura : (a.stream n).cur = some k := by rw [hstay.stream, hcur]
    unfold State.endFrame
    rw [← ha]
    dsimp only
    rw [hcura]
    rfl
  have hclosed : ((a.setStream n fun t => { t with cur := none }).stream n).cur = none := by rw [stream_setStream_same]
  refine ⟨fun k hcur hslot hshort => ?_, fun k hcur hmem hwhole => ?_, fun k hcur hin hslot hwhole => ?_, fun hcur => ?_⟩
  · have hdrop := dropFrame_drops 5 hn (by rw [hstay.stream]; exact hcur) hslot
    exact ⟨_, frameEnd_exec hp ((hend k hcur).trans (if_pos hshort)), hdrop.cur, counts_of_int hdrop.counts (hitem (by decide) (by decide)) rfl, hdrop.reason⟩
  · refine ⟨_, frameEnd_exec hp ((hend k hcur).trans ((if_neg (Nat.not_lt.2 hwhole)).trans (if_neg (by rw [hmem]; exact Bool.false_ne_true)))), hclosed, ?_, rfl⟩
    rw [← congrArg CamSt.queue hstay.cam]
    exact smGet_smPut_same ..
  · have hout := frameOut_leaves (s := a.setStream n fun t => { t with cur := none }) hn hslot
    exact ⟨_, frameEnd_exec hp ((hend k hcur).trans ((if_neg (Nat.not_lt.2 hwhole)).trans (if_pos hin))), hout.cur.trans hclosed, hout.ref,
      counts_of_int hout.counts (hitem (by decide) (by decide)) rfl⟩
  · refine frameEnd_exec hp ?_
    have hcura : (a.stream n).cur = none := by rw [hstay.stream, hcur]
    unfold State.endFrame
    rw [← ha]
    dsimp only
    rw [hcura]

theorem frameTimesOut : Claims.frameTimesOut := by
  intro s n k hup hn hcur hslot
  have hnext : ∀ x, s.frameTimeout n = x → exec (.frameTimeout n) s = .next x := fun x hx => congrArg Host.Outcome.next ((onDie_upDie hup _).trans hx)
  refine ⟨fun hlate => ?_, fun hyoung => hnext _ ?_⟩
  · have hdrop := dropFrame_drops 8 hn hcur hslot
    have hdrops : s.frameTimeout n = s.dropFrame n 8 := by
      unfold State.frameTimeout
      rw [hcur]
      exact if_pos hlate
    exact ⟨_, hnext _ hdrops, hdrop.cur, hdrop.counts, hdrop.reason, hdrop.flag⟩
  · unfold State.frameTimeout
    rw [hcur]
    exact if_neg (by rw [hyoung]; exact Bool.false_ne_true)

theorem memoryFrameDone : Claims.memoryFrameDone := by
  intro s die hup
  have hnext : ∀ x, s.memoryFrame die = x → exec (.memoryFrameProcessed die) s = .next x := fun x hx => congrArg Host.Outcome.next ((onDie_upDie hup _).trans hx)
  refine ⟨fun n k rest hqueue hn hslot => ⟨fun hdone => ?_, fun hleft => hnext _ ?_⟩, fun hempty => hnext _ ?_⟩
  · have hout := frameOut_leaves (s := { s with cam := { s.cam with queue := smPut [] s.cam.queue die rest, px := smPut 0 s.cam.px die 0 } }) hn hslot
    have hleaves : s.memoryFrame die = ({ s with cam := { s.cam with queue := smPut [] s.cam.queue die rest, px := smPut 0 s.cam.px die 0 } } : State).frameOut n k := by
      unfold State.memoryFrame
      rw [hqueue]
      exact if_neg (Nat.not_lt.2 hdone)
    refine ⟨_, hnext _ hleaves, ?_, ?_, hout.counts, hout.ref, hout.sent⟩
    · rw [hout.queue]
      exact smGet_smPut_same ..
    · rw [hout.px]
      exact smGet_smPut_same 0 s.cam.px die 0
  · unfold State.memoryFrame
    rw [hqueue]
    exact if_pos hleft
  · unfold State.memoryFrame
    rw [hempty]

theorem linkIsLost : Claims.linkIsLost := by
  intro s n hup hon
  have hnext : ∀ x, s.linkLost n = x → exec (.linkLost n) s = .next x := fun x hx => congrArg Host.Outcome.next ((onDie_upDie hup _).trans hx)
  refine ⟨fun hlong => ?_, fun hheard => hnext _ ?_⟩
  · have hlost : s.linkLost n = (s.setStream n fun t => { t with sinceFs := s.now }).raise (n / 4) Ob.cam_flags 1 (n / 4) := by
      unfold State.linkLost
      rw [hon, hlong, Bool.and_self, if_pos rfl]
    have hstream : ((s.setStream n fun t => { t with sinceFs := s.now }).raise (n / 4) Ob.cam_flags 1 (n / 4)).stream n = { s.stream n with sinceFs := s.now } := by
      rw [stream_of_cam (raise_cam ..), stream_setStream_same]
    exact ⟨_, hnext _ hlost, by rw [hstream], raise_on _ _ _ _ _ not_reportKey_full, by rw [hstream]⟩
  · unfold State.linkLost
    rw [hheard, Bool.and_false, if_neg Bool.false_ne_true]

/-- Settles O28. -/
theorem cameraFramesAreTaken : Obligations.CameraFramesAreTaken :=
  ⟨frameStarts, frameSkipped, headersJudged, lineTaken, frameEnds, frameTimesOut, memoryFrameDone, linkIsLost⟩

end Sys2Proof.Proofs
end

section
/-! corr_patch and the patches of a frame boundary (R290). -/

namespace Sys2Proof.Proofs

open Sys2Proof.Machine Sys2Proof.Laws Sys2Proof.Claims

/-! Bytes of a blob changed in place -/

/-- What a list of the bytes that differ from a default tells of one of them. -/
def listedByte (t : SMap Byte) (a : Nat) : Option Byte := (t.find? fun e => e.1 = a).map (·.2)

/-- One byte listed. -/
def listByte (t : SMap Byte) (a : Nat) (v : Byte) : SMap Byte := (t.filter fun e => e.1 < a) ++ (a, v) :: t.filter fun e => a < e.1

theorem find?_filter_of {t : SMap Byte} {a : Nat} {p : Nat × Byte → Bool} (h : ∀ e, e.1 = a → p e = true) : (t.filter p).find? (fun e => e.1 = a) = t.find? fun e => e.1 = a := by
  rw [List.find?_filter]
  congr 1
  funext e
  by_cases he : e.1 = a
  · simp [he, h e he]
  · simp [he]

theorem find?_filter_none {t : SMap Byte} {a : Nat} {p : Nat × Byte → Bool} (h : ∀ e, e.1 = a → p e = false) : (t.filter p).find? (fun e => e.1 = a) = none := by
  rw [List.find?_filter, List.find?_eq_none]
  intro e _ he
  simp only [decide_eq_true_eq] at he
  exact Bool.false_ne_true ((h e he.2).symm.trans he.1)

theorem listedByte_listByte_same (t : SMap Byte) (a : Nat) (v : Byte) : listedByte (listByte t a v) a = some v := by
  rw [listedByte, listByte, List.find?_append, find?_filter_none (by intro e he; simp [he])]
  simp

theorem listedByte_listByte_other (t : SMap Byte) {a b : Nat} (v : Byte) (h : b ≠ a) : listedByte (listByte t a v) b = listedByte t b := by
  rw [listedByte, listByte, List.find?_append, List.find?_cons_of_neg (by simpa using h.symm)]
  rcases Nat.lt_or_gt_of_ne h with hlt | hgt
  · rw [find?_filter_of (by intro e he; simp [he, hlt]), find?_filter_none (by intro e he; simp [he]; omega), Option.or_none]
    rfl
  · rw [find?_filter_none (by intro e he; simp [he]; omega), find?_filter_of (by intro e he; simp [he]; omega), Option.none_or]
    rfl

/-- Steps over a range that each change one place of their own: a place reads what its step left. -/
theorem read_foldl_range {α β : Type} (read : α → Nat → β) (step : α → Nat → α) (off : Nat) (v : Nat → β) (hsame : ∀ t i, read (step t i) (off + i) = v i)
    (hother : ∀ t i b, b ≠ off + i → read (step t i) b = read t b) (t : α) {n i : Nat} (hi : i < n) : read ((List.range n).foldl step t) (off + i) = v i := by
  induction n with
  | zero => exact absurd hi (Nat.not_lt_zero i)
  | succ n ih =>
    rw [List.range_succ, List.foldl_append, List.foldl_cons, List.foldl_nil]
    rcases Nat.lt_succ_iff_lt_or_eq.1 hi with hlt | rfl
    · rw [hother _ _ _ (by omega), ih hlt]
    · exact hsame _ _

/-- The map of a blob's bytes with a run of them changed. -/
def runPut (off : Nat) (bs : List Byte) (t : SMap Byte) : SMap Byte := (List.range bs.length).foldl (fun t i => smPut 0 t (off + i) (bs.getD i 0)) t

/-- The list of a blob's bytes that differ from its default, with a run of them changed. -/
def runList (off : Nat) (bs : List Byte) (t : SMap Byte) : SMap Byte := (List.range bs.length).foldl (fun t i => listByte t (off + i) (bs.getD i 0)) t

theorem smGet_runPut (off : Nat) (bs : List Byte) (t : SMap Byte) {i : Nat} (hi : i < bs.length) : smGet 0 (runPut off bs t) (off + i) = bs.getD i 0 :=
  read_foldl_range (fun t a => smGet 0 t a) (fun t i => smPut 0 t (off + i) (bs.getD i 0)) off (fun i => bs.getD i 0) (fun t i => smGet_smPut_same 0 t (off + i) (bs.getD i 0))
    (fun t _ _ hb => smGet_smPut_other 0 t _ hb) t hi

theorem listedByte_runList (off : Nat) (bs : List Byte) (t : SMap Byte) {i : Nat} (hi : i < bs.length) : listedByte (runList off bs t) (off + i) = some (bs.getD i 0) :=
  read_foldl_range listedByte (fun t i => listByte t (off + i) (bs.getD i 0)) off (fun i => some (bs.getD i 0)) (fun t i => listedByte_listByte_same t (off + i) (bs.getD i 0))
    (fun t _ _ hb => listedByte_listByte_other t _ hb) t hi

theorem listedByte_map (off : Nat) (f : Nat → Byte) {n i : Nat} (hi : i < n) : listedByte ((List.range n).map fun j => (off + j, f j)) (off + i) = some (f i) := by
  induction n with
  | zero => exact absurd hi (Nat.not_lt_zero i)
  | succ n ih =>
    rw [listedByte, List.range_succ, List.map_append, List.find?_append, List.map_cons, List.map_nil]
    rcases Nat.lt_succ_iff_lt_or_eq.1 hi with hlt | rfl
    · obtain ⟨e, he, hv⟩ := Option.map_eq_some_iff.1 (ih hlt)
      rw [he, Option.some_or]
      exact congrArg some hv
    · rw [List.find?_eq_none.2 (by simp; omega)]
      simp

/-- A byte of a value, of a blob that no fuses hold. -/
theorem byteIn_of {s : State} {die key off : Nat} (hrepair : key ≠ Ob.sram_repair) (htrim : key ≠ Ob.trim_set) :
    (∀ m, s.byteIn die (.blob true m) key off = smGet 0 m off) ∧ (∀ m b, listedByte m off = some b → s.byteIn die (.blob false m) key off = b) := by
  refine ⟨fun m => ?_, fun m b hb => ?_⟩
  · simp [State.byteIn, hrepair, htrim]
  · obtain ⟨e, he, rfl⟩ := Option.map_eq_some_iff.1 hb
    simp [State.byteIn, hrepair, htrim, he]

theorem val_putBlob (s : State) (die key : Nat) (v : Value) : (s.putBlob die key v).val die key = v := smGet_smPut_same Value.dflt s.objs (fullKey die key) v

/-- A blob changed in place sets that object alone, and reads the bytes changed. -/
theorem patchBlob_puts (s : State) (die : Nat) {key : Nat} (off : Nat) (bs : List Byte) (hrepair : key ≠ Ob.sram_repair) (htrim : key ≠ Ob.trim_set) : ∃ v, s.patchBlob die key off bs = s.putBlob die key v ∧
    ∀ (x : State) i, i < bs.length → x.byteIn die v key (off + i) = bs.getD i 0 := by
  have hdense : ∀ (t : SMap Byte) (x : State) i, i < bs.length → x.byteIn die (.blob true (runPut off bs t)) key (off + i) = bs.getD i 0 := fun t x i hi => by
    rw [(byteIn_of hrepair htrim).1, smGet_runPut off bs t hi]
  have hlist : ∀ (t : SMap Byte) (x : State) i, i < bs.length → listedByte t (off + i) = some (bs.getD i 0) → x.byteIn die (.blob false t) key (off + i) = bs.getD i 0 := fun t x i _ ht =>
    (byteIn_of hrepair htrim).2 t _ ht
  unfold State.patchBlob
  cases s.val die key with
  | blob full t =>
    cases full with
    | true => exact ⟨_, rfl, hdense t⟩
    | false => exact ⟨_, rfl, fun x i hi => hlist _ x i hi (listedByte_runList off bs t hi)⟩
  | _ =>
    dsimp only
    split
    · exact ⟨_, rfl, hdense []⟩
    · exact ⟨_, rfl, fun x i hi => hlist _ x i hi (listedByte_map off (fun i => bs.getD i 0) hi)⟩

/-- A patch sets corr_set_records alone, whose record reads its 48 bytes. -/
theorem patchRecord_puts (s : State) (die : Nat) {bs : List Byte} (h : bs.length = 52) : ∃ v, s.patchRecord die bs = s.putBlob die Ob.corr_set_records v ∧
    ∀ x : State, x.val die Ob.corr_set_records = v → x.blobBytes die Ob.corr_set_records (48 * leAt bs 0 4) 48 = (bs.drop 4).take 48 := by
  have hlen : ((bs.drop 4).take 48).length = 48 := by rw [List.length_take, List.length_drop, h]; rfl
  obtain ⟨v, hput, hread⟩ := patchBlob_puts s die (48 * leAt bs 0 4) ((bs.drop 4).take 48) (key := Ob.corr_set_records) (by decide) (by decide)
  refine ⟨v, hput, fun x hv => ?_⟩
  subst hv
  refine List.ext_getElem (by simp [State.blobBytes, hlen]) fun i hi hi2 => ?_
  simp only [State.blobBytes, List.getElem_map, List.getElem_range, State.blobByte]
  rw [hread x i hi2, List.getD_eq_getElem _ _ hi2]

end Sys2Proof.Proofs
end

section
/-! What corr_patch and a frame boundary do to the patches of a die (R290, R397). -/

namespace Sys2Proof.Proofs

open Sys2Proof.Machine Sys2Proof.Laws Sys2Proof.Claims

/-! The bytes of a patch -/

/-- Every value listed in a map that is well formed is another than its default. -/
theorem smWf_listed {α : Type} [DecidableEq α] {d : α} {m : SMap α} : ∀ {lo : Nat}, smWf d lo m = true → ∀ e ∈ m, e.2 ≠ d := by
  induction m with
  | nil => intro _ _ e he; cases he
  | cons x t ih =>
    intro lo h e he
    simp only [smWf, Bool.and_eq_true, decide_eq_true_eq] at h
    obtain ⟨⟨-, hx⟩, ht⟩ := h
    rcases List.mem_cons.1 he with rfl | he
    · exact hx
    · exact ih ht e he

/-- Every bit of a corr_patch is defined. -/
theorem blobMasked_patch {buf : SMap Byte} (h : smWf 0 0 buf = true) : blobMasked Ob.corr_patch buf = buf := by
  have hmask : ∀ off, blobMask Ob.corr_patch off = 0xFF := fun off => rfl
  have hall (v : Byte) : v &&& 0xFF = v := BitVec.and_allOnes
  have hmap : (buf.map fun e => (e.1, e.2 &&& blobMask Ob.corr_patch e.1)) = buf := by simp only [hmask, hall, List.map_id']
  rw [blobMasked, hmap]
  exact List.filter_eq_self.2 fun e he => by simpa using smWf_listed h e he

theorem smRun_eq_map {α : Type} (d : α) (m : SMap α) (n : Nat) : ∀ a, smRun d m a n = (List.range n).map fun i => smGet d m (a + i) := by
  induction n with
  | zero => intro a; rfl
  | succ n ih =>
    intro a
    rw [smRun, ih, List.range_succ_eq_map, List.map_cons, List.map_map]
    simp [Function.comp_def, Nat.add_assoc, Nat.add_comm 1]

/-- A run stored reads back. -/
theorem smRun_smPutAll {α : Type} [DecidableEq α] (d : α) (m : SMap α) (a : Nat) (vs : List α) : smRun d (smPutAll d m a vs) a vs.length = vs := by
  rw [smRun_eq_map]
  refine List.ext_getElem (by simp) fun i _ hi => ?_
  rw [List.getElem_map, List.getElem_range, smGet_smPutAll_run d vs m a hi, List.getD_eq_getElem _ _ hi]

/-! corr_patch -/

/-- The transfer that a whole corr_patch leaves, taken to its end. -/
def patchXfer (a : State) (payload : List Byte) : Xfer :=
  { fill := min 52 (max 0 (0 + payload.length)), buf := smPutAll 0 [] 0 (payload.take (52 - 0)), holder := none, lastAt := a.now, openX := !true }

/-- The part with the bytes of a corr_patch come. -/
def patchCame (a : State) (die : Nat) (payload : List Byte) : State := a.setXfer (fullKey die Ob.corr_patch) (patchXfer a payload)

/-- A whole corr_patch that no other session holds up is handed on with its bytes. -/
theorem segment_patch {a : State} {session die : Nat} {d : ObjDef} {payload : List Byte} (hacc : d.acc = .wo) (hthere : a.absent die Ob.corr_patch = false)
    (hfree : (a.xfer (fullKey die Ob.corr_patch)).holder = none) (hlen : payload.length = 52) (hroom : (a.tdie die).patches.length < 64) :
    a.segment session die Ob.corr_patch d 0 payload true = (((patchCame a die payload).corrPatch die payload).1, 0, (patchXfer a payload).fill) := by
  have himage : Ob.corr_patch ≠ Ob.upd_image := by decide
  have hsize : a.blobSize Ob.corr_patch = 52 := rfl
  have hwf : smWf (0 : Byte) 0 (smPutAll 0 [] 0 payload) = true := smWf_smPutAll 0 payload [] 0 rfl
  have hrun : smRun 0 (smPutAll 0 [] 0 payload) 0 52 = payload := hlen ▸ smRun_smPutAll 0 [] 0 payload
  have htake : payload.take (52 - 0) = payload := List.take_of_length_le (by omega)
  have hdone : (patchCame a die payload).blobDone die Ob.corr_patch d (smPutAll 0 [] 0 (payload.take (52 - 0))) = ((patchCame a die payload).corrPatch die payload).1 := by
    have habs : (patchCame a die payload).absent die Ob.corr_patch = false := hthere
    simp only [State.blobDone, habs, hacc, Bool.false_eq_true, if_false]
    rw [htake, blobMasked_patch hwf, hrun]
  simp only [State.segment, hfree, Option.any_none, Bool.false_eq_true, if_false, himage, hacc, Nat.not_le.2 hroom, Nat.not_lt_zero, decide_false, Bool.and_false, Bool.false_and, hsize, if_true, reduceCtorEq, ← hdone]
  rfl

theorem segment_patch_full {a : State} {session die : Nat} {d : ObjDef} {payload : List Byte} (hfree : (a.xfer (fullKey die Ob.corr_patch)).holder = none)
    (hfull : 64 ≤ (a.tdie die).patches.length) : a.segment session die Ob.corr_patch d 0 payload true = (a, 3, 0) := by
  have himage : Ob.corr_patch ≠ Ob.upd_image := by decide
  simp only [State.segment, hfree, Option.any_none, Bool.false_eq_true, if_false, himage, hfull, decide_true, Bool.true_and, if_true]

/-- A WRITE of corr_patch to a die that answers is one whole segment of it. -/
theorem exec_corrPatch {s : State} {m : Msg} {d : ObjDef} (h : Served s 0x02 m) (hf : (s.arrived m).found m = some d) (hgood : badWrite m = false) (hkey : m.key = Ob.corr_patch) (hacc : d.acc = .wo)
    (hblob : d.ty = .blob) (hper : d.perDie = true) (hdie : m.die ≠ 15) (hup : (s.arrived m).answers m.die = true) :
    exec (.corrPatch m) s = .next (((s.arrived m).segment m.session m.die Ob.corr_patch d 0 m.payload true).1.answer 0x02 m
      ((s.arrived m).segment m.session m.die Ob.corr_patch d 0 m.payload true).2.1 d.ty.code []) := by
  have hlock : (s.arrived m).locked d m = false := by
    simp [State.locked, State.lockedOn, hacc, hkey]
  have hin : (s.arrived m).writeIn m = (((s.arrived m).segment m.session m.die Ob.corr_patch d 0 m.payload true).1, ((s.arrived m).segment m.session m.die Ob.corr_patch d 0 m.payload true).2.1, []) := by
    simp only [State.writeIn, hgood, hf, hacc, hblob, hper, hdie, hlock, homeDie, hup, hkey, Bool.false_and, Bool.true_and, Bool.false_eq_true, if_false, if_true, decide_false, Bool.not_true, Bool.or_self,
      reduceCtorEq]
  have hty : replyTy 0x02 m = d.ty.code := by
    simp [replyTy, objDef_of_found hf]
  refine congrArg Host.Outcome.next ((corrixFor_of (by simp [hkey])).trans ?_)
  rw [serve_served h (by decide), afterReply_other _ (by rw [hkey]; decide), hty]
  simp [State.serveOp, hin]

/-- The part with one patch more in the queue of a die. -/
def patchWaits (a : State) (die : Nat) (payload : List Byte) : State := (patchCame a die payload).setTdie die fun t => { t with patches := t.patches ++ [((a.layOf die : Int), payload)] }

theorem patchWaits_patches (a : State) (die : Nat) (payload : List Byte) : ((patchWaits a die payload).tdie die).patches = (a.tdie die).patches ++ [((a.layOf die : Int), payload)] :=
  congrArg TileDie.patches (tdie_setTdie_same ..)

/-- A patch of a record that the set has joins a queue that has room, while a schedule is in force. -/
theorem corrPatch_waits {a : State} {die : Nat} {payload : List Byte} (hroom : (a.tdie die).patches.length < 64) (hrec : leAt payload 0 4 < 294912) (hsched : a.scheduled = true) :
    ((patchCame a die payload).corrPatch die payload).1 = (patchWaits a die payload).showPatches die := by
  have hs : (patchCame a die payload).scheduled = true := hsched
  have hr : ¬ 64 ≤ ((patchCame a die payload).tdie die).patches.length := Nat.not_le.2 hroom
  unfold State.corrPatch
  rw [if_neg hr, if_neg (Nat.not_le.2 hrec), hs]
  rfl

/-- While none is in force it is written at once (R397). -/
theorem corrPatch_written {a : State} {die : Nat} {payload : List Byte} (hroom : (a.tdie die).patches.length < 64) (hrec : leAt payload 0 4 < 294912) (hsched : a.scheduled = false) :
    ((patchCame a die payload).corrPatch die payload).1 = ((patchCame a die payload).patchRecord die payload).persist die Ob.corr_set_records := by
  have hs : (patchCame a die payload).scheduled = false := hsched
  have hr : ¬ 64 ≤ ((patchCame a die payload).tdie die).patches.length := Nat.not_le.2 hroom
  unfold State.corrPatch
  rw [if_neg hr, if_neg (Nat.not_le.2 hrec), hs]
  rfl

theorem patchQueued : Claims.patchQueued := by
  intro s a m d h ha hf hgood hkey hacc hblob hper hdie hup hthere hfree hlen hrec
  subst ha
  have hexec := exec_corrPatch h hf hgood hkey hacc hblob hper hdie hup
  rw [hkey] at hthere hfree
  generalize s.arrived m = a at *
  refine ⟨fun hroom hsched => ?_, fun hroom hsched => ?_, fun hfull => ?_⟩
  · rw [segment_patch hacc hthere hfree hlen hroom, corrPatch_waits hroom hrec hsched] at hexec
    have hqueue := patchWaits_patches a m.die m.payload
    refine ⟨_, hexec, hqueue, ?_, objsBut_put (patchWaits a m.die m.payload) m.die Ob.corr_patches_pending _, rfl⟩
    unfold State.showPatches
    rw [nat_put_same, hqueue, List.length_append, List.length_singleton]
    rfl
  · obtain ⟨v, hput, hread⟩ := patchRecord_puts (patchCame a m.die m.payload) m.die hlen
    rw [segment_patch hacc hthere hfree hlen hroom, corrPatch_written hroom hrec hsched, hput] at hexec
    exact ⟨_, hexec, hread _ (val_putBlob _ m.die Ob.corr_set_records v), rfl, rfl⟩
  · rw [hexec, segment_patch_full hfree hfull]

/-! A frame boundary -/

/-- The part with a patch due written, and the queue without it. -/
def patchTaken (s : State) (die : Nat) (b : Int) (v : Value) : State :=
  (s.putBlob die Ob.corr_set_records v).setTdie die fun t =>
    { t with patches := t.patches.filter fun p => !(decide (p.1 ≤ b)), sets := t.sets.drop (t.sets.length - 7) ++ [(b, s.val die Ob.corr_set_records)] }

theorem patchTaken_patches (s : State) (die : Nat) (b : Int) (v : Value) : ((patchTaken s die b v).tdie die).patches = (s.tdie die).patches.filter fun p => !decide (p.1 ≤ b) :=
  congrArg TileDie.patches (tdie_setTdie_same ..)

theorem patchesApply : Claims.patchesApply := by
  intro s die b h hb
  have hnext : ∀ x, s.patchApply die = x → exec (.patchApply die) s = .next x := fun x hx => congrArg Host.Outcome.next ((onDie_upDie h _).trans hx)
  refine ⟨fun at_ bs hdue hlen => ?_, fun hnone => hnext s ?_⟩
  · obtain ⟨v, hput, hread⟩ := patchRecord_puts s die hlen
    have happly : s.patchApply die = ((patchTaken s die b v).showPatches die).persist die Ob.corr_set_records := by
      simp only [State.patchApply, hb, hdue, State.each, List.foldl_cons, List.foldl_nil, hput]
      rfl
    have hval : ((patchTaken s die b v).showPatches die).val die Ob.corr_set_records = v :=
      (smGet_smPut_other Value.dflt _ _ (by simp only [fullKey, Ob.corr_set_records, Ob.corr_patches_pending]; omega)).trans (val_putBlob s die Ob.corr_set_records v)
    refine ⟨_, hnext _ happly, patchTaken_patches s die b v, hread _ hval, fun k hk => ?_, rfl⟩
    rw [not_or] at hk
    exact (smGet_smPut_other Value.dflt _ _ hk.2).trans (smGet_smPut_other Value.dflt _ _ hk.1)
  · simp only [State.patchApply, hb, hnone]
    rfl

end Sys2Proof.Proofs
end

section
/-! A line unit begins to shift, and its shift ends (R305, R312-R316, R324). -/

namespace Sys2Proof.Proofs

open Sys2Proof.Machine Sys2Proof.Laws Sys2Proof.Claims

/-! A crossing beside the tile's state and what has been put out -/

/-- A state with another tile and other things put out. -/
def besideTile (s : State) (p : TileSt) (o : List Output) : State := { s with tile := p, sent := o }

theorem besideTile_raise (s : State) (p : TileSt) (o : List Output) (die key i : Nat) {x : Nat} (h : reportOf key i = none) :
    (besideTile s p o).raise die key i x = besideTile (s.raise die key i x) p o := by
  unfold State.raise
  rw [h]
  by_cases hon : s.on die key i = true
  · rw [if_pos hon, if_pos (show (besideTile s p o).on die key i = true from hon)]
  · rw [if_neg hon, if_neg (show ¬ (besideTile s p o).on die key i = true from hon)]
    rfl

theorem besideTile_bump (s : State) (p : TileSt) (o : List Output) (die key n : Nat) : (besideTile s p o).bump die key n = besideTile (s.bump die key n) p o := by
  unfold State.bump
  by_cases hv : s.int die key + n ≤ (objTy key).bounds.2
  · rw [if_pos hv, if_pos (show (besideTile s p o).int die key + n ≤ (objTy key).bounds.2 from hv)]
    rfl
  · rw [if_neg hv, if_neg (show ¬ (besideTile s p o).int die key + n ≤ (objTy key).bounds.2 from hv)]
    split
    · rfl
    · split <;> rfl

theorem besideTile_when (s : State) (p : TileSt) (o : List Output) (b : Bool) {f : State → State} (h : f (besideTile s p o) = besideTile (f s) p o) :
    (besideTile s p o).when b f = besideTile (s.when b f) p o := by
  cases b
  · rfl
  · exact h

/-- The pulses of some events at one moment, one of which leaves where none is in flight. -/
def crossed (s : State) (die : Nat) (x : Crossing) (n : Nat) : State := s.setXing die x fun k =>
  { k with
    src := if x.counted then grayAdd k.src n else k.src, dst := if x.counted then grayAdd k.src n else k.src,
    freeAt := if decide ((s.xing die x).freeAt ≤ s.now * 1000) then s.now * 1000 + (if s.gated die x.ends.2 then 50000 else 0) + s.crossPs die x else k.freeAt }

/-- The events in excess. -/
def excess (s : State) (die : Nat) (x : Crossing) (n : Nat) : Nat := if decide ((s.xing die x).freeAt ≤ s.now * 1000) then n - 1 else n

theorem crossEvents_open {s : State} {die : Nat} {x : Crossing} {n : Nat} (h : ¬ (decide (n = 0) || s.crossShut die x) = true) : s.crossEvents die x n =
    (crossed s die x n).when (decide (0 < excess s die x n)) fun t => (t.bump die Ob.xing_overruns (excess s die x n)).raise die Ob.clock_flags 3 := if_neg h

/-- A crossing reads nothing of the tile's state. -/
theorem besideTile_crossEvents (s : State) (p : TileSt) (o : List Output) (die : Nat) (x : Crossing) (n : Nat) :
    (besideTile s p o).crossEvents die x n = besideTile (s.crossEvents die x n) p o := by
  by_cases h : (decide (n = 0) || s.crossShut die x) = true
  · unfold State.crossEvents
    rw [if_pos h, if_pos (show (decide (n = 0) || (besideTile s p o).crossShut die x) = true from h)]
  · rw [crossEvents_open h, crossEvents_open (show ¬ (decide (n = 0) || (besideTile s p o).crossShut die x) = true from h)]
    have hs : crossed (besideTile s p o) die x n = besideTile (crossed s die x n) p o := rfl
    have hexcess : excess (besideTile s p o) die x n = excess s die x n := rfl
    rw [hs, hexcess]
    generalize crossed s die x n = t
    generalize excess s die x n = k
    exact besideTile_when t p o _ (f := fun t => (t.bump die Ob.xing_overruns k).raise die Ob.clock_flags 3) ((besideTile_bump t p o die Ob.xing_overruns k).symm ▸ besideTile_raise (t.bump die Ob.xing_overruns k) p o die Ob.clock_flags 3 (x := 0) rfl)

/-! A line unit begins -/

/-- The words of the configuration are put out, and a group keeps them: nothing else changes. -/
theorem configWrite_besideTile (s c : State) (die g : Nat) : ∃ p o, (s.configWrite c die g).1 = besideTile s p o := by
  unfold State.configWrite
  split
  · exact ⟨s.tile, s.sent, rfl⟩
  · exact ⟨_, _, rfl⟩

/-- What a group keeps of the unit that begins to shift, and of the view-frame it is one of. -/
def unitBegun (s c : State) (die g : Nat) (t : Int) (held fresh : Bool) (u : Nat) (x a : GroupSt) : GroupSt :=
  { a with
    shiftAt := some t, again := held, unit := u, busy := true, from_ := max (s.layOf die : Int) x.freeAt + ((s.configWrite c die g).2 * layNs : Nat),
    expect := if fresh then s.rectsExpected die else a.expect, units := if fresh then [] else a.units, ready := if fresh then none else a.ready }

/-- The grey words of a unit that goes out. -/
def shiftOut (s c : State) (f : Half) (die g u : Nat) : Output :=
  .shift die g (u % max 1 (c.grp die g Ob.rg_scan_lines)) (c.latWidth die g 0) (c.lineWords f die g (u % max 1 (c.grp die g Ob.rg_scan_lines)) none fun k => s.outOff die g (10 + k))

theorem shiftBegins : Claims.shiftBegins := by
  intro s a die g h hdie hruns hbusy hstopped ha
  subst ha
  have hnext : ∀ x, s.shiftBegin die g none = x → exec (.shiftLineBegin die g none) s = .next x := fun x hx => congrArg Host.Outcome.next ((onDie_upDie h _).trans hx)
  have hgo : (decide (s.dies ≤ die) || !(s.groupRuns die g) || (s.gst die g).busy || s.groupStopped die g) = false := by simp [hdie, hruns, hbusy, hstopped]
  refine ⟨fun f t held u c htarget hsr hc hused hu htotal hpaced hwritten => ?_, fun hnone => hnext s ?_⟩
  · obtain ⟨p, o, hconfig⟩ := configWrite_besideTile s c die g
    have hbegin : s.shiftBegin die g none = (besideTile (s.crossEvents die (.lampWritten g) 1) p (shiftOut s c f die g u :: o)).setG die g
        (unitBegun s c die g t held (decide ((s.gst die g).shiftAt ≠ some t) || decide ((s.gst die g).again ≠ held)) u (s.gst die g)) := by
      unfold State.shiftBegin
      rw [if_neg (by rw [hgo]; exact Bool.false_ne_true), htarget]
      dsimp -zeta only
      extract_lets x c' fresh u' total line paced w under s2 s3
      have hsr' : (x.sr && x.resume.isNone) = false := by rw [show x.sr = false from hsr]; rfl
      have hu' : u' = u := by simp only [u', fresh, hu, Bool.or_eq_true, decide_eq_true_eq]; rfl
      have hc' : c' = c := hc.symm
      clear_value u' c'
      subst hu' hc'
      have hp : paced = true := by
        simp only [paced]
        rcases hpaced with hf | h0 | ⟨hle, hslot⟩
        · rw [hf, Bool.true_or]
        · simp [h0]
        · have hcond : (decide (x.at_ = t) && decide (x.mode ≠ 4) || held) = true := by simpa using hslot
          rw [if_pos hcond, decide_eq_true hle, Bool.or_true]
      have hstop : (decide (total ≤ u') || !(c'.groupUsed die g) || !(s.lineWritten f die g line) || !paced) = false := by
        rw [hp, hused, decide_eq_false (Nat.not_le.2 htotal), show s.lineWritten f die g line = true from hwritten]
        rfl
      rw [if_neg (by rw [hsr']; exact Bool.false_ne_true), if_neg (by rw [hstop]; exact Bool.false_ne_true)]
      have hs3 : s3 = besideTile s p (shiftOut s c' f die g u' :: o) := by
        have hs2 : s2 = w.1.emit (shiftOut s c' f die g u') := rfl
        rw [show s3 = s2 from rfl, hs2, hconfig]
        rfl
      rw [hs3, besideTile_crossEvents]
      rfl
    refine ⟨_, hnext _ hbegin, ?_⟩
    rw [gst_setG_same]
    exact ⟨rfl, rfl, rfl, rfl, rfl, rfl, rfl⟩
  · unfold State.shiftBegin
    rw [if_neg (by rw [hgo]; exact Bool.false_ne_true), hnone]

/-! A line unit ends -/

/-- The check rectangles compared leave the tile's state. -/
theorem checkRects_tile (s : State) (die g : Nat) (f : Half) : (s.checkRects die g f).tile = s.tile := by
  unfold State.checkRects
  refine each_of (P := fun t => t.tile = s.tile) _ _ (fun n t ht => ?_) rfl
  extract_lets t' mode p crc xy want s1
  split
  · exact ht
  · have hs : s1.tile = t.tile := bump_tile ..
    clear_value want crc s1
    split
    · exact hs.trans ht
    · exact (raise_tile ..).trans ((bump_tile ..).trans (hs.trans ht))

/-- What a group keeps when the unit on its way is done. -/
def unitOver (c : State) (die g : Nat) (at_ done : Int) (x : GroupSt) : GroupSt :=
  { x with
    busy := false, unit := x.unit + 1,
    ready := if c.frameMem die g && decide (x.unit + 1 = c.grp die g Ob.rg_scan_lines) then some (at_, done + (c.cmdNs die g (if c.frameMem die g then 2 else 1) * layNs : Nat)) else x.ready,
    units := if c.frameMem die g then [] else x.units ++ [(x.unit, done + (c.cmdNs die g (if c.frameMem die g then 2 else 1) * layNs : Nat))] }

/-- The part with a unit done, before its check rectangles are compared. -/
def unitDone (s c : State) (die g : Nat) (at_ done : Int) : State := (s.crossEvents die (.lineReady g) 1).setG die g (unitOver c die g at_ done)

/-- A change of a group is what it makes of the group's present state. -/
theorem setG_congr {s : State} {die g : Nat} {f f' : GroupSt → GroupSt} (h : f (s.gst die g) = f' (s.gst die g)) : s.setG die g f = s.setG die g f' :=
  congrArg (fun v => s.setG die g fun _ => v) h

/-- A unit whose end has come is done, and with the last one of a view-frame its check rectangles are compared. -/
theorem shiftDone_due {s c : State} {die g : Nat} {at_ done : Int} (hat : (s.gst die g).shiftAt = some at_) (hc : c = s.cfgFor die at_)
    (hdone : done = (s.gst die g).from_ + (c.unitNs die g * layNs : Nat)) (hgo : (!(s.gst die g).busy || !(s.reachedOn die done)) = false) :
    s.shiftDone die g = match if (s.gst die g).again then none else s.halfOf die at_ with
      | some f => if (s.gst die g).unit + 1 = c.grp die g Ob.rg_scan_lines then (unitDone s c die g at_ done).checkRects die g f else unitDone s c die g at_ done
      | none => unitDone s c die g at_ done := by
  have hcross : (s.crossEvents die (.lineReady g) 1).gst die g = s.gst die g := gst_of_tile (congrArg State.tile (crossEvents_rest ..)) die g
  subst hdone hc
  unfold State.shiftDone
  extract_lets x
  rw [show x.shiftAt = some at_ from hat]
  dsimp -zeta only
  extract_lets c done mem end_ last s1
  rw [if_neg (by rw [hgo]; exact Bool.false_ne_true)]
  have hs1 : s1 = unitDone s c die g at_ done := setG_congr (by rw [hcross]; rfl)
  rw [hs1] <;> rfl

theorem shiftCompletes : Claims.shiftCompletes := by
  intro s a c die g at_ done h hat hc hdone ha
  subst ha
  have hnext : ∀ x, s.shiftDone die g = x → exec (.shiftComplete die g) s = .next x := fun x hx => congrArg Host.Outcome.next ((onDie_upDie h _).trans hx)
  refine ⟨fun hbusy hreached => ?_, fun hwait => hnext s ?_⟩
  · have hgo : (!(s.gst die g).busy || !(s.reachedOn die done)) = false := by simp [hbusy, hreached]
    have hcross : (s.crossEvents die (.lineReady g) 1).gst die g = s.gst die g := gst_of_tile (congrArg State.tile (crossEvents_rest ..)) die g
    have hsame := shiftDone_due hat hc hdone hgo
    have htile : (s.shiftDone die g).tile = (unitDone s c die g at_ done).tile := by
      rw [hsame]
      split
      · split
        · exact checkRects_tile ..
        · rfl
      · rfl
    have hgst : (s.shiftDone die g).gst die g = unitOver c die g at_ done (s.gst die g) := by
      rw [gst_of_tile htile, unitDone, gst_setG_same, hcross]
    refine ⟨_, hnext _ rfl, ?_⟩
    rw [hgst]
    refine ⟨rfl, rfl, fun hmem => ⟨if_pos hmem, fun hlast => ?_⟩, fun hdirect => ⟨?_, ?_⟩, fun hmore => ⟨?_, ?_⟩⟩
    · simp [unitOver, hmem, hlast]
    · simp [unitOver, hdirect]
    · simp [unitOver, hdirect]
    · simp [unitOver, hmore]
    · rw [hsame]
      split
      · rw [if_neg hmore]
        rfl
      · rfl
  · have hgo : (!(s.gst die g).busy || !(s.reachedOn die done)) = true := by rcases hwait with hw | hw <;> simp [hw]
    subst hdone hc
    unfold State.shiftDone
    extract_lets x
    rw [show x.shiftAt = some at_ from hat]
    exact if_pos hgo

/-- Settles O30. -/
theorem patchesAndShiftsProceed : Obligations.PatchesAndShiftsProceed := ⟨patchQueued, patchesApply, shiftBegins, shiftCompletes⟩

end Sys2Proof.Proofs
end

section
/-! A lane that loses its signal (R125, R137). -/

namespace Sys2Proof.Proofs

open Sys2Proof.Machine Sys2Proof.Laws Sys2Proof.Claims

/-! The receive step of a lane -/

/-- Every lane receives as it did. -/
structure RxStays (s t : State) : Prop where
  rx : ∀ d l, l < 8 → t.rx d l = s.rx d l

theorem rxStays_refl (s : State) : RxStays s s := ⟨fun _ _ _ => rfl⟩

theorem rxStays_trans {s t u : State} (h : RxStays s t) (k : RxStays t u) : RxStays s u := ⟨fun d l hl => (k.rx d l hl).trans (h.rx d l hl)⟩

theorem rxStays_of_objs {s t : State} (h : t.objs = s.objs) : RxStays s t := ⟨fun d l _ => by simp only [State.rx, nat_of_objs h]⟩

/-- Is a place of the dictionary that of a lane's state? -/
def statePlace (k : Nat) : Prop := Ob.lane_state ≤ k ∧ k < Ob.lane_state + 8

theorem rxStays_of_objsBut {s t : State} {p : Nat → Prop} (h : ObjsBut s t p) (hp : ∀ d l, l < 8 → ¬ p (fullKey d (Ob.lane_state + l))) : RxStays s t :=
  ⟨fun d l hl => by simp only [State.rx, objsBut_nat h (hp d l hl)]⟩

theorem rxStays_put (s : State) (die key : Nat) (v : Int) (h : ¬ statePlace key := by unfold statePlace; decide) (hk : key < 16777216 := by decide) : RxStays s (s.put die key v) :=
  rxStays_of_objsBut (objsBut_put s die key v) fun d l hl => fullKey_ne (fun heq => h (by rw [← heq]; exact ⟨Nat.le_add_right _ _, Nat.add_lt_add_left hl _⟩)) (by simp only [Ob.lane_state]; omega) hk

theorem rxStays_bump (s : State) (die key n : Nat) (h : ¬ statePlace key := by unfold statePlace; decide) (hk : key < 16777216 := by decide) : RxStays s (s.bump die key n) :=
  rxStays_of_objsBut (bump_objs s die key n) fun d l hl => fullKey_ne (fun heq => h (by rw [← heq]; exact ⟨Nat.le_add_right _ _, Nat.add_lt_add_left hl _⟩)) (by simp only [Ob.lane_state]; omega) hk

/-- The steps of a lane, transmit and receive, in its lane_state. -/
theorem stateBits_tx (n v : Nat) : bits (n / 64 * 64 + v % 4 * 16 + n % 16) 3 0 = bits n 3 0 ∧ bits (n / 64 * 64 + v % 4 * 16 + n % 16) 5 4 = v % 4 := by
  simp only [bits, Nat.shiftRight_eq_div_pow]
  omega

theorem stateBits_rx (n v : Nat) : bits (n / 16 * 16 + v % 16) 3 0 = v % 16 ∧ bits (n / 16 * 16 + v % 16) 5 4 = bits n 5 4 := by
  simp only [bits, Nat.shiftRight_eq_div_pow]
  omega

theorem setTx_objs (s : State) (die lane v : Nat) :
    (s.setTx die lane v).objs = (s.put die (Ob.lane_state + lane) (s.nat die (Ob.lane_state + lane) / 64 * 64 + v % 4 * 16 + s.nat die (Ob.lane_state + lane) % 16 : Nat)).objs := by
  unfold State.setTx State.when
  dsimp only
  split <;> rfl

/-- A change of its transmitter leaves the receive step of a lane. -/
theorem rxStays_setTx (s : State) (die lane v : Nat) (hl : lane < 16) : RxStays s (s.setTx die lane v) := by
  refine ⟨fun d l hl' => ?_⟩
  have hlt : Ob.lane_state + l < 16777216 ∧ Ob.lane_state + lane < 16777216 := by simp only [Ob.lane_state]; omega
  simp only [State.rx, nat_of_objs (setTx_objs s die lane v)]
  by_cases hk : fullKey d (Ob.lane_state + l) = fullKey die (Ob.lane_state + lane)
  · obtain ⟨rfl, hkey⟩ := fullKey_inj hlt.1 hlt.2 hk
    obtain rfl : l = lane := Nat.add_left_cancel hkey
    rw [nat_put_same, Int.toNat_natCast, (stateBits_tx _ v).1]
  · rw [nat_put_other _ _ _ _ _ _ hk]

theorem tx_setTx (s : State) (die lane v : Nat) : (s.setTx die lane v).tx die lane = v % 4 := by
  rw [State.tx, nat_of_objs (setTx_objs s die lane v), nat_put_same, Int.toNat_natCast, (stateBits_tx _ v).2]

theorem rx_setRx (s : State) (die lane v : Nat) (hl : lane < 8) (hv : v < 16) : (s.setRx die lane v).rx die lane = v := by
  have hput : (s.put die (Ob.lane_state + lane) ((s.nat die (Ob.lane_state + lane) / 16 * 16 + v % 16 : Nat) : Int)).rx die lane = v := by
    rw [State.rx, nat_put_same, Int.toNat_natCast, (stateBits_rx _ v).1, Nat.mod_eq_of_lt hv]
  have hpeer : ∀ (t : State) (w : Int), (t.put die (Ob.lane_peer + lane) w).rx die lane = t.rx die lane := fun t w =>
    (rxStays_put t die _ w (by unfold statePlace; simp only [Ob.lane_peer, Ob.lane_state]; omega) (by simp only [Ob.lane_peer]; omega)).rx die lane hl
  unfold State.setRx
  extract_lets k s1 s2
  split
  · exact hput
  · have htwo : s2.rx die lane = v := (hpeer s1 _).trans hput
    split
    · exact htwo
    · exact htwo

theorem rxStays_wakeTx (s : State) (die q : Nat) : RxStays s (s.wakeTx die (q % 16)) := by
  unfold State.wakeTx
  extract_lets s1 s2
  have hone : RxStays s s2 := rxStays_trans (rxStays_put s die (Ob.lane_sleep + q % 16) _ (by unfold statePlace; simp only [Ob.lane_sleep, Ob.lane_state]; omega) (by simp only [Ob.lane_sleep]; omega)) (rxStays_of_objs rfl)
  split
  · exact rxStays_trans hone (rxStays_setTx _ _ _ _ (Nat.mod_lt _ (by decide)))
  · exact hone

theorem rxStays_autoWake (s : State) (q : Nat) : RxStays s (s.autoWake q) := by
  have hclock : RxStays s (s.wakeClock q) := by
    unfold State.wakeClock
    extract_lets
    split
    · exact rxStays_of_objs rfl
    · exact rxStays_refl _
  unfold State.autoWake
  extract_lets t
  split
  · refine rxStays_trans hclock (rxStays_trans ?_ (rxStays_wakeTx _ _ _))
    exact rxStays_of_objs rfl
  · exact hclock

theorem rxStays_queueFwd (s : State) (q : Nat) (c : Cell) : RxStays s (s.queueFwd q c) := by
  have hdrop : RxStays s (s.bumpPort q Ob.fwd_drops) :=
    rxStays_bump _ _ _ _ (by unfold statePlace; simp only [atPort, Ob.fwd_drops, Ob.lane_state]; omega) (by simp only [atPort, Ob.fwd_drops]; omega)
  unfold State.queueFwd
  split
  · exact hdrop
  · split
    · refine rxStays_trans ?_ (rxStays_autoWake _ _)
      exact rxStays_of_objs rfl
    · split
      · exact hdrop
      · refine rxStays_trans ?_ (rxStays_autoWake _ _)
        exact rxStays_of_objs rfl

theorem rxStays_deliverKnot (s : State) (k : Knot) : RxStays s (s.deliverKnot k) := by
  unfold State.deliverKnot
  extract_lets before s1 s2 s3
  have htwo : RxStays s s2 := rxStays_trans (t := s1) (rxStays_of_objs rfl) (when_of s1 _ _ (rxStays_refl s1) (rxStays_of_objs rfl))
  have hthree : RxStays s s3 := rxStays_trans htwo (rxStays_bump s2 0 Ob.event_seq 1)
  refine rxStays_trans hthree (rxStays_trans (t := { s3 with knotHold := s3.knotHold || 2 ≤ k.severity }) (rxStays_of_objs rfl) ?_)
  unfold State.driveFault
  split
  · exact rxStays_refl _
  · exact rxStays_of_objs rfl

theorem rxStays_sendKnot (s : State) (k : Knot) : RxStays s (s.sendKnot k).1 := by
  unfold State.sendKnot
  split
  · exact rxStays_deliverKnot _ _
  · split
    · exact rxStays_queueFwd _ _ _
    · exact rxStays_refl _

theorem rxStays_insertKnot (s : State) (k : Knot) : RxStays s (s.insertKnot k) := by
  unfold State.insertKnot
  split
  · exact rxStays_of_objs rfl
  · split
    · next old rest _ =>
      split
      · refine rxStays_trans (rxStays_sendKnot s old) ?_
        dsimp only
        split
        · exact rxStays_trans (rxStays_bump _ 0 Ob.knot_evictions 1) (rxStays_of_objs rfl)
        · exact rxStays_trans (rxStays_bump _ 0 Ob.knot_undelivered 1) (rxStays_of_objs rfl)
      · exact rxStays_of_objs rfl
    · exact rxStays_of_objs rfl

theorem rxStays_enterKnot (s : State) (k : Knot) : RxStays s (s.enterKnot k) := by
  unfold State.enterKnot
  split
  · exact rxStays_trans (rxStays_sendKnot _ _) (rxStays_bump _ _ _ _)
  · exact rxStays_insertKnot _ _

/-- A flag raised, with its report, leaves what every lane receives. -/
theorem rxStays_raise (s : State) (die key i x : Nat) (h : ¬ statePlace key) (hk : key < 16777216) : RxStays s (s.raise die key i x) := by
  have hmark : RxStays s (s.markFlag die key i) := rxStays_put _ _ _ _ h hk
  unfold State.raise
  split
  · exact rxStays_refl _
  · split
    · refine rxStays_trans hmark ?_
      exact rxStays_enterKnot _ _
    · exact hmark

/-! Signal lost -/

/-- The service of ports leaves what lanes receive. -/
theorem rxStays_refreshLane (s : State) (die lane : Nat) : RxStays s (s.refreshLane die lane) :=
  rxStays_of_objsBut (lanesMoved_refreshPort s _).objs fun d l hl =>
    not_serviceKey (by simp only [servicePlace, Ob.lane_state, Ob.boot_ms, Ob.fwd_flags, Ob.lane_maps, Ob.fwd_drops]; omega) (by simp only [Ob.lane_state]; omega)

theorem flagsKey_place {lane : Nat} (hl : lane < 8) : ¬ servicePlace (Ob.lane_flags + lane) ∧ ¬ reportPlaces (Ob.lane_flags + lane) ∧ ¬ statePlace (Ob.lane_flags + lane) ∧ Ob.lane_flags + lane < 16777216 := by
  simp only [servicePlace, reportPlaces, statePlace, Ob.lane_state, Ob.lane_flags, Ob.boot_ms, Ob.fwd_flags, Ob.lane_maps, Ob.fwd_drops, Ob.event_seq, Ob.knot_late, Ob.knot_evictions, Ob.knot_undelivered,
    Ob.lane_sleep]
  omega

/-- The service of ports leaves the flags of a lane. -/
theorem flags_refreshLane (s : State) (die l : Nat) {lane : Nat} (hl : lane < 8) : (s.refreshLane die l).nat die (Ob.lane_flags + lane) = s.nat die (Ob.lane_flags + lane) :=
  objsBut_nat (lanesMoved_refreshPort s _).objs (not_serviceKey (flagsKey_place hl).1 (flagsKey_place hl).2.2.2)

theorem signalLoses : Claims.signalLoses := by
  intro s die lane ns h hl htest hlow hhigh
  obtain ⟨hup, hhawser, hon⟩ := h
  have hnext : ∀ x, s.signalLost die lane ns = x → exec (.signalLost die lane ns) s = .next x := fun x hx => congrArg Host.Outcome.next ((onDie_upDie hup _).trans hx)
  obtain ⟨hservice, hreport, hstate, hlt⟩ := flagsKey_place hl
  have hgo : 1000 ≤ ns → (!s.hawserLane die lane || !s.on die (Ob.lane_enable + lane) || decide (ns < 1000) || s.testing die lane || decide (s.rx die lane = 0) || decide (s.rx die lane = 1) ||
      decide (s.rx die lane = 7)) = false := fun hns => by
    simp only [hhawser, hon, htest, Bool.not_true, Bool.false_or, Bool.or_false, Bool.or_eq_false_iff, decide_eq_false_iff_not]
    omega
  refine ⟨fun hns hann => ?_, fun hns hann => ?_, fun hns => hnext s ?_⟩
  · have hlost : s.signalLost die lane ns = ((s.setLane die lane fun l => { l with cands := [], retained := true, missed := 0, clean := 0 }).setRx die lane 7).refreshLane die lane := by
      unfold State.signalLost
      extract_lets r s1
      rw [if_neg (by rw [hgo hns]; exact Bool.false_ne_true), if_pos hann]
    have hmoved := lanesMoved_trans (lanesMoved_setRx (s.setLane die lane fun l => { l with cands := [], retained := true, missed := 0, clean := 0 }) die lane 7) (lanesMoved_refreshLane _ die lane lane)
    refine ⟨_, hnext _ hlost, (rxStays_refreshLane _ die lane).rx die lane hl |>.trans (rx_setRx _ die lane 7 hl (by decide)), ?_, ?_⟩
    · exact (congrArg State.sent hmoved.rest :)
    · rw [flags_refreshLane _ _ _ hl]
      refine objsBut_nat (lanesMoved_setRx _ die lane 7).objs ?_
      rintro (hk | hk | hk)
      · exact fullKey_ne (by simp only [Ob.lane_flags, Ob.lane_state]; omega) hlt (by simp only [Ob.lane_state]; omega) hk
      · exact fullKey_ne (by simp only [Ob.lane_flags, Ob.lane_peer]; omega) hlt (by simp only [Ob.lane_peer]; omega) hk
      · exact not_serviceKey hservice hlt hk
  · have hlost : s.signalLost die lane ns = (((s.setLane die lane fun l => { l with cands := [], retained := true, missed := 0, clean := 0 }).setRx die lane 1).raise die (Ob.lane_flags + lane) 6 lane).refreshLane
        die lane := by
      unfold State.signalLost
      extract_lets r s1
      rw [if_neg (by rw [hgo hns]; exact Bool.false_ne_true), if_neg (by rw [hann]; exact Bool.false_ne_true)]
    refine ⟨_, hnext _ hlost, ?_, ?_⟩
    · exact ((rxStays_refreshLane _ die lane).rx die lane hl).trans (((rxStays_raise _ die _ 6 lane hstate hlt).rx die lane hl).trans (rx_setRx _ die lane 1 hl (by decide)))
    · rw [State.on, flags_refreshLane _ _ _ hl]
      exact raise_on _ die _ 6 lane (not_reportKey_full hreport hlt)
  · unfold State.signalLost
    exact if_pos (by simp [hns])

end Sys2Proof.Proofs
end

section
/-! The marker that a transmitting lane puts out (R120, R129, R134, R137). -/

namespace Sys2Proof.Proofs

open Sys2Proof.Machine Sys2Proof.Laws Sys2Proof.Claims

/-! What a marker leaves of its lane -/

/-- What has been put out, and what a lane keeps of the marker that it sent, as they were. -/
structure SendKept (die lane : Nat) (s t : State) : Prop where
  sent   : t.sent = s.sent
  seq    : (t.lane die lane).sentSeq = (s.lane die lane).sentSeq
  preset : (t.lane die lane).preset = (s.lane die lane).preset

theorem sendKept_refl (die lane : Nat) (s : State) : SendKept die lane s s := ⟨rfl, rfl, rfl⟩

theorem sendKept_trans {die lane : Nat} {s t u : State} (h : SendKept die lane s t) (k : SendKept die lane t u) : SendKept die lane s u :=
  ⟨k.sent.trans h.sent, k.seq.trans h.seq, k.preset.trans h.preset⟩

theorem sendKept_of {die lane : Nat} {s t : State} (hsent : t.sent = s.sent) (hlanes : t.lanes = s.lanes) : SendKept die lane s t :=
  ⟨hsent, by simp only [State.lane, hlanes], by simp only [State.lane, hlanes]⟩

theorem sendKept_setLane (die lane : Nat) (s : State) (d l : Nat) (f : LaneSt → LaneSt) (h : ∀ x, (f x).sentSeq = x.sentSeq ∧ (f x).preset = x.preset) : SendKept die lane s (s.setLane d l f) := by
  by_cases hk : laneKey die lane = laneKey d l
  · have hlane : (s.setLane d l f).lane die lane = f (s.lane die lane) := by
      rw [State.lane, State.setLane, hk]
      refine (smGet_smPut_same ..).trans (congrArg f ?_)
      rw [State.lane, State.lane, hk]
    exact ⟨rfl, by rw [hlane, (h _).1], by rw [hlane, (h _).2]⟩
  · have hlane : (s.setLane d l f).lane die lane = s.lane die lane := smGet_smPut_other _ _ _ hk
    exact ⟨rfl, by rw [hlane], by rw [hlane]⟩

/-! The service of a port -/

/-- A port's service leaves what a lane keeps, what it transmits, what has been put out, and has no cell wait. -/
structure ServiceKept (s t : State) : Prop where
  sent  : t.sent = s.sent
  lanes : ∀ d l, { t.lane d l with buf := (s.lane d l).buf } = s.lane d l
  queue : ∀ p, s.queued p = false → t.queued p = false

theorem serviceKept_refl (s : State) : ServiceKept s s := ⟨rfl, fun _ _ => rfl, fun _ h => h⟩

theorem serviceKept_trans {s t u : State} (h : ServiceKept s t) (k : ServiceKept t u) : ServiceKept s u where
  sent := k.sent.trans h.sent
  lanes d l := by rw [← h.lanes d l, ← k.lanes d l]
  queue p hp := k.queue p (h.queue p hp)

theorem serviceKept_of {s t : State} (hsent : t.sent = s.sent) (hlanes : t.lanes = s.lanes) (hports : t.ports = s.ports) : ServiceKept s t where
  sent := hsent
  lanes d l := by simp only [State.lane, hlanes]
  queue p hp := by rwa [State.queued, State.port, hports]

theorem serviceKept_setPort (s : State) (q : Nat) (f : PortSt → PortSt) (h : (s.port q).own = [] → (s.port q).ready = [] → (s.port q).fwd = [] → (f (s.port q)).own = [] ∧ (f (s.port q)).ready = [] ∧ (f (s.port q)).fwd = []) :
    ServiceKept s (s.setPort q f) where
  sent := rfl
  lanes _ _ := rfl
  queue p hp := by
    by_cases hq : p = q
    · subst hq
      simp only [State.queued, Bool.not_eq_false', Bool.and_eq_true, List.isEmpty_iff] at hp ⊢
      rw [State.port, State.setPort, smGet_smPut_same]
      obtain ⟨ho, hr, hf⟩ := h hp.1.1 hp.1.2 hp.2
      exact ⟨⟨ho, hr⟩, hf⟩
    · rwa [State.queued, State.port, State.setPort, smGet_smPut_other _ _ _ hq]

theorem serviceKept_each {α : Type} (l : List α) (f : α → State → State) (hf : ∀ a s, ServiceKept s (f a s)) (s : State) : ServiceKept s (s.each l f) :=
  each_of (P := ServiceKept s) l f (fun a t ht => serviceKept_trans ht (hf a t)) (serviceKept_refl s)

theorem serviceKept_chooseDown (s : State) : ServiceKept s s.chooseDown := by
  unfold State.chooseDown
  split
  · exact serviceKept_refl s
  · split
    · exact serviceKept_of rfl rfl rfl
    · exact serviceKept_refl s

theorem serviceKept_setLaneBuf (s : State) (die lane : Nat) (b : List (Nat × Nat × Block)) : ServiceKept s (s.setLane die lane fun t => { t with buf := b }) where
  sent := rfl
  lanes d l := by
    by_cases hk : laneKey d l = laneKey die lane
    · have hlane : (s.setLane die lane fun t => { t with buf := b }).lane d l = { s.lane d l with buf := b } := by
        rw [State.lane, State.setLane, hk]
        refine (smGet_smPut_same ..).trans ?_
        simp only [State.lane, hk]
      rw [hlane]
    · have hlane : (s.setLane die lane fun t => { t with buf := b }).lane d l = s.lane d l := smGet_smPut_other _ _ _ hk
      rw [hlane]
  queue _ hp := hp

theorem serviceKept_portDown (s : State) (p : Nat) : ServiceKept s (s.portDown p) := by
  unfold State.portDown
  extract_lets t fwd sent lays
  refine serviceKept_trans (serviceKept_trans ?_ (serviceKept_of (bump_sent ..) (bump_lanes ..) (bump_ports ..))) (serviceKept_chooseDown _)
  refine serviceKept_setPort s p _ fun ho hr hf => ⟨ho, hr, ?_⟩
  show (if s.wakes p then (s.port p).fwd else []) = []
  rw [hf, ite_self]

theorem serviceKept_portUp (s : State) (p : Nat) : ServiceKept s (s.portUp p) := by
  unfold State.portUp
  extract_lets s1 s2
  have hstep : ServiceKept s (s.bootStep 6) := by
    unfold State.bootStep
    split
    · exact serviceKept_refl s
    · exact serviceKept_of rfl rfl rfl
  have hone : ServiceKept s s1 := serviceKept_trans hstep (serviceKept_setPort _ p _ fun ho hr hf => ⟨ho, hr, hf⟩)
  have htwo : ServiceKept s1 s2 := by
    refine serviceKept_each _ _ (fun l t => ?_) s1
    exact serviceKept_trans (t := t.setLane (p / 16) l fun t => { t with buf := [] }) (serviceKept_setLaneBuf t (p / 16) l []) (serviceKept_of rfl rfl rfl)
  refine serviceKept_trans (serviceKept_trans hone htwo) (serviceKept_trans ?_ (serviceKept_chooseDown _))
  split
  · split
    · exact serviceKept_of rfl rfl rfl
    · exact serviceKept_refl _
  · exact serviceKept_refl _

theorem serviceKept_showMaps (s : State) (p : Nat) : ServiceKept s (s.showMaps p) := serviceKept_of rfl rfl rfl

theorem serviceKept_refreshPort (s : State) (p : Nat) : ServiceKept s (s.refreshPort p) := by
  unfold State.refreshPort
  split
  · exact serviceKept_refl s
  · extract_lets t reported ok
    have hmap : ServiceKept s t := by
      show ServiceKept s (s.sleepMap p)
      unfold State.sleepMap
      split
      · exact serviceKept_setPort s p _ fun ho hr hf => ⟨ho, hr, hf⟩
      · exact serviceKept_refl s
    have hserve : ServiceKept t (if (t.port p).inService then (if ok then t else t.portDown p) else (if ok then t.portUp p else t)) := by
      split
      · split
        · exact serviceKept_refl t
        · exact serviceKept_portDown t p
      · split
        · exact serviceKept_portUp t p
        · exact serviceKept_refl t
    exact serviceKept_trans hmap (serviceKept_trans hserve (serviceKept_showMaps _ p))

theorem sendKept_of_service {s t : State} (h : ServiceKept s t) (die lane : Nat) : SendKept die lane s t :=
  ⟨h.sent, (congrArg LaneSt.sentSeq (h.lanes die lane) :), (congrArg LaneSt.preset (h.lanes die lane) :)⟩

/-! Its steps -/

theorem sendKept_autoWake (s : State) (q die lane : Nat) : SendKept die lane s (s.autoWake q) := by
  have hclock : SendKept die lane s (s.wakeClock q) := by
    unfold State.wakeClock
    extract_lets
    split
    · exact sendKept_of rfl rfl
    · exact sendKept_refl die lane s
  have hwake : ∀ t : State, SendKept die lane t (t.wakeTx (q / 16) (q % 16)) := fun t => by
    unfold State.wakeTx
    extract_lets s1 s2
    have htwo : SendKept die lane t s2 := sendKept_trans (t := s1) (sendKept_of rfl rfl) (sendKept_setLane die lane s1 _ _ _ fun _ => ⟨rfl, rfl⟩)
    split
    · exact sendKept_trans htwo (sendKept_of rfl rfl)
    · exact htwo
  unfold State.autoWake
  extract_lets t
  split
  · refine sendKept_trans (sendKept_trans hclock ?_) (hwake _)
    exact sendKept_of rfl rfl
  · exact hclock

/-! The states of lanes -/

/-- An object other than the lane_state of any lane. -/
def besideStates (k : Nat) : Prop := ∀ d l, l < 8 → k ≠ fullKey d (Ob.lane_state + l)

theorem besideStates_of {die key : Nat} (h : ¬ statePlace key) (hk : key < 16777216) : besideStates (fullKey die key) := fun _ l hl =>
  fullKey_ne (fun heq => h (by rw [heq]; exact ⟨Nat.le_add_right _ _, Nat.add_lt_add_left hl _⟩)) hk (by simp only [Ob.lane_state]; omega)

theorem tx_stays {s t : State} (h : ObjsBut s t besideStates) {die lane : Nat} (hl : lane < 8) : t.tx die lane = s.tx die lane := by
  rw [State.tx, State.tx, objsBut_nat h fun hk => hk die lane hl rfl]

theorem besideStates_service {k : Nat} (h : serviceKey k) : besideStates k := by
  obtain ⟨d, j, hj, rfl⟩ := h
  refine besideStates_of (fun hs => ?_) (servicePlace_lt hj)
  simp only [statePlace, servicePlace, Ob.lane_state, Ob.boot_ms, Ob.fwd_flags, Ob.lane_maps, Ob.fwd_drops] at hs hj
  omega

/-- A port whose next cycle of markers begins. -/
def cycled (s : State) (p : Nat) (t : PortSt) : PortSt := { t with cycle := (t.cycle + 1) % 65536, txMap := t.txMapNext.headD (s.txWanted p), txMapNext := [s.txWanted p] }

theorem nextCycle_eq (s : State) (p : Nat) : s.nextCycle p = (s.setPort p (cycled s p)).showMaps p := rfl

/-- A cycle begun leaves the lane and what it transmits, no cell more waits, and of the objects lane_maps alone changes. -/
structure CycleEntered (die lane : Nat) (s a : State) : Prop where
  kept   : SendKept die lane s a
  ann    : (a.lane die lane).annLeft = (s.lane die lane).annLeft
  queue  : ∀ p, s.queued p = false → a.queued p = false
  objs   : ObjsBut s a fun k => ∃ p, k = fullKey (p / 16) (atPort Ob.lane_maps p)

theorem enterCycle_enters (s : State) (die lane : Nat) : CycleEntered die lane s (s.enterCycle die lane) := by
  unfold State.enterCycle
  extract_lets p
  split
  · have hport : ServiceKept s (s.setPort p (cycled s p)) := serviceKept_setPort s p (cycled s p) fun ho hr hf => ⟨ho, hr, hf⟩
    have hobjs : ObjsBut s (s.setPort p (cycled s p)) fun k => ∃ p, k = fullKey (p / 16) (atPort Ob.lane_maps p) := objsBut_of_eq rfl
    rw [nextCycle_eq]
    generalize s.setPort p (cycled s p) = t at hport hobjs
    have hkept := serviceKept_trans hport (serviceKept_showMaps t p)
    exact ⟨sendKept_of_service hkept die lane, (congrArg LaneSt.annLeft (hkept.lanes die lane) :), hkept.queue,
      objsBut_trans hobjs (objsBut_mono (objsBut_put t (p / 16) (atPort Ob.lane_maps p) _) fun _ hk => ⟨p, hk⟩)⟩
  · exact ⟨sendKept_refl die lane s, rfl, fun _ h => h, objsBut_refl _ _⟩

/-- A marker taken leaves what its lane keeps of the marker sent, the ports and the states of lanes. -/
structure MarkerKept (die lane : Nat) (s t : State) : Prop where
  kept  : SendKept die lane s t
  ann   : (t.lane die lane).annLeft = (s.lane die lane).annLeft
  ports : t.ports = s.ports
  objs  : ObjsBut s t besideStates

theorem markerKept_refl (die lane : Nat) (s : State) : MarkerKept die lane s s := ⟨sendKept_refl die lane s, rfl, rfl, objsBut_refl _ _⟩

theorem markerKept_trans {die lane : Nat} {s t u : State} (h : MarkerKept die lane s t) (k : MarkerKept die lane t u) : MarkerKept die lane s u :=
  ⟨sendKept_trans h.kept k.kept, k.ann.trans h.ann, k.ports.trans h.ports, objsBut_trans h.objs k.objs⟩

theorem markerKept_put (die lane : Nat) (s : State) (d key : Nat) (v : Int) (h : ¬ statePlace key) (hk : key < 16777216) : MarkerKept die lane s (s.put d key v) :=
  ⟨sendKept_of rfl rfl, rfl, rfl, objsBut_mono (p := fun k => k = fullKey d key) (objsBut_put s d key v) fun _ he => he ▸ besideStates_of h hk⟩

theorem markerKept_bump (die lane : Nat) (s : State) (d key n : Nat) (h : ¬ statePlace key) (hk : key < 16777216) : MarkerKept die lane s (s.bump d key n) :=
  ⟨sendKept_of (bump_sent ..) (bump_lanes ..), by rw [State.lane, bump_lanes, State.lane], bump_ports .., objsBut_mono (p := fun k => k = fullKey d key) (bump_objs s d key n) fun _ he => he ▸ besideStates_of h hk⟩

theorem lane_setLane_same (s : State) (die lane : Nat) (f : LaneSt → LaneSt) : (s.setLane die lane f).lane die lane = f (s.lane die lane) := smGet_smPut_same ..

theorem markerKept_setLane (die lane : Nat) (s : State) (f : LaneSt → LaneSt) (h : ∀ x, (f x).sentSeq = x.sentSeq ∧ (f x).preset = x.preset) (hann : ∀ x, (f x).annLeft = x.annLeft) :
    MarkerKept die lane s (s.setLane die lane f) := ⟨sendKept_setLane die lane s die lane f h, by rw [lane_setLane_same, hann], rfl, objsBut_of_eq rfl⟩

/-- The marker that a lane in a near-end loop receives is its own. -/
theorem markerKept_selfMarker (s : State) (die lane : Nat) (k : Marker) (hl : lane < 8) : MarkerKept die lane s (s.selfMarker die lane k) := by
  unfold State.selfMarker
  split
  · next htest =>
    simp only [Bool.and_eq_true, decide_eq_true_eq] at htest
    unfold State.markerTaken State.feLoopSeen
    extract_lets wrong s1 s2 mine s3
    rw [if_pos htest.1]
    have hone : MarkerKept die lane s s1 :=
      markerKept_trans (markerKept_put die lane s die (Ob.lane_peer + lane) _ (by simp only [statePlace, Ob.lane_peer, Ob.lane_state]; omega) (by simp only [Ob.lane_peer]; omega))
        (markerKept_bump die lane _ die (Ob.lane_bip_errors + lane) wrong (by simp only [statePlace, Ob.lane_bip_errors, Ob.lane_state]; omega) (by simp only [Ob.lane_bip_errors]; omega))
    have htwo : MarkerKept die lane s1 s2 := markerKept_setLane die lane s1 _ (fun _ => ⟨rfl, rfl⟩) fun _ => rfl
    have hthree : MarkerKept die lane s2 s3 := markerKept_setLane die lane s2 _ (fun _ => ⟨rfl, rfl⟩) fun _ => rfl
    exact markerKept_trans (markerKept_trans hone htwo) hthree
  · exact markerKept_refl die lane s

/-! The marker leaves -/

/-- The part with a marker put out. -/
def markerOut (a : State) (die lane : Nat) : State :=
  ((a.emit (.marker die lane (markerBytes (a.markerOut die lane)))).applyPreset die lane).setLane die lane fun l => { l with sentSeq := some (a.markerOut die lane).seq, bip := 0, annLeft := l.annLeft - 1 }

theorem markerOut_lane (a : State) (die lane : Nat) : ((markerOut a die lane).lane die lane).sentSeq = some (a.port (a.portOf die lane)).cycle ∧
    ((markerOut a die lane).lane die lane).preset = a.nat die (Ob.lane_tx_preset + lane) ∧ ((markerOut a die lane).lane die lane).annLeft = (a.lane die lane).annLeft - 1 := by
  unfold markerOut State.applyPreset
  rw [lane_setLane_same, lane_setLane_same]
  exact ⟨rfl, rfl, rfl⟩

/-- The group of a lane is as lane_group_cfg has it. -/
theorem portOf_of_group {s t : State} {die lane : Nat} (h : t.nat die Ob.lane_group_cfg = s.nat die Ob.lane_group_cfg) : t.portOf die lane = s.portOf die lane := by
  simp only [State.portOf, State.groupBase, State.groupSize, h]

/-- A change of its transmitter leaves what a lane keeps, and what waits. -/
theorem serviceKept_setTx (s : State) (die lane v : Nat) : ServiceKept s (s.setTx die lane v) := by
  unfold State.setTx State.when
  extract_lets k n
  split <;> exact serviceKept_of rfl rfl rfl

/-- The part with the marker put out that a lane in a near-end loop has received. -/
def markerSeen (a : State) (die lane : Nat) : State := (markerOut a die lane).selfMarker die lane (a.markerOut die lane)

/-- The part whose lane has put out its last announcing marker. -/
def laneQuiet (a : State) (die lane : Nat) : State := ((markerSeen a die lane).setTx die lane 2).refreshPort ((markerOut a die lane).portOf die lane)

theorem laneQuiet_serves (a : State) (die lane : Nat) : ServiceKept (markerSeen a die lane) (laneQuiet a die lane) := serviceKept_trans (serviceKept_setTx _ _ _ _) (serviceKept_refreshPort _ _)

theorem markerSend_eq {s a : State} {die lane : Nat} (hhawser : s.hawserLane die lane = true) (htx : s.tx die lane = 1) (hloop : (s.lane die lane).feLoop = false) (ha : a = s.enterCycle die lane) :
    s.markerSend die lane = if (s.lane die lane).annLeft = 1 then
      (laneQuiet a die lane).when ((laneQuiet a die lane).queued ((markerOut a die lane).portOf die lane)) fun s => s.autoWake ((markerOut a die lane).portOf die lane)
      else markerSeen a die lane := by
  have hgo : (!s.hawserLane die lane || decide (s.tx die lane ≠ 1) || (s.lane die lane).feLoop) = false := by simp [hhawser, htx, hloop]
  subst ha
  unfold State.markerSend
  exact if_neg (by rw [hgo]; exact Bool.false_ne_true)

theorem markerSend_keeps {s a : State} {die lane : Nat} (hl : lane < 8) (hhawser : s.hawserLane die lane = true) (htx : s.tx die lane = 1) (hloop : (s.lane die lane).feLoop = false)
    (ha : a = s.enterCycle die lane) : SendKept die lane (markerOut a die lane) (s.markerSend die lane) := by
  have hseen : SendKept die lane (markerOut a die lane) (markerSeen a die lane) := (markerKept_selfMarker _ die lane _ hl).kept
  have hquiet : SendKept die lane (markerOut a die lane) (laneQuiet a die lane) := sendKept_trans hseen (sendKept_of_service (laneQuiet_serves a die lane) die lane)
  rw [markerSend_eq hhawser htx hloop ha]
  split
  · exact sendKept_trans hquiet (when_of (laneQuiet a die lane) _ _ (sendKept_refl die lane _) (sendKept_autoWake _ _ die lane))
  · exact hseen

/-- Once its marker has left, the swing code of the lane moves in its slot (R464). -/
theorem markerLeaves_eq {s : State} {die lane : Nat} {o : Output} (hl : lane < 8) (hsent : (s.markerSend die lane).sent = o :: s.sent) :
    s.markerLeaves die lane = (s.markerSend die lane).trimStep die lane 4 := by
  unfold State.markerLeaves
  extract_lets s1
  refine if_pos ?_
  rw [show s1.sent = o :: s.sent from hsent]
  simp [hl]

theorem markerKept_trimStep (s : State) (die lane n : Nat) (hl : lane < 8) : MarkerKept die lane s (s.trimStep die lane n) :=
  markerKept_put die lane s die (Ob.trim_code + lane) _ (by simp only [statePlace, Ob.trim_code, Ob.lane_state]; omega) (by simp only [Ob.trim_code]; omega)

theorem markerLeaves : Claims.markerLeaves := by
  intro s a die lane h hl hhawser htx hloop ha
  have hcycle := enterCycle_enters s die lane
  rw [← ha] at hcycle
  have hmaps : ∀ j, j < 16777216 → ¬ (Ob.lane_maps ≤ j ∧ j < Ob.lane_maps + 16) → a.nat die j = s.nat die j := fun j hj hne => by
    refine objsBut_nat hcycle.objs ?_
    rintro ⟨p, hp⟩
    obtain ⟨-, rfl⟩ := fullKey_inj hj (by simp only [atPort, Ob.lane_maps]; omega) hp
    exact hne (by simp only [atPort]; omega)
  have hstates : ObjsBut s a besideStates := objsBut_mono hcycle.objs fun _ ⟨p, hp⟩ => hp ▸ besideStates_of (by simp only [statePlace, atPort, Ob.lane_maps, Ob.lane_state]; omega) (by simp only [atPort, Ob.lane_maps]; omega)
  have hkept := markerSend_keeps hl hhawser htx hloop ha
  have hseen : MarkerKept die lane (markerOut a die lane) (markerSeen a die lane) := markerKept_selfMarker _ die lane _ hl
  have hport : (markerOut a die lane).portOf die lane = s.portOf die lane := portOf_of_group (hmaps Ob.lane_group_cfg (by decide) (by decide))
  obtain ⟨hseq, hpreset, hann⟩ := markerOut_lane a die lane
  have hsent : (s.markerSend die lane).sent = .marker die lane (markerBytes (a.markerOut die lane)) :: s.sent := hkept.sent.trans (congrArg _ hcycle.kept.sent)
  have htrim := markerKept_trimStep (s.markerSend die lane) die lane 4 hl
  rw [show a.portOf die lane = s.portOf die lane from hport] at hseq
  have hannLeft : ((markerSeen a die lane).lane die lane).annLeft = (s.lane die lane).annLeft - 1 := by rw [hseen.ann, hann, hcycle.ann]
  have hsend := markerSend_eq hhawser htx hloop ha
  refine ⟨_, congrArg Host.Outcome.next ((onDie_upDie h _).trans (markerLeaves_eq hl hsent)), htrim.kept.sent.trans hsent, ?_, ?_, fun hmore => ?_, fun hlast hquiet => ?_⟩
  · rw [htrim.kept.seq, hkept.seq, hseq]
  · rw [htrim.kept.preset, hkept.preset, hpreset]
    exact hmaps _ (by simp only [Ob.lane_tx_preset]; omega) (by simp only [Ob.lane_tx_preset, Ob.lane_maps]; omega)
  · rw [if_neg hmore] at hsend
    have htxs : (markerSeen a die lane).tx die lane = 1 := ((tx_stays hseen.objs hl).trans (tx_stays hstates hl)).trans htx
    rw [tx_stays htrim.objs hl, htrim.ann, hsend]
    exact ⟨htxs, hannLeft⟩
  · rw [if_pos hlast] at hsend
    have hwait : (markerSeen a die lane).queued (s.portOf die lane) = false := by
      rw [State.queued, State.port, hseen.ports]
      exact hcycle.queue _ hquiet
    have hqueue : (laneQuiet a die lane).queued ((markerOut a die lane).portOf die lane) = false := by
      rw [hport]
      exact (laneQuiet_serves a die lane).queue _ hwait
    have htxs : (laneQuiet a die lane).tx die lane = 2 := (tx_stays (objsBut_mono (lanesMoved_refreshPort _ _).objs fun _ hk => besideStates_service hk) hl).trans (tx_setTx _ die lane 2)
    have hsame : ((laneQuiet a die lane).lane die lane).annLeft = ((markerSeen a die lane).lane die lane).annLeft := (congrArg LaneSt.annLeft ((laneQuiet_serves a die lane).lanes die lane) :)
    have hnone : ((laneQuiet a die lane).lane die lane).annLeft = 0 := by rw [hsame, hannLeft, hlast]
    rw [hqueue] at hsend
    rw [tx_stays htrim.objs hl, htrim.ann, hsend]
    exact ⟨htxs, hnone⟩

/-- Settles O15. -/
theorem markersLeaveAndSignalsAreLost : Obligations.MarkersLeaveAndSignalsAreLost := ⟨markerLeaves, signalLoses⟩

end Sys2Proof.Proofs
end

section
/-! The lane pair of a die: its mode changed, its link up, its frames (R142, R143, Table 4.7). -/

namespace Sys2Proof.Proofs

open Sys2Proof.Machine Sys2Proof.Laws Sys2Proof.Claims

/-! What the pair moves -/

/-- The objects that show the lanes of the pair, its link, and the service of ports. -/
def pairShown (die k : Nat) : Prop := (∃ l, (l = 6 ∨ l = 7) ∧ (k = fullKey die (Ob.lane_state + l) ∨ k = fullKey die (Ob.lane_peer + l))) ∨ k = fullKey die Ob.eth_link_state ∨ serviceKey k

/-- The places of the dictionary of those objects. -/
def pairPlace (j : Nat) : Prop := (Ob.lane_state + 6 ≤ j ∧ j ≤ Ob.lane_state + 7) ∨ (Ob.lane_peer + 6 ≤ j ∧ j ≤ Ob.lane_peer + 7) ∨ j = Ob.eth_link_state ∨ servicePlace j

theorem not_pairShown {die d key : Nat} (h : ¬ pairPlace key) (hk : key < 16777216) : ¬ pairShown die (fullKey d key) := by
  simp only [pairPlace, not_or] at h
  obtain ⟨hstate, hpeer, hlink, hservice⟩ := h
  rintro (⟨l, hl, hs | hp⟩ | he | hv)
  · exact fullKey_ne (by simp only [Ob.lane_state] at hstate ⊢; omega) hk (by simp only [Ob.lane_state]; omega) hs
  · exact fullKey_ne (by simp only [Ob.lane_peer] at hpeer ⊢; omega) hk (by simp only [Ob.lane_peer]; omega) hp
  · exact fullKey_ne hlink hk (by decide) he
  · exact not_serviceKey hservice hk hv

/-- The settings of the pair as they were. -/
structure PairSet (die : Nat) (s t : State) : Prop where
  fuses  : t.fuses = s.fuses
  mode   : t.nat die Ob.lane_pair_mode = s.nat die Ob.lane_pair_mode
  pll    : t.nat die Ob.refclk_active = s.nat die Ob.refclk_active
  an     : t.nat die Ob.eth_an_enable = s.nat die Ob.eth_an_enable
  enable : ∀ l, l < 8 → t.nat die (Ob.lane_enable + l) = s.nat die (Ob.lane_enable + l)
  sleep  : ∀ l, l < 8 → t.nat die (Ob.lane_sleep + l) = s.nat die (Ob.lane_sleep + l)
  loop   : ∀ l, l < 8 → t.nat die (Ob.lane_loop + l) = s.nat die (Ob.lane_loop + l)
  prbs   : ∀ l, l < 8 → t.nat die (Ob.prbs_gen + l) = s.nat die (Ob.prbs_gen + l)

theorem pairSet_of {die : Nat} {s t : State} (h : LanesMoved (pairShown die) s t) : PairSet die s t := by
  have hkeep : ∀ key, key < 16777216 → ¬ pairPlace key → t.nat die key = s.nat die key := fun key hk hp => objsBut_nat h.objs (not_pairShown hp hk)
  refine ⟨(congrArg State.fuses h.rest :), hkeep _ (by decide) ?_, hkeep _ (by decide) ?_, hkeep _ (by decide) ?_, fun l hl => hkeep _ ?_ ?_, fun l hl => hkeep _ ?_ ?_, fun l hl => hkeep _ ?_ ?_,
    fun l hl => hkeep _ ?_ ?_⟩ <;>
    simp only [pairPlace, servicePlace, Ob.lane_state, Ob.lane_peer, Ob.eth_link_state, Ob.boot_ms, Ob.fwd_flags, Ob.lane_maps, Ob.fwd_drops, Ob.lane_pair_mode, Ob.refclk_active, Ob.eth_an_enable,
      Ob.lane_enable, Ob.lane_sleep, Ob.lane_loop, Ob.prbs_gen] <;> omega

theorem underTest_pairSet {die : Nat} {s t : State} (h : PairSet die s t) {l : Nat} (hl : l < 8) : t.underTest die l = s.underTest die l := by
  have hhawser : t.hawserLane die l = s.hawserLane die l := by
    unfold State.hawserLane State.ethMode State.dies State.laneCount State.big
    rw [h.fuses, h.mode]
  unfold State.underTest
  rw [hhawser, h.loop l hl, h.prbs l hl]

theorem rxBegin_pairSet {die : Nat} {s t : State} (h : PairSet die s t) {l : Nat} (hl : l < 8) : t.rxBegin die l = s.rxBegin die l := by
  unfold State.rxBegin State.on
  rw [underTest_pairSet h hl, h.sleep l hl]

theorem on_enable_pairSet {die : Nat} {s t : State} (h : PairSet die s t) {l : Nat} (hl : l < 8) : t.on die (Ob.lane_enable + l) = s.on die (Ob.lane_enable + l) := by
  simp only [State.on, h.enable l hl]

theorem ethReady_pairSet {die : Nat} {s t : State} (h : PairSet die s t) : t.ethReady die = s.ethReady die := by
  simp only [State.ethReady, State.lanePll, h.pll, List.all_cons, List.all_nil, on_enable_pairSet h (l := 6) (by decide), on_enable_pairSet h (l := 7) (by decide),
    underTest_pairSet h (l := 6) (by decide), underTest_pairSet h (l := 7) (by decide)]

/-! The mode changed -/

/-- A lane of the pair begins anew, its peer unknown. -/
def laneAnew (die l : Nat) (s : State) : State :=
  ((s.put die (Ob.lane_state + l) (if s.on die (Ob.lane_enable + l) then s.rxBegin die l else 0)).put die (Ob.lane_peer + l) 0).setLane die l fun t =>
    { preset := s.nat die (Ob.lane_tx_preset + l), ffe := s.nat die (Ob.lane_tx_ffe + l), sentSeq := t.sentSeq, scr := t.scr }

theorem laneAnew_moves (s : State) (die : Nat) {l : Nat} (hl : l = 6 ∨ l = 7) : LanesMoved (pairShown die) s (laneAnew die l s) :=
  lanesMoved_trans (lanesMoved_put s die _ _ (.inl ⟨l, hl, .inl rfl⟩)) (lanesMoved_trans (lanesMoved_put _ die _ _ (.inl ⟨l, hl, .inr rfl⟩)) (lanesMoved_setLane _ _ _ _ _))

theorem laneAnew_shows (s : State) (die : Nat) {l : Nat} (hl : l < 8) : (laneAnew die l s).nat die (Ob.lane_peer + l) = 0 ∧
    (laneAnew die l s).nat die (Ob.lane_state + l) = if s.on die (Ob.lane_enable + l) then s.rxBegin die l else 0 := by
  have hne : fullKey die (Ob.lane_state + l) ≠ fullKey die (Ob.lane_peer + l) :=
    fullKey_ne (by simp only [Ob.lane_state, Ob.lane_peer]; omega) (by simp only [Ob.lane_state]; omega) (by simp only [Ob.lane_peer]; omega)
  refine ⟨nat_put_same _ die (Ob.lane_peer + l) 0, (nat_put_other _ _ _ _ _ _ hne).trans ((nat_put_same ..).trans ?_)⟩
  split <;> rfl

/-- The lanes of the pair that has dropped. -/
def pairAnew (die : Nat) (s : State) : State := laneAnew die 7 (laneAnew die 6 s)

/-- The pair in its new mode. -/
def pairStarts (s : State) (die : Nat) : State := if s.nat die Ob.lane_pair_mode = 0 then (pairAnew die s).put die Ob.eth_link_state 0 else (pairAnew die s).ethRestart die

theorem pairEffect_moves (s : State) (die old : Nat) (hbig : s.big = true) (hnew : s.nat die Ob.lane_pair_mode ≠ old) : LanesMoved serviceKey (pairStarts s die) (s.pairEffect die old) := by
  have hgo : (!s.big || decide (s.nat die Ob.lane_pair_mode = old)) = false := by simp [hbig, hnew]
  unfold State.pairEffect
  extract_lets new s1 s2 gone cleared
  rw [if_neg (by rw [hgo]; exact Bool.false_ne_true)]
  have hs2 : s2 = pairStarts s die := rfl
  rw [← hs2]
  clear_value s2
  have hgone : LanesMoved serviceKey s2 gone := by
    refine lanesMoved_each _ _ (fun p _ t => ?_) s2
    split
    · exact lanesMoved_portDown t p
    · exact lanesMoved_refl _ t
  have hcleared : LanesMoved serviceKey gone cleared := by
    refine lanesMoved_each _ _ (fun l hl t => ?_) gone
    have hl' : l < 16 := by simp only [List.mem_cons, List.not_mem_nil, or_false] at hl; omega
    exact lanesMoved_trans (t := { t with ports := smPut {} t.ports (laneKey die l) { own := (t.port (laneKey die l)).own, ready := (t.port (laneKey die l)).ready, cycle := (t.port (laneKey die l)).cycle } })
      ⟨objsBut_of_eq rfl, rfl⟩ (lanesMoved_put _ die (Ob.lane_maps + l) 0 ⟨die, _, .inr (.inr (.inl ⟨Nat.le_add_right _ _, Nat.add_lt_add_left hl' _⟩)), rfl⟩)
  exact lanesMoved_trans (lanesMoved_trans hgone hcleared) (lanesMoved_trans (lanesMoved_trans (lanesMoved_refreshPort _ _) (lanesMoved_refreshPort _ _)) (lanesMoved_refreshPort _ _))

theorem laneAnew_other (s : State) (die l k : Nat) (hstate : fullKey die k ≠ fullKey die (Ob.lane_state + l)) (hpeer : fullKey die k ≠ fullKey die (Ob.lane_peer + l)) :
    (laneAnew die l s).nat die k = s.nat die k := (nat_put_other _ _ _ _ _ _ hpeer).trans (nat_put_other _ _ _ _ _ _ hstate)

theorem pairAnew_moves (s : State) (die : Nat) : LanesMoved (pairShown die) s (pairAnew die s) := lanesMoved_trans (laneAnew_moves s die (.inl rfl)) (laneAnew_moves _ die (.inr rfl))

theorem pairAnew_shows (s : State) (die : Nat) {l : Nat} (hl : l = 6 ∨ l = 7) : (pairAnew die s).nat die (Ob.lane_peer + l) = 0 ∧
    (pairAnew die s).nat die (Ob.lane_state + l) = if s.on die (Ob.lane_enable + l) then s.rxBegin die l else 0 := by
  rcases hl with rfl | rfl
  · obtain ⟨hpeer, hstate⟩ := laneAnew_shows s die (l := 6) (by decide)
    exact ⟨(laneAnew_other _ die 7 _ (fullKey_ne (by decide)) (fullKey_ne (by decide))).trans hpeer, (laneAnew_other _ die 7 _ (fullKey_ne (by decide)) (fullKey_ne (by decide))).trans hstate⟩
  · have hset := pairSet_of (laneAnew_moves s die (.inl rfl))
    obtain ⟨hpeer, hstate⟩ := laneAnew_shows (laneAnew die 6 s) die (l := 7) (by decide)
    rw [on_enable_pairSet hset (by decide), rxBegin_pairSet hset (by decide)] at hstate
    exact ⟨hpeer, hstate⟩

/-- Bit 6 of lane_state shows an Ethernet lane. -/
theorem ethLane_bit (s : State) (die l : Nat) : bit (s.ethLane die l) 6 = true := by
  unfold State.ethLane
  split
  · rfl
  · split
    · split <;> rfl
    · rfl

/-- The lanes of the pair in Ethernet mode. -/
def ethLanes (die : Nat) (s : State) : State := s.each [6, 7] fun l s => s.put die (Ob.lane_state + l) (s.ethLane die l : Nat)

theorem ethLanes_moves (s : State) (die : Nat) : LanesMoved (pairShown die) s (ethLanes die s) :=
  lanesMoved_each _ _ (fun l hl t => lanesMoved_put t die _ _ (.inl ⟨l, by simpa using hl, .inl rfl⟩)) s

theorem ethLanes_shows (s : State) (die : Nat) {l : Nat} (hl : l = 6 ∨ l = 7) : (ethLanes die s).nat die (Ob.lane_peer + l) = s.nat die (Ob.lane_peer + l) ∧
    bit ((ethLanes die s).nat die (Ob.lane_state + l)) 6 = true := by
  have hpeer : ∀ j, j = 6 ∨ j = 7 → fullKey die (Ob.lane_peer + l) ≠ fullKey die (Ob.lane_state + j) := fun j hj =>
    fullKey_ne (by simp only [Ob.lane_state, Ob.lane_peer]; omega) (by simp only [Ob.lane_peer]; omega) (by simp only [Ob.lane_state]; omega)
  refine ⟨(nat_put_other _ _ _ _ _ _ (hpeer 7 (.inr rfl))).trans (nat_put_other _ _ _ _ _ _ (hpeer 6 (.inl rfl))), ?_⟩
  rcases hl with rfl | rfl
  · have hkeep : (ethLanes die s).nat die (Ob.lane_state + 6) = s.ethLane die 6 := (nat_put_other _ _ _ _ _ _ (fullKey_ne (by decide))).trans ((nat_put_same ..).trans (Int.toNat_natCast _))
    rw [hkeep, ethLane_bit]
  · have hsame : (ethLanes die s).nat die (Ob.lane_state + 7) = (s.put die (Ob.lane_state + 6) (s.ethLane die 6 : Nat)).ethLane die 7 := (nat_put_same ..).trans (Int.toNat_natCast _)
    rw [hsame, ethLane_bit]

/-- The pair in its new mode: its peers unknown, and what lane_state and eth_link_state show. -/
theorem pairStarts_shows (s : State) (die : Nat) : LanesMoved (pairShown die) s (pairStarts s die) ∧
    (pairStarts s die).nat die Ob.eth_link_state = (if s.nat die Ob.lane_pair_mode = 0 || !(s.ethReady die) then 0 else if s.on die Ob.eth_an_enable then 1 else 2) ∧
    ∀ l, l = 6 ∨ l = 7 → (pairStarts s die).nat die (Ob.lane_peer + l) = 0 ∧
      (s.nat die Ob.lane_pair_mode = 0 → (pairStarts s die).nat die (Ob.lane_state + l) = if s.on die (Ob.lane_enable + l) then s.rxBegin die l else 0) ∧
      (s.nat die Ob.lane_pair_mode ≠ 0 → bit ((pairStarts s die).nat die (Ob.lane_state + l)) 6 = true) := by
  have hanew := pairAnew_moves s die
  have hlink : ∀ (t : State) (v : Int), LanesMoved (pairShown die) t (t.put die Ob.eth_link_state v) := fun t v => lanesMoved_put t die _ v (.inr (.inl rfl))
  have hkeep : ∀ (t : State) (v : Int) (k l : Nat), l = 6 ∨ l = 7 → k = Ob.lane_state ∨ k = Ob.lane_peer → (t.put die Ob.eth_link_state v).nat die (k + l) = t.nat die (k + l) := fun t v k l hl hk =>
    nat_put_other _ _ _ _ _ _ (fullKey_ne (by simp only [Ob.lane_state, Ob.lane_peer, Ob.eth_link_state] at hk ⊢; omega) (by simp only [Ob.lane_state, Ob.lane_peer] at hk; omega) (by decide))
  unfold pairStarts
  by_cases hmode : s.nat die Ob.lane_pair_mode = 0
  · rw [if_pos hmode]
    refine ⟨lanesMoved_trans hanew (hlink _ 0), ?_, fun l hl => ?_⟩
    · simp [hmode]
    · obtain ⟨hpeer, hstate⟩ := pairAnew_shows s die hl
      refine ⟨(hkeep _ _ _ l hl (.inr rfl)).trans hpeer, fun _ => (hkeep _ _ _ l hl (.inl rfl)).trans hstate, fun hne => absurd hmode hne⟩
  · rw [if_neg hmode]
    have hrestart : (pairAnew die s).ethRestart die = (ethLanes die (pairAnew die s)).put die Ob.eth_link_state
        (if !((pairAnew die s).ethReady die) then 0 else if (pairAnew die s).on die Ob.eth_an_enable then 1 else 2) := rfl
    have hmoved := lanesMoved_trans hanew (ethLanes_moves (pairAnew die s) die)
    have hset := pairSet_of hanew
    rw [hrestart]
    refine ⟨lanesMoved_trans hmoved (hlink _ _), ?_, fun l hl => ?_⟩
    · rw [nat_put_same, ethReady_pairSet hset, State.on, hset.an, decide_eq_false hmode, Bool.false_or]
      unfold State.on
      split
      · rfl
      · split <;> rfl
    · obtain ⟨hpeer, hbit⟩ := ethLanes_shows (pairAnew die s) die hl
      refine ⟨(hkeep _ _ _ l hl (.inr rfl)).trans (hpeer.trans (pairAnew_shows s die hl).1), fun h0 => absurd h0 hmode, fun _ => ?_⟩
      rw [hkeep _ _ _ l hl (.inl rfl), hbit]

/-- What the pair shows once lane_pair_mode has changed. -/
theorem pairEffect_shows (t : State) (die old : Nat) (hbig : t.big = true) (hnew : t.nat die Ob.lane_pair_mode ≠ old) (v : Nat) (hv : t.nat die Ob.lane_pair_mode = v) :
    (t.pairEffect die old).nat die Ob.lane_pair_mode = v ∧
    (t.pairEffect die old).nat die Ob.eth_link_state = (if v = 0 || !((t.pairEffect die old).ethReady die) then 0 else if (t.pairEffect die old).on die Ob.eth_an_enable then 1 else 2) ∧
    ∀ l, l = 6 ∨ l = 7 → (t.pairEffect die old).nat die (Ob.lane_peer + l) = 0 ∧
      (v = 0 → (t.pairEffect die old).nat die (Ob.lane_state + l) = if (t.pairEffect die old).on die (Ob.lane_enable + l) then (t.pairEffect die old).rxBegin die l else 0) ∧
      (v ≠ 0 → bit ((t.pairEffect die old).nat die (Ob.lane_state + l)) 6 = true) := by
  obtain ⟨hstart, hlink, hlanes⟩ := pairStarts_shows t die
  have hserve := pairEffect_moves t die old hbig hnew
  have hset := pairSet_of (lanesMoved_trans hstart (lanesMoved_mono hserve fun _ hk => .inr (.inr hk)))
  have hkeep : ∀ key, key < 16777216 → ¬ servicePlace key → (t.pairEffect die old).nat die key = (pairStarts t die).nat die key := fun key hk hp => objsBut_nat hserve.objs (not_serviceKey hp hk)
  have hstate : ∀ k l, l = 6 ∨ l = 7 → k = Ob.lane_state ∨ k = Ob.lane_peer → (t.pairEffect die old).nat die (k + l) = (pairStarts t die).nat die (k + l) := fun k l hl hk => by
    simp only [Ob.lane_state, Ob.lane_peer] at hk
    refine hkeep _ (by omega) ?_
    simp only [servicePlace, Ob.boot_ms, Ob.fwd_flags, Ob.lane_maps, Ob.fwd_drops]
    omega
  subst hv
  refine ⟨hset.mode, ?_, fun l hl => ?_⟩
  · rw [hkeep Ob.eth_link_state (by decide) (by unfold servicePlace; decide), hlink, ethReady_pairSet hset]
    unfold State.on
    rw [hset.an]
  · obtain ⟨hpeer, hoff, hon⟩ := hlanes l hl
    have hl8 : l < 8 := by omega
    rw [hstate _ l hl (.inr rfl), hstate _ l hl (.inl rfl), on_enable_pairSet hset hl8, rxBegin_pairSet hset hl8]
    exact ⟨hpeer, hoff, hon⟩

theorem wrote_pairMode (t : State) (die old : Nat) : t.wrote die Ob.lane_pair_mode old = t.pairEffect die old := rfl

/-- A mode kept for the journal is in force, with DEFERRED and its report where writing is stopped. -/
theorem keptDeferred (a : State) (die v : Nat) : (a.keep die Ob.lane_pair_mode v).noteDeferred.fuses = a.fuses ∧ (a.keep die Ob.lane_pair_mode v).noteDeferred.nat die Ob.lane_pair_mode = v := by
  have hkept : (a.keep die Ob.lane_pair_mode v).nat die Ob.lane_pair_mode = v := (nat_put_same a die Ob.lane_pair_mode v).trans (Int.toNat_natCast v)
  unfold State.noteDeferred
  split
  · exact ⟨raise_fuses .., (raise_nat_other _ 0 0 (fullKey_ne (by decide)) not_reportKey_full).trans hkept⟩
  · exact ⟨rfl, hkept⟩

theorem pairSwitches : Claims.pairSwitches := by
  intro s m d die v h hkey hrwp hv hbig hchange
  have hone : (s.arrived m).writeOne die m.key d (decodeVal d.ty m.payload) =
      ((((s.arrived m).keep die Ob.lane_pair_mode v).noteDeferred).pairEffect die ((s.arrived m).nat die Ob.lane_pair_mode), 0) := by
    have hunit := h.unit
    simp only [State.writeOne, hunit, Bool.false_eq_true, if_false, hrwp, hv]
    rw [hkey, wrote_pairMode]
  obtain ⟨hfuses, hmode⟩ := keptDeferred (s.arrived m) die v
  have hbig' : ((s.arrived m).keep die Ob.lane_pair_mode v).noteDeferred.big = true := by rwa [State.big, hfuses, arrived_fuses]
  have hchange' : ((s.arrived m).keep die Ob.lane_pair_mode v).noteDeferred.nat die Ob.lane_pair_mode ≠ (s.arrived m).nat die Ob.lane_pair_mode := by rw [hmode]; exact hchange.symm
  obtain ⟨hnow, hlink, hlanes⟩ := pairEffect_shows _ die ((s.arrived m).nat die Ob.lane_pair_mode) hbig' hchange' v hmode
  exact ⟨_, congrArg Host.Outcome.next (corrixFor_write_one h (by simp [hkey]) (by rw [hkey]; decide) hone), hnow, hlink, hlanes⟩

/-! The link and its frames -/

theorem ethLinks : Claims.ethLinks := by
  intro s die h hmode hlink
  have hgo : (s.ethMode die && (decide (s.nat die Ob.eth_link_state = 1) || decide (s.nat die Ob.eth_link_state = 2))) = true := by simpa [hmode] using hlink
  exact congrArg Host.Outcome.next ((onDie_upDie h _).trans (if_pos hgo))

theorem ethFrames : Claims.ethFrames := by
  intro s die len tags h hmode hlink
  have hnext : ∀ kind x, s.ethFrame die len tags kind = x → exec (.ethFrameReceive die len tags kind) s = .next x := fun kind x hx => congrArg Host.Outcome.next ((onDie_upDie h _).trans hx)
  refine ⟨fun hmin hmax htags => hnext .good _ ?_, fun hbad => hnext .good _ ?_, hnext .malformed _ ?_, hnext .pause _ ?_⟩
  · simp [State.ethFrame, hmode, hlink, hmin, hmax, htags]
  · have hcount : (decide (EthKind.good = .malformed) || decide (len < 64) || decide (9216 < len) || decide (1 < tags)) = true := by simpa [or_assoc] using hbad
    unfold State.ethFrame
    rw [if_neg (by simp [hmode, hlink]), if_pos hcount]
  · simp [State.ethFrame, hmode, hlink]
  · simp [State.ethFrame]

/-- Settles O19. -/
theorem pairsCarryEthernet : Obligations.PairsCarryEthernet := ⟨pairSwitches, ethLinks, ethFrames⟩

end Sys2Proof.Proofs
end

section
/-! Changes of Lay time at the root: lay_step_accept, lay_time_set and the step itself (R91-R94). -/

namespace Sys2Proof.Proofs

open Sys2Proof.Machine Sys2Proof.Laws Sys2Proof.Claims

/-! The writes that start something of Lay time -/

/-- A 1 written to a write-only flag of one bit. -/
theorem clampRow_flag (dflt : Int) : clampRow (.mask 1) dflt 1 = 1 := rfl

/-- A write to a write-only object of the part starts what it names. -/
theorem writeOne_wo {s : State} {m : Msg} {d : ObjDef} {die : Nat} (h : WritesOne s m d die) (hwo : d.acc = .wo) :
    (s.arrived m).writeOne die m.key d (decodeVal d.ty m.payload) = (s.arrived m).pull die m.key ((s.arrived m).clampVal die m.key d (decodeVal d.ty m.payload)) := by
  have hunit := h.unit
  simp only [State.writeOne, hunit, Bool.false_eq_true, if_false, hwo]

theorem row_lay_step_accept {d : ObjDef} (h : objDef Ob.lay_step_accept = some d) : d.acc = .wo ∧ d.clamp = .mask 1 := by
  have hrow : (objDef Ob.lay_step_accept).map (fun d => (d.acc, d.clamp)) = some (.wo, .mask 1) := by rfl
  rw [h] at hrow
  exact Prod.ext_iff.1 (Option.some.inj hrow)

/-- LAY_STEP_ACCEPT takes what is pending. -/
theorem layStepAccept_exec {s : State} {m : Msg} {d : ObjDef} (h : WritesOne s m d 0) (hkey : m.key = Ob.lay_step_accept) (hone : decodeVal d.ty m.payload = 1) :
    exec (.layStepAccept m) s = .next ((s.arrived m).stepAccept.answer 0x02 m 0 d.ty.code []) := by
  obtain ⟨hwo, hclamp⟩ := row_lay_step_accept (hkey ▸ objDef_of_found h.found)
  have hval : (s.arrived m).clampVal 0 m.key d (decodeVal d.ty m.payload) = 1 := by
    rw [hkey, hone, State.clampVal, hclamp]
    rfl
  refine congrArg Host.Outcome.next (corrixFor_write_one h (by simp [hkey]) (by rw [hkey]; decide) ?_)
  rw [writeOne_wo h hwo, hval, hkey]
  rfl

/-- LAY_TIME_SET schedules a step to the value written. -/
theorem layTimeSet_exec {s : State} {m : Msg} {d : ObjDef} {v : Nat} (h : WritesOne s m d 0) (hkey : m.key = Ob.lay_time_set) (hwo : d.acc = .wo)
    (hv : (s.arrived m).clampVal 0 m.key d (decodeVal d.ty m.payload) = (v : Int)) : exec (.layTimeSet m) s = .next (((s.arrived m).timeSet v).answer 0x02 m 0 d.ty.code []) := by
  refine congrArg Host.Outcome.next (corrixFor_write_one h (by simp [hkey]) (by rw [hkey]; decide) ?_)
  rw [writeOne_wo h hwo, hv, hkey]
  rfl

/-! A step scheduled -/

/-- The second of a step scheduled at a Lay time (R92). -/
def stepSecond (t : Nat) : Nat := (t + 250000000 * layNs + laySec - 1) / laySec * laySec

/-- It is a whole one, at least 250 ms ahead and no further than needed. -/
theorem stepSecond_at (t : Nat) : stepSecond t % laySec = 0 ∧ t + 250000000 * layNs ≤ stepSecond t ∧ stepSecond t < t + 250000000 * layNs + laySec := by
  have hpos : 0 < laySec := by decide
  unfold stepSecond
  generalize t + 250000000 * layNs = a
  generalize laySec = c at hpos
  have hdiv := Nat.div_add_mod (a + c - 1) c
  have hmod := Nat.mod_lt (a + c - 1) hpos
  rw [Nat.mul_comm] at hdiv
  refine ⟨Nat.mul_mod_left _ _, ?_, ?_⟩ <;> omega

/-- A step of an amount announced for a Lay time. -/
def stepAnnounced (s : State) (at_ : Nat) (d : Int) : State := (({ s with lay := { s.lay with step := some (at_, d) } } : State).set Ob.lay_step_at at_).showPending d

theorem scheduleStep_eq (s : State) (d : Int) : s.scheduleStep d = stepAnnounced s (stepSecond s.layNow) d := rfl

theorem showPending_shows (s : State) (d : Int) : (s.showPending d).pw Ob.lay_step_pending_mag = d.natAbs ∧ (s.showPending d).pw Ob.lay_step_pending_neg = (if d < 0 then 1 else 0) ∧
    ObjsBut s (s.showPending d) fun k => k = Ob.lay_step_pending_mag ∨ k = Ob.lay_step_pending_neg := by
  unfold State.showPending
  refine ⟨?_, ?_, objsBut_trans (objsBut_mono (objsBut_set s Ob.lay_step_pending_mag _) fun _ => .inl) (objsBut_mono (objsBut_set _ Ob.lay_step_pending_neg _) fun _ => .inr)⟩
  · rw [pw_set_other _ _ _ _ (by decide), pw_set_same, Int.toNat_natCast]
  · rw [pw_set_same]
    split <;> rfl

theorem stepAnnounced_shows (s : State) (at_ : Nat) (d : Int) : (stepAnnounced s at_ d).pw Ob.lay_step_at = at_ ∧ (stepAnnounced s at_ d).pw Ob.lay_step_pending_mag = d.natAbs ∧
    (stepAnnounced s at_ d).pw Ob.lay_step_pending_neg = (if d < 0 then 1 else 0) ∧
    ObjsBut s (stepAnnounced s at_ d) (fun k => k = Ob.lay_step_at ∨ k = Ob.lay_step_pending_mag ∨ k = Ob.lay_step_pending_neg) := by
  unfold stepAnnounced
  obtain ⟨hmag, hneg, hshown⟩ := showPending_shows (({ s with lay := { s.lay with step := some (at_, d) } } : State).set Ob.lay_step_at at_) d
  have hat : ObjsBut s (({ s with lay := { s.lay with step := some (at_, d) } } : State).set Ob.lay_step_at at_) fun k => k = Ob.lay_step_at := objsBut_trans (objsBut_of_eq rfl) (objsBut_set _ Ob.lay_step_at _)
  refine ⟨?_, hmag, hneg, objsBut_trans (objsBut_mono hat fun _ => .inl) (objsBut_mono hshown fun _ => .inr)⟩
  rw [objsBut_pw hshown (by decide), pw_set_same, Int.toNat_natCast]

theorem stepAnnounced_set {s : State} {at_ : Nat} (d : Int) (hwhole : at_ % laySec = 0) (hfar : s.layNow + 250000000 * layNs ≤ at_) (hnear : at_ < s.layNow + 250000000 * layNs + laySec) :
    stepSet s (stepAnnounced s at_ d) d := by
  obtain ⟨hat, hmag, hneg, -⟩ := stepAnnounced_shows s at_ d
  exact ⟨at_, rfl, hwhole, hfar, hnear, hat, hmag, hneg⟩

theorem scheduleStep_set (s : State) (d : Int) : stepSet s (s.scheduleStep d) d := by
  obtain ⟨hwhole, hfar, hnear⟩ := stepSecond_at s.layNow
  rw [scheduleStep_eq]
  exact stepAnnounced_set d hwhole hfar hnear

theorem stepAnnounced_rest (s : State) (at_ : Nat) (d : Int) : (stepAnnounced s at_ d).lay.fine = s.lay.fine ∧
    ObjsBut s (stepAnnounced s at_ d) (fun k => k = Ob.lay_step_at ∨ k = Ob.lay_step_pending_mag ∨ k = Ob.lay_step_pending_neg) ∧
    stepAnnounced s at_ d = { s with objs := (stepAnnounced s at_ d).objs, lay := (stepAnnounced s at_ d).lay } := ⟨rfl, (stepAnnounced_shows s at_ d).2.2.2, rfl⟩

/-- A step scheduled leaves Lay time, and changes no other objects. -/
theorem scheduleStep_rest (s : State) (d : Int) : (s.scheduleStep d).lay.fine = s.lay.fine ∧
    ObjsBut s (s.scheduleStep d) (fun k => k = Ob.lay_step_at ∨ k = Ob.lay_step_pending_mag ∨ k = Ob.lay_step_pending_neg) ∧
    s.scheduleStep d = { s with objs := (s.scheduleStep d).objs, lay := (s.scheduleStep d).lay } := by
  rw [scheduleStep_eq]
  exact stepAnnounced_rest s (stepSecond s.layNow) d

/-- The step is as scheduled for a part whose Lay time is the same. -/
theorem stepSet_of_lay {s s' t : State} {d : Int} (h : stepSet s t d) (hlay : s'.layNow = s.layNow) : stepSet s' t d := by
  unfold stepSet
  rw [hlay]
  exact h

theorem stepAccepted : Claims.stepAccepted := by
  intro s m d h hkey hone hstep hroot hpending
  have hlay : (s.arrived m).lay = s.lay := (congrArg State.lay (arrived_rest s m) :)
  have haccept : (s.arrived m).stepAccept = (s.arrived m).scheduleStep (s.arrived m).pendingStep := by
    have hgo : (!(s.arrived m).isRoot || (s.arrived m).lay.step.isSome || decide ((s.arrived m).pendingStep = 0)) = false := by simp [hroot, hlay, hstep, hpending]
    exact if_neg (by rw [hgo]; exact Bool.false_ne_true)
  have hset := scheduleStep_set (s.arrived m) (s.arrived m).pendingStep
  obtain ⟨hfine, hobjs, hrest⟩ := scheduleStep_rest (s.arrived m) (s.arrived m).pendingStep
  refine ⟨_, by rw [layStepAccept_exec h hkey hone, haccept], stepSet_of_lay hset ?_, hfine.trans (by rw [hlay]), hobjs, hrest⟩
  simp only [State.layNow, hlay]

/-- An offset that the step leaves waits for it. -/
def stepWanted (s : State) (off : Int) : State := { s with lay := { s.lay with wanted := some off } }

theorem timeSetSteps : Claims.timeSetSteps := by
  intro s m d v h hkey hv hwo
  have hlay : (s.arrived m).lay = s.lay := (congrArg State.lay (arrived_rest s m) :)
  have hnow : (s.arrived m).layNow = s.layNow := by simp only [State.layNow, hlay]
  have hrow := layTimeSet_exec h hkey hwo hv
  refine ⟨fun hroot => ⟨_, hrow, ?_⟩, fun hroot => ?_⟩
  · have hgo : ¬ (!(s.arrived m).isRoot) = true := by simp [hroot]
    rw [← hnow]
    unfold State.timeSet
    rw [if_neg hgo]
    split
    · have hset := scheduleStep_set (stepWanted (s.arrived m) ((v : Int) - (s.arrived m).layNow - (s.arrived m).pendingStep)) ((v : Int) - (s.arrived m).layNow)
      exact ⟨stepSet_of_lay hset hnow.symm, (scheduleStep_rest (stepWanted (s.arrived m) _) _).1.trans (by rw [← hlay]; rfl)⟩
    · exact ⟨stepSet_of_lay (scheduleStep_set (s.arrived m) _) hnow.symm, (scheduleStep_rest (s.arrived m) _).1.trans (by rw [hlay])⟩
  · rw [hrow]
    unfold State.timeSet
    rw [if_pos (by simp [hroot])]

/-! The step -/

theorem dramStore_lay (s : State) (die a : Nat) (d : List (Option Byte)) (old : List Byte) : (s.dramStore die a d old).lay = s.lay := by
  unfold State.dramStore
  split <;> rfl

/-- Every pending Lay time moved, Lay time itself goes on. -/
theorem movePending_fine (s : State) (d : Int) : (s.movePending d).lay.fine = s.lay.fine := by
  have hcaps : ∀ t : State, (t.moveCaps d).lay = t.lay := fun t => by
    unfold State.moveCaps
    refine each_of (P := fun u => u.lay = t.lay) _ _ (fun k u hu => ?_) rfl
    exact hu
  have hput : ∀ (t : State) (r i x : Nat), (t.putSlot r i x).lay = t.lay := fun t r i x => by
    unfold State.putSlot State.dramPut
    split <;> exact dramStore_lay ..
  have hdues : ∀ t : State, (t.moveDues d).lay = t.lay := fun t => by
    unfold State.moveDues
    refine each_of (P := fun u => u.lay = t.lay) _ _ (fun r u hu => ?_) rfl
    refine each_of (P := fun w => w.lay = t.lay) _ _ (fun i w hw => ?_) hu
    dsimp only
    split
    · exact (hput ..).trans hw
    · exact hw
  have hlaunch : ∀ b : Bool, (s.when b fun s => s.set Ob.commit_launch (max 0 (s.int 0 Ob.commit_launch + d))).lay = s.lay := fun b => by cases b <;> rfl
  have hone : (((s.when (decide (s.commit = cArmed)) fun s => s.set Ob.commit_launch (max 0 (s.int 0 Ob.commit_launch + d))).moveCaps d).moveDues d).lay = s.lay := (hdues _).trans ((hcaps _).trans (hlaunch _))
  have hfine := congrArg LaySt.fine hone
  unfold State.movePending
  exact hfine

/-- The part whose Lay time has moved by a step, with the step shown. -/
def stepMoved (s : State) (at_ : Nat) (d : Int) : State :=
  let s0 := (s.movePending d).shiftLay d
  let s1 : State := { s0 with lay := { s0.lay with holds := s0.lay.holds.map fun h => (h.1, { h.2 with fine := ((h.2.fine : Int) + d * 4294967296).toNat }) } }
  ((s1.set Ob.lay_step_last_at at_).set Ob.lay_step_last_mag d.natAbs).set Ob.lay_step_last_neg (b2n (d < 0))

/-- The step is over. -/
def stepOver (t : State) : State := (({ t with lay := { t.lay with step := none, stepDoneAt := some t.now, wanted := none, refused := none } } : State).set Ob.lay_step_at 0).showPending 0

theorem stepMoved_shows (s : State) (at_ : Nat) (d : Int) : (stepMoved s at_ d).lay.fine = ((s.lay.fine : Int) + d * 4294967296).toNat ∧ (stepMoved s at_ d).pw Ob.lay_step_last_at = at_ ∧
    (stepMoved s at_ d).pw Ob.lay_step_last_mag = d.natAbs ∧ (stepMoved s at_ d).pw Ob.lay_step_last_neg = (if d < 0 then 1 else 0) := by
  unfold stepMoved
  extract_lets s0 l s1
  have hfine : s1.lay.fine = (((s.movePending d).lay.fine : Int) + d * 4294967296).toNat := rfl
  rw [movePending_fine] at hfine
  clear_value s1
  refine ⟨hfine, ?_, ?_, ?_⟩
  · rw [pw_set_other _ _ _ _ (by decide), pw_set_other _ _ _ _ (by decide), pw_set_same, Int.toNat_natCast]
  · rw [pw_set_other _ _ _ _ (by decide), pw_set_same, Int.toNat_natCast]
  · rw [pw_set_same, Int.toNat_natCast, b2n]
    simp

theorem stepOver_shows (t : State) : (stepOver t).lay.fine = t.lay.fine ∧ (stepOver t).lay.step = none ∧ (stepOver t).pw Ob.lay_step_pending_mag = 0 ∧
    ObjsBut t (stepOver t) fun k => k = Ob.lay_step_at ∨ k = Ob.lay_step_pending_mag ∨ k = Ob.lay_step_pending_neg := by
  unfold stepOver
  have hat : ObjsBut t (({ t with lay := { t.lay with step := none, stepDoneAt := some t.now, wanted := none, refused := none } } : State).set Ob.lay_step_at 0) fun k => k = Ob.lay_step_at :=
    objsBut_trans (objsBut_of_eq rfl) (objsBut_set _ Ob.lay_step_at 0)
  obtain ⟨hmag, -, hshown⟩ := showPending_shows (({ t with lay := { t.lay with step := none, stepDoneAt := some t.now, wanted := none, refused := none } } : State).set Ob.lay_step_at 0) 0
  exact ⟨rfl, rfl, hmag, objsBut_trans (objsBut_mono hat fun _ => .inl) (objsBut_mono hshown fun _ => .inr)⟩

theorem stepHappens : Claims.stepHappens := by
  intro s at_ d hup hstep hwanted
  have hnext : ∀ x, s.stepApplied = x → exec .stepApplied s = .next x := fun x hx => congrArg Host.Outcome.next ((run_up hup _).trans hx)
  refine ⟨fun hdue => ?_, fun hearly => hnext s ?_⟩
  · have happly : s.stepApplied = (stepOver (stepMoved s at_ d)).raise 0 Ob.lay_flags 5 := by
      unfold State.stepApplied
      rw [hstep, hwanted]
      exact if_neg (Nat.not_lt.2 hdue)
    obtain ⟨hfine, hat, hmag, hneg⟩ := stepMoved_shows s at_ d
    obtain ⟨hfine', hnone, hpending, hobjs⟩ := stepOver_shows (stepMoved s at_ d)
    have hraise : ∀ (t : State) (k : Nat), k ≠ Ob.lay_flags → ¬ reportKey (fullKey 0 k) → k < 16777216 → (t.raise 0 Ob.lay_flags 5).pw k = t.pw k := fun t k hne hrep hk =>
      raise_nat_other t 5 0 (fullKey_ne hne hk (by decide)) hrep
    refine ⟨_, hnext _ happly, ?_, ?_, raise_on _ 0 Ob.lay_flags 5 0 not_reportKey_full, ?_, ?_, ?_, ?_⟩
    · rw [raise_lay, hfine', hfine]
    · rw [raise_lay, hnone]
    · rw [hraise _ _ (by decide) not_reportKey_full (by decide), objsBut_pw hobjs (by decide), hat]
    · rw [hraise _ _ (by decide) not_reportKey_full (by decide), objsBut_pw hobjs (by decide), hmag]
    · rw [hraise _ _ (by decide) not_reportKey_full (by decide), objsBut_pw hobjs (by decide), hneg]
    · rw [hraise _ _ (by decide) not_reportKey_full (by decide), hpending]
  · simp only [State.stepApplied, hstep, if_pos hearly]

/-- Settles O12. -/
theorem layTimeSteps : Obligations.LayTimeSteps := ⟨stepAccepted, timeSetSteps, stepHappens⟩

end Sys2Proof.Proofs
end

section
/-! LAY_SYNC cells (R95-R99): what a part sends on its ports, and the exchange that measures a port's delay. -/

namespace Sys2Proof.Proofs

open Sys2Proof.Machine Sys2Proof.Laws Sys2Proof.Claims

/-! A port changed -/

theorem port_setPort_same (s : State) (p : Nat) (f : PortSt → PortSt) : (s.setPort p f).port p = f (s.port p) := smGet_smPut_same _ _ _ _

theorem port_setPort_other (s : State) {p q : Nat} (f : PortSt → PortSt) (h : q ≠ p) : (s.setPort p f).port q = s.port q := smGet_smPut_other _ _ _ h

/-- A change of one port, by what that port was. -/
structure PortTo (s t : State) (p : Nat) (x : PortSt) : Prop where
  here   : t.port p = x
  others : ∀ q, q ≠ p → t.port q = s.port q
  rest   : t = { s with ports := t.ports }

theorem portTo_setPort (s : State) (p : Nat) (f : PortSt → PortSt) : PortTo s (s.setPort p f) p (f (s.port p)) :=
  ⟨port_setPort_same s p f, fun _ h => port_setPort_other s f h, rfl⟩

theorem portTo_then {s t : State} {p : Nat} {x : PortSt} (h : PortTo s t p x) (f : PortSt → PortSt) : PortTo s (t.setPort p f) p (f x) where
  here := (port_setPort_same t p f).trans (congrArg f h.here)
  others := fun q hq => (port_setPort_other t f hq).trans (h.others q hq)
  rest := congrArg (fun u : State => { u with ports := (t.setPort p f).ports }) h.rest

/-- Ports of a list, each changed once, by what that port was. -/
theorem each_ports {s : State} {f : Nat → State → State} {g : Nat → PortSt → PortSt} (hf : ∀ (p : Nat) (t : State), t = { s with ports := t.ports } → PortTo t (f p t) p (g p (t.port p))) :
    ∀ {l : List Nat} {t : State}, l.Nodup → t = { s with ports := t.ports } →
      (∀ p, p ∈ l → (t.each l f).port p = g p (t.port p)) ∧ (∀ p, p ∉ l → (t.each l f).port p = t.port p) ∧ t.each l f = { s with ports := (t.each l f).ports }
  | [], t, _, ht => ⟨fun p hp => absurd hp (List.not_mem_nil), fun _ _ => rfl, ht⟩
  | q :: l, t, hl, ht => by
    obtain ⟨hq, hl⟩ := List.nodup_cons.1 hl
    have hstep := hf q t ht
    have hkeep : f q t = { s with ports := (f q t).ports } := hstep.rest.trans (congrArg (fun u : State => { u with ports := (f q t).ports }) ht)
    obtain ⟨hin, hout, hrest⟩ := each_ports hf hl hkeep
    refine ⟨fun p hp => ?_, fun p hp => ?_, hrest⟩
    · by_cases hpq : p = q
      · subst hpq
        exact (hout p hq).trans hstep.here
      · have hmem : p ∈ l := (List.mem_cons.1 hp).resolve_left hpq
        exact (hin p hmem).trans (congrArg (g p) (hstep.others p hpq))
    · obtain ⟨hpq, hpl⟩ := not_or.1 (fun h => hp (List.mem_cons.2 h))
      exact (hout p hpl).trans (hstep.others p hpq)

/-- What class-0 cells say does not depend on the ports. -/
theorem layCell_of_ports {s t : State} (h : t = { s with ports := t.ports }) (p msg seq t2 reqSeq : Nat) : t.layCell p msg seq t2 reqSeq = s.layCell p msg seq t2 reqSeq := by
  rw [h]; rfl

theorem nodeOr0_of_ports {s t : State} (h : t = { s with ports := t.ports }) : t.nodeOr0 = s.nodeOr0 := by rw [h]; rfl

theorem now_of_ports {s t : State} (h : t = { s with ports := t.ports }) : t.now = s.now := by rw [h]

/-- The ports on which a periodic sending is due: in service, not of port_role 2, and silent for long enough. -/
theorem mem_duePorts {s : State} {p : Nat} {last : Nat → Option Nat} {span : Nat} :
    p ∈ s.portsUp.filter (fun p => s.role p ≠ 2 && s.due (last p) span) ↔ p ∈ s.portsUp ∧ s.role p ≠ 2 ∧ s.due (last p) span = true := by
  simp only [List.mem_filter, Bool.and_eq_true, decide_eq_true_eq]

theorem not_mem_duePorts {s : State} {p : Nat} {last : Nat → Option Nat} {span : Nat} (h : p ∉ s.portsUp ∨ s.role p = 2 ∨ s.due (last p) span = false) :
    p ∉ s.portsUp.filter (fun p => s.role p ≠ 2 && s.due (last p) span) := by
  rw [mem_duePorts]
  rintro ⟨hup, hrole, hdue⟩
  rcases h with h | h | h
  · exact h hup
  · exact hrole h
  · rw [hdue] at h; cases h

theorem nodup_portsUp (s : State) : s.portsUp.Nodup := (nodup_portList s).filter _

/-! SYNC and DELAY_REQ sent (R96) -/

/-- A port with its SYNC ready to leave. -/
def syncPort (s : State) (p : Nat) (t : PortSt) : PortSt :=
  { t with lays := t.lays ++ [mkCell 0 0 s.nodeOr0 0 (layCellBytes (s.layCell p 1 t.seqSync 0 0))], seqSync := (t.seqSync + 1) % 65536, sentSyncAt := some s.now }

theorem syncSent : Claims.syncSent := by
  intro s hup hst
  have hstep : ∀ (p : Nat) (t : State), t = { s with ports := t.ports } →
      PortTo t ((t.sendLay p (t.layCell p 1 (t.port p).seqSync 0 0)).setPort p fun x => { x with seqSync := ((t.port p).seqSync + 1) % 65536, sentSyncAt := some t.now }) p (syncPort s p (t.port p)) := by
    intro p t ht
    have h := portTo_then (portTo_setPort t p fun x => { x with lays := x.lays ++ [mkCell 0 0 t.nodeOr0 0 (layCellBytes (t.layCell p 1 (t.port p).seqSync 0 0))] })
      (fun x => { x with seqSync := ((t.port p).seqSync + 1) % 65536, sentSyncAt := some t.now })
    rw [layCell_of_ports ht, nodeOr0_of_ports ht, now_of_ports ht] at h
    rw [State.sendLay, layCell_of_ports ht, nodeOr0_of_ports ht, now_of_ports ht]
    exact h
  obtain ⟨hin, hout, hrest⟩ := each_ports hstep (l := s.portsUp.filter fun p => s.role p ≠ 2 && s.due (s.port p).sentSyncAt 125000) ((nodup_portsUp s).filter _) (t := s) rfl
  have hsend : (s.layState = layRoot || s.layState = layLocked || s.layState = layHoldover) = true := by simpa [or_assoc] using hst
  refine ⟨_, congrArg Host.Outcome.next ((run_up hup _).trans (if_pos hsend)), fun p hup hrole hdue => ?_, fun p hno => ?_, hrest⟩
  · exact hin p (mem_duePorts.2 ⟨hup, hrole, hdue⟩)
  · exact hout p (not_mem_duePorts hno)

/-- A port with its DELAY_REQ ready to leave. -/
def requestPort (s : State) (p : Nat) (t : PortSt) : PortSt :=
  { t with lays := t.lays ++ [mkCell 0 0 s.nodeOr0 0 (layCellBytes (s.layCell p 2 t.seqReq 0 0))], seqReq := (t.seqReq + 1) % 65536, sentReqAt := some s.now, req := some (t.seqReq, 0, s.now) }

theorem delayReqSent : Claims.delayReqSent := by
  intro was s hup hs
  have hstep : ∀ (p : Nat) (t : State), t = { s with ports := t.ports } →
      PortTo t ((t.sendLay p (t.layCell p 2 (t.port p).seqReq 0 0)).setPort p fun x =>
        { x with seqReq := ((t.port p).seqReq + 1) % 65536, sentReqAt := some t.now, req := some ((t.port p).seqReq, 0, t.now) }) p (requestPort s p (t.port p)) := by
    intro p t ht
    have h := portTo_then (portTo_setPort t p fun x => { x with lays := x.lays ++ [mkCell 0 0 t.nodeOr0 0 (layCellBytes (t.layCell p 2 (t.port p).seqReq 0 0))] })
      (fun x => { x with seqReq := ((t.port p).seqReq + 1) % 65536, sentReqAt := some t.now, req := some ((t.port p).seqReq, 0, t.now) })
    rw [layCell_of_ports ht, nodeOr0_of_ports ht, now_of_ports ht] at h
    rw [State.sendLay, layCell_of_ports ht, nodeOr0_of_ports ht, now_of_ports ht]
    exact h
  obtain ⟨hin, hout, hrest⟩ := each_ports hstep (l := s.portsUp.filter fun p => s.role p ≠ 2 && s.due (s.port p).sentReqAt 1000000) ((nodup_portsUp s).filter _) (t := s) rfl
  refine ⟨_, ?_, fun p hup hrole hdue => ?_, fun p hno => ?_, hrest⟩
  · have hexec : exec .delayReqSend was = .next was.delayReqSend := congrArg Host.Outcome.next (run_up hup _)
    rw [hexec, State.delayReqSend, ← hs]
  · exact hin p (mem_duePorts.2 ⟨hup, hrole, hdue⟩)
  · exact hout p (not_mem_duePorts hno)

theorem delayGivenUp : Claims.delayGivenUp := by
  intro s p q t1 at_ hup hreq
  have hexec : exec (.delayReqMissing p) s = .next (s.delayMissing p) := congrArg Host.Outcome.next (run_up hup _)
  have hmissing : s.delayMissing p = if s.past at_ 1000000 then s.setPort p fun t => { t with req := none } else s := by rw [State.delayMissing, hreq]
  rw [hexec, hmissing]
  refine ⟨fun h => ?_, fun h => ?_⟩
  · rw [if_pos (by simpa [State.past] using h)]
  · rw [if_neg (by simp only [State.past, decide_eq_true_eq]; omega)]

/-! A class-0 cell that comes in (R99) -/

/-- A class-0 cell is the part's own to use, and its row takes it by its MSG. -/
theorem layRow {s : State} {p : Nat} {c : Cell} {named : Bool} (h : CellAt s p c) (hcls : c.cls = 0) (hkind : c.kind = 0) (hnamed : named = true) :
    s.cellRow p c named = ((s.cellArrives p).layCellIn p c).spent p := by
  have hmine : s.passes c = false := by simp only [State.passes, hcls, hkind]
  rw [cellRow_consumed h (by rw [hcls]; decide) hmine hnamed]
  simp only [State.consume, hcls, hkind]

/-- A sound one, heard away from a step, leaves its record and goes on by its MSG. -/
theorem layCellIn_taken {s a : State} {p : Nat} {c : Cell} (hgood : layCellBad c.payload = false) (hquiet : s.layQuiet = false) (ha : a = Claims.taken s p (layCellParse c.payload)) :
    s.layCellIn p c = if (layCellParse c.payload).msg = 1 then a.syncCell p (layCellParse c.payload) else if (layCellParse c.payload).msg = 2 then a.delayReq p (layCellParse c.payload)
      else a.delayResp p (layCellParse c.payload) := by
  have hskew : (s.setPort p fun t => { t with class0At := some s.now }).skewCheck p (layCellParse c.payload) = a := by
    subst ha
    unfold State.skewCheck State.when Claims.taken
    dsimp only
    generalize hx : ((layCellParse c.payload).skew + (s.setPort p fun t => { t with class0At := some s.now }).int (p / 16) (atPort Ob.lay_port_skew_ps p)).natAbs = x
    by_cases h : x ≤ 2
    · rw [if_pos h, if_neg (by simpa using h)]
    · rw [if_neg h, if_pos (by simpa using h)]
  have hstill : (s.setPort p fun t => { t with class0At := some s.now }).layQuiet = false := hquiet
  unfold State.layCellIn
  rw [if_neg (by rw [hgood]; exact Bool.false_ne_true)]
  dsimp only
  rw [if_neg (by rw [hstill]; exact Bool.false_ne_true), hskew]

theorem taken_now (s : State) (p : Nat) (l : LayCell) : (Claims.taken s p l).now = s.now := by
  unfold Claims.taken
  dsimp only
  split
  · rfl
  · rw [raise_now]; rfl

/-- The MSG that a row names is that of the cell parsed. -/
theorem layMsg (bs : List Byte) : (layCellParse bs).msg = leAt bs 0 1 := rfl

theorem delayAnswered : Claims.delayAnswered := by
  intro s a p c l hat hcls hkind hgood hl hmsg ha hquiet
  subst hl
  have hnamed : (c.cls = 0 && leAt c.payload 0 1 = 2) = true := by rw [← layMsg, hmsg, hcls]; rfl
  have hin := layCellIn_taken hgood hquiet ha
  rw [if_neg (by rw [hmsg]; decide), if_pos hmsg] at hin
  have hport := portTo_then (portTo_then (portTo_setPort a p fun x =>
      { x with lays := x.lays ++ [mkCell 0 0 a.nodeOr0 0 (layCellBytes (a.layCell p 3 (a.port p).seqResp (a.rxStamp p) (layCellParse c.payload).seq))] })
    (fun x => { x with seqResp := ((a.port p).seqResp + 1) % 65536 })) (fun x => { x with stamp := none })
  refine ⟨(a.delayReq p (layCellParse c.payload)).spent p, congrArg Host.Outcome.next ((layRow hat hcls hkind hnamed).trans (congrArg (fun x : State => x.spent p) hin)), hport.here, hport.others, hport.rest⟩

theorem delayMeasured : Claims.delayMeasured := by
  intro s a p q t1 at_ c l hat hcls hkind hgood hl hmsg ha hquiet hreq hq
  subst hl
  have hnamed : (c.cls = 0 && leAt c.payload 0 1 = 3) = true := by rw [← layMsg, hmsg, hcls]; rfl
  have hin := layCellIn_taken hgood hquiet ha
  rw [if_neg (by rw [hmsg]; decide), if_neg (by rw [hmsg]; decide)] at hin
  have hnow : a.now = s.now := by rw [ha, taken_now, cellArrives_rest]
  generalize layCellParse c.payload = l at hin hq
  generalize hds : layToPs (((a.rxStamp p : Int) - t1 - ((l.tx : Int) - l.t2)) / 2) :: (a.port p).delays.take 7 = ds
  have hmeasured : a.delayResp p l = (a.setPort p fun t => { t with req := none, delays := ds, delayAt := some a.now }).put (p / 16) (atPort Ob.lay_port_delay_ps p) (max 0 (medianInt ds)) := by
    rw [State.delayResp, hreq]
    dsimp only
    rw [if_neg (by simp [hq]), hds]
  have hport := portTo_then (portTo_setPort a p fun t => { t with req := none, delays := ds, delayAt := some a.now }) (fun x => { x with stamp := none })
  rw [hmeasured] at hin
  refine ⟨_, congrArg Host.Outcome.next ((layRow hat hcls hkind hnamed).trans (congrArg (fun x : State => x.spent p) hin)), ?_, ?_, ?_, ?_, rfl⟩
  · exact hport.here.trans (by rw [hnow])
  · exact (int_put_same _ _ _ _).trans (congrArg (fun x : PortSt => max 0 (medianInt x.delays)) hport.here).symm
  · exact hport.others
  · exact objsBut_trans (t := a.setPort p fun t => { t with req := none, delays := ds, delayAt := some a.now }) (objsBut_of_eq rfl)
      (objsBut_put (a.setPort p fun t => { t with req := none, delays := ds, delayAt := some a.now }) (p / 16) (atPort Ob.lay_port_delay_ps p) _)

/-- Settles O9: SYNC and DELAY_REQ cells on the ports on which they are due, and the exchange that measures a port's delay. -/
theorem layCellsMeasureTheDelay : Obligations.LayCellsMeasureTheDelay :=
  ⟨syncSent, delayReqSent, delayAnswered, delayMeasured, delayGivenUp⟩

end Sys2Proof.Proofs
end

section
/-! The servo (R103, R498), a SYNC at a follower and at a root (R80, R99-R102), and the end of the listening window (R79). -/

namespace Sys2Proof.Proofs

open Sys2Proof.Machine Sys2Proof.Laws Sys2Proof.Claims

/-! Changes of Lay time and of what shows it -/

/-- Lay time and the objects of `p` change, nothing else. -/
structure LayShown (p : Nat → Prop) (s t : State) : Prop where
  objs : ObjsBut s t p
  rest : t = { s with objs := t.objs, lay := t.lay }

theorem layShown_refl (p : Nat → Prop) (s : State) : LayShown p s s := ⟨objsBut_refl _ _, rfl⟩

theorem layShown_trans {p : Nat → Prop} {s t u : State} (h : LayShown p s t) (k : LayShown p t u) : LayShown p s u :=
  ⟨objsBut_trans h.objs k.objs, k.rest.trans (congrArg (fun x : State => { x with objs := u.objs, lay := u.lay }) h.rest)⟩

theorem layShown_mono {p q : Nat → Prop} {s t : State} (h : LayShown p s t) (hpq : ∀ k, p k → q k) : LayShown q s t := ⟨objsBut_mono h.objs hpq, h.rest⟩

theorem layShown_lay (p : Nat → Prop) (s : State) (l : LaySt) : LayShown p s { s with lay := l } := ⟨objsBut_of_eq rfl, rfl⟩

theorem layShown_set (s : State) (key : Nat) (v : Int) : LayShown (fun k => k = key) s (s.set key v) := ⟨objsBut_set s key v, rfl⟩

theorem layShown_when {p : Nat → Prop} (s : State) (b : Bool) (f : State → State) (h : LayShown p s (f s)) : LayShown p s (s.when b f) := when_of s b f (layShown_refl p s) h

theorem layShown_crossWord (p : Nat → Prop) (s : State) (f : Int) : LayShown p s (s.crossWord f) := by
  unfold State.crossWord
  split <;> exact layShown_lay p s _

theorem crossWord_freq (s : State) (f : Int) : (s.crossWord f).lay.freq = f := by
  unfold State.crossWord
  split <;> rfl

/-- A frequency word that crosses leaves the rest of Lay time as it is. -/
theorem crossWord_lay (s : State) (f : Int) : (s.crossWord f).lay = { s.lay with freq := f, word := (s.crossWord f).lay.word, wordAt := (s.crossWord f).lay.wordAt } := by
  unfold State.crossWord
  split <;> rfl

theorem layShown_showFreq (s : State) : LayShown (fun k => k = Ob.lay_freq_adj) s s.showFreq := layShown_set s Ob.lay_freq_adj _

theorem layShown_setFreq (s : State) (f : Int) : LayShown (fun k => k = Ob.lay_freq_adj) s (s.setFreq f) :=
  layShown_trans (layShown_crossWord _ s f) (layShown_trans (layShown_lay _ (s.crossWord f) _) (layShown_showFreq _))

/-- What a frequency word set leaves of Lay time. -/
theorem setFreq_lay (s : State) (f : Int) : (s.setFreq f).lay = { s.lay with freq := f, word := (s.setFreq f).lay.word, wordAt := (s.setFreq f).lay.wordAt, hist := (s.setFreq f).lay.hist } := by
  have h := congrArg (fun l : LaySt => { l with hist := (s.setFreq f).lay.hist }) (crossWord_lay s f)
  exact h

theorem bootStep_objs (s : State) (i : Nat) : ObjsBut s (s.bootStep i) fun k => k = Ob.boot_ms + i := by
  unfold State.bootStep
  split
  · exact objsBut_refl _ _
  · exact objsBut_trans (t := { s with boot := { s.boot with steps := i :: s.boot.steps } }) (objsBut_of_eq rfl) (objsBut_set _ _ _)

theorem bootStep_rest (s : State) (i : Nat) : s.bootStep i = { s with objs := (s.bootStep i).objs, boot := { s.boot with steps := (s.bootStep i).boot.steps } } := by
  unfold State.bootStep
  split <;> rfl

theorem bootStep_lay (s : State) (i : Nat) : (s.bootStep i).lay = s.lay := (congrArg State.lay (bootStep_rest s i) :)

theorem isRoot_of (s : State) : s.isRoot = true ↔ s.layState = layRoot := by rw [State.isRoot, decide_eq_true_eq]

theorem layState_of_objs {s t : State} {p : Nat → Prop} (h : ObjsBut s t p) (hp : ¬ p Ob.lay_state) : t.layState = s.layState := objsBut_pw h hp

theorem isRoot_of_objs {s t : State} {p : Nat → Prop} (h : ObjsBut s t p) (hp : ¬ p Ob.lay_state) : t.isRoot = s.isRoot := by
  unfold State.isRoot
  rw [layState_of_objs h hp]

/-! The servo (R103, R498) -/

/-- The part with an offset shown. -/
def offsetShown (s : State) (off : Int) : State := s.set Ob.lay_offset_ps (clampInt (-2147483648) 2147483647 (off * 1000 / layNs))

theorem offsetShown_objs (s : State) (off : Int) : ObjsBut s (offsetShown s off) fun k => k = Ob.lay_offset_ps := objsBut_set s Ob.lay_offset_ps _

theorem offsetShown_state (s : State) (off : Int) : (offsetShown s off).layState = s.layState := layState_of_objs (offsetShown_objs s off) (by decide)

theorem servo_free {s : State} {off : Int} (h : s.layState = layFree) : s.servo off =
    ({ ((offsetShown s off).shiftLay (-off)).set Ob.lay_state layAcquire with
        lay := { ((offsetShown s off).shiftLay (-off)).lay with good := 0, bad := 0, acquiredAt := some s.now } } : State).showRoot := if_pos ((offsetShown_state s off).trans h)

theorem servo_outlier {s : State} {off : Int} (h : s.layState = layLocked) (hfar : 100 * layNs < off.natAbs) : s.servo off =
    if 8 ≤ s.lay.bad + 1 then State.relock { offsetShown s off with lay := { s.lay with bad := s.lay.bad + 1 } } else { offsetShown s off with lay := { s.lay with bad := s.lay.bad + 1 } } := by
  have hstate := (offsetShown_state s off).trans h
  unfold State.servo
  extract_lets x outlier t
  have hx : x = offsetShown s off := rfl
  rw [if_neg (by rw [hx, hstate]; decide), if_neg (by rw [hx, hstate]; simp), if_pos (show outlier from hfar)]
  rfl

theorem servo_inlier {s : State} {off : Int} (h : s.layState = layAcquire ∨ s.layState = layLocked) (hnear : off.natAbs ≤ 100 * layNs) : s.servo off = (offsetShown s off).steer off := by
  have hstate := offsetShown_state s off
  unfold State.servo
  extract_lets x outlier t
  have hx : x = offsetShown s off := rfl
  have hin : ¬ outlier := Nat.not_lt.2 hnear
  have hheld : (offsetShown s off).layState ≠ layFree ∧ (offsetShown s off).layState ≠ layHoldover := by
    rw [hstate]
    rcases h with h | h <;> rw [h] <;> decide
  rw [hx, if_neg hheld.1, if_neg (by simp [hin]), if_neg hin, State.when, if_neg (by simpa using hheld.2)]

theorem showRoot_shows (s : State) (h : s.layState ≠ layFree) : s.showRoot.pw Ob.lay_root_node = s.lay.node ∧ ObjsBut s s.showRoot fun k => k = Ob.lay_root_node ∨ k = Ob.lay_hops := by
  unfold State.showRoot
  rw [if_neg h]
  refine ⟨?_, objsBut_trans (objsBut_mono (objsBut_set s Ob.lay_root_node _) fun _ => .inl) (objsBut_mono (objsBut_set _ Ob.lay_hops _) fun _ => .inr)⟩
  rw [pw_set_other _ _ _ _ (by decide), pw_set_same, Int.toNat_natCast]

theorem servoFree : Claims.servoFree := by
  intro s off hfree
  rw [servo_free hfree]
  have hset : ObjsBut s (((offsetShown s off).shiftLay (-off)).set Ob.lay_state layAcquire) fun k => k = Ob.lay_state ∨ k = Ob.lay_offset_ps :=
    objsBut_trans (t := (offsetShown s off).shiftLay (-off)) (objsBut_trans (objsBut_mono (offsetShown_objs s off) fun _ => .inr) (objsBut_of_eq rfl)) (objsBut_mono (objsBut_set _ Ob.lay_state _) fun _ => .inl)
  have hfine : ((offsetShown s off).shiftLay (-off)).lay.fine = ((s.lay.fine : Int) - off * 4294967296).toNat := by
    show ((s.lay.fine : Int) + -off * 4294967296).toNat = _
    rw [Int.neg_mul, Int.sub_eq_add_neg]
  have hoffset : (((offsetShown s off).shiftLay (-off)).set Ob.lay_state layAcquire).int 0 Ob.lay_offset_ps = clampInt (-2147483648) 2147483647 (off * 1000 / layNs) :=
    (int_put_other _ _ _ _ _ _ (by decide)).trans (int_put_same s 0 Ob.lay_offset_ps _)
  have hstate : (((offsetShown s off).shiftLay (-off)).set Ob.lay_state layAcquire).layState = layAcquire := pw_set_same _ _ _
  generalize hl : ({ ((offsetShown s off).shiftLay (-off)).lay with good := 0, bad := 0, acquiredAt := some s.now } : LaySt) = l
  generalize ((offsetShown s off).shiftLay (-off)).set Ob.lay_state layAcquire = t at hset hoffset hstate
  obtain ⟨hnode, hshown⟩ := showRoot_shows { t with lay := l } (by rw [show ({ t with lay := l } : State).layState = layAcquire from hstate]; decide)
  refine ⟨?_, ?_, ?_, ?_, ?_⟩
  · exact (layState_of_objs hshown (by decide)).trans hstate
  · rw [← hfine, ← hl]; rfl
  · exact (objsBut_int hshown (by decide)).trans hoffset
  · rw [hnode, ← hl]; rfl
  · refine objsBut_trans (objsBut_mono hset fun k hk => hk.imp_right .inl) (objsBut_trans (t := { t with lay := l }) (objsBut_of_eq rfl) (objsBut_mono hshown fun k hk => .inr (.inr hk)))

/-- The part that a sound offset steers, before it locks. -/
def steered (s : State) (off : Int) : State :=
  ({ s with lay := { s.lay with bad := 0, integ := s.lay.integ + (servoGains (s.pw Ob.lay_servo_bw)).2 * off / 8192000000, trim := -((servoGains (s.pw Ob.lay_servo_bw)).1 * off * 4294967296 / 281474976710656),
                                trimNs := 125000, good := if off.natAbs < 2 * layNs then s.lay.good + 1 else 0 } } : State).setFreq
    (-((s.lay.integ + (servoGains (s.pw Ob.lay_servo_bw)).2 * off / 8192000000) / 4294967296))

theorem steered_objs (s : State) (off : Int) : ObjsBut s (steered s off) fun k => k = Ob.lay_freq_adj := (layShown_trans (layShown_lay _ s _) (layShown_setFreq _ _)).objs

theorem steer_eq (s : State) (off : Int) : s.steer off = if (steered s off).layState = layAcquire && 64 ≤ (if off.natAbs < 2 * layNs then s.lay.good + 1 else 0) then ((steered s off).set Ob.lay_state layLocked).bootStep 8
    else steered s off := rfl

/-- Locking leaves Lay time as it is, and shows. -/
theorem steer_shows (s : State) (off : Int) : (s.steer off).lay = (steered s off).lay ∧
    (s.steer off).layState = (if s.layState = layAcquire ∧ 64 ≤ (if off.natAbs < 2 * layNs then s.lay.good + 1 else 0) then layLocked else s.layState) ∧
    ObjsBut s (s.steer off) fun k => k = Ob.lay_state ∨ k = Ob.lay_freq_adj ∨ k = Ob.boot_ms + 8 := by
  have hstate := layState_of_objs (steered_objs s off) (by decide)
  rw [steer_eq]
  generalize (if off.natAbs < 2 * layNs then s.lay.good + 1 else 0) = good
  by_cases h : s.layState = layAcquire ∧ 64 ≤ good
  · rw [if_pos (by simpa [hstate] using h), if_pos h]
    refine ⟨bootStep_lay _ 8, (layState_of_objs (bootStep_objs _ 8) (by decide)).trans (pw_set_same _ _ _), ?_⟩
    exact objsBut_trans (objsBut_mono (steered_objs s off) fun _ h => .inr (.inl h)) (objsBut_trans (objsBut_mono (objsBut_set _ Ob.lay_state _) fun _ => .inl) (objsBut_mono (bootStep_objs _ 8) fun _ h => .inr (.inr h)))
  · rw [if_neg (by simpa [hstate] using h), if_neg h]
    exact ⟨rfl, hstate, objsBut_mono (steered_objs s off) fun _ h => .inr (.inl h)⟩

/-- Lay time as a sound offset leaves it. -/
theorem steered_lay (s : State) (off : Int) : (steered s off).lay.fine = s.lay.fine ∧ (steered s off).lay.integ = s.lay.integ + (servoGains (s.pw Ob.lay_servo_bw)).2 * off / 8192000000 ∧
    (steered s off).lay.freq = -((steered s off).lay.integ / 4294967296) ∧ (steered s off).lay.trim = -((servoGains (s.pw Ob.lay_servo_bw)).1 * off * 4294967296 / 281474976710656) ∧
    (steered s off).lay.trimNs = 125000 ∧ (steered s off).lay.bad = 0 ∧ (steered s off).lay.good = if off.natAbs < 2 * layNs then s.lay.good + 1 else 0 := by
  unfold steered
  generalize (servoGains (s.pw Ob.lay_servo_bw)).1 * off * 4294967296 / 281474976710656 = trim
  generalize s.lay.integ + (servoGains (s.pw Ob.lay_servo_bw)).2 * off / 8192000000 = integ
  generalize (if off.natAbs < 2 * layNs then s.lay.good + 1 else 0) = good
  have hlay := setFreq_lay { s with lay := { s.lay with bad := 0, integ := integ, trim := -trim, trimNs := 125000, good := good } } (-(integ / 4294967296))
  have hinteg := congrArg LaySt.integ hlay
  refine ⟨(congrArg LaySt.fine hlay :), hinteg, (congrArg LaySt.freq hlay :).trans ?_, (congrArg LaySt.trim hlay :), (congrArg LaySt.trimNs hlay :), (congrArg LaySt.bad hlay :), (congrArg LaySt.good hlay :)⟩
  exact congrArg (fun x : Int => -(x / 4294967296)) hinteg.symm

theorem servoSteers : Claims.servoSteers := by
  intro s off hstate hnear
  rw [servo_inlier hstate hnear]
  obtain ⟨hlay, hlocks, hobjs⟩ := steer_shows (offsetShown s off) off
  obtain ⟨hfine, hinteg, hfreq, htrim, hspan, hbad, hgood⟩ := steered_lay (offsetShown s off) off
  have hbw : (offsetShown s off).pw Ob.lay_servo_bw = s.pw Ob.lay_servo_bw := objsBut_pw (offsetShown_objs s off) (by decide)
  rw [hbw] at hinteg htrim
  rw [hlay]
  refine ⟨hfine, hinteg, hfreq, htrim, hspan, hbad, hgood, ?_, ?_⟩
  · rw [hlocks, offsetShown_state, hgood]
  · exact objsBut_trans (objsBut_mono (offsetShown_objs s off) fun _ h => .inr (.inl h)) (objsBut_mono hobjs fun k hk => hk.imp_right .inr)

theorem relock_shows (s : State) : s.relock.layState = layFree ∧ s.relock.pw Ob.lay_root_node = 0xFFFF ∧ s.relock.on 0 Ob.lay_flags 6 = true ∧ s.relock.lay = s.lay := by
  unfold State.relock
  refine ⟨?_, ?_, raise_on _ _ _ _ _ (not_reportKey_full), raise_lay _ _ _ _ _⟩
  · exact (raise_nat_other _ 6 0 (fullKey_ne (by decide)) (not_reportKey_full)).trans ((pw_set_other _ _ _ _ (by decide)).trans (pw_set_same _ _ _))
  · exact (raise_nat_other _ 6 0 (fullKey_ne (by decide)) (not_reportKey_full)).trans (pw_set_same _ _ _)

theorem servoOutlier : Claims.servoOutlier := by
  intro s off hlocked hfar
  rw [servo_outlier hlocked hfar]
  refine ⟨fun hfew => ?_, fun hmany => ?_⟩
  · rw [if_neg (by omega)]
    exact ⟨(offsetShown_state s off).trans hlocked, rfl, offsetShown_objs s off⟩
  · rw [if_pos (by omega)]
    obtain ⟨hstate, hnode, hflag, hlay⟩ := relock_shows { offsetShown s off with lay := { s.lay with bad := s.lay.bad + 1 } }
    exact ⟨hstate, hnode, hflag, (congrArg LaySt.fine hlay :)⟩

/-! A SYNC that comes in (R80, R99-R102) -/

/-- A SYNC's row, by what its cell does. -/
theorem syncRow {s a t : State} {p : Nat} {c : Cell} (hat : CellAt s p c) (hcls : c.cls = 0) (hkind : c.kind = 0) (hgood : layCellBad c.payload = false) (hmsg : (layCellParse c.payload).msg = 1)
    (ha : a = Claims.taken (s.cellArrives p) p (layCellParse c.payload)) (hquiet : (s.cellArrives p).layQuiet = false) (ht : a.syncCell p (layCellParse c.payload) = t) :
    exec (.syncReceive p c) s = .next (t.spent p) := by
  have hnamed : (c.cls = 0 && leAt c.payload 0 1 ≠ 2 && leAt c.payload 0 1 ≠ 3) = true := by rw [← layMsg, hmsg, hcls]; rfl
  have hin := layCellIn_taken hgood hquiet ha
  rw [if_pos hmsg, ht] at hin
  exact congrArg Host.Outcome.next ((layRow hat hcls hkind hnamed).trans (congrArg (fun x : State => x.spent p) hin))

theorem recorded_root (a : State) (p : Nat) (l : LayCell) : (recorded a p l).isRoot = a.isRoot := rfl

theorem recorded_node (a : State) (p : Nat) (l : LayCell) : (recorded a p l).pw Ob.node_id = a.pw Ob.node_id := rfl

/-- A SYNC cell after its records are made. -/
def syncHeard (s2 : State) (p : Nat) (l : LayCell) (off : Int) (i : SyncInfo) : State :=
  let s4 := s2.rootMeets i
  if s4.isRoot then s4
  else
    match s4.chooseUp with
    | none => if s4.pw Ob.lay_upstream = 0xFF then s4 else s4.enterHoldover
    | some u => if u = p then ((((s4.follow u).takeStep l).servo off).handbackTake p i) else if s4.layState = layFree then s4 else s4.follow u

theorem syncCell_heard (a : State) (p : Nat) (l : LayCell) : a.syncCell p l = syncHeard (recorded a p l) p l (a.syncOffset p l) (syncInfo l (a.syncOffset p l)) := rfl

theorem syncHeard_follows {s : State} {p : Nat} {l : LayCell} {off : Int} {i : SyncInfo} (hroot : s.isRoot = false) (hup : s.chooseUp = some p) (hstep : bit l.state 2 = false) (hback : i.handback = false) :
    syncHeard s p l off i = (s.follow p).servo off := by
  have hmeets : s.rootMeets i = s := by
    unfold State.rootMeets
    exact if_pos (by rw [hroot]; rfl)
  have hstill : (s.follow p).takeStep l = s.follow p := by
    unfold State.takeStep
    exact if_neg (by rw [hstep]; exact Bool.false_ne_true)
  unfold syncHeard
  dsimp only
  rw [hmeets, if_neg (by rw [hroot]; exact Bool.false_ne_true), hup]
  dsimp only
  rw [if_pos rfl, hstill]
  unfold State.handbackTake
  exact if_neg (by rw [hback]; exact Bool.false_ne_true)

theorem syncHeard_root {s : State} {p : Nat} {l : LayCell} {off : Int} {i : SyncInfo} (hroot : s.isRoot = true) (hown : i.hold = true ∨ i.node = s.pw Ob.node_id) : syncHeard s p l off i = s := by
  have hmeets : s.rootMeets i = s := by
    unfold State.rootMeets
    exact if_pos (by rcases hown with h | h <;> simp [h])
  unfold syncHeard
  dsimp only
  rw [hmeets, if_pos hroot]

theorem syncSteers : Claims.syncSteers := by
  intro s a p c l hat hcls hkind hgood hl hmsg ha hquiet hroot hup hstep hback
  subst hl
  exact syncRow hat hcls hkind hgood hmsg ha hquiet ((syncCell_heard a p _).trans (syncHeard_follows hroot hup hstep hback))

theorem syncAtRoot : Claims.syncAtRoot := by
  intro s a p c l hat hcls hkind hgood hl hmsg ha hquiet hroot hown
  subst hl
  exact syncRow hat hcls hkind hgood hmsg ha hquiet ((syncCell_heard a p _).trans (syncHeard_root hroot hown))

theorem badLayCell : Claims.badLayCell := by
  intro s a p c hat hcls hkind hbad hreq hresp ha
  have hnamed : (c.cls = 0 && leAt c.payload 0 1 ≠ 2 && leAt c.payload 0 1 ≠ 3) = true := by simp [hcls, hreq, hresp]
  have hin : (s.cellArrives p).layCellIn p c = a.syncBroken p c.payload := by rw [State.layCellIn, if_pos hbad, ha]
  exact congrArg Host.Outcome.next ((layRow hat hcls hkind hnamed).trans (congrArg (fun x : State => x.spent p) hin))

/-! The part as root (R79, R83) -/

/-- Lay time, the objects of `p`, the journal's queue and the steps of boot change, nothing else. -/
structure RootShown (p : Nat → Prop) (s t : State) : Prop where
  objs : ObjsBut s t p
  rest : t = { s with objs := t.objs, lay := t.lay, journal := t.journal, boot := { s.boot with steps := t.boot.steps } }

theorem rootShown_trans {p : Nat → Prop} {s t u : State} (h : RootShown p s t) (k : RootShown p t u) : RootShown p s u := by
  refine ⟨objsBut_trans h.objs k.objs, ?_⟩
  rw [k.rest, h.rest]

theorem rootShown_of_lay {p q : Nat → Prop} {s t : State} (h : LayShown q s t) (hqp : ∀ k, q k → p k) : RootShown p s t :=
  ⟨objsBut_mono h.objs hqp, by rw [h.rest]⟩

theorem rootShown_keep (s : State) (key : Nat) (v : Int) : RootShown (fun k => k = key) s (s.keep 0 key v) :=
  ⟨objsBut_trans (t := s.set key v) (objsBut_set s key v) (objsBut_of_eq rfl), rfl⟩

theorem rootShown_bootStep (s : State) (i : Nat) : RootShown (fun k => k = Ob.boot_ms + i) s (s.bootStep i) :=
  ⟨bootStep_objs s i, by rw [bootStep_rest]⟩

/-- The objects that show the part as root. -/
def crownKey (k : Nat) : Prop :=
  k = Ob.lay_state ∨ k = Ob.lay_root_node ∨ k = Ob.lay_hops ∨ k = Ob.lay_upstream ∨ k = Ob.lay_root_gen ∨ k = Ob.boot_ms + 8

/-- The part shows itself as root of a new generation. -/
def crownShown (s : State) : State :=
  ((((s.bootStep 8).set Ob.lay_state layRoot).set Ob.lay_root_node (s.pw Ob.node_id)).set Ob.lay_hops 0).set Ob.lay_upstream 0xFF

/-- The part is root of a new generation, before it selects a reference. -/
def crowned (s : State) : State :=
  let t := (crownShown s).keep 0 Ob.lay_root_gen (((crownShown s).pw Ob.lay_root_gen + 1) % 65536)
  { t with lay := { t.lay with node := s.pw Ob.node_id % 1024, hops := 0, rank := s.pw Ob.lay_rank, gen := t.pw Ob.lay_root_gen, hasRoot := true, upHold := false, trim := 0, trimNs := 0, handbackAt := none,
                               foreign := none, refused := none } }

theorem becomeRoot_eq (s : State) : s.becomeRoot true =
    if ((((crowned s).set Ob.lay_ref_selected 0).dropPending).reselect).pw Ob.lay_ref_selected = 0 then (((((crowned s).set Ob.lay_ref_selected 0).dropPending).reselect).setFreq 0).showEpoch
    else (((crowned s).set Ob.lay_ref_selected 0).dropPending).reselect := rfl

theorem crownShown_shows (s : State) : (crownShown s).pw Ob.lay_state = layRoot ∧ (crownShown s).pw Ob.lay_root_node = s.pw Ob.node_id ∧ (crownShown s).pw Ob.lay_hops = 0 ∧
    (crownShown s).pw Ob.lay_upstream = 0xFF ∧ (crownShown s).pw Ob.lay_root_gen = s.pw Ob.lay_root_gen := by
  unfold crownShown
  refine ⟨?_, ?_, ?_, pw_set_same _ _ _, ?_⟩
  · rw [pw_set_other _ _ _ _ (by decide), pw_set_other _ _ _ _ (by decide), pw_set_other _ _ _ _ (by decide), pw_set_same, Int.toNat_natCast]
  · rw [pw_set_other _ _ _ _ (by decide), pw_set_other _ _ _ _ (by decide), pw_set_same, Int.toNat_natCast]
  · rw [pw_set_other _ _ _ _ (by decide), pw_set_same]; rfl
  · rw [pw_set_other _ _ _ _ (by decide), pw_set_other _ _ _ _ (by decide), pw_set_other _ _ _ _ (by decide), pw_set_other _ _ _ _ (by decide), objsBut_pw (bootStep_objs s 8) (by decide)]

theorem crownShown_rest (s : State) : RootShown crownKey s (crownShown s) := by
  have hset : ∀ (t : State) (key : Nat) (v : Int), crownKey key → RootShown crownKey t (t.set key v) := fun t key v hk => rootShown_of_lay (layShown_set t key v) fun k h => h ▸ hk
  have hboot : RootShown crownKey s (s.bootStep 8) := ⟨objsBut_mono (bootStep_objs s 8) fun k h => by unfold crownKey; exact .inr (.inr (.inr (.inr (.inr h)))), (rootShown_bootStep s 8).rest⟩
  unfold crownShown
  refine rootShown_trans hboot (rootShown_trans (hset _ _ _ ?_) (rootShown_trans (hset _ _ _ ?_) (rootShown_trans (hset _ _ _ ?_) (hset _ _ _ ?_)))) <;> (unfold crownKey; decide)

theorem crownShown_lay (s : State) : (crownShown s).lay = s.lay := bootStep_lay s 8

theorem crowned_rest (s : State) : RootShown crownKey s (crowned s) := by
  have hkeep : RootShown crownKey (crownShown s) ((crownShown s).keep 0 Ob.lay_root_gen (((crownShown s).pw Ob.lay_root_gen + 1) % 65536)) :=
    ⟨objsBut_mono (rootShown_keep (crownShown s) Ob.lay_root_gen _).objs fun k h => by unfold crownKey; exact .inr (.inr (.inr (.inr (.inl h)))), rfl⟩
  exact rootShown_trans (crownShown_rest s) (rootShown_trans hkeep (rootShown_of_lay (layShown_lay (fun _ => False) _ _) fun _ h => h.elim))

theorem crowned_shows (s : State) : (crowned s).pw Ob.lay_state = layRoot ∧ (crowned s).pw Ob.lay_root_node = s.pw Ob.node_id ∧ (crowned s).pw Ob.lay_hops = 0 ∧
    (crowned s).pw Ob.lay_upstream = 0xFF ∧ (crowned s).pw Ob.lay_root_gen = (s.pw Ob.lay_root_gen + 1) % 65536 := by
  obtain ⟨hstate, hnode, hhops, hup, hgen⟩ := crownShown_shows s
  have hother : ∀ k, k ≠ Ob.lay_root_gen → (crowned s).pw k = (crownShown s).pw k := fun k h => pw_set_other (crownShown s) Ob.lay_root_gen k _ h
  have hsame : (crowned s).pw Ob.lay_root_gen = ((((crownShown s).pw Ob.lay_root_gen + 1) % 65536 : Nat) : Int).toNat := pw_set_same (crownShown s) Ob.lay_root_gen _
  rw [hother _ (by decide), hother _ (by decide), hother _ (by decide), hother _ (by decide), hsame, Int.toNat_natCast, hgen]
  exact ⟨hstate, hnode, hhops, hup, rfl⟩

theorem crowned_fine (s : State) : (crowned s).lay.fine = s.lay.fine ∧ (crowned s).lay.listenAt = s.lay.listenAt := by
  have h := crownShown_lay s
  exact ⟨(congrArg LaySt.fine h :), (congrArg LaySt.listenAt h :)⟩

/-- The objects that a root shows of its reference and of the amount pending. -/
def refKey (k : Nat) : Prop :=
  k = Ob.lay_ref_selected ∨ k = Ob.lay_freq_adj ∨ k = Ob.lay_epoch_tai ∨ k = Ob.lay_utc_offset ∨ k = Ob.lay_step_pending_mag ∨ k = Ob.lay_step_pending_neg

theorem layShown_showPending (s : State) (d : Int) : LayShown (fun k => k = Ob.lay_step_pending_mag ∨ k = Ob.lay_step_pending_neg) s (s.showPending d) :=
  ⟨(showPending_shows s d).2.2, rfl⟩

theorem layShown_dropPending (s : State) : LayShown (fun k => k = Ob.lay_step_pending_mag ∨ k = Ob.lay_step_pending_neg) s s.dropPending := layShown_when _ _ _ (layShown_showPending s 0)

theorem dropPending_lay (s : State) : s.dropPending.lay = s.lay := by
  unfold State.dropPending State.when
  split <;> rfl

theorem layShown_showEpoch (s : State) : LayShown (fun k => k = Ob.lay_epoch_tai ∨ k = Ob.lay_utc_offset) s s.showEpoch :=
  layShown_trans (layShown_mono (layShown_set s Ob.lay_epoch_tai _) fun _ => .inl) (layShown_mono (layShown_set _ Ob.lay_utc_offset _) fun _ => .inr)

theorem refKey_set (s : State) {key : Nat} (v : Int) (h : refKey key) : LayShown refKey s (s.set key v) := layShown_mono (layShown_set s key v) fun _ hk => hk ▸ h

theorem refKey_showPending (s : State) (d : Int) : LayShown refKey s (s.showPending d) := layShown_mono (layShown_showPending s d) fun k h => by unfold refKey; tauto
theorem refKey_dropPending (s : State) : LayShown refKey s s.dropPending := layShown_mono (layShown_dropPending s) fun k h => by unfold refKey; tauto
theorem refKey_setFreq (s : State) (f : Int) : LayShown refKey s (s.setFreq f) := layShown_mono (layShown_setFreq s f) fun k h => by unfold refKey; tauto
theorem refKey_showEpoch (s : State) : LayShown refKey s s.showEpoch := layShown_mono (layShown_showEpoch s) fun k h => by unfold refKey; tauto

/-- The reference list and what is qualified are settings that a root's own changes leave. -/
theorem refList_of_objs {s t : State} {p : Nat → Prop} (h : ObjsBut s t p) (hp : ¬ p Ob.lay_ref_priority) : t.refList = s.refList := by
  unfold State.refList
  rw [objsBut_pw h hp]

theorem selectRef_same {s : State} {code : Nat} (h : code = s.pw Ob.lay_ref_selected) : s.selectRef code = s := if_pos h

/-- With no reference listed and none selected, a root keeps none. -/
theorem reselect_unlisted {s : State} (hlist : s.refList = []) (hsel : s.pw Ob.lay_ref_selected = 0) : s.reselect = s := by
  have hbest : s.bestRef = 0 := by rw [State.bestRef, hlist]; rfl
  unfold State.reselect
  rw [hbest, selectRef_same hsel.symm]
  split <;> rfl

/-- A root with no reference listed runs free on REFCLK (R83). -/
theorem becomeRoot_unlisted {s : State} (hlist : s.refList = []) : s.becomeRoot true = ((((crowned s).set Ob.lay_ref_selected 0).dropPending).setFreq 0).showEpoch := by
  have hsel : (((crowned s).set Ob.lay_ref_selected 0).dropPending).pw Ob.lay_ref_selected = 0 := (objsBut_pw (layShown_dropPending _).objs (by decide)).trans (pw_set_same _ _ _)
  have hunlisted : (((crowned s).set Ob.lay_ref_selected 0).dropPending).refList = [] := by
    rw [refList_of_objs (layShown_dropPending _).objs (by decide), refList_of_objs (objsBut_set _ _ _) (by decide), refList_of_objs (crowned_rest s).objs (by unfold crownKey; decide), hlist]
  rw [becomeRoot_eq, reselect_unlisted hunlisted hsel, if_pos hsel]

/-- The state of a part that has become root and selected its reference, beside what shows it as root. -/
theorem freeRoot_rest (s : State) : LayShown refKey s ((((s.set Ob.lay_ref_selected 0).dropPending).setFreq 0).showEpoch) :=
  layShown_trans (refKey_set s 0 (.inl rfl)) (layShown_trans (refKey_dropPending _) (layShown_trans (refKey_setFreq _ 0) (refKey_showEpoch _)))

theorem freeRoot_lay (s : State) : ((((s.set Ob.lay_ref_selected 0).dropPending).setFreq 0).showEpoch).lay.fine = s.lay.fine ∧
    ((((s.set Ob.lay_ref_selected 0).dropPending).setFreq 0).showEpoch).lay.freq = 0 ∧ ((((s.set Ob.lay_ref_selected 0).dropPending).setFreq 0).showEpoch).lay.listenAt = s.lay.listenAt := by
  have hdrop : ((s.set Ob.lay_ref_selected 0).dropPending).lay = s.lay := dropPending_lay _
  generalize (s.set Ob.lay_ref_selected 0).dropPending = t at hdrop
  have hlay := setFreq_lay t 0
  exact ⟨(congrArg LaySt.fine hlay :).trans (congrArg LaySt.fine hdrop :), (congrArg LaySt.freq hlay :), (congrArg LaySt.listenAt hlay :).trans (congrArg LaySt.listenAt hdrop :)⟩

theorem listenEnds : Claims.listenEnds := by
  intro s t0 hup hlisten hlong hrank hroot hheard hlist
  have hexec : exec .rootListenExpiry s = .next s.listenExpiry := congrArg Host.Outcome.next (run_up hup _)
  have hexpiry : s.listenExpiry = ({ s with lay := { s.lay with listenAt := none } } : State).becomeRoot true := by
    rw [State.listenExpiry, hlisten]
    dsimp only
    rw [if_pos (by simpa [hrank, hroot, State.past] using hlong), if_neg (by rw [hheard]; exact Bool.false_ne_true)]
  have hlay : (({ s with lay := { s.lay with listenAt := none } } : State)).lay.fine = s.lay.fine := rfl
  have hnone : (({ s with lay := { s.lay with listenAt := none } } : State)).lay.listenAt = none := rfl
  have hhere : RootShown crownKey s { s with lay := { s.lay with listenAt := none } } := rootShown_of_lay (layShown_lay (fun _ => False) s _) fun _ h => h.elim
  have hlist' : (({ s with lay := { s.lay with listenAt := none } } : State)).refList = [] := hlist
  rw [hexec, hexpiry, becomeRoot_unlisted hlist']
  have hpw : ∀ k, (({ s with lay := { s.lay with listenAt := none } } : State)).pw k = s.pw k := fun _ => rfl
  generalize ({ s with lay := { s.lay with listenAt := none } } : State) = s1 at hlay hnone hhere hpw
  obtain ⟨hstate, hnode, hhops, hupstream, hgen⟩ := crowned_shows s1
  obtain ⟨hfine, hlistens⟩ := crowned_fine s1
  have hcrown := rootShown_trans hhere (crowned_rest s1)
  rw [hpw] at hnode hgen
  generalize crowned s1 = s2 at *
  obtain ⟨hfine', hfree, hlistens'⟩ := freeRoot_lay s2
  have hfreed := freeRoot_rest s2
  generalize ((((s2.set Ob.lay_ref_selected 0).dropPending).setFreq 0).showEpoch) = t at *
  have hkept : ∀ k, ¬ refKey k → t.pw k = s2.pw k := fun k hk => objsBut_pw hfreed.objs hk
  have hall : RootShown (fun k => crownKey k ∨ refKey k) s t := rootShown_trans ⟨objsBut_mono hcrown.objs fun _ => .inl, hcrown.rest⟩ (rootShown_of_lay hfreed fun _ => .inr)
  refine ⟨t, rfl, ?_, ?_, ?_, ?_, ?_, ?_, hfree, ?_, ?_, ?_, hall.rest⟩
  · rw [hkept _ (by unfold refKey; decide), hstate]
  · rw [hkept _ (by unfold refKey; decide), hnode]
  · rw [hkept _ (by unfold refKey; decide), hhops]
  · rw [hkept _ (by unfold refKey; decide), hupstream]
  · rw [hkept _ (by unfold refKey; decide), hgen]
  · rw [hfine', hfine, hlay]
  · rw [hlistens', hlistens, hnone]
  · exact (congrArg State.sent hall.rest :)
  · refine objsBut_mono hall.objs fun k hk => ?_
    unfold crownKey refKey at hk
    tauto

/-- Settles O8: the listening window, a SYNC at a follower and at a root, a class-0 cell discarded, and the servo in FREE, steering and with outliers. -/
theorem layTimeIsAcquired : Obligations.LayTimeIsAcquired :=
  ⟨listenEnds, syncSteers, syncAtRoot, badLayCell, servoFree, servoSteers, servoOutlier⟩

end Sys2Proof.Proofs
end

section
/-! The loss of the upstream (R104), the backup root (R81) and its hand-back (R82). -/

namespace Sys2Proof.Proofs

open Sys2Proof.Machine Sys2Proof.Laws Sys2Proof.Claims

/-! A root's references and changes of time -/

/-- The objects that a root's choice of a reference may change: those of the reference and of a step that it brings, and lay_flags with its report. -/
def rootTimeKey (k : Nat) : Prop := refKey k ∨ k = Ob.lay_step_at ∨ k = Ob.lay_flags ∨ reportKey k

/-- A change of time at the root changes those objects, and no step of Lay time happens. -/
structure RootTime (s t : State) : Prop where
  objs : ObjsBut s t rootTimeKey
  fine : t.lay.fine = s.lay.fine

theorem rootTime_refl (s : State) : RootTime s s := ⟨objsBut_refl _ _, rfl⟩

theorem rootTime_trans {s t u : State} (h : RootTime s t) (k : RootTime t u) : RootTime s u := ⟨objsBut_trans h.objs k.objs, k.fine.trans h.fine⟩

theorem rootTime_of_shown {s t : State} (h : LayShown refKey s t) (hfine : t.lay.fine = s.lay.fine) : RootTime s t := ⟨objsBut_mono h.objs fun _ => .inl, hfine⟩

theorem rootTime_lay (s : State) (l : LaySt) (h : l.fine = s.lay.fine) : RootTime s { s with lay := l } := ⟨objsBut_of_eq rfl, h⟩

theorem rootTime_set (s : State) {key : Nat} (v : Int) (h : refKey key) : RootTime s (s.set key v) := rootTime_of_shown (refKey_set s v h) rfl

theorem rootTime_showPending (s : State) (d : Int) : RootTime s (s.showPending d) := rootTime_of_shown (refKey_showPending s d) rfl

theorem rootTime_dropPending (s : State) : RootTime s s.dropPending := rootTime_of_shown (refKey_dropPending s) (congrArg LaySt.fine (dropPending_lay s) :)

theorem crossWord_fine (s : State) (f : Int) : (s.crossWord f).lay.fine = s.lay.fine := (congrArg LaySt.fine (crossWord_lay s f) :)

theorem setFreq_fine (s : State) (f : Int) : (s.setFreq f).lay.fine = s.lay.fine := (congrArg LaySt.fine (setFreq_lay s f) :)

theorem rootTime_crossWord (s : State) (f : Int) : RootTime s (s.crossWord f) := rootTime_of_shown (layShown_crossWord refKey s f) (crossWord_fine s f)

theorem rootTime_showFreq (s : State) : RootTime s s.showFreq := rootTime_set s _ (.inr (.inl rfl))

theorem rootTime_setFreq (s : State) (f : Int) : RootTime s (s.setFreq f) := rootTime_of_shown (refKey_setFreq s f) (setFreq_fine s f)

theorem rootTime_showEpoch (s : State) : RootTime s s.showEpoch := rootTime_of_shown (refKey_showEpoch s) rfl

theorem rootTime_setRef (s : State) (code : Nat) (f : RefSt → RefSt) : RootTime s (s.setRef code f) := rootTime_lay s _ rfl

theorem rootTime_flag (s : State) (i : Nat) : RootTime s (s.raise 0 Ob.lay_flags i) :=
  ⟨objsBut_mono (raise_objs s 0 Ob.lay_flags i 0) fun _ hk => .inr (.inr (hk.imp (fun h => h.trans (fullKey_part _)) id)), (congrArg LaySt.fine (raise_lay s 0 Ob.lay_flags i 0) :)⟩

theorem rootTime_scheduleStep (s : State) (d : Int) : RootTime s (s.scheduleStep d) := by
  obtain ⟨hfine, hobjs, -⟩ := scheduleStep_rest s d
  refine ⟨objsBut_mono hobjs fun k hk => ?_, hfine⟩
  unfold rootTimeKey refKey
  tauto

/-- An offset found at the root is slewed, refused or made a step; Lay time does not jump now (R90-R92). -/
theorem rootTime_timeChange (s : State) (off : Int) : RootTime s (s.timeChange off) := by
  unfold State.timeChange
  extract_lets l x
  have hx : RootTime s x := rootTime_lay s _ rfl
  split
  · exact rootTime_trans hx (rootTime_lay x _ rfl)
  · split
    · refine rootTime_trans hx (rootTime_trans ?_ (rootTime_showPending _ 0))
      exact rootTime_lay x _ rfl
    · split
      · exact rootTime_trans hx (rootTime_trans (rootTime_showPending x _) (rootTime_flag _ 4))
      · exact rootTime_trans hx (rootTime_scheduleStep x _)

theorem rootTime_compareRef (s : State) (code : Nat) : RootTime s (s.compareRef code) := by
  unfold State.compareRef
  split
  · exact rootTime_timeChange s _
  · exact rootTime_timeChange s _
  · exact rootTime_timeChange s _
  · exact rootTime_refl s

/-- The part as it begins with a newly selected reference. -/
def refBegun (s : State) (code : Nat) : State :=
  ((({ s with lay := { s.lay with refused := none, wanted := none } } : State).dropPending).set Ob.lay_ref_selected code).setRef code fun r => { r with selectedAt := some s.now, baseline := none, driftFrom := none }

theorem selectRef_other {s : State} {code : Nat} (h : code ≠ s.pw Ob.lay_ref_selected) : s.selectRef code =
    if code = 0 then ((refBegun s code).crossWord s.meanFreq).showFreq.showEpoch else if code = 5 then ((refBegun s code).setFreq 0).showEpoch else ((refBegun s code).compareRef code).showEpoch := if_neg h

theorem rootTime_refBegun (s : State) (code : Nat) : RootTime s (refBegun s code) :=
  rootTime_trans (rootTime_lay s { s.lay with refused := none, wanted := none } rfl) (rootTime_trans (rootTime_dropPending _) (rootTime_trans (rootTime_set _ (code : Int) (.inl rfl)) (rootTime_setRef _ _ _)))

theorem rootTime_selectRef (s : State) (code : Nat) : RootTime s (s.selectRef code) := by
  by_cases h : code = s.pw Ob.lay_ref_selected
  · rw [selectRef_same h]
    exact rootTime_refl s
  · rw [selectRef_other h]
    refine rootTime_trans (rootTime_refBegun s code) ?_
    split
    · exact rootTime_trans (rootTime_crossWord _ _) (rootTime_trans (rootTime_showFreq _) (rootTime_showEpoch _))
    · split
      · exact rootTime_trans (rootTime_setFreq _ 0) (rootTime_showEpoch _)
      · exact rootTime_trans (rootTime_compareRef _ code) (rootTime_showEpoch _)

theorem rootTime_reselect (s : State) : RootTime s s.reselect := by
  unfold State.reselect
  split
  · exact rootTime_selectRef s _
  · exact rootTime_refl s

/-- A part that has become root selects its reference with no step of Lay time. -/
theorem rootTime_becomeRoot (s : State) : RootTime (crowned s) (s.becomeRoot true) := by
  have hselect : RootTime (crowned s) ((((crowned s).set Ob.lay_ref_selected 0).dropPending).reselect) :=
    rootTime_trans (rootTime_set _ _ (.inl rfl)) (rootTime_trans (rootTime_dropPending _) (rootTime_reselect _))
  rw [becomeRoot_eq]
  split
  · exact rootTime_trans hselect (rootTime_trans (rootTime_setFreq _ 0) (rootTime_showEpoch _))
  · exact hselect

/-! The loss of the upstream (R104) -/

/-- The part shows the port that it follows. -/
def followShown (s : State) (p : Nat) : State :=
  (((s.when (s.pw Ob.lay_upstream ≠ 0xFF && s.pw Ob.lay_upstream ≠ p) fun s => s.raise 0 Ob.lay_flags 8).set Ob.lay_upstream p).set Ob.lay_epoch_tai (b2n (s.port p).sync.tai)).set Ob.lay_utc_offset (s.port p).sync.utc

/-- The root that a port's sender follows, taken up. -/
def rootOf (l : LaySt) (t : SyncInfo) : LaySt := { l with node := t.node, hops := t.hops + 1, rank := t.rank, gen := t.gen, ref := t.ref, hasRoot := true, upHold := t.hold }

theorem follow_eq (s : State) (p : Nat) : s.follow p = ({ followShown s p with lay := rootOf (followShown s p).lay (s.port p).sync } : State).showRoot := rfl

theorem showRoot_objs (s : State) : ObjsBut s s.showRoot fun k => k = Ob.lay_root_node ∨ k = Ob.lay_hops :=
  objsBut_trans (objsBut_mono (objsBut_set s Ob.lay_root_node _) fun _ => .inl) (objsBut_mono (objsBut_set _ Ob.lay_hops _) fun _ => .inr)

theorem followShown_shows {s : State} {p : Nat} (hup : s.pw Ob.lay_upstream ≠ 0xFF) (hp : p ≠ s.pw Ob.lay_upstream) : (followShown s p).pw Ob.lay_upstream = p ∧ (followShown s p).on 0 Ob.lay_flags 8 = true ∧
    (followShown s p).lay = s.lay ∧ (followShown s p).layState = s.layState := by
  have hnew : (s.pw Ob.lay_upstream ≠ 0xFF && s.pw Ob.lay_upstream ≠ p) = true := by simp [hup, Ne.symm hp]
  unfold followShown State.when
  rw [if_pos hnew]
  refine ⟨?_, ?_, raise_lay _ _ _ _ _, ?_⟩
  · rw [pw_set_other _ _ _ _ (by decide), pw_set_other _ _ _ _ (by decide), pw_set_same, Int.toNat_natCast]
  · have hkept : ((((s.raise 0 Ob.lay_flags 8).set Ob.lay_upstream p).set Ob.lay_epoch_tai (b2n (s.port p).sync.tai)).set Ob.lay_utc_offset (s.port p).sync.utc).pw Ob.lay_flags = (s.raise 0 Ob.lay_flags 8).pw Ob.lay_flags := by
      rw [pw_set_other _ _ _ _ (by decide), pw_set_other _ _ _ _ (by decide), pw_set_other _ _ _ _ (by decide)]
    exact (congrArg (fun n => bit n 8) hkept).trans (raise_on s 0 Ob.lay_flags 8 0 not_reportKey_full)
  · unfold State.layState
    rw [pw_set_other _ _ _ _ (by decide), pw_set_other _ _ _ _ (by decide), pw_set_other _ _ _ _ (by decide)]
    exact raise_nat_other s 8 0 (fullKey_ne (by decide)) not_reportKey_full

/-- The part in HOLDOVER, before its flag. -/
def heldOver (s : State) : State :=
  ({ (((s.set Ob.lay_state layHoldover).set Ob.lay_upstream 0xFF).crossWord s.meanFreq) with
      lay := { (((s.set Ob.lay_state layHoldover).set Ob.lay_upstream 0xFF).crossWord s.meanFreq).lay with trim := 0, trimNs := 0, preHold := s.layState } } : State).showFreq

theorem enterHoldover_eq {s : State} (h : s.layState = layAcquire ∨ s.layState = layLocked) : s.enterHoldover = (heldOver s).raise 0 Ob.lay_flags 7 := if_pos (by simpa using h)

theorem heldOver_shows (s : State) : (heldOver s).pw Ob.lay_state = layHoldover ∧ (heldOver s).pw Ob.lay_upstream = 0xFF ∧
    ObjsBut s (heldOver s) fun k => k = Ob.lay_state ∨ k = Ob.lay_upstream ∨ k = Ob.lay_freq_adj := by
  unfold heldOver
  have hset : ObjsBut s ((s.set Ob.lay_state layHoldover).set Ob.lay_upstream 0xFF) fun k => k = Ob.lay_state ∨ k = Ob.lay_upstream :=
    objsBut_trans (objsBut_mono (objsBut_set s Ob.lay_state _) fun _ => .inl) (objsBut_mono (objsBut_set _ Ob.lay_upstream _) fun _ => .inr)
  have hstate : ((s.set Ob.lay_state layHoldover).set Ob.lay_upstream 0xFF).pw Ob.lay_state = layHoldover := (pw_set_other _ _ _ _ (by decide)).trans (pw_set_same _ _ _)
  have hup : ((s.set Ob.lay_state layHoldover).set Ob.lay_upstream 0xFF).pw Ob.lay_upstream = 0xFF := pw_set_same _ _ _
  generalize (s.set Ob.lay_state layHoldover).set Ob.lay_upstream 0xFF = t at *
  have hcross := layShown_crossWord (fun k => k = Ob.lay_freq_adj) t s.meanFreq
  generalize t.crossWord s.meanFreq = u at hcross
  have hshow := layShown_trans hcross (layShown_trans (layShown_lay (fun k => k = Ob.lay_freq_adj) u { u.lay with trim := 0, trimNs := 0, preHold := s.layState }) (layShown_showFreq _))
  exact ⟨(objsBut_pw hshow.objs (by decide)).trans hstate, (objsBut_pw hshow.objs (by decide)).trans hup, objsBut_trans (objsBut_mono hset fun _ h => h.imp_right .inl) (objsBut_mono hshow.objs fun _ h => .inr (.inr h))⟩

theorem heldOver_lay (s : State) : (heldOver s).lay = { s.lay with freq := s.meanFreq, word := (heldOver s).lay.word, wordAt := (heldOver s).lay.wordAt, trim := 0, trimNs := 0, preHold := s.layState } :=
  congrArg (fun l : LaySt => { l with trim := 0, trimNs := 0, preHold := s.layState }) (crossWord_lay ((s.set Ob.lay_state layHoldover).set Ob.lay_upstream 0xFF) s.meanFreq)

theorem upstreamHolds : Claims.upstreamHolds := by
  intro s hup hroot hfollows
  have hexec : exec .upstreamLoss s = .next s.upstreamLoss := congrArg Host.Outcome.next (run_up hup _)
  have hlost : s.eligible (s.pw Ob.lay_upstream) = false → s.upstreamLoss = match s.bestPort with
      | some p => s.follow p
      | none => s.enterHoldover := fun h => if_neg (by simp [hroot, hfollows, h])
  rw [hexec]
  refine ⟨fun p hgone hbest hp => ?_, fun hgone hbest hstate => ?_, fun hstays => ?_⟩
  · obtain ⟨hupstream, hflag, hlay, hstate⟩ := followShown_shows hfollows hp
    refine ⟨s.follow p, by rw [hlost hgone, hbest], ?_⟩
    rw [follow_eq]
    generalize followShown s p = t at *
    have hobjs := showRoot_objs { t with lay := rootOf t.lay (s.port p).sync }
    refine ⟨(objsBut_pw hobjs (by decide)).trans hupstream, (congrArg (fun n => bit n 8) (objsBut_pw hobjs (by decide))).trans hflag, (congrArg LaySt.fine hlay :), (congrArg LaySt.freq hlay :),
      (layState_of_objs hobjs (by decide)).trans hstate, rfl, rfl, rfl⟩
  · obtain ⟨hholds, hnone, hobjs⟩ := heldOver_shows s
    have hlay := heldOver_lay s
    refine ⟨(heldOver s).raise 0 Ob.lay_flags 7, by rw [hlost hgone, hbest, ← enterHoldover_eq hstate], ?_⟩
    generalize heldOver s = t at *
    have hkept : ∀ k, k ≠ Ob.lay_flags → ¬ reportKey k → (t.raise 0 Ob.lay_flags 7).pw k = t.pw k := fun k hk hr => raise_nat_other t 7 0 (by simpa [fullKey] using hk) (by simpa [fullKey] using hr)
    rw [raise_lay]
    refine ⟨(hkept _ (by decide) (not_reportKey (by decide))).trans hholds, (hkept _ (by decide) (not_reportKey (by decide))).trans hnone, raise_on _ _ _ _ _ not_reportKey_full, (congrArg LaySt.fine hlay :),
      (congrArg LaySt.freq hlay :), (congrArg LaySt.trim hlay :), (congrArg LaySt.preHold hlay :), (congrArg LaySt.node hlay :), (congrArg LaySt.rank hlay :), (congrArg LaySt.hops hlay :), ?_⟩
    refine objsBut_trans (objsBut_mono hobjs fun k hk => ?_) (objsBut_mono (raise_objs t 0 Ob.lay_flags 7 0) fun k hk => ?_)
    · tauto
    · rw [fullKey_part] at hk
      tauto
  · exact congrArg Host.Outcome.next (if_pos (by simp [hstays]))

/-! The backup root (R81) -/

theorem backupTakes : Claims.backupTakes := by
  intro s hup
  have hexec : exec .rootTakeover s = .next s.rootTakeover := congrArg Host.Outcome.next (run_up hup _)
  rw [hexec]
  unfold State.rootTakeover
  extract_lets silent
  refine ⟨fun hrank hstate hsilent => ?_, fun hno => ?_⟩
  · have hgone : silent = true := by
      show (match s.lay.rank1At with
        | some t => s.past t (s.pw Ob.lay_root_loss_ms * 1000000)
        | none => true) = true
      split
      · next t ht => exact decide_eq_true (hsilent t ht)
      · rfl
    have hgo : (s.pw Ob.lay_rank = 2 && (s.layState = layLocked || s.layState = layHoldover) && silent) = true := by
      rw [hgone, Bool.and_true]
      simpa using ⟨hrank, hstate⟩
    refine ⟨(s.becomeRoot true).raise 0 Ob.lay_flags 1, by rw [if_pos hgo], ?_⟩
    obtain ⟨hroot, hnode, hhops, hupstream, hgen⟩ := crowned_shows s
    obtain ⟨hfine, -⟩ := crowned_fine s
    have htaken := rootTime_becomeRoot s
    have hfree : s.refList = [] → (s.becomeRoot true).lay.freq = 0 := fun h => by rw [becomeRoot_unlisted h]; exact (freeRoot_lay _).2.1
    generalize s.becomeRoot true = u at *
    have hall : RootTime (crowned s) (u.raise 0 Ob.lay_flags 1) := rootTime_trans htaken (rootTime_flag u 1)
    have hkept : ∀ k, ¬ rootTimeKey k → (u.raise 0 Ob.lay_flags 1).pw k = (crowned s).pw k := fun k hk => objsBut_pw hall.objs hk
    have hapart : ∀ k, k < 0x200000 → k ≠ Ob.lay_step_at → k ≠ Ob.lay_flags → ¬ refKey k → ¬ rootTimeKey k := by
      intro k hlow hat hflags href h
      rcases h with h | h | h | h
      · exact href h
      · exact hat h
      · exact hflags h
      · exact not_reportKey hlow h
    refine ⟨?_, ?_, ?_, ?_, ?_, raise_on _ _ _ _ _ not_reportKey_full, hall.fine.trans hfine, fun h => by rw [raise_lay]; exact hfree h⟩
    · rw [hkept _ (hapart _ (by decide) (by decide) (by decide) (by unfold refKey; decide)), hroot]
    · rw [hkept _ (hapart _ (by decide) (by decide) (by decide) (by unfold refKey; decide)), hnode]
    · rw [hkept _ (hapart _ (by decide) (by decide) (by decide) (by unfold refKey; decide)), hhops]
    · rw [hkept _ (hapart _ (by decide) (by decide) (by decide) (by unfold refKey; decide)), hupstream]
    · rw [hkept _ (hapart _ (by decide) (by decide) (by decide) (by unfold refKey; decide)), hgen]
  · have hstays : (s.pw Ob.lay_rank = 2 && (s.layState = layLocked || s.layState = layHoldover) && silent) = false := by
      rcases hno with h | ⟨hl, hh⟩ | ⟨t0, ht0, hheard⟩
      · simp [h]
      · simp [hl, hh]
      · have hlive : silent = false := by
          show (match s.lay.rank1At with
            | some t => s.past t (s.pw Ob.lay_root_loss_ms * 1000000)
            | none => true) = false
          rw [ht0]
          exact decide_eq_false (by omega)
        rw [hlive, Bool.and_false]
    rw [if_neg (by rw [hstays]; exact Bool.false_ne_true)]

/-! The hand-back (R82) -/

theorem row_lay_root_handback {d : ObjDef} (h : objDef Ob.lay_root_handback = some d) : d.acc = .wo ∧ d.clamp = .mask 1 := by
  have hrow : (objDef Ob.lay_root_handback).map (fun d => (d.acc, d.clamp)) = some (.wo, .mask 1) := by rfl
  rw [h] at hrow
  exact Prod.ext_iff.1 (Option.some.inj hrow)

theorem layRootHandback_exec {s : State} {m : Msg} {d : ObjDef} (h : WritesOne s m d 0) (hkey : m.key = Ob.lay_root_handback) (hone : decodeVal d.ty m.payload = 1) :
    exec (.layRootHandback m) s = .next ((s.arrived m).handback.answer 0x02 m 0 d.ty.code []) := by
  obtain ⟨hwo, hclamp⟩ := row_lay_root_handback (hkey ▸ objDef_of_found h.found)
  have hval : (s.arrived m).clampVal 0 m.key d (decodeVal d.ty m.payload) = 1 := by
    rw [hkey, hone, State.clampVal, hclamp]
    rfl
  refine congrArg Host.Outcome.next (corrixFor_write_one h (by simp [hkey]) (by rw [hkey]; decide) ?_)
  rw [writeOne_wo h hwo, hval, hkey]
  rfl

theorem handbackBegins : Claims.handbackBegins := by
  intro s m d h hkey hone
  have hnow : (s.arrived m).now = s.now := (congrArg State.now (arrived_rest s m) :)
  rw [layRootHandback_exec h hkey hone]
  refine ⟨fun hroot hrank => ?_, fun hno => ?_⟩
  · have hgo : ((s.arrived m).isRoot && (s.arrived m).pw Ob.lay_rank = 2) = true := by simp [hroot, hrank]
    have hbegun : (s.arrived m).handback = { s.arrived m with lay := { (s.arrived m).lay with handbackAt := some (s.arrived m).now } } := if_pos hgo
    rw [hbegun, hnow]
  · have hgo : ((s.arrived m).isRoot && (s.arrived m).pw Ob.lay_rank = 2) = false := by
      rcases hno with h | h <;> simp [h]
    rw [State.handback, if_neg (by rw [hgo]; exact Bool.false_ne_true)]

/-- The part shows a servo state, with no amount pending any more but that of a scheduled step. -/
def followerShown (s : State) (st : Nat) : State := (s.set Ob.lay_state st).dropPending

/-- A servo that begins afresh. -/
def freshServo (l : LaySt) (acquired : Option Nat) : LaySt := { l with good := 0, bad := 0, handbackAt := none, slew := 0, refused := none, wanted := none, acquiredAt := acquired }

theorem becomeFollower_eq (s : State) (st : Nat) :
    s.becomeFollower st = ({ followerShown s st with lay := freshServo (followerShown s st).lay (if st = layAcquire then some s.now else none) } : State).set Ob.lay_root_node 0xFFFF := rfl

theorem followerShown_shows (s : State) (st : Nat) : (followerShown s st).pw Ob.lay_state = st ∧ (followerShown s st).lay = s.lay ∧
    LayShown (fun k => k = Ob.lay_state ∨ k = Ob.lay_step_pending_mag ∨ k = Ob.lay_step_pending_neg) s (followerShown s st) := by
  have hdrop := layShown_dropPending (s.set Ob.lay_state st)
  refine ⟨?_, dropPending_lay _, layShown_trans (layShown_mono (layShown_set s Ob.lay_state st) fun _ => .inl) (layShown_mono hdrop fun _ => .inr)⟩
  rw [followerShown, objsBut_pw hdrop.objs (by decide), pw_set_same, Int.toNat_natCast]

theorem becomeFollower_shows (s : State) (st : Nat) : (s.becomeFollower st).pw Ob.lay_state = st ∧ (s.becomeFollower st).pw Ob.lay_root_node = 0xFFFF ∧ (s.becomeFollower st).lay.handbackAt = none ∧
    (s.becomeFollower st).lay.fine = s.lay.fine ∧
    LayShown (fun k => k = Ob.lay_state ∨ k = Ob.lay_root_node ∨ k = Ob.lay_step_pending_mag ∨ k = Ob.lay_step_pending_neg) s (s.becomeFollower st) := by
  obtain ⟨hstate, hlay, hshown⟩ := followerShown_shows s st
  rw [becomeFollower_eq]
  generalize followerShown s st = t at *
  refine ⟨(pw_set_other _ _ _ _ (by decide)).trans hstate, pw_set_same _ _ _, rfl, (congrArg LaySt.fine hlay :), ?_⟩
  exact layShown_trans (layShown_mono hshown fun k h => h.imp_right .inr) (layShown_trans (layShown_lay _ t _) (layShown_mono (layShown_set _ Ob.lay_root_node _) fun _ h => .inr (.inl h)))

theorem handbackEnds : Claims.handbackEnds := by
  intro s hup
  have hexec : exec .handbackEnd s = .next s.handbackEnd := congrArg Host.Outcome.next (run_up hup _)
  have hbegun : ∀ t0, s.lay.handbackAt = some t0 → s.handbackEnd = if s.past t0 10000000 then s.becomeFollower layFree else s := fun t0 h => by rw [State.handbackEnd, h]
  rw [hexec]
  refine ⟨fun t0 ht0 hlong => ?_, fun hno => ?_⟩
  · obtain ⟨hstate, hnode, hback, hfine, hshown⟩ := becomeFollower_shows s layFree
    refine ⟨s.becomeFollower layFree, ?_, hstate, hnode, hback, hfine, hshown.objs, hshown.rest⟩
    rw [hbegun t0 ht0, if_pos (show s.past t0 10000000 = true from decide_eq_true hlong)]
  · rcases hno with h | ⟨t0, ht0, hsoon⟩
    · rw [State.handbackEnd, h]
    · rw [hbegun t0 ht0, if_neg (by simp only [State.past, decide_eq_true_eq]; omega)]

/-- Settles O10: the loss of the upstream, the backup root that takes over, and its hand-back. -/
theorem rootsHandOver : Obligations.RootsHandOver := ⟨upstreamHolds, backupTakes, handbackBegins, handbackEnds⟩

end Sys2Proof.Proofs
end

section
/-! References of the root (R83-R89): qualified, lost, measured, and drifting. -/

namespace Sys2Proof.Proofs

open Sys2Proof.Machine Sys2Proof.Laws Sys2Proof.Claims

theorem ref_setRef_same (s : State) (code : Nat) (f : RefSt → RefSt) : (s.setRef code f).ref code = f (s.ref code) := smGet_smPut_same _ _ _ _

theorem ref_setRef_other (s : State) {code k : Nat} (f : RefSt → RefSt) (h : k ≠ code) : (s.setRef code f).ref k = s.ref k := smGet_smPut_other _ _ _ h

theorem qualified_of_bit {s : State} {code : Nat} (h : code ≤ 4) : s.qualified code = bit (s.pw Ob.lay_ref_qualified) code := by
  have hcode : code ≠ 5 := by omega
  simp [State.qualified, hcode]

/-! Qualification (R84) -/

theorem orBits_shows (s : State) (key m : Nat) : (s.orBits 0 key m).pw key = s.pw key ||| m ∧ ObjsBut s (s.orBits 0 key m) fun k => k = key := by
  refine ⟨(nat_put_same s 0 key _).trans (Int.toNat_natCast _), ?_⟩
  exact objsBut_set s key _

theorem bit_or_pow (n code i : Nat) : bit (n ||| 2 ^ code) i = (bit n i || decide (i = code)) := by
  simp only [bit, Nat.testBit_or, Nat.testBit_two_pow, eq_comm]

theorem refQualifies : Claims.refQualifies := by
  intro s code t0 hup hlow hhigh hvalid hlong hbarred hhere hroot
  have hexec : exec (.refQualify code) s = .next (s.refQualify code) := congrArg Host.Outcome.next (run_up hup _)
  rw [hexec]
  by_cases hq : s.qualified code = true
  · have hstill : s.refQualify code = s := by
      rw [State.refQualify, hvalid]
      exact if_pos (by simp [hq])
    exact ⟨s, by rw [hstill], (qualified_of_bit hhigh).symm.trans hq, fun _ _ => rfl, objsBut_refl _ _, rfl⟩
  · obtain ⟨hbits, hobjs⟩ := orBits_shows s Ob.lay_ref_qualified (2 ^ code)
    have hfollower : (s.orBits 0 Ob.lay_ref_qualified (2 ^ code)).isRoot = false := (isRoot_of_objs hobjs (by decide)).trans hroot
    have hset : s.refQualify code = s.orBits 0 Ob.lay_ref_qualified (2 ^ code) := by
      have hgo : (decide (code = 0) || decide (4 < code) || s.qualified code || !(s.past t0 (s.pw Ob.lay_ref_qual_s * 1000000000)) || decide (s.now < (s.ref code).barredTo) || s.refGone code false) = false := by
        have hpast : s.past t0 (s.pw Ob.lay_ref_qual_s * 1000000000) = true := decide_eq_true hlong
        have hzero : code ≠ 0 := by omega
        simp [hq, hpast, hhere, hzero, hhigh, hbarred]
      rw [State.refQualify]
      dsimp only
      rw [hvalid]
      dsimp only
      rw [if_neg (by rw [hgo]; exact Bool.false_ne_true), if_neg (by rw [hfollower]; exact Bool.false_ne_true)]
    refine ⟨_, by rw [hset], ?_, fun i hi => ?_, hobjs, rfl⟩
    · rw [hbits, bit_or_pow]; simp
    · rw [hbits, bit_or_pow]; simp [hi]

/-! Loss (R84, R89) -/

/-- The part with a reference no longer qualified. -/
def refOut (s : State) (code : Nat) : State :=
  (s.put 0 Ob.lay_ref_qualified (clearBit (s.pw Ob.lay_ref_qualified) code)).setRef code fun r => { r with validFrom := none, driftFrom := none }

theorem refDrop_eq (s : State) (code flag : Nat) : s.refDrop code flag =
    if (refOut s code).isRoot && (refOut s code).pw Ob.lay_ref_selected = code then ((refOut s code).raise 0 Ob.lay_flags flag).reselect else refOut s code := rfl

theorem refOut_objs (s : State) (code : Nat) : ObjsBut s (refOut s code) fun k => k = Ob.lay_ref_qualified :=
  objsBut_trans (t := s.set Ob.lay_ref_qualified (clearBit (s.pw Ob.lay_ref_qualified) code)) (objsBut_set s Ob.lay_ref_qualified _) (objsBut_of_eq rfl)

theorem refOut_qualified (s : State) (code : Nat) : bit ((refOut s code).pw Ob.lay_ref_qualified) code = false := by
  have hpw : (refOut s code).pw Ob.lay_ref_qualified = clearBit (s.pw Ob.lay_ref_qualified) code := (nat_put_same s 0 Ob.lay_ref_qualified _).trans (Int.toNat_natCast _)
  rw [hpw, bit_clearBit]
  simp

theorem refOut_ref (s : State) (code : Nat) : (refOut s code).ref code = { s.ref code with validFrom := none, driftFrom := none } := ref_setRef_same _ code _

theorem refOut_fine (s : State) (code : Nat) : (refOut s code).lay.fine = s.lay.fine ∧ (refOut s code).meanFreq = s.meanFreq := ⟨rfl, rfl⟩

/-- The acting root that has lost its only reference: none selected, at the mean frequency of its last second. -/
def refless (s : State) : State := ((refBegun s 0).crossWord s.meanFreq).showFreq.showEpoch

theorem reselect_lost {s : State} {code : Nat} (hroot : s.isRoot = true) (hsel : s.pw Ob.lay_ref_selected = code) (hpos : 1 ≤ code) (hlist : s.refList = [code]) (hq : s.qualified code = false) :
    s.reselect = refless s := by
  have hbest : s.bestRef = 0 := by
    rw [State.bestRef, hlist, List.find?_cons, hq]
    rfl
  have hother : 0 ≠ s.pw Ob.lay_ref_selected := by omega
  rw [State.reselect, if_pos hroot, hbest, selectRef_other hother, if_pos rfl]
  rfl

theorem ref_of_refs {s t : State} (h : t.lay.refs = s.lay.refs) (k : Nat) : t.ref k = s.ref k := by rw [State.ref, State.ref, h]

theorem refBegun_ref (s : State) {code k : Nat} (h : k ≠ code) : (refBegun s code).ref k = s.ref k :=
  (ref_setRef_other _ _ h).trans (ref_of_refs (congrArg LaySt.refs (dropPending_lay { s with lay := { s.lay with refused := none, wanted := none } }) :) k)

theorem refKey_refBegun (s : State) (code : Nat) : LayShown refKey s (refBegun s code) :=
  layShown_trans (layShown_lay refKey s { s.lay with refused := none, wanted := none }) (layShown_trans (refKey_dropPending _) (layShown_trans (refKey_set _ (code : Int) (.inl rfl)) (layShown_lay refKey _ _)))

theorem refless_shows (s : State) : (refless s).pw Ob.lay_ref_selected = 0 ∧ (refless s).lay.fine = s.lay.fine ∧ (refless s).lay.freq = s.meanFreq ∧ (∀ k, k ≠ 0 → (refless s).ref k = s.ref k) ∧ LayShown refKey s (refless s) := by
  have hbegun : (refBegun s 0).pw Ob.lay_ref_selected = 0 := pw_set_same _ Ob.lay_ref_selected 0
  have hrefs : ∀ k, k ≠ 0 → (refBegun s 0).ref k = s.ref k := fun k h => refBegun_ref s h
  have hfine := (rootTime_refBegun s 0).fine
  have hchosen := refKey_refBegun s 0
  unfold refless
  generalize refBegun s 0 = t at *
  have hcross : LayShown (fun k => k = Ob.lay_freq_adj) t (t.crossWord s.meanFreq) := layShown_crossWord _ t s.meanFreq
  have hshown := layShown_trans hcross (layShown_showFreq _)
  have hepoch := layShown_showEpoch (t.crossWord s.meanFreq).showFreq
  have hall : LayShown refKey t (t.crossWord s.meanFreq).showFreq.showEpoch := layShown_trans (layShown_mono hshown fun _ h => .inr (.inl h)) (refKey_showEpoch _)
  refine ⟨?_, (crossWord_fine t _).trans hfine, crossWord_freq t _, fun k hk => ?_, layShown_trans hchosen hall⟩
  · rw [objsBut_pw hepoch.objs (by decide), objsBut_pw hshown.objs (by decide), hbegun]
  · exact (ref_of_refs (congrArg LaySt.refs (crossWord_lay t s.meanFreq) :) k).trans (hrefs k hk)

/-- The acting root's selected reference, the only one listed, loses qualification: its flag is set, none is selected, and the rate is held. -/
theorem refDrop_selected {s : State} {code flag : Nat} (hroot : s.isRoot = true) (hsel : s.pw Ob.lay_ref_selected = code) (hlow : 1 ≤ code) (hhigh : code ≤ 4) (hlist : s.refList = [code]) :
    bit ((s.refDrop code flag).pw Ob.lay_ref_qualified) code = false ∧ (s.refDrop code flag).on 0 Ob.lay_flags flag = true ∧ (s.refDrop code flag).pw Ob.lay_ref_selected = 0 ∧
    (s.refDrop code flag).lay.fine = s.lay.fine ∧ (s.refDrop code flag).lay.freq = s.meanFreq ∧ (s.refDrop code flag).ref code = { s.ref code with validFrom := none, driftFrom := none } := by
  have hout := refOut_objs s code
  have hqualified := refOut_qualified s code
  have href := refOut_ref s code
  obtain ⟨hfine, hmean⟩ := refOut_fine s code
  have hroot' : (refOut s code).isRoot = true := (isRoot_of_objs hout (by decide)).trans hroot
  have hsel' : (refOut s code).pw Ob.lay_ref_selected = code := (objsBut_pw hout (by decide)).trans hsel
  have hlist' : (refOut s code).refList = [code] := (refList_of_objs hout (by decide)).trans hlist
  rw [refDrop_eq, if_pos (by simp [hroot', hsel'])]
  generalize refOut s code = t at *
  have hraised := raise_objs t 0 Ob.lay_flags flag 0
  have hkept : ∀ k, k < 0x200000 → k ≠ Ob.lay_flags → ¬ (k = fullKey 0 Ob.lay_flags ∨ reportKey k) := fun k hlow hne h => h.elim (fun h => hne (h.trans (fullKey_part _))) (not_reportKey hlow)
  have hlost : (t.raise 0 Ob.lay_flags flag).reselect = refless (t.raise 0 Ob.lay_flags flag) := by
    refine reselect_lost ((isRoot_of_objs hraised (hkept _ (by decide) (by decide))).trans hroot') ((objsBut_pw hraised (hkept _ (by decide) (by decide))).trans hsel') hlow
      ((refList_of_objs hraised (hkept _ (by decide) (by decide))).trans hlist') ?_
    rw [qualified_of_bit hhigh, objsBut_pw hraised (hkept _ (by decide) (by decide)), hqualified]
  have hbit := objsBut_pw hraised (hkept Ob.lay_ref_qualified (by decide) (by decide))
  have hon : (t.raise 0 Ob.lay_flags flag).on 0 Ob.lay_flags flag = true := raise_on _ _ _ _ _ not_reportKey_full
  have hlay : (t.raise 0 Ob.lay_flags flag).lay = t.lay := raise_lay _ _ _ _ _
  have hnow : (t.raise 0 Ob.lay_flags flag).now = t.now := raise_now _ _ _ _ _
  rw [hlost]
  generalize t.raise 0 Ob.lay_flags flag = u at *
  obtain ⟨hnone, hfine', hfreq, hrefs, hshown⟩ := refless_shows u
  have humean : u.meanFreq = t.meanFreq := by simp only [State.meanFreq, hlay, hnow]
  generalize refless u = v at *
  refine ⟨?_, ?_, hnone, hfine'.trans ((congrArg LaySt.fine hlay :).trans hfine), hfreq.trans (humean.trans hmean), ?_⟩
  · rw [objsBut_pw hshown.objs (by unfold refKey; decide), hbit, hqualified]
  · exact (congrArg (fun n => bit n flag) (objsBut_pw hshown.objs (by unfold refKey; decide))).trans hon
  · rw [hrefs code (by omega), ref_of_refs (congrArg LaySt.refs hlay :), href]

theorem refLoses : Claims.refLoses := by
  intro s l hup hlow hhigh hq hgone
  have hexec : exec (.refLost l) s = .next (s.refLost l.code l.frefStopped) := congrArg Host.Outcome.next (run_up hup _)
  have hdrop : s.refLost l.code l.frefStopped = s.refDrop l.code 2 := by
    have hzero : l.code ≠ 0 := by omega
    exact if_neg (by simp [hq, hgone, hzero, hhigh])
  rw [hexec, hdrop]
  refine ⟨fun hroot => ?_, fun hroot hsel hlist => ?_⟩
  · have hout := refOut_objs s l.code
    have hfollower : (refOut s l.code).isRoot = false := (isRoot_of_objs hout (by decide)).trans hroot
    have hplain : s.refDrop l.code 2 = refOut s l.code := by
      rw [refDrop_eq, hfollower, Bool.false_and]
      exact if_neg Bool.false_ne_true
    refine ⟨refOut s l.code, by rw [hplain], refOut_qualified s l.code, ?_, hout, rfl⟩
    rw [refOut_ref]
  · obtain ⟨hbit, hflag, hnone, hfine, hfreq, -⟩ := refDrop_selected (flag := 2) hroot hsel hlow hhigh hlist
    exact ⟨_, rfl, hbit, hflag, hnone, hfine, hfreq⟩

/-! Measured and drifting (R87) -/

/-- A reference with the frequency measured, and the baseline that it may become (R87). -/
def refMeasured (s : State) (code : Nat) (f : Int) (r : RefSt) : RefSt :=
  { r with freq := some f,
           baseline := match r.baseline, r.selectedAt with
             | none, some t => if s.isRoot && code = s.pw Ob.lay_ref_selected && s.past t 10000000000 then some f else none
             | b, _ => b }

theorem refMeasures : Claims.refMeasures := by
  intro s code f hup hroot hlow hhigh
  have hexec : exec (.refMonitorMeasure [(code, f)]) s = .next (s.refMeasure [(code, f)]) := congrArg Host.Outcome.next (run_up hup _)
  rw [hexec]
  refine ⟨fun hq => ?_, fun hq => ?_⟩
  · have hset : s.refMeasure [(code, f)] = s.setRef code (refMeasured s code f) := by
      unfold State.refMeasure
      have hone : [(code, f)].filter (fun e => s.qualified e.1 && decide (e.1 ≤ 4)) = [(code, f)] := by simp [hq, hhigh]
      rw [hone]
      extract_lets t
      have ht : t.isRoot = false := hroot
      rw [if_neg (by rw [ht]; exact Bool.false_ne_true)]
      rfl
    refine ⟨s.setRef code (refMeasured s code f), by rw [hset], ?_, fun k hk => ref_setRef_other s _ hk, rfl⟩
    rw [ref_setRef_same]
    rfl
  · have hstill : s.refMeasure [(code, f)] = s := by
      unfold State.refMeasure
      have hnone : [(code, f)].filter (fun e => s.qualified e.1 && decide (e.1 ≤ 4)) = [] := by simp [hq]
      rw [hnone]
      exact if_neg (by rw [show (s.each ([] : List (Nat × Int)) _).isRoot = false from hroot]; exact Bool.false_ne_true)
    rw [hstill]

theorem refDrifts : Claims.refDrifts := by
  intro s code t0 hup hroot hsel hlow hhigh hlist hdrift hlong
  have hexec : exec .refDrift s = .next s.refDrift := congrArg Host.Outcome.next (run_up hup _)
  have hdrop : s.refDrift = (s.setRef code fun r => { r with barredTo := s.now + 60000000000 }).refDrop code 3 := by
    have hpast : s.past t0 (s.pw Ob.lay_drift_dwell_s * 1000000000) = true := decide_eq_true hlong
    unfold State.refDrift
    extract_lets c
    have hc : c = code := hsel
    rw [hc, hdrift]
    exact if_pos (by simp [hroot, hlow, hhigh, hpast])
  rw [hexec, hdrop]
  obtain ⟨hbit, hflag, hnone, hfine, -, href⟩ := refDrop_selected (s := s.setRef code fun r => { r with barredTo := s.now + 60000000000 }) (flag := 3) hroot hsel hlow hhigh hlist
  exact ⟨_, rfl, hbit, by rw [href, ref_setRef_same], hflag, hnone, hfine⟩

/-- Settles O11: references qualified, lost, measured and drifting. -/
theorem referencesAreJudged : Obligations.ReferencesAreJudged := ⟨refQualifies, refLoses, refMeasures, refDrifts⟩

end Sys2Proof.Proofs
end

section
/-! Lay time at the pins (R77, R111-R113), the Braid's hold (R105), and PTP (R85, R109, R110). -/

namespace Sys2Proof.Proofs

open Sys2Proof.Machine Sys2Proof.Laws Sys2Proof.Claims

/-! Captures (R77, R113) -/

theorem gridNearest : Claims.gridNearest := by
  intro t
  unfold toGrid
  refine ⟨Nat.mul_mod_left _ _, ?_, ?_⟩ <;> (simp only [layGrid]; omega)

theorem ppsCaptured : Claims.ppsCaptured := by
  intro s fref hup hroot
  have hexec : exec (.ppsInCapture fref) s = .next (s.ppsIn fref) := congrArg Host.Outcome.next (run_up hup _)
  rw [hexec]
  unfold State.ppsIn
  extract_lets t r good u
  have hu : u.isRoot = false := (isRoot_of_objs (objsBut_set s Ob.lay_pps_last t) (by decide)).trans hroot
  rw [if_neg (by rw [hu, Bool.false_and]; exact Bool.false_ne_true)]
  refine ⟨u, rfl, (pw_set_same s Ob.lay_pps_last t).trans (Int.toNat_natCast _), ?_, objsBut_set s Ob.lay_pps_last t, rfl⟩
  show ((State.setRef _ 3 _).ref 3).lastEdge = _
  rw [ref_setRef_same]

theorem fsyncCaptured : Claims.fsyncCaptured := by
  intro s hup hroot
  have hexec : exec .fsyncInCapture s = .next s.fsyncIn := congrArg Host.Outcome.next (run_up hup _)
  rw [hexec]
  unfold State.fsyncIn
  extract_lets t r num den good n passed periods gap u
  have hu : u.isRoot = false := (isRoot_of_objs (objsBut_set s Ob.lay_fsync_last t) (by decide)).trans hroot
  rw [if_neg (by rw [hu, Bool.false_and]; exact Bool.false_ne_true)]
  refine ⟨u, rfl, (pw_set_same s Ob.lay_fsync_last t).trans (Int.toNat_natCast _), ?_, objsBut_set s Ob.lay_fsync_last t, rfl⟩
  show ((State.setRef _ 4 _).ref 4).lastEdge = _
  rw [ref_setRef_same]

/-! The Braid's hold (R105) -/

theorem braidHolds : Claims.braidHolds := by
  intro s b h hpos hdies
  have hexec : exec (.braidHoldover b) s = .next (s.braidHoldover b.die b.linked) := congrArg Host.Outcome.next (onDie_upDie h _)
  have hdie : ¬ (b.die = 0 || s.dies ≤ b.die) = true := by simp; omega
  rw [hexec]
  unfold State.braidHoldover
  rw [if_neg hdie]
  refine ⟨fun hlost => ?_, fun hlinked => ?_⟩
  · rw [if_neg (by rw [hlost]; exact Bool.false_ne_true)]
    have hhold : smGet {} (smPut {} s.lay.holds b.die ({ fine := s.lay.fine, freq := s.lay.word, on := true } : HoldClk)) b.die = { fine := s.lay.fine, freq := s.lay.word, on := true } := smGet_smPut_same _ _ _ _
    generalize hx : ({ s with lay := { s.lay with holds := smPut {} s.lay.holds b.die ({ fine := s.lay.fine, freq := s.lay.word, on := true } : HoldClk) } } : State) = x
    have hxhold : smGet {} x.lay.holds b.die = { fine := s.lay.fine, freq := s.lay.word, on := true } := by rw [← hx]; exact hhold
    have hxfine : x.lay.fine = s.lay.fine := by rw [← hx]
    have hxrest : x = { s with lay := x.lay } := by rw [← hx]
    have hlay : (x.raise 0 Ob.lay_flags 7).lay = x.lay := raise_lay _ _ _ _ _
    refine ⟨x.raise 0 Ob.lay_flags 7, rfl, by rw [hlay, hxhold], ?_, by rw [hlay, hxfine], raise_on _ _ _ _ _ not_reportKey_full, ?_⟩
    · rw [State.layOf, hlay, hxhold]
      rfl
    · rw [hlay, ← hxrest]
      exact raise_reportOnly x 0 Ob.lay_flags 7 0 (fullKey_part _)
  · rw [if_pos hlinked]
    refine ⟨_, rfl, ?_, fun d hd => ?_, rfl⟩
    · show (if (smGet ({} : HoldClk) (smPut {} s.lay.holds b.die {}) b.die).on = true then _ else _) = _
      rw [smGet_smPut_same]
      rfl
    · show (if (smGet ({} : HoldClk) (smPut {} s.lay.holds b.die {}) d).on = true then _ else _) = _
      rw [smGet_smPut_other _ _ _ hd]
      rfl

/-! LAY_EVT outputs (R111, R112) -/

/-- Edges fall on the grid (R77). -/
theorem gridQuot_grid (t : Int) (n : Nat) : (gridQuot t n).toNat % layGrid = 0 := by
  unfold gridQuot
  generalize (2 * t + n * layGrid) / (2 * n * layGrid) = q
  simp only [layGrid]
  omega

/-- An output that takes a level, with its edge where that is new. -/
theorem edge_on_change (s : State) (x : Nat) (e : EvtSt) (at_ : Nat) (hat : at_ % layGrid = 0) :
    let t := if e.level = (s.evt x).level then s.setEvt x (fun _ => e) else (s.setEvt x fun _ => e).emit (.edge x (e.level != e.pol) at_)
    t.evt x = e ∧ ((t.evt x).level = (s.evt x).level → t.sent = s.sent) ∧
    ((t.evt x).level ≠ (s.evt x).level → ∃ at_ : Nat, t.sent = .edge x ((t.evt x).level != (t.evt x).pol) at_ :: s.sent ∧ at_ % layGrid = 0) ∧
    t.objs = s.objs ∧ t = { s with lay := { s.lay with evts := t.lay.evts }, sent := t.sent } := by
  intro t
  have hset : (s.setEvt x fun _ => e).evt x = e := smGet_smPut_same _ _ _ _
  by_cases h : e.level = (s.evt x).level
  · have ht : t = s.setEvt x fun _ => e := if_pos h
    rw [ht, hset]
    exact ⟨rfl, fun _ => rfl, fun hne => absurd h hne, rfl, rfl⟩
  · have ht : t = (s.setEvt x fun _ => e).emit (.edge x (e.level != e.pol) at_) := if_neg h
    have hevt : ((s.setEvt x fun _ => e).emit (.edge x (e.level != e.pol) at_)).evt x = e := hset
    rw [ht, hevt]
    exact ⟨rfl, fun heq => absurd heq h, fun _ => ⟨at_, rfl, hat⟩, rfl, rfl⟩

theorem evtEdges : Claims.evtEdges := by
  intro s x hup hx
  have hexec : exec (.layEvtEdge x) s = .next (s.layEvtEdge x) := congrArg Host.Outcome.next (run_up hup _)
  rw [hexec]
  unfold State.layEvtEdge
  rw [if_neg (by omega)]
  extract_lets t v e hit endAt own cap ended lvl on when_ pol s1
  have hedge := edge_on_change s x { e with level := on, pol := pol, endAt := if own then endAt else none, lastAt := hit.getD e.lastAt, pulses := e.pulses.filter fun p => decide (t < p.1 + p.2.1 * layNs) }
    (gridQuot when_ 1).toNat (gridQuot_grid when_ 1)
  obtain ⟨hevt, hsame, hnew, hobjs, hrest⟩ := hedge
  refine ⟨_, rfl, fun a ha hshort => ?_, hsame, hnew, fun hlevel => ?_, hobjs, hrest⟩
  · have hhit : hit = some a := ha
    have hend : endAt = some (a + v.getD 4 0 * layNs) := by
      simp only [endAt, hhit]
    have hown : own = true := by
      simp only [own, hend]
      exact decide_eq_true hshort
    have hlevel := congrArg EvtSt.level hevt
    have hlast := congrArg EvtSt.lastAt hevt
    refine ⟨hlevel.trans ?_, hlast.trans ?_⟩
    · show (own || cap.isSome || lvl) = true
      rw [hown, Bool.true_or, Bool.true_or]
    · show hit.getD e.lastAt = a
      rw [hhit]
      rfl
  · have hpol : pol = e.pol := if_neg (by rw [show e.level = true from hlevel]; simp)
    refine (congrArg EvtSt.pol hevt).trans ?_
    show decide pol = e.pol
    simp only [hpol, Bool.decide_eq_true]

end Sys2Proof.Proofs
end

section
/-! PTP messages, domain clocks and time stamps (R85, R109, R110). -/

namespace Sys2Proof.Proofs

open Sys2Proof.Machine Sys2Proof.Laws Sys2Proof.Claims

/-! Domain clocks -/

theorem ptp_setPtp_same (s : State) (d : Nat) (f : PtpSt → PtpSt) : (s.setPtp d f).ptp d = f (s.ptp d) := smGet_smPut_same _ _ _ _

theorem ptp_setPtp_other (s : State) {d c : Nat} (f : PtpSt → PtpSt) (h : c ≠ d) : (s.setPtp d f).ptp c = s.ptp c := smGet_smPut_other _ _ _ h

/-- Domain clocks change, nothing else. -/
structure ClocksOnly (s t : State) : Prop where
  rest : t = { s with lay := { s.lay with ptp := t.lay.ptp } }

theorem clocksOnly_refl (s : State) : ClocksOnly s s := ⟨rfl⟩

theorem clocksOnly_setPtp {s t : State} (h : ClocksOnly s t) (d : Nat) (f : PtpSt → PtpSt) : ClocksOnly s (t.setPtp d f) := ⟨by rw [State.setPtp, h.rest]⟩

theorem clocksOnly_each {s t : State} (h : ClocksOnly s t) (f : Nat → PtpSt → PtpSt) (l : List Nat) : ClocksOnly s (t.each l fun d x => x.setPtp d (f d)) :=
  each_of (P := ClocksOnly s) l _ (fun d _ hx => clocksOnly_setPtp hx d (f d)) h

/-- Clocks whose exchange in progress is given up: those of a list, and no other. -/
theorem ptp_each_abandoned (c : Nat) : ∀ (l : List Nat) (s : State), ((s.each l fun d x => x.setPtp d fun p => { p with req := none }).ptp c) = if c ∈ l then { s.ptp c with req := none } else s.ptp c
  | [], s => by simp [State.each]
  | d :: l, s => by
    have ih := ptp_each_abandoned c l (s.setPtp d fun p => { p with req := none })
    rw [State.each, List.foldl_cons, ← State.each, ih]
    by_cases hd : c = d
    · subst hd
      simp [ptp_setPtp_same]
    · simp [ptp_setPtp_other s _ hd, hd]

/-! Time stamps (R110) -/

/-- A timestamp placed in the queue of a port, as its message leaves. -/
def stampPlaced (s : State) (die w : Nat) (e : TxtsSt) (o : Output) : State :=
  ({ s.emit o with lay := { s.lay with txts := smPut [] s.lay.txts (die * 2 + w) (smGet [] s.lay.txts (die * 2 + w) ++ [e]) } } : State).put die (Ob.ptp_txts_level + w)
    ((smGet [] s.lay.txts (die * 2 + w)).length + 1)

theorem stampPlaced_shows (s : State) (die w : Nat) (e : TxtsSt) (o : Output) :
    smGet [] (stampPlaced s die w e o).lay.txts (die * 2 + w) = smGet [] s.lay.txts (die * 2 + w) ++ [e] ∧
    (stampPlaced s die w e o).int die (Ob.ptp_txts_level + w) = ((smGet [] s.lay.txts (die * 2 + w)).length + 1 : Nat) ∧
    ObjsBut s (stampPlaced s die w e o) (fun k => k = fullKey die (Ob.ptp_txts_level + w)) ∧ (stampPlaced s die w e o).sent = o :: s.sent ∧
    stampPlaced s die w e o = { s with objs := (stampPlaced s die w e o).objs, sent := (stampPlaced s die w e o).sent, lay := { s.lay with txts := (stampPlaced s die w e o).lay.txts } } :=
  ⟨smGet_smPut_same _ _ _ _, (int_put_same _ _ _ _).trans (Int.natCast_succ _).symm,
    objsBut_trans (t := { s.emit o with lay := { s.lay with txts := smPut [] s.lay.txts (die * 2 + w) (smGet [] s.lay.txts (die * 2 + w) ++ [e]) } }) (objsBut_of_eq rfl) (objsBut_put _ die (Ob.ptp_txts_level + w) _), rfl, rfl⟩

/-- A timestamp dropped for want of room, as its message leaves. -/
def stampDropped (s : State) (die w : Nat) (o : Output) : State :=
  (((s.emit o).put die (Ob.ptp_txts_overflow + w) 1).bump die (Ob.ptp_txts_dropped + w)).raise 0 Ob.lay_flags 10

theorem stampDropped_shows (s : State) (die : Nat) {w : Nat} (o : Output) (hw : w < 2) :
    (stampDropped s die w o).lay = s.lay ∧ (stampDropped s die w o).int die (Ob.ptp_txts_overflow + w) = 1 ∧ (stampDropped s die w o).on 0 Ob.lay_flags 10 = true := by
  have hlay : (((s.emit o).put die (Ob.ptp_txts_overflow + w) 1).bump die (Ob.ptp_txts_dropped + w)).lay = s.lay := by rw [bump_rest]; rfl
  have hover : (((s.emit o).put die (Ob.ptp_txts_overflow + w) 1).bump die (Ob.ptp_txts_dropped + w)).int die (Ob.ptp_txts_overflow + w) = 1 := by
    rw [bump_int_other _ 1 (fullKey_ne (by simp only [Ob.ptp_txts_overflow, Ob.ptp_txts_dropped]; omega) (by simp only [Ob.ptp_txts_overflow]; omega) (by simp only [Ob.ptp_txts_dropped]; omega))]
    exact int_put_same _ _ _ _
  have hplain : Ob.ptp_txts_overflow + w ≠ Ob.lay_flags ∧ Ob.ptp_txts_overflow + w < 16777216 ∧ ¬ reportPlaces (Ob.ptp_txts_overflow + w) := by
    unfold reportPlaces
    interval_cases w <;> decide
  unfold stampDropped
  exact ⟨(raise_lay _ _ _ _ _).trans hlay, (raise_int_other _ 10 0 (fullKey_ne hplain.1 hplain.2.1) (not_reportKey_full hplain.2.2 hplain.2.1)).trans hover, raise_on _ _ _ _ _ not_reportKey_full⟩

/-- A message that needs no Follow_Up, with room for its timestamp. -/
theorem ptpTx_room {s : State} {die which seqId msgType dom n d : Nat} {ds : List Nat} (hdie : die < s.dies) (hwhich : which < 2) (hn : n = (if which = 1 then die + 2 else 1))
    (hds : ds = [0, 1].filter (fun d => s.ptpPort d = some n && s.pw (ptpKey Ob.ptp_domain_a d) = dom))
    (hd : d = ds.headD (if s.pw (ptpKey Ob.ptp_domain_a 1) = dom && s.pw Ob.ptp_domain_a ≠ dom then 1 else 0)) (htwo : which = 1 → s.on 0 (ptpKey Ob.ptp_one_step_a d) = false) :
    s.ptpTx die which seqId msgType dom =
      if 16 ≤ (smGet [] s.lay.txts (die * 2 + which)).length then (stampDropped s die which (.ptp n msgType seqId 0)).each (if msgType = 1 || msgType = 2 then ds else []) fun c s => s.setPtp c fun p => { p with req := none }
      else ((stampPlaced s die which { seqId := seqId, msgType := msgType, domain := dom, since := s.now, stamp := s.ptpStamp d n } (.ptp n msgType seqId 0)).ptpSent ds seqId msgType fun _ => none).ptpFollowUp ds n seqId msgType dom := by
  have hone : ¬ (which = 1 && s.on 0 (ptpKey Ob.ptp_one_step_a d)) = true := by
    by_cases hw : which = 1
    · simp [hw, htwo hw]
    · simp [hw]
  unfold State.ptpTx
  rw [Nat.mod_eq_of_lt hwhich, ← hn]
  dsimp only
  rw [← hds, ← hd, if_neg (Nat.not_le.2 hdie), if_neg hone]
  rfl

theorem clocksOnly_ptpSent (s : State) (ds : List Nat) (seqId msgType : Nat) (at_ : Nat → Option Int) : ClocksOnly s (s.ptpSent ds seqId msgType at_) := by
  unfold State.ptpSent
  split
  · exact clocksOnly_each (clocksOnly_refl s) (fun d p => { p with req := some (seqId, msgType, at_ d) }) ds
  · exact clocksOnly_refl s

theorem txtsPlaced : Claims.txtsPlaced := by
  intro s die which seqId msgType dom n d ds h hdie hwhich hn hds hd htwo hplain
  have hexec : exec (.ptpEventTx die which seqId msgType dom) s = .next (s.ptpTx die which seqId msgType dom) := congrArg Host.Outcome.next (onDie_upDie h _)
  rw [hexec, ptpTx_room hdie hwhich hn hds hd htwo]
  refine ⟨fun hroom => ?_, fun hfull => ?_⟩
  · obtain ⟨hqueue, hlevel, hobjs, hsent, hrest⟩ := stampPlaced_shows s die which { seqId := seqId, msgType := msgType, domain := dom, since := s.now, stamp := s.ptpStamp d n } (.ptp n msgType seqId 0)
    rw [if_neg (Nat.not_le.2 hroom)]
    generalize stampPlaced s die which _ _ = x at *
    have hstill : (x.ptpSent ds seqId msgType fun _ => none).ptpFollowUp ds n seqId msgType dom = x.ptpSent ds seqId msgType fun _ => none := if_pos (by rcases hplain with h | h <;> simp [h])
    obtain ⟨hclocks⟩ := clocksOnly_ptpSent x ds seqId msgType fun _ => none
    rw [hstill]
    generalize x.ptpSent ds seqId msgType (fun _ => none) = t at *
    have hto : t.objs = x.objs := (congrArg State.objs hclocks :)
    have hts : t.sent = x.sent := (congrArg State.sent hclocks :)
    have htl : t.lay.txts = x.lay.txts := (congrArg (fun s : State => s.lay.txts) hclocks :)
    refine ⟨t, rfl, by rw [htl, hqueue], (int_of_objs hto _ _).trans hlevel, objsBut_trans hobjs (objsBut_of_eq hto), hts.trans hsent, ?_⟩
    rw [hto, hts, htl]
    exact hclocks.trans (congrArg (fun s : State => { s with lay := { s.lay with ptp := t.lay.ptp } }) hrest)
  · obtain ⟨hlay, hover, hflag⟩ := stampDropped_shows s die (.ptp n msgType seqId 0) hwhich
    rw [if_pos hfull]
    generalize stampDropped s die which _ = x at *
    generalize hl : (if msgType = 1 || msgType = 2 then ds else []) = l
    have hmem : ∀ c, c ∈ l ↔ c ∈ ds ∧ (msgType = 1 ∨ msgType = 2) := by
      intro c
      subst hl
      split
      · next h => simpa using fun _ => (by simpa using h)
      · next h => simpa using fun _ => (by simpa using h)
    have hgiven := fun c => ptp_each_abandoned c l x
    obtain ⟨hclocks⟩ := clocksOnly_each (clocksOnly_refl x) (fun _ p => { p with req := none }) l
    generalize (x.each l fun c s => s.setPtp c fun p => { p with req := none }) = t at *
    have hto : t.objs = x.objs := (congrArg State.objs hclocks :)
    have hxptp : ∀ c, x.ptp c = s.ptp c := fun c => by rw [State.ptp, State.ptp, hlay]
    refine ⟨t, rfl, ?_, (int_of_objs hto _ _).trans hover, ?_, fun c hc hm => ?_, fun c hc => ?_⟩
    · rw [(congrArg (fun s : State => s.lay.txts) hclocks :), hlay]
    · exact (congrArg (fun n => bit n 10) (nat_of_objs hto 0 Ob.lay_flags)).trans hflag
    · rw [hgiven, if_pos ((hmem c).2 ⟨hc, hm⟩)]
    · rw [hgiven, if_neg (fun h => hc.elim (fun hn => hn ((hmem c).1 h).1) fun hn => hn ((hmem c).1 h).2), hxptp]

/-- The queue of one port with its old entries taken out. -/
def stampsAged (s : State) (k : Nat) (keep : List TxtsSt) (gone : Nat) : State :=
  (({ s with lay := { s.lay with txts := smPut [] s.lay.txts k keep } } : State).put (k / 2) (Ob.ptp_txts_level + k % 2) keep.length).bump (k / 2) (Ob.ptp_txts_aged + k % 2) gone

theorem stampsAged_shows (s : State) (k : Nat) (keep : List TxtsSt) (gone : Nat) : smGet [] (stampsAged s k keep gone).lay.txts k = keep ∧ (stampsAged s k keep gone).sent = s.sent ∧
    ObjsBut s (stampsAged s k keep gone) (fun j => j = fullKey (k / 2) (Ob.ptp_txts_level + k % 2) ∨ j = fullKey (k / 2) (Ob.ptp_txts_aged + k % 2)) := by
  have hput : ObjsBut s (({ s with lay := { s.lay with txts := smPut [] s.lay.txts k keep } } : State).put (k / 2) (Ob.ptp_txts_level + k % 2) keep.length) fun j => j = fullKey (k / 2) (Ob.ptp_txts_level + k % 2) :=
    objsBut_trans (t := { s with lay := { s.lay with txts := smPut [] s.lay.txts k keep } }) (objsBut_of_eq rfl) (objsBut_put _ (k / 2) (Ob.ptp_txts_level + k % 2) _)
  have hqueue : smGet [] (({ s with lay := { s.lay with txts := smPut [] s.lay.txts k keep } } : State).put (k / 2) (Ob.ptp_txts_level + k % 2) keep.length).lay.txts k = keep := smGet_smPut_same _ _ _ _
  have hsent : (({ s with lay := { s.lay with txts := smPut [] s.lay.txts k keep } } : State).put (k / 2) (Ob.ptp_txts_level + k % 2) keep.length).sent = s.sent := rfl
  unfold stampsAged
  generalize ({ s with lay := { s.lay with txts := smPut [] s.lay.txts k keep } } : State).put (k / 2) (Ob.ptp_txts_level + k % 2) keep.length = x at *
  refine ⟨?_, ?_, objsBut_trans (objsBut_mono hput fun _ => .inl) (objsBut_mono (bump_objs x (k / 2) (Ob.ptp_txts_aged + k % 2) gone) fun _ => .inr)⟩
  · rw [bump_rest]; exact hqueue
  · rw [bump_rest]; exact hsent

theorem txtsAge : Claims.txtsAge := by
  intro s k q hup hq
  have hexec : exec .ptpTxtsAged s = .next s.txtsAged := congrArg Host.Outcome.next (run_up hup _)
  have hget : smGet [] s.lay.txts k = q := by rw [hq]; simp [smGet]
  have hyoung : (q.filter fun e => !(s.past e.since 1000000000)) = q.filter fun e => decide (s.now < e.since + 1000000000) :=
    List.filter_congr fun e _ => by simp only [State.past, ← decide_not, Nat.not_le]
  have haged : s.txtsAged = if (q.filter fun e => !(s.past e.since 1000000000)).length = q.length then s
      else stampsAged s k (q.filter fun e => !(s.past e.since 1000000000)) (q.length - (q.filter fun e => !(s.past e.since 1000000000)).length) := by
    unfold State.txtsAged
    rw [hq]
    simp only [State.each, List.map_cons, List.map_nil, List.foldl_cons, List.foldl_nil]
    rw [hget]
    rfl
  rw [hexec, haged, hyoung]
  by_cases hall : (q.filter fun e => decide (s.now < e.since + 1000000000)).length = q.length
  · refine ⟨s, by rw [if_pos hall], ?_, rfl, objsBut_refl _ _⟩
    rw [hget, List.filter_eq_self.2 (List.length_filter_eq_length_iff.1 hall)]
  · obtain ⟨hqueue, hsent, hobjs⟩ := stampsAged_shows s k (q.filter fun e => decide (s.now < e.since + 1000000000)) (q.length - (q.filter fun e => decide (s.now < e.since + 1000000000)).length)
    exact ⟨_, by rw [if_neg hall], hqueue, hsent, hobjs⟩

/-! A Sync (R85, R109) -/

/-- A domain clock that has its master takes no other. -/
theorem ptpElect_same {s : State} {d : Nat} (h : (s.ptp d).cur = (s.ptpBest d).map (·.source)) : s.ptpElect d = s := if_pos h

/-- One domain clock follows a message's port, domain and transport. -/
theorem ptpMessage_one {s : State} {port domain transport source d : Nat} (m : PtpMsg) (hd : d < 2) (hfollows : s.ptpFollows d port domain transport = true)
    (hother : s.ptpFollows (1 - d) port domain transport = false) : s.ptpMessage port domain transport source m = s.ptpClockMsg d port source m := by
  have hone : [0, 1].filter (fun d => s.ptpFollows d port domain transport) = [d] := by interval_cases d <;> simp_all
  rw [State.ptpMessage, hone]
  rfl

/-- A Sync of the master that a domain clock follows. -/
theorem ptpSync_followed {s : State} {d n source seqId origin iv : Nat} {twoStep : Bool} (hcur : (s.ptp d).cur = some source) (hbest : (s.ptpBest d).map (·.source) = some source) :
    s.ptpClockMsg d n source (.sync seqId twoStep origin iv) = if twoStep then (s.setPtp d fun p => { p with syncIv := iv }).setPtp d fun p => { p with wait := some (seqId, s.ptpStamp d n) }
      else (s.setPtp d fun p => { p with syncIv := iv }).ptpSync d origin (s.ptpStamp d n) := by
  unfold State.ptpClockMsg
  rw [ptpElect_same (hcur.trans hbest.symm)]
  dsimp only
  exact if_neg (by simp [hcur])

/-- A domain clock with an offset known: the first from its master sets it, later ones steer it (R85). -/
def clockSteered (first : Bool) (o : Int) (now : Nat) (p : PtpSt) : PtpSt :=
  let p := if first then { p with fine := p.fine - o * 4294967296, set_ := true, offset := o / layNs }
    else { p with fine := p.fine + (Config.ptpServo o p.freq).1, freq := (Config.ptpServo o p.freq).2, offset := o / layNs }
  { p with syncAt := some now }

/-- A domain clock's offset shown, and the clock and its reference changed by it. -/
structure OffsetTaken (s t : State) (d : Nat) (o : Int) (p : PtpSt) : Prop where
  state : t.pw (ptpKey Ob.ptp_state_a d) = 3
  shown : t.int 0 (ptpKey Ob.ptp_offset_ns_a d) = clampInt (-2147483648) 2147483647 (o / layNs)
  clock : t.ptp d = clockSteered (s.pw (ptpKey Ob.ptp_state_a d) < 3) o s.now p
  valid : s.pw (ptpKey Ob.ptp_state_a d) < 3 → (t.ref (d + 1)).validFrom = none
  objs  : ObjsBut s t (fun k => k = ptpKey Ob.ptp_state_a d ∨ k = ptpKey Ob.ptp_offset_ns_a d)
  rest  : t = { s with objs := t.objs, lay := { s.lay with ptp := t.lay.ptp, refs := t.lay.refs } }

theorem ptpKey_ne (d : Nat) : ptpKey Ob.ptp_state_a d ≠ ptpKey Ob.ptp_offset_ns_a d := fun h => absurd (Nat.add_right_cancel h) (by decide)

theorem ptpKey_state {d : Nat} (hd : d < 2) : ¬ (Ob.lay_state = ptpKey Ob.ptp_state_a d ∨ Ob.lay_state = ptpKey Ob.ptp_offset_ns_a d) := by
  simp only [ptpKey, Ob.lay_state, Ob.ptp_state_a, Ob.ptp_offset_ns_a]
  omega

/-- What an offset leaves: all but its objects, the clock and its reference. -/
theorem offset_rest (x s : State) (hx : x = { s with objs := x.objs }) (d : Nat) (f g : PtpSt → PtpSt) (r : RefSt → RefSt) : (((x.setPtp d f).setPtp d g).setRef (d + 1) r) =
    { s with objs := (((x.setPtp d f).setPtp d g).setRef (d + 1) r).objs,
             lay := { s.lay with ptp := (((x.setPtp d f).setPtp d g).setRef (d + 1) r).lay.ptp, refs := (((x.setPtp d f).setPtp d g).setRef (d + 1) r).lay.refs } } := by
  rw [hx]
  rfl

/-- An offset at a part that is no root. -/
theorem ptpOffset_taken {s : State} {d : Nat} (o : Int) (hd : d < 2) (hroot : s.isRoot = false) : OffsetTaken s (s.ptpOffset d o) d o (s.ptp d) := by
  unfold State.ptpOffset
  extract_lets first ns s1 broken s2 gap
  have hshown : ObjsBut s ((s.set (ptpKey Ob.ptp_state_a d) 3).set (ptpKey Ob.ptp_offset_ns_a d) (clampInt (-2147483648) 2147483647 ns)) (fun k => k = ptpKey Ob.ptp_state_a d ∨ k = ptpKey Ob.ptp_offset_ns_a d) :=
    objsBut_trans (objsBut_mono (objsBut_set s (ptpKey Ob.ptp_state_a d) 3) fun _ => .inl) (objsBut_mono (objsBut_set (s.set (ptpKey Ob.ptp_state_a d) 3) (ptpKey Ob.ptp_offset_ns_a d) _) fun _ => .inr)
  have hobjs : ObjsBut s s2 (fun k => k = ptpKey Ob.ptp_state_a d ∨ k = ptpKey Ob.ptp_offset_ns_a d) := objsBut_trans hshown (objsBut_of_eq rfl)
  have hs2 : s2.isRoot = false := (isRoot_of_objs hobjs (ptpKey_state hd)).trans hroot
  rw [if_neg (by rw [hs2, Bool.false_and]; exact Bool.false_ne_true)]
  have hto : s2.objs = ((s.set (ptpKey Ob.ptp_state_a d) 3).set (ptpKey Ob.ptp_offset_ns_a d) (clampInt (-2147483648) 2147483647 ns)).objs := rfl
  refine ⟨?_, ?_, ?_, fun hfirst => ?_, hobjs, ?_⟩
  · exact (nat_of_objs hto 0 _).trans ((pw_set_other (s.set (ptpKey Ob.ptp_state_a d) 3) _ _ _ (ptpKey_ne d)).trans (pw_set_same s (ptpKey Ob.ptp_state_a d) 3))
  · exact (int_of_objs hto 0 _).trans (int_put_same _ 0 (ptpKey Ob.ptp_offset_ns_a d) _)
  · have hs1 : s1.ptp d = if first then { s.ptp d with fine := (s.ptp d).fine - o * 4294967296, set_ := true, offset := o / layNs }
        else { s.ptp d with fine := (s.ptp d).fine + (Config.ptpServo o (s.ptp d).freq).1, freq := (Config.ptpServo o (s.ptp d).freq).2, offset := o / layNs } := ptp_setPtp_same _ d _
    have hs2 : s2.ptp d = { s1.ptp d with syncAt := some s.now } := ptp_setPtp_same s1 d fun p => { p with syncAt := some s.now }
    have hsteered : clockSteered (decide first) o s.now (s.ptp d) = { s1.ptp d with syncAt := some s.now } := by
      rw [hs1, clockSteered]
      by_cases h : first
      · rw [if_pos h, if_pos (decide_eq_true h)]
      · rw [if_neg h, if_neg (by simpa using h)]
    exact hs2.trans hsteered.symm
  · have href : (s2.ref (d + 1)).validFrom = if ns.natAbs < 1000 && !first then some (if broken then s.now else (((s1.setPtp d fun p => { p with syncAt := some s.now }).ref (d + 1)).validFrom.getD s.now)) else none :=
      congrArg RefSt.validFrom (ref_setRef_same _ (d + 1) _)
    have hnot : ¬ (ns.natAbs < 1000 && !first) = true := by
      have h : first := hfirst
      simp [h]
    exact href.trans (if_neg hnot)
  · exact offset_rest (s.set (ptpKey Ob.ptp_state_a d) 3 |>.set (ptpKey Ob.ptp_offset_ns_a d) (clampInt (-2147483648) 2147483647 ns)) s rfl d _ _ _

theorem ptpSyncSets : Claims.ptpSyncSets := by
  intro s w d seqId origin iv o hup hd hfollows hother hcur hbest hroot ho
  have hexec : ∀ m, exec (.ptpMessageReceive w m) s = .next (s.ptpClockMsg d w.port w.source m) := fun m =>
    (congrArg Host.Outcome.next (run_up hup _)).trans (congrArg Host.Outcome.next (ptpMessage_one m hd hfollows hother))
  refine ⟨?_, ?_⟩
  · refine ⟨_, (hexec _).trans (congrArg Host.Outcome.next ((ptpSync_followed hcur hbest).trans (if_pos rfl))), ?_, rfl⟩
    rw [ptp_setPtp_same, ptp_setPtp_same]
  · generalize hx : (s.setPtp d fun p => { p with syncIv := iv }).setPtp d (fun p => { p with last := some (s.ptpStamp d w.port - origin), wait := none }) = x
    have hsync : (s.setPtp d fun p => { p with syncIv := iv }).ptpSync d origin (s.ptpStamp d w.port) = x.ptpOffset d o := by
      rw [State.ptpSync, ptp_setPtp_same, ho, ← hx]
      rfl
    have hclock : x.ptp d = { s.ptp d with syncIv := iv, last := some (s.ptpStamp d w.port - origin), wait := none } := by rw [← hx, ptp_setPtp_same, ptp_setPtp_same]
    have hkept : ClocksOnly s x := by
      rw [← hx]
      exact clocksOnly_setPtp (clocksOnly_setPtp (clocksOnly_refl s) d _) d _
    have hrest := hkept.rest
    have hobjs : x.objs = s.objs := (congrArg State.objs hrest :)
    have hnow : x.now = s.now := (congrArg State.now hrest :)
    have hpw : x.pw (ptpKey Ob.ptp_state_a d) = s.pw (ptpKey Ob.ptp_state_a d) := nat_of_objs hobjs 0 _
    obtain ⟨hstate, hshown, hsteered, hvalid, hchanged, hkeeps⟩ := ptpOffset_taken (s := x) o hd ((isRoot_of_objs (p := fun _ => False) (objsBut_of_eq hobjs) id).trans hroot)
    rw [hpw] at hsteered hvalid
    rw [hclock, hnow] at hsteered
    refine ⟨x.ptpOffset d o, (hexec _).trans (congrArg Host.Outcome.next ((ptpSync_followed hcur hbest).trans ((if_neg Bool.false_ne_true).trans hsync))), hstate, hshown, fun hfirst => ?_, fun hlater => ?_, ?_, ?_, ?_⟩
    · rw [hsteered, clockSteered, if_pos (decide_eq_true hfirst)]
      exact ⟨rfl, rfl, hvalid hfirst⟩
    · rw [hsteered, clockSteered, if_neg (by simpa using hlater)]
      exact ⟨rfl, rfl⟩
    · rw [hsteered]
      rfl
    · exact objsBut_trans (objsBut_of_eq hobjs) hchanged
    · generalize x.ptpOffset d o = t at *
      exact hkeeps.trans (congrArg (fun y : State => { y with objs := t.objs, lay := { y.lay with ptp := t.lay.ptp, refs := t.lay.refs } }) hrest)

/-- Settles O13: PTP messages and their time stamps, LAY_EVT edges, captures on the grid, and a die that holds over alone. -/
theorem timeReachesPinsAndWire : Obligations.TimeReachesPinsAndWire :=
  ⟨ptpSyncSets, txtsPlaced, txtsAge, evtEdges, ppsCaptured, fsyncCaptured, gridNearest, braidHolds⟩

end Sys2Proof.Proofs
end

section
/-! PIXEL, CHECK, CANVAS and IMAGE cells at a part (R147, R151, R164, R229). -/

namespace Sys2Proof.Proofs

open Sys2Proof.Machine Sys2Proof.Laws Sys2Proof.Claims

/-! The part as a cell comes in -/

/-- An object that a cell coming in leaves: none of the port's count of cells and the crossing's own. -/
def besideArrival (k : Nat) : Prop := k < 16777216 ∧ (k < Ob.cell_rx ∨ Ob.cell_rx + 16 ≤ k) ∧ k ≠ Ob.xing_overruns ∧ k ≠ Ob.clock_flags

theorem not_arrivalKey {d p k : Nat} (h : besideArrival k) :
    ¬ (fullKey d k = fullKey (p / 16) (Ob.cell_rx + p % 16) ∨ fullKey d k = fullKey (p / 16) Ob.xing_overruns ∨ fullKey d k = fullKey (p / 16) Ob.clock_flags) := by
  obtain ⟨hlow, hrx, hxing, hclock⟩ := h
  have hp : p % 16 < 16 := Nat.mod_lt _ (by decide)
  simp only [fullKey, Ob.cell_rx, Ob.xing_overruns, Ob.clock_flags] at *
  omega

theorem arrives_nat (s : State) (p d : Nat) {key : Nat} (h : besideArrival key) : (s.cellArrives p).nat d key = s.nat d key := objsBut_nat (cellArrives_objs s p) (not_arrivalKey h)

theorem arrives_pw (s : State) (p : Nat) {key : Nat} (h : besideArrival key) : (s.cellArrives p).pw key = s.pw key := arrives_nat s p 0 h

theorem besideArrival_node : besideArrival Ob.node_id := by unfold besideArrival; decide

theorem besideArrival_role : besideArrival Ob.role_active := by unfold besideArrival; decide

theorem arrives_node (s : State) (p : Nat) : (s.cellArrives p).node = s.node := by
  unfold State.node
  rw [arrives_pw s p besideArrival_node]

theorem arrives_isHead (s : State) (p : Nat) : (s.cellArrives p).isHead = s.isHead := by
  unfold State.isHead
  rw [arrives_pw s p besideArrival_role]

theorem arrives_role (s : State) (p q : Nat) : (s.cellArrives p).role q = s.role q := by
  have hq : q % 16 < 16 := Nat.mod_lt _ (by decide)
  refine arrives_nat s p (q / 16) ?_
  unfold besideArrival
  simp only [Ob.port_role, Ob.cell_rx, Ob.xing_overruns, Ob.clock_flags]
  omega

theorem arrives_port (s : State) (p q : Nat) : (s.cellArrives p).port q = s.port q := by rw [cellArrives_rest]; rfl

theorem arrives_net (s : State) (p : Nat) : (s.cellArrives p).net = s.net := by rw [cellArrives_rest]

/-- A cell that has been used up changes its port alone. -/
theorem spent_state (s : State) (p : Nat) : (s.spent p).tile = s.tile ∧ (s.spent p).mem = s.mem ∧ (s.spent p).lay = s.lay ∧ (s.spent p).pending = s.pending := ⟨rfl, rfl, rfl, rfl⟩

/-! A PIXEL or CHECK cell of the part's own region (R164, R191) -/

/-- A bulk cell for the part itself on a chain port of a tile. -/
theorem tileCell_row {s : State} {p : Nat} {c : Cell} {named : Bool} (h : CellAt s p c) (hcls : c.cls = 3) (hkind : c.kind = 0 ∨ c.kind = 1) (htile : (s.cellArrives p).isHead = false)
    (hchain : (s.cellArrives p).isChain p = true) (hnode : (s.cellArrives p).node = some c.node) (hnamed : named = true) :
    s.cellRow p c named = (if c.kind = 0 then (s.cellArrives p).tilePixel c.spec c.payload true else (s.cellArrives p).tileCheck c.spec c.payload true).spent p := by
  have hmine : s.passes c = false := by
    rw [arrives_node] at hnode
    simp only [State.passes, hcls, hnode, decide_true, Bool.not_true]
  have hhere : (s.cellArrives p).offChain p = false := by rw [State.offChain, hchain, Bool.not_true, Bool.and_false]
  rw [cellRow_consumed h (by rw [hcls]; decide) hmine hnamed]
  rcases hkind with hkind | hkind <;> simp [State.consume, hcls, hkind, hhere, htile]

theorem rxAdmit_admits {a : State} {p : Nat} {c : Cell} {r : RxFrame} {known : Bool} (h : RegionCell a p c r known) : a.rxAdmit (bits c.spec 12 10) (bits c.spec 32 29) true = (a, some r) := by
  obtain ⟨hcheck, hverdict, hmissed⟩ := h.open_
  unfold State.rxAdmit
  rw [h.place]
  dsimp only
  rw [Bool.not_true, if_neg Bool.false_ne_true, if_neg (by rw [h.lit]; exact Bool.false_ne_true), if_neg (by rw [h.usable]; decide), if_neg (by simp [hcheck, hverdict, hmissed]),
    if_neg (Nat.not_lt.2 h.room)]

theorem mem_putRx (s : State) (r : RxFrame) : r ∈ (s.putRx r).tile.rx := by
  unfold State.putRx
  dsimp only
  split
  · next h =>
    obtain ⟨a, ha, hat⟩ := List.any_eq_true.1 h
    exact List.mem_map.2 ⟨a, ha, if_pos (of_decide_eq_true hat)⟩
  · exact List.mem_append_right _ (List.mem_singleton_self r)

theorem pixelTaken : Claims.pixelTaken := by
  intro s a p c r known hat hcls hkind ha hregion
  have hnode := hregion.node
  have htile := hregion.tile
  have hchain := hregion.chain
  have hadmit := rxAdmit_admits hregion
  obtain ⟨hcheck, -, -⟩ := hregion.open_
  have hmem : a.mem = s.mem := by rw [ha, cellArrives_rest]
  have hlay : a.lay = s.lay := by rw [ha, cellArrives_rest]
  have hpending : a.pending = s.pending := by rw [ha, cellArrives_rest]
  have hrow := tileCell_row (named := c.cls = 3 && c.kind = 0) hat hcls (.inl hkind) (ha ▸ htile) (ha ▸ hchain) (ha ▸ hnode) (by simp [hcls, hkind])
  rw [if_pos hkind, ← ha, State.tilePixel, hadmit] at hrow
  refine ⟨_, _, congrArg Host.Outcome.next hrow, mem_putRx a _, rfl, rfl, hcheck, rfl, hmem, hlay, hpending⟩

theorem pixelDropped : Claims.pixelDropped := by
  intro s a p c hat hcls hkind ha htile hchain hnode hplace
  have hrow := tileCell_row (named := c.cls = 3 && c.kind = 0) hat hcls (.inl hkind) (ha ▸ htile) (ha ▸ hchain) (ha ▸ hnode) (by simp [hcls, hkind])
  have hadmit : a.rxAdmit (bits c.spec 12 10) (bits c.spec 32 29) true = (a.rxDrop, none) := by rw [State.rxAdmit, hplace]
  rw [if_pos hkind, ← ha, State.tilePixel, hadmit] at hrow
  exact congrArg Host.Outcome.next hrow

theorem checkTaken : Claims.checkTaken := by
  intro s a p c r known hat hcls hkind ha hregion hlaunch
  have hnode := hregion.node
  have htile := hregion.tile
  have hchain := hregion.chain
  have hadmit := rxAdmit_admits hregion
  have hrow := tileCell_row (named := c.cls = 3 && c.kind = 1) hat hcls (.inr hkind) (ha ▸ htile) (ha ▸ hchain) (ha ▸ hnode) (by simp [hcls, hkind])
  have hnot : ¬ decide ((layAt c.payload 8 : Int) ≠ r.at_) = true := by simp [hlaunch]
  rw [if_neg (by rw [hkind]; decide), ← ha, State.tileCheck, hadmit] at hrow
  dsimp only at hrow
  rw [State.when, if_neg hnot] at hrow
  exact congrArg Host.Outcome.next hrow

/-! CANVAS and IMAGE cells (R229, R147) -/

theorem canvasKept : Claims.canvasKept := by
  intro s a p k c hat hcls hkind ha hhead hnode hone himports hlast
  have hmine : s.passes c = false := by
    rw [ha, arrives_node] at hnode
    simp only [State.passes, hcls, hnode, decide_true, Bool.not_true]
  have hhere : a.offChain p = false := by rw [State.offChain, hhead]; rfl
  have hrow : s.cellRow p c (c.cls = 3 && c.kind = 2) = (a.canvasCellIn c).spent p := by
    rw [cellRow_consumed hat (by rw [hcls]; decide) hmine (by simp [hcls, hkind]), ← ha]
    simp [State.consume, hcls, hkind, hhere, hhead]
  have hkept : a.canvasCellIn c = a.setSource k fun o =>
      { o with imports := [{ view := bits c.spec 12 10, frame := bits c.spec 32 29, cells := smPut [] [] (bits c.spec 28 13) c.payload, last := none }] } := by
    unfold State.canvasCellIn State.canvasIn
    rw [hone, hlast]
    simp only [State.each, List.foldl_cons, List.foldl_nil, himports, List.find?_nil, Option.getD_none, Bool.false_eq_true, if_false, List.filter_nil, List.nil_append, reduceCtorEq, decide_false, Bool.false_and]
  have hsource : (a.setSource k fun o => { o with imports := [{ view := bits c.spec 12 10, frame := bits c.spec 32 29, cells := smPut [] [] (bits c.spec 28 13) c.payload, last := none }] }).source k =
      { a.source k with imports := [{ view := bits c.spec 12 10, frame := bits c.spec 32 29, cells := smPut [] [] (bits c.spec 28 13) c.payload, last := none }] } := smGet_smPut_same _ _ _ _
  rw [hkept] at hrow
  exact ⟨_, congrArg Host.Outcome.next hrow, congrArg SourceSt.imports hsource, rfl, rfl⟩

theorem imageConsumed : Claims.imageConsumed := by
  intro s p c hat hcls hkind hnode hhere
  have hmine : s.passes c = false := by simp only [State.passes, hcls, hnode, decide_true, Bool.not_true]
  have hrow : s.cellRow p c (c.cls = 4 && c.kind = 1) = (s.cellArrives p).spent p := by
    rw [cellRow_consumed hat (by rw [hcls]; decide) hmine (by simp [hcls, hkind])]
    simp [State.consume, hcls, hkind, hhere]
  exact congrArg Host.Outcome.next hrow

/-- Settles O21: PIXEL, CHECK, CANVAS and IMAGE cells at the part they are for. -/
theorem pixelCellsReachTheTile : Obligations.PixelCellsReachTheTile := ⟨pixelTaken, pixelDropped, checkTaken, canvasKept, imageConsumed⟩

end Sys2Proof.Proofs
end

section
/-! Knots (R174-R179): one that comes in, those whose flush time has come, a sink's delivery and its acknowledgement. -/

namespace Sys2Proof.Proofs

open Sys2Proof.Machine Sys2Proof.Laws Sys2Proof.Claims

/-! A knot that comes in (R174, R175) -/

/-- A KNOT cell is the part's own to use. -/
theorem knotRow {s : State} {p : Nat} {c : Cell} (h : CellAt s p c) (hcls : c.cls = 1) (hkind : c.kind = 0) (hhere : (s.cellArrives p).offChain p = false) :
    exec (.knotCellReceive p c) s = .next (((s.cellArrives p).enterKnot (knotParse c.payload)).spent p) := by
  have hmine : s.passes c = false := by simp only [State.passes, hcls, hkind]
  have hnamed : (c.cls = 1 && c.kind = 0) = true := by simp [hcls, hkind]
  have hconsumed : (s.cellArrives p).consume p c = (s.cellArrives p).enterKnot (knotParse c.payload) := by
    simp only [State.consume, hcls, hkind, State.knotCell]
    exact if_neg (by rw [hhere]; exact Bool.false_ne_true)
  exact congrArg Host.Outcome.next ((cellRow_consumed h (by rw [hcls]; decide) hmine hnamed).trans (congrArg (fun x : State => x.spent p) hconsumed))

theorem enterKnot_early {s : State} {k : Knot} (h : s.layNow < s.flushTime k.window) : s.enterKnot k = s.insertKnot k := if_neg (by simp [Nat.not_le.2 h])

theorem insertKnot_merges {s : State} {k : Knot} (h : s.knots.any (fun e => e.sameAs k) = true) : s.insertKnot k = { s with knots := s.knots.map fun e => if e.sameAs k then e.merge k else e } := if_pos h

theorem insertKnot_joins {s : State} {k : Knot} (h : s.knots.any (fun e => e.sameAs k) = false) (hroom : s.knots.length < 128) : s.insertKnot k = { s with knots := s.knots ++ [k] } := by
  unfold State.insertKnot
  rw [if_neg (by rw [h]; exact Bool.false_ne_true)]
  split
  · exact if_neg (Nat.not_le.2 hroom)
  · next hnone => rw [hnone]; rfl

theorem knotJoins : Claims.knotJoins := by
  intro s a p c k hat hcls hkind hk ha hhere hearly
  have hknots : a.knots = s.knots := by rw [ha, cellArrives_rest]
  have hrow := knotRow hat hcls hkind (ha ▸ hhere)
  rw [← hk, ← ha, enterKnot_early hearly] at hrow
  rw [hrow, ← hknots]
  refine ⟨fun hsame => ?_, fun hnew hroom => ?_⟩
  · rw [insertKnot_merges hsame]
  · rw [insertKnot_joins hnew hroom]

theorem knotsMerge : Claims.knotsMerge := by
  intro e k
  refine ⟨rfl, rfl, ?_, rfl, rfl, rfl, rfl⟩
  show (if (decide (k.firstAt < e.firstAt) || (decide (k.firstAt = e.firstAt) && decide (k.firstNode < e.firstNode))) = true then k.firstAt else e.firstAt) = min e.firstAt k.firstAt
  simp only [Bool.or_eq_true, Bool.and_eq_true, decide_eq_true_eq]
  split <;> omega

/-! Flushed (R176) -/

theorem queueFwd_knots (s : State) (q : Nat) (c : Cell) : (s.queueFwd q c).knots = s.knots := by
  have hdrop : (s.bumpPort q Ob.fwd_drops).knots = s.knots := by rw [State.bumpPort, bump_rest]
  have hwake : ∀ t : State, (t.autoWake q).knots = t.knots := fun t => by rw [autoWake_rest]
  unfold State.queueFwd
  split
  · exact hdrop
  · split
    · exact hwake _
    · split
      · exact hdrop
      · exact hwake _

theorem driveFault_knots (s : State) (b : Bool) : (s.driveFault b).knots = s.knots := by
  unfold State.driveFault
  split <;> rfl

/-- The part as its sink has logged a knot and its EVENT has gone out. -/
def knotLogged (s : State) (k : Knot) : State :=
  (({ s with knotLog := (s.knotLog ++ [k]).drop ((s.knotLog.length + 1) - 32) } : State).when (s.pw Ob.event_dest ≠ 0)
    fun s => s.emit (.event (s.pw Ob.event_dest) (s.pw Ob.corrix_udp_port) (msgBytes 0x20 (s.eventMsg k)))).bump 0 Ob.event_seq

theorem deliverKnot_eq (s : State) (k : Knot) : s.deliverKnot k = State.driveFault { knotLogged s k with knotHold := (knotLogged s k).knotHold || 2 ≤ k.severity } s.faultOn := rfl

theorem when_emit_rest (s : State) (b : Bool) (o : Output) : (s.when b fun s => s.emit o) = { s with sent := (s.when b fun s => s.emit o).sent } := by
  unfold State.when
  split <;> rfl

/-- What a knot logged leaves. -/
theorem knotLogged_rest (s : State) (k : Knot) : (knotLogged s k).knots = s.knots ∧ (knotLogged s k).ports = s.ports ∧ (knotLogged s k).knotHold = s.knotHold ∧
    (knotLogged s k).knotLog = (s.knotLog ++ [k]).drop ((s.knotLog.length + 1) - 32) := by
  unfold knotLogged
  rw [bump_rest]
  unfold State.when
  split <;> exact ⟨rfl, rfl, rfl, rfl⟩

theorem deliverKnot_knots (s : State) (k : Knot) : (s.deliverKnot k).knots = s.knots := by
  rw [deliverKnot_eq, driveFault_knots]
  exact (knotLogged_rest s k).1

/-- A knot sent on leaves the table as it is. -/
theorem sendKnot_knots (s : State) (k : Knot) : (s.sendKnot k).1.knots = s.knots := by
  unfold State.sendKnot
  split
  · exact deliverKnot_knots s k
  · split
    · exact queueFwd_knots s _ _
    · rfl

theorem each_sendKnot_knots (s : State) (l : List Knot) : (s.each l fun k s => (s.sendKnot k).1).knots = s.knots :=
  each_of (P := fun t : State => t.knots = s.knots) l _ (fun k t ht => (sendKnot_knots t k).trans ht) rfl

/-- The knots of the table whose flush time has not come. -/
theorem keptKnots (s : State) : (s.knots.filter fun k => !decide (s.flushTime k.window ≤ s.layNow)) = s.knots.filter fun k => decide (s.layNow < s.flushTime k.window) :=
  List.filter_congr fun k _ => by rw [← decide_not]; simp only [Nat.not_le]

theorem knotsFlush : Claims.knotsFlush := by
  intro s hup hsink hport
  have hexec : exec .knotFlush s = .next s.knotFlush := congrArg Host.Outcome.next (run_up hup _)
  refine ⟨s.knotFlush, hexec, ?_⟩
  unfold State.knotFlush
  extract_lets due t
  have ht : t.knots = s.knots.filter fun k => decide (s.layNow < s.flushTime k.window) := (each_sendKnot_knots _ _).trans (keptKnots s)
  rw [if_pos (by rw [hport, Bool.or_true]), State.when, if_neg (by rw [hsink, Bool.false_and]; exact Bool.false_ne_true), ht]

/-! Delivered and acknowledged (R178, R179) -/

/-- Releasing what REFCLK_BOTH_LOST drives leaves the knots, their log and the ports, and takes back nothing that was put out. -/
theorem lossSent_rest (s : State) : s.lossSent.knots = s.knots ∧ s.lossSent.knotLog = s.knotLog ∧ s.lossSent.objs = s.objs ∧ s.lossSent.ports = s.ports ∧ s.lossSent.knotHold = s.knotHold ∧
    ∀ o, o ∈ s.sent → o ∈ s.lossSent.sent := by
  unfold State.lossSent
  split
  · exact ⟨rfl, rfl, rfl, rfl, rfl, fun _ h => h⟩
  · unfold State.driveFault
    split
    · exact ⟨rfl, rfl, rfl, rfl, rfl, fun _ h => h⟩
    · exact ⟨rfl, rfl, rfl, rfl, rfl, fun _ h => List.mem_cons_of_mem _ h⟩

theorem driveFault_rest (s : State) (b : Bool) : (s.driveFault b).knotLog = s.knotLog ∧ (s.driveFault b).objs = s.objs ∧ (s.driveFault b).ports = s.ports ∧ (s.driveFault b).knotHold = s.knotHold ∧
    ∀ o, o ∈ s.sent → o ∈ (s.driveFault b).sent := by
  unfold State.driveFault
  split
  · exact ⟨rfl, rfl, rfl, rfl, fun _ h => h⟩
  · exact ⟨rfl, rfl, rfl, rfl, fun _ h => List.mem_cons_of_mem _ h⟩

/-- The event_seq after a knot: one more, modulo 65,536. -/
theorem bump_eventSeq (s : State) (hlow : 0 ≤ s.int 0 Ob.event_seq) (hhigh : s.int 0 Ob.event_seq ≤ 65535) : (s.bump 0 Ob.event_seq).int 0 Ob.event_seq = (s.int 0 Ob.event_seq + 1) % 65536 := by
  have htop : (objTy Ob.event_seq).bounds.2 = 65535 := by rfl
  unfold State.bump
  extract_lets top v
  have ht : top = 65535 := htop
  have hv : v = s.int 0 Ob.event_seq + 1 := rfl
  clear_value top v
  subst ht hv
  split
  · next h => rw [int_put_same]; omega
  · next h =>
    rw [if_pos (by decide), int_put_same]
    omega

/-- Objects are as they were before a knot's EVENT goes out. -/
theorem knotLogged_seq (s : State) (k : Knot) (hlow : 0 ≤ s.int 0 Ob.event_seq) (hhigh : s.int 0 Ob.event_seq ≤ 65535) : (knotLogged s k).int 0 Ob.event_seq = (s.int 0 Ob.event_seq + 1) % 65536 := by
  unfold knotLogged
  generalize hx : (({ s with knotLog := (s.knotLog ++ [k]).drop ((s.knotLog.length + 1) - 32) } : State).when _ _) = x
  have hobjs : x.objs = s.objs := by
    rw [← hx, State.when]
    split <;> rfl
  have hseq := int_of_objs hobjs 0 Ob.event_seq
  rw [bump_eventSeq x (hseq ▸ hlow) (hseq ▸ hhigh), hseq]

theorem knotLogged_event {s : State} (k : Knot) (h : s.pw Ob.event_dest ≠ 0) : (knotLogged s k).sent = .event (s.pw Ob.event_dest) (s.pw Ob.corrix_udp_port) (msgBytes 0x20 (s.eventMsg k)) :: s.sent := by
  unfold knotLogged State.when
  rw [if_pos (decide_eq_true h), bump_rest]
  rfl

/-- What a sink's delivery of a knot does. -/
theorem deliverKnot_shows (s : State) (k : Knot) : (s.deliverKnot k).knotLog = (s.knotLog ++ [k]).drop ((s.knotLog.length + 1) - 32) ∧ (s.deliverKnot k).ports = s.ports ∧
    (s.deliverKnot k).knotHold = (s.knotHold || decide (2 ≤ k.severity)) ∧
    (0 ≤ s.int 0 Ob.event_seq → s.int 0 Ob.event_seq ≤ 65535 → (s.deliverKnot k).int 0 Ob.event_seq = (s.int 0 Ob.event_seq + 1) % 65536) ∧
    (s.pw Ob.event_dest ≠ 0 → Output.event (s.pw Ob.event_dest) (s.pw Ob.corrix_udp_port) (msgBytes 0x20 (s.eventMsg k)) ∈ (s.deliverKnot k).sent) := by
  obtain ⟨-, hports, hhold, hlog⟩ := knotLogged_rest s k
  have hseq := knotLogged_seq s k
  have hevent := knotLogged_event (s := s) k
  rw [deliverKnot_eq]
  generalize knotLogged s k = x at *
  obtain ⟨hlog', hobjs', hports', hhold', hsent'⟩ := driveFault_rest { x with knotHold := x.knotHold || 2 ≤ k.severity } s.faultOn
  refine ⟨hlog'.trans hlog, hports'.trans hports, hhold'.trans ?_, fun hlow hhigh => ?_, fun hdest => ?_⟩
  · show (x.knotHold || decide (2 ≤ k.severity)) = _
    rw [hhold]
  · exact (int_of_objs (s := x) hobjs' 0 Ob.event_seq).trans (hseq hlow hhigh)
  · refine hsent' _ ?_
    show _ ∈ x.sent
    rw [hevent hdest]
    exact List.mem_cons_self

theorem knotDelivered : Claims.knotDelivered := by
  intro s k hup hsink hknots hdue
  have hexec : exec .knotFlush s = .next s.knotFlush := congrArg Host.Outcome.next (run_up hup _)
  refine ⟨s.knotFlush, hexec, ?_⟩
  unfold State.knotFlush
  extract_lets due t
  have hd : due k = true := decide_eq_true hdue
  have ht : t = ({ s with knots := [] } : State).deliverKnot k := by
    have hsend : ({ s with knots := [] } : State).sendKnot k = (({ s with knots := [] } : State).deliverKnot k, true) := if_pos hsink
    show ({ s with knots := s.knots.filter fun k => !(due k) } : State).each (s.knots.filter due) (fun k s => (s.sendKnot k).1) = _
    rw [hknots]
    simp only [List.filter_cons, List.filter_nil, hd, Bool.not_true, Bool.false_eq_true, if_false, if_true, State.each, List.foldl_cons, List.foldl_nil, hsend]
  rw [if_pos (by rw [hsink, Bool.true_or]), ht]
  obtain ⟨hlog, hports, hhold, hseq, hevent⟩ := deliverKnot_shows { s with knots := [] } k
  have hnone := deliverKnot_knots { s with knots := [] } k
  generalize ({ s with knots := [] } : State).deliverKnot k = u at *
  obtain ⟨hk', hlog', hobjs', hports', hhold', hsent'⟩ := lossSent_rest u
  have hlast : ((s.knotLog ++ [k]).drop ((s.knotLog.length + 1) - 32)).getLast? = some k := by
    rw [List.getLast?_drop, if_neg (by rw [List.length_append, List.length_singleton]; omega)]
    exact List.getLast?_concat
  have hlen : ((s.knotLog ++ [k]).drop ((s.knotLog.length + 1) - 32)).length ≤ 32 := by rw [List.length_drop, List.length_append, List.length_singleton]; omega
  refine when_of (P := fun t : State => t.knots = [] ∧ t.knotLog.getLast? = some k ∧ t.knotLog.length ≤ 32 ∧ (0 ≤ s.int 0 Ob.event_seq → s.int 0 Ob.event_seq ≤ 65535 → t.int 0 Ob.event_seq = (s.int 0 Ob.event_seq + 1) % 65536) ∧
    t.ports = s.ports ∧ t.knotHold = (s.knotHold || decide (2 ≤ k.severity)) ∧ (s.pw Ob.event_dest ≠ 0 → Output.event (s.pw Ob.event_dest) (s.pw Ob.corrix_udp_port) (msgBytes 0x20 (s.eventMsg k)) ∈ t.sent)) _ _ _ ?_ ?_
  · exact ⟨hnone, by rw [hlog]; exact hlast, by rw [hlog]; exact hlen, hseq, hports, hhold, hevent⟩
  · exact ⟨hk'.trans hnone, by rw [hlog', hlog]; exact hlast, by rw [hlog', hlog]; exact hlen, fun hl hh => (int_of_objs hobjs' 0 Ob.event_seq).trans (hseq hl hh), hports'.trans hports, hhold'.trans hhold,
      fun hd => hsent' _ (hevent hd)⟩

/-! Acknowledged (R179) -/

/-- KNOT_ACK takes effect at once. -/
theorem knotAck_exec {s : State} {m : Msg} {d : ObjDef} (h : WritesOne s m d 0) (hkey : m.key = Ob.knot_ack) (hwo : d.acc = .wo) (hv : (s.arrived m).clampVal 0 m.key d (decodeVal d.ty m.payload) = 1) :
    exec (.knotAck m) s = .next ((s.arrived m).knotAck.answer 0x02 m 0 d.ty.code []) := by
  refine congrArg Host.Outcome.next (corrixFor_write_one h (by simp [hkey]) (by rw [hkey]; decide) ?_)
  rw [writeOne_wo h hwo, hv, hkey]
  rfl

theorem bit_putBit_false (n i : Nat) : bit (putBit n i false) i = false := by
  rw [putBit, if_neg Bool.false_ne_true, bit_clearBit]
  simp

theorem knotAck_shows (s : State) : s.knotAck.knotHold = false ∧ s.knotAck.knots = s.knots ∧
    (s.knotHold = true → s.faultSrc = 0 → s.knotAck.sent = Output.pin .faultN true :: s.sent ∧ bit s.knotAck.spi.hstat 2 = false) ∧ s.knotAck = { s with knotHold := false, spi := s.knotAck.spi, sent := s.knotAck.sent } := by
  have hnow : ({ s with knotHold := false } : State).faultOn = decide (s.faultSrc ≠ 0) := by simp [State.faultOn]
  unfold State.knotAck State.driveFault
  rw [hnow]
  by_cases h : decide (s.faultSrc ≠ 0) = s.faultOn
  · rw [if_pos h]
    refine ⟨rfl, rfl, fun hheld hfree => ?_, rfl⟩
    have hdriven : s.faultOn = true := by simp [State.faultOn, hheld]
    rw [hdriven, hfree] at h
    exact absurd h (by decide)
  · rw [if_neg h]
    refine ⟨rfl, rfl, fun hheld hfree => ?_, rfl⟩
    have hoff : decide (s.faultSrc ≠ 0) = false := by simp [hfree]
    rw [hoff]
    exact ⟨rfl, bit_putBit_false _ 2⟩

theorem knotsAcked : Claims.knotsAcked := by
  intro s m d h hkey hwo hv
  have hrest := arrived_rest s m
  have hknots : (s.arrived m).knots = s.knots := (congrArg State.knots hrest :)
  have hhold : (s.arrived m).knotHold = s.knotHold := (congrArg State.knotHold hrest :)
  have hsrc : (s.arrived m).faultSrc = s.faultSrc := (congrArg State.faultSrc hrest :)
  have hsent : (s.arrived m).sent = s.sent := (congrArg State.sent hrest :)
  obtain ⟨hoff, hkept, hfree, hshape⟩ := knotAck_shows (s.arrived m)
  rw [hhold, hsrc, hsent] at hfree
  exact ⟨_, knotAck_exec h hkey hwo hv, hoff, hkept.trans hknots, hfree, hshape⟩

/-- Settles O24: knots joined, merged, flushed, delivered and acknowledged. -/
theorem knotsCarryEvents : Obligations.KnotsCarryEvents := ⟨knotJoins, knotsMerge, knotsFlush, knotDelivered, knotsAcked⟩

end Sys2Proof.Proofs
end

section
/-! The ports that a part has and walks, and the WALK, REPORT and DONE cells of an enumeration (R166-R168). -/

namespace Sys2Proof.Proofs

open Sys2Proof.Machine Sys2Proof.Laws Sys2Proof.Claims

/-! The same ports -/

/-- The objects that say which ports a part has, what they are for, and which of them a head feeds. -/
def portPlace (k : Nat) : Prop :=
  k = Ob.role_active ∨ k = Ob.red_head_state ∨ k = Ob.red_ring_port ∨ k = Ob.fwd_down_port ∨ k = Ob.lane_pair_mode ∨ k = Ob.lane_group_cfg ∨ (Ob.port_role ≤ k ∧ k < Ob.port_role + 16)

/-- Two states have the same ports, in the same roles, in service alike. -/
structure SamePorts (s t : State) : Prop where
  fuses : t.fuses = s.fuses
  nats  : ∀ d k, portPlace k → t.nat d k = s.nat d k
  up    : ∀ p, (t.port p).inService = (s.port p).inService

theorem samePorts_refl (s : State) : SamePorts s s := ⟨rfl, fun _ _ _ => rfl, fun _ => rfl⟩

theorem samePorts_trans {s t u : State} (h : SamePorts s t) (k : SamePorts t u) : SamePorts s u :=
  ⟨k.fuses.trans h.fuses, fun d j hj => (k.nats d j hj).trans (h.nats d j hj), fun p => (k.up p).trans (h.up p)⟩

theorem portPlace_low {k : Nat} (h : portPlace k) : k < 16777216 := by
  simp only [portPlace, Ob.role_active, Ob.red_head_state, Ob.red_ring_port, Ob.fwd_down_port, Ob.lane_pair_mode, Ob.lane_group_cfg, Ob.port_role] at h
  omega

theorem samePorts_put (s : State) (die : Nat) {key : Nat} (v : Int) (h : ¬ portPlace key) (hkey : key < 16777216) : SamePorts s (s.put die key v) :=
  ⟨rfl, fun d k hk => nat_put_other s die key d k v (fullKey_ne (fun he => h (he ▸ hk)) (portPlace_low hk) hkey), fun _ => rfl⟩

theorem samePorts_setPort (s : State) (p : Nat) (f : PortSt → PortSt) (h : (f (s.port p)).inService = (s.port p).inService) : SamePorts s (s.setPort p f) := by
  refine ⟨rfl, fun _ _ _ => rfl, fun q => ?_⟩
  by_cases hq : q = p
  · rw [hq, port_setPort_same, h]
  · rw [port_setPort_other _ _ hq]

/-- A change beside the objects, fuses and ports. -/
theorem samePorts_of {s t : State} (hfuses : t.fuses = s.fuses) (hobjs : t.objs = s.objs) (hports : t.ports = s.ports) : SamePorts s t :=
  ⟨hfuses, fun d k _ => nat_of_objs hobjs d k, fun p => by rw [State.port, hports]; rfl⟩

theorem portPlace_not_report {k : Nat} (h : portPlace k) : ¬ reportPlaces k := by
  simp only [portPlace, reportPlaces, Ob.role_active, Ob.red_head_state, Ob.red_ring_port, Ob.fwd_down_port, Ob.lane_pair_mode, Ob.lane_group_cfg, Ob.port_role, Ob.event_seq, Ob.knot_late, Ob.knot_evictions,
    Ob.knot_undelivered, Ob.fwd_drops, Ob.lane_sleep, Ob.lane_state] at *
  omega

theorem autoWake_inService (s : State) (p q : Nat) : ((s.autoWake p).port q).inService = (s.port q).inService := by
  unfold State.autoWake
  dsimp only
  split
  · rw [State.port, wakeTx_rest]
    by_cases hq : q = p
    · subst hq
      simp [State.setPort, State.port, wakeClock_ports, smGet_smPut_same]
    · simp [State.setPort, State.port, wakeClock_ports, smGet_smPut_other _ _ _ hq]
  · simp [State.port, wakeClock_ports]

theorem samePorts_queueOwn (s : State) (p : Nat) (c : Cell) : SamePorts s (s.queueOwn p c) := by
  refine ⟨by rw [queueOwn_rest], fun d k hk => objsBut_nat (queueOwn_objs s p c) (not_reportKey_full (portPlace_not_report hk) (portPlace_low hk)), fun q => ?_⟩
  unfold State.queueOwn
  rw [autoWake_inService]
  exact (samePorts_setPort s p (fun t => { t with own := t.own ++ [c] }) rfl).up q

section
variable {s t : State} (h : SamePorts s t)
include h

theorem samePorts_role (p : Nat) : t.role p = s.role p := by
  refine h.nats _ _ ?_
  have hp : p % 16 < 16 := Nat.mod_lt _ (by decide)
  simp only [portPlace]
  omega

theorem samePorts_pw {key : Nat} (hk : portPlace key) : t.pw key = s.pw key := h.nats 0 key hk

theorem samePorts_isHead : t.isHead = s.isHead := by
  unfold State.isHead
  rw [samePorts_pw h (.inl rfl)]

theorem samePorts_dies : t.dies = s.dies := by rw [State.dies, State.dies, h.fuses]

theorem samePorts_laneCount : t.laneCount = s.laneCount := by rw [State.laneCount, State.laneCount, h.fuses]

theorem samePorts_hawserLane (die lane : Nat) : t.hawserLane die lane = s.hawserLane die lane := by
  have heth : t.ethMode die = s.ethMode die := by
    unfold State.ethMode State.big
    rw [h.fuses, h.nats die Ob.lane_pair_mode (by unfold portPlace; decide)]
  unfold State.hawserLane
  rw [samePorts_dies h, samePorts_laneCount h, heth]

theorem samePorts_portExists (p : Nat) : t.portExists p = s.portExists p := by
  have hgroup : ∀ die lane, t.groupBase die lane = s.groupBase die lane := fun die lane => by
    unfold State.groupBase State.groupSize
    rw [h.nats die Ob.lane_group_cfg (by unfold portPlace; decide)]
  unfold State.portExists
  rw [samePorts_hawserLane h, hgroup]

theorem samePorts_portList : t.portList = s.portList := by
  unfold State.portList State.dieList
  rw [samePorts_dies h, samePorts_laneCount h]
  exact List.filter_congr fun p _ => samePorts_portExists h p

theorem samePorts_inService (p : Nat) : t.inService p = s.inService p := by rw [State.inService, State.inService, samePorts_portExists h, h.up]

theorem samePorts_portsUp : t.portsUp = s.portsUp := by
  rw [State.portsUp, State.portsUp, samePorts_portList h]
  exact List.filter_congr fun p _ => h.up p

theorem samePorts_feeds (p : Nat) : t.feeds p = s.feeds p := by
  have hports : t.headPorts = s.headPorts := by
    rw [State.headPorts, State.headPorts, samePorts_portList h, State.chainLimit, State.chainLimit, h.fuses]
    congr 1
    exact List.filter_congr fun p _ => by rw [samePorts_role h]
  unfold State.feeds
  rw [samePorts_isHead h, hports, samePorts_pw h (key := Ob.red_head_state) (by unfold portPlace; decide), samePorts_pw h (key := Ob.red_ring_port) (by unfold portPlace; decide)]

theorem samePorts_pickDown (u : Nat) : t.pickDown u = s.pickDown u := by
  have hchain : t.chainUp = s.chainUp := by
    rw [State.chainUp, State.chainUp, samePorts_portsUp h]
    exact List.filter_congr fun p _ => by rw [samePorts_role h]
  unfold State.pickDown
  rw [hchain, samePorts_pw h (key := Ob.fwd_down_port) (by unfold portPlace; decide)]

end

/-! ENUM cells (Table 5.8) -/

/-- An ENUM cell that is the part's own to use. -/
theorem enumRow {s : State} {p : Nat} {c : Cell} {named : Bool} (h : CellAt s p c) (hcls : c.cls = 2) (hkind : c.kind = 1) (hmine : s.passes c = false) (hnamed : named = true) :
    s.cellRow p c named = ((s.cellArrives p).enumCell p c).spent p := by
  rw [cellRow_consumed h (by rw [hcls]; decide) hmine hnamed]
  simp only [State.consume, hcls, hkind]

/-- A WALK is for every part that it reaches. -/
theorem walk_mine {s : State} {c : Cell} (hcls : c.cls = 2) (hkind : c.kind = 1) (hmsg : (enumParse c.payload).msg = 1) : s.passes c = false := by
  simp only [State.passes, hcls, hkind, hmsg]
  split <;> rfl

/-- At a head, a REPORT or DONE with its own node is for it. -/
theorem answer_mine {s : State} {c : Cell} (hcls : c.cls = 2) (hkind : c.kind = 1) (hhead : s.isHead = true) (hnode : s.node = some c.node) : s.passes c = false := by
  simp [State.passes, hcls, hkind, hhead, hnode]

/-- What a REPORT or DONE does at the head that it is for. -/
theorem enumCell_answer {s : State} {p : Nat} {c : Cell} (hhead : s.isHead = true) (hnode : s.node = some c.node) (hmsg : (enumParse c.payload).msg = 2 ∨ (enumParse c.payload).msg = 3) :
    s.enumCell p c = if (enumParse c.payload).msg = 2 then s.enumReport (enumParse c.payload) else s.enumDone (enumParse c.payload) := by
  have hhere : s.offChain p = false := by rw [State.offChain, hhead]; rfl
  unfold State.enumCell
  dsimp only
  rw [if_neg (by omega), if_neg (by rw [hhere]; exact Bool.false_ne_true), if_pos (by simpa using hmsg), if_pos (by simp [hhead, hnode])]

/-! WALK at a tile -/

theorem pw_node {s : State} {n : Nat} (h : s.node = some n) : s.pw Ob.node_id = n := by
  unfold State.node at h
  dsimp only at h
  split at h
  · cases h
  · exact Option.some.inj h

/-- A tile that a WALK has placed: its up port, and the WALK's head, position and depth. -/
def walkPlaced (s : State) (p : Nat) (e : Enum) : State :=
  let t := ((s.set Ob.fwd_up_port p).set Ob.enum_head e.head).set Ob.enum_pos e.pos
  { t with net := { t.net with headDepth := e.depth, forget := false } }

/-- The REPORT of a tile that keeps its ID. -/
def keptReport (s : State) (e : Enum) (n : Nat) : Enum := { e with msg := 2, argA := n, argB := n, argC := s.identity, argD := 0 }

theorem walkPlaced_ports (s : State) (p : Nat) (e : Enum) : SamePorts s (walkPlaced s p e) := by
  refine samePorts_trans (samePorts_put s 0 p (by unfold portPlace; decide) (by decide)) (samePorts_trans (samePorts_put _ 0 e.head (by unfold portPlace; decide) (by decide))
    (samePorts_trans (samePorts_put _ 0 e.pos (by unfold portPlace; decide) (by decide)) (samePorts_of rfl rfl rfl)))

theorem walkTile_passes {s : State} {p q n : Nat} {e : Enum} (hforget : s.net.forget = false) (hnode : s.node = some n) (hclear : bit e.taken n = false) (hpos : e.pos < 255)
    (hdown : s.pickDown p = (some q, 0)) : s.walkTile p e =
      (((walkPlaced s p e).orBits 0 Ob.fwd_flags 0).sendEnum p (keptReport s e n)).queueOwn q (mkCell 2 1 0 0 (enumBytes { e with pos := e.pos + 1, taken := setBit e.taken n })) := by
  have hbefore := pw_node hnode
  have hid : s.walkId e = some n := by
    unfold State.walkId
    rw [hforget, hnode]
    exact if_neg (by rw [hclear]; exact Bool.false_ne_true)
  have hpicked : (walkPlaced s p e).pickDown p = (some q, 0) := (samePorts_pickDown (walkPlaced_ports s p e) p).trans hdown
  unfold State.walkTile
  rw [hid, hbefore]
  extract_lets before id after placed net walked kept down flagged rep reported taken
  have hkept : kept = walkPlaced s p e := if_pos rfl
  have hpick : down = (some q, 0) := by
    show kept.pickDown p = _
    rw [hkept, hpicked]
  have hflagged : flagged = (walkPlaced s p e).orBits 0 Ob.fwd_flags 0 := by
    show kept.orBits 0 Ob.fwd_flags down.2 = _
    rw [hkept, hpick]
  have hargs : b2n (decide (after ≠ before)) + 2 * b2n id.isNone + 4 * b2n (bit down.2 1) = 0 := by
    rw [hpick]
    simp [b2n, bit, show after = before from rfl, show id.isNone = false from rfl]
  have hrep : rep = keptReport s e n := by
    show ({ e with msg := 2, argA := n, argB := n, argC := flagged.identity, argD := b2n (decide (after ≠ before)) + 2 * b2n id.isNone + 4 * b2n (bit down.2 1) } : Enum) = _
    rw [hargs, hflagged]
    rfl
  have hreported : reported = ((walkPlaced s p e).orBits 0 Ob.fwd_flags 0).sendEnum p (keptReport s e n) := by
    show flagged.sendEnum p rep = _
    rw [hflagged, hrep]
  rw [hpick]
  dsimp only
  rw [if_neg (by omega), hreported]

theorem walkPlaced_shows (s : State) (p : Nat) (e : Enum) : ((walkPlaced s p e).orBits 0 Ob.fwd_flags 0).pw Ob.fwd_up_port = p ∧ ((walkPlaced s p e).orBits 0 Ob.fwd_flags 0).pw Ob.enum_head = e.head ∧
    ((walkPlaced s p e).orBits 0 Ob.fwd_flags 0).pw Ob.enum_pos = e.pos ∧
    ObjsBut s ((walkPlaced s p e).orBits 0 Ob.fwd_flags 0) fun k => k = Ob.fwd_up_port ∨ k = Ob.enum_head ∨ k = Ob.enum_pos ∨ k = Ob.fwd_flags := by
  have hor := (orBits_shows (walkPlaced s p e) Ob.fwd_flags 0).2
  have hset : ObjsBut s (walkPlaced s p e) fun k => k = Ob.fwd_up_port ∨ k = Ob.enum_head ∨ k = Ob.enum_pos :=
    objsBut_trans (objsBut_mono (objsBut_set s Ob.fwd_up_port p) fun _ => .inl) (objsBut_trans (objsBut_mono (objsBut_set _ Ob.enum_head e.head) fun _ h => .inr (.inl h))
      (objsBut_trans (t := ((s.set Ob.fwd_up_port p).set Ob.enum_head e.head).set Ob.enum_pos e.pos) (objsBut_mono (objsBut_set _ Ob.enum_pos e.pos) fun _ h => .inr (.inr h)) (objsBut_of_eq rfl)))
  have hup : (walkPlaced s p e).pw Ob.fwd_up_port = p :=
    (pw_set_other _ Ob.enum_pos Ob.fwd_up_port _ (by decide)).trans ((pw_set_other _ Ob.enum_head Ob.fwd_up_port _ (by decide)).trans ((pw_set_same s Ob.fwd_up_port p).trans (Int.toNat_natCast _)))
  have hhead : (walkPlaced s p e).pw Ob.enum_head = e.head := (pw_set_other _ Ob.enum_pos Ob.enum_head _ (by decide)).trans ((pw_set_same _ Ob.enum_head e.head).trans (Int.toNat_natCast _))
  have hpos : (walkPlaced s p e).pw Ob.enum_pos = e.pos := (pw_set_same _ Ob.enum_pos e.pos).trans (Int.toNat_natCast _)
  refine ⟨(objsBut_pw hor (by decide)).trans hup, (objsBut_pw hor (by decide)).trans hhead, (objsBut_pw hor (by decide)).trans hpos, objsBut_trans (objsBut_mono hset fun k h => ?_) (objsBut_mono hor fun _ h => .inr (.inr (.inr h)))⟩
  tauto

theorem walkPasses : Claims.walkPasses := by
  intro s a p q n c e hat hcls hkind he hmsg ha htile hrole hforget hnode hclear hpos hdown hpq
  have hnet : a.net = s.net := by rw [ha, arrives_net]
  have hanode : a.node = some n := by rw [ha, arrives_node, hnode]
  have harole : a.role p = 0 := by rw [ha, arrives_role, hrole]
  have hports : ∀ r, a.port r = s.port r := fun r => by rw [ha, arrives_port]
  have hid : a.identity = s.identity := by rw [ha, cellArrives_rest]; rfl
  have htaken := walkTile_passes (by rw [hnet]; exact hforget) hanode hclear hpos hdown
  have hcell : a.enumCell p c = a.walkTile p e := by
    unfold State.enumCell
    rw [← he]
    dsimp only
    rw [if_pos hmsg, if_neg (by rw [htile]; exact Bool.false_ne_true), if_pos harole]
  have hrow := enumRow hat hcls hkind (walk_mine hcls hkind (he ▸ hmsg)) (named := c.cls = 2 && c.kind = 1 && (enumParse c.payload).msg = 1) (by rw [← he]; simp [hcls, hkind, hmsg])
  rw [← ha, hcell, htaken] at hrow
  obtain ⟨hup, hhead, hposed, hobjs⟩ := walkPlaced_shows a p e
  have hdepth : ((walkPlaced a p e).orBits 0 Ob.fwd_flags 0).net.headDepth = e.depth := rfl
  have hstays : ∀ r, ((walkPlaced a p e).orBits 0 Ob.fwd_flags 0).port r = a.port r := fun _ => rfl
  have hkeeps := pw_node hanode
  have hunset : ((walkPlaced a p e).orBits 0 Ob.fwd_flags 0).pw Ob.node_id = n := (objsBut_pw hobjs (by decide)).trans hkeeps
  refine ⟨_, congrArg Host.Outcome.next hrow, ?_⟩
  unfold State.sendEnum
  generalize (walkPlaced a p e).orBits 0 Ob.fwd_flags 0 = x at *
  generalize hrep : mkCell 2 1 ((keptReport a e n).head % 1024) 0 (enumBytes { keptReport a e n with taken := 0, depth := 0 }) = rep
  generalize hgo : mkCell 2 1 0 0 (enumBytes { e with pos := e.pos + 1, taken := setBit e.taken n }) = go
  have hreport := queueOwn_objs x p rep
  have hwalk := queueOwn_objs (x.queueOwn p rep) q go
  have hboth : ObjsBut x ((x.queueOwn p rep).queueOwn q go) reportKey := objsBut_trans hreport hwalk
  have hpw : ∀ k, ¬ reportPlaces k → k < 16777216 → (((x.queueOwn p rep).queueOwn q go).spent p).pw k = x.pw k := fun k hk hlow => objsBut_nat hboth (not_reportKey_full hk hlow)
  refine ⟨?_, ?_, ?_, ?_, ?_, ?_, ?_, ?_⟩
  · rw [hpw _ (by unfold reportPlaces; decide) (by decide), hup]
  · rw [hpw _ (by unfold reportPlaces; decide) (by decide), hhead]
  · rw [hpw _ (by unfold reportPlaces; decide) (by decide), hposed]
  · rw [hpw _ (by unfold reportPlaces; decide) (by decide), hunset]
  · rw [spent_rest, queueOwn_rest, queueOwn_rest]
    exact hdepth
  · rw [spent_own, queueOwn_own_other _ _ hpq, queueOwn_own_same, hstays, hports, ← hrep, keptReport, hid]
  · rw [spent_own, queueOwn_own_same, queueOwn_own_other _ _ (Ne.symm hpq), hstays, hports, ← hgo]
  · refine objsBut_trans (objsBut_mono hobjs fun k h => ?_) (objsBut_mono (objsBut_trans hboth (objsBut_of_eq (spent_objs _ p))) fun k h => .inr (.inr (.inr (.inr h))))
    tauto

/-! WALK, REPORT and DONE at a head -/

theorem walkEnds : Claims.walkEnds := by
  intro s a p c e hat hcls hkind he hmsg ha hhead
  have hahead : a.isHead = true := by rw [ha, arrives_isHead, hhead]
  have hcell : a.enumCell p c = a.walkHead p e := by
    unfold State.enumCell
    rw [← he]
    dsimp only
    rw [if_pos hmsg, if_pos hahead]
  have hid : a.pw Ob.node_id = s.pw Ob.node_id := by rw [ha, arrives_pw s p besideArrival_node]
  have hports : ∀ r, a.port r = s.port r := fun r => by rw [ha, arrives_port]
  have hnet : a.net = s.net := by rw [ha, arrives_net]
  have hrow := enumRow hat hcls hkind (walk_mine hcls hkind (he ▸ hmsg)) (named := c.cls = 2 && c.kind = 1 && (enumParse c.payload).msg = 1 && s.isHead) (by rw [← he]; simp [hcls, hkind, hmsg, hhead])
  rw [← ha, hcell, State.walkHead, State.sendEnum, hid] at hrow
  dsimp only at hrow
  refine ⟨_, congrArg Host.Outcome.next hrow, ?_, fun q hq => ?_, ?_, objsBut_trans (queueOwn_objs _ _ _) (objsBut_of_eq (spent_objs _ p))⟩
  · rw [spent_own, queueOwn_own_same, hports]
  · exact (port_setPort_other _ _ hq).trans ((queueOwn_port_other _ _ hq).trans (hports q))
  · rw [spent_rest, queueOwn_rest, ← hnet]

theorem reportJoins : Claims.reportJoins := by
  intro s p c e w hat hcls hkind he hmsg hhead hnode hwalk hseq hport hid hnew
  have hwalking : (s.cellArrives p).net.walk = some w := by rw [arrives_net, hwalk]
  have hreport : (s.cellArrives p).enumReport e = { s.cellArrives p with net := { (s.cellArrives p).net with walk := some { w with ids := w.ids ++ [e.argA] } } } := by
    rw [State.enumReport, hwalking]
    exact if_pos (by simpa [hseq, hport, hid] using hnew)
  subst he
  have hrow := enumRow hat hcls hkind (answer_mine hcls hkind hhead hnode) (named := c.cls = 2 && c.kind = 1 && (enumParse c.payload).msg = 2) (by simp [hcls, hkind, hmsg])
  rw [enumCell_answer ((arrives_isHead s p).trans hhead) ((arrives_node s p).trans hnode) (.inl hmsg), if_pos hmsg, hreport] at hrow
  exact ⟨_, congrArg Host.Outcome.next hrow, rfl, rfl⟩

/-- A walk closed: what is recorded of it. -/
theorem closeWalk_shows (s : State) (w : WalkSt) : (s.closeWalk w).net = { s.net with walk := none } ∧ smGet [] (s.closeWalk w).enums w.port = w.ids ∧
    (s.closeWalk w).int (w.port / 16) (atPort Ob.enum_count w.port) = w.ids.length ∧ (∀ q, q ≠ w.port → smGet [] (s.closeWalk w).enums q = smGet [] s.enums q) ∧ (s.closeWalk w).sent = s.sent ∧
    ObjsBut s (s.closeWalk w) fun k => k = fullKey (w.port / 16) (atPort Ob.enum_count w.port) := by
  unfold State.closeWalk
  extract_lets wait t net t1
  have hobjs : ObjsBut s t1 fun k => k = fullKey (w.port / 16) (atPort Ob.enum_count w.port) := objsBut_of_eq rfl
  exact ⟨rfl, smGet_smPut_same _ _ _ _, int_put_same _ _ _ _, fun q hq => smGet_smPut_other _ _ _ hq, rfl, objsBut_trans hobjs (objsBut_put _ (w.port / 16) (atPort Ob.enum_count w.port) _)⟩

/-- With no port waiting, no walk begins. -/
theorem nextWalk_none {s : State} (h : s.net.walk = none) (hq : s.net.queue = []) : s.nextWalk = { s with net := { s.net with queue := [] } } := by
  unfold State.nextWalk
  rw [if_neg (by rw [h]; exact Bool.false_ne_true), hq]
  rfl

theorem doneRecords : Claims.doneRecords := by
  intro s p c e w hat hcls hkind he hmsg hhead hnode hwalk hseq hport hqueue hstate hring
  have hnet := arrives_net s p
  have henums : (s.cellArrives p).enums = s.enums := by rw [cellArrives_rest]
  have hsent : (s.cellArrives p).sent = s.sent := by rw [cellArrives_rest]
  have harstate : (s.cellArrives p).pw Ob.red_head_state = s.pw Ob.red_head_state := arrives_pw s p (by unfold besideArrival; decide)
  subst he
  have hrow := enumRow hat hcls hkind (answer_mine hcls hkind hhead hnode) (named := c.cls = 2 && c.kind = 1 && (enumParse c.payload).msg = 3) (by simp [hcls, hkind, hmsg])
  rw [enumCell_answer ((arrives_isHead s p).trans hhead) ((arrives_node s p).trans hnode) (.inr hmsg), if_neg (by omega)] at hrow
  generalize s.cellArrives p = a at *
  obtain ⟨hclosed, hids, hcount, hothers, hput, hobjs⟩ := closeWalk_shows a w
  have hsplit : (a.closeWalk w).pw Ob.red_head_state ≠ 3 := by
    rw [objsBut_pw hobjs ?_, harstate]
    · exact hstate
    · have hw : w.port % 16 < 16 := Nat.mod_lt _ (by decide)
      simp only [fullKey, atPort, Ob.red_head_state, Ob.enum_count]
      omega
  have hdone : a.enumDone (enumParse c.payload) = { a.closeWalk w with net := { (a.closeWalk w).net with queue := [] } } := by
    have hwalking : a.net.walk = some w := by rw [hnet, hwalk]
    have hwhole : (a.closeWalk w).ringWhole (enumParse c.payload) = a.closeWalk w := if_neg (by simp [hsplit])
    rw [State.enumDone, hwalking]
    dsimp only
    rw [if_pos (by simp [hseq, hport]), hwhole, nextWalk_none (by rw [hclosed]) (by rw [hclosed, hnet]; exact hqueue)]
  rw [hdone] at hrow
  refine ⟨_, congrArg Host.Outcome.next hrow, ?_, hids, ?_, fun q hq => (hothers q hq).trans (by rw [henums]), hput.trans hsent⟩
  · show (a.closeWalk w).net.walk = none
    rw [hclosed]
  · exact (int_of_objs (t := State.spent { a.closeWalk w with net := { (a.closeWalk w).net with queue := [] } } p) (s := a.closeWalk w) rfl _ _).trans hcount

/-! A walk that begins (R166) -/

/-- What a walk's first cell says of a part depends on its clock, its pool, its count of walks and the port's queue. -/
theorem walkBegun_of {a b t : State} {p : Nat} (h : walkBegun b t p) (hnow : b.now = a.now) (hseq : b.net.walkSeq = a.net.walkSeq) (hown : (b.port p).own = (a.port p).own)
    (hfirst : b.pw Ob.enum_id_first = a.pw Ob.enum_id_first) (hlast : b.pw Ob.enum_id_last = a.pw Ob.enum_id_last) : walkBegun a t p := by
  unfold walkBegun at h ⊢
  rw [hnow, hseq, hown, hfirst, hlast] at h
  exact h

/-- A head with IDs in its pool may take one, and nothing else. -/
theorem headId_pool {s : State} (h : s.pw Ob.enum_id_first ≤ s.pw Ob.enum_id_last) : s.headId = { s with objs := s.headId.objs, journal := s.headId.journal } ∧ ObjsBut s s.headId fun k => k = Ob.node_id := by
  have hquiet : (s.when (s.isHead && s.pw Ob.enum_id_last < s.pw Ob.enum_id_first) fun s => s.raise 0 Ob.enum_flags 1) = s := by
    unfold State.when
    exact if_neg (by simp [Nat.not_lt.2 h])
  have hkeep : ∀ n : Nat, ObjsBut s (s.keep 0 Ob.node_id n) fun k => k = Ob.node_id := fun n => objsBut_trans (t := s.set Ob.node_id n) (objsBut_set s Ob.node_id n) (objsBut_of_eq rfl)
  unfold State.headId
  dsimp only
  rw [hquiet]
  split
  · split
    · exact ⟨rfl, hkeep _⟩
    · exact ⟨rfl, objsBut_refl _ _⟩
  · exact ⟨rfl, objsBut_refl _ _⟩

theorem samePorts_headId {s : State} (h : s.pw Ob.enum_id_first ≤ s.pw Ob.enum_id_last) : SamePorts s s.headId := by
  obtain ⟨hrest, hobjs⟩ := headId_pool h
  refine ⟨(congrArg State.fuses hrest :), fun d k hk => objsBut_nat hobjs (fun he => ?_), fun p => congrArg PortSt.inService (congrArg (fun t : State => t.port p) hrest :)⟩
  have hne : k ≠ Ob.node_id := fun he => by rw [he] at hk; revert hk; unfold portPlace; decide
  exact fullKey_ne_part hne (portPlace_low hk) (by decide) he

/-- The first cell of a walk that begins. -/
def walkCell (s : State) (p : Nat) : Enum :=
  { msg := 1, pos := 1, head := s.headId.pw Ob.node_id, port := p, depth := min 31 s.headId.knotDepth, seq := (s.headId.net.walkSeq + 1) % 65536, argA := s.headId.pw Ob.enum_id_first, argB := s.headId.pw Ob.enum_id_last,
    argC := 0, argD := 0, taken := s.headId.takenFor p }

/-- The part with the walk of a port under way. -/
def walkNoted (s : State) (p : Nat) : State :=
  { s.headId with net := { s.headId.net with walk := some { port := p, seq := (s.headId.net.walkSeq + 1) % 65536, startAt := s.headId.now, ids := [] }, walkSeq := (s.headId.net.walkSeq + 1) % 65536 } }

theorem startWalk_eq (s : State) (p : Nat) : s.startWalk p = (walkNoted s p).queueOwn p (mkCell 2 1 0 0 (enumBytes (walkCell s p))) := rfl

/-- A walk's first cell waits, and the walk is under way. -/
theorem startWalk_begins {s : State} (p : Nat) (h : s.pw Ob.enum_id_first ≤ s.pw Ob.enum_id_last) : walkBegun s (s.startWalk p) p ∧ (s.startWalk p).net.periodAt = s.net.periodAt := by
  obtain ⟨hrest, hobjs⟩ := headId_pool h
  have hnow : s.headId.now = s.now := (congrArg State.now hrest :)
  have hnet : s.headId.net = s.net := (congrArg State.net hrest :)
  have hport : (walkNoted s p).port p = s.port p := (congrArg (fun t : State => t.port p) hrest :)
  have hqueued : (s.startWalk p).net = (walkNoted s p).net := by rw [startWalk_eq, queueOwn_rest]
  refine ⟨⟨⟨{ port := p, seq := (s.headId.net.walkSeq + 1) % 65536, startAt := s.headId.now, ids := [] }, ?_, rfl, rfl, hnow, by rw [hnet]⟩, mkCell 2 1 0 0 (enumBytes (walkCell s p)), walkCell s p, ?_, rfl, rfl, rfl, rfl, ?_, ?_, ?_⟩, ?_⟩
  · rw [hqueued]; rfl
  · rw [startWalk_eq, queueOwn_own_same, hport]
  · show (s.headId.net.walkSeq + 1) % 65536 = _
    rw [hnet]
  · exact objsBut_pw hobjs (by decide)
  · exact objsBut_pw hobjs (by decide)
  · rw [hqueued]
    show s.headId.net.periodAt = _
    rw [hnet]

/-- One port waits for its walk, and no walk is under way: it begins. -/
theorem queueWalks_one {s : State} {p : Nat} (hp : p ∈ s.portList) (hup : s.inService p = true) (hfeeds : s.feeds p = true) (hwalk : s.net.walk = none) (hqueue : s.net.queue = []) :
    s.queueWalks [p] = ({ s with net := { s.net with queue := [] } } : State).startWalk p := by
  have hone : s.portList.filter (fun q => [p].contains q || s.net.queue.contains q) = [p] := by
    have hcount : s.portList.count p = 1 := List.count_eq_one_of_mem (nodup_portList s) hp
    have hpred : s.portList.filter (fun q => [p].contains q || s.net.queue.contains q) = s.portList.filter (· == p) := List.filter_congr fun q _ => Bool.eq_iff_iff.2 (by simp [hqueue])
    rw [hpred, List.filter_beq, hcount]
    rfl
  unfold State.queueWalks
  rw [hone]
  unfold State.nextWalk
  rw [if_neg (by rw [show ({ s with net := { s.net with queue := [p] } } : State).net.walk = none from hwalk]; exact Bool.false_ne_true)]
  have hnext : ([p].filter fun q => ({ s with net := { s.net with queue := [p] } } : State).inService q && ({ s with net := { s.net with queue := [p] } } : State).feeds q) = [p] := by
    rw [List.filter_cons, if_pos (by rw [Bool.and_eq_true]; exact ⟨hup, hfeeds⟩), List.filter_nil]
  show (match [p].filter fun q => ({ s with net := { s.net with queue := [p] } } : State).inService q && ({ s with net := { s.net with queue := [p] } } : State).feeds q with
    | p :: rest => ({ s with net := { s.net with queue := rest } } : State).startWalk p
    | [] => { s with net := { s.net with queue := [] } }) = _
  rw [hnext]

theorem queueWalks_begins {s : State} {p : Nat} (hp : p ∈ s.portList) (hup : s.inService p = true) (hfeeds : s.feeds p = true) (hwalk : s.net.walk = none) (hqueue : s.net.queue = [])
    (hpool : s.pw Ob.enum_id_first ≤ s.pw Ob.enum_id_last) : walkBegun s (s.queueWalks [p]) p ∧ (s.queueWalks [p]).net.periodAt = s.net.periodAt := by
  rw [queueWalks_one hp hup hfeeds hwalk hqueue]
  exact startWalk_begins (s := { s with net := { s.net with queue := [] } }) p hpool

theorem feeds_listed {s : State} {p : Nat} (h : s.feeds p = true) : p ∈ s.portList := by
  unfold State.feeds at h
  have hports : p ∈ s.headPorts := by
    simp only [Bool.and_eq_true, List.contains_iff_mem] at h
    exact h.1.2
  exact (List.mem_filter.1 (List.mem_of_mem_take hports)).1

theorem walkFollows : Claims.walkFollows := by
  intro s p t0 hup hdue hservice hfeeds hwalk hqueue hpool
  have hexec : exec (.walkAfterService p) s = .next (s.walkAfter p) := congrArg Host.Outcome.next (run_up hup _)
  have hafter : s.walkAfter p = if t0 ≤ s.now && s.inService p && s.feeds p then (s.setPort p fun t => { t with walkDue := none }).queueWalks [p] else s := by rw [State.walkAfter, hdue]
  rw [hexec, hafter]
  refine ⟨fun h => ?_, fun h => ?_⟩
  · have hsame := samePorts_setPort s p (fun t => { t with walkDue := none }) rfl
    have hown : ((s.setPort p fun t => { t with walkDue := none }).port p).own = (s.port p).own := by rw [port_setPort_same]
    have hbegun := (queueWalks_begins (s := s.setPort p fun t => { t with walkDue := none }) (by rw [samePorts_portList hsame]; exact feeds_listed hfeeds) ((samePorts_inService hsame p).trans hservice)
      ((samePorts_feeds hsame p).trans hfeeds) hwalk hqueue hpool).1
    exact ⟨_, by rw [if_pos (by simp [h, hservice, hfeeds])], walkBegun_of hbegun rfl rfl hown rfl rfl⟩
  · rw [if_neg (by simp [Nat.not_le.2 h])]

/-- Settles O22: a WALK at a tile and at a head, REPORT and DONE at the walking head, and the walk of a port that came into service. -/
theorem walksEnumerate : Obligations.WalksEnumerate := ⟨walkPasses, walkEnds, reportJoins, doneRecords, walkFollows⟩

end Sys2Proof.Proofs
end

section
/-! enum_start, the repeats and the timeout of walks, enum_id_forget, and the routes of heads (R166-R171). -/

namespace Sys2Proof.Proofs

open Sys2Proof.Machine Sys2Proof.Laws Sys2Proof.Claims

/-! Walks begun by a write or by their period (R166) -/

/-- A port that a head walks is one of its chain ports, in service. -/
theorem mem_walkPorts {s : State} {p : Nat} (h : p ∈ s.walkPorts) : p ∈ s.portList ∧ s.inService p = true ∧ s.feeds p = true := by
  have hfeeds : s.feeds p = true := (List.mem_filter.1 h).2
  have hlisted := feeds_listed hfeeds
  have hexists : s.portExists p = true := (List.mem_filter.1 hlisted).2
  have hservice : (s.port p).inService = true := (List.mem_filter.1 (List.mem_filter.1 h).1).2
  exact ⟨hlisted, by rw [State.inService, hexists, hservice, Bool.and_self], hfeeds⟩

/-- The one port that a head walks has its walk. -/
theorem walkPorts_begins {s : State} {p : Nat} (hports : s.walkPorts = [p]) (hwalk : s.net.walk = none) (hqueue : s.net.queue = []) (hpool : s.pw Ob.enum_id_first ≤ s.pw Ob.enum_id_last) :
    walkBegun s (s.queueWalks s.walkPorts) p ∧ (s.queueWalks s.walkPorts).net.periodAt = s.net.periodAt := by
  obtain ⟨hlisted, hservice, hfeeds⟩ := mem_walkPorts (s := s) (p := p) (by rw [hports]; exact List.mem_singleton_self p)
  rw [hports]
  exact queueWalks_begins hlisted hservice hfeeds hwalk hqueue hpool

theorem enumStart_begins {s : State} {p : Nat} (hhead : s.isHead = true) (hports : s.walkPorts = [p]) (hwalk : s.net.walk = none) (hqueue : s.net.queue = [])
    (hpool : s.pw Ob.enum_id_first ≤ s.pw Ob.enum_id_last) : walkBegun s s.enumStart p := by
  obtain ⟨hrest, hobjs⟩ := headId_pool hpool
  have hnet : s.headId.net = s.net := (congrArg State.net hrest :)
  have hfirst : s.headId.pw Ob.enum_id_first = s.pw Ob.enum_id_first := objsBut_pw hobjs (by decide)
  have hlast : s.headId.pw Ob.enum_id_last = s.pw Ob.enum_id_last := objsBut_pw hobjs (by decide)
  have hsame := samePorts_headId hpool
  obtain ⟨hlisted, hservice, hfeeds⟩ := mem_walkPorts (s := s) (p := p) (by rw [hports]; exact List.mem_singleton_self p)
  have hbegun := (queueWalks_begins (s := s.headId) (p := p) (by rw [samePorts_portList hsame]; exact hlisted) ((samePorts_inService hsame p).trans hservice) ((samePorts_feeds hsame p).trans hfeeds)
    (by rw [hnet]; exact hwalk) (by rw [hnet]; exact hqueue) (by rw [hfirst, hlast]; exact hpool)).1
  unfold State.enumStart
  rw [if_pos hhead, hports]
  exact walkBegun_of hbegun (congrArg State.now hrest :) (by rw [hnet]) (congrArg (fun t : State => (t.port p).own) hrest :) hfirst hlast

theorem enumStart_exec {s : State} {m : Msg} {d : ObjDef} (h : WritesOne s m d 0) (hkey : m.key = Ob.enum_start) (hwo : d.acc = .wo) (hv : (s.arrived m).clampVal 0 m.key d (decodeVal d.ty m.payload) = 1) :
    exec (.enumStart m) s = .next ((s.arrived m).enumStart.answer 0x02 m 0 d.ty.code []) := by
  refine congrArg Host.Outcome.next (corrixFor_write_one h (by simp [hkey]) (by rw [hkey]; decide) ?_)
  rw [writeOne_wo h hwo, hv, hkey]
  rfl

/-- The objects that a request's own arrival counts in are not those of enumerations and of the part's role. -/
theorem arrived_walks (s : State) (m : Msg) : (s.arrived m).isHead = s.isHead ∧ (s.arrived m).pw Ob.enum_id_first = s.pw Ob.enum_id_first ∧ (s.arrived m).pw Ob.enum_id_last = s.pw Ob.enum_id_last ∧
    (s.arrived m).net = s.net := by
  refine ⟨?_, arrived_pw s m _ ?_, arrived_pw s m _ ?_, (congrArg State.net (arrived_rest s m) :)⟩
  · rw [State.isHead, State.isHead, arrived_pw s m _ ?_]
    intro q
    simp only [fullKey, Ob.role_active, Ob.cell_rx, Ob.xing_overruns, Ob.clock_flags]
    omega
  · intro q
    simp only [fullKey, Ob.enum_id_first, Ob.cell_rx, Ob.xing_overruns, Ob.clock_flags]
    omega
  · intro q
    simp only [fullKey, Ob.enum_id_last, Ob.cell_rx, Ob.xing_overruns, Ob.clock_flags]
    omega

theorem enumStarts : Claims.enumStarts := by
  intro s m d p h hkey hwo hv
  obtain ⟨hhead, hfirst, hlast, hnet⟩ := arrived_walks s m
  have hexec := enumStart_exec h hkey hwo hv
  refine ⟨fun hs hports hwalk hqueue hpool => ⟨_, hexec, ?_⟩, fun hs => ?_⟩
  · exact enumStart_begins (hhead.trans hs) hports (by rw [hnet]; exact hwalk) (by rw [hnet]; exact hqueue) (by rw [hfirst, hlast]; exact hpool)
  · rw [hexec, State.enumStart, if_neg (by rw [hhead, hs]; exact Bool.false_ne_true)]

theorem enumRepeats : Claims.enumRepeats := by
  intro s p hup hhead hports hwalk hqueue hpool
  have hexec : exec .enumPeriodExpiry s = .next s.enumPeriod := congrArg Host.Outcome.next (run_up hup _)
  rw [hexec, State.enumPeriod]
  refine ⟨fun hon hdue => ?_, fun hoff => ?_⟩
  · obtain ⟨hbegun, hperiod⟩ := walkPorts_begins (s := { s with net := { s.net with periodAt := s.now } }) hports hwalk hqueue hpool
    exact ⟨_, congrArg Host.Outcome.next (if_pos (by simp [hhead, hon, State.past, hdue])), walkBegun_of hbegun rfl rfl rfl rfl rfl, hperiod⟩
  · exact congrArg Host.Outcome.next (if_neg (by simp [hoff]))

/-! A walk with no answer (R168), and an ID to drop (R167) -/

theorem enumTimesOut : Claims.enumTimesOut := by
  intro s w hup hwalk hqueue
  have hexec : exec .enumTimeout s = .next s.enumTimeout := congrArg Host.Outcome.next (run_up hup _)
  have htimeout : s.enumTimeout = if s.past w.startAt 50000000 then ((s.closeWalk w).raise 0 Ob.enum_flags 0).nextWalk else s := by rw [State.enumTimeout, hwalk]
  obtain ⟨hclosed, hids, -⟩ := closeWalk_shows s w
  have hnet : ((s.closeWalk w).raise 0 Ob.enum_flags 0).net = { s.net with walk := none } := by rw [raise_net, hclosed]
  rw [hexec, htimeout]
  refine ⟨fun hdue => ⟨_, congrArg Host.Outcome.next (if_pos (decide_eq_true hdue)), ?_⟩, fun hyoung => congrArg Host.Outcome.next (if_neg (by simp [State.past, hyoung]))⟩
  rw [nextWalk_none (by rw [hnet]) (by rw [hnet]; exact hqueue)]
  refine ⟨?_, ?_, ?_⟩
  · show ((s.closeWalk w).raise 0 Ob.enum_flags 0).net.walk = none
    rw [hnet]
  · show smGet [] ((s.closeWalk w).raise 0 Ob.enum_flags 0).enums w.port = w.ids
    rw [raise_enums, hids]
  · exact raise_on (s.closeWalk w) 0 Ob.enum_flags 0 0 not_reportKey_full

theorem idForgotten : Claims.idForgotten := by
  intro s m d h hkey hwo hv
  refine congrArg Host.Outcome.next (corrixFor_write_one h (by simp [hkey]) (by rw [hkey]; decide) ?_)
  rw [writeOne_wo h hwo, hv, hkey]
  rfl

/-! A head's ROUTE (R170) -/

/-- What a head advertises is as it was. -/
structure SameRoute (s t : State) : Prop where
  ports : SamePorts s t
  node  : t.node = s.node
  enums : t.enums = s.enums
  net   : t.net = s.net
  sent  : t.sent = s.sent

theorem sameRoute_refl (s : State) : SameRoute s s := ⟨samePorts_refl s, rfl, rfl, rfl, rfl⟩

theorem sameRoute_ownNodes {s t : State} (h : SameRoute s t) : t.ownNodes = s.ownNodes := by
  unfold State.ownNodes
  rw [h.node, h.enums]
  exact congrArg (fun l : List (Nat × List Nat) => l.foldl (fun m e => e.2.foldl (fun k n => setBit k n) m) _) (List.filter_congr fun e _ => samePorts_feeds h.ports e.1)

theorem sameRoute_queueOwn {s t : State} (h : SameRoute s t) (p : Nat) (c : Cell) : SameRoute s (t.queueOwn p c) where
  ports := samePorts_trans h.ports (samePorts_queueOwn t p c)
  node  := (queueOwn_node t p c).trans h.node
  enums := by rw [queueOwn_rest]; exact h.enums
  net   := by rw [queueOwn_rest]; exact h.net
  sent  := by rw [queueOwn_rest]; exact h.sent

/-- The ROUTE that a head puts on each of its head links. -/
def ownRoute (s : State) (seq : Nat) : Cell := mkCell 2 2 s.nodeOr0 0 (routeBytes s.nodeOr0 seq 0 s.ownNodes)

theorem sameRoute_ownRoute {s t : State} (h : SameRoute s t) (seq : Nat) : ownRoute t seq = ownRoute s seq := by
  have hnode : t.nodeOr0 = s.nodeOr0 := by rw [State.nodeOr0, State.nodeOr0, h.node]
  rw [ownRoute, ownRoute, hnode, sameRoute_ownNodes h]

/-- The ROUTE queued on each port of a list, and on no other. -/
theorem ownRoutes_queued {s : State} (seq : Nat) : ∀ {l : List Nat} {t : State}, l.Nodup → SameRoute s t →
    (∀ p, p ∈ l → ((t.each l fun p s => s.queueOwn p (ownRoute s seq)).port p).own = (t.port p).own ++ [ownRoute s seq]) ∧
    (∀ p, p ∉ l → (t.each l fun p s => s.queueOwn p (ownRoute s seq)).port p = t.port p) ∧ SameRoute s (t.each l fun p s => s.queueOwn p (ownRoute s seq))
  | [], _, _, ht => ⟨fun p hp => absurd hp List.not_mem_nil, fun _ _ => rfl, ht⟩
  | q :: l, t, hl, ht => by
    obtain ⟨hq, hl⟩ := List.nodup_cons.1 hl
    have hcell := sameRoute_ownRoute ht seq
    obtain ⟨hin, hout, hsame⟩ := ownRoutes_queued seq hl (sameRoute_queueOwn ht q (ownRoute t seq))
    have heach : t.each (q :: l) (fun p s => s.queueOwn p (ownRoute s seq)) = (t.queueOwn q (ownRoute t seq)).each l fun p s => s.queueOwn p (ownRoute s seq) := rfl
    rw [heach]
    refine ⟨fun p hp => ?_, fun p hp => ?_, hsame⟩
    · by_cases hpq : p = q
      · rw [hpq, hout q hq, queueOwn_own_same, hcell]
      · rw [hin p ((List.mem_cons.1 hp).resolve_left hpq), queueOwn_own_other _ _ hpq]
    · obtain ⟨hpq, hpl⟩ := not_or.1 fun hor => hp (List.mem_cons.2 hor)
      rw [hout p hpl, queueOwn_port_other _ _ hpq]

/-- A head that has its ID, and IDs in its pool, takes none. -/
theorem headId_settled {s : State} (hnode : s.node.isSome = true) (hpool : s.pw Ob.enum_id_first ≤ s.pw Ob.enum_id_last) : s.headId = s := by
  have hquiet : (s.when (s.isHead && s.pw Ob.enum_id_last < s.pw Ob.enum_id_first) fun s => s.raise 0 Ob.enum_flags 1) = s := if_neg (by simp [Nat.not_lt.2 hpool])
  unfold State.headId
  dsimp only
  rw [hquiet, if_neg (by rw [Option.isNone_eq_false_iff.2 hnode, Bool.and_false]; exact Bool.false_ne_true)]

/-- A head that has noted the ROUTE it now sends. -/
def routeNoted (s : State) : State := { s with net := { s.net with routeSeq := (s.net.routeSeq + 1) % 65536, routeAt := some s.now, routeNodes := s.ownNodes } }

theorem routeSend_due {s : State} (hhead : s.isHead = true) (hnode : s.node.isSome = true) (hpool : s.pw Ob.enum_id_first ≤ s.pw Ob.enum_id_last)
    (hwhen : s.net.routeNodes ≠ s.ownNodes ∨ s.due s.net.routeAt 100000000 = true) :
    s.routeSend = (routeNoted s).each (routeNoted s).headLinks fun p t => t.queueOwn p (ownRoute t ((s.net.routeSeq + 1) % 65536)) := by
  unfold State.routeSend
  rw [headId_settled hnode hpool]
  exact if_pos (by simp [hhead, hwhen])

theorem routeNoted_links (s : State) : (routeNoted s).headLinks = s.headLinks := rfl

theorem routeNoted_cell (s : State) (seq : Nat) : ownRoute (routeNoted s) seq = ownRoute s seq := rfl

theorem routeSent : Claims.routeSent := by
  intro s hup hhead hnode hpool hwhen
  have hexec : exec .routeSend s = .next s.routeSend := congrArg Host.Outcome.next (run_up hup _)
  obtain ⟨hin, hout, hsame⟩ := ownRoutes_queued (s := routeNoted s) ((s.net.routeSeq + 1) % 65536) (l := (routeNoted s).headLinks) ((nodup_portsUp _).filter _) (sameRoute_refl _)
  rw [← routeSend_due hhead hnode hpool hwhen] at hin hout hsame
  rw [routeNoted_cell, routeNoted_links] at hin
  rw [routeNoted_links] at hout
  refine ⟨_, hexec, ?_, ?_, ?_, hin, hout, hsame.sent, hsame.enums⟩
  · rw [hsame.net]; rfl
  · rw [hsame.net]; rfl
  · rw [hsame.net]; rfl

/-! ROUTE received (R170) -/

theorem queueFwd_net (s : State) (q : Nat) (c : Cell) : (s.queueFwd q c).net = s.net := by
  have hdrop : (s.bumpPort q Ob.fwd_drops).net = s.net := by rw [State.bumpPort, bump_rest]
  have hwake : ∀ t : State, (t.autoWake q).net = t.net := fun t => by rw [autoWake_rest]
  unfold State.queueFwd
  split
  · exact hdrop
  · split
    · exact hwake _
    · split
      · exact hdrop
      · exact hwake _

theorem hopTo_net (s : State) (p q : Nat) (c : Cell) (ok : Bool) : (s.hopTo p q c ok).net = s.net := by
  unfold State.hopTo
  split
  · rw [State.bumpPort, bump_rest]
  · exact queueFwd_net s q _

/-- An origin's entry from its first ROUTE. -/
def firstRoute (s : State) (p origin seq hops nodes : Nat) : RouteSt :=
  { origin := origin, link := p, hops := hops, seq := seq, nodes := nodes, lastAt := s.now, heard := [{ link := p, hops := hops, at_ := s.now }], seqs := [(seq, s.now)], held := heldSince s.now nodes [] }

theorem past_now (s : State) {span : Nat} (h : 0 < span) : s.past s.now span = false := decide_eq_false (by omega)

/-- An origin heard on one link in the last 350 ms is reached by it. -/
theorem freshRoute_one (s : State) {r : RouteSt} {h : Heard} (hone : r.heard.filter (fun h => !(s.past h.at_ 350000000)) = [h]) :
    s.freshRoute r = { r with heard := [h], link := h.link, hops := h.hops } := by
  unfold State.freshRoute
  rw [hone]
  rfl

theorem firstRoute_heard (s : State) (p origin seq hops nodes : Nat) :
    (firstRoute s p origin seq hops nodes).heard.filter (fun h => !(s.past h.at_ 350000000)) = [{ link := p, hops := hops, at_ := s.now }] := by
  rw [firstRoute, List.filter_cons, past_now s (by decide)]
  rfl

/-- The link that was just heard is the one in force. -/
theorem freshRoute_first (s : State) (p origin seq hops nodes : Nat) : s.freshRoute (firstRoute s p origin seq hops nodes) = firstRoute s p origin seq hops nodes :=
  freshRoute_one s (firstRoute_heard s p origin seq hops nodes)

/-- A ROUTE of an origin not known yet joins the routes. -/
theorem routeIn_first {s : State} {p : Nat} {c : Cell} (hnew : ∀ r, r ∈ s.net.routes → r.origin ≠ leAt c.payload 0 2) (hother : s.node ≠ some (leAt c.payload 0 2)) :
    (s.routeIn p c).net.routes = s.net.routes ++ [firstRoute s p (leAt c.payload 0 2) (leAt c.payload 2 2) (leAt c.payload 4 1) (leAt c.payload 8 128)] := by
  have hnone : s.net.routes.find? (fun r => r.origin = leAt c.payload 0 2) = none := List.find?_eq_none.2 fun r hr => by simpa using hnew r hr
  have hall : s.net.routes.filter (fun r : RouteSt => r.origin ≠ leAt c.payload 0 2) = s.net.routes := List.filter_eq_self.2 fun r hr => by simpa using hnew r hr
  unfold State.routeIn
  extract_lets origin seq hops nodes old seen first fresh base taken new net s1
  rw [if_neg hother]
  have hold : old = none := hnone
  have hseen : seen = [] := by
    show (old.map _).getD [] = []
    rw [hold]
    rfl
  have hfirst : first = true := by
    show (!(seen.any _)) = true
    rw [hseen]
    rfl
  have hfresh : fresh = true := by
    show (first && _) = true
    rw [hfirst, hold]
    rfl
  have hbase : base = { origin := origin, link := p, hops := hops, seq := seq, nodes := nodes, lastAt := s.now } := by
    show old.getD _ = _
    rw [hold]
    rfl
  have htaken : taken = { base with seq := seq, nodes := nodes, held := heldSince s.now nodes base.held } := if_pos hfresh
  have hentry : new = firstRoute s p origin seq hops nodes := by
    show s.freshRoute { taken with lastAt := s.now, seqs := (seen.filter fun e => e.1 ≠ seq) ++ [(seq, s.now)],
                                   heard := (taken.heard.filter fun h => !(h.link = p && h.hops = hops)) ++ [{ link := p, hops := hops, at_ := s.now }] } = _
    rw [htaken, hbase, hseen]
    exact freshRoute_first s p origin seq hops nodes
  have hroutes : s1.net.routes = s.net.routes ++ [firstRoute s p origin seq hops nodes] := by
    show (s.net.routes.filter fun r : RouteSt => r.origin ≠ origin) ++ [new] = _
    rw [hentry, hall]
  split
  · exact each_of (P := fun t => t.net.routes = _) _ _ (fun q t ht => by rw [hopTo_net]; exact ht) hroutes
  · exact hroutes

theorem routeKept : Claims.routeKept := by
  intro s p c hat hcls hkind hhead hrole
  have hmine : s.passes c = false := by simp only [State.passes, hcls, hkind]
  have hahead := (arrives_isHead s p).trans hhead
  have hhere : (s.cellArrives p).offChain p = false := by rw [State.offChain, hahead]; rfl
  have hroute : (s.cellArrives p).consume p c = (s.cellArrives p).routeIn p c := by
    simp only [State.consume, hcls, hkind]
    rw [State.routeCell, if_neg (by rw [hhere]; exact Bool.false_ne_true), if_pos (by simp [hahead, arrives_role, hrole])]
  have hrow := cellRow_consumed hat (by rw [hcls]; decide) hmine (named := c.cls = 2 && c.kind = 2) (by simp [hcls, hkind])
  rw [hroute] at hrow
  have hexec : exec (.route p c) s = .next (((s.cellArrives p).routeIn p c).spent p) := congrArg Host.Outcome.next hrow
  have hnet := arrives_net s p
  have hnow : (s.cellArrives p).now = s.now := by rw [cellArrives_rest]
  refine ⟨fun hnew hother => ⟨_, hexec, ?_⟩, fun hown => ?_⟩
  · have hroutes := routeIn_first (s := s.cellArrives p) (p := p) (c := c) (by rw [hnet]; exact hnew) (by rw [arrives_node]; exact hother)
    have hkept : (((s.cellArrives p).routeIn p c).spent p).net.routes = s.net.routes ++ [firstRoute (s.cellArrives p) p (leAt c.payload 0 2) (leAt c.payload 2 2) (leAt c.payload 4 1) (leAt c.payload 8 128)] := by
      rw [spent_rest, ← hnet]
      exact hroutes
    rw [hkept]
    exact ⟨⟨_, List.mem_append_right _ (List.mem_singleton_self _), rfl, rfl, rfl, rfl, rfl, hnow⟩, fun r hr => List.mem_append_left _ hr⟩
  · rw [hexec, State.routeIn, if_pos (by rw [arrives_node]; exact hown)]

/-! Routes that expire (R170), IDs in conflict (R171) -/

theorem freshRoute_shows (s : State) (r : RouteSt) : (s.freshRoute r).origin = r.origin ∧ (s.freshRoute r).heard = r.heard.filter fun h => !(s.past h.at_ 350000000) := by
  unfold State.freshRoute
  dsimp only
  split <;> exact ⟨rfl, rfl⟩

theorem routesExpire : Claims.routesExpire := by
  intro s hup
  have hexec : exec .routeExpiry s = .next s.routeExpiry := congrArg Host.Outcome.next (run_up hup _)
  have hroutes : s.routeExpiry.net.routes = (s.net.routes.filter fun r => !(s.past r.lastAt 350000000)).map s.freshRoute := rfl
  refine ⟨_, hexec, ?_, fun r hr h hh => ?_, rfl⟩
  · have horigin : (fun r : RouteSt => r.origin) ∘ s.freshRoute = fun r => r.origin := funext fun r => (freshRoute_shows s r).1
    rw [hroutes, List.map_map, horigin]
    exact congrArg (List.map _) (List.filter_congr fun r _ => by rw [State.past, ← decide_not]; exact decide_eq_decide.2 Nat.not_le)
  · rw [hroutes] at hr
    obtain ⟨r0, -, rfl⟩ := List.mem_map.1 hr
    rw [(freshRoute_shows s r0).2] at hh
    simpa [State.past] using (List.mem_filter.1 hh).2

theorem conflictFlags : Claims.conflictFlags := by
  intro s hup hhead
  have hexec : exec .idConflict s = .next s.idConflict := congrArg Host.Outcome.next (run_up hup _)
  rw [hexec, State.idConflict]
  refine ⟨fun hheld => ?_, fun hyoung => ?_⟩
  · obtain ⟨r, hr, e, he, hage, hbits⟩ := hheld
    have hconflict : s.conflicting = true := List.any_eq_true.2 ⟨r, hr, List.any_eq_true.2 ⟨e, he, by simp [State.past, hage, hbits]⟩⟩
    obtain ⟨hrest, hobjs⟩ := raise_plain s 0 Ob.enum_flags 2 0 rfl
    exact ⟨_, congrArg Host.Outcome.next (if_pos (by rw [hhead, hconflict]; rfl)), raise_on s 0 Ob.enum_flags 2 0 not_reportKey_full, objsBut_mono hobjs fun k hk => by simpa [fullKey] using hk, hrest⟩
  · have hconflict : s.conflicting = false := List.any_eq_false.2 fun r hr => by
      refine Bool.eq_false_iff.1 (List.any_eq_false.2 fun e he hboth => ?_)
      obtain ⟨hpast, hbits⟩ := Bool.and_eq_true_iff.1 hboth
      exact absurd (of_decide_eq_true hpast) (Nat.not_le.2 (hyoung r hr e he (of_decide_eq_true hbits)))
    exact congrArg Host.Outcome.next (if_neg (by rw [hconflict, Bool.and_false]; exact Bool.false_ne_true))

/-- Settles O23: enum_start and its repeats, the timeout, the ID to drop, and the routes sent, kept, dropped and in conflict. -/
theorem enumerationsAndRoutesAreKept : Obligations.EnumerationsAndRoutesAreKept :=
  ⟨enumStarts, enumRepeats, enumTimesOut, idForgotten, routeSent, routeKept, routesExpire, conflictFlags⟩

end Sys2Proof.Proofs
end

section
/-! A late start whose LAT width is read from a profile that is none: what the claim on late starts leaves out (R198, R300). -/

namespace Sys2Proof.Proofs

open Sys2Proof.Machine Sys2Proof.Laws

/-- Is an output the VSYNC command of a group? -/
def isVsync : Output → Bool
  | .latch _ _ vsync _ _ => vsync
  | _ => false

/-- Group 0 of die 1 waits for a view-frame that is ready, as its firmware runs. Its rg_profile reads 0xC021, which no profile of R300 has: what stands for the profile, a frame memory among its settings,
lies at the place of late_starts of die 1. -/
@[irreducible] def countedProfile : { s : State // UpDie s 1 ∧ ((s.gst 1 0).mode = 4 ∧ (s.gst 1 0).sr = false ∧ s.readyAt 1 0 (s.gst 1 0).at_ = some 1 ∧ s.rxFailed (s.gst 1 0).at_ = false) ∧
    (s.fwOn 1 = true ∧ (s.gst 1 0).proves = false ∧ max (s.gst 1 0).carry (1 - (s.gst 1 0).at_).toNat = 1 ∧ s.groupStopped 1 0 = false ∧ s.reachedOn 1 ((s.gst 1 0).at_ + (1 : Nat)) = true) ∧
    (s.cfgFor 1 (s.gst 1 0).at_).frameMem 1 0 = true ∧ (s.lateStartIn 1 0).sent.any isVsync = false } :=
  ⟨{ boot := { held := false }, fw := 2, lay := { fine := 4294967296 }, tile := { dies := [(1, { groups := [(0, { mode := 4, ready := some (0, 1) })] })] },
     objs := [(Ob.dies_alive, .num 2), (fullKey 1 Ob.late_starts, .blob true [(3, 1)]), (fullKey 1 Ob.rg_profile, .num 0xC021)] }, by unfold UpDie Up; decide +kernel⟩

/-- Refutes O26: on a die whose rg_profile reads past the profiles of R300, the profile read for the latch command is another object, late_starts, and the late start itself counts it; the claim gives the
command that the profile gave before. The claim has no premise on rg_profile, whose own writes keep it at 0 to 7 or 255: no such value comes from a write. -/
theorem not_viewFramesAreCorrectedAndLaunched : ¬ Obligations.ViewFramesAreCorrectedAndLaunched := by
  unfold Obligations.ViewFramesAreCorrectedAndLaunched Claims.lateStarts
  rintro ⟨-, -, -, -, hlate, -⟩
  obtain ⟨s, hup, ⟨hmode, hsr, hready, hfailed⟩, ⟨hfw, hproves, hlag, hstopped, hreached⟩, hmem, hnone⟩ := countedProfile
  obtain ⟨hstarts, -⟩ := hlate s 1 0 1 1 hup (by decide) hmode hsr hready hfailed hfw hproves hlag.symm hstopped
  obtain ⟨t, hexec, -, -, -, -, -, -, -, -, -, -, hlatch⟩ := hstarts hreached (by decide)
  have hrow : exec (.lateStart 1 0) s = .next (s.lateStartIn 1 0) := congrArg Host.Outcome.next (onDie_upDie hup _)
  injection hrow.symm.trans hexec with ht
  rw [← ht, hmem] at hlatch
  exact List.any_eq_false.1 hnone _ hlatch rfl

end Sys2Proof.Proofs
end

section
/-! The end of a vote (R66, R430): a refusal for want of journal space is reported, and its report can send another one out. -/

namespace Sys2Proof.Proofs

open Sys2Proof.Machine Sys2Proof.Laws

/-- A knot table that is full (R175): 128 reports of SEVERITY 2. -/
def fullKnots : List Knot :=
  (List.range 128).map fun n => { code := n, subject := 0, detail := 0, severity := 2, window := 0, count := 1, firstNode := 0, firstAt := 0, lastAt := 0, nodes := 0 }

/-- A head that is its own knot sink, with a full knot table, no room for the journal records of a commit, and a vote that no PREPARE waits for. -/
@[irreducible] def shortPart : State :=
  ({ boot := { held := false }, fw := 1, knots := fullKnots, corrix := { vote := some { id := 1, waiting := [], startAt := 0, late := [] } } } : State).set Ob.role_active 1

/-- Die 0, the only one alive, runs its firmware and votes against the commit, which no PREPARE waits for; and the end of the vote puts out FAULT_N: the report of REFUSED takes the place of the
oldest knot, which the sink delivers (R175, R179, R430). -/
theorem shortPart_votes : (shortPart.boot.held = false ∧ shortPart.boot.scan = false) ∧ shortPart.corrix.vote = some { id := 1, waiting := [], startAt := 0, late := [] } ∧ shortPart.silentDies = [] ∧
    0 ∈ shortPart.aliveList ∧ shortPart.voteOf 0 ≠ [] ∧ shortPart.voteComplete.sent ≠ shortPart.sent := by decide +kernel

/-- Refutes O7: with a vote against and no PREPARE waiting the claim has nothing go out, but a vote against for want of journal space is reported, and with the knot table full the sink delivers
another report and drives FAULT_N. -/
theorem not_votesEndAndCommitsApply : ¬ Obligations.VotesEndAndCommitsApply := by
  unfold Obligations.VotesEndAndCommitsApply Claims.voteEnds
  rintro ⟨hends, -, -⟩
  obtain ⟨hup, hvote, hrun, hdie, hvotes, hsent⟩ := shortPart_votes
  obtain ⟨t, hexec, -, -, -, hagainst⟩ := hends shortPart { id := 1, waiting := [], startAt := 0, late := [] } hup hvote hrun
  obtain ⟨-, ⟨hquiet, -⟩, -⟩ := hagainst ⟨0, hdie, hvotes⟩
  have hstep : exec .voteComplete shortPart = .next shortPart.voteComplete := by simp [exec, execVoteComplete, State.run, hup.1, hup.2]
  injection hstep.symm.trans hexec with hstate
  exact hsent (hstate ▸ hquiet rfl)

end Sys2Proof.Proofs
end
